-- ==== Sys2Proof/Word.lean ====
section
/-! DEFINITION. The word types of the device and their plainest arithmetic. Bit 0 is the least significant bit (R13). -/
namespace Sys2Proof

/-- A byte (R14). -/
abbrev Byte := BitVec 8

/-- A 32-bit register or word. -/
abbrev Word := BitVec 32

/-- A 64-bit register or word (R21). -/
abbrev DWord := BitVec 64

/-- A 64-bit air-time stamp (R57): frame count in [63:25], Tc within the frame in [24:0]. -/
abbrev Stamp := BitVec 64

/-- A 64-byte command: byte `i` is bits `[8i+7:8i]` (R14, R259). -/
abbrev Cmd := BitVec 512

/-- Sparse table of numbered parts: an unlisted number holds the part's default. -/
abbrev Tab (α : Type) := List (Nat × α)

/-- One NR frame in Tc (R57). -/
abbrev frameTc : Nat := 19660800

/-- One second of air time in Tc. -/
abbrev secondTc : Nat := 1966080000

end Sys2Proof
end

