-- ==== Sys2Proof/Machine/Bits.lean ====
section
/-! DEFINITION. Bit fields, byte order, sparse tables, and the mixing and check functions that several chapters share
(R13, R14, R15, R64, R229). -/
namespace Sys2Proof

/-- What table `t` holds for number `k`, if it is listed. -/
def Tab.find {α : Type} (t : Tab α) (k : Nat) : Option α :=
  match t with
  | [] => none
  | (a, v) :: r => if a = k then some v else Tab.find r k

/-- What table `t` holds for number `k`, an unlisted number holding `d`. -/
def Tab.get {α : Type} (t : Tab α) (d : α) (k : Nat) : α := (t.find k).getD d

/-- `t` with number `k` holding `v`; numbers rise. -/
def Tab.set {α : Type} (t : Tab α) (k : Nat) (v : α) : Tab α :=
  match t with
  | [] => [(k, v)]
  | (a, w) :: r => if k < a then (k, v) :: (a, w) :: r else if k = a then (k, v) :: r else (a, w) :: Tab.set r k v

/-- `t` without number `k`. -/
def Tab.del {α : Type} (t : Tab α) (k : Nat) : Tab α := t.filter (fun p => p.1 != k)

/-- `t` with what number `k` holds changed by `f`. -/
def Tab.upd {α : Type} (t : Tab α) (d : α) (k : Nat) (f : α → α) : Tab α := t.set k (f (t.get d k))

/-- The values listed. -/
def Tab.vals {α : Type} (t : Tab α) : List α := t.map (·.2)

/-- Element `k` of a list changed by `f`. -/
def modNth {α : Type} (l : List α) (k : Nat) (f : α → α) : List α :=
  match l, k with
  | [], _ => []
  | x :: r, 0 => f x :: r
  | x :: r, k + 1 => x :: modNth r k f

/-- First index of `l` whose element satisfies `p`. -/
def indexOf {α : Type} (l : List α) (p : α → Bool) : Option Nat :=
  match l with
  | [] => none
  | x :: r => if p x then some 0 else (indexOf r p).map (· + 1)

/-- The least of `l` by the key `f`, the first among equals. -/
def leastBy {α : Type} (l : List α) (f : α → Nat) : Option α :=
  match l with
  | [] => none
  | x :: r => match leastBy r f with
    | none => some x
    | some y => if f y < f x then some y else some x

namespace Machine

/-- Bits `[lo + len - 1 : lo]` of a word, as a number (R13). -/
def bits {n : Nat} (w : BitVec n) (lo len : Nat) : Nat := (w.toNat >>> lo) % 2 ^ len

/-- Bit `i` of a word. -/
def bit {n : Nat} (w : BitVec n) (i : Nat) : Bool := w.toNat.testBit i

/-- `w` with bits `[lo + len - 1 : lo]` replaced by `v`. -/
def putBits {n : Nat} (w : BitVec n) (lo len v : Nat) : BitVec n :=
  let m : BitVec n := BitVec.ofNat n ((2 ^ len - 1) <<< lo)
  (w &&& ~~~m) ||| (BitVec.ofNat n ((v % 2 ^ len) <<< lo))

/-- Bytes `i` to `i + len - 1` of a 64-byte command, least significant first (R14, R259). -/
def cmdField (w : Cmd) (i len : Nat) : Nat := bits w (8 * i) (8 * len)

/-- A `len`-bit field read as two's complement (R15). -/
def signed (len v : Nat) : Int := if v < 2 ^ (len - 1) then (v : Int) else (v : Int) - (2 ^ len : Nat)

/-- The `len`-bit two's complement field of an integer (R15). -/
def unsigned (len : Nat) (v : Int) : Nat := (v % (2 ^ len : Nat)).toNat

/-- A number as `n` bytes, least significant first (R14). -/
def leBytes (n v : Nat) : List Byte :=
  match n with
  | 0 => []
  | n + 1 => BitVec.ofNat 8 v :: leBytes n (v / 256)

/-- The number that bytes spell, least significant first (R14). -/
def leNat (l : List Byte) : Nat :=
  match l with
  | [] => 0
  | b :: r => b.toNat + 256 * leNat r

/-- Bytes `i` to `i + len - 1` of a byte list, least significant first; bytes beyond the end count as zero. -/
def byteField (l : List Byte) (i len : Nat) : Nat := leNat ((l.drop i).take len)

/-- The command that 64 bytes spell. -/
def bytesCmd (l : List Byte) : Cmd := BitVec.ofNat 512 (leNat (l.take 64))

/-- Ceiling division. -/
def ceilDiv (a b : Nat) : Nat := (a + b - 1) / b

/-- A count held at `m` at most. -/
def satAdd (m a b : Nat) : Nat := min m (a + b)

/-- `n` bits of a list of flags, flag `i` in bit `i`. -/
def packBits (l : List Bool) : Nat :=
  match l with
  | [] => 0
  | b :: r => b.toNat + 2 * packBits r

/-- Fields from the least significant up, as (width, value). -/
def packFields (l : List (Nat × Nat)) : Nat :=
  match l with
  | [] => 0
  | (w, v) :: r => v % 2 ^ w + 2 ^ w * packFields r

/-- The mixing function of stochastic rounding (R229), one of its two rounds. -/
def mixRound (x : DWord) : DWord :=
  let x := x + 0x9E3779B97F4A7C15#64
  let x := (x ^^^ (x >>> 30)) * 0xBF58476D1CE4E5B9#64
  let x := (x ^^^ (x >>> 27)) * 0x94D049BB133111EB#64
  x ^^^ (x >>> 31)

/-- `mix(seed, ctr)` (R229). -/
def mix (seed ctr : DWord) : DWord := mixRound (mixRound (ctr ^^^ seed))

/-- The 24-bit random value u: bits [63:40] of mix (R229). -/
def mixU (seed : DWord) (ctr : Nat) : Nat := bits (mix seed (BitVec.ofNat 64 ctr)) 40 24

/-- One bit step of a most-significant-first CRC of width 16. -/
def crc16Bit (c : BitVec 16) : BitVec 16 := if bit c 15 then (c <<< 1) ^^^ 0x1021#16 else c <<< 1

/-- CRC-16/CCITT-FALSE over bytes: polynomial 0x1021, initial value 0xFFFF (R64). -/
def crc16 (l : List Byte) : BitVec 16 :=
  l.foldl (fun c b =>
    let c := c ^^^ (BitVec.ofNat 16 (b.toNat <<< 8))
    crc16Bit (crc16Bit (crc16Bit (crc16Bit (crc16Bit (crc16Bit (crc16Bit (crc16Bit c)))))))) 0xFFFF#16

/-- One bit step of the reflected CRC-32. -/
def crc32Bit (c : Word) : Word := if bit c 0 then (c >>> 1) ^^^ 0xEDB88320#32 else c >>> 1

/-- CRC-32 (IEEE 802.3) over bytes. -/
def crc32 (l : List Byte) : Word :=
  ~~~ (l.foldl (fun c b =>
    let c := c ^^^ (BitVec.ofNat 32 b.toNat)
    crc32Bit (crc32Bit (crc32Bit (crc32Bit (crc32Bit (crc32Bit (crc32Bit (crc32Bit c)))))))) 0xFFFFFFFF#32)

/-- Integer square root by bits, from bit `n` down. -/
def sqrtGo (v : Nat) (n acc : Nat) : Nat :=
  match n with
  | 0 => acc
  | n + 1 => let t := acc + 2 ^ n
    sqrtGo v n (if t * t ≤ v then t else acc)

/-- The largest integer whose square is at most `v`. -/
def natSqrt (v : Nat) : Nat := sqrtGo v (v.log2 / 2 + 1) 0

end Machine
end Sys2Proof
end

