-- ==== Sys2Proof/Machine/StTime.lean ====
section
/-! DEFINITION. State of the time unit, the launch comparators and the launch groups (spec/02_air_time.md). -/
namespace Sys2Proof.Machine

/-- States of the time unit (R72). -/
inductive TuState where
  | freerun | locked | holdover | lost
  deriving DecidableEq, Repr

/-- What the time unit keeps for one source: PPS, PTP or BCN (R62, R63, R100). -/
structure SrcState where
  /-- Qualified, `TIM_STATUS.QUAL` (R62). -/
  qual : Bool := false
  /-- Disqualified by offset, `TIM_STATUS.DISQ_OFS` (R73). -/
  disq : Bool := false
  /-- Consecutive valid pulses, Sync intervals or beacons (R62). -/
  run : Nat := 0
  /-- Consecutive missing or invalid pulses (R63). -/
  miss : Nat := 0
  /-- Counter, whole Tc, at which the source last qualified (the 16 s hold-off of R62). -/
  since : Nat := 0
  /-- Last measured phase, counter minus source, in 1/64 Tc (R97). -/
  ofs : Int := 0
  deriving DecidableEq, Repr

/-- A port's PTP exchange (R66): master known, its rank under the alternate BMCA, and the last timestamps in 1/64 Tc. -/
structure PtpPort where
  announced : Bool := false
  rank : Nat := 0
  t1 : Int := 0
  t2 : Int := 0
  t3 : Int := 0
  delay : Int := 0
  /-- QL of the last ESMC frame, 16 when none has come. -/
  ql : Nat := 16
  /-- Master and local time of the last Sync. -/
  last : Option (Int × Int) := none
  deriving DecidableEq, Repr

/-- The time unit (R57 to R78). -/
structure TimeUnit where
  /-- Whole Tc of the air-time counter since the epoch, `TIM_FRAME_OFS` included (R57, R61). -/
  tc : Nat
  /-- Fraction below one Tc, in units of 2^-32 Tc (the synthesiser's 32 bits of fraction). -/
  frac : Nat
  /-- Remainder of the rate division carried from one hub cycle to the next. -/
  resid : Nat
  /-- Hub cycles since the machine started. -/
  hub : Nat
  /-- State, `TIM_STATUS.STATE` (R72). -/
  st : TuState
  /-- Selected or last source: 0 none yet, 1 PPS, 2 PTP, 3 BCN (R100). -/
  src : Nat
  pps : SrcState
  ptp : SrcState
  bcn : SrcState
  /-- `TIM_OFFSET`, counter minus source, 1/64 Tc (R97). -/
  offset : Int
  /-- `TIM_FREQ`, the rate correction in force, ppb (R97, R784). -/
  freq : Int
  /-- Phase still to be removed by slewing, in 2^-32 Tc (R76). -/
  slew : Int
  /-- GPS second named by the valid time-of-day message waiting for its pulse (R64). -/
  tod : Option Nat
  /-- Second that the counter expects the next pulse to mark, once set (R64). -/
  expSec : Option Nat
  /-- Counter, whole Tc, at the last active edge on PPS_IN (R63, R64). -/
  ppsLast : Option Nat
  /-- Selected PTP port, `TIM_STATUS.PTP_PORT` (R66). -/
  ptpPort : Nat
  /-- Is the selected port in the slave state (R62)? -/
  ptpSlave : Bool
  ptpPorts : Tab PtpPort
  /-- Frequency taken from SyncE, `TIM_STATUS.SYNCE` (R68). -/
  synce : Bool
  /-- Beacons from SRC1, `TIM_STATUS.BCN_SRC1` (R69). -/
  bcn1 : Bool
  /-- Counter, whole Tc, at the last beacon of SRC0 and of the source in use (R69). -/
  bcnLast0 : Nat
  bcnLast : Nat
  /-- Consecutive beacons of SRC0 received while on SRC1 within the lock threshold, and since when (R69, R62). -/
  bcn0Since : Option Nat
  /-- Beacons of the period, by plane: the source's t0 and the local arrival r, 1/64 Tc (R570). -/
  bcnRx : Tab (Int × Int)
  /-- Local send time of the echo in flight, by plane, 1/64 Tc (R570). -/
  echoT1 : Tab Int
  /-- Magnitude of the offset at the loss, 1/64 Tc, and the counter at the loss (R74). -/
  holdOfs : Nat
  holdAt : Nat
  /-- Has the unit ever locked (R72, R86)? -/
  everLocked : Bool
  /-- Local counter of the clusters and Kudu engines minus the hub's, 2^-32 Tc (R79; corrected every 1,024 Tc). -/
  drift : Int
  /-- Counter, whole Tc, at the last correction of the local copies. -/
  correctedAt : Nat
  /-- Is the 1PPS output pulse of this second already driven (R769)? Last GPS second pulsed. -/
  ppsOutSec : Option Nat
  deriving DecidableEq, Repr

/-- A launch comparator that is taken (R83). Launch point 0 to 47 is a cluster, 48 + g the Kudu engine of region g. -/
structure Cmp where
  pt : Nat
  idx : Nat
  stamp : Stamp
  /-- Unit code of the target (R26). -/
  unit : Nat
  ctx : Nat
  list : DWord
  /-- Armed list, or the current command of a running list (R83). -/
  armed : Bool
  /-- Late policy: 0 RUN, 1 SKIP, 2 FAIL (R85). -/
  late : Nat
  group : Option Nat
  /-- Matched, late, and waiting for its unit or its window with RUN (R85, R120). -/
  waiting : Bool
  deriving DecidableEq, Repr

/-- States of a launch group (R90, R109). -/
inductive GrpState where
  | free | arming | ready | committed | aborted | orphaned
  deriving DecidableEq, Repr

/-- One member device of an owner group, and what it has reported (R90, R94). -/
structure GMember where
  /-- Group index that the member joined from. -/
  idx : Nat
  node : Nat
  joined : Bool
  ready : Bool
  gone : Bool
  deriving DecidableEq, Repr

/-- A launch group (R89 to R95). -/
structure Group where
  st : GrpState := .free
  owner : Bool := false
  /-- Owner node and the owner's group index, for a member. -/
  ownerNode : Nat := 0
  ownerIdx : Nat := 0
  stamp : Stamp := 0
  lead : Nat := 0
  /-- Local participants declared, armed, and launched or freed. -/
  count : Nat := 0
  armed : Nat := 0
  done : Nat := 0
  members : List GMember := []
  /-- Context that created it, for the notice of R91. -/
  ctx : Nat := 0
  deriving DecidableEq, Repr

end Sys2Proof.Machine
end

