-- ==== Sys2Proof/Machine/StSched.lean ====
section
/-! DEFINITION. State of the regions' sequencers, the clusters, the contexts, the units, their command lists and the buffer-handle queues
(spec/03_cyclic_table.md, spec/06_command_lists.md). -/
namespace Sys2Proof.Machine

/-- States of an enableable function (R607). -/
inductive EState where
  | off | starting | on | stopping
  deriving DecidableEq, Repr

/-- The common state machine (R607): the state, and whether the opposite request is latched. -/
structure Enable where
  st : EState := .off
  pend : Bool := false
  deriving DecidableEq, Repr

/-- A buffer handle (R284). `visible` says that it has reached its consumer's queue head logic (R288). -/
structure Handle where
  base : Nat
  len : Nat
  partialMark : Bool
  ahead : Bool
  visSet : Bool
  owner : Nat
  list : DWord
  vis : Stamp
  visible : Bool
  deriving DecidableEq, Repr

/-- Where the record of a list or command goes (R598): no record, or queue pair `q` of function `fn` with the generation and the SQ
entry of the submission (0xFFFF when none is reported), and the submission's ordinal on its SQ (R647). -/
inductive Report where
  | none
  | cq (fn q slot gen ord : Nat)
  deriving DecidableEq, Repr

/-- A command list known to the hub: queued, armed or running (R249 to R255). -/
structure ListRec where
  id : DWord
  ctx : Nat
  /-- Engine class 0 to 5 (R248). -/
  cls : Nat
  /-- Unit index within the class, 255 for ANY (R254). -/
  unit : Nat
  count : Nat
  grain : Nat
  noRestart : Bool
  deadline : Bool
  part : Nat
  /-- Address reference of its first command (R253, R264). -/
  addr : DWord
  /-- Submission number: lists start in submission order (R250). -/
  seq : Nat
  report : Report
  /-- Successive stops of this grain (R128). -/
  reruns : Nat
  /-- Late commands so far, the first late status and the first late command (R597). -/
  lateCnt : Nat
  lateCode : Nat
  lateCmd : Nat
  /-- Built by the device itself for an inference step or for radio work: writes no record (R598). -/
  own : Bool
  deriving DecidableEq, Repr

/-- What the current command of a running list waits for (R257, R287, R258, R288, R290). -/
inductive Stage where
  /-- Its turn has come: its checks passed and its first read may begin. -/
  | ready
  /-- A stamped command that holds its comparator (R83). -/
  | stamped
  /-- WAIT: holds for the head of its handle queue (R287). -/
  | onHandle
  /-- FENCE: the array is held (R290). -/
  | onFence
  /-- Passed to the hub: holds for the acknowledgement (R258). -/
  | onService
  /-- In progress: a stream, a run, or a transfer. -/
  | busy
  /-- Done but for its output handle, which waits for an entry (R288). -/
  | releasing
  deriving DecidableEq, Repr

/-- A list running on a unit (R27, R256, R257). -/
structure Running where
  list : ListRec
  /-- Index of the current command; 0 is the header. -/
  idx : Nat
  /-- The fetcher's commands, the current one first, up to 16 (R256). -/
  buf : List Cmd
  stage : Stage
  /-- Handle taken by the current command under WAIT (R287). -/
  taken : Option Handle
  /-- Handles taken so far by the list with their queues: a stopped grain returns them to the heads (log entry 10). -/
  handles : List (Nat × Handle)
  /-- Output handles still to be released by the current command, with their context and queue (R288). -/
  out : List (Nat × Nat × Handle)
  /-- Status with which the list will end, once a command has failed or the last has completed. -/
  ending : Option Nat
  /-- DETAIL bytes 16 to 27 of its LIST record (R597, R564). -/
  detail : BitVec 96
  /-- Counter at the start, and scaled length (R125, R129). -/
  start : Nat
  scaled : Nat
  /-- Already counted as an overrun (R129). -/
  overran : Bool
  deriving DecidableEq, Repr

/-- One unit: what it runs, and whether it is in service (R27, R609). -/
structure UnitSt where
  run : Option Running := none
  en : Enable := { st := .on, pend := false }
  deriving DecidableEq, Repr

/-- Format of an activation block: live columns, signed cells, KBF8 column exponents (R174, R212, R213). -/
structure BlkFmt where
  n : Nat := 0
  isSigned : Bool := true
  kbf : Bool := false
  deriving DecidableEq, Repr

/-- States of a context (R133). -/
inductive CtxState where
  | running | ready | blocked | swapOut | swapIn | swappedReady | swappedBlocked
  deriving DecidableEq, Repr

/-- A context record (R131 to R143, R249, R286). -/
structure Ctx where
  id : Nat
  radio : Bool
  /-- Radio group, or the tenant's VF index. -/
  owner : Nat
  /-- Cell whose function a radio context is. -/
  cell : Nat
  cluster : Nat
  slot : Nat
  st : CtxState
  /-- Footprint in 64 KiB units, and its first unit in the cluster while resident. -/
  footprint : Nat
  poolBase : Nat
  /-- Cluster to which it is pinned (R135), and the region that alone may hold it when it is a shard (R308). -/
  pin : Option Nat
  only : Option Nat
  /-- Units it requires: [0] matrix, [1] signal, [2] vector, [3] move (R282). -/
  need : Nat
  /-- Counter, whole Tc, at which it entered BLOCKED, and SWAPPED_READY (R134, R139). -/
  blockedSince : Nat
  readySince : Nat
  /-- Lists queued, in submission order, all classes together (R249). -/
  queue : List ListRec
  /-- Eight handle queues of up to 32 handles (R286). -/
  hq : Tab (List Handle)
  /-- Activation blocks kept in the save area, for array 0 and array 1 of the cluster (R787). -/
  saved0 : Option BlkFmt
  saved1 : Option BlkFmt
  /-- LIST_IDs cancelled, for the COPY commands that fetch ahead for them (R291). -/
  cut : List DWord
  /-- CTX_END accepted, or ended by its VF's stop (R282, R612). -/
  ending : Bool
  /-- Paused, or a pause pending (R635). -/
  paused : Bool
  pausing : Bool
  /-- Has been resident (its footprint reads as zero when first placed, R137). -/
  placed : Bool
  /-- The radio service has submitted work to it on its own behalf (R261, R141). -/
  radioWork : Bool
  /-- Model slot whose shard it is, when it was made by MODEL_LOAD. -/
  shard : Option Nat
  /-- Generation of its VF at creation. -/
  gen : Nat
  deriving DecidableEq, Repr

/-- A region's sequencer: the window in force and what it has yet to finish (R118 to R130). -/
structure Region where
  /-- Current entry; in a gap, the last entry before it (R148). -/
  entry : Nat := 0
  gap : Bool := true
  /-- Maintenance entry active in the current period (R117). -/
  active : Bool := false
  /-- Class and owner in force (R123). -/
  cls : Nat := 0
  owner : Nat := 0
  /-- Counter, whole Tc, at which the window in force opened. -/
  opened : Nat := 0
  /-- Close from which a radio overrun in progress is measured (R121). -/
  overrun : Option Nat := none
  /-- The arrays' blocks stand in the spill areas (R130). -/
  spilled : Bool := false
  /-- Last closing point whose hard-stop point has been taken (R126). -/
  stopped : Nat := 0
  deriving DecidableEq, Repr

/-- A swap in progress on a cluster (R142, R143). -/
structure Swap where
  out : Option Nat
  inn : Option Nat
  /-- Carried by the hub's migration engine in place of the move engine (R143). -/
  byHub : Bool := false
  /-- SWAP_DEFER has been set for it (R142). -/
  flagged : Bool := false
  deriving DecidableEq, Repr

/-- A cluster's swap logic (R139 to R143). -/
structure Cluster where
  swap : Option Swap := none
  /-- A swap chosen that waits for a window, already flagged SWAP_DEFER (R142). -/
  deferred : Option Swap := none
  deriving DecidableEq, Repr

/-- Budgets of a region's 1 µs bandwidth window (R293, R294). -/
structure Band where
  rd : Nat := 0
  wr : Nat := 0
  rm : Nat := 0
  /-- Traffic that waited for the next window, already counted in this one. -/
  rdFull : Bool := false
  wrFull : Bool := false
  rmFull : Bool := false
  deriving DecidableEq, Repr

/-- A GROUP_JOIN that awaits the owner's answer (R94): the owner and its index, the local count, the context, the unit whose list holds it,
and where a submission's record goes. -/
structure Join where
  node : Nat
  idx : Nat
  count : Nat
  ctx : Nat
  stamp : Stamp
  unit : Option Nat
  report : Report
  deriving DecidableEq, Repr

/-- The launch and list machinery of the package. -/
structure Sched where
  cmps : List Cmp
  groups : Tab Group
  regions : Tab Region
  clusters : Tab Cluster
  ctxs : Tab Ctx
  units : Tab UnitSt
  band : Tab Band
  /-- Pages whose entries region g's memory port agent holds, up to 1,024, and at 12 those of the hub's cache, up to 16,384; the newest first (R493,
  log entry 45). -/
  tlb : Tab (List Nat)
  /-- Service lists running at the hub: context to list, and armed lists waiting for their comparator. -/
  armed : List ListRec
  /-- Commands waiting in the hub's service queue, by the unit code that holds (R258). -/
  service : List Nat
  /-- Next submission number. -/
  seq : Nat
  /-- Joins under way, by local group. -/
  joins : Tab Join
  /-- Shard lists that have ended, with their status, not yet seen by the inference service: context, LIST_ID, status (R323, R324). -/
  ended : List (Nat × DWord × Nat)
  deriving DecidableEq, Repr

end Sys2Proof.Machine
end

