-- ==== Sys2Proof/Machine/StFab.lean ====
section
/-! DEFINITION. State of the Phiuz fabric: ports, tracked requests, transfers, RATC, reply cache (spec/12_phiuz_fabric.md). -/
namespace Sys2Proof.Machine

/-- Link states (R527). -/
inductive LinkSt where
  | down | train | up | replay | lost
  deriving DecidableEq, Repr

/-- A fabric transaction: the 32-byte header's fields and the data that follows it (R531, R532). -/
structure Txn where
  op : Nat
  flags : Nat := 0
  len : Nat := 0
  dest : Nat := 0
  src : Nat := 0
  job : Nat := 0
  status : Nat := 0
  tag : Nat := 0
  offset : Nat := 0
  aux : Nat := 0
  dctx : Nat := 0
  opfield : DWord := 0
  data : List Byte := []
  deriving DecidableEq, Repr

/-- A flit held for replay: its SEQ and the hub cycle of its first transmission (R528). -/
structure Flit where
  seq : Nat
  at0 : Nat
  deriving DecidableEq, Repr

/-- A fabric port and its link (R526 to R529). -/
structure FabPort where
  link : LinkSt := .down
  /-- Next SEQ to be sent, and next SEQ expected. -/
  txSeq : Nat := 0
  rxSeq : Nat := 0
  /-- A NAK for the expected SEQ has been sent (R528). -/
  naked : Bool := false
  /-- Replay buffer, oldest first, at most 2,048 flits. -/
  held : List Flit := []
  /-- Flits sent before the replay began that still await their acknowledgement (R528). -/
  replayLeft : Nat := 0
  /-- Hub cycle of the last acknowledgement or first unacknowledged transmission (R527). -/
  ackAt : Nat := 0
  deriving DecidableEq, Repr

/-- A path notice in force: plane, node, PATH_LOST or PATH_RETRY, and the counter at its last repetition (R529). -/
structure PathNote where
  plane : Nat
  node : Nat
  lost : Bool
  at0 : Nat
  deriving DecidableEq, Repr

/-- States of a tracked request (R553); `waitPlane` is an atomic that waits for a usable plane (R560). -/
inductive ReqSt where
  | sent | held | backoff | waitPlane
  deriving DecidableEq, Repr

/-- What a tracked request serves: tile or handle `n` of transfer `x`, the ATOMIC command that `x` carries, or the hub. -/
inductive ReqFor where
  | tile (x n : Nat)
  | handle (x n : Nat)
  | atomic (x : Nat)
  | hub (what : Nat)
  deriving DecidableEq, Repr

/-- A tracked request (R533, R552, R553, R560). -/
structure Req where
  tag : Nat
  /-- Region whose tracking entries it holds, or 12 for the hub. -/
  region : Nat
  plane : Nat
  txn : Txn
  st : ReqSt := .sent
  /-- Timer in whole Tc counted so far, and counter from which it counts again. -/
  ran : Nat := 0
  since : Nat := 0
  nacks : Nat := 0
  /-- Counter at which the back-off ends. -/
  due : Nat := 0
  /-- Counter at the atomic's first issue (R558). -/
  first : Nat := 0
  serves : ReqFor
  /-- The request's output key (R647). -/
  key : BitVec 128 := 0
  deriving DecidableEq, Repr

/-- A multi-dimensional transfer, or an ATOMIC, in progress on a move engine (R557, R563, R564). -/
structure Xfer where
  id : Nat
  unit : Nat
  /-- Header and payload in force: those of the record, when a RESUME runs. -/
  cmd : Cmd
  ctx : Nat
  list : DWord
  cmdIdx : Nat
  /-- Next tile to be issued, and lowest tile not delivered. -/
  next : Nat
  index : Nat
  /-- Tiles whose data is applied, and tiles whose handle is accepted, at or above the index. -/
  applied : List Nat := []
  handled : List Nat := []
  /-- Handles sent and unanswered. -/
  asked : List Nat := []
  /-- Status of the first failing tile or handle, and its peer. -/
  fail : Option (Nat × Nat) := none
  /-- Its list was stopped or cancelled: nothing further issues, and no record is kept (R567). -/
  dead : Bool := false
  deriving DecidableEq, Repr

/-- The record of a stopped transfer (R565). -/
structure XferRec where
  ctx : Nat
  list : DWord
  cmdIdx : Nat
  cmd : Cmd
  index : Nat
  cause : Nat
  deriving DecidableEq, Repr

/-- A reply-cache entry (R559). -/
structure Reply where
  id : DWord
  resp : Txn
  at0 : Nat
  deriving DecidableEq, Repr

/-- A RATC entry: its two words (R541). -/
structure Ratc where
  w0 : DWord
  w1 : DWord
  deriving DecidableEq, Repr

/-- An inbound request accepted and waiting for a context's swap or handle queue: its plane, the SEQ of its log record, the entries it
matched (R543, R545). -/
structure InReq where
  plane : Nat
  seq : Nat
  txn : Txn
  entries : List Ratc
  deriving DecidableEq, Repr

/-- The fabric. -/
structure Fabric where
  ports : Tab FabPort
  paths : List PathNote
  reqs : List Req
  nextTag : Nat
  /-- Counter of the sending package's atomics (R558). -/
  atoms : Nat
  xfers : List Xfer
  /-- Number of the next transfer. -/
  nextX : Nat
  recs : List XferRec
  ratc : Tab Ratc
  /-- Index of an entry removed, and the entry, while requests that matched it are still to be applied (R543). -/
  removing : Option (Nat × Ratc)
  replies : List Reply
  /-- Inbound queue, in acceptance order (R545, R546). -/
  inq : List InReq
  /-- Numbers of the last beacon instant and of the last echo instant served (R568). -/
  beaconK : Nat
  echoK : Nat
  /-- Nodes that sent an ECHO_REQ, and the counter at the last one (R568). -/
  followers : Tab Nat
  /-- Outbound ring of each Slot Service Interface endpoint: TAIL, and the HEAD last seen (R571, R573). -/
  ssiTail : Tab Nat
  ssiHead : Tab Nat
  /-- TAIL as the ADDs issued so far have moved it. -/
  ssiAdded : Tab Nat
  deriving DecidableEq, Repr

end Sys2Proof.Machine
end

