-- ==== Sys2Proof/Syntax.lean ====
section
/-! DEFINITION. The commands of the block: one constructor per row of spec/opcode_table.json. -/
namespace Sys2Proof

/-- Where a service command stands: current at the unit with code `u` (R26; 0x1_0000 + id is the hub running a service list of context
`id`, R248), or at the head of the fetched submissions of queue pair `q` of function `fn` (R590; 2047 is PF0). -/
inductive Origin where
  | unit (u : Nat)
  | host (fn q : Nat)
  deriving DecidableEq, Repr

/-- A PTP message of the one domain as the port hands it up (R66, R67): an Announce with the sender's rank under the alternate BMCA,
`currentUtcOffset` and whether it announces a leap second; a Sync with its origin time `t1` (with the Follow_Up's, when the master is
two-step); a Delay_Resp with `t4`. Master times are TAI since the PTP epoch in 1/64 Tc. Receive times are the counter's. -/
inductive PtpMsg where
  | announce (rank utc : Nat) (leap : Bool)
  | sync (t1 : Int)
  | delayResp (t4 : Int)
  deriving DecidableEq, Repr

/-- A register as a function's access names it: PF0's BAR2 (`bar2`) or the function page in BAR0, byte offset, access width in bytes. -/
structure RegRef where
  fn : Nat
  bar2 : Bool
  ofs : Nat
  width : Nat
  deriving DecidableEq, Repr

/-- An uplink result of a slot that has become ready: entry KIND, HANDLE, FLAGS but for LATE, status, and the body that follows its entry header (R422). -/
structure UlResult where
  kind : Nat
  handle : Nat
  flags : Nat
  status : Nat
  body : List Byte
  deriving DecidableEq, Repr

open Machine (Txn) in
/-- A command of the block. -/
inductive Instr where
  /-- PPS_PULSE: An active edge on PPS_IN is checked against the counter's expected instant and qualifies or steers the PPS source. (R63) -/
  | ppsPulse
  /-- PPS_MISS: The expected 1PPS instant passes without a valid pulse, setting PPS_MISS and disqualifying the source after three in a row. (R63) -/
  | ppsMiss
  /-- TOD_MESSAGE: A 16-byte time-of-day message completes on TOD_RX and is checked for timing, CRC, flags and expected second. (R64) -/
  | todMessage (bytes : List Byte)
  /-- PTP_FRAME: A PTP message received on a fronthaul port is timestamped at the MAC and used to qualify or steer the PTP source. (R66) -/
  | ptpFrame (port : Nat) (m : PtpMsg)
  /-- PTP_DELAY_REQ: The time unit sends its periodic Delay_Req as a G.8275.1 slave clock. (R66) -/
  | ptpDelayReq
  /-- ESMC_FRAME: An ESMC frame carrying a SyncE QL is received and decides whether frequency is taken from SyncE. (R68) -/
  | esmcFrame (port : Nat) (ql : Nat)
  /-- SOURCE_HOLDOFF_EXPIRY: A higher-ranked source has stayed qualified for 16 s and the time unit switches to it. (R62) -/
  | sourceHoldoffExpiry
  /-- BEACON_SOURCE_SWITCH: No beacon from SRC0 for 4 periods moves the follower to SRC1 without hold-off. (R69) -/
  | beaconSourceSwitch
  /-- HOLDOVER_LIMIT: The holdover time-error estimate exceeds LIMIT_NS and the time unit enters LOST. (R74) -/
  | holdoverLimit
  /-- SNAPSHOT: A write of SNAPSHOT to TIM_CMD copies the counter into TIM_SNAP in the same hub cycle. (R101) -/
  | snapshot
  /-- RESTEP: A write of RESTEP to TIM_CMD steps the counter to a source disqualified by offset, or is rejected. (R77) -/
  | restep
  /-- REQUALIFY: A write of REQUALIFY to TIM_CMD clears DISQ_OFS and lets each source qualify again. (R101) -/
  | requalify
  /-- AUTO_STEP: With AUTO_STEP set, the counter is stepped in the first hub cycle in which the step conditions hold. (R77) -/
  | autoStep
  /-- LAUNCH_COUNTER_CORRECT: Every 1,024 Tc each cluster's local copy of the counter is corrected from the hub. (R79) -/
  | launchCounterCorrect
  /-- COMPARATOR_MATCH: A comparator's local counter reaches its armed stamp and the target starts 2 cclk cycles later, subject to group and window. (R79) -/
  | comparatorMatch (pt : Nat) (idx : Nat)
  /-- COMMIT_POINT: The owner's counter reaches the commit point without COMMITTED and the group enters ABORTED. (R90) -/
  | commitPoint (grp : Nat)
  /-- GROUP_ORPHAN: A member reaches the group stamp with neither COMMIT nor ABORT and becomes ORPHANED. (R90) -/
  | groupOrphan (grp : Nat)
  /-- GROUP_FREE: A launch group returns to free once its participants are done and members have reported, or its stamp has passed by 1 frame. (R94) -/
  | groupFree (grp : Nat)
  /-- TIM_GRP_ABORT: A host write aborts an owner launch group that is not yet COMMITTED. (R97) -/
  | timGrpAbort (grp : Nat)
  /-- VISIBILITY_STAMP_DUE: A handle held by its visibility stamp becomes visible 2 cclk cycles after the consumer's counter reaches the stamp. (R82) -/
  | visibilityStampDue (ctx : Nat) (q : Nat)
  /-- PPS_OUT_PULSE: At each whole GPS second in LOCKED or HOLDOVER the device pulses PPS_OUT. (R769) -/
  | ppsOutPulse
  /-- BANDWIDTH_WINDOW: A frame-aligned 1 µs bandwidth window starts and every region's share budgets are renewed. (R293) -/
  | bandwidthWindow
  /-- WINDOW_BOUNDARY: A cyclic-table boundary takes effect on a cluster or Kudu engine and the new window admits its work. (R118) -/
  | windowBoundary (g : Nat)
  /-- HARD_STOP: At a hard-stop point every running inference grain of the region is stopped and its units idle within 64 cycles. (R126) -/
  | hardStop (g : Nat)
  /-- GRAIN_START: A free unit checks an inference grain's scaled length against the next hard-stop point and starts or defers it. (R125) -/
  | grainStart (u : Nat)
  /-- GRAIN_OVERRUN: A grain runs past its start plus scaled length, incrementing CYC_OVR_CNT and setting CYC_EVT.OVR. (R129) -/
  | grainOverrun (u : Nat)
  /-- RADIO_OVERRUN_END: Every unit running a radio list past its window's close becomes idle and the window then in force admits its work. (R121) -/
  | radioOverrunEnd (g : Nat)
  /-- EVICTION: With every resident inference context blocked and a swapped context ready, the oldest-blocked context is evicted. (R140) -/
  | eviction (c : Nat)
  /-- SWAP_START: A swap starts in an inference window when its worst-case end lies before the guard band. (R142) -/
  | swapStart (c : Nat)
  /-- SWAP_COMPLETE: A swap-out or swap-in finishes its parts and the context changes slot or state. (R143) -/
  | swapComplete (c : Nat)
  /-- LIST_START: A queued list starts on its named or lowest free unit in a window that admits its context. (R250) -/
  | listStart (ctx : Nat) (cls : Nat)
  /-- LIST_END: A list ends normally or with a status and its LIST record is produced. (R598) -/
  | listEnd (u : Nat)
  /-- NOP: A NOP command does nothing and completes with status 0. (R592) -/
  | nop (o : Origin)
  /-- LIST: The list header names LIST_ID, COUNT, class, unit, grain length, flags and partition. (R254) -/
  | listHdr (u : Nat)
  /-- ARM: ARM checks the target context and arms a list on a unit at a stamp, taking a comparator. (R282) -/
  | arm (o : Origin)
  /-- GROUP_CREATE: GROUP_CREATE creates an owner launch group with its stamp, commit lead, local count and member list. (R89) -/
  | groupCreate (o : Origin)
  /-- GROUP_JOIN: GROUP_JOIN sends a join to the owner node and creates a member group when the owner answers. (R94) -/
  | groupJoin (o : Origin)
  /-- NOTIFY: NOTIFY writes a completion record carrying a user value. (R282) -/
  | notify (o : Origin)
  /-- CANCEL: CANCEL removes, disarms or stops a list of the context and removes its handles, or completes with CANCEL_LATE. (R291) -/
  | cancel (o : Origin)
  /-- HANDLE_PUT: HANDLE_PUT places a 32-byte handle in queue RELQ of context DCTX. (R282) -/
  | handlePut (o : Origin)
  /-- PLACE: PLACE maps unmapped pages to new zero-filled frames in the named tier and die. (R495) -/
  | place (o : Origin)
  /-- PROMOTE: PROMOTE moves private pages to the named tier or adds a claim on a shared page. (R495) -/
  | promote (o : Origin)
  /-- EVICT: EVICT moves pages from Tarn to Mere or unmaps them, or drops the tenant's claims. (R495) -/
  | evict (o : Origin)
  /-- PIN: PIN sets PINNED on private pages. (R495) -/
  | pin (o : Origin)
  /-- UNPIN: UNPIN clears PINNED on private pages. (R495) -/
  | unpin (o : Origin)
  /-- CTX_CREATE: CTX_CREATE creates an inference context, placing it resident or swapped or refusing it. (R136) -/
  | ctxCreate (o : Origin)
  /-- CTX_END: CTX_END marks a context to end once its running lists end. (R282) -/
  | ctxEnd (o : Origin)
  /-- CONTEXT_END: A context whose lists have ended is ended, its handles discarded and its slot and save area freed. (R788) -/
  | contextEnd (ctx : Nat)
  /-- LOAD: LOAD reads an activation block from Pool into an Ibex array and forms its checksum cells and column sums. (R174) -/
  | load (a : Nat)
  /-- STREAM: STREAM feeds a weight stream through an Ibex array to produce output rows. (R267) -/
  | stream (a : Nat)
  /-- SPILL: SPILL writes the array's activation block to a 64 KiB Pool area. (R266) -/
  | spill (a : Nat)
  /-- RESTORE: RESTORE reloads an activation block from a 64 KiB Pool area and rebuilds its sums. (R178) -/
  | restore (a : Nat)
  /-- WEIGHT_FENCE_MET: A fenced STREAM's feed FIFO holds the whole stream or 16 KiB and the stream starts. (R290) -/
  | weightFenceMet (a : Nat)
  /-- IBX_FREEZE: A missing plane or side word freezes the whole array until it arrives, counting frozen cycles. (R167) -/
  | ibxFreeze (a : Nat)
  /-- IBX_OUTPUT_ROW: An output row leaves the post-processor to its destination after scaling and conversion. (R172) -/
  | ibxOutputRow (a : Nat)
  /-- CHECKSUM_COMPARE: A row's checksum comparison result becomes known and a mismatch is logged and handled under LOG or STOP. (R187) -/
  | checksumCompare (a : Nat) (diff : Int)
  /-- IBX_CS_ACK: A host write acknowledges checksum log entries and advances the tail. (R191) -/
  | ibxCsAck (g : Nat) (n : Nat)
  /-- VMAP: VMAP applies an element-wise function to each row. (R272) -/
  | vmap (c : Nat)
  /-- VBIN: VBIN applies a binary operation between each element and AUX. (R272) -/
  | vbin (c : Nat)
  /-- VREDUCE: VREDUCE forms one sum, maximum, argmax or sum of squares per row in fixed order. (R272) -/
  | vreduce (c : Nat)
  /-- VSOFTMAX: VSOFTMAX computes a plain or masked softmax per row. (R272) -/
  | vsoftmax (c : Nat)
  /-- VNORM: VNORM applies RMS or layer normalisation per row. (R272) -/
  | vnorm (c : Nat)
  /-- VCONVERT: VCONVERT converts rows to the output format under R238. (R272) -/
  | vconvert (c : Nat)
  /-- VSAMPLE: VSAMPLE draws one token index per row of logits from its parameters and seed. (R275) -/
  | vsample (c : Nat)
  /-- VNOP: VNOP is the vector no-operation command. (R265) -/
  | vnop (c : Nat)
  /-- CIMEM: CIMEM transfers a program into the core's instruction memory. (R372) -/
  | cimem (k : Nat)
  /-- CFILL: CFILL transfers data into X or Y memory. (R372) -/
  | cfill (k : Nat)
  /-- CDRAIN: CDRAIN transfers data out of X or Y memory. (R372) -/
  | cdrain (k : Nat)
  /-- CRUN: CRUN runs a program from ENTRY until HALT, fault, limit or hard stop. (R374) -/
  | crun (k : Nat)
  /-- CHM_LIMIT: A run reaches its LIMIT cycles without HALT, stops issuing and ends with CHM_LIMIT. (R374) -/
  | chmLimit (k : Nat)
  /-- AOP_NOP: A bundle with AOP NOP performs only its load and store slots. (R360) -/
  | aopNop (k : Nat)
  /-- CMAC: CMAC adds the complex product VA × VB to an accumulator pair. (R360) -/
  | cmac (k : Nat)
  /-- CMACJ: CMACJ adds VA × conj(VB) to an accumulator pair. (R360) -/
  | cmacj (k : Nat)
  /-- CMSU: CMSU subtracts VA × VB from an accumulator pair. (R360) -/
  | cmsu (k : Nat)
  /-- CMUL: CMUL sets an accumulator pair to VA × VB. (R360) -/
  | cmul (k : Nat)
  /-- CMULJ: CMULJ sets an accumulator pair to VA × conj(VB). (R360) -/
  | cmulj (k : Nat)
  /-- RCMAC: RCMAC adds the real×complex products of VA's halves with VB to two pairs. (R347) -/
  | rcmac (k : Nat)
  /-- RCMUL: RCMUL sets two pairs to the real×complex products of VA's halves with VB. (R360) -/
  | rcmul (k : Nat)
  /-- AZERO: AZERO clears an accumulator pair. (R360) -/
  | azero (k : Nat)
  /-- ARND: ARND rounds and saturates an accumulator pair into a V register. (R369) -/
  | arnd (k : Nat)
  /-- VADD: VADD adds two V registers half by half with saturation. (R360) -/
  | vadd (k : Nat)
  /-- VSUB: VSUB subtracts two V registers half by half with saturation. (R360) -/
  | vsub (k : Nat)
  /-- VCONJ: VCONJ conjugates a V register. (R360) -/
  | vconj (k : Nat)
  /-- VMOV: VMOV copies a V register. (R360) -/
  | vmov (k : Nat)
  /-- VROT: VROT rotates lanes of VA by one, filling lane 15 from VB. (R360) -/
  | vrot (k : Nat)
  /-- VBREV: VBREV reorders the lanes of VA in bit-reversed order. (R360) -/
  | vbrev (k : Nat)
  /-- HALT: HALT ends the program normally. (R361) -/
  | halt (k : Nat)
  /-- LOOP: LOOP pushes a hardware loop level over PC + 1 to END. (R362) -/
  | loop (k : Nat)
  /-- BR: BR branches unconditionally, popping loop levels left. (R363) -/
  | br (k : Nat)
  /-- BNZ: BNZ branches if the named S register is not zero. (R363) -/
  | bnz (k : Nat)
  /-- SETP: SETP sets a field of an address generator from an immediate or S register. (R361) -/
  | setp (k : Nat)
  /-- SETS: SETS sets an S register to an immediate. (R361) -/
  | sets (k : Nat)
  /-- ADDS: ADDS adds a signed immediate to an S register modulo 2^32. (R361) -/
  | adds (k : Nat)
  /-- SETSH: SETSH sets the store shift SH. (R361) -/
  | setsh (k : Nat)
  /-- LDPC_DEC: LDPC_DEC de-matches, optionally HARQ-combines, decodes and CRC-checks one code block. (R404) -/
  | ldpcDec (g : Nat)
  /-- LDPC_ENC: LDPC_ENC attaches CRC, encodes, rate-matches and interleaves one code block. (R404) -/
  | ldpcEnc (g : Nat)
  /-- POLAR_DEC: POLAR_DEC performs CRC-aided list decoding of a polar block. (R402) -/
  | polarDec (g : Nat)
  /-- POLAR_ENC: POLAR_ENC attaches CRC, interleaves, encodes and rate-matches a polar block. (R402) -/
  | polarEnc (g : Nat)
  /-- COPY: COPY moves bytes between local address references. (R278) -/
  | copy (c : Nat)
  /-- XFER_ND: XFER_ND moves a block of up to four dimensions between a local and a remote side in tiles. (R279) -/
  | xferNd (c : Nat)
  /-- FILL: FILL writes an 8-byte pattern repeatedly from DST. (R278) -/
  | fill (c : Nat)
  /-- TO_EXACT: TO_EXACT converts RAW48 rows to an EXACT128 buffer at a binary point. (R280) -/
  | toExact (c : Nat)
  /-- EXACT_SUM: EXACT_SUM adds one EXACT128 buffer into another element by element. (R281) -/
  | exactSum (c : Nat)
  /-- FROM_EXACT: FROM_EXACT rounds an EXACT128 buffer once to a narrower format. (R281) -/
  | fromExact (c : Nat)
  /-- ATOMIC: ATOMIC issues a remote atomic with an ID and FIRST stamp and writes RES if fetching. (R557) -/
  | atomic (c : Nat)
  /-- RESUME: RESUME continues a recorded stopped transfer from tile FROM, or is refused with XFER_STALE. (R566) -/
  | resume (c : Nat)
  /-- HANDLE_WAIT_MET: A command waiting on a handle queue takes the visible head handle and begins its first read. (R287) -/
  | handleWaitMet (u : Nat)
  /-- HANDLE_RELEASE: A command's output handle is released into its queue, holding the producer while the queue is full. (R288) -/
  | handleRelease (u : Nat)
  /-- HANDLE_VISIBLE: A released handle becomes visible in the consumer's queue after the ledger delay. (R288) -/
  | handleVisible (ctx : Nat) (q : Nat)
  /-- SERVICE_ACK: The hub acknowledges a service command passed from a unit when its service queue has room. (R258) -/
  | serviceAck (u : Nat)
  /-- MODEL_LOAD: MODEL_LOAD checks a Biloth image into a model slot and creates its shard contexts. (R310) -/
  | modelLoad (o : Origin)
  /-- MIRROR_ACK: The partner's acknowledgement of a standby load lets a mirrored MODEL_LOAD complete. (R680) -/
  | mirrorAck (t : Nat) (slot : Nat) (ok : Bool)
  /-- MODEL_UNLOAD: MODEL_UNLOAD frees a slot, forcibly ending live sequences when FORCE is set. (R338) -/
  | modelUnload (o : Origin)
  /-- SEQ_SUBMIT: SEQ_SUBMIT checks a request, copies its prompt to Mere and queues the sequence. (R313) -/
  | seqSubmit (o : Origin) (prompt : List Byte)
  /-- SEQ_CANCEL: SEQ_CANCEL marks a live sequence to end at the next boundary. (R337) -/
  | seqCancel (o : Origin)
  /-- STEP_BOUNDARY: After a step completes the service writes records, removes, swaps, parks, holds and admits sequences, assigns columns and submits the next step. (R330) -/
  | stepBoundary (t : Nat) (slot : Nat) (tokens : List (Nat × Nat)) (lists : List (Nat × Nat))
  /-- CELL_START: CELL_START checks capacity and time lock and puts the cell in STARTING. (R389) -/
  | cellStart (via : Nat) (msg : List Byte)
  /-- CELL_ON: A STARTING cell goes ON at the first frame at least 2 frames after acceptance. (R389) -/
  | cellOn (n : Nat)
  /-- CELL_STOP: CELL_STOP sets the cell's stop slot. (R390) -/
  | cellStop (via : Nat) (msg : List Byte)
  /-- CELL_OFF: After its last slot completes, a stopping cell goes OFF and frees its HARQ area and contexts. (R390) -/
  | cellOff (n : Nat)
  /-- DL_ORDER: DL_ORDER delivers the downlink PDUs of a slot, refused if late or duplicated. (R410) -/
  | dlOrder (via : Nat) (msg : List Byte)
  /-- TB_LOAD: TB_LOAD delivers transport blocks naming PDSCH PDUs of a slot. (R411) -/
  | tbLoad (via : Nat) (msg : List Byte)
  /-- UL_ORDER: UL_ORDER delivers the uplink PDUs of a slot, refused if late or duplicated. (R410) -/
  | ulOrder (via : Nat) (msg : List Byte)
  /-- SOFT_RELEASE: SOFT_RELEASE marks named HARQ entries empty. (R407) -/
  | softRelease (via : Nat) (msg : List Byte)
  /-- SLOT_MARK: At each slot boundary the device sends a SLOT_MARK for every ON cell. (R418) -/
  | slotMark (n : Nat)
  /-- DL_DEADLINE: At a slot's DL deadline missing transport blocks are zeroed and unmatched TB_LOAD blocks discarded. (R411) -/
  | dlDeadline (n : Nat)
  /-- RADIO_LIST_ADMIT: The radio service starts a radio list only if its worst case fits before the window's close. (R392) -/
  | radioListAdmit (u : Nat) (len : Nat) (own : Option (Nat × Nat))
  /-- UL_REPORT: Uplink results of a slot that have become ready are written as an UL_REPORT. (R418) -/
  | ulReport (n : Nat) (at0 : Nat) (results : List UlResult)
  /-- DEADLINE_MISS: A result's deadline passes before it is ready, so it is later delivered LATE and counted. (R414) -/
  | deadlineMiss (n : Nat)
  /-- INDICATION_RING_ROOM: An indication waiting for room in an outbound or host ring is written when room appears. (R573) -/
  | indicationRingRoom
  /-- FRAME_RECEIVE: A received frame is logged, checked and written into its stream's ring or discarded with a counter. (R439) -/
  | frameReceive (port : Nat) (frame : List Byte)
  /-- BURST_FFT: The FFT of a burst symbol is written into the ring and its handle released. (R459) -/
  | burstFft (entry : Nat) (sym : Nat)
  /-- RECEIVE_WINDOW_CLOSE: At a receive window's close missing PRBs are zeroed and the symbol's or occasion's handle released. (R442) -/
  | receiveWindowClose (entry : Nat) (sym : Nat)
  /-- EGRESS_BUILD: When a symbol is marked complete its packets are built, compressed and enqueued with gates. (R449) -/
  | egressBuild (n : Nat) (at0 : Nat) (sym : Nat)
  /-- GATE_OPEN: A head packet's gate opens and its queue becomes active with a new start tag. (R461) -/
  | gateOpen (q : Nat)
  /-- GATE_CLOSE_DROP: A head packet not started before its gate closes is dropped and counted. (R461) -/
  | gateCloseDrop (q : Nat)
  /-- SHAPER_SELECT: A free shaper port selects the active queue with the smallest finish tag and sends its head packet. (R465) -/
  | shaperSelect (port : Nat)
  /-- SHP_HIST_SAMPLE: At each sample instant the shaper bins every enabled queue's depth and head delay. (R467) -/
  | shpHistSample
  /-- SHP_HIST_CLR: A write clears both histograms of the selected queue. (R475) -/
  | shpHistClr
  /-- FH_LINK_CHANGE: A fronthaul port's link or FEC alignment comes up or goes down. (R429) -/
  | fhLinkChange (port : Nat) (link : Bool) (align : Bool)
  /-- MIGRATION_START: A page migration starts when a region slot is free and no earlier migration of the page remains. (R503) -/
  | migrationStart (page : Nat)
  /-- MIGRATION_LINE: A migration copies or zero-fills its next line when its region's budget and slots allow. (R501) -/
  | migrationLine (page : Nat)
  /-- MIGRATION_SWITCH: After the last line the entry switches to the new frame in one hub cycle and MOVING clears. (R501) -/
  | migrationSwitch (page : Nat)
  /-- FRAME_FREE: An old frame is freed once all translation caches hold the new entry and earlier accesses complete. (R502) -/
  | frameFree
  /-- MEMORY_REFRESH: A Tarn or Mere bank refreshes in its channel slots. (R489) -/
  | memoryRefresh (d : Nat) (mere : Bool) (bank : Nat)
  /-- SCRUB: The scrubber reads a Tarn or Mere line in hub slots and corrects or poisons it. (R514) -/
  | scrub (d : Nat) (mere : Bool)
  /-- MEM_LOG_ACK: A host write acknowledges memory log entries. (R521) -/
  | memLogAck (n : Nat)
  /-- FLIT_RECEIVE: A flit arrives on a fabric link and is acknowledged or NAKed. (R528) -/
  | flitReceive (p : Nat) (bytes : List Byte)
  /-- NAK_RECEIVE: A received NAK puts the link in REPLAY and resends from the NAKed sequence. (R528) -/
  | nakReceive (p : Nat) (seq : Nat)
  /-- ACK_TIMEOUT: No acknowledgement for 256 flit times puts the link in REPLAY. (R527) -/
  | ackTimeout (p : Nat)
  /-- LINK_LOST: A flit unacknowledged 1.5 µs after first transmission makes the link LOST and ends outstanding requests. (R528) -/
  | linkLost (p : Nat)
  /-- LINK_TRAINED: Link training completes and the port becomes UP. (R527) -/
  | linkTrained (p : Nat)
  /-- LOSS_OF_SIGNAL: A fabric port loses signal and goes DOWN. (R527) -/
  | lossOfSignal (p : Nat)
  /-- PATH_RETRY: A PATH_RETRY notice puts paths to its node in RETRY, holding their timers. (R529) -/
  | pathRetry (p : Nat) (node : Nat)
  /-- PATH_OK: A PATH_OK notice clears PATH_LOST for its node. (R529) -/
  | pathOk (p : Nat) (node : Nat)
  /-- PATH_LOST: A PATH_LOST notice ends requests to its node on that plane as LINK_LOST. (R529) -/
  | pathLost (p : Nat) (node : Nat)
  /-- PATH_RETRY_LAPSE: A PATH_RETRY lapses 2 µs after its last repetition and held timers resume. (R529) -/
  | pathRetryLapse (p : Nat) (node : Nat)
  /-- FAB_LOAD: An inbound LOAD is checked against the RATC and answered with DATA. (R544) -/
  | fabLoad (p : Nat) (t : Txn)
  /-- FAB_STORE: An inbound STORE is checked, applied and acknowledged. (R544) -/
  | fabStore (p : Nat) (t : Txn)
  /-- FAB_ATOMIC: An inbound ATOMIC is decided by the reply cache, expiry and checks, applied once and cached. (R558) -/
  | fabAtomic (p : Nat) (t : Txn)
  /-- FAB_TILE_WR: An inbound TILE_WR is checked over its span, applied line by line and acknowledged. (R544) -/
  | fabTileWr (p : Nat) (t : Txn)
  /-- FAB_TILE_RD: An inbound TILE_RD is checked and answered with DATA. (R544) -/
  | fabTileRd (p : Nat) (t : Txn)
  /-- FAB_HANDLE: An inbound HANDLE places a buffer handle in the target context's queue. (R545) -/
  | fabHandle (p : Nat) (t : Txn)
  /-- FAB_GROUP: An inbound GROUP message carries a join, READY, COMMIT, ABORT or ORPHAN report and moves the group's state. (R90) -/
  | fabGroup (p : Nat) (t : Txn)
  /-- FAB_BEACON: A follower records a received BEACON's arrival for the offset computation. (R570) -/
  | fabBeacon (p : Nat) (t : Txn)
  /-- FAB_ECHO_REQ: The beacon source answers an ECHO_REQ with an ECHO_RESP carrying t1, t2 and t3. (R569) -/
  | fabEchoReq (p : Nat) (t : Txn)
  /-- FAB_ECHO_RESP: A follower computes path delay and offset from an ECHO_RESP and steers the time unit. (R570) -/
  | fabEchoResp (p : Nat) (t : Txn)
  /-- FAB_DATA: A DATA response completes a load or tile read request. (R553) -/
  | fabData (p : Nat) (t : Txn)
  /-- FAB_ACK: An ACK response completes a store, tile write, handle or non-fetching atomic. (R553) -/
  | fabAck (p : Nat) (t : Txn)
  /-- FAB_RESULT: A RESULT response completes a fetching atomic with the old value. (R558) -/
  | fabResult (p : Nat) (t : Txn)
  /-- FAB_NACK: A NACK puts the request in back-off or ends it FAB_BUSY beyond NACK_MAX. (R554) -/
  | fabNack (p : Nat) (t : Txn)
  /-- FAB_ERROR: An ERROR response ends a request with its status. (R553) -/
  | fabError (p : Nat) (t : Txn)
  /-- REQUEST_TIMEOUT: A request's timer reaches its limit and it ends TIMEOUT. (R552) -/
  | requestTimeout (tag : Nat)
  /-- NACK_BACKOFF_END: A NACKed request's back-off ends and it is resent with its timer restarted. (R554) -/
  | nackBackoffEnd (tag : Nat)
  /-- ATOMIC_UNKNOWN: An atomic with no response by FIRST + 2 ms ends UNKNOWN. (R560) -/
  | atomicUnknown (tag : Nat)
  /-- REPLY_CACHE_FREE: A reply-cache entry is freed 2 ms after its application. (R559) -/
  | replyCacheFree
  /-- BEACON_SEND: The beacon source sends a BEACON per up plane at each beacon instant. (R568) -/
  | beaconSend
  /-- ECHO_REQ_SEND: A follower sends an ECHO_REQ half a period after each beacon instant. (R568) -/
  | echoReqSend
  /-- RATC_INSERT: A PF0 INSERT command places the staged RATC entry or reports FULL or EXISTS. (R543) -/
  | ratcInsert
  /-- RATC_REMOVE: A PF0 REMOVE command invalidates the entry with the staged key. (R543) -/
  | ratcRemove
  /-- RATC_REMOVE_DONE: Every request that matched a removed entry has been applied and DONE is reported. (R543) -/
  | ratcRemoveDone
  /-- RATC_READ: A PF0 READ command copies the indexed entry into the staging registers. (R543) -/
  | ratcRead
  /-- SQ_DOORBELL: A write of a new SQ tail lets the device fetch and accept submissions, or is ignored. (R590) -/
  | sqDoorbell (fn : Nat) (q : Nat) (tail : Nat) (entries : List Cmd)
  /-- CQ_DOORBELL: A write of a new CQ head frees completion entries. (R590) -/
  | cqDoorbell (fn : Nat) (q : Nat) (head : Nat)
  /-- LIST_SUBMIT: LIST_SUBMIT queues a command list for a context. (R592) -/
  | listSubmit (o : Origin)
  /-- HOST_COPY: HOST_COPY moves bytes between host memory and the device by DMA. (R594) -/
  | hostCopy (o : Origin) (bytes : List Byte)
  /-- SSI_SEND: SSI_SEND reads one Slot Service Interface message from host memory and accepts it. (R595) -/
  | ssiSend (o : Origin) (bytes : List Byte)
  /-- ACC_READ: ACC_READ writes an account's 16 counters to host memory. (R620) -/
  | accRead (o : Origin)
  /-- RECORD_WRITE: A waiting completion record is written to a free CQ entry. (R599) -/
  | recordWrite (fn : Nat) (q : Nat)
  /-- ATTN_HOLD_EXPIRY: At the end of the attention hold the gathered raises are written as one STATUS record. (R602) -/
  | attnHoldExpiry (fn : Nat)
  /-- ATTN_CLEAR: A write of 1 to a bit of HIF_FN_ATTN clears that attention. (R603) -/
  | attnClear (fn : Nat) (mask : Nat)
  /-- MSIX_FIRE: An MSI-X vector fires when a record's status word changes, the count is reached or the wait time expires. (R605) -/
  | msixFire (fn : Nat) (q : Nat)
  /-- MSIX_UNMASK: Unmasking a vector with its pending bit set fires it once. (R606) -/
  | msixUnmask (fn : Nat) (vec : Nat)
  /-- QUEUE_PAIR_ENABLE: Writing ENABLE 1 starts a queue pair, going ON or back to OFF with ERR. (R609) -/
  | queuePairEnable (fn : Nat) (q : Nat)
  /-- QUEUE_PAIR_DISABLE: Writing ENABLE 0 puts a queue pair in STOPPING. (R609) -/
  | queuePairDisable (fn : Nat) (q : Nat)
  /-- QUEUE_PAIR_OFF: A stopping queue pair reaches OFF once no fetch or record write is in flight. (R609) -/
  | queuePairOff (fn : Nat) (q : Nat)
  /-- FCTL_VF_ENABLE: An HIF_FCTL write enables a VF. (R609) -/
  | fctlVfEnable (vf : Nat)
  /-- FCTL_VF_DISABLE: An HIF_FCTL write disables a VF. (R609) -/
  | fctlVfDisable (vf : Nat)
  /-- FCTL_UNIT_ENABLE: An HIF_FCTL write enables an engine unit if its scores meet RELEASE_TH. (R676) -/
  | fctlUnitEnable (u : Nat)
  /-- FCTL_UNIT_DISABLE: An HIF_FCTL write disables an engine unit, or is refused for radio use. (R609) -/
  | fctlUnitDisable (u : Nat)
  /-- FCTL_FH_PORT_ENABLE: An HIF_FCTL write enables a fronthaul port. (R609) -/
  | fctlFhPortEnable (p : Nat)
  /-- FCTL_FH_PORT_DISABLE: An HIF_FCTL write disables a fronthaul port, or is refused if a live cell's map names it. (R609) -/
  | fctlFhPortDisable (p : Nat)
  /-- FCTL_FAB_PORT_ENABLE: An HIF_FCTL write enables a fabric port. (R609) -/
  | fctlFabPortEnable (p : Nat)
  /-- FCTL_FAB_PORT_DISABLE: An HIF_FCTL write disables a fabric port, ending its plane's requests as at LOST. (R609) -/
  | fctlFabPortDisable (p : Nat)
  /-- VF_ENABLE_SET: Setting VF Enable starts VFs 0 to NumVFs − 1. (R586) -/
  | vfEnableSet
  /-- VF_ENABLE_CLEAR: Clearing VF Enable removes the VFs. (R586) -/
  | vfEnableClear
  /-- NUMVFS_WRITE: Reducing NumVFs removes the VFs that leave the range. (R586) -/
  | numvfsWrite (n : Nat)
  /-- FLR: A function-level reset disables and re-enables a VF, or stops PF0's queue pairs only. (R611) -/
  | flr (fn : Nat)
  /-- VF_STOP_COMPLETE: A stopping VF's work has ended and it reaches OFF, taking a pending enable. (R612) -/
  | vfStopComplete (fn : Nat)
  /-- APERTURE_READ: A host read through a function's aperture reaches a device address or returns zero. (R588) -/
  | apertureRead (fn : Nat) (ofs : Nat) (len : Nat)
  /-- APERTURE_WRITE: A host write through a function's aperture is applied or discarded. (R588) -/
  | apertureWrite (fn : Nat) (ofs : Nat) (bytes : List Byte)
  /-- ACCOUNT_BOUNDARY: At each 1 ms boundary all account counters change together, energy is apportioned and ACC_EPOCH increments. (R618) -/
  | accountBoundary
  /-- REGISTER_WRITE: A write to a register without a row of its own acts per its access code. (R16) -/
  | registerWrite (r : RegRef) (value : Nat)
  /-- RC_COUNTER_READ: A read of an RC counter returns its value and clears it. (R18) -/
  | rcCounterRead (r : RegRef)
  /-- LOW_HALF_READ: A 32-bit read of a 64-bit register's low half latches its high half. (R21) -/
  | lowHalfRead (r : RegRef)
  /-- REC_START: REC_START clears the log, writes START and enters RECORDING. (R656) -/
  | recStart
  /-- REC_STOP: REC_STOP writes STOP and enters IDLE. (R656) -/
  | recStop
  /-- REPLAY_START: REPLAY_START sets the counter from START and begins injecting logged inputs. (R650) -/
  | replayStart
  /-- REPLAY_STOP: REPLAY_STOP stops injecting and enters STOPPED. (R656) -/
  | replayStop
  /-- MARK: MARK writes a MARK record with RPL_ARG. (R656) -/
  | mark
  /-- PAUSE: PAUSE marks a context or model instance to be swapped out at its next boundary, or refuses it. (R635) -/
  | pause
  /-- RPL_RESUME: RESUME through RPL_CMD removes a pause mark or cancels a pending pause. (R638) -/
  | rplResume
  /-- EXPORT: EXPORT copies log bytes to the host by DMA. (R656) -/
  | exportLog
  /-- IMPORT: IMPORT copies a log from the host and evaluates REPLAYABLE. (R656) -/
  | importLog (bytes : List Byte)
  /-- CLEAR: CLEAR empties the log and enters IDLE. (R656) -/
  | clearLog
  /-- XFER_DONE: An EXPORT or IMPORT completes and sets XFER_DONE. (R657) -/
  | xferDone
  /-- RECORD_INJECT: During replay a logged input is injected at the first hub cycle at or after its stamp. (R650) -/
  | recordInject
  /-- OUTPUT_MISSING: A recorded output unmatched SLACK ms after its stamp is a MISSING divergence. (R652) -/
  | outputMissing
  /-- STOP_AT_REACHED: The counter reaches RPL_STOP_AT and injection stops. (R653) -/
  | stopAtReached
  /-- LOG_GAP_WRITE: When buffer room returns after dropped records the recorder writes one GAP record. (R645) -/
  | logGapWrite
  /-- SENTINEL_RESULT: A sentinel test completes and passes, adding RECOVER, or fails and is logged. (R670) -/
  | sentinelResult (u : Nat) (digest : DWord) (known : DWord) (clean : Bool)
  /-- UNIT_SHADOW_RESULT: A unit shadow comparison of three parts completes and finds a minority, no majority or agreement. (R671) -/
  | unitShadowResult (u0 : Nat) (u1 : Nat) (u2 : Nat) (d0 : DWord) (d1 : DWord) (d2 : DWord)
  /-- HEALTH_SENSOR_READ: Every 1 ms sensors are read to update temperature bins and conditional quarantines. (R664) -/
  | healthSensorRead (temps : List Int) (loads : List (Nat × Nat))
  /-- HEARTBEAT_SEND: At each heartbeat instant the device stores a heartbeat to its partner and stewards. (R679) -/
  | heartbeatSend
  /-- HEARTBEAT_PERIOD_END: A heartbeat period ends and missed periods lead to a steward query or self-fencing. (R685) -/
  | heartbeatPeriodEnd
  /-- TAKEOVER_UNMUTE: At the first slot boundary a heartbeat period after loss, a standby cell unmutes and writes held indications. (R689) -/
  | takeoverUnmute (n : Nat)
  /-- EXPEL_RETRY: A waiting expulsion request is sent again every 10 s. (R693) -/
  | expelRetry
  /-- STEWARD_TOKEN_REGAIN: A steward regains one expulsion token each EXPEL_WIN seconds. (R692) -/
  | stewardTokenRegain
  /-- EXPEL_GRANT: A steward holding a token and a ready spare grants the oldest waiting request. (R693) -/
  | expelGrant
  /-- WORK_HANDOVER: An expelled device hands mirrored work to its partner at boundaries and ends the rest with EXPELLED. (R695) -/
  | workHandover
  /-- SPARE_LOAD: The assigned spare takes image and mirrored state from the partner and takes ownership at a boundary. (R696) -/
  | spareLoad (node : Nat)
  /-- STEP_SHADOW_COMPARE: A shadow compares the digest of its run of a step with the mirrored digest. (R697) -/
  | stepShadowCompare (t : Nat) (slot : Nat) (step : Nat) (mine : DWord) (theirs : DWord)
  /-- SHADOW_RERUN_RESULT: A shadow's second run of a mismatched step confirms a wrong result or its own fault. (R698) -/
  | shadowRerunResult (t : Nat) (slot : Nat) (step : Nat) (mine : DWord) (theirs : DWord)
  /-- SPARE_TEST_DONE: Every test of a spare has passed and it enters SPARE_READY and registers with its steward. (R700) -/
  | spareTestDone
  /-- EXPEL: EXPEL through HLT_CMD requests expulsion with CAUSE host. (R706) -/
  | expel
  /-- UNFENCE: UNFENCE lifts the fence and resumes paused instances. (R706) -/
  | unfence
  /-- SHADOW_START: SHADOW_START enters SHADOW for the configured subject. (R706) -/
  | shadowStart
  /-- SHADOW_STOP: SHADOW_STOP returns to the role held before. (R706) -/
  | shadowStop
  /-- HLT_LOG_ACK: A host write acknowledges health log entries. (R660) -/
  | hltLogAck (n : Nat)
  /-- PWR_OK_ASSERT: PWR_OK assertion begins start at P0. (R708) -/
  | pwrOkAssert
  /-- START_PHASE_END: A start phase completes and the next begins, up to the first SERVE. (R708) -/
  | startPhaseEnd (full : Nat)
  /-- TRAINING_STORE_WRITE: After full training the device writes a fresh training record within 10 s of SERVE. (R727) -/
  | trainingStoreWrite
  /-- PERST_ASSERT: PERST# assertion resets the PCIe endpoint before SERVE, or acts as a restart without grace after it. (R712) -/
  | perstAssert
  /-- PERST_DEASSERT: PERST# deassertion starts from P0 after a restart or lets configuration space answer. (R712) -/
  | perstDeassert
  /-- PWR_OK_DEASSERT: PWR_OK deassertion stops the device within 1 µs with all state lost. (R759) -/
  | pwrOkDeassert
  /-- RESTART_ARM: RESTART_ARM sets the restart instant and raises restart-pending. (R729) -/
  | restartArm
  /-- RESTART_CANCEL: RESTART_CANCEL withdraws an armed restart. (R729) -/
  | restartCancel
  /-- RESTART_INSTANT: At the restart instant every ON cell receives a CELL_STOP. (R730) -/
  | restartInstant
  /-- RESTART_STOPPING: When the last cell is OFF the device enters STOPPING and every VF stops. (R730) -/
  | restartStopping
  /-- RESTART_RESET: When the last VF is OFF or 20 ms pass the device resets and starts from P0. (R730) -/
  | restartReset
  /-- COMMIT_SVN: COMMIT_SVN burns SVN_MIN up to the running image's SVN. (R745) -/
  | commitSvn (confirm : Nat)
  /-- TAKE_OWNER: TAKE_OWNER burns the owner key hash and sets OWNER_SET. (R745) -/
  | takeOwner (confirm : Nat)
  /-- FLASH_ERASE: ERASE erases 64 KiB sectors of the slot not in use. (R715) -/
  | flashErase
  /-- FLASH_PROGRAM: PROGRAM writes host bytes into the slot not in use. (R715) -/
  | flashProgram (bytes : List Byte)
  /-- FLASH_READ: READ copies flash bytes of the slot not in use to the host. (R715) -/
  | flashRead
  /-- FLASH_DONE: A flash command completes and sets DONE or ERROR. (R715) -/
  | flashDone (ok : Bool)
  /-- SEC_MR_EXT: A write of a register index extends MR12 to MR15 with SEC_MR_EXT_DATA. (R731) -/
  | secMrExt (idx : Nat)
  /-- GET_VERSION: The SPDM GET_VERSION request is answered. (R733) -/
  | getVersion
  /-- GET_CAPABILITIES: The SPDM GET_CAPABILITIES request is answered. (R733) -/
  | getCapabilities
  /-- NEGOTIATE_ALGORITHMS: The SPDM NEGOTIATE_ALGORITHMS request is answered. (R733) -/
  | negotiateAlgorithms (hash : Nat) (sig : Nat)
  /-- GET_DIGESTS: The SPDM GET_DIGESTS request is answered. (R733) -/
  | getDigests
  /-- GET_CERTIFICATE: The SPDM GET_CERTIFICATE request returns the slot 0 chain. (R733) -/
  | getCertificate (slot : Nat) (ofs : Nat) (len : Nat)
  /-- CHALLENGE: The SPDM CHALLENGE request is answered with the alias key. (R733) -/
  | challenge (slot : Nat) (nonce : BitVec 256)
  /-- GET_MEASUREMENTS: The SPDM GET_MEASUREMENTS request returns the signed measurement report. (R734) -/
  | getMeasurements (index : Nat) (signIt : Bool) (nonce : BitVec 256)
  /-- DBG_TOKEN: A debug token is presented and unlocks the port or raises the DEBUG alarm. (R741) -/
  | dbgToken (bytes : List Byte)
  /-- IDCODE: The IDCODE instruction returns 0x0964_0A01. (R773) -/
  | idcode
  /-- BYPASS: The BYPASS instruction selects the bypass register. (R773) -/
  | bypass
  /-- SAMPLE_PRELOAD: The SAMPLE/PRELOAD instruction samples or preloads the boundary-scan chain. (R773) -/
  | samplePreload (pins : BitVec 64)
  /-- EXTEST: The EXTEST instruction drives the boundary-scan chain while PERST# is asserted. (R773) -/
  | extest (pins : BitVec 64)
  /-- EXTEST_EXIT: Leaving EXTEST restarts the device from P0. (R773) -/
  | extestExit
  /-- SECURITY_ALARM: A security source fires and its configured action is taken. (R742) -/
  | securityAlarm (b : Nat)
  /-- TAMPER_CHECK: Every 10 µs TAMP_IN is compared with the bit driven on TAMP_OUT. (R772) -/
  | tamperCheck (tampIn : Bool) (next : Bool)
  /-- THERMTRIP: A sensor reaching 115 °C asserts THERMTRIP# and stops all clocks but the security unit's. (R771) -/
  | thermtrip
  /-- THERMAL_REVISION: Every 100 µs each die's thermal ceiling is lowered, raised or kept. (R761) -/
  | thermalRevision (temps : List Int)
  /-- POWER_REVISION: Every 10 µs the power controller revises power ceilings and inference holds against PLIMIT. (R762) -/
  | powerRevision (p10 : Nat) (p100 : Nat)
  /-- FAST_STEP: Input current reaching 44.5 A lowers non-radio dies by 4 and holds and stops inference on radio dies. (R764) -/
  | fastStep
  /-- SIGNAL_ON: Signal appears on an enabled fabric port in DOWN and the port enters TRAIN. (R527) -/
  | signalOn (p : Nat)
  /-- PTP_ANNOUNCE_TIMEOUT: PTP messages stop arriving on the selected port, so the port leaves the slave state and the PTP source is disqualified. (R66) -/
  | ptpAnnounceTimeout (port : Nat)
  deriving DecidableEq, Repr

end Sys2Proof
end

