-- ==== Sys2Proof/Config.lean ====
section
/-! DEFINITION. The values that the spec leaves open: constants with no body, so that nothing can be proved of them beyond their type. A fresh
value is drawn by applying one to the state's counter `drawn` (log entry 5). -/
namespace Sys2Proof.Config

/-- Rate correction of the clock servo, ppb, after a measurement of the selected source (R76 gives its limits only). -/
opaque rateCorr : Nat → Int

/-- Lock threshold of PTP Sync intervals, 1/64 Tc (R62 names it and gives no value). -/
opaque ptpLock : Nat

/-- Reading of a die's core rail, mV (R192 logs it; no register of the spec holds it). -/
opaque railMv : Nat → Nat

/-- A lane of a V register that two writes of one bundle reach in one cycle (R364, R367 give no order). -/
opaque chmClash : Nat → BitVec 32

/-- Functions of exponential type of the vector unit, by FUNC code, on binary32 bits (R272, R273: within 2 units in the last place). -/
opaque vecFn : Nat → Nat → Nat

/-- Maximum (true) or minimum of two binary32 values where IEEE 754 leaves it open: a NaN, or zeros of both signs (R272 gives no rule). -/
opaque vecMaxOpen : Bool → Nat → Nat → Nat

/-- Index that argmax or VSAMPLE gives for a row with a NaN, or whose sums are NaN (R273, R275 give no rule). -/
opaque vecPick : List Nat → Nat

/-- Element number under which the addition of a level and pair of the combining tree rounds stochastically (R273, R274 give none). -/
opaque treeElem : Nat → Nat → Nat

/-- Node-offset of a device's health mailbox: its image chooses it (R679). -/
opaque mailboxOfs : Nat → Nat

/-- Node-offset at a steward of the count of empty periods of a ward (R685 names a fetching atomic and no place). -/
opaque stewardOfs : Nat → Nat

/-- Layered min-sum decoding after a number of iterations (base graph, lifting size, information and CRC bits, buffered soft values): the
decoded bits, bit 0 first, and whether the syndrome is zero (R402 names the code of TS 38.212, whose tables the spec does not carry). -/
opaque ldpcIter : Nat → Nat → Nat → Nat → List (BitVec 8) → Nat × Bool

/-- Coded bit of a block of information and CRC bits (base graph, lifting size, bits, position) (R402, TS 38.212). -/
opaque ldpcCode : Nat → Nat → List Bool → Nat → Bool

/-- CRC_OK of a block that carries no CRC (R409 gives no rule). -/
opaque ldpcNoCrc : List Bool → Bool

/-- Polar list decoding (N, K, the flags of payload byte 42, RNTI, soft values): the decoded bits, CRC_OK and the path (R402, TS 38.212). -/
opaque polarDec : Nat → Nat → Nat → Nat → List (BitVec 8) → Nat × Bool × Nat

/-- Polar encoding with its CRC, interleaving and rate matching (N, K, E, flags, RNTI mask, bits): bit of a position (R402, TS 38.212). -/
opaque polarEnc : Nat → Nat → Nat → Nat → Nat → List Bool → Nat → Bool

/-- Bits of the last byte beyond the end of a bit string that a coding command stores (R403 does not say). -/
opaque padBits : List Bool → Nat → Bool

/-- Soft bits per code block under limited-buffer rate matching, by cell and number of code blocks (R381, R421; TS 38.212). -/
opaque lbrmRef : Nat → Nat → Nat

/-- Length in Tc of the PRACH occasions of a slot, by format, numerology and time occasions (R412, R437; TS 38.211). -/
opaque prachLen : Nat → Nat → Nat → Nat

/-- Resource blocks that an SRS sounds on a symbol, by resource blocks of the carrier, its PDU and the symbol (R421; TS 38.211). -/
opaque srsPrbs : Nat → List (BitVec 8) → Nat → List Nat

/-- Gain that the burst loop freezes, 0.25 dB units, from the first 64 samples and the target (R454 gives its result's accuracy only). -/
opaque bstGain : List (BitVec 32) → Nat → Int

/-- A burst sample scaled by a gain (R454 gives no rounding). -/
opaque bstScale : Int → BitVec 32 → BitVec 32

/-- Hard decision on a burst sample after rotation by the phase estimated over the preamble (R455 gives no estimator). -/
opaque bstDecide : List (BitVec 32) → BitVec 32 → Bool

/-- The bins of a burst symbol's FFT, divided, rounded and saturated (R459 gives no inner precision). -/
opaque bstFft : Nat → List (BitVec 32) → List (BitVec 32)

/-- MAC address of the radio unit of a stream, by port and eAxC ID (R429 to R431 name none). -/
opaque ruMac : Nat → Nat → Nat

/-- Symbol of the slot at which an SSB starts, by its case and block index (R420; TS 38.213). -/
opaque ssbSym : Nat → Nat → Nat

/-- Beamforming weights of a section: extension 1 with its compression, by cell, PDU and stream (R400, R445; the zero-forcing set is not
given to the bit). -/
opaque beamExt : Nat → List (BitVec 8) → Nat → List (BitVec 8)

/-- Modulation-compressed data of a section: extension 4 and the packed constellation points (R447; O-RAN.WG4.CUS). -/
opaque modExt : Nat → List (BitVec 8) → List (BitVec 8)
opaque modData : List (BitVec 8) → List (BitVec 32) → List (BitVec 8)

/-- C-plane section of a PRACH occasion after its first four bytes, by numerology, PDU and occasion (R445; O-RAN.WG4.CUS, TS 38.211). -/
opaque prachSect : Nat → List (BitVec 8) → Nat → List (BitVec 8)

/-- Shared x-coordinate of ECDH with the image wrapping private key, which only the device holds (R736). -/
opaque imageDh : List (BitVec 8) → List (BitVec 8)

/-- Shared x-coordinate of ECDH with the session wrapping private key of a start, named by the number drawn for it (R738). -/
opaque sessionDh : Nat → List (BitVec 8) → List (BitVec 8)

/-- Is a cell of this device mirrored by its partner (R683, R686: no register of the device says so)? -/
opaque cellMirrored : Nat → Bool

/-- The uniform value u of a NACK's back-off, in units of 2^-32 (R554: drawn from a generator that enters no result). -/
opaque backoff : Nat → Nat

/-- Energy of the 12 V input in a 1 ms interval, nJ: a measurement (R618). -/
opaque railNj : Nat → Nat

/-- Modelled idle and leakage energy of an interval, nJ (R618 names the activity model and does not give it). -/
opaque staticNj : Nat → Nat

/-- Modelled activity of an account in an interval, nJ (R618). -/
opaque dynNj : Nat → Nat → Nat

/-- `ACC_SCALE` after an interval whose modelled energy is zero (R618 divides by it). -/
opaque scaleOpen : Nat → Nat

/-- SHA-384 of Knader key k, as the boot ROM holds it (R720 gives no values). -/
opaque romKeyHash : Nat → BitVec 384

/-- Version of the boot ROM (R731 names it and gives no value). -/
opaque romVersion : Nat

/-- A fresh value of `SEC_DBG_NONCE` (R741: random). -/
opaque dbgNonce : Nat → BitVec 256

/-- Byte of the flash whose contents are undefined: after a power-off or an error during a command (R759). -/
opaque flashLost : Nat → Nat → BitVec 8

/-- Certificate chain of slot 0, device CA, identity and alias certificate, by MR0 to MR9 at start (R732, R733: issued by Knader and by keys that
only the device holds). -/
opaque certChain : List (BitVec 384) → List (BitVec 8)

/-- Signature of the alias key, by MR0 to MR9 at start, over bytes, with the random number of a draw (R732, R733). -/
opaque aliasSign : List (BitVec 384) → List (BitVec 8) → Nat → List (BitVec 8)

/-- Public keys of the image wrapping key, and of the session wrapping key drawn at a start (R732, R734). -/
opaque imagePub : List (BitVec 8)
opaque sessionPub : Nat → List (BitVec 8)

/-- Bytes that leave the recorder's hub buffer for Mere in a hub cycle (R645 gives no rate). -/
opaque logDrain : Nat → Nat

/-- Speed and width of the PCIe link, as trained (R623: no command of the spec sets them). -/
opaque hostLink : Nat

/-- Voltage and current of the 12 V input at a hub cycle: measurements (R782). -/
opaque pwrIn : Nat → Nat

/-- Does the Tarn of die d (at d) or its Mere (at 4 + d) report a temperature above 85 °C at a hub cycle: a measurement (R489)? -/
opaque memHot : Nat → Nat → Bool

/-- What a CUR register shows of a unit that runs no list (R200, R298, R303, R377 and R426 give its value while one runs). -/
opaque idleCur : Nat → Nat

end Sys2Proof.Config
end

