-- ==== Sys2Proof/Machine/Mem.lean ====
section
/-! DEFINITION. The byte storage of the package: one canonical sparse memory over the model's own numbering of every byte of storage
(log entry 3), and its reads and writes. -/
namespace Sys2Proof.Machine

/-- Sparse byte storage: addresses strictly rising, no listed byte zero; an unlisted byte reads 0 (log entry 4). -/
abbrev Mem := List Host.Cell

/-- The byte at an address. -/
def Mem.rd (m : Mem) (a : Nat) : Byte :=
  match m with
  | [] => 0
  | (b, v) :: r => if b = a then v else Mem.rd r a

/-- The cell list with a nonzero byte put at `a`. -/
def Mem.put (m : Mem) (a : Nat) (v : Byte) : Mem :=
  match m with
  | [] => [(a, v)]
  | (b, w) :: r => if a < b then (a, v) :: (b, w) :: r else if a = b then (a, v) :: r else (b, w) :: Mem.put r a v

/-- Bytes `a` to `a + n - 1` set to zero: their cells go. -/
def Mem.clear (m : Mem) (a n : Nat) : Mem := m.filter (fun c => !(decide (a ≤ c.1) && decide (c.1 < a + n)))

/-- One byte written. -/
def Mem.wr (m : Mem) (a : Nat) (v : Byte) : Mem := if v = 0 then m.clear a 1 else m.put a v

/-- Bytes written from `a` on. -/
def Mem.wrBytes (m : Mem) (a : Nat) (l : List Byte) : Mem :=
  match l with
  | [] => m
  | b :: r => Mem.wrBytes (m.wr a b) (a + 1) r

/-- `n` bytes read from `a` on. -/
def Mem.rdBytes (m : Mem) (a n : Nat) : List Byte :=
  match n with
  | 0 => []
  | n + 1 => m.rd a :: Mem.rdBytes m (a + 1) n

/-- The number that `n` bytes at `a` spell (R14). -/
def Mem.rdNat (m : Mem) (a n : Nat) : Nat := leNat (m.rdBytes a n)

/-- Bytes `src` to `src + n - 1`, as they stand, copied to `dst` on. -/
def Mem.copy (m : Mem) (src dst n : Nat) : Mem :=
  (m.filter (fun c => decide (src ≤ c.1) && decide (c.1 < src + n))).foldl
    (fun m' c => m'.wr (c.1 - src + dst) c.2) (m.clear dst n)

/-- Addresses strictly rise from above `lo`, and no byte is zero. -/
def Mem.wfFrom (lo : Nat) (m : Mem) : Bool :=
  match m with
  | [] => true
  | (a, v) :: r => decide (lo ≤ a) && v != 0 && Mem.wfFrom (a + 1) r

/-- The canonical form of the storage. -/
def Mem.wf (m : Mem) : Bool := Mem.wfFrom 0 m

/-- Storage number of byte `o` of cluster `c`'s Pool (R478: 8 MiB each). -/
def poolAt (c o : Nat) : Nat := c * 2 ^ 23 + o

/-- Storage number of byte `o` of 64 KiB frame `f` of die `d`'s Tarn. -/
def tarnAt (d f o : Nat) : Nat := 2 ^ 40 + d * 2 ^ 34 + f * 2 ^ 16 + o

/-- Storage number of byte `o` of 64 KiB frame `f` of die `d`'s Mere. -/
def mereAt (d f o : Nat) : Nat := 2 ^ 41 + d * 2 ^ 37 + f * 2 ^ 16 + o

/-- Storage number of cell (row `i`, column `j`) of Ibex array `a`; the column exponents follow at 0x1_0000. -/
def cellAt (a j i : Nat) : Nat := 2 ^ 42 + a * 2 ^ 17 + 256 * j + i

/-- Storage number of the KBF8 exponent of column `j` of array `a`. -/
def cellExpAt (a j : Nat) : Nat := 2 ^ 42 + a * 2 ^ 17 + 0x10000 + j

/-- Storage number of byte `o` of Chamois core `k`'s X (0), Y (1) or instruction memory (2). -/
def chmAt (k sel o : Nat) : Nat := 2 ^ 43 + k * 2 ^ 20 + sel * 2 ^ 18 + o

/-- Storage number of byte `o` of the save area of context `id` (R137). -/
def saveAt (id o : Nat) : Nat := 2 ^ 44 + id * 2 ^ 24 + o

/-- Storage number of byte `o` of the IBX spill area of array `a` (R130). -/
def spillAt (a o : Nat) : Nat := 2 ^ 45 + a * 2 ^ 17 + o

end Sys2Proof.Machine
end

