-- ==== Sys2Proof/Machine/RegMap.lean ====
section
/-! DEFINITION. The register map: the BAR2 address of every register that spec/ names (R589), with its width, access code and writable bits, as
the register tables of the chapters give them. -/
namespace Sys2Proof.Machine

/-- Access codes (R16). -/
inductive Acc where
  | ro | rw | rw1c | wo | rc | lk
  deriving DecidableEq, Repr

/-- A row of the map: first address, up to three index ranges as (count, stride), width in bytes, access code, writable (or clearable)
bits, value of a constant register, and whether the image may load it (After start "image"). -/
structure RegRow where
  base : Nat
  dims : List (Nat × Nat)
  width : Nat
  acc : Acc
  mask : Nat
  fix : Nat
  img : Bool
  dflt : Nat
  deriving DecidableEq, Repr

/-! Addresses, by the manual's names. -/
namespace Reg
abbrev TIM_ID : Nat := 0x100000
abbrev TIM_CFG : Nat := 0x100008
abbrev TIM_SRC_PRIO : Nat := 0x100010
abbrev TIM_STATUS : Nat := 0x100018
abbrev TIM_NOW : Nat := 0x100020
abbrev TIM_SNAP : Nat := 0x100028
abbrev TIM_CMD : Nat := 0x100030
abbrev TIM_OFFSET : Nat := 0x100038
abbrev TIM_FREQ : Nat := 0x10003c
abbrev TIM_FRAME_OFS : Nat := 0x100040
abbrev TIM_LEAP : Nat := 0x100048
abbrev TIM_SLEW : Nat := 0x100050
abbrev TIM_STEP_LIMIT : Nat := 0x100054
abbrev TIM_HOLD : Nat := 0x100058
abbrev TIM_PPS_CFG : Nat := 0x100060
abbrev TIM_TOD_CFG : Nat := 0x100068
abbrev TIM_PTP_CFG : Nat := 0x100070
abbrev TIM_BCN_CFG : Nat := 0x100078
abbrev TIM_BCN_ASYM : Nat := 0x100080
abbrev TIM_EVT : Nat := 0x100088
abbrev TIM_EVT_EN : Nat := 0x10008c
abbrev TIM_LATE_CNT : Nat := 0x100090
abbrev TIM_REFUSE_CNT : Nat := 0x100094
abbrev TIM_HOLD_TE : Nat := 0x100098
abbrev TIM_MAX_LEAD : Nat := 0x1000a0
abbrev TIM_GRP_SEL : Nat := 0x1000a8
abbrev TIM_GRP_STATE : Nat := 0x1000ac
abbrev TIM_GRP_STAMP : Nat := 0x1000b0
abbrev TIM_GRP_ABORT : Nat := 0x1000b8
abbrev TIM_CMP (i : Nat) : Nat := 0x100400 + 0x4 * i
abbrev TIM_KUD_CMP (i : Nat) : Nat := 0x100500 + 0x4 * i
abbrev CYC_ID (i : Nat) : Nat := 0x200000 + 0x20000 * i
abbrev CYC_CFG (i : Nat) : Nat := 0x200008 + 0x20000 * i
abbrev CYC_GUARD (i : Nat) : Nat := 0x20000c + 0x20000 * i
abbrev CYC_CUR (i : Nat) : Nat := 0x200010 + 0x20000 * i
abbrev CYC_NEXT_CLOSE (i : Nat) : Nat := 0x200018 + 0x20000 * i
abbrev CYC_EVT (i : Nat) : Nat := 0x200020 + 0x20000 * i
abbrev CYC_EVT_EN (i : Nat) : Nat := 0x200024 + 0x20000 * i
abbrev CYC_DEFER_CNT (i : Nat) : Nat := 0x200028 + 0x20000 * i
abbrev CYC_STOP_CNT (i : Nat) : Nat := 0x20002c + 0x20000 * i
abbrev CYC_OVR_CNT (i : Nat) : Nat := 0x200030 + 0x20000 * i
abbrev CYC_RADIO_OVR (i : Nat) : Nat := 0x200034 + 0x20000 * i
abbrev CYC_ENTRY (i j k2 : Nat) : Nat := 0x210000 + 0x20000 * i + 0x10 * j + 0x8 * k2
abbrev CLU_ID (i : Nat) : Nat := 0x400000 + 0x1000 * i
abbrev CLU_CFG (i : Nat) : Nat := 0x400008 + 0x1000 * i
abbrev CLU_STATE (i : Nat) : Nat := 0x400010 + 0x1000 * i
abbrev CLU_SLOT (i j : Nat) : Nat := 0x400018 + 0x1000 * i + 0x8 * j
abbrev CLU_POOL_FREE (i : Nat) : Nat := 0x400038 + 0x1000 * i
abbrev CLU_SWAPIN_CNT (i : Nat) : Nat := 0x400040 + 0x1000 * i
abbrev CLU_EVICT_CNT (i : Nat) : Nat := 0x400044 + 0x1000 * i
abbrev CLU_SWAPPED : Nat := 0x440000
abbrev CLU_REFUSE_CNT : Nat := 0x440008
abbrev CLU_TENANT (i : Nat) : Nat := 0x441000 + 0x8 * i
abbrev IBX_ID (i : Nat) : Nat := 0x500000 + 0x800 * i
abbrev IBX_STATE (i : Nat) : Nat := 0x500008 + 0x800 * i
abbrev IBX_REPAIR (i : Nat) : Nat := 0x500010 + 0x800 * i
abbrev IBX_CUR (i : Nat) : Nat := 0x500018 + 0x800 * i
abbrev IBX_ROW_CNT (i : Nat) : Nat := 0x500020 + 0x800 * i
abbrev IBX_BUSY_CYC (i : Nat) : Nat := 0x500028 + 0x800 * i
abbrev IBX_FREEZE_CYC (i : Nat) : Nat := 0x500030 + 0x800 * i
abbrev IBX_RAMP_CNT (i : Nat) : Nat := 0x500034 + 0x800 * i
abbrev IBX_RAMP_HID (i : Nat) : Nat := 0x500038 + 0x800 * i
abbrev IBX_CSUM_CNT (i : Nat) : Nat := 0x50003c + 0x800 * i
abbrev IBX_GATE_CYC (i : Nat) : Nat := 0x500040 + 0x800 * i
abbrev IBX_CS_CFG (i : Nat) : Nat := 0x540000 + 0x8000 * i
abbrev IBX_CS_HEAD (i : Nat) : Nat := 0x540004 + 0x8000 * i
abbrev IBX_CS_TAIL (i : Nat) : Nat := 0x540008 + 0x8000 * i
abbrev IBX_CS_COUNT (i : Nat) : Nat := 0x54000c + 0x8000 * i
abbrev IBX_CS_ACK (i : Nat) : Nat := 0x540010 + 0x8000 * i
abbrev IBX_CS_LOST (i : Nat) : Nat := 0x540014 + 0x8000 * i
abbrev IBX_CS_TOTAL (i : Nat) : Nat := 0x540018 + 0x8000 * i
abbrev IBX_RAMP_MASK (i : Nat) : Nat := 0x540020 + 0x8000 * i
abbrev IBX_CS_ENTRY (i j k2 : Nat) : Nat := 0x542000 + 0x8000 * i + 0x20 * j + 0x8 * k2
abbrev MOV_ID (i : Nat) : Nat := 0x900000 + 0x400 * i
abbrev MOV_STATE (i : Nat) : Nat := 0x900008 + 0x400 * i
abbrev MOV_CUR (i : Nat) : Nat := 0x900010 + 0x400 * i
abbrev MOV_LOCAL_BYTES (i : Nat) : Nat := 0x900018 + 0x400 * i
abbrev MOV_REMOTE_BYTES (i : Nat) : Nat := 0x900020 + 0x400 * i
abbrev MOV_DISCARD_BYTES (i : Nat) : Nat := 0x900028 + 0x400 * i
abbrev MOV_WAIT_CYC (i : Nat) : Nat := 0x900030 + 0x400 * i
abbrev MOV_CANCEL_SKIP (i : Nat) : Nat := 0x900034 + 0x400 * i
abbrev MOV_HQ (i j : Nat) : Nat := 0x900040 + 0x400 * i + 0x8 * j
abbrev MOV_SPLIT (i : Nat) : Nat := 0x940000 + 0x100 * i
abbrev MOV_RD_BYTES (i : Nat) : Nat := 0x940008 + 0x100 * i
abbrev MOV_WR_BYTES (i : Nat) : Nat := 0x940010 + 0x100 * i
abbrev MOV_RM_BYTES (i : Nat) : Nat := 0x940018 + 0x100 * i
abbrev MOV_RD_FULL (i : Nat) : Nat := 0x940020 + 0x100 * i
abbrev MOV_WR_FULL (i : Nat) : Nat := 0x940024 + 0x100 * i
abbrev MOV_RM_FULL (i : Nat) : Nat := 0x940028 + 0x100 * i
abbrev VEC_ID (i : Nat) : Nat := 0x800000 + 0x400 * i
abbrev VEC_STATE (i : Nat) : Nat := 0x800008 + 0x400 * i
abbrev VEC_CUR (i : Nat) : Nat := 0x800010 + 0x400 * i
abbrev VEC_BUSY_CYC (i : Nat) : Nat := 0x800018 + 0x400 * i
abbrev VEC_ELEMS (i : Nat) : Nat := 0x800020 + 0x400 * i
abbrev VEC_NAN_CNT (i : Nat) : Nat := 0x800028 + 0x400 * i
abbrev VEC_INF_CNT (i : Nat) : Nat := 0x80002c + 0x400 * i
abbrev VEC_SAMPLE_CNT (i : Nat) : Nat := 0x800030 + 0x400 * i
abbrev CHM_ID (i : Nat) : Nat := 0x600000 + 0x400 * i
abbrev CHM_CFG (i : Nat) : Nat := 0x600008 + 0x400 * i
abbrev CHM_STATE (i : Nat) : Nat := 0x600010 + 0x400 * i
abbrev CHM_CUR (i : Nat) : Nat := 0x600018 + 0x400 * i
abbrev CHM_PC (i : Nat) : Nat := 0x600020 + 0x400 * i
abbrev CHM_BUSY_CYC (i : Nat) : Nat := 0x600028 + 0x400 * i
abbrev CHM_STALL_CYC (i : Nat) : Nat := 0x600030 + 0x400 * i
abbrev CHM_XFER_CYC (i : Nat) : Nat := 0x600038 + 0x400 * i
abbrev CHM_MAC_CNT (i : Nat) : Nat := 0x600040 + 0x400 * i
abbrev CHM_SAT_CNT (i : Nat) : Nat := 0x600048 + 0x400 * i
abbrev CHM_AOVF_CNT (i : Nat) : Nat := 0x60004c + 0x400 * i
abbrev CHM_FAULT (i : Nat) : Nat := 0x600050 + 0x400 * i
abbrev CHM_OWNER (i : Nat) : Nat := 0x600058 + 0x400 * i
abbrev KUD_ID (i : Nat) : Nat := 0x700000 + 0x1000 * i
abbrev KUD_STATE (i : Nat) : Nat := 0x700008 + 0x1000 * i
abbrev KUD_CUR (i : Nat) : Nat := 0x700010 + 0x1000 * i
abbrev KUD_CCU (i : Nat) : Nat := 0x700018 + 0x1000 * i
abbrev KUD_BUSY_CYC (i : Nat) : Nat := 0x700020 + 0x1000 * i
abbrev KUD_XFER_CYC (i : Nat) : Nat := 0x700028 + 0x1000 * i
abbrev KUD_LDPC_CB (i : Nat) : Nat := 0x700030 + 0x1000 * i
abbrev KUD_LDPC_ITER (i : Nat) : Nat := 0x700038 + 0x1000 * i
abbrev KUD_CB_FAIL (i : Nat) : Nat := 0x700040 + 0x1000 * i
abbrev KUD_ITER_CAP (i : Nat) : Nat := 0x700044 + 0x1000 * i
abbrev KUD_POLAR_CNT (i : Nat) : Nat := 0x700048 + 0x1000 * i
abbrev KUD_POLAR_FAIL (i : Nat) : Nat := 0x70004c + 0x1000 * i
abbrev KUD_HARQ_RD_BYTES (i : Nat) : Nat := 0x700050 + 0x1000 * i
abbrev KUD_HARQ_WR_BYTES (i : Nat) : Nat := 0x700058 + 0x1000 * i
abbrev KUD_OVR_TC (i : Nat) : Nat := 0x700060 + 0x1000 * i
abbrev KUD_LATE_CNT (i : Nat) : Nat := 0x700064 + 0x1000 * i
abbrev FHL_ID : Nat := 0xd00000
abbrev FHL_PORT_CFG (i : Nat) : Nat := 0xd01000 + 0x100 * i
abbrev FHL_PORT_MAC (i : Nat) : Nat := 0xd01008 + 0x100 * i
abbrev FHL_PORT_STATE (i : Nat) : Nat := 0xd01010 + 0x100 * i
abbrev FHL_CNT (i j : Nat) : Nat := 0xd01020 + 0x100 * i + 0x4 * j
abbrev FHL_EAXC (i j : Nat) : Nat := 0xd20000 + 0x10 * i + 0x8 * j
abbrev FHL_CELL (i j : Nat) : Nat := 0xd40000 + 0x20 * i + 0x8 * j
abbrev FHL_BST_CFG (i : Nat) : Nat := 0xd50000 + 0x80 * i
abbrev FHL_BST_SYNC (i : Nat) : Nat := 0xd50008 + 0x80 * i
abbrev FHL_BST_LAST (i : Nat) : Nat := 0xd50010 + 0x80 * i
abbrev FHL_BST_STAT (i : Nat) : Nat := 0xd50018 + 0x80 * i
abbrev FHL_BST_CNT (i j : Nat) : Nat := 0xd50020 + 0x80 * i + 0x4 * j
abbrev SHP_ID : Nat := 0xc00000
abbrev SHP_CFG : Nat := 0xc00008
abbrev SHP_HIST_SEL : Nat := 0xc00010
abbrev SHP_HIST_CLR : Nat := 0xc00014
abbrev SHP_HIST_DEPTH (i : Nat) : Nat := 0xc00100 + 0x4 * i
abbrev SHP_HIST_DELAY (i : Nat) : Nat := 0xc00140 + 0x4 * i
abbrev SHP_PORT_CFG (i : Nat) : Nat := 0xc01000 + 0x20 * i
abbrev SHP_PORT_V (i : Nat) : Nat := 0xc01008 + 0x20 * i
abbrev SHP_DROP_GATE (i : Nat) : Nat := 0xc01010 + 0x20 * i
abbrev SHP_DROP_FULL (i : Nat) : Nat := 0xc01014 + 0x20 * i
abbrev SHP_TX_BYTES (i : Nat) : Nat := 0xc01018 + 0x20 * i
abbrev SHP_Q (i : Nat) : Nat := 0xc20000 + 0x8 * i
abbrev SHP_QSTAT (i : Nat) : Nat := 0xc40000 + 0x8 * i
abbrev MEM_ID : Nat := 0xa00000
abbrev MEM_CFG : Nat := 0xa00008
abbrev MEM_MIG_STATE : Nat := 0xa00010
abbrev MEM_MIG_PAGES : Nat := 0xa00018
abbrev MEM_MIG_BYTES : Nat := 0xa00020
abbrev MEM_NOOP_CNT : Nat := 0xa00028
abbrev MEM_DEFER_CNT : Nat := 0xa0002c
abbrev MEM_PT_HIT : Nat := 0xa00030
abbrev MEM_PT_MISS : Nat := 0xa00038
abbrev MEM_EVT : Nat := 0xa00040
abbrev MEM_EVT_EN : Nat := 0xa00044
abbrev MEM_LOG_HEAD : Nat := 0xa00048
abbrev MEM_LOG_TAIL : Nat := 0xa0004c
abbrev MEM_LOG_COUNT : Nat := 0xa00050
abbrev MEM_LOG_ACK : Nat := 0xa00054
abbrev MEM_LOG_LOST : Nat := 0xa00058
abbrev MEM_CLAIMS : Nat := 0xa00060
abbrev MEM_DIE_TARN_FREE (i : Nat) : Nat := 0xa10000 + 0x100 * i
abbrev MEM_DIE_MERE_FREE (i : Nat) : Nat := 0xa10004 + 0x100 * i
abbrev MEM_DIE_RSV (i : Nat) : Nat := 0xa10008 + 0x100 * i
abbrev MEM_DIE_TARN_CE (i : Nat) : Nat := 0xa10010 + 0x100 * i
abbrev MEM_DIE_TARN_UE (i : Nat) : Nat := 0xa10014 + 0x100 * i
abbrev MEM_DIE_MERE_CE (i : Nat) : Nat := 0xa10018 + 0x100 * i
abbrev MEM_DIE_MERE_UE (i : Nat) : Nat := 0xa1001c + 0x100 * i
abbrev MEM_DIE_REFRESH (i : Nat) : Nat := 0xa10020 + 0x100 * i
abbrev MEM_DIE_HUB_SLOTS (i : Nat) : Nat := 0xa10028 + 0x100 * i
abbrev MEM_TENANT_QUOTA (i : Nat) : Nat := 0xa20000 + 0x20 * i
abbrev MEM_TENANT_USE (i : Nat) : Nat := 0xa20008 + 0x20 * i
abbrev MEM_TENANT_MIG (i : Nat) : Nat := 0xa20010 + 0x20 * i
abbrev MEM_LOG_ENTRY (i j : Nat) : Nat := 0xa30000 + 0x10 * i + 0x8 * j
abbrev FAB_ID : Nat := 0xb00000
abbrev FAB_NODE : Nat := 0xb00008
abbrev FAB_CFG : Nat := 0xb0000c
abbrev FAB_NACK_DELAY : Nat := 0xb00010
abbrev FAB_RADIO_JOB : Nat := 0xb00014
abbrev FAB_RW_CFG : Nat := 0xb00018
abbrev FAB_EVT : Nat := 0xb00020
abbrev FAB_EVT_EN : Nat := 0xb00024
abbrev FAB_OUTSTANDING : Nat := 0xb00028
abbrev FAB_RC_USE : Nat := 0xb0002c
abbrev FAB_INQ : Nat := 0xb00030
abbrev FAB_NACK_TX : Nat := 0xb00034
abbrev FAB_NACK_RX : Nat := 0xb00038
abbrev FAB_TIMEOUT_CNT : Nat := 0xb0003c
abbrev FAB_LOST_CNT : Nat := 0xb00040
abbrev FAB_REISSUE_CNT : Nat := 0xb00044
abbrev FAB_UNKNOWN_CNT : Nat := 0xb00048
abbrev FAB_RC_HIT : Nat := 0xb0004c
abbrev FAB_RC_EXPIRED : Nat := 0xb00050
abbrev FAB_RATC_FAULT : Nat := 0xb00054
abbrev FAB_LATE_RESP : Nat := 0xb00058
abbrev FAB_ROUTE_CNT : Nat := 0xb0005c
abbrev FAB_HUB_QMAP (i : Nat) : Nat := 0xb00100 + 0x8 * i
abbrev FAB_RATC_W0 : Nat := 0xb00200
abbrev FAB_RATC_W1 : Nat := 0xb00208
abbrev FAB_RATC_IDX : Nat := 0xb00210
abbrev FAB_RATC_CMD : Nat := 0xb00214
abbrev FAB_RATC_RESULT : Nat := 0xb00218
abbrev FAB_RATC_USE : Nat := 0xb0021c
abbrev FAB_PORT_STATE (i : Nat) : Nat := 0xb01000 + 0x100 * i
abbrev FAB_PORT_FLITS_TX (i : Nat) : Nat := 0xb01008 + 0x100 * i
abbrev FAB_PORT_FLITS_RX (i : Nat) : Nat := 0xb01010 + 0x100 * i
abbrev FAB_PORT_REPLAY (i : Nat) : Nat := 0xb01018 + 0x100 * i
abbrev FAB_PORT_CRC (i : Nat) : Nat := 0xb0101c + 0x100 * i
abbrev FAB_PORT_FEC_CE (i : Nat) : Nat := 0xb01020 + 0x100 * i
abbrev FAB_PORT_LOST (i : Nat) : Nat := 0xb01028 + 0x100 * i
abbrev FAB_REG_OUT (i : Nat) : Nat := 0xb02000 + 0x40 * i
abbrev FAB_QMAP (i : Nat) : Nat := 0xb02008 + 0x40 * i
abbrev FAB_REG_TRACK_WAIT (i : Nat) : Nat := 0xb02010 + 0x40 * i
abbrev FAB_JOB (i : Nat) : Nat := 0xb10000 + 0x4 * i
abbrev FAB_RW_NODE (i : Nat) : Nat := 0xb20000 + 0x4 * i
abbrev FAB_SSI_IN (i : Nat) : Nat := 0xb30000 + 0x10 * i
abbrev FAB_SSI_OUT (i : Nat) : Nat := 0xb30008 + 0x10 * i
abbrev HIF_ID : Nat := 0xe00000
abbrev HIF_CFG : Nat := 0xe00008
abbrev HIF_LINK : Nat := 0xe00010
abbrev HIF_EVT : Nat := 0xe00018
abbrev HIF_EVT_EN : Nat := 0xe0001c
abbrev HIF_GEN_DROP : Nat := 0xe00020
abbrev HIF_QOFF_DROP : Nat := 0xe00024
abbrev HIF_FCTL : Nat := 0xe00028
abbrev HIF_FSTATE : Nat := 0xe0002c
abbrev HIF_VF (i : Nat) : Nat := 0xe01000 + 0x8 * i
abbrev HIF_VF_CFG (i : Nat) : Nat := 0xe04000 + 0x8 * i
abbrev ACC_ID : Nat := 0x1100000
abbrev ACC_EPOCH : Nat := 0x1100008
abbrev ACC_RAIL_UJ : Nat := 0x1100010
abbrev ACC_SCALE : Nat := 0x1100018
abbrev ACC_ACCT (i j : Nat) : Nat := 0x1110000 + 0x100 * i + 0x8 * j
abbrev RPL_ID : Nat := 0x1200000
abbrev RPL_CFG : Nat := 0x1200008
abbrev RPL_AREA : Nat := 0x120000c
abbrev RPL_STATE : Nat := 0x1200010
abbrev RPL_CMD : Nat := 0x1200014
abbrev RPL_ARG : Nat := 0x1200018
abbrev RPL_HEAD : Nat := 0x1200020
abbrev RPL_NEXT_SEQ : Nat := 0x1200028
abbrev RPL_STOP_AT : Nat := 0x1200030
abbrev RPL_EVT : Nat := 0x1200038
abbrev RPL_EVT_EN : Nat := 0x120003c
abbrev RPL_DROP_CNT : Nat := 0x1200040
abbrev RPL_SKIP_CNT : Nat := 0x1200044
abbrev RPL_PAUSE : Nat := 0x1200048
abbrev RPL_DIV_KEY0 : Nat := 0x1200050
abbrev RPL_DIV_KEY1 : Nat := 0x1200058
abbrev RPL_DIV_KIND : Nat := 0x1200060
abbrev RPL_DIV_STAMP : Nat := 0x1200068
abbrev RPL_DIV_EXP : Nat := 0x1200070
abbrev RPL_DIV_GOT : Nat := 0x1200078
abbrev RPL_XFER_HOST : Nat := 0x1200080
abbrev RPL_XFER_OFS : Nat := 0x1200088
abbrev RPL_XFER_LEN : Nat := 0x1200090
abbrev HLT_ID : Nat := 0x1000000
abbrev HLT_CFG : Nat := 0x1000008
abbrev HLT_STATE : Nat := 0x1000010
abbrev HLT_DOMAIN : Nat := 0x1000018
abbrev HLT_PARTNER : Nat := 0x1000020
abbrev HLT_PAIR : Nat := 0x1000028
abbrev HLT_CMD : Nat := 0x100002c
abbrev HLT_EVT : Nat := 0x1000030
abbrev HLT_EVT_EN : Nat := 0x1000034
abbrev HLT_LOG_HEAD : Nat := 0x1000038
abbrev HLT_LOG_TAIL : Nat := 0x100003c
abbrev HLT_LOG_COUNT : Nat := 0x1000040
abbrev HLT_LOG_ACK : Nat := 0x1000044
abbrev HLT_LOG_LOST : Nat := 0x1000048
abbrev HLT_SENT_PASS : Nat := 0x100004c
abbrev HLT_SENT_FAIL : Nat := 0x1000050
abbrev HLT_USHADOW_MISS : Nat := 0x1000054
abbrev HLT_EXPEL : Nat := 0x1000058
abbrev HLT_SHADOW : Nat := 0x1000060
abbrev HLT_SHADOW_STATE : Nat := 0x1000068
abbrev HLT_MIRROR_BYTES : Nat := 0x1000070
abbrev HLT_SEL : Nat := 0x1000078
abbrev HLT_SEL_STATE : Nat := 0x100007c
abbrev HLT_SCORE (i : Nat) : Nat := 0x1000080 + 0x4 * i
abbrev HLT_CELL_SB (i : Nat) : Nat := 0x1001000 + 0x8 * i
abbrev HLT_LOG_ENTRY (i j : Nat) : Nat := 0x1002000 + 0x20 * i + 0x8 * j
abbrev HLT_WARD (i : Nat) : Nat := 0x1004000 + 0x8 * i
abbrev HLT_TENANT (i : Nat) : Nat := 0x1008000 + 0x4 * i
abbrev HUB_ID : Nat := 0x0
abbrev HUB_IDENT : Nat := 0x8
abbrev HUB_SERIAL : Nat := 0x10
abbrev HUB_STATE : Nat := 0x18
abbrev HUB_START : Nat := 0x20
abbrev HUB_START_MS : Nat := 0x28
abbrev HUB_CFG : Nat := 0x30
abbrev HUB_CMD : Nat := 0x34
abbrev HUB_RESTART_AT : Nat := 0x38
abbrev HUB_STANDBY : Nat := 0x40
abbrev HUB_SLOT_A : Nat := 0x48
abbrev HUB_SLOT_B : Nat := 0x50
abbrev HUB_FUSE : Nat := 0x58
abbrev HUB_EVT : Nat := 0x5c
abbrev HUB_FLASH_HOST : Nat := 0x60
abbrev HUB_FLASH_OFS : Nat := 0x68
abbrev HUB_FLASH_LEN : Nat := 0x6c
abbrev HUB_FLASH_CMD : Nat := 0x70
abbrev HUB_FLASH_STAT : Nat := 0x74
abbrev SEC_ID : Nat := 0xf00000
abbrev SEC_CFG : Nat := 0xf00008
abbrev SEC_STATE : Nat := 0xf00010
abbrev SEC_ALARM : Nat := 0xf00018
abbrev SEC_ALARM_ACT : Nat := 0xf00020
abbrev SEC_ALARM_STAMP : Nat := 0xf00028
abbrev SEC_MR_EXT : Nat := 0xf00030
abbrev SEC_MR_EXT_DATA (i : Nat) : Nat := 0xf00040 + 0x4 * i
abbrev SEC_DBG_NONCE (i : Nat) : Nat := 0xf00080 + 0x4 * i
abbrev SEC_MR (i j : Nat) : Nat := 0xf00200 + 0x40 * i + 0x4 * j
abbrev SEC_TENANT (i : Nat) : Nat := 0xf00800 + 0x4 * i
abbrev SEC_SIGNER (i j : Nat) : Nat := 0xf02000 + 0x40 * i + 0x4 * j
abbrev SEC_KEY_STATE (i : Nat) : Nat := 0xf03000 + 0x4 * i
abbrev HUB_PWR_IN : Nat := 0x200
abbrev HUB_PWR_W : Nat := 0x204
abbrev HUB_CCLK : Nat := 0x208
abbrev HUB_CEIL : Nat := 0x210
abbrev HUB_THR_EVT : Nat := 0x218
abbrev HUB_THR_EVT_EN : Nat := 0x21c
abbrev HUB_THR_CNT : Nat := 0x220
abbrev HUB_TEMP (i : Nat) : Nat := 0x240 + 0x4 * i
end Reg

/-- Rows of the TIM_ block. -/
def regRowsTim : List RegRow := [
  ⟨0x100000, [], 4, .ro, 0x0, 0x10a01, false, 0⟩,
  ⟨0x100008, [], 4, .lk, 0x0, 0x0, true, 0⟩,
  ⟨0x100010, [], 4, .lk, 0x0, 0x0, true, 0⟩,
  ⟨0x100018, [], 4, .ro, 0x0, 0x0, false, 0⟩,
  ⟨0x100020, [], 8, .ro, 0x0, 0x0, false, 0⟩,
  ⟨0x100028, [], 8, .ro, 0x0, 0x0, false, 0⟩,
  ⟨0x100030, [], 4, .wo, 0x0, 0x0, false, 0⟩,
  ⟨0x100038, [], 4, .ro, 0x0, 0x0, false, 0⟩,
  ⟨0x10003c, [], 4, .ro, 0x0, 0x0, false, 0⟩,
  ⟨0x100040, [], 4, .lk, 0x0, 0x0, true, 0⟩,
  ⟨0x100048, [], 4, .ro, 0x0, 0x0, false, 0⟩,
  ⟨0x100050, [], 4, .lk, 0x0, 0x0, true, 2000⟩,
  ⟨0x100054, [], 4, .lk, 0x0, 0x0, true, 1000⟩,
  ⟨0x100058, [], 8, .lk, 0x0, 0x0, true, 4724464091186⟩,
  ⟨0x100060, [], 4, .lk, 0x0, 0x0, true, 0⟩,
  ⟨0x100068, [], 4, .lk, 0x0, 0x0, true, 0⟩,
  ⟨0x100070, [], 4, .lk, 0x0, 0x0, true, 0⟩,
  ⟨0x100078, [], 8, .lk, 0x0, 0x0, true, 0⟩,
  ⟨0x100080, [], 4, .rw, 0xffffffff, 0x0, true, 0⟩,
  ⟨0x100088, [], 4, .rw1c, 0x1ff, 0x0, false, 0⟩,
  ⟨0x10008c, [], 4, .rw, 0x1ff, 0x0, true, 0⟩,
  ⟨0x100090, [], 4, .rc, 0x0, 0x0, false, 0⟩,
  ⟨0x100094, [], 4, .rc, 0x0, 0x0, false, 0⟩,
  ⟨0x100098, [], 4, .ro, 0x0, 0x0, false, 0⟩,
  ⟨0x1000a0, [], 4, .lk, 0x0, 0x0, true, 1024⟩,
  ⟨0x1000a8, [], 4, .rw, 0xff, 0x0, false, 0⟩,
  ⟨0x1000ac, [], 4, .ro, 0x0, 0x0, false, 0⟩,
  ⟨0x1000b0, [], 8, .ro, 0x0, 0x0, false, 0⟩,
  ⟨0x1000b8, [], 4, .wo, 0x0, 0x0, false, 0⟩,
  ⟨0x100400, [(48, 0x4)], 4, .ro, 0x0, 0x0, false, 0⟩,
  ⟨0x100500, [(12, 0x4)], 4, .ro, 0x0, 0x0, false, 0⟩]

/-- Rows of the CYC_ block. -/
def regRowsCyc : List RegRow := [
  ⟨0x200000, [(12, 0x20000)], 4, .ro, 0x0, 0x10c01, false, 0⟩,
  ⟨0x200008, [(12, 0x20000)], 4, .lk, 0x0, 0x0, true, 131072⟩,
  ⟨0x20000c, [(12, 0x20000)], 4, .lk, 0x0, 0x0, true, 11797⟩,
  ⟨0x200010, [(12, 0x20000)], 4, .ro, 0x0, 0x0, false, 0⟩,
  ⟨0x200018, [(12, 0x20000)], 8, .ro, 0x0, 0x0, false, 0⟩,
  ⟨0x200020, [(12, 0x20000)], 4, .rw1c, 0x1f, 0x0, false, 0⟩,
  ⟨0x200024, [(12, 0x20000)], 4, .rw, 0x1f, 0x0, true, 0⟩,
  ⟨0x200028, [(12, 0x20000)], 4, .rc, 0x0, 0x0, false, 0⟩,
  ⟨0x20002c, [(12, 0x20000)], 4, .rc, 0x0, 0x0, false, 0⟩,
  ⟨0x200030, [(12, 0x20000)], 4, .rc, 0x0, 0x0, false, 0⟩,
  ⟨0x200034, [(12, 0x20000)], 4, .rc, 0x0, 0x0, false, 0⟩,
  ⟨0x210000, [(12, 0x20000), (4096, 0x10), (2, 0x8)], 8, .lk, 0x0, 0x0, true, 0⟩]

/-- Rows of the CLU_ block. -/
def regRowsClu : List RegRow := [
  ⟨0x400000, [(48, 0x1000)], 4, .ro, 0x0, 0x10d01, false, 0⟩,
  ⟨0x400008, [(48, 0x1000)], 4, .lk, 0x0, 0x0, true, 0⟩,
  ⟨0x400010, [(48, 0x1000)], 4, .ro, 0x0, 0x0, false, 0⟩,
  ⟨0x400018, [(48, 0x1000), (4, 0x8)], 8, .ro, 0x0, 0x0, false, 0⟩,
  ⟨0x400038, [(48, 0x1000)], 4, .ro, 0x0, 0x0, false, 0⟩,
  ⟨0x400040, [(48, 0x1000)], 4, .rc, 0x0, 0x0, false, 0⟩,
  ⟨0x400044, [(48, 0x1000)], 4, .rc, 0x0, 0x0, false, 0⟩,
  ⟨0x440000, [], 4, .ro, 0x0, 0x0, false, 0⟩,
  ⟨0x440008, [], 4, .rc, 0x0, 0x0, false, 0⟩,
  ⟨0x441000, [(1024, 0x8)], 8, .lk, 0x0, 0x0, true, 0⟩]

/-- Rows of the IBX_ block. -/
def regRowsIbx : List RegRow := [
  ⟨0x500000, [(96, 0x800)], 4, .ro, 0x0, 0x10e01, false, 0⟩,
  ⟨0x500008, [(96, 0x800)], 4, .ro, 0x0, 0x0, false, 0⟩,
  ⟨0x500010, [(96, 0x800)], 8, .ro, 0x0, 0x0, false, 0⟩,
  ⟨0x500018, [(96, 0x800)], 8, .ro, 0x0, 0x0, false, 0⟩,
  ⟨0x500020, [(96, 0x800)], 8, .rc, 0x0, 0x0, false, 0⟩,
  ⟨0x500028, [(96, 0x800)], 8, .rc, 0x0, 0x0, false, 0⟩,
  ⟨0x500030, [(96, 0x800)], 4, .rc, 0x0, 0x0, false, 0⟩,
  ⟨0x500034, [(96, 0x800)], 4, .rc, 0x0, 0x0, false, 0⟩,
  ⟨0x500038, [(96, 0x800)], 4, .rc, 0x0, 0x0, false, 0⟩,
  ⟨0x50003c, [(96, 0x800)], 4, .rc, 0x0, 0x0, false, 0⟩,
  ⟨0x500040, [(96, 0x800)], 4, .rc, 0x0, 0x0, false, 0⟩,
  ⟨0x540000, [(12, 0x8000)], 4, .rw, 0x1, 0x0, true, 0⟩,
  ⟨0x540004, [(12, 0x8000)], 4, .ro, 0x0, 0x0, false, 0⟩,
  ⟨0x540008, [(12, 0x8000)], 4, .ro, 0x0, 0x0, false, 0⟩,
  ⟨0x54000c, [(12, 0x8000)], 4, .ro, 0x0, 0x0, false, 0⟩,
  ⟨0x540010, [(12, 0x8000)], 4, .wo, 0x0, 0x0, false, 0⟩,
  ⟨0x540014, [(12, 0x8000)], 4, .rc, 0x0, 0x0, false, 0⟩,
  ⟨0x540018, [(12, 0x8000)], 4, .ro, 0x0, 0x0, false, 0⟩,
  ⟨0x540020, [(12, 0x8000)], 4, .ro, 0x0, 0x0, false, 0⟩,
  ⟨0x542000, [(12, 0x8000), (512, 0x20), (4, 0x8)], 8, .ro, 0x0, 0x0, false, 0⟩]

/-- Rows of the MOV_ block. -/
def regRowsMov : List RegRow := [
  ⟨0x900000, [(48, 0x400)], 4, .ro, 0x0, 0x10f01, false, 0⟩,
  ⟨0x900008, [(48, 0x400)], 4, .ro, 0x0, 0x0, false, 0⟩,
  ⟨0x900010, [(48, 0x400)], 8, .ro, 0x0, 0x0, false, 0⟩,
  ⟨0x900018, [(48, 0x400)], 8, .rc, 0x0, 0x0, false, 0⟩,
  ⟨0x900020, [(48, 0x400)], 8, .rc, 0x0, 0x0, false, 0⟩,
  ⟨0x900028, [(48, 0x400)], 8, .rc, 0x0, 0x0, false, 0⟩,
  ⟨0x900030, [(48, 0x400)], 4, .rc, 0x0, 0x0, false, 0⟩,
  ⟨0x900034, [(48, 0x400)], 4, .rc, 0x0, 0x0, false, 0⟩,
  ⟨0x900040, [(48, 0x400), (4, 0x8)], 8, .ro, 0x0, 0x0, false, 0⟩,
  ⟨0x940000, [(12, 0x100)], 4, .lk, 0x0, 0x0, true, 0⟩,
  ⟨0x940008, [(12, 0x100)], 8, .rc, 0x0, 0x0, false, 0⟩,
  ⟨0x940010, [(12, 0x100)], 8, .rc, 0x0, 0x0, false, 0⟩,
  ⟨0x940018, [(12, 0x100)], 8, .rc, 0x0, 0x0, false, 0⟩,
  ⟨0x940020, [(12, 0x100)], 4, .rc, 0x0, 0x0, false, 0⟩,
  ⟨0x940024, [(12, 0x100)], 4, .rc, 0x0, 0x0, false, 0⟩,
  ⟨0x940028, [(12, 0x100)], 4, .rc, 0x0, 0x0, false, 0⟩]

/-- Rows of the VEC_ block. -/
def regRowsVec : List RegRow := [
  ⟨0x800000, [(48, 0x400)], 4, .ro, 0x0, 0x11001, false, 0⟩,
  ⟨0x800008, [(48, 0x400)], 4, .ro, 0x0, 0x0, false, 0⟩,
  ⟨0x800010, [(48, 0x400)], 8, .ro, 0x0, 0x0, false, 0⟩,
  ⟨0x800018, [(48, 0x400)], 8, .rc, 0x0, 0x0, false, 0⟩,
  ⟨0x800020, [(48, 0x400)], 8, .rc, 0x0, 0x0, false, 0⟩,
  ⟨0x800028, [(48, 0x400)], 4, .rc, 0x0, 0x0, false, 0⟩,
  ⟨0x80002c, [(48, 0x400)], 4, .rc, 0x0, 0x0, false, 0⟩,
  ⟨0x800030, [(48, 0x400)], 4, .rc, 0x0, 0x0, false, 0⟩]

/-- Rows of the CHM_ block. -/
def regRowsChm : List RegRow := [
  ⟨0x600000, [(192, 0x400)], 4, .ro, 0x0, 0x11101, false, 0⟩,
  ⟨0x600008, [(192, 0x400)], 4, .lk, 0x0, 0x0, true, 0⟩,
  ⟨0x600010, [(192, 0x400)], 4, .ro, 0x0, 0x0, false, 0⟩,
  ⟨0x600018, [(192, 0x400)], 8, .ro, 0x0, 0x0, false, 0⟩,
  ⟨0x600020, [(192, 0x400)], 4, .ro, 0x0, 0x0, false, 0⟩,
  ⟨0x600028, [(192, 0x400)], 8, .rc, 0x0, 0x0, false, 0⟩,
  ⟨0x600030, [(192, 0x400)], 8, .rc, 0x0, 0x0, false, 0⟩,
  ⟨0x600038, [(192, 0x400)], 8, .rc, 0x0, 0x0, false, 0⟩,
  ⟨0x600040, [(192, 0x400)], 8, .rc, 0x0, 0x0, false, 0⟩,
  ⟨0x600048, [(192, 0x400)], 4, .rc, 0x0, 0x0, false, 0⟩,
  ⟨0x60004c, [(192, 0x400)], 4, .rc, 0x0, 0x0, false, 0⟩,
  ⟨0x600050, [(192, 0x400)], 8, .ro, 0x0, 0x0, false, 0⟩,
  ⟨0x600058, [(192, 0x400)], 4, .ro, 0x0, 0x0, false, 0⟩]

/-- Rows of the KUD_ block. -/
def regRowsKud : List RegRow := [
  ⟨0x700000, [(12, 0x1000)], 4, .ro, 0x0, 0x11201, false, 0⟩,
  ⟨0x700008, [(12, 0x1000)], 4, .ro, 0x0, 0x0, false, 0⟩,
  ⟨0x700010, [(12, 0x1000)], 8, .ro, 0x0, 0x0, false, 0⟩,
  ⟨0x700018, [(12, 0x1000)], 4, .ro, 0x0, 0x0, false, 0⟩,
  ⟨0x700020, [(12, 0x1000)], 8, .rc, 0x0, 0x0, false, 0⟩,
  ⟨0x700028, [(12, 0x1000)], 8, .rc, 0x0, 0x0, false, 0⟩,
  ⟨0x700030, [(12, 0x1000)], 8, .rc, 0x0, 0x0, false, 0⟩,
  ⟨0x700038, [(12, 0x1000)], 8, .rc, 0x0, 0x0, false, 0⟩,
  ⟨0x700040, [(12, 0x1000)], 4, .rc, 0x0, 0x0, false, 0⟩,
  ⟨0x700044, [(12, 0x1000)], 4, .rc, 0x0, 0x0, false, 0⟩,
  ⟨0x700048, [(12, 0x1000)], 4, .rc, 0x0, 0x0, false, 0⟩,
  ⟨0x70004c, [(12, 0x1000)], 4, .rc, 0x0, 0x0, false, 0⟩,
  ⟨0x700050, [(12, 0x1000)], 8, .rc, 0x0, 0x0, false, 0⟩,
  ⟨0x700058, [(12, 0x1000)], 8, .rc, 0x0, 0x0, false, 0⟩,
  ⟨0x700060, [(12, 0x1000)], 4, .rc, 0x0, 0x0, false, 0⟩,
  ⟨0x700064, [(12, 0x1000)], 4, .rc, 0x0, 0x0, false, 0⟩]

/-- Rows of the FHL_ block. -/
def regRowsFhl : List RegRow := [
  ⟨0xd00000, [], 4, .ro, 0x0, 0x11301, false, 0⟩,
  ⟨0xd01000, [(16, 0x100)], 8, .lk, 0x0, 0x0, true, 0⟩,
  ⟨0xd01008, [(16, 0x100)], 8, .lk, 0x0, 0x0, true, 0⟩,
  ⟨0xd01010, [(16, 0x100)], 4, .ro, 0x0, 0x0, false, 0⟩,
  ⟨0xd01020, [(16, 0x100), (15, 0x4)], 4, .rc, 0x0, 0x0, false, 0⟩,
  ⟨0xd20000, [(8192, 0x10), (2, 0x8)], 8, .lk, 0x0, 0x0, true, 0⟩,
  ⟨0xd40000, [(512, 0x20), (4, 0x8)], 8, .lk, 0x0, 0x0, true, 0⟩,
  ⟨0xd50000, [(32, 0x80)], 8, .lk, 0x0, 0x0, true, 37879808⟩,
  ⟨0xd50008, [(32, 0x80)], 8, .lk, 0x0, 0x0, true, 0⟩,
  ⟨0xd50010, [(32, 0x80)], 8, .ro, 0x0, 0x0, false, 0⟩,
  ⟨0xd50018, [(32, 0x80)], 4, .ro, 0x0, 0x0, false, 0⟩,
  ⟨0xd50020, [(32, 0x80), (8, 0x4)], 4, .rc, 0x0, 0x0, false, 0⟩]

/-- Rows of the SHP_ block. -/
def regRowsShp : List RegRow := [
  ⟨0xc00000, [], 4, .ro, 0x0, 0x11401, false, 0⟩,
  ⟨0xc00008, [], 4, .lk, 0x0, 0x0, true, 0⟩,
  ⟨0xc00010, [], 4, .rw, 0x3fff, 0x0, false, 0⟩,
  ⟨0xc00014, [], 4, .wo, 0x0, 0x0, false, 0⟩,
  ⟨0xc00100, [(16, 0x4)], 4, .ro, 0x0, 0x0, false, 0⟩,
  ⟨0xc00140, [(16, 0x4)], 4, .ro, 0x0, 0x0, false, 0⟩,
  ⟨0xc01000, [(19, 0x20)], 4, .lk, 0x0, 0x0, true, 0⟩,
  ⟨0xc01008, [(19, 0x20)], 8, .ro, 0x0, 0x0, false, 0⟩,
  ⟨0xc01010, [(19, 0x20)], 4, .rc, 0x0, 0x0, false, 0⟩,
  ⟨0xc01014, [(19, 0x20)], 4, .rc, 0x0, 0x0, false, 0⟩,
  ⟨0xc01018, [(19, 0x20)], 8, .rc, 0x0, 0x0, false, 0⟩,
  ⟨0xc20000, [(16384, 0x8)], 8, .lk, 0x0, 0x0, true, 0⟩,
  ⟨0xc40000, [(16384, 0x8)], 8, .ro, 0x0, 0x0, false, 0⟩]

/-- Rows of the MEM_ block. -/
def regRowsMem : List RegRow := [
  ⟨0xa00000, [], 4, .ro, 0x0, 0x11501, false, 0⟩,
  ⟨0xa00008, [], 4, .lk, 0x0, 0x0, true, 3864⟩,
  ⟨0xa00010, [], 4, .ro, 0x0, 0x0, false, 0⟩,
  ⟨0xa00018, [], 8, .rc, 0x0, 0x0, false, 0⟩,
  ⟨0xa00020, [], 8, .rc, 0x0, 0x0, false, 0⟩,
  ⟨0xa00028, [], 4, .rc, 0x0, 0x0, false, 0⟩,
  ⟨0xa0002c, [], 4, .rc, 0x0, 0x0, false, 0⟩,
  ⟨0xa00030, [], 8, .rc, 0x0, 0x0, false, 0⟩,
  ⟨0xa00038, [], 8, .rc, 0x0, 0x0, false, 0⟩,
  ⟨0xa00040, [], 4, .rw1c, 0x3f, 0x0, false, 0⟩,
  ⟨0xa00044, [], 4, .rw, 0x3f, 0x0, true, 0⟩,
  ⟨0xa00048, [], 4, .ro, 0x0, 0x0, false, 0⟩,
  ⟨0xa0004c, [], 4, .ro, 0x0, 0x0, false, 0⟩,
  ⟨0xa00050, [], 4, .ro, 0x0, 0x0, false, 0⟩,
  ⟨0xa00054, [], 4, .wo, 0x0, 0x0, false, 0⟩,
  ⟨0xa00058, [], 4, .rc, 0x0, 0x0, false, 0⟩,
  ⟨0xa00060, [], 4, .ro, 0x0, 0x0, false, 0⟩,
  ⟨0xa10000, [(4, 0x100)], 4, .ro, 0x0, 0x0, false, 0⟩,
  ⟨0xa10004, [(4, 0x100)], 4, .ro, 0x0, 0x0, false, 0⟩,
  ⟨0xa10008, [(4, 0x100)], 4, .lk, 0x0, 0x0, true, 0⟩,
  ⟨0xa10010, [(4, 0x100)], 4, .rc, 0x0, 0x0, false, 0⟩,
  ⟨0xa10014, [(4, 0x100)], 4, .rc, 0x0, 0x0, false, 0⟩,
  ⟨0xa10018, [(4, 0x100)], 4, .rc, 0x0, 0x0, false, 0⟩,
  ⟨0xa1001c, [(4, 0x100)], 4, .rc, 0x0, 0x0, false, 0⟩,
  ⟨0xa10020, [(4, 0x100)], 4, .ro, 0x0, 0x0, false, 0⟩,
  ⟨0xa10028, [(4, 0x100)], 8, .rc, 0x0, 0x0, false, 0⟩,
  ⟨0xa20000, [(1024, 0x20)], 8, .lk, 0x0, 0x0, true, 0⟩,
  ⟨0xa20008, [(1024, 0x20)], 8, .ro, 0x0, 0x0, false, 0⟩,
  ⟨0xa20010, [(1024, 0x20)], 4, .rc, 0x0, 0x0, false, 0⟩,
  ⟨0xa30000, [(1024, 0x10), (2, 0x8)], 8, .ro, 0x0, 0x0, false, 0⟩]

/-- Rows of the FAB_ block. -/
def regRowsFab : List RegRow := [
  ⟨0xb00000, [], 4, .ro, 0x0, 0x11601, false, 0⟩,
  ⟨0xb00008, [], 4, .lk, 0x0, 0x0, true, 0⟩,
  ⟨0xb0000c, [], 4, .lk, 0x0, 0x0, true, 1077031424⟩,
  ⟨0xb00010, [], 4, .lk, 0x0, 0x0, true, 2000⟩,
  ⟨0xb00014, [], 4, .lk, 0x0, 0x0, true, 0⟩,
  ⟨0xb00018, [], 4, .lk, 0x0, 0x0, true, 0⟩,
  ⟨0xb00020, [], 4, .rw1c, 0x7f, 0x0, false, 0⟩,
  ⟨0xb00024, [], 4, .rw, 0x7f, 0x0, true, 0⟩,
  ⟨0xb00028, [], 4, .ro, 0x0, 0x0, false, 0⟩,
  ⟨0xb0002c, [], 4, .ro, 0x0, 0x0, false, 0⟩,
  ⟨0xb00030, [], 4, .ro, 0x0, 0x0, false, 0⟩,
  ⟨0xb00034, [], 4, .rc, 0x0, 0x0, false, 0⟩,
  ⟨0xb00038, [], 4, .rc, 0x0, 0x0, false, 0⟩,
  ⟨0xb0003c, [], 4, .rc, 0x0, 0x0, false, 0⟩,
  ⟨0xb00040, [], 4, .rc, 0x0, 0x0, false, 0⟩,
  ⟨0xb00044, [], 4, .rc, 0x0, 0x0, false, 0⟩,
  ⟨0xb00048, [], 4, .rc, 0x0, 0x0, false, 0⟩,
  ⟨0xb0004c, [], 4, .rc, 0x0, 0x0, false, 0⟩,
  ⟨0xb00050, [], 4, .rc, 0x0, 0x0, false, 0⟩,
  ⟨0xb00054, [], 4, .rc, 0x0, 0x0, false, 0⟩,
  ⟨0xb00058, [], 4, .rc, 0x0, 0x0, false, 0⟩,
  ⟨0xb0005c, [], 4, .rc, 0x0, 0x0, false, 0⟩,
  ⟨0xb00100, [(3, 0x8)], 8, .lk, 0x0, 0x0, true, 0⟩,
  ⟨0xb00200, [], 8, .rw, 0x3fffffffffffffff, 0x0, false, 0⟩,
  ⟨0xb00208, [], 8, .rw, 0x3fffffffffff, 0x0, false, 0⟩,
  ⟨0xb00210, [], 4, .rw, 0x1ffff, 0x0, false, 0⟩,
  ⟨0xb00214, [], 4, .wo, 0x0, 0x0, false, 0⟩,
  ⟨0xb00218, [], 4, .ro, 0x0, 0x0, false, 0⟩,
  ⟨0xb0021c, [], 4, .ro, 0x0, 0x0, false, 0⟩,
  ⟨0xb01000, [(3, 0x100)], 4, .ro, 0x0, 0x0, false, 0⟩,
  ⟨0xb01008, [(3, 0x100)], 8, .rc, 0x0, 0x0, false, 0⟩,
  ⟨0xb01010, [(3, 0x100)], 8, .rc, 0x0, 0x0, false, 0⟩,
  ⟨0xb01018, [(3, 0x100)], 4, .rc, 0x0, 0x0, false, 0⟩,
  ⟨0xb0101c, [(3, 0x100)], 4, .rc, 0x0, 0x0, false, 0⟩,
  ⟨0xb01020, [(3, 0x100)], 8, .rc, 0x0, 0x0, false, 0⟩,
  ⟨0xb01028, [(3, 0x100)], 4, .rc, 0x0, 0x0, false, 0⟩,
  ⟨0xb02000, [(12, 0x40)], 4, .ro, 0x0, 0x0, false, 0⟩,
  ⟨0xb02008, [(12, 0x40)], 8, .lk, 0x0, 0x0, true, 0⟩,
  ⟨0xb02010, [(12, 0x40)], 4, .rc, 0x0, 0x0, false, 0⟩,
  ⟨0xb10000, [(1024, 0x4)], 4, .lk, 0x0, 0x0, true, 0⟩,
  ⟨0xb20000, [(256, 0x4)], 4, .lk, 0x0, 0x0, true, 0⟩,
  ⟨0xb30000, [(16, 0x10)], 8, .lk, 0x0, 0x0, true, 0⟩,
  ⟨0xb30008, [(16, 0x10)], 8, .lk, 0x0, 0x0, true, 0⟩]

/-- Rows of the HIF_ block. -/
def regRowsHif : List RegRow := [
  ⟨0xe00000, [], 4, .ro, 0x0, 0x11701, false, 0⟩,
  ⟨0xe00008, [], 4, .lk, 0x0, 0x0, true, 0⟩,
  ⟨0xe00010, [], 4, .ro, 0x0, 0x0, false, 0⟩,
  ⟨0xe00018, [], 4, .rw1c, 0xf, 0x0, false, 0⟩,
  ⟨0xe0001c, [], 4, .rw, 0xf, 0x0, true, 0⟩,
  ⟨0xe00020, [], 4, .rc, 0x0, 0x0, false, 0⟩,
  ⟨0xe00024, [], 4, .rc, 0x0, 0x0, false, 0⟩,
  ⟨0xe00028, [], 4, .wo, 0x0, 0x0, false, 0⟩,
  ⟨0xe0002c, [], 4, .ro, 0x0, 0x0, false, 0⟩,
  ⟨0xe01000, [(1024, 0x8)], 8, .ro, 0x0, 0x0, false, 0⟩,
  ⟨0xe04000, [(1024, 0x8)], 8, .lk, 0x0, 0x0, true, 0⟩]

/-- Rows of the ACC_ block. -/
def regRowsAcc : List RegRow := [
  ⟨0x1100000, [], 4, .ro, 0x0, 0x11801, false, 0⟩,
  ⟨0x1100008, [], 8, .ro, 0x0, 0x0, false, 0⟩,
  ⟨0x1100010, [], 8, .ro, 0x0, 0x0, false, 0⟩,
  ⟨0x1100018, [], 4, .ro, 0x0, 0x0, false, 65536⟩,
  ⟨0x1110000, [(1537, 0x100), (16, 0x8)], 8, .ro, 0x0, 0x0, false, 0⟩]

/-- Rows of the RPL_ block. -/
def regRowsRpl : List RegRow := [
  ⟨0x1200000, [], 4, .ro, 0x0, 0x11901, false, 0⟩,
  ⟨0x1200008, [], 4, .lk, 0x0, 0x0, true, 256⟩,
  ⟨0x120000c, [], 4, .lk, 0x0, 0x0, true, 0⟩,
  ⟨0x1200010, [], 4, .ro, 0x0, 0x0, false, 0⟩,
  ⟨0x1200014, [], 4, .wo, 0x0, 0x0, false, 0⟩,
  ⟨0x1200018, [], 8, .rw, 0xffffffffffffffff, 0x0, false, 0⟩,
  ⟨0x1200020, [], 8, .ro, 0x0, 0x0, false, 0⟩,
  ⟨0x1200028, [], 8, .ro, 0x0, 0x0, false, 0⟩,
  ⟨0x1200030, [], 8, .rw, 0xffffffffffffffff, 0x0, false, 0⟩,
  ⟨0x1200038, [], 4, .rw1c, 0xff, 0x0, false, 0⟩,
  ⟨0x120003c, [], 4, .rw, 0xff, 0x0, true, 0⟩,
  ⟨0x1200040, [], 4, .rc, 0x0, 0x0, false, 0⟩,
  ⟨0x1200044, [], 4, .rc, 0x0, 0x0, false, 0⟩,
  ⟨0x1200048, [], 4, .ro, 0x0, 0x0, false, 0⟩,
  ⟨0x1200050, [], 8, .ro, 0x0, 0x0, false, 0⟩,
  ⟨0x1200058, [], 8, .ro, 0x0, 0x0, false, 0⟩,
  ⟨0x1200060, [], 4, .ro, 0x0, 0x0, false, 0⟩,
  ⟨0x1200068, [], 8, .ro, 0x0, 0x0, false, 0⟩,
  ⟨0x1200070, [], 8, .ro, 0x0, 0x0, false, 0⟩,
  ⟨0x1200078, [], 8, .ro, 0x0, 0x0, false, 0⟩,
  ⟨0x1200080, [], 8, .rw, 0xffffffffffc0, 0x0, false, 0⟩,
  ⟨0x1200088, [], 8, .rw, 0xffffffffffc0, 0x0, false, 0⟩,
  ⟨0x1200090, [], 4, .rw, 0xffffffc0, 0x0, false, 0⟩]

/-- Rows of the HLT_ block. -/
def regRowsHlt : List RegRow := [
  ⟨0x1000000, [], 4, .ro, 0x0, 0x11a01, false, 0⟩,
  ⟨0x1000008, [], 8, .lk, 0x0, 0x0, true, 1632403856⟩,
  ⟨0x1000010, [], 4, .ro, 0x0, 0x0, false, 0⟩,
  ⟨0x1000018, [], 8, .lk, 0x0, 0x0, true, 41235981008896⟩,
  ⟨0x1000020, [], 8, .lk, 0x0, 0x0, true, 8642363392⟩,
  ⟨0x1000028, [], 4, .ro, 0x0, 0x0, false, 0⟩,
  ⟨0x100002c, [], 4, .wo, 0x0, 0x0, false, 0⟩,
  ⟨0x1000030, [], 4, .rw1c, 0xfff, 0x0, false, 0⟩,
  ⟨0x1000034, [], 4, .rw, 0xfff, 0x0, true, 0⟩,
  ⟨0x1000038, [], 4, .ro, 0x0, 0x0, false, 0⟩,
  ⟨0x100003c, [], 4, .ro, 0x0, 0x0, false, 0⟩,
  ⟨0x1000040, [], 4, .ro, 0x0, 0x0, false, 0⟩,
  ⟨0x1000044, [], 4, .wo, 0x0, 0x0, false, 0⟩,
  ⟨0x1000048, [], 4, .rc, 0x0, 0x0, false, 0⟩,
  ⟨0x100004c, [], 4, .rc, 0x0, 0x0, false, 0⟩,
  ⟨0x1000050, [], 4, .rc, 0x0, 0x0, false, 0⟩,
  ⟨0x1000054, [], 4, .rc, 0x0, 0x0, false, 0⟩,
  ⟨0x1000058, [], 4, .ro, 0x0, 0x0, false, 0⟩,
  ⟨0x1000060, [], 8, .lk, 0x0, 0x0, true, 4096000⟩,
  ⟨0x1000068, [], 8, .ro, 0x0, 0x0, false, 0⟩,
  ⟨0x1000070, [], 8, .rc, 0x0, 0x0, false, 0⟩,
  ⟨0x1000078, [], 4, .rw, 0xffff, 0x0, false, 0⟩,
  ⟨0x100007c, [], 4, .ro, 0x0, 0x0, false, 0⟩,
  ⟨0x1000080, [(32, 0x4)], 4, .ro, 0x0, 0x0, false, 0⟩,
  ⟨0x1001000, [(512, 0x8)], 8, .lk, 0x0, 0x0, true, 0⟩,
  ⟨0x1002000, [(256, 0x20), (4, 0x8)], 8, .ro, 0x0, 0x0, false, 0⟩,
  ⟨0x1004000, [(2048, 0x8)], 8, .lk, 0x0, 0x0, true, 0⟩,
  ⟨0x1008000, [(1024, 0x4)], 4, .lk, 0x0, 0x0, true, 0⟩]

/-- Rows of the HUB_ block. -/
def regRowsHub : List RegRow := [
  ⟨0x0, [], 4, .ro, 0x0, 0x11b01, false, 0⟩,
  ⟨0x8, [], 8, .ro, 0x0, 0x0, false, 0⟩,
  ⟨0x10, [], 8, .ro, 0x0, 0x0, false, 0⟩,
  ⟨0x18, [], 4, .ro, 0x0, 0x0, false, 0⟩,
  ⟨0x20, [], 8, .ro, 0x0, 0x0, false, 0⟩,
  ⟨0x28, [], 4, .ro, 0x0, 0x0, false, 0⟩,
  ⟨0x30, [], 4, .lk, 0x0, 0x0, true, 1600⟩,
  ⟨0x34, [], 4, .wo, 0x0, 0x0, false, 0⟩,
  ⟨0x38, [], 8, .rw, 0xffffffffffffffff, 0x0, false, 0⟩,
  ⟨0x40, [], 8, .lk, 0x0, 0x0, true, 0⟩,
  ⟨0x48, [], 8, .ro, 0x0, 0x0, false, 0⟩,
  ⟨0x50, [], 8, .ro, 0x0, 0x0, false, 0⟩,
  ⟨0x58, [], 4, .ro, 0x0, 0x0, false, 0⟩,
  ⟨0x5c, [], 4, .rw1c, 0x3, 0x0, false, 0⟩,
  ⟨0x60, [], 8, .rw, 0xffffffffffff, 0x0, false, 0⟩,
  ⟨0x68, [], 4, .rw, 0x1fffffff, 0x0, false, 0⟩,
  ⟨0x6c, [], 4, .rw, 0xfffffff, 0x0, false, 0⟩,
  ⟨0x70, [], 4, .wo, 0x0, 0x0, false, 0⟩,
  ⟨0x74, [], 4, .ro, 0x0, 0x0, false, 0⟩,
  ⟨0x200, [], 4, .ro, 0x0, 0x0, false, 0⟩,
  ⟨0x204, [], 4, .ro, 0x0, 0x0, false, 0⟩,
  ⟨0x208, [], 4, .ro, 0x0, 0x0, false, 0⟩,
  ⟨0x210, [], 8, .ro, 0x0, 0x0, false, 0⟩,
  ⟨0x218, [], 4, .rw1c, 0x3f, 0x0, false, 0⟩,
  ⟨0x21c, [], 4, .rw, 0x3f, 0x0, true, 0⟩,
  ⟨0x220, [], 4, .rc, 0x0, 0x0, false, 0⟩,
  ⟨0x240, [(17, 0x4)], 4, .ro, 0x0, 0x0, false, 0⟩]

/-- Rows of the SEC_ block. -/
def regRowsSec : List RegRow := [
  ⟨0xf00000, [], 4, .ro, 0x0, 0x11c01, false, 0⟩,
  ⟨0xf00008, [], 4, .lk, 0x0, 0x0, true, 50⟩,
  ⟨0xf00010, [], 4, .ro, 0x0, 0x0, false, 0⟩,
  ⟨0xf00018, [], 4, .rw1c, 0x7f, 0x0, false, 0⟩,
  ⟨0xf00020, [], 4, .lk, 0x0, 0x0, true, 595⟩,
  ⟨0xf00028, [], 8, .ro, 0x0, 0x0, false, 0⟩,
  ⟨0xf00030, [], 4, .wo, 0x0, 0x0, false, 0⟩,
  ⟨0xf00040, [(12, 0x4)], 4, .rw, 0xffffffff, 0x0, false, 0⟩,
  ⟨0xf00080, [(16, 0x4)], 4, .ro, 0x0, 0x0, false, 0⟩,
  ⟨0xf00200, [(16, 0x40), (12, 0x4)], 4, .ro, 0x0, 0x0, false, 0⟩,
  ⟨0xf00800, [(1024, 0x4)], 4, .lk, 0x0, 0x0, true, 0⟩,
  ⟨0xf02000, [(64, 0x40), (12, 0x4)], 4, .lk, 0x0, 0x0, true, 0⟩,
  ⟨0xf03000, [(256, 0x4)], 4, .ro, 0x0, 0x0, false, 0⟩]

/-- The whole register map (R589). -/
def regRows : List RegRow :=
  regRowsTim ++ regRowsCyc ++ regRowsClu ++ regRowsIbx ++ regRowsMov ++ regRowsVec ++ regRowsChm ++ regRowsKud ++ regRowsFhl ++ regRowsShp ++ regRowsMem ++ regRowsFab ++ regRowsHif ++ regRowsAcc ++ regRowsRpl ++ regRowsHlt ++ regRowsHub ++ regRowsSec

/-- Does an address lie in index ranges: the offset left over when every index is taken off is 0. -/
def dimsHit (d : List (Nat × Nat)) (o : Nat) : Bool :=
  match d with
  | [] => o == 0
  | (n, s) :: r => decide (o / s < n) && dimsHit r (o % s)

/-- The row of the register that starts at an address. -/
def regRowAt (a : Nat) : Option RegRow := regRows.find? (fun r => decide (r.base ≤ a) && dimsHit r.dims (a - r.base))

/-- Registers whose default is not zero, with their defaults, addresses rising: what a register that no image entry names takes (R721). -/
def regDefaults : Tab DWord := [
  (0x30, 0x640), (0x100050, 0x7d0), (0x100054, 0x3e8), (0x100058, 0x44c00010032), (0x1000a0, 0x400), (0x200008, 0x20000),
  (0x20000c, 0x2e15), (0x220008, 0x20000), (0x22000c, 0x2e15), (0x240008, 0x20000), (0x24000c, 0x2e15), (0x260008, 0x20000),
  (0x26000c, 0x2e15), (0x280008, 0x20000), (0x28000c, 0x2e15), (0x2a0008, 0x20000), (0x2a000c, 0x2e15), (0x2c0008, 0x20000),
  (0x2c000c, 0x2e15), (0x2e0008, 0x20000), (0x2e000c, 0x2e15), (0x300008, 0x20000), (0x30000c, 0x2e15), (0x320008, 0x20000),
  (0x32000c, 0x2e15), (0x340008, 0x20000), (0x34000c, 0x2e15), (0x360008, 0x20000), (0x36000c, 0x2e15), (0xa00008, 0xf18),
  (0xb0000c, 0x40323200), (0xb00010, 0x7d0), (0xd50000, 0x2420000), (0xd50080, 0x2420000), (0xd50100, 0x2420000), (0xd50180, 0x2420000),
  (0xd50200, 0x2420000), (0xd50280, 0x2420000), (0xd50300, 0x2420000), (0xd50380, 0x2420000), (0xd50400, 0x2420000), (0xd50480, 0x2420000),
  (0xd50500, 0x2420000), (0xd50580, 0x2420000), (0xd50600, 0x2420000), (0xd50680, 0x2420000), (0xd50700, 0x2420000), (0xd50780, 0x2420000),
  (0xd50800, 0x2420000), (0xd50880, 0x2420000), (0xd50900, 0x2420000), (0xd50980, 0x2420000), (0xd50a00, 0x2420000), (0xd50a80, 0x2420000),
  (0xd50b00, 0x2420000), (0xd50b80, 0x2420000), (0xd50c00, 0x2420000), (0xd50c80, 0x2420000), (0xd50d00, 0x2420000), (0xd50d80, 0x2420000),
  (0xd50e00, 0x2420000), (0xd50e80, 0x2420000), (0xd50f00, 0x2420000), (0xd50f80, 0x2420000), (0xf00008, 0x32), (0xf00020, 0x253),
  (0x1000008, 0x614c8190), (0x1000018, 0x258100000000), (0x1000020, 0x203200000), (0x1000060, 0x3e8000), (0x1100018, 0x10000), (0x1200008, 0x100)]

end Sys2Proof.Machine
end

