-- ==== Sys2Proof/Machine/StChm.lean ====
section
/-! DEFINITION. State of the Chamois cores (spec/08_chamois_cores.md). X, Y and instruction memory lie in the package's byte storage. -/
namespace Sys2Proof.Machine

/-- An address generator (R354). -/
structure Agen where
  base : BitVec 18 := 0
  index : BitVec 17 := 0
  step : BitVec 18 := 0
  len : BitVec 18 := 0
  mode : BitVec 2 := 0
  deriving DecidableEq, Repr

/-- A level of the loop stack (R343, R362). -/
structure LoopLevel where
  start : Nat
  stop : Nat
  count : Nat
  deriving DecidableEq, Repr

/-- A CRUN in progress (R372, R374) and the interlock's scoreboard, in cycles from the first issue (R364 to R368). -/
structure CRun where
  stoch : Bool
  seed : DWord
  tag : Nat
  limit : Nat
  /-- Rounding instructions issued so far (R370). -/
  rounds : Nat := 0
  /-- Earliest cycle of the next issue. -/
  cyc : Nat := 0
  /-- Cycle from which each V register can be read, and in which its last write lands. -/
  vRead : Tab Nat := []
  vLand : Tab Nat := []
  /-- Cycle from which each pair can be stored or rounded. -/
  aRead : Tab Nat := []
  /-- Cycle in which the last store is written to X (0) and Y (1). -/
  wrote : Tab Nat := []
  /-- Cycle of the last store's write in any bank. -/
  lastStore : Nat := 0
  deriving DecidableEq, Repr

/-- A Chamois core (R343). -/
structure Chm where
  /-- V0 to V15, 16 lanes each; an unlisted register is zero. -/
  v : Tab (List Word) := []
  /-- A0 to A7, 16 lanes each. -/
  a : Tab (List (BitVec 40)) := []
  p : Tab Agen := []
  s : Tab Word := []
  sh : BitVec 5 := 0
  /-- Loop stack, innermost level first. -/
  loops : List LoopLevel := []
  pc : BitVec 13 := 0
  /-- Program counter has passed the end of the instruction memory (R363). -/
  pcOver : Bool := false
  run : Option CRun := none
  /-- Owner of the last list: a tenant, or the radio service as 0x800 (R353, R377). -/
  owner : Option Nat := none
  aovf : Bool := false
  act : Nat := 0
  deriving DecidableEq, Repr

end Sys2Proof.Machine
end

