-- ==== Sys2Proof/Machine/StFront.lean ====
section
/-! DEFINITION. State of the fronthaul intake, the burst intake and the egress shaper (spec/10_fronthaul.md). -/
namespace Sys2Proof.Machine

/-- Reception of one stream's symbol or PRACH occasion in one slot (R439 to R443): map entry, slot boundary, symbol; PRBs (or elements)
received; whether its handle is released; PRBs found missing at the close. -/
structure RxSym where
  entry : Nat
  at0 : Nat
  sym : Nat
  got : List Nat
  released : Bool
  missing : List Nat
  deriving DecidableEq, Repr

/-- A burst awaiting its FFT (R457, R459): its slot and its N_slot samples (real and imaginary halves). -/
structure Burst where
  at0 : Nat
  samples : List Word
  /-- Symbols already transformed. -/
  next : Nat
  deriving DecidableEq, Repr

/-- A burst stream: samples collected since the last burst, bursts waiting, last sequence ID (R452 to R458). -/
structure BurstSt where
  samples : List Word := []
  /-- Frames and the arrival stamp of the frame holding each sample count. -/
  arrivals : List (Nat × Nat) := []
  bursts : List Burst := []
  /-- Slots that already have a burst on this stream. -/
  slots : List Nat := []
  deriving DecidableEq, Repr

/-- A packet in a shaper queue (R449, R461 to R463, R576): its length, its gate in whole Tc when it has one, its enqueue time, what it is. -/
structure Packet where
  len : Nat
  gate : Option (Nat × Nat) := none
  at0 : Nat
  /-- C-plane packet (R449). -/
  cplane : Bool := false
  /-- Stream and slot that tie U-plane packets to their C-plane packet; 0 for fabric flits. -/
  sect : Nat := 0
  /-- The frame up to its FCS, and its output key (R647). -/
  frame : List Byte := []
  key : BitVec 128 := 0
  /-- A flit's transaction, carried by its last flit (R532). -/
  txn : Option Txn := none
  deriving DecidableEq, Repr

/-- A shaper queue (R460 to R464): `f` is F_q, `tag` the finish tag of an active head. -/
structure ShpQueue where
  pkts : List Packet := []
  f : DWord := 0
  tag : DWord := 0
  active : Bool := false
  deriving DecidableEq, Repr

/-- Fronthaul and shaper. -/
structure Front where
  /-- LINK and ALIGN of the 16 ports (R471). -/
  link : Tab (Bool × Bool)
  /-- Last sequence ID of each eAxC map entry (R433), and next one sent. -/
  seqIn : Tab Nat
  seqOut : Tab Nat
  rx : List RxSym
  bst : Tab BurstSt
  queues : Tab ShpQueue
  /-- Virtual time of each shaper port (R463). -/
  v : Tab DWord
  /-- Histograms: depth bin b of queue q at 32 q + b, delay bin b at 32 q + 16 + b (R467). -/
  hist : Tab Nat
  /-- Counter at the last sample instant taken (R467). -/
  sampled : Nat
  /-- Streams and slots whose C-plane message has been built, for downlink and uplink, and those whose downlink one has left (R445, R449). -/
  cBuilt : List Nat
  cLeft : List Nat
  deriving DecidableEq, Repr

end Sys2Proof.Machine
end

