-- ==== Sys2Proof/Machine/StHealth.lean ====
section
/-! DEFINITION. State of the health monitor (spec/15_health_recovery.md). -/
namespace Sys2Proof.Machine

/-- Roles of the device (R704). -/
inductive Role where
  | active | spareTest | spareReady | shadow | expelling | expelled
  deriving DecidableEq, Repr

/-- Pairing states (R705). -/
inductive PairSt where
  | none | pairing | paired | lost | refused
  deriving DecidableEq, Repr

/-- A part's quarantine (R672 to R676): kind 0 none, 1 unconditional, 2 temperature, 3 load; the conditions; the image's list. -/
structure Quar where
  kind : Nat := 0
  tmin : Nat := 0
  lmin : Nat := 0
  image : Bool := false
  /-- Decided while a list ran on the unit: takes effect at its end (R674). -/
  waits : Bool := false
  deriving DecidableEq, Repr

/-- A peer whose heartbeats are counted (R685, R686, R692): partner, ward, steward or candidate spare. -/
structure Peer where
  node : Nat
  isWard : Bool
  isPartner : Bool
  isSteward : Bool
  /-- A heartbeat was applied in the current period. -/
  beat : Bool
  /-- Consecutive empty periods. -/
  miss : Nat
  /-- Asked of the steward about this ward (R685). -/
  asked : Bool
  /-- Declared lost, with the counter at the declaration (R687, R689). -/
  lostAt : Option Nat
  deriving DecidableEq, Repr

/-- A waiting expulsion request at a steward, in the order in which they first reached it (R693). -/
structure ExpelReq where
  node : Nat
  cause : Nat
  deriving DecidableEq, Repr

/-- State of an instance mirrored to this device (R680, R681, R697): ward node and tenant, slot, last step mirrored, last step whose
records the owner wrote, digest of the mirrored step. -/
structure Standby where
  ward : Nat
  tenant : Nat
  slot : Nat
  step : Nat
  written : Nat
  digest : DWord
  deriving DecidableEq, Repr

/-- The health monitor. -/
structure Health where
  /-- Score of bin b of the part with unit code u at 32 u + b; an unlisted score is 1,000 (R663). -/
  scores : Tab Nat
  quar : Tab Quar
  /-- Temperature bins of the 17 sensors (R664), and load bins of the parts (R665). -/
  tbin : Tab Nat
  lbin : Tab Nat
  /-- Corrected errors of a part in the current second of air time (R662). -/
  ceCount : Tab Nat
  /-- Health log ring (R660). -/
  log : Tab (BitVec 256)
  /-- Next sentinel seed of each part, 0 to 63 (R669); tests of a spare already passed (R700). -/
  seed : Tab Nat
  passed : Tab Nat
  /-- Parts that run a sentinel test, and the parts of the unit shadow comparisons under way (R669, R671). -/
  testing : List Nat
  trios : List (List Nat)
  /-- Next part of each kind and region for the unit shadow comparison (R671). -/
  turn : Tab Nat
  role : Role
  roleBefore : Role
  fenced : Bool
  pair : PairSt
  pairNode : Nat
  taken : Bool
  peers : List Peer
  /-- Expulsion of this device (R705): state, cause, spare; counter at the last request sent. -/
  expel : Nat
  expelCause : Nat
  expelSpare : Nat
  expelSent : Nat
  /-- As a steward: tokens, counter at the last regain, ready spares, requests (R692). -/
  tokens : Nat
  tokenAt : Nat
  spares : List Nat
  reqs : List ExpelReq
  /-- Nodes whose grants it has made (R694). -/
  granted : List Nat
  standby : List Standby
  /-- Indications that muted cells hold: cell, deadline, bytes (R683). -/
  heldInd : List (Nat × Nat × List Byte)
  /-- Takeover instant awaited by muted cells of a lost ward (R689). -/
  unmuteAt : Tab Nat
  /-- SHADOW: consecutive matching steps, mismatches, and the step under rerun: instance key, step, the first run's digest (R697 to R699). -/
  shRun : Nat
  shMiss : Nat
  rerun : Option (Nat × Nat × DWord)
  /-- As a spare: the node whose work the steward has assigned to it (R693, R696). -/
  serveFor : Option Nat
  deriving DecidableEq, Repr

end Sys2Proof.Machine
end

