-- ==== Sys2Proof/Machine/StHost.lean ====
section
/-! DEFINITION. State of the host interface: functions, queue pairs, completion records, MSI-X, and the accounts
(spec/13_host_and_tenants.md). -/
namespace Sys2Proof.Machine

/-- A completion record before it is written: the status word and PHASE are taken at the write (R596, R599). -/
structure Rec where
  code : Nat
  /-- KIND: 0 SUBMIT, 1 LIST, 2 TOKEN, 3 NOTIFY, 4 STATUS, 5 SSI_IND (R597). -/
  kind : Nat
  slot : Nat
  ref : DWord
  detail : BitVec 128
  /-- Generation that the record carries (R613). -/
  gen : Nat
  /-- For a SUBMIT record, the submission's ordinal on its SQ; for the others, what keys the output (R647). -/
  ord : Nat := 0
  aux : Nat := 0
  deriving DecidableEq, Repr

/-- A queue pair (R590 to R606, R622, R623). -/
structure QPair where
  en : Enable := {}
  err : Bool := false
  sqBase : DWord := 0
  cqBase : DWord := 0
  ssiBase : DWord := 0
  sqSize : Nat := 0
  cqSize : Nat := 0
  /-- KIND SSI (R623). -/
  ssi : Bool := false
  count : Nat := 1
  time : Nat := 0
  sqHead : Nat := 0
  /-- Submissions accepted since start (R647). -/
  accepted : Nat := 0
  /-- SQ head last reported in a record (R591). -/
  sqReported : Nat := 0
  sqTail : Nat := 0
  cqHead : Nat := 0
  cqTail : Nat := 0
  /-- PHASE of the next record: 1 on the first pass (R598). -/
  phase : Bool := true
  /-- Submissions between SQ head and tail, as they stand in host memory. -/
  sq : List Cmd := []
  /-- Records waiting for a free CQ entry (R599). -/
  store : List Rec := []
  /-- Records written since vector q last fired, and the counter when the oldest of them was written (R605). -/
  since : Nat := 0
  /-- A record has changed the status word, or the count was reached, since vector q last fired: it is to fire (R605). -/
  fire : Bool := false
  oldest : Option Nat := none
  /-- Status word of the last record written (R605). -/
  lastWord : Option (BitVec 16) := none
  /-- Indication ring: next offset, bytes in use as (CQ entry, start, bytes) (R595). -/
  indOfs : Nat := 0
  indUse : List (Nat × Nat × Nat) := []
  deriving DecidableEq, Repr

/-- A function: PF0, or a VF (R600 to R614, R622). -/
structure Fn where
  en : Enable := {}
  gen : Nat := 0
  /-- The current STOPPING was caused by a function-level reset (R623). -/
  flr : Bool := false
  /-- `HIF_FN_ATTN`: bit n, attention of code n pending (R600). -/
  attn : BitVec 8 := 0
  seq : BitVec 8 := 0
  attnCq : Nat := 0
  attnHold : Nat := 4
  aperture : DWord := 0
  dberr : Nat := 0
  aperr : Nat := 0
  qs : Tab QPair := []
  /-- Counter at the last STATUS record, and whether a raise is gathered in the hold (R602). -/
  lastStatus : Option Nat := none
  held : Bool := false
  /-- MSI-X mask and pending bits of the 8 vectors (R606). -/
  masked : BitVec 8 := 0
  pending : BitVec 8 := 0
  deriving DecidableEq, Repr

/-- The accounting unit (R615 to R619): counters of account i at key 16 i + j; account 1,536 is the device account. -/
structure Accounts where
  /-- Counting since the last boundary. -/
  work : Tab Nat := []
  /-- As they stood at the last boundary, the values that reads return. -/
  shown : Tab Nat := []
  /-- Sub-µJ energy carried to the next boundary, nJ (R625); the package's own measured energy at key 1,537. -/
  rem : Tab Nat := []
  /-- Number of the last 1 ms boundary of air time taken (R619). -/
  lastMs : Nat := 0
  deriving DecidableEq, Repr

/-- The host interface. Function 2047 is PF0 (R623). -/
structure HostIf where
  fns : Tab Fn
  /-- NumVFs and VF Enable of PF0's SR-IOV capability (R586). -/
  numVfs : Nat
  vfEnable : Bool
  /-- Fronthaul and fabric ports as enableable functions: port p, and 16 + plane (R609). -/
  ports : Tab Enable
  /-- Target of the last `HIF_FCTL` write, and whether it was refused (R624). -/
  fsel : Nat × Nat
  frej : Bool
  acct : Accounts
  deriving DecidableEq, Repr

end Sys2Proof.Machine
end

