-- ==== Sys2Proof/Machine/StIbex.lean ====
section
/-! DEFINITION. State of the Ibex arrays and the vector units (spec/04_ibex_arrays.md, R271 to R276). The cells themselves lie in the
package's byte storage, at `cellAt`. -/
namespace Sys2Proof.Machine

/-- A row that has entered the feeder and has not been compared: its index, its slots and kind, nonzero elements, planes since the
stream's first, and whether it has left the post-processor (R187, R193). -/
structure FedRow where
  o : Nat
  p : Nat
  kind : Nat
  density : Nat
  early : Nat
  /-- Its list, context and live columns; the STOP policy (R188); 32 less the die's cclk at its first plane (R193). -/
  list : DWord
  ctx : Nat
  live : Nat
  stop : Bool
  throttle : Nat
  /-- The last row of its run, and of its stream (R270). -/
  endsRun : Bool
  last : Bool
  deriving DecidableEq, Repr

/-- A weight stream in progress (R159 to R172, R267, R268). -/
structure Stream where
  /-- The STREAM command. -/
  cmd : Cmd
  /-- Base of the stream, an address reference in SPACE 0 or 1, after BIND. -/
  addin : Nat
  /-- Bytes of the stream consumed (R163). -/
  ofs : Nat := 0
  /-- Current group: kind, slots per row, rows left (R159). -/
  kind : Nat := 0
  p : Nat := 0
  left : Nat := 0
  /-- Index of the next output row, and slots fed since the first plane. -/
  row : Nat := 0
  slots : Nat := 0
  /-- First row of the run whose handle is not yet released (R270). -/
  runStart : Nat := 0
  /-- Number of rows of the stream, as its headers give it. -/
  total : Nat := 0
  deriving DecidableEq, Repr

/-- An Ibex array (R156 to R203). -/
structure Ibex where
  /-- Format of the block in the cells (R174, R175, R212). -/
  fmt : BlkFmt := {}
  /-- Context whose list last loaded or restored the block (R787). -/
  tag : Option Nat := none
  /-- Format and tag of the block in the spill area (R130). -/
  spillFmt : BlkFmt := {}
  spillTag : Option Nat := none
  /-- Counter when a plane last entered the feeder, none since start: the idle count follows (R195). -/
  planeAt : Option Nat := none
  /-- 0 idle, 1 load, 2 stream, 3 spill or restore (R201). -/
  act : Nat := 0
  frozen : Bool := false
  ramp : Nat := 0
  /-- The command before in the same list was a load, and its columns (R196). -/
  loaded : Option Nat := none
  /-- Bytes in the feed FIFO (R164). -/
  fifo : Nat := 0
  stream : Option Stream := none
  /-- Rows that have left and await their comparison, oldest first (R187). -/
  unchecked : List FedRow := []
  /-- List, first byte of the stream's output and row of the last mismatch (R192, REPEAT). -/
  lastBad : Option (DWord × Nat × Nat) := none
  /-- binary32 rows buffered for the vector unit, at most 8 (R276). -/
  rows : List (List Nat) := []
  deriving DecidableEq, Repr

/-- A vector unit: rows taken by the command in progress, and what it computes (R276, R304). -/
structure VecUnit where
  act : Nat := 0
  done : Nat := 0
  deriving DecidableEq, Repr

/-- A checksum log entry, four 64-bit words (R192). -/
abbrev LogEntry := BitVec 256

/-- The Ibex arrays and vector units of the package. -/
structure Matrix where
  arrays : Tab Ibex
  vecs : Tab VecUnit
  /-- Checksum log rings: entry i of region g at 512 g + i (R191). -/
  csLog : Tab LogEntry
  deriving DecidableEq, Repr

end Sys2Proof.Machine
end

