-- ==== Sys2Proof/Machine/StMem.lean ====
section
/-! DEFINITION. State of the memory tiers: placement table, frames, migrations, claims, poison (spec/11_memory_tiers.md). -/
namespace Sys2Proof.Machine

/-- A placement table entry (R492). An unlisted page is unmapped: tier 0 and owner 0x7FF. -/
structure Page where
  tier : Nat := 0
  die : Nat := 0
  frame : Nat := 0
  large : Bool := false
  shared : Bool := false
  pinned : Bool := false
  moving : Bool := false
  owner : Nat := 0x7FF
  claim : Nat := 0
  deriving DecidableEq, Repr

/-- A claim record (R505). Frames are first frames of the copies. -/
structure Claim where
  tarn : List Nat
  mere : List Nat
  tarnLoc : Option (Nat × Nat)
  mereLoc : Option (Nat × Nat)
  page : Nat
  deriving DecidableEq, Repr

/-- A page directive (R282, R495): opcode 0x08 to 0x0C, on one page, with the context and tenant that issued it. -/
structure Directive where
  op : Nat
  page : Nat
  large : Bool
  tier : Nat
  die : Nat
  tenant : Nat
  ctx : Nat
  /-- Region whose shares it is charged to (R497). -/
  region : Nat
  deriving DecidableEq, Repr

/-- A page migration accepted and not yet switched (R501 to R503). -/
structure Migration where
  dir : Directive
  /-- Copy started, and next line to be copied. -/
  started : Bool
  line : Nat
  /-- Zero fill rather than a copy (R502). -/
  fill : Bool
  toTier : Nat
  toDie : Nat
  toFrame : Nat
  deriving DecidableEq, Repr

/-- Frames left behind by a switch, waiting for R502: tier, die, first frame, number, and the hub cycle of the switch. -/
structure OldFrame where
  tier : Nat
  die : Nat
  frame : Nat
  count : Nat
  at0 : Nat
  deriving DecidableEq, Repr

/-- The memory tiers. -/
structure Tiers where
  pages : Tab Page
  claims : Tab Claim
  /-- Frames in use: Tarn frame f of die d at 2^24 d + f, Mere at 2^24 (4 + d) + f. -/
  used : Tab Bool
  migs : List Migration
  /-- Directives that wait behind a migration of their page, in arrival order (R503). -/
  waiting : List Directive
  old : List OldFrame
  /-- Units charged: Tarn of tenant t at 2 t, Mere at 2 t + 1 (R508). -/
  charged : Tab Nat
  /-- Poisoned lines, by storage number of the line's first byte (R513). -/
  poison : List Nat
  /-- Lines with a correctable error, and with an uncorrectable one, not yet read (R512, R513). -/
  weak : List Nat
  bad : List Nat
  /-- Memory log ring of 1,024 entries (R521). -/
  log : Tab (BitVec 128)
  /-- Line that the scrubber reads next on each die (R514). -/
  scrub : Tab Nat
  deriving DecidableEq, Repr

end Sys2Proof.Machine
end

