-- ==== Sys2Proof/Machine/StModel.lean ====
section
/-! DEFINITION. State of the inference service: model slots and sequences (spec/07_inference_service.md). -/
namespace Sys2Proof.Machine

/-- States of a live sequence (R326). -/
inductive SeqState where
  | queued | active | stalled | swapped | parked | held
  deriving DecidableEq, Repr

/-- A live sequence (R312 to R337). -/
structure Sequence where
  id : Nat
  tenant : Nat
  slot : Nat
  st : SeqState
  pair : Bool
  stopEn : Bool
  maxNew : Nat
  promptLen : Nat
  topK : Nat
  topP : Word
  temp : Word
  seed : DWord
  stop0 : Nat
  stop1 : Nat
  /-- Prompt tokens taken so far, and tokens generated. -/
  promptDone : Nat
  made : Nat
  /-- KV pages held in KV_TIER, and in the swap area (R326). -/
  pages : Nat
  swapPages : Nat
  /-- The prompt as copied into Mere (R314). -/
  prompt : List Byte
  /-- Swap-out moves not yet complete: pages that leave KV_TIER at the next boundary (R334). -/
  moving : Bool
  /-- Prompt copy in Mere, 64 KiB units (R314). -/
  promptUnits : Nat
  /-- Token drawn and not yet paired (R320). -/
  odd : Option Nat
  /-- Record buffer (R322). -/
  buf : List Rec
  /-- Waiting-since stamp (R326). -/
  since : Nat
  cancelled : Bool
  /-- END code once the sequence has ended, 0 before; it stays live until its last record is written (R314, R319). -/
  endc : Nat
  /-- Occurrences of its SEQ_ID for the tenant before it (R647). -/
  occ : Nat
  /-- Order of join, for the columns (R325). -/
  join : Nat
  /-- Columns in the current step: first and count; count 0 when not in the batch. -/
  col : Nat
  cols : Nat
  /-- Where its records go (R311, R613). -/
  report : Report
  gen : Nat
  deriving DecidableEq, Repr

/-- A model instance in one of a tenant's 16 slots (R305 to R310). -/
structure Model where
  addr : Nat
  len : Nat
  digest : BitVec 384
  mode : Nat
  batchInv : Bool
  vocab : Nat
  maxCtx : Nat
  maxCols : Nat
  chunk : Nat
  shards : Nat
  ranks : Nat
  kvTier : Nat
  kvPage : Nat
  tarnUnits : Nat
  mereUnits : Nat
  /-- SWAP of MODEL_LOAD, KV pages, and those in use (R334). -/
  swapCap : Nat
  swapUsed : Nat
  maxSeq : Nat
  /-- Contexts of the shards, rank by rank (R308). -/
  ctxs : List Nat
  /-- Step in progress, its failures so far, and whether one is in progress (R323, R324). -/
  step : Nat
  fails : Nat
  inStep : Bool
  /-- Contexts and LIST_IDs of the step's shard lists not yet ended, and contexts and addresses of all of them (R323, R324). -/
  waiting : List (Nat × DWord)
  lists : List (Nat × Nat)
  /-- A list of the step has ended with another status than 0 (R324). -/
  failing : Bool
  /-- Third failure of a step: the instance has failed (R324). -/
  failed : Bool
  /-- Waits for the partner's acknowledgement of its standby load (R680). -/
  mirrorWait : Option Report
  mirrored : Bool
  /-- Standby instance of a ward (R680). -/
  standby : Bool
  paused : Bool
  pausing : Bool
  /-- Next join order. -/
  joins : Nat
  report : Report
  deriving DecidableEq, Repr

/-- The inference service. Slot s of tenant t at key 16 t + s. -/
structure Infer where
  models : Tab Model
  seqs : List Sequence
  deriving DecidableEq, Repr

end Sys2Proof.Machine
end

