-- ==== Sys2Proof/Machine/StOut.lean ====
section
/-! DEFINITION. What leaves the package: every write to host memory, frame, transaction, message and pulse, oldest first. -/
namespace Sys2Proof.Machine

/-- Something the package sends or drives. Function 2047 is PF0. -/
inductive Output where
  /-- DMA write to host memory for a function. -/
  | hostWrite (fn addr : Nat) (bytes : List Byte)
  /-- Data returned to a host read. -/
  | readData (fn : Nat) (bytes : List Byte)
  /-- Poisoned completion of a host read (R588). -/
  | readPoison (fn : Nat)
  /-- MSI-X message of vector `vec` (R605). -/
  | msix (fn vec : Nat)
  /-- Ethernet frame on a fronthaul port. -/
  | fh (port : Nat) (bytes : List Byte)
  /-- Delay_Req on a fronthaul port (R66). -/
  | delayReq (port : Nat)
  /-- Fabric transaction on a plane (R530). -/
  | txn (plane : Nat) (t : Txn)
  /-- Acknowledgement (`nak = false`) or NAK of a sequence number on a fabric port (R526, R528). -/
  | linkAck (port seq : Nat) (nak : Bool)
  /-- Flits resent from the replay buffer, by SEQ (R528). -/
  | replay (port : Nat) (seqs : List Nat)
  /-- 1PPS output pulse that marks a GPS second, and the time-of-day message after it (R769). -/
  | pps (sec : Nat) (tod : List Byte)
  /-- SPDM response: code and payload (R733). -/
  | spdm (code : Nat) (payload : List Byte)
  /-- Bits shifted out on DBG_TDO. -/
  | tdo (value : Nat)
  deriving DecidableEq, Repr

end Sys2Proof.Machine
end

