-- ==== Sys2Proof/Machine/StRadio.lean ====
section
/-! DEFINITION. State of the radio physical-layer service: cells, slots, HARQ entries, Slot Service Interface output
(spec/09_radio_service.md). -/
namespace Sys2Proof.Machine

/-- A cell as the image defines it (R384, R385, R723). -/
structure CellCfg where
  nrb : Nat
  mu : Nat
  ant : Nat
  lDl : Nat
  lUl : Nat
  beamformed : Bool
  region : Nat
  group : Nat
  clusters : List Nat
  /-- HARQ area in Tarn: device address, bytes, and bytes of one entry (R406). -/
  harqBase : Nat
  harqLen : Nat
  harqEntry : Nat
  /-- The 16 bytes of each of the four profiles: IMAX and the detection thresholds (R723). -/
  profiles : List Nat
  /-- Device address of the precoder and beam tables, 0 for none, and entries of the latter (R723). -/
  precoder : Nat
  beams : Nat
  beamCount : Nat
  fdd : Bool
  deriving DecidableEq, Repr

/-- A PDU of an accepted order: its place in the order, type, handle, and its bytes, header included (R419). -/
structure Pdu where
  idx : Nat
  ty : Nat
  handle : Nat
  bytes : List Byte
  deriving DecidableEq, Repr

/-- What a PUSCH PDU asks of its HARQ entry (R406, R407): the entry, the transport block, whether it is new, and whether it still waits for
an earlier slot's write-back. -/
structure HarqAsk where
  id : Nat
  tbs : Nat
  blocks : Nat
  bg : Nat
  zc : Nat
  ndi : Bool
  queued : Bool
  deriving DecidableEq, Repr

/-- A result of the slot not yet reported: its KIND, PDU, deadline, and the status that overrides its own (R407, R412, R413, R422). -/
structure Pending where
  kind : Nat
  handle : Nat
  idx : Nat
  deadline : Nat
  late : Bool
  status : Nat
  harq : Option HarqAsk
  deriving DecidableEq, Repr

/-- What a cell holds for one slot (R410, R411). `at0` is the slot's R60 boundary in whole Tc. -/
structure SlotWork where
  at0 : Nat
  dl : Option (List Pdu) := none
  /-- SEQ of the DL_ORDER and of the UL_ORDER, for the FAULT_NOTEs that concern them (R418). -/
  dlSeq : Nat := 0
  ulSeq : Nat := 0
  /-- Transport blocks accepted: SEQ of their message, handle, codeword, bytes (R422). -/
  tbs : List (Nat × Nat × Nat × List Byte) := []
  /-- A late DL_ORDER: no U-plane for the slot. -/
  dlRefused : Bool := false
  ul : Option (List Pdu) := none
  ulRefused : Bool := false
  /-- The DL deadline has been handled (R411). -/
  dlClosed : Bool := false
  /-- DL_DONE bits (R401, R418). -/
  done : Nat := 0
  pend : List Pending := []
  /-- HARQ entries to be freed after this slot's decode (R407). -/
  release : List Nat := []
  deriving DecidableEq, Repr

/-- A cell at run time (R388 to R391). -/
structure Cell where
  en : Enable := {}
  profile : Nat := 0
  /-- First frame in which it goes ON, while STARTING (R389). -/
  onFrame : Nat := 0
  /-- First slot for which it accepts messages, and its stop slot, in whole Tc (R389, R390). -/
  first : Nat := 0
  stop : Option Nat := none
  /-- Reason carried by its CELL_NOTEs: 0 request, 1 QUARANTINE, 2 RECOVERY (R418). -/
  reason : Nat := 0
  /-- Profile of a CELL_START latched while STOPPING (R424). -/
  next : Option Nat := none
  /-- SSI transport over which its CELL_START came: queue pair 0 to 7 of PF0, or 16 plus a fabric endpoint (R571, R595; log entry 11). -/
  via : Nat := 0
  seqIn : Option Nat := none
  seqOut : Nat := 0
  slots : List SlotWork := []
  /-- Last slot boundary marked (R418). -/
  marked : Nat := 0
  /-- A standby cell runs muted until the takeover (R683, R689). -/
  muted : Bool := false
  deriving DecidableEq, Repr

/-- A HARQ entry's record (R406, R407). -/
structure Harq where
  tbs : Nat
  blocks : Nat
  bg : Nat
  zc : Nat
  /-- Code blocks marked as passed: the final syndrome was zero, and the bytes decoded (R406). -/
  passed : Tab (Bool × List Byte)
  /-- Furthest position filled in the combined buffer of each code block (R404). -/
  filled : Tab Nat
  /-- A slot still to be decoded or written back names the entry (R407). -/
  busy : Bool
  deriving DecidableEq, Repr

/-- A result entry of an UL_REPORT that waits for room: offset of its FLAGS byte, its LATE bit, deadline, handle, SEQ of its UL_ORDER. -/
structure LateMark where
  ofs : Nat
  mask : Nat
  deadline : Nat
  handle : Nat
  seq : Nat
  deriving DecidableEq, Repr

/-- A Slot Service Interface message on its way to L2; `marks` are its entries that may still become LATE (R573). -/
structure SsiMsg where
  cell : Nat
  bytes : List Byte
  marks : List LateMark
  deriving DecidableEq, Repr

/-- The radio service. -/
structure Radio where
  cfg : Tab CellCfg
  cells : Tab Cell
  /-- HARQ entry h of cell n at 65,536 n + h; an unlisted entry is empty. -/
  harq : Tab Harq
  /-- Stamp of the latest usable SRS of RNTI r of cell n, at 65,536 n + r (R400, R401). -/
  srs : Tab Nat
  /-- Messages waiting for room in their ring, oldest first (R573, R595). -/
  waiting : List SsiMsg
  deriving DecidableEq, Repr

end Sys2Proof.Machine
end

