-- ==== Sys2Proof/Machine/StRec.lean ====
section
/-! DEFINITION. State of the replay recorder (spec/14_reproducibility.md). -/
namespace Sys2Proof.Machine

/-- States of the recorder (R657). -/
inductive RplSt where
  | idle | recording | full | replaying | replayEnd | stopped
  deriving DecidableEq, Repr

/-- A record of the log (R643, R644). -/
structure LogRec where
  stamp : Nat
  frac : Nat
  kind : Nat
  source : Nat
  seq : Nat
  aux : DWord
  payload : List Byte
  deriving DecidableEq, Repr

/-- An output recorded and not yet matched during a replay (R652). -/
structure OutKey where
  stamp : Nat
  key : BitVec 128
  digest : DWord
  deriving DecidableEq, Repr

/-- The replay recorder. -/
structure Recorder where
  st : RplSt
  /-- Log, oldest record first; it stands in the log region of Mere as R643 lays it out. -/
  log : List LogRec
  /-- Log bytes after the last whole record, as an IMPORT left them (R656). -/
  tail : List Byte
  /-- Log bytes written. -/
  head : Nat
  nextSeq : Nat
  /-- Records dropped since the last GAP record (R645). -/
  dropped : Nat
  /-- Bytes in the hub buffer (R645). -/
  buffered : Nat
  wrapped : Bool
  skipped : Bool
  /-- START's AT_START (R646). -/
  atStart : Bool
  /-- Outputs of the replay that matched no recorded output yet, by key and digest; recorded ones read ahead and unmatched. -/
  expect : List OutKey
  /-- Has the replay diverged or been stopped at RPL_STOP_AT? -/
  halted : Bool
  /-- RPL_STOP_AT, whole Tc, at which the replay has already stopped (R653). -/
  stopTaken : Nat
  /-- EXPORT (1) or IMPORT (2) in progress, 0 none. -/
  xfer : Nat
  /-- Occurrences counted for the output keys (R647): key to count. -/
  occur : Tab Nat
  /-- No VF and no cell has left OFF since start, and only PF0's function page has been written (R649). -/
  untouched : Bool
  /-- SEQ of the FAB_IN record whose request is being answered (R647). -/
  inSeq : Nat
  /-- A logged input is being injected (R650). -/
  inj : Bool
  deriving DecidableEq, Repr

end Sys2Proof.Machine
end

