-- ==== Sys2Proof/Machine/StStart.lean ====
section
/-! DEFINITION. State of start, flash, trust, debug port, alarms, and of power and temperature control (spec/16_start_and_trust.md,
spec/17_package.md). -/
namespace Sys2Proof.Machine

/-- Device states, in the order of the status word's STATE codes (R602). -/
inductive DevSt where
  | start | serve | degraded | alarm | stopping
  deriving DecidableEq, Repr

/-- What P1 and P3 found of a slot of the flash (R716 to R721). -/
structure SlotHdr where
  valid : Bool := false
  seq : Nat := 0
  svn : Nat := 0
  numVf : Nat := 0
  /-- CAUSE with which it was refused, 0 none. -/
  check : Nat := 0
  deriving DecidableEq, Repr

/-- A key slot (R736, R748): 0 empty, 1 loaded, 2 FAILED, 3 erased; the owner; the key. -/
structure KeySlot where
  st : Nat := 0
  owner : Nat := 0
  usage : Nat := 0
  key : BitVec 256 := 0
  deriving DecidableEq, Repr

/-- The test access port of R773. -/
inductive JtagIr where
  | idcode | bypass | sample | extest | token
  deriving DecidableEq, Repr

/-- Start, trust, restart and flash. -/
structure Start where
  /-- PWR_OK and PERST# as the pins stand (PERST# asserted = true). -/
  pwrOk : Bool
  perst : Bool
  dev : DevSt
  /-- Phase running last, 0 to 5; 6 done (R747). -/
  phase : Nat
  /-- P5 has ended (R708). -/
  p5done : Bool
  /-- Hub cycle at PWR_OK or PERST# deassertion, and ms from it to SERVE. -/
  beganAt : Nat
  startMs : Nat
  /-- First SERVE has been reached since start. -/
  served : Bool
  /-- Start has ended in ALARM without service (R717, R743). -/
  failed : Bool
  servedAt : Nat
  slot : Nat
  fallback : Bool
  fullTrain : Nat
  cause : Nat
  entry : Nat
  slots : Tab SlotHdr
  /-- The training store's record has been written since start, or is not owed (R727). -/
  trainOwed : Bool
  /-- Number of the training store's copies written, of which the newer is the last (R727). -/
  trainCopy : Nat
  /-- Fuses (R747): SVN_MIN, REVOKE, OWNER_SET, IDENT_ERASED, DEBUG_OFF, and the owner key hash. -/
  svnMin : Nat
  revoke : Nat
  ownerSet : Bool
  identErased : Bool
  debugOff : Bool
  ownerHash : BitVec 384
  /-- Hash of the running image's OWNER_KEY, and the image's digest and SVN. -/
  imgOwner : BitVec 384
  imgDigest : BitVec 384
  imgSvn : Nat
  /-- Measurement registers (R731). -/
  mr : Tab (BitVec 384)
  keys : Tab KeySlot
  /-- The session wrapping key exists; the number that names the one drawn at this start (R732, log entry 5). -/
  sessionKey : Bool
  sessionSeed : Nat
  /-- MR0 to MR9 as they stood when the alias key was derived at this start (R732). -/
  aliasMr : List (BitVec 384)
  nonce : BitVec 256
  debug : Bool
  debugScope : Nat
  /-- Action taken, 0 LOG to 3 ERASE-ALL (R743), and whether an alarm has been stamped. -/
  action : Nat
  alarmed : Bool
  haltTenants : Bool
  /-- Tamper loop: consecutive mismatches, and the bit driven (R772). -/
  tamperMiss : Nat
  tampOut : Bool
  /-- Restart: armed instant in whole Tc, or in ms form the same; stage 0 none, 1 armed, 2 instant passed, 3 stopping
  (R729, R730); 4: start awaits the deassertion of PERST# (R712). -/
  restartAt : Nat
  restart : Nat
  stoppingAt : Nat
  /-- Flash command in progress: command, offset, length (R715). -/
  flash : Option (Nat × Nat × Nat)
  /-- SPDM: version and algorithms agreed (R733). -/
  spdm : Nat
  /-- JTAG instruction in force, and the boundary-scan chain. -/
  ir : JtagIr
  chain : BitVec 64
  deriving DecidableEq, Repr

/-- Power and temperature (R757 to R767, R777). -/
structure Power where
  p : Tab Nat
  t : Tab Nat
  hold : Tab Bool
  /-- Last readings and peaks of the 17 sensors, 1/8 °C (R782). -/
  temp : Tab Int
  peak : Tab Int
  /-- Revisions of R762 since start, and hub cycle of the last fast step. -/
  ticks : Nat
  fastAt : Option Nat
  /-- Input power over the last 1 ms, 0.1 W units. -/
  pin : Nat
  thermTrip : Bool
  deriving DecidableEq, Repr

end Sys2Proof.Machine
end

