-- ==== Sys2Proof/Machine/State.lean ====
section
/-! DEFINITION. The state of the package, the reasons a step can stop, and the state after reset. -/
namespace Sys2Proof.Machine

/-- The package: every part the spec names, the queue of waiting commands, and what has left the package. -/
structure State where
  time : TimeUnit
  sched : Sched
  host : HostIf
  mat : Matrix
  inf : Infer
  /-- Chamois core k. -/
  chm : Tab Chm
  radio : Radio
  front : Front
  tiers : Tiers
  fab : Fabric
  rpl : Recorder
  health : Health
  start : Start
  power : Power
  /-- Registers that hold a stored value, by BAR2 address (R589); an unlisted one holds 0. Registers that show a part of the state are
  computed from it. -/
  regs : Tab DWord
  /-- High half latched by function f's last low-half read of the register at address a, at (f, a) as 2^32 f + a (R21). -/
  latch : Tab Word
  /-- Every byte of addressed storage (log entry 3). -/
  mem : Mem
  /-- What has left the package, oldest first. -/
  out : List Output
  /-- Free values drawn so far: the model's own counter (log entry 5). -/
  drawn : Nat
  /-- Commands waiting, first in, first out. -/
  pending : List Instr
  deriving DecidableEq, Repr

/-- Reasons a step stops with a fault. -/
inductive Fault where
  /-- A command names a part, index or function that the package does not have. Raised by every command whose operand is an index.
  Safe: the spec gives such a command no meaning. -/
  | noSuchPart
  deriving DecidableEq, Repr

/-- Reasons a step has no meaning. -/
inductive Refusal where
  /-- The command's row has no meaning in this model yet. Raised by exec's arms only. Safe. -/
  | notModelled (mnemonic : String)
  deriving DecidableEq, Repr

/-- What a step answers. -/
abbrev Res := Host.Outcome State Fault Refusal

/-- The time unit before start: FREERUN at zero (R72). -/
def TimeUnit.reset : TimeUnit :=
  { tc := 0, frac := 0, resid := 0, hub := 0, st := .freerun, src := 0, pps := {}, ptp := {}, bcn := {}, offset := 0, freq := 0, slew := 0,
    tod := none, expSec := none, ppsLast := none, ptpPort := 0, ptpSlave := false, ptpPorts := [], synce := false, bcn1 := false,
    bcnLast0 := 0, bcnLast := 0, bcn0Since := none, bcnRx := [], echoT1 := [], holdOfs := 0, holdAt := 0,
    everLocked := false, drift := 0, correctedAt := 0, ppsOutSec := none }

def Sched.reset : Sched :=
  { cmps := [], groups := [], regions := [], clusters := [], ctxs := [], units := [], band := [], tlb := [], armed := [], service := [], seq := 0, joins := [], ended := [] }

def HostIf.reset : HostIf :=
  { fns := [], numVfs := 0, vfEnable := false, ports := [], fsel := (0, 0), frej := false, acct := {} }

def Radio.reset : Radio := { cfg := [], cells := [], harq := [], srs := [], waiting := [] }

def Front.reset : Front := { link := [], seqIn := [], seqOut := [], rx := [], bst := [], queues := [], v := [], hist := [], sampled := 0, cBuilt := [], cLeft := [] }

def Tiers.reset : Tiers :=
  { pages := [], claims := [], used := [], migs := [], waiting := [], old := [], charged := [], poison := [], weak := [],
    bad := [], log := [], scrub := [] }

def Fabric.reset : Fabric :=
  { ports := [], paths := [], reqs := [], nextTag := 0, atoms := 0, xfers := [], nextX := 0, recs := [], ratc := [], removing := none, replies := [],
    inq := [], beaconK := 0, echoK := 0, followers := [], ssiTail := [], ssiHead := [], ssiAdded := [] }

def Recorder.reset : Recorder :=
  { st := .idle, log := [], tail := [], head := 0, nextSeq := 0, dropped := 0, buffered := 0, wrapped := false, skipped := false, atStart := false,
    expect := [], halted := false, stopTaken := 0, xfer := 0, occur := [], untouched := true, inSeq := 0, inj := false }

def Health.reset : Health :=
  { scores := [], quar := [], tbin := [], lbin := [], ceCount := [], log := [], seed := [], passed := [], testing := [], trios := [], turn := [], role := .active,
    roleBefore := .active, fenced := false, pair := .none, pairNode := 0, taken := false, peers := [], expel := 0, expelCause := 0,
    expelSpare := 0, expelSent := 0, tokens := 0, tokenAt := 0, spares := [], reqs := [], granted := [], standby := [], heldInd := [], unmuteAt := [],
    shRun := 0, shMiss := 0, rerun := none, serveFor := none }

/-- Start before PWR_OK: no supply good, PERST# asserted, an unowned part with its identity (log entry 6). -/
def Start.reset : Start :=
  { pwrOk := false, perst := true, dev := .start, phase := 0, p5done := false, beganAt := 0, startMs := 0, served := false, failed := false, servedAt := 0,
    slot := 0, fallback := false, fullTrain := 0, cause := 0, entry := 0, slots := [], trainOwed := false, trainCopy := 0, svnMin := 0,
    revoke := 0, ownerSet := false, identErased := false, debugOff := false, ownerHash := 0, imgOwner := 0, imgDigest := 0, imgSvn := 0,
    mr := [], keys := [], sessionKey := false, sessionSeed := 0, aliasMr := [], nonce := 0, debug := false, debugScope := 0, action := 0, alarmed := false,
    haltTenants := false, tamperMiss := 0, tampOut := false, restartAt := 0, restart := 0, stoppingAt := 0, flash := none, spdm := 0,
    ir := .idcode, chain := 0 }

def Power.reset : Power :=
  { p := [], t := [], hold := [], temp := [], peak := [], ticks := 0, fastAt := none, pin := 0, thermTrip := false }

/-- `HUB_IDENT` of an -S part: ARITH 0x0000_0A11, STEPPING 0xA1 (R747; GRADE, log entry 7). -/
abbrev identReset : DWord := 0xA100000A11

/-- The package right after reset, before PWR_OK: no memory listed, no command waiting; registers at the After start values and at the
image defaults (R22, R721, log entries 6 and 7). -/
def State.reset : State :=
  { time := TimeUnit.reset, sched := Sched.reset, host := HostIf.reset, mat := { arrays := [], vecs := [], csLog := [] },
    inf := { models := [], seqs := [] }, chm := [], radio := Radio.reset, front := Front.reset, tiers := Tiers.reset, fab := Fabric.reset,
    rpl := Recorder.reset, health := Health.reset, start := Start.reset, power := Power.reset, regs := regDefaults.set Reg.HUB_IDENT identReset, latch := [], mem := [],
    out := [], drawn := 0, pending := [] }

end Sys2Proof.Machine
end

