-- ==== Sys2Proof/Machine/Ops.lean ====
section
/-! DEFINITION. Named operations that every chapter shares: registers, time, events, attentions, completion records, accounts. -/
namespace Sys2Proof.Machine

/-! ### Registers -/

/-- Stored value of the register at a BAR2 address. -/
def State.reg (s : State) (a : Nat) : Nat := (s.regs.get 0 a).toNat

/-- Bits `[lo + len - 1 : lo]` of a register. -/
def State.regBits (s : State) (a lo len : Nat) : Nat := bits (s.regs.get 0 a) lo len

/-- The register at `a` holding `v`. -/
def State.setReg (s : State) (a v : Nat) : State := { s with regs := s.regs.set a (BitVec.ofNat 64 v) }

/-- A 32-bit counter increased by `n`, modulo 2^32 (log entry 8). -/
def State.count (s : State) (a n : Nat) : State := s.setReg a ((s.reg a + n) % 2 ^ 32)

/-- A 64-bit counter increased by `n`, modulo 2^64 (log entry 8). -/
def State.count64 (s : State) (a n : Nat) : State := s.setReg a (s.reg a + n)

/-- Flag bits set in a register. -/
def State.flag (s : State) (a m : Nat) : State := s.setReg a (s.reg a ||| m)

/-! ### Time -/

/-- Whole Tc of the air-time counter. -/
def State.now (s : State) : Nat := s.time.tc

/-- The stamp of an instant in whole Tc since the epoch (R57). -/
def tcStamp (t : Nat) : Stamp := BitVec.ofNat 64 (t / frameTc * 2 ^ 25 + t % frameTc)

/-- The instant that a stamp names, in whole Tc (R57). -/
def stampTc (x : Stamp) : Nat := bits x 25 39 * frameTc + bits x 0 25

/-- Is a stamp well formed (R58)? -/
def stampOk (x : Stamp) : Bool := decide (bits x 0 25 < frameTc)

/-- Microseconds in whole Tc, rounded up (1 µs = 1,966.08 Tc, R11). -/
def usTc (n : Nat) : Nat := ceilDiv (n * 196608) 100

/-- Nanoseconds in whole Tc, rounded up. -/
def nsTc (n : Nat) : Nat := ceilDiv (n * 196608) 100000

/-- Whole Tc in nanoseconds, rounded up. -/
def tcNs (n : Nat) : Nat := ceilDiv (n * 100000) 196608

/-- The counter in 1/64 Tc. -/
def State.now64 (s : State) : Nat := s.time.tc * 64 + s.time.frac / 2 ^ 26

/-- cclk ceiling n_d of a die, in 32nds of nominal: the lesser of its power and thermal ceilings (R760). -/
def State.nDie (s : State) (d : Nat) : Nat := min (s.power.p.get 32 d) (s.power.t.get 32 d)

/-! ### Output -/

/-- Is a replay in progress, ended or stopped, so that nothing reaches hosts and ports (R651)? -/
def State.replayed (s : State) : Bool := s.rpl.st == .replaying || s.rpl.st == .replayEnd || s.rpl.st == .stopped

/-- Is an output kept inside during a replay (R651)? -/
def Output.held : Output → Bool
  | .readData _ _ => false
  | .readPoison _ => false
  | .pps _ _ => false
  | .spdm _ _ => false
  | .tdo _ => false
  | _ => true

/-- Something leaves the package; during a replay nothing goes to hosts and ports (R651). -/
def State.emit (s : State) (o : Output) : State := if s.replayed && o.held then s else { s with out := s.out ++ [o] }

/-! ### Functions and queue pairs -/

/-- PF0's number (R623). -/
abbrev pf0 : Nat := 2047

/-- Is `f` a function of the package: VF 0 to 1,023 or PF0? -/
def isFn (f : Nat) : Bool := decide (f < 1024) || f == pf0

def State.fn (s : State) (f : Nat) : Fn := s.host.fns.get {} f

def State.setFn (s : State) (f : Nat) (x : Fn) : State := { s with host := { s.host with fns := s.host.fns.set f x } }

def State.qp (s : State) (f q : Nat) : QPair := (s.fn f).qs.get {} q

def State.setQp (s : State) (f q : Nat) (x : QPair) : State :=
  s.setFn f { s.fn f with qs := (s.fn f).qs.set q x }

/-- Is a function ON? PF0 always is (R609 names no disable of it). -/
def State.fnOn (s : State) (f : Nat) : Bool := f == pf0 || (s.fn f).en.st == .on

def State.qpOn (s : State) (f q : Nat) : Bool := (s.qp f q).en.st == .on

/-- Codes of the device state in the status word (R600). -/
def DevSt.code : DevSt → Nat
  | .start => 0
  | .serve => 1
  | .degraded => 2
  | .alarm => 3
  | .stopping => 4

/-- Pending attention of the highest priority, 0 for none (R600, R601). -/
def topAttn (attn : BitVec 8) : Nat := ([3, 4, 2, 1, 6, 5, 7].find? (fun n => bit attn n)).getD 0

/-- The status word of a function (R600). -/
def State.statusWord (s : State) (f : Nat) : BitVec 16 :=
  BitVec.ofNat 16 (topAttn (s.fn f).attn * 2 ^ 12 + s.start.dev.code * 2 ^ 8 + (s.fn f).seq.toNat)

/-- A record joins those that wait for a free CQ entry; when its pair is not ON it is dropped and counted (R599, R609). -/
def State.post (s : State) (f q : Nat) (r : Rec) : State :=
  if s.qpOn f q then s.setQp f q { s.qp f q with store := (s.qp f q).store ++ [r] }
  else s.count Reg.HIF_QOFF_DROP 1

/-- A STATUS record is owed to a function: written now, or gathered within the hold; none when the CQ is not ON (R602, R604). -/
def State.statusNote (s : State) (f : Nat) : State :=
  let x := s.fn f
  if !s.qpOn f x.attnCq then s
  else if (match x.lastStatus with | some t => decide (s.now < t + usTc x.attnHold) | none => false) then
    s.setFn f { x with held := true }
  else
    (s.setFn f { x with lastStatus := some s.now, held := false }).post f x.attnCq
      { code := 0, kind := 4, slot := 0xFFFF, ref := 0, detail := BitVec.ofNat 128 x.attn.toNat, gen := x.gen }

/-- Attention `n` is raised to a function: its bit, SEQ, and a STATUS record (R602). -/
def State.raise (s : State) (f n : Nat) : State :=
  let x := s.fn f
  (s.setFn f { x with attn := x.attn ||| BitVec.ofNat 8 (2 ^ n), seq := x.seq + 1 }).statusNote f

/-- Functions that are ON, PF0 last. -/
def State.onFns (s : State) : List Nat :=
  (s.host.fns.filter (fun p => decide (p.1 < 1024) && p.2.en.st == .on)).map (·.1) ++ [pf0]

/-- An attention raised to PF0 and every VF that is ON (R601). -/
def State.raiseAll (s : State) (n : Nat) : State := s.onFns.foldl (fun s f => s.raise f n) s

/-- Flags set in an event register; attention `n` to PF0 when one of them is enabled and the device has reached SERVE (R601, R785). -/
def State.event (s : State) (evt en m n : Nat) : State :=
  let s := s.flag evt m
  if s.reg en &&& m ≠ 0 ∧ s.start.served then s.raise pf0 n else s

def State.timEvt (s : State) (m : Nat) : State := s.event Reg.TIM_EVT Reg.TIM_EVT_EN m 1
def State.cycEvt (s : State) (g m : Nat) : State := s.event (Reg.CYC_EVT g) (Reg.CYC_EVT_EN g) m 7
def State.memEvt (s : State) (m : Nat) : State := s.event Reg.MEM_EVT Reg.MEM_EVT_EN m 2
def State.fabEvt (s : State) (m : Nat) : State := s.event Reg.FAB_EVT Reg.FAB_EVT_EN m 2
def State.hifEvt (s : State) (m : Nat) : State := s.event Reg.HIF_EVT Reg.HIF_EVT_EN m 2
def State.rplEvt (s : State) (m : Nat) : State := s.event Reg.RPL_EVT Reg.RPL_EVT_EN m 6
def State.hltEvt (s : State) (m : Nat) : State := s.event Reg.HLT_EVT Reg.HLT_EVT_EN m 2
def State.thrEvt (s : State) (m : Nat) : State := s.event Reg.HUB_THR_EVT Reg.HUB_THR_EVT_EN m 2

/-- The device state changes: a STATUS record to every function whose CQ is ON (R604). -/
def State.setDev (s : State) (d : DevSt) : State :=
  if s.start.dev = d then s
  else s.onFns.foldl (fun s f => s.statusNote f) { s with start := { s.start with dev := d } }

/-- The SUBMIT record of a host submission (R597, R598). -/
def State.submitDone (s : State) (f q slot gen code : Nat) (detail : BitVec 128) : State :=
  s.post f q { code := code, kind := 0, slot := slot, ref := 0, detail := detail, gen := gen }

/-! ### Accounts -/

/-- Counter `j` (offset 8 j of the account record) of account `i` grows by `n` (R615 to R619). -/
def State.acct (s : State) (i j n : Nat) : State :=
  { s with host := { s.host with acct := { s.host.acct with work := s.host.acct.work.upd 0 (16 * i + j) (· + n) } } }

/-! ### Numbered units (R24 to R26) -/

abbrev uIbex (a : Nat) : Nat := 0x1000 + a
abbrev uChm (k : Nat) : Nat := 0x2000 + k
abbrev uVec (c : Nat) : Nat := 0x3000 + c
abbrev uMov (c : Nat) : Nat := 0x4000 + c
abbrev uKud (g : Nat) : Nat := 0x5000 + g
/-- The hub running a service list of context `id` (R252). -/
abbrev uSvc (id : Nat) : Nat := 0x10000 + id

def uKind (u : Nat) : Nat := u / 0x1000
def uIdx (u : Nat) : Nat := u % 0x100

/-- Does a unit with this code exist (R24, R26; the hub runs at most one service list per context, R252)? -/
def isUnit (u : Nat) : Bool :=
  (uKind u == 1 && decide (u % 0x1000 < 96)) || (uKind u == 2 && decide (u % 0x1000 < 192)) || (uKind u == 3 && decide (u % 0x1000 < 48)) ||
  (uKind u == 4 && decide (u % 0x1000 < 48)) || (uKind u == 5 && decide (u % 0x1000 < 12)) || (decide (0x10001 ≤ u) && decide (u ≤ 0x1FFFE))

/-- Does a part with health scores and this code exist (R663)? -/
def isPart (u : Nat) : Bool :=
  (isUnit u && decide (u < 0x10000)) || (uKind u == 6 && decide (u % 0x1000 < 12)) || (uKind u == 8 && decide (u % 0x1000 < 48)) ||
  (uKind u == 0xB && decide (u % 0x1000 < 4)) || (uKind u == 0xC && decide (u % 0x1000 < 8)) || (uKind u == 0xD && decide (u % 0x1000 < 4))

/-- Engine class of a unit (R248). -/
def uClass (u : Nat) : Nat :=
  match uKind u with
  | 1 => 1
  | 2 => 3
  | 3 => 2
  | 4 => 5
  | 5 => 4
  | _ => 0

/-- Cluster of a unit or part (R25); a Kudu engine lies in none. -/
def uCluster (u : Nat) : Nat :=
  match uKind u with
  | 1 => uIdx u / 2
  | 2 => uIdx u / 4
  | _ => uIdx u

/-- Region of a unit or part (R25). -/
def uRegion (u : Nat) : Nat :=
  match uKind u with
  | 1 => uIdx u / 8
  | 2 => uIdx u / 16
  | 3 | 4 | 8 => uIdx u / 4
  | _ => uIdx u

/-- Unit code of unit `i` of a class for cluster `c` (R248). -/
def classUnit (cls c i : Nat) : Nat :=
  match cls with
  | 1 => uIbex (2 * c + i)
  | 2 => uVec c
  | 3 => uChm (4 * c + i)
  | 4 => uKud (c / 4)
  | _ => uMov c

/-- Units of a class that a context of one cluster may use (R248). -/
def classSize (cls : Nat) : Nat :=
  match cls with
  | 1 => 2
  | 3 => 4
  | _ => 1

def State.unit (s : State) (u : Nat) : UnitSt := s.sched.units.get {} u

def State.setUnit (s : State) (u : Nat) (x : UnitSt) : State := { s with sched := { s.sched with units := s.sched.units.set u x } }

def State.run (s : State) (u : Nat) : Option Running := (s.unit u).run

def State.setRun (s : State) (u : Nat) (r : Option Running) : State := s.setUnit u { s.unit u with run := r }

/-! ### Quarantine (R672 to R676) -/

/-- Sensor of a part: its region's, its die's, or the hub's (R664, R777). -/
def partSensor (u : Nat) : Nat :=
  match uKind u with
  | 0xB => 12 + uIdx u
  | 0xC => 12 + uIdx u / 2
  | 0xD => 16
  | _ => uRegion u

/-- Temperature and load bin in force for a part; before its sensor is first read, the bin of 0 °C (R664, log entry 23). -/
def State.binOf (s : State) (u : Nat) : Nat := s.health.tbin.get 1 (partSensor u) * 4 + s.health.lbin.get 0 u

/-- Is the score of a part, in the bin in force, above the quarantine threshold (R609, R672)? -/
def State.scoreOk (s : State) (u : Nat) : Bool := decide (s.regBits Reg.HLT_CFG 0 10 < s.health.scores.get 1000 (32 * u + s.binOf u))

/-- A unit in STARTING goes ON when its score allows it, and a stopped one that runs nothing goes OFF, a latched request next (R607, R609). -/
def State.settleUnit (s : State) (u : Nat) : State :=
  let x := s.unit u
  let up (pend : Bool) : Enable := if s.scoreOk u then { st := if pend then .off else .on } else { st := .starting, pend := pend }
  match x.en.st with
  | .starting => s.setUnit u { x with en := up x.en.pend }
  | .stopping => if x.run.isSome then s else s.setUnit u { x with en := if x.en.pend then up false else { st := .off } }
  | .on => s
  | .off => s

/-- Quarantined unconditionally: by its scores or by the image (R672, R676). -/
def State.quarHard (s : State) (u : Nat) : Bool :=
  let k := s.health.quar.get {} u
  (k.kind == 1 || k.image) && !k.waits

/-- Excluded at present by a conditional quarantine (R672, R674). -/
def State.quarCond (s : State) (u : Nat) : Bool :=
  let k := s.health.quar.get {} u
  !k.waits && ((k.kind == 2 && decide (k.tmin ≤ s.binOf u / 4)) || (k.kind == 3 && decide (k.lmin ≤ s.binOf u % 4)))

/-- A region is quarantined with its memory port agent (R674), or by the image's list (R724). -/
def State.regionOut (s : State) (g : Nat) : Bool := s.quarHard (0x6000 + g) || s.quarHard (0x9000 + g)

/-- A cluster is excluded (R674). -/
def State.clusterOut (s : State) (c : Nat) : Bool := s.quarHard (0x8000 + c) || s.quarCond (0x8000 + c) || s.regionOut (c / 4)

/-- Causes of DEGRADED that hold, as `HLT_STATE.DEG` (R677): a cluster or region excluded, fenced, the partner lost or refused while mirrored
work exists, an expulsion waiting, time LOST. -/
def State.degCauses (s : State) : Nat :=
  packBits [s.health.quar.any (fun p => decide (p.1 / 4096 = 8 ∨ p.1 / 4096 = 9 ∨ p.1 / 4096 = 6) && (s.quarHard p.1 || s.quarCond p.1)), s.health.fenced,
    (s.health.pair == .lost || s.health.pair == .refused) && s.inf.models.any (fun p => p.2.mirrored), s.health.expel == 1, s.time.st == .lost]

/-- SERVE or DEGRADED follows its causes; START, ALARM and STOPPING take precedence (R677, R75). -/
def State.redev (s : State) : State :=
  match s.start.dev with
  | .serve => if s.degCauses ≠ 0 then s.setDev .degraded else s
  | .degraded => if s.degCauses = 0 then s.setDev .serve else s
  | .start => s
  | .alarm => s
  | .stopping => s

/-- A unit that is quarantined unconditionally or is not ON (R251). -/
def State.unitOut (s : State) (u : Nat) : Bool :=
  s.quarHard u || (s.unit u).en.st != .on || s.regionOut (uRegion u) ||
  (uKind u != 5 && (s.quarHard (0x8000 + uCluster u)))

/-- A unit in service: it may start a list now (R251, R674). -/
def State.unitIn (s : State) (u : Nat) : Bool :=
  !s.unitOut u && !s.quarCond u && (uKind u == 5 || !s.quarCond (0x8000 + uCluster u))

end Sys2Proof.Machine
end

