-- ==== Sys2Proof/Machine/Windows.lean ====
section
/-! DEFINITION. The cyclic table as a function of air time, and the windows in force (spec/03_cyclic_table.md, R110 to R130). -/
namespace Sys2Proof.Machine

/-- Period length in Tc (R111). -/
def periodTc (p : Nat) : Nat :=
  match p with
  | 0 => 19660800
  | 1 => 1966080
  | 2 => 983040
  | _ => 245760

/-- A window of the table (R112, R113). -/
structure Window where
  start : Nat
  len : Nat
  cls : Nat
  ibx : Bool
  owner : Nat
  maintDiv : Nat
  deriving DecidableEq, Repr

/-- Entry `i` of region `g`'s table (R113). -/
def State.window (s : State) (g i : Nat) : Window :=
  let w0 := s.regs.get 0 (Reg.CYC_ENTRY g i 0)
  let w1 := s.regs.get 0 (Reg.CYC_ENTRY g i 1)
  { start := bits w0 0 25, len := bits w0 25 25, cls := bits w0 50 2, ibx := bit w0 52, owner := bits w1 0 16, maintDiv := bits w1 16 4 }

def State.cycPeriod (s : State) (g : Nat) : Nat := periodTc (s.regBits (Reg.CYC_CFG g) 0 2)

def State.cycCount (s : State) (g : Nat) : Nat := s.regBits (Reg.CYC_CFG g) 2 13

/-- Index of the entry that holds an instant, if one does (R115). -/
def State.entryAt (s : State) (g t : Nat) : Option Nat :=
  let pos := t % s.cycPeriod g
  (List.range (s.cycCount g)).find? (fun i => let w := s.window g i; decide (w.start ≤ pos) && decide (pos < w.start + w.len))

/-- Period index of an instant (R117). -/
def State.periodIdx (s : State) (g t : Nat) : Nat := t / s.cycPeriod g

/-- Is a maintenance window active at an instant (R117)? -/
def State.maintActive (s : State) (g : Nat) (w : Window) (t : Nat) : Bool := s.periodIdx g t % 2 ^ w.maintDiv == 0

/-- Class and OWNER in force at an instant (R123). -/
def State.inForce (s : State) (g t : Nat) : Nat × Nat :=
  match s.entryAt g t with
  | none => (0, 0)
  | some i =>
    let w := s.window g i
    if w.cls = 3 ∧ !s.maintActive g w t then (0, 0) else (w.cls, w.owner)

/-- The first boundary after an instant: a start or an end of an entry, or the start of the next period. -/
def State.nextBoundary (s : State) (g t : Nat) : Nat :=
  let per := s.cycPeriod g
  let base := t / per * per
  let pos := t % per
  base + (List.range (s.cycCount g)).foldl (fun m i =>
    let w := s.window g i
    let m := if pos < w.start ∧ w.start < m then w.start else m
    if pos < w.start + w.len ∧ w.start + w.len < m then w.start + w.len else m) per

/-- The next closing point after an instant, looking at `fuel` boundaries (R123). -/
def State.nextCloseGo (s : State) (g : Nat) (fuel t : Nat) (now : Nat × Nat) : Option Nat :=
  match fuel with
  | 0 => none
  | fuel + 1 =>
    let b := s.nextBoundary g t
    if s.inForce g b ≠ now then some b else s.nextCloseGo g fuel b now

/-- The next closing point after an instant; none when class and OWNER never change (R123). One cycle of every MAINT_DIV is searched. -/
def State.nextClose (s : State) (g t : Nat) : Option Nat :=
  if s.cycCount g = 0 then none else s.nextCloseGo g (2 ^ 16 * (2 * s.cycCount g + 1)) t (s.inForce g t)

/-- The hard-stop point of a closing point (R123). -/
def hardStopOf (close : Nat) : Nat := close - 1967

/-- Is an instant within the guard band of the next closing point (R123)? -/
def State.inGuard (s : State) (g t : Nat) : Bool :=
  match s.nextClose g t with
  | none => false
  | some c => decide (c ≤ t + s.regBits (Reg.CYC_GUARD g) 0 18)

/-- Is an instant at or past the hard-stop point of the next closing point? -/
def State.pastStop (s : State) (g t : Nat) : Bool :=
  match s.nextClose g t with
  | none => false
  | some c => decide (hardStopOf c ≤ t)

/-- A declared length scaled to a throttled die, rounded up (R125). -/
def scaledLen (l n : Nat) : Nat := (l * 32 + n - 1) / n

/-- The fit check: may work of `l` Tc start now before the hard-stop point (R125)? -/
def State.mayStart (s : State) (g l : Nat) : Bool :=
  match s.nextClose g s.now with
  | none => true
  | some c => decide (s.now + l ≤ hardStopOf c)

def State.region (s : State) (g : Nat) : Region := s.sched.regions.get {} g

def State.setRegion (s : State) (g : Nat) (r : Region) : State :=
  { s with sched := { s.sched with regions := s.sched.regions.set g r } }

/-- Permitted region set of a tenant (R135, R154). -/
def State.permitted (s : State) (t g : Nat) : Bool := bit (s.regs.get 0 (Reg.CLU_TENANT t)) g

/-- Does the window in force in a region admit a context (R114, R116, R120, R121)? -/
def State.admits (s : State) (g : Nat) (x : Ctx) : Bool :=
  let r := s.region g
  !r.gap && r.overrun.isNone &&
  (if x.radio then r.cls == 1 && (r.owner == 0xFFFF || r.owner == x.owner)
   else r.cls == 2 && (if r.owner = 0xFFFF then s.permitted x.owner g else r.owner == x.owner))

end Sys2Proof.Machine
end

