-- ==== Sys2Proof/Machine/Access.lean ====
section
/-! DEFINITION. Contexts' reach of memory: Pool footprints and partitions, the placed range and its checks, spans of storage, poison, the
region's shares (R263, R264, R294, R478, R479, R482, R492 to R494, R501, R513). -/
namespace Sys2Proof.Machine

def State.ctx? (s : State) (id : Nat) : Option Ctx := s.sched.ctxs.find id

def State.setCtx (s : State) (x : Ctx) : State := { s with sched := { s.sched with ctxs := s.sched.ctxs.set x.id x } }

/-- Is a context resident: in a slot, as against in Mere (R133)? -/
def Ctx.resident (x : Ctx) : Bool :=
  match x.st with
  | .swappedReady | .swappedBlocked => false
  | _ => true

/-- Units of 64 KiB of a cluster's radio Pool partition (R151). -/
def State.radioPool (s : State) (c : Nat) : Nat := s.regBits (Reg.CLU_CFG c) 8 8

/-- Slots that a cluster reserves for radio contexts (R132, R151). -/
def State.radioSlots (s : State) (c : Nat) : Nat := s.regBits (Reg.CLU_CFG c) 0 3

/-- Does the region's table hold an IBX entry, so that each of its clusters reserves a spill area (R130)? -/
def State.hasIbx (s : State) (g : Nat) : Bool := (List.range (s.cycCount g)).any (fun i => (s.window g i).ibx)

/-- Units of a cluster's Pool below the partition and the spill area, for inference footprints (R482). -/
def State.inferPool (s : State) (c : Nat) : Nat := 128 - s.radioPool c - (if s.hasIbx (c / 4) then 2 else 0)

/-- Bytes that a context's Pool offsets reach: footprint, or partition for a radio context (R263). -/
def State.poolLen (s : State) (x : Ctx) : Nat := (if x.radio then s.radioPool x.cluster else x.footprint) * 65536

/-- Storage number of byte `o` of a context's footprint or partition: Pool when resident, else the saved footprint (R137, R263, R482). -/
def State.poolAddr (s : State) (x : Ctx) (o : Nat) : Nat :=
  if x.radio then poolAt x.cluster ((128 - s.radioPool x.cluster) * 65536 + o)
  else if x.resident then poolAt x.cluster (x.poolBase * 65536 + o)
  else saveAt x.id o

/-- A run of storage: first byte and number of bytes. -/
abbrev Span := Nat × Nat

/-! ### The placed range -/

def State.page (s : State) (p : Nat) : Page := s.tiers.pages.get {} p

def State.setPage (s : State) (p : Nat) (x : Page) : State :=
  { s with tiers := { s.tiers with pages := if x = {} then s.tiers.pages.del p else s.tiers.pages.set p x } }

/-- Storage number of byte `o` of a frame. -/
def frameAt (tier die frame o : Nat) : Nat := if tier = 1 then tarnAt die frame o else mereAt die frame o

/-- Does a tenant hold a claim in some tier on a shared page (R494, R505)? -/
def State.hasClaim (s : State) (c t : Nat) : Bool :=
  match s.tiers.claims.find c with
  | none => false
  | some k => k.tarn.contains t || k.mere.contains t

/-- The check of one page for owner `t` (R494): 0, or the status that ends the command. -/
def State.pageChk (s : State) (t p : Nat) (store : Bool) : Nat :=
  let e := s.page p
  if e.tier = 0 then 0xA2
  else if e.shared then
    (if s.hasClaim e.claim t then (if store then 0xA5 else 0) else 0xA4)
  else if e.owner = t then 0 else 0xA4

/-- The pieces of `n` bytes at `a` that lie in one 64 KiB page each, as (page, offset, bytes). -/
def pieces (fuel a n : Nat) : List (Nat × Nat × Nat) :=
  match fuel with
  | 0 => []
  | fuel + 1 =>
    if n = 0 then []
    else
      let k := min n (65536 - a % 65536)
      (a / 65536, a % 65536, k) :: pieces fuel (a + k) (n - k)

def piecesOf (a n : Nat) : List (Nat × Nat × Nat) := pieces (n / 65536 + 2) a n

/-- Owner as which a context accesses the placed range (R494). -/
def Ctx.asOwner (x : Ctx) : Nat := if x.radio then 0x400 else x.owner

/-- First failing check of an access to the placed range, 0 when none fails; `t` none is the unchecked reach of PF0 (R478, R479, R494). -/
def State.placedChk (s : State) (t : Option Nat) (a n : Nat) (store : Bool) : Nat :=
  if 0x8000000000 < a + n then 0xA0
  else
    ((piecesOf a n).foldl (fun c p => if c ≠ 0 then c else
      match t with
      | some t => s.pageChk t p.1 store
      | none => if (s.page p.1).tier = 0 then 0xA2 else 0) 0)

/-- Spans of storage under `n` bytes of the placed range. -/
def State.placedSpans (s : State) (a n : Nat) : List Span :=
  (piecesOf a n).map (fun p => let e := s.page p.1; (frameAt e.tier e.die e.frame p.2.1, p.2.2))

/-! ### Spans -/

def Mem.rdSpans (m : Mem) (l : List Span) : List Byte :=
  match l with
  | [] => []
  | (a, n) :: r => m.rdBytes a n ++ Mem.rdSpans m r

/-- Bytes written over spans in order; bytes beyond the spans are dropped. -/
def Mem.wrSpans (m : Mem) (l : List Span) (b : List Byte) : Mem :=
  match l with
  | [] => m
  | (a, n) :: r => Mem.wrSpans (m.wrBytes a (b.take n)) r (b.drop n)

/-- Does a span touch the 64-byte line at `l`? -/
def Span.hits (p : Span) (l : Nat) : Bool := decide (p.1 < l + 64) && decide (l < p.1 + p.2)

/-- Does a span cover the whole line at `l`? -/
def Span.covers (p : Span) (l : Nat) : Bool := decide (p.1 ≤ l) && decide (l + 64 ≤ p.1 + p.2)

/-- Is a line of the spans poisoned (R513)? -/
def State.poisoned (s : State) (l : List Span) : Bool := s.tiers.poison.any (fun p => l.any (fun q => Span.hits q p))

/-- Bytes of spans. -/
def State.rdSpans (s : State) (l : List Span) : List Byte := s.mem.rdSpans l

/-- Bytes stored over spans: a store of a whole line clears its poison (R513); a store to a line that a running copy has passed is applied
to the new frame too (R501). -/
def State.wrSpans (s : State) (l : List Span) (b : List Byte) : State :=
  let m := s.mem.wrSpans l b
  let m := s.tiers.migs.foldl (fun m g =>
    if !g.started || g.fill then m
    else
      let e := s.page g.dir.page
      let o := frameAt e.tier e.die e.frame 0
      let n := frameAt g.toTier g.toDie g.toFrame 0
      l.foldl (fun m p =>
        if o ≤ p.1 ∧ p.1 < o + 64 * g.line then m.copy p.1 (n + (p.1 - o)) (min p.2 (o + 64 * g.line - p.1)) else m) m) m
  { s with mem := m, tiers := { s.tiers with poison := s.tiers.poison.filter (fun p => !(l.any (fun q => Span.covers q p))) } }

/-! ### Memory log and poison (R513, R521, R522) -/

/-- An entry of the memory log, as the checksum log of R191 behaves. -/
def State.memLog (s : State) (kind tenant tier die frame page : Nat) : State :=
  let h := s.reg Reg.MEM_LOG_HEAD
  let e : BitVec 128 := BitVec.ofNat 128 ((tcStamp s.now).toNat + 2 ^ 64 *
    (kind + tenant * 2 ^ 4 + tier * 2 ^ 15 + die * 2 ^ 17 + frame * 2 ^ 20 + page * 2 ^ 40))
  let s := { s with tiers := { s.tiers with log := s.tiers.log.set h e } }
  let s := s.setReg Reg.MEM_LOG_HEAD ((h + 1) % 1024)
  if s.reg Reg.MEM_LOG_COUNT < 1024 then s.setReg Reg.MEM_LOG_COUNT (s.reg Reg.MEM_LOG_COUNT + 1)
  else ((s.setReg Reg.MEM_LOG_TAIL ((s.reg Reg.MEM_LOG_TAIL + 1) % 1024)).count Reg.MEM_LOG_LOST 1).memEvt 0x20

/-- A read of a poisoned line is reported: the flag and a log entry of KIND 4 (R513). -/
def State.poisonRead (s : State) (tenant : Nat) : State := (s.memLog 4 tenant 0 0 0 0x7FFFFF).memEvt 0x10

/-! ### Addresses that commands name -/

/-- Status that refuses a Pool offset with its length, 0 when it lies within (R263). -/
def State.poolChk (s : State) (x : Ctx) (o n : Nat) : Nat := if s.poolLen x < o + n then 0x63 else 0

/-- Status that refuses an address reference of SPACE 0 or 1, 0 when it passes (R263, R264, R479, R494). -/
def State.refChk (s : State) (x : Ctx) (r n : Nat) (store : Bool) : Nat :=
  if r / 2 ^ 60 = 1 then s.poolChk x (r % 2 ^ 32) n else s.placedChk (some x.asOwner) (r % 2 ^ 48) n store

/-- Is an address reference well formed for SPACE 0 and 1 (R264)? -/
def refOk01 (r : Nat) : Bool :=
  (r / 2 ^ 60 == 0 && r / 2 ^ 48 % 2 ^ 12 == 0) || (r / 2 ^ 60 == 1 && r / 2 ^ 32 % 2 ^ 28 == 0)

/-- Spans of an address reference of SPACE 0 or 1. -/
def State.refSpans (s : State) (x : Ctx) (r n : Nat) : List Span :=
  if r / 2 ^ 60 = 1 then [(s.poolAddr x (r % 2 ^ 32), n)] else s.placedSpans (r % 2 ^ 48) n

/-! ### Shares and byte counts (R294, R617) -/

/-- Account of a context (R615). -/
def Ctx.account (x : Ctx) : Nat := if x.radio then 1024 + x.cell else x.owner

/-- Budget of a share, bytes a window (R294, R302). -/
def State.share (s : State) (g k : Nat) : Nat := s.regBits (Reg.MOV_SPLIT g) (8 * k) 5 * 22500

/-- Bytes charged to share `k` of a region: 0 read, 1 write, 2 remote. What the window cannot hold waits for the next (R294). -/
def State.charge (s : State) (g k n : Nat) : State :=
  let b := s.sched.band.get {} g
  let used := if k = 0 then b.rd else if k = 1 then b.wr else b.rm
  let was := if k = 0 then b.rdFull else if k = 1 then b.wrFull else b.rmFull
  let past := decide (s.share g k < used + n)
  let b' := if k = 0 then { b with rd := used + n, rdFull := was || past }
    else if k = 1 then { b with wr := used + n, wrFull := was || past }
    else { b with rm := used + n, rmFull := was || past }
  let s := { s with sched := { s.sched with band := s.sched.band.set g b' } }
  let s := s.count64 (if k = 0 then Reg.MOV_RD_BYTES g else if k = 1 then Reg.MOV_WR_BYTES g else Reg.MOV_RM_BYTES g) n
  if past && !was then s.count (if k = 0 then Reg.MOV_RD_FULL g else if k = 1 then Reg.MOV_WR_FULL g else Reg.MOV_RM_FULL g) 1 else s

/-- A page looked up by region g's memory port agent: a miss in its translation buffer and in the hub's cache reads the die's copy of the
table, 64 bytes of the region's read share; the oldest entry makes room (R493, log entry 45). -/
def State.translate (s : State) (g p : Nat) : State :=
  let b := s.sched.tlb.get [] g
  let h := s.sched.tlb.get [] 12
  if b.contains p then s
  else
    let tlb := s.sched.tlb.set g ((p :: b).take 1024)
    if h.contains p then { s with sched := { s.sched with tlb := tlb } }
    else { s with sched := { s.sched with tlb := tlb.set 12 ((p :: h).take 16384) } }.charge g 0 64

/-- Bytes of a command's access to the placed range: its pages' translation, the share, and the account's tier counters (R294, R493, R617). -/
def State.chargePlaced (s : State) (x : Ctx) (a n : Nat) (store : Bool) : State :=
  let t := (s.page (a / 65536)).tier
  let s := (List.range ((a + n + 65535) / 65536 - a / 65536)).foldl (fun (s : State) i => s.translate (x.cluster / 4) (a / 65536 + i)) s
  (s.charge (x.cluster / 4) (if store then 1 else 0) n).acct x.account ((if t = 1 then 7 else 9) + (if store then 1 else 0)) n

/-- Charge of an access by reference: Pool traffic counts against none (R294). -/
def State.chargeRef (s : State) (x : Ctx) (r n : Nat) (store : Bool) : State :=
  if r / 2 ^ 60 = 1 then s else s.chargePlaced x (r % 2 ^ 48) n store

end Sys2Proof.Machine
end

