-- ==== Sys2Proof/Machine/CmdFmt.lean ====
section
/-! DEFINITION. The 64-byte command: word 0, and the format that the fetcher checks of every command (R256, R259, R264 to R283, R371, R372,
R408, R557, R566). -/
namespace Sys2Proof.Machine

/-! ### Word 0 and word 1 (R259) -/

def cOp (c : Cmd) : Nat := bits c 0 8
def cStamp (c : Cmd) : Bool := bit c 8
def cLate (c : Cmd) : Nat := bits c 9 2
def cGroup (c : Cmd) : Bool := bit c 11
def cGidx (c : Cmd) : Nat := bits c 12 8
def cWait (c : Cmd) : Bool := bit c 20
def cWaitq (c : Cmd) : Nat := bits c 21 3
def cBind (c : Cmd) : Bool := bit c 24
def cFence (c : Cmd) : Bool := bit c 25
def cRel (c : Cmd) : Bool := bit c 26
def cRelq (c : Cmd) : Nat := bits c 27 3
def cVis (c : Cmd) : Bool := bit c 30
def cSys (c : Cmd) : Nat := bits c 32 4
def cTilerel (c : Cmd) : Bool := bit c 36
def cDctx (c : Cmd) : Nat := bits c 48 16
/-- Word 1: the stamp named by STAMP or VIS. -/
def cWord1 (c : Cmd) : Stamp := BitVec.ofNat 64 (bits c 64 64)

/-- Bytes `i` to `i + n - 1` are zero. -/
def zb (c : Cmd) (i n : Nat) : Bool := cmdField c i n == 0

/-- Opcodes that carry a primary input (R265, R371). -/
def hasPrimary (op : Nat) : Bool :=
  [0x20, 0x21, 0x23, 0x40, 0x41, 0x42, 0x43, 0x44, 0x45, 0x46, 0x60, 0x61, 0xA0, 0xA1, 0xA3, 0xA4, 0xA5].contains op

/-- Word 0 and word 1 are well formed (R259, R260, R265, R290). -/
def word0Ok (c : Cmd) : Bool :=
  !bit c 31 && bits c 37 11 == 0 && !(cStamp c && cVis c) && cLate c != 3 && (cStamp c || cVis c || bits c 64 64 == 0) &&
  (!cGroup c || cStamp c) && (!cFence c || cOp c == 0x21) && (!cTilerel c || cOp c == 0xA1) && (!cBind c || hasPrimary (cOp c))

/-- An address reference that a remote command accepts, and its fields (R264). -/
def refOkAny (r : Nat) : Bool :=
  refOk01 r || (r / 2 ^ 60 == 2 && r / 2 ^ 40 % 2 ^ 8 == 0) || (r / 2 ^ 60 == 3 && r / 2 ^ 46 % 2 ^ 14 == 0) ||
  (r / 2 ^ 60 == 4 && r / 2 ^ 40 % 2 ^ 8 == 0)

/-- A reference to local memory: SPACE 0 below the Lake window, or SPACE 1 (R264, R478). -/
def refLocal (r : Nat) : Bool := r / 2 ^ 60 == 1 || (r / 2 ^ 60 == 0 && decide (r % 2 ^ 48 < 0xC00000000000))

/-- Payload of a service command (R282): fields in range, unnamed bytes zero. -/
def servicePayloadOk (op : Nat) (c : Cmd) : Bool :=
  match op with
  | 0x00 => zb c 16 48
  | 0x02 => refOk01 (cmdField c 16 8) && cStamp c && zb c 28 28
  | 0x03 => cStamp c && decide (1 ≤ cmdField c 20 2 ∧ cmdField c 20 2 ≤ 511) && decide (cmdField c 22 1 ≤ 63) && zb c 23 1 && zb c 28 28 &&
      decide (19661 ≤ cmdField c 16 4)
  | 0x04 => zb c 19 1 && decide (cmdField c 16 2 < 4096) && decide (1 ≤ cmdField c 20 2 ∧ cmdField c 20 2 ≤ 511) && zb c 22 34
  | 0x05 => zb c 24 40
  | 0x06 => zb c 24 32
  | 0x07 => zb c 48 8
  | 0x08 | 0x09 | 0x0A | 0x0B | 0x0C =>
      decide (1 ≤ cmdField c 28 1 ∧ cmdField c 28 1 ≤ 2) && (decide (cmdField c 29 1 ≤ 3) || cmdField c 29 1 == 0xFF) &&
      decide (cmdField c 30 1 ≤ 1) && zb c 31 25
  | 0x0D => decide (1 ≤ cmdField c 16 2 ∧ cmdField c 16 2 ≤ 128) && (decide (cmdField c 18 1 < 48) || cmdField c 18 1 == 0xFF) &&
      decide (cmdField c 19 1 < 16) && zb c 20 36
  | 0x0E => zb c 18 38
  | _ => false

/-- A handle names Pool only: REL asks for a destination in SPACE 1 (R284, R563, log entry 17). -/
def relPool (c : Cmd) (i : Nat) : Bool := !cRel c || cmdField c i 8 / 2 ^ 60 == 1

/-- Lifting sizes of TS 38.212 (R408): 2, 3, 5, 7, 9, 11, 13 or 15 times a power of two, up to 384. -/
def liftOk (z : Nat) : Bool :=
  decide (2 ≤ z ∧ z ≤ 384) && [2, 3, 5, 7, 9, 11, 13, 15].any (fun a => (List.range 8).any (fun j => z == a * 2 ^ j))

/-- CRC bits of an LDPC command (R408). -/
def ldpcCrcLen (code : Nat) : Nat :=
  match code with
  | 0 => 0
  | 1 => 24
  | 2 => 24
  | _ => 16

/-- CRC bits of a polar command (R408). -/
def polarCrcLen (code : Nat) : Nat :=
  match code with
  | 0 => 6
  | 1 => 11
  | _ => 24

/-- Payload of an engine command (R266 to R281, R371, R372, R408, R557, R566). -/
def enginePayloadOk (op : Nat) (c : Cmd) : Bool :=
  match op with
  | 0x20 => cmdField c 16 4 % 256 == 0 && decide (1 ≤ cmdField c 20 2 ∧ cmdField c 20 2 ≤ 256) && decide (cmdField c 22 1 < 4) && zb c 23 41
  | 0x21 => cmdField c 56 8 / 2 ^ 40 == 0 && decide (bits c (448 + 36) 4 ≤ 8)
  | 0x22 | 0x23 => cmdField c 16 4 % 256 == 0 && zb c 20 44
  | 0x40 | 0x41 | 0x42 | 0x43 | 0x44 | 0x45 | 0x46 =>
      decide (1 ≤ cmdField c 32 2) && decide (1 ≤ cmdField c 34 2) && !bit c (288 + 5) && !bit c (288 + 7) && decide (bits c (288 + 2) 3 ≤ 4) &&
      decide (cmdField c 38 1 < 8) && zb c 39 1 && zb c 56 8
  | 0x47 => true
  | 0x60 => refOk01 (cmdField c 16 8) && cmdField c 24 4 % 8 == 0 && decide (8 ≤ cmdField c 24 4 ∧ cmdField c 24 4 ≤ 65536) &&
      decide (cmdField c 28 2 < 8192) && zb c 30 34
  | 0x61 => refOk01 (cmdField c 16 8) && cmdField c 24 4 % 4 == 0 && decide (4 ≤ cmdField c 24 4 ∧ cmdField c 24 4 ≤ 131072) &&
      decide (cmdField c 28 4 < 2 ^ 18) && zb c 32 32
  | 0x62 => decide (cmdField c 16 4 < 2 ^ 18) && cmdField c 20 4 % 4 == 0 && decide (4 ≤ cmdField c 20 4 ∧ cmdField c 20 4 ≤ 131072) &&
      refOk01 (cmdField c 24 8) && zb c 32 32 && relPool c 24
  | 0x63 => decide (cmdField c 18 1 < 2) && zb c 19 1
  | 0x80 => refOk01 (cmdField c 16 8) && refOk01 (cmdField c 24 8) && relPool c 24 && cmdField c 38 2 == 0 && liftOk (cmdField c 40 2) && decide (cmdField c 42 1 < 16) &&
      decide (1 ≤ cmdField c 43 1 ∧ cmdField c 43 1 ≤ 32) && decide (1 ≤ cmdField c 44 4 ∧ cmdField c 44 4 ≤ 1048576) && zb c 50 2 &&
      decide (cmdField c 56 1 ≤ 3) && [1, 2, 4, 6, 8].contains (cmdField c 57 1) && zb c 58 6
  | 0x81 => refOk01 (cmdField c 16 8) && refOk01 (cmdField c 24 8) && relPool c 24 && liftOk (cmdField c 40 2) && zb c 32 8 && decide (cmdField c 42 1 < 16) && !bit c (336 + 1) &&
      zb c 43 1 && decide (1 ≤ cmdField c 44 4 ∧ cmdField c 44 4 ≤ 1048576) && zb c 50 2 && decide (cmdField c 56 1 ≤ 3) &&
      [1, 2, 4, 6, 8].contains (cmdField c 57 1) && zb c 58 6
  | 0x82 | 0x83 => refOk01 (cmdField c 16 8) && refOk01 (cmdField c 24 8) && relPool c 24 && zb c 32 8 &&
      [32, 64, 128, 256, 512, 1024].contains (cmdField c 40 2) && decide (cmdField c 42 1 < 16) && bits c 336 2 != 3 && zb c 43 1 &&
      decide (1 ≤ cmdField c 44 4 ∧ cmdField c 44 4 ≤ 8192) && decide (12 ≤ cmdField c 48 2 ∧ cmdField c 48 2 ≤ 164 + polarCrcLen (bits c 336 2)) && zb c 50 8 && zb c 60 4
  | 0xA0 => refOk01 (cmdField c 16 8) && refOk01 (cmdField c 24 8) && decide (1 ≤ cmdField c 32 4) && zb c 36 4 && zb c 48 16 && relPool c 24
  | 0xA1 => refOkAny (cmdField c 16 8) && refOkAny (cmdField c 24 8) && refLocal (cmdField c 16 8) != refLocal (cmdField c 24 8) &&
      decide (1 ≤ cmdField c 32 2) && decide (1 ≤ cmdField c 34 2) && decide (1 ≤ cmdField c 36 2) && decide (1 ≤ cmdField c 38 2) &&
      ((!cRel c && !cTilerel c) || !refLocal (cmdField c 24 8) || cmdField c 24 8 / 2 ^ 60 == 1)
  | 0xA2 => refOk01 (cmdField c 16 8) && zb c 24 8 && decide (1 ≤ cmdField c 32 4) && zb c 36 12 && zb c 56 8 && relPool c 16
  | 0xA3 => refOk01 (cmdField c 32 8) && decide (1 ≤ cmdField c 40 2) && decide (1 ≤ cmdField c 42 2 ∧ cmdField c 42 2 ≤ 256) &&
      decide (cmdField c 47 1 < 8) && zb c 48 16 && relPool c 32
  | 0xA4 => refOk01 (cmdField c 16 8) && refOk01 (cmdField c 24 8) && zb c 32 32 && relPool c 16
  | 0xA5 => refOk01 (cmdField c 16 8) && refOk01 (cmdField c 24 8) && decide (cmdField c 32 1 ≤ 4) && decide (cmdField c 33 1 < 4) && zb c 34 2 &&
      (if cmdField c 32 1 = 1 then decide (1 ≤ cmdField c 48 2 ∧ cmdField c 48 2 ≤ 256) else zb c 48 2 && zb c 52 4) && zb c 50 2 && zb c 56 8 && relPool c 24
  | 0xA6 => [2, 3].contains (cmdField c 16 8 / 2 ^ 60) && refOkAny (cmdField c 16 8) && bits c 192 4 < 10 && !bit c 198 && !bit c 199 &&
      zb c 25 7 && zb c 52 12 && (bit c 197 || !(bits c 192 4 == 8 || bits c 192 4 == 9)) &&
      cmdField c 16 8 % 2 ^ 40 % (if bit c 196 then 8 else 4) == 0
  | 0xA7 => zb c 26 6 && zb c 40 24 && !cRel c && !cTilerel c && cRelq c == 0 && !cVis c
  | _ => false

/-- A command in a list of class `cls` passes the fetcher's check (R256, R265, R283). LIST, CTX_CREATE and CTX_END are malformed there. -/
def listCmdOk (cls : Nat) (c : Cmd) : Bool :=
  word0Ok c &&
  (if cOp c / 32 = 0 then cOp c != 1 && cOp c != 0xD && cOp c != 0xE && servicePayloadOk (cOp c) c && zb c 56 8
   else cOp c / 32 == cls && enginePayloadOk (cOp c) c)

/-- A list header passes R253 and R254; the length of R122 is checked apart. -/
def headerOk (c : Cmd) : Bool :=
  cOp c == 1 && word0Ok c && cmdField c 16 8 != 0 &&
  decide (2 ≤ cmdField c 24 2 ∧ cmdField c 24 2 ≤ 4096) && decide (cmdField c 26 1 ≤ 5) &&
  (if cmdField c 26 1 = 0 then cmdField c 27 1 == 0xFF
   else cmdField c 27 1 == 0xFF || decide (cmdField c 27 1 < classSize (cmdField c 26 1))) &&
  decide (cmdField c 30 1 < 4) && zb c 31 1 && zb c 34 30

end Sys2Proof.Machine
end

