-- ==== Sys2Proof/Machine/Crypto.lean ====
section
/-! DEFINITION. The public functions of cryptography that the spec names: SHA-384 (FIPS 180-4), HMAC and HKDF over it (RFC 5869), AES-256
(FIPS 197), its counter and Galois modes, and ECDSA verification over P-384 (FIPS 186). The keys that the device keeps are not in it. -/
namespace Sys2Proof.Machine

/-! ### SHA-384 -/

/-- The number that bytes spell, most significant first. -/
def msNat (l : List Byte) : Nat := l.foldl (fun n b => n * 256 + b.toNat) 0

/-- A number as `n` bytes, most significant first. -/
def msBytes (n v : Nat) : List Byte := (leBytes n v).reverse

/-- Initial hash value. -/
def sha384Init : List Nat :=
  [0xCBBB9D5DC1059ED8, 0x629A292A367CD507, 0x9159015A3070DD17, 0x152FECD8F70E5939,
   0x67332667FFC00B31, 0x8EB44A8768581511, 0xDB0C2E0D64F98FA7, 0x47B5481DBEFA4FA4]

/-- The 80 round constants. -/
def sha512K : List Nat :=
  [0x428A2F98D728AE22, 0x7137449123EF65CD, 0xB5C0FBCFEC4D3B2F, 0xE9B5DBA58189DBBC,
   0x3956C25BF348B538, 0x59F111F1B605D019, 0x923F82A4AF194F9B, 0xAB1C5ED5DA6D8118,
   0xD807AA98A3030242, 0x12835B0145706FBE, 0x243185BE4EE4B28C, 0x550C7DC3D5FFB4E2,
   0x72BE5D74F27B896F, 0x80DEB1FE3B1696B1, 0x9BDC06A725C71235, 0xC19BF174CF692694,
   0xE49B69C19EF14AD2, 0xEFBE4786384F25E3, 0x0FC19DC68B8CD5B5, 0x240CA1CC77AC9C65] ++
  [0x2DE92C6F592B0275, 0x4A7484AA6EA6E483, 0x5CB0A9DCBD41FBD4, 0x76F988DA831153B5,
   0x983E5152EE66DFAB, 0xA831C66D2DB43210, 0xB00327C898FB213F, 0xBF597FC7BEEF0EE4,
   0xC6E00BF33DA88FC2, 0xD5A79147930AA725, 0x06CA6351E003826F, 0x142929670A0E6E70,
   0x27B70A8546D22FFC, 0x2E1B21385C26C926, 0x4D2C6DFC5AC42AED, 0x53380D139D95B3DF,
   0x650A73548BAF63DE, 0x766A0ABB3C77B2A8, 0x81C2C92E47EDAEE6, 0x92722C851482353B] ++
  [0xA2BFE8A14CF10364, 0xA81A664BBC423001, 0xC24B8B70D0F89791, 0xC76C51A30654BE30,
   0xD192E819D6EF5218, 0xD69906245565A910, 0xF40E35855771202A, 0x106AA07032BBD1B8,
   0x19A4C116B8D2D0C8, 0x1E376C085141AB53, 0x2748774CDF8EEB99, 0x34B0BCB5E19B48A8,
   0x391C0CB3C5C95A63, 0x4ED8AA4AE3418ACB, 0x5B9CCA4F7763E373, 0x682E6FF3D6B2B8A3,
   0x748F82EE5DEFB2FC, 0x78A5636F43172F60, 0x84C87814A1F0AB72, 0x8CC702081A6439EC] ++
  [0x90BEFFFA23631E28, 0xA4506CEBDE82BDE9, 0xBEF9A3F7B2C67915, 0xC67178F2E372532B,
   0xCA273ECEEA26619C, 0xD186B8C721C0C207, 0xEADA7DD6CDE0EB1E, 0xF57D4F7FEE6ED178,
   0x06F067AA72176FBA, 0x0A637DC5A2C898A6, 0x113F9804BEF90DAE, 0x1B710B35131C471B,
   0x28DB77F523047D84, 0x32CAAB7B40C72493, 0x3C9EBE0A15C9BEBC, 0x431D67C49C100D4C,
   0x4CC5D4BECB3E42B6, 0x597F299CFC657E2A, 0x5FCB6FAB3AD6FAEC, 0x6C44198C4A475817]

/-- Rotation of a 64-bit word to the right. -/
def ror64 (x : DWord) (n : Nat) : DWord := (x >>> n) ||| (x <<< (64 - n))

/-- Message schedule: the last 16 words, newest first, extended `n` times; the words taken in order. -/
def shaSchedule (n : Nat) (last : List DWord) : List DWord :=
  match n with
  | 0 => []
  | n + 1 =>
    let w (k : Nat) : DWord := last.getD k 0
    let s0 := ror64 (w 14) 1 ^^^ ror64 (w 14) 8 ^^^ (w 14 >>> 7)
    let s1 := ror64 (w 1) 19 ^^^ ror64 (w 1) 61 ^^^ (w 1 >>> 6)
    let x := w 15 + s0 + w 6 + s1
    x :: shaSchedule n (x :: last.take 15)

/-- One round. -/
def shaRound (h : List DWord) (kw : DWord) : List DWord :=
  let v (k : Nat) : DWord := h.getD k 0
  let s1 := ror64 (v 4) 14 ^^^ ror64 (v 4) 18 ^^^ ror64 (v 4) 41
  let ch := (v 4 &&& v 5) ^^^ (~~~(v 4) &&& v 6)
  let t1 := v 7 + s1 + ch + kw
  let s0 := ror64 (v 0) 28 ^^^ ror64 (v 0) 34 ^^^ ror64 (v 0) 39
  let maj := (v 0 &&& v 1) ^^^ (v 0 &&& v 2) ^^^ (v 1 &&& v 2)
  [t1 + s0 + maj, v 0, v 1, v 2, v 3 + t1, v 4, v 5, v 6]

/-- One 128-byte block. -/
def shaBlock (h : List DWord) (b : List Byte) : List DWord :=
  let m : List DWord := (List.range 16).map (fun i => BitVec.ofNat 64 (msNat ((b.drop (8 * i)).take 8)))
  let w := m ++ shaSchedule 64 m.reverse
  let r := (List.zip w sha512K).foldl (fun h p => shaRound h (p.1 + BitVec.ofNat 64 p.2)) h
  (List.zip h r).map (fun p => p.1 + p.2)

def shaGo (fuel : Nat) (h : List DWord) (l : List Byte) : List DWord :=
  match fuel with
  | 0 => h
  | fuel + 1 => if l.isEmpty then h else shaGo fuel (shaBlock h (l.take 128)) (l.drop 128)

/-- SHA-384 of bytes; its 48 bytes stand in the result most significant first. -/
def sha384 (l : List Byte) : BitVec 384 :=
  let z := (239 - l.length % 128) % 128
  let m := l ++ (0x80 : Byte) :: (List.replicate z 0 ++ msBytes 16 (8 * l.length))
  let h := shaGo (m.length / 128 + 1) (sha384Init.map (BitVec.ofNat 64)) m
  BitVec.ofNat 384 ((h.take 6).foldl (fun n (w : DWord) => n * 2 ^ 64 + w.toNat) 0)

/-- The 48 bytes of a SHA-384 value. -/
def shaBytes (h : BitVec 384) : List Byte := msBytes 48 h.toNat

/-! ### HMAC and HKDF -/

/-- HMAC-SHA-384 with a key of at most 128 bytes. -/
def hmac384 (key m : List Byte) : List Byte :=
  let k := key ++ List.replicate (128 - key.length) 0
  shaBytes (sha384 (k.map (· ^^^ 0x5C) ++ shaBytes (sha384 (k.map (· ^^^ 0x36) ++ m))))

/-- HKDF-SHA-384, at most 48 bytes out. -/
def hkdf384 (salt ikm info : List Byte) (n : Nat) : List Byte :=
  (hmac384 (hmac384 (if salt.isEmpty then List.replicate 48 0 else salt) ikm) (info ++ [1])).take n

/-! ### AES-256 -/

/-- Product in GF(2^8) modulo x^8 + x^4 + x^3 + x + 1. -/
def gfMul (n : Nat) (a b : Byte) : Byte :=
  match n with
  | 0 => 0
  | n + 1 =>
    let a2 := if a.msb then (a <<< 1) ^^^ 0x1B else a <<< 1
    (if bit b 0 then a else 0) ^^^ gfMul n a2 (b >>> 1)

/-- The S-box: the inverse, as the 254th power, and the affine map. -/
def aesSub (x : Byte) : Byte :=
  let sq (y : Byte) : Byte := gfMul 8 y y
  let x2 := sq x
  let x3 := gfMul 8 x2 x
  let x12 := sq (sq x3)
  let x15 := gfMul 8 x12 x3
  let x240 := sq (sq (sq (sq x15)))
  let i := gfMul 8 (gfMul 8 x240 x12) x2
  i ^^^ i.rotateLeft 1 ^^^ i.rotateLeft 2 ^^^ i.rotateLeft 3 ^^^ i.rotateLeft 4 ^^^ 0x63

def xorBytes (a b : List Byte) : List Byte := (List.zip a b).map (fun p => p.1 ^^^ p.2)

/-- Key schedule: words made so far, newest first; the rest in order. -/
def aesExpand (n i : Nat) (rcon : Byte) (last : List (List Byte)) : List (List Byte) :=
  match n with
  | 0 => []
  | n + 1 =>
    let t := last.getD 0 []
    let t := if i % 8 = 0 then xorBytes ((t.drop 1 ++ t.take 1).map aesSub) [rcon, 0, 0, 0] else if i % 8 = 4 then t.map aesSub else t
    let w := xorBytes (last.getD 7 []) t
    w :: aesExpand n (i + 1) (if i % 8 = 0 then gfMul 8 rcon 2 else rcon) (w :: last.take 7)

/-- The 60 words of the key schedule, joined. -/
def aesKeys (key : List Byte) : List Byte :=
  let k := (List.range 8).map (fun i => (key.drop (4 * i)).take 4)
  (k ++ aesExpand 52 8 1 k.reverse).flatten

/-- Bytes substituted and rows shifted. -/
def aesShift (s : List Byte) : List Byte :=
  (List.range 16).map (fun i => aesSub (s.getD ((i + 4 * (i % 4)) % 16) 0))

/-- Columns mixed. -/
def aesMix (s : List Byte) : List Byte :=
  (List.range 16).map (fun i =>
    let v (k : Nat) : Byte := s.getD (i / 4 * 4 + (i + k) % 4) 0
    gfMul 8 (v 0) 2 ^^^ gfMul 8 (v 1) 3 ^^^ v 2 ^^^ v 3)

def aesRounds (n : Nat) (s keys : List Byte) : List Byte :=
  match n with
  | 0 => xorBytes (aesShift s) keys
  | n + 1 => aesRounds n (xorBytes (aesMix (aesShift s)) keys) (keys.drop 16)

/-- One block of AES-256 under a 32-byte key. -/
def aesBlock (key b : List Byte) : List Byte :=
  let k := aesKeys key
  aesRounds 13 (xorBytes b k) (k.drop 16)

/-- AES-256-CTR: a 12-byte nonce and a 32-bit big-endian counter from `c` on. -/
def aesCtr (fuel : Nat) (key nonce : List Byte) (c : Nat) (m : List Byte) : List Byte :=
  match fuel with
  | 0 => []
  | fuel + 1 =>
    if m.isEmpty then [] else xorBytes m (aesBlock key (nonce ++ msBytes 4 c)) ++ aesCtr fuel key nonce (c + 1) (m.drop 16)

/-- Product in GF(2^128) of Galois mode, by the bits of `y` from the most significant down. -/
def ghashMul (n x y : Nat) : Nat :=
  match n with
  | 0 => 0
  | n + 1 => Nat.xor (if y.testBit n then x else 0) (ghashMul n (Nat.xor (x / 2) (if x % 2 = 1 then 0xE1 * 2 ^ 120 else 0)) y)

def ghash (fuel h y : Nat) (m : List Byte) : Nat :=
  match fuel with
  | 0 => y
  | fuel + 1 =>
    if m.isEmpty then y
    else
      let b := m.take 16
      ghash fuel h (ghashMul 128 (Nat.xor y (msNat (b ++ List.replicate (16 - b.length) 0))) h) (m.drop 16)

/-- The tag of AES-256-GCM with a 12-byte nonce. -/
def gcmTag (key nonce aad ct : List Byte) : List Byte :=
  let h := msNat (aesBlock key (List.replicate 16 0))
  let y := ghash (aad.length / 16 + 1) h 0 aad
  let y := ghash (ct.length / 16 + 1) h y ct
  let y := ghashMul 128 (Nat.xor y (8 * aad.length * 2 ^ 64 + 8 * ct.length)) h
  xorBytes (msBytes 16 y) (aesBlock key (nonce ++ msBytes 4 1))

/-- AES-256-GCM opened: the plaintext when the tag holds. -/
def gcmOpen (key nonce aad ct tag : List Byte) : Option (List Byte) :=
  if gcmTag key nonce aad ct = tag then some (aesCtr (ct.length / 16 + 1) key nonce 2 ct) else none

/-! ### ECDSA over P-384 -/

def p384 : Nat := 2 ^ 384 - 2 ^ 128 - 2 ^ 96 + 2 ^ 32 - 1
def p384N : Nat := 0xFFFFFFFFFFFFFFFFFFFFFFFFFFFFFFFFFFFFFFFFFFFFFFFFC7634D81F4372DDF581A0DB248B0A77AECEC196ACCC52973
def p384B : Nat := 0xB3312FA7E23EE7E4988E056BE3F82D19181D9C6EFE8141120314088F5013875AC656398D8A2ED19D2A85C8EDD3EC2AEF
def p384Gx : Nat := 0xAA87CA22BE8B05378EB1C71EF320AD746E1D3B628BA79B9859F741E082542A385502F25DBF55296C3A545E3872760AB7
def p384Gy : Nat := 0x3617DE4A96262C6F5D9E98BF9292DC29F8F41DBD289A147CE9DA3113B5F0B8C00A60B1CE1D7E819D7A431D7C90EA0E5F

/-- Power modulo `m`, by the bits of the exponent from the least significant up. -/
def powMod (fuel m a e : Nat) : Nat :=
  match fuel with
  | 0 => 1
  | fuel + 1 => (if e % 2 = 1 then a else 1) * powMod fuel m (a * a % m) (e / 2) % m

/-- Inverse modulo a prime of at most 384 bits. -/
def invMod (m a : Nat) : Nat := powMod 384 m (a % m) (m - 2)

/-- Sum of two points of P-384; none is the point at infinity. -/
def ecAdd (a b : Option (Nat × Nat)) : Option (Nat × Nat) :=
  match a, b with
  | none, _ => b
  | _, none => a
  | some (x1, y1), some (x2, y2) =>
    if x1 = x2 ∧ (y1 + y2) % p384 = 0 then none
    else
      let l := if x1 = x2 then (3 * x1 * x1 + (p384 - 3)) * invMod p384 (2 * y1) % p384
        else (y2 + p384 - y1) * invMod p384 (x2 + p384 - x1) % p384
      let x := (l * l + 2 * p384 - x1 - x2) % p384
      some (x, (l * (x1 + p384 - x) + p384 - y1) % p384)

/-- Multiple of a point, by the bits of `k` from the least significant up. -/
def ecMul (fuel : Nat) (k : Nat) (a : Option (Nat × Nat)) : Option (Nat × Nat) :=
  match fuel with
  | 0 => none
  | fuel + 1 => if k = 0 then none else ecAdd (if k % 2 = 1 then a else none) (ecMul fuel (k / 2) (ecAdd a a))

/-- Does an ECDSA P-384 signature (r then s, 48 bytes each, big-endian) over a SHA-384 value verify with a public key (x then y)? -/
def ecdsaOk (key : List Byte) (h : BitVec 384) (sig : List Byte) : Bool :=
  let x := msNat (key.take 48)
  let y := msNat ((key.drop 48).take 48)
  let r := msNat (sig.take 48)
  let t := msNat ((sig.drop 48).take 48)
  if !decide (x < p384 ∧ y < p384 ∧ (y * y + 3 * x) % p384 = (x * x * x + p384B) % p384 ∧ 1 ≤ r ∧ r < p384N ∧ 1 ≤ t ∧ t < p384N) then false
  else
    let w := invMod p384N t
    let u1 := h.toNat * w % p384N
    let u2 := r * w % p384N
    match ecAdd (ecMul 384 u1 (some (p384Gx, p384Gy))) (ecMul 384 u2 (some (x, y))) with
    | none => false
    | some (v, _) => v % p384N == r

end Sys2Proof.Machine
end

