-- ==== Sys2Proof/Machine/Log.lean ====
section
/-! DEFINITION. The replay recorder's log: records of inputs and outputs, the matching of outputs during a replay (R641 to R653). -/
namespace Sys2Proof.Machine

/-! ### Records (R643 to R646) -/

/-- Bytes of a record in the log: its header, and its payload padded to 32 bytes (R643). -/
def LogRec.size (r : LogRec) : Nat := 32 + ceilDiv r.payload.length 32 * 32

/-- Bytes of the log in use. -/
def Recorder.used (r : Recorder) : Nat := r.log.foldl (fun n x => n + x.size) 0

/-- Bytes that the log region holds: RPL_AREA units on each of four dies (R645). -/
def State.logCap (s : State) : Nat := 4 * 65536 * s.regBits Reg.RPL_AREA 0 21

/-- The bytes of a record (R643). -/
def LogRec.bytes (r : LogRec) : List Byte :=
  leBytes 8 (tcStamp r.stamp).toNat ++ leBytes 1 r.frac ++ leBytes 1 r.kind ++ leBytes 2 r.source ++ leBytes 4 r.payload.length ++
  leBytes 8 r.seq ++ leBytes 8 r.aux.toNat ++ r.payload ++ List.replicate (r.size - 32 - r.payload.length) 0

/-- Oldest records leave until `n` more bytes fit (R646). -/
def dropOldest (l : List LogRec) (cap n : Nat) : List LogRec :=
  match l with
  | [] => []
  | r :: t => if cap < (r :: t).foldl (fun k x => k + x.size) 0 + n then dropOldest t cap n else r :: t

/-- A record joins the log; nothing is checked. -/
def State.addRec (s : State) (kind source : Nat) (aux : DWord) (payload : List Byte) : State :=
  let r : LogRec := { stamp := s.now, frac := s.now64 % 64, kind := kind, source := source, seq := s.rpl.nextSeq, aux := aux, payload := payload }
  let log := if s.regBits Reg.RPL_CFG 1 1 = 1 then dropOldest s.rpl.log s.logCap r.size else s.rpl.log
  { s with rpl := { s.rpl with log := log ++ [r], head := s.rpl.head + r.size, nextSeq := s.rpl.nextSeq + 1,
                               wrapped := s.rpl.wrapped || decide (log.length < s.rpl.log.length), buffered := s.rpl.buffered + r.size } }

/-- The recorder writes a record while RECORDING: dropped when the hub's buffer is full (R645); a full log without WRAP takes a STOP record
in its place and enters FULL (R646). -/
def State.putRec (s : State) (kind source : Nat) (aux : DWord) (payload : List Byte) : State :=
  let size := 32 + ceilDiv payload.length 32 * 32
  if 2 ^ 26 < s.rpl.buffered + size then
    ({ s with rpl := { s.rpl with dropped := s.rpl.dropped + 1 } }.count Reg.RPL_DROP_CNT 1).rplEvt 2
  else if s.regBits Reg.RPL_CFG 1 1 = 0 ∧ s.logCap < s.rpl.used + size + 64 then
    let s := s.addRec 0x7F 0 0 []
    { s with rpl := { s.rpl with st := .full } }.rplEvt 1
  else s.addRec kind source aux payload

/-- An input is logged, when its class is recorded: bit 3 FH, 4 FAB, 5 HOST of RPL_CFG; bit 64 stands for TIME, which is always recorded
(R641, R646). -/
def State.logIn (s : State) (cls kind source : Nat) (aux : DWord) (payload : List Byte) : State :=
  if s.rpl.st = .recording then
    (if cls = 64 ∨ s.regBits Reg.RPL_CFG cls 1 = 1 then s.putRec kind source aux payload
     else { s with rpl := { s.rpl with skipped := true } }.count Reg.RPL_SKIP_CNT 1)
  else s

/-- An input from a port or a queue while a replay runs is discarded and counted (R651, R655). -/
def State.skipIn (s : State) : State := s.count Reg.RPL_SKIP_CNT 1

/-- A host write to PF0's BAR2 is logged and acts; during a replay what is written outside the RPL_ block is ignored and counted (R641, R651). -/
def State.bar2 (s : State) (a width v : Nat) (f : State → State) : State :=
  if s.replayed ∧ !s.rpl.inj ∧ a / 2 ^ 20 ≠ 0x12 then s.skipIn
  else f (s.logIn 5 0x04 pf0 (BitVec.ofNat 64 (a + 2 * 2 ^ 48)) (leBytes width v))

/-- Recording begins: the log is cleared and a START record written (R644, R646, R656). -/
def State.recBegin (s : State) (atStart : Bool) : State :=
  let node := (s.regs.get 0 Reg.FAB_NODE).toNat % 2 ^ 16
  let aux := packFields [(32, s.regBits Reg.HUB_IDENT 0 32), (16, node), (6, s.regBits Reg.RPL_CFG 0 6), (1, atStart.toNat)]
  let r : Recorder := { s.rpl with st := .recording, log := [], head := 0, nextSeq := 0, dropped := 0, buffered := 0, wrapped := false,
                                   skipped := false, atStart := atStart, expect := [], halted := false, tail := [] }
  { s with rpl := r }.addRec 1 0 (BitVec.ofNat 64 aux) (shaBytes s.start.imgDigest)

/-- Is the log held replayable (R646)? -/
def Recorder.replayable (r : Recorder) : Bool :=
  (match r.log with
   | [] => false
   | a :: _ => a.kind == 1 && bit a.aux 54) && !r.log.any (fun a => a.kind == 0x50) && !r.wrapped && !r.skipped

/-- HOST_READ records of a function, in the order of the log. -/
def State.hostReads (s : State) (f : Nat) : List LogRec := s.rpl.log.filter (fun r => r.kind == 3 && r.source == f)

/-- Bytes that arrive from host memory are logged in records of at most 4,096 bytes (R641, R644). -/
def State.logReads (s : State) (f addr fuel : Nat) (b : List Byte) : State :=
  match fuel with
  | 0 => s
  | fuel + 1 =>
    if b.isEmpty then s
    else (s.logIn 5 0x03 f (BitVec.ofNat 64 addr) (b.take 4096)).logReads f (addr + 4096) fuel (b.drop 4096)

/-! ### Outputs (R647, R648, R652) -/

/-- The digest of bytes (R648). -/
def digestGo (l : List Byte) (fuel : Nat) (h : DWord) : DWord :=
  match fuel with
  | 0 => h
  | fuel + 1 => if l.isEmpty then h else digestGo (l.drop 8) fuel (mix h (BitVec.ofNat 64 (leNat (l.take 8))))

def digest (l : List Byte) : DWord := digestGo l (l.length / 8 + 1) (BitVec.ofNat 64 l.length)

/-- An output key: class, bytes 1 to 3, bytes 4 to 7, bytes 8 to 15 (R647). -/
def outKey (cls b1 b4 b8 : Nat) : BitVec 128 :=
  BitVec.ofNat 128 (cls % 2 ^ 8 + b1 % 2 ^ 24 * 2 ^ 8 + b4 % 2 ^ 32 * 2 ^ 32 + b8 % 2 ^ 64 * 2 ^ 64)

/-- The first divergence stops the replay and is shown (R652). Kinds: 1 DIGEST, 2 EXTRA, 3 MISSING, 4 INPUT. -/
def State.diverge (s : State) (kind : Nat) (key : BitVec 128) (exp got : DWord) : State :=
  if s.rpl.halted then s
  else
    let s := { s with rpl := { s.rpl with st := .stopped, halted := true } }
    let s := s.setReg Reg.RPL_DIV_KEY0 (bits key 0 64)
    let s := s.setReg Reg.RPL_DIV_KEY1 (bits key 64 64)
    let s := s.setReg Reg.RPL_DIV_KIND kind
    let s := s.setReg Reg.RPL_DIV_STAMP (tcStamp s.now).toNat
    let s := s.setReg Reg.RPL_DIV_EXP exp.toNat
    (s.setReg Reg.RPL_DIV_GOT got.toNat).rplEvt 4

/-- Tc that the recorder reads outputs ahead of the counter: SLACK ms (R652). -/
def State.slackTc (s : State) : Nat := s.regBits Reg.RPL_CFG 8 8 * 1966080

/-- Was OUT recorded in the log held (R652, the START record's copy of RPL_CFG)? -/
def State.outLogged (s : State) : Bool :=
  match s.rpl.log with
  | [] => false
  | r :: _ => r.kind == 1 && bit r.aux 50

/-- The device produces an output: an OUTPUT record when recording with OUT, a comparison during a replay (R647, R652, R654). -/
def State.output (s : State) (key : BitVec 128) (bytes : List Byte) : State :=
  let d := digest bytes
  if s.rpl.st = .recording ∧ s.regBits Reg.RPL_CFG 2 1 = 1 then s.putRec 0x40 (bits key 0 8) d (leBytes 16 key.toNat)
  else if s.replayed ∧ !s.rpl.halted ∧ s.outLogged then
    match s.rpl.expect.find? (fun k => k.key == key && decide (k.stamp ≤ s.now + s.slackTc)) with
    | none => s.diverge 2 key 0 d
    | some k =>
      let s := { s with rpl := { s.rpl with expect := s.rpl.expect.erase k } }
      if k.digest = d then s else s.diverge 1 key k.digest d
  else s

/-- Next occurrence number of something that recurs, counted by a number that names it (R647). -/
def State.occur (s : State) (what : Nat) : Nat × State :=
  let n := s.rpl.occur.get 0 what
  (n, { s with rpl := { s.rpl with occur := s.rpl.occur.set what (n + 1) } })

/-- Bytes of a DMA read during a replay: those of the next HOST_READ records of the function; another address is divergence INPUT, as is a
log with no more such record (R651). -/
def State.replayReads (s : State) (f addr len fuel : Nat) : List Byte × State :=
  match fuel with
  | 0 => ([], s)
  | fuel + 1 =>
    if len = 0 then ([], s)
    else
      let k := s.occur (2 ^ 100 + f)
      match (s.hostReads f)[k.1]? with
      | none => ([], s.diverge 4 (BitVec.ofNat 128 addr) 0 0)
      | some r =>
        if r.aux.toNat ≠ addr then ([], s.diverge 4 (BitVec.ofNat 128 addr) r.aux 0)
        else
          let n := min len (max 1 r.payload.length)
          let p := k.2.replayReads f (addr + n) (len - n) fuel
          (r.payload.take n ++ p.1, p.2)

/-- Bytes that a DMA read of host memory brings: those that arrive, logged, or during a replay those of the log (R641, R651). -/
def State.dmaIn (s : State) (f addr len : Nat) (b : List Byte) : List Byte × State :=
  if s.replayed then s.replayReads f addr len (len + 1) else (b.take len, s.logReads f addr (b.length / 4096 + 1) (b.take len))

/-! ### Fabric headers (R531) -/

/-- The 32-byte header of a transaction. -/
def Txn.header (t : Txn) : List Byte :=
  leBytes 1 t.op ++ leBytes 1 t.flags ++ leBytes 2 t.len ++ leBytes 2 t.dest ++ leBytes 2 t.src ++ leBytes 3 t.job ++ leBytes 1 t.status ++
  leBytes 4 t.tag ++ leBytes 5 t.offset ++ leBytes 1 t.aux ++ leBytes 2 t.dctx ++ leBytes 8 t.opfield.toNat

/-- The transaction that a header and the data after it spell. -/
def Txn.ofBytes (l : List Byte) : Txn :=
  { op := byteField l 0 1, flags := byteField l 1 1, len := byteField l 2 2, dest := byteField l 4 2, src := byteField l 6 2,
    job := byteField l 8 3, status := byteField l 11 1, tag := byteField l 12 4, offset := byteField l 16 5, aux := byteField l 21 1,
    dctx := byteField l 22 2, opfield := BitVec.ofNat 64 (byteField l 24 8), data := l.drop 32 }

/-- The bytes of a transaction over which its digest is formed: TAG and FLAGS[0] zero (R648). -/
def Txn.hashed (t : Txn) : List Byte := Txn.header { t with tag := 0, flags := t.flags / 2 * 2 } ++ t.data

end Sys2Proof.Machine
end

