-- ==== Sys2Proof/Machine/ShpOps.lean ====
section
/-! DEFINITION. The egress shaper's queues: tags, enqueueing, the flits of the fabric (R460 to R466, R526, R532, R576). -/
namespace Sys2Proof.Machine

def State.shpQ (s : State) (q : Nat) : ShpQueue := s.front.queues.get {} q

def State.setShpQ (s : State) (q : Nat) (x : ShpQueue) : State := { s with front := { s.front with queues := s.front.queues.set q x } }

/-- Port to which a queue is bound, and its weight (R460, R476). -/
def State.shpPort (s : State) (q : Nat) : Nat := s.regBits (Reg.SHP_Q q) 0 5
def State.shpWeight (s : State) (q : Nat) : Nat := s.regBits (Reg.SHP_Q q) 6 12 + 1

/-- Length charged for a packet (R462). -/
def State.charged (s : State) (port len : Nat) : Nat := len + s.regBits (Reg.SHP_PORT_CFG port) 0 6

/-- The later of two tags, by their signed difference (R463). -/
def laterOf (a b : DWord) : DWord := if (a - b).toNat < 2 ^ 63 then a else b

/-- Is a packet open (R461)? -/
def Packet.open (p : Packet) (now : Nat) : Bool :=
  match p.gate with
  | none => true
  | some (o, c) => decide (o ≤ now) && decide (now < c)

/-- A queue's head takes its tags if it is open; else the queue is not active. `fresh` says that the queue becomes active (R463, R464). -/
def State.headTag (s : State) (q : Nat) (fresh : Bool) : State :=
  let x := s.shpQ q
  match x.pkts with
  | [] => s.setShpQ q { x with active := false }
  | p :: _ =>
    if !p.open s.now then s.setShpQ q { x with active := false }
    else
      let port := s.shpPort q
      let start := if fresh then laterOf (s.front.v.get 0 port) x.f else x.f
      s.setShpQ q { x with active := true, tag := start + BitVec.ofNat 64 (ceilDiv (s.charged port p.len * 4096) (s.shpWeight q)) }

/-- A packet enters a queue at its end. -/
def State.enqueue (s : State) (q : Nat) (p : Packet) : State :=
  let x := s.shpQ q
  let s := s.setShpQ q { x with pkts := x.pkts ++ [p] }
  if x.pkts.isEmpty then s.headTag q true else s

/-- Bytes in a queue, and in every queue (R466). -/
def ShpQueue.bytes (x : ShpQueue) : Nat := x.pkts.foldl (fun n p => n + p.len) 0
def State.shpBytes (s : State) : Nat := s.front.queues.foldl (fun n p => n + p.2.bytes) 0

/-! ### Fabric flits (R526, R532, R576) -/

/-- Flits of a transaction with `n` data bytes (R532). -/
def flitsOf (n : Nat) : Nat := 1 + ceilDiv (n - 216) 248

/-- A transaction's flits enter a queue of a plane; the last carries it. -/
def State.queueFlits (s : State) (q : Nat) (t : Txn) : State :=
  let n := flitsOf t.data.length
  (List.range n).foldl (fun s i => s.enqueue q { len := 256, at0 := s.now, txn := if i + 1 = n then some t else none }) s

/-- Queue of a region's requests on a plane, the hub's own for region 12 (R576). -/
def State.reqQueue (s : State) (g p : Nat) : Nat :=
  if g = 12 then s.regBits (Reg.FAB_HUB_QMAP p) 32 14 else s.regBits (Reg.FAB_QMAP g) (16 * p) 14

def State.respQueue (s : State) (p : Nat) : Nat := s.regBits (Reg.FAB_HUB_QMAP p) 0 14
def State.bcnQueue (s : State) (p : Nat) : Nat := s.regBits (Reg.FAB_HUB_QMAP p) 16 14

/-- Flits that wait for a plane are dropped with it. -/
def State.dropFlits (s : State) (p : Nat) : State :=
  { s with front := { s.front with queues := s.front.queues.map (fun (k : Nat × ShpQueue) =>
      if s.shpPort k.1 = 16 + p then (k.1, { k.2 with pkts := [], active := false }) else k) } }

end Sys2Proof.Machine
end

