-- ==== Sys2Proof/Machine/FabSend.lean ====
section
/-! DEFINITION. Sending on the fabric: planes, flits, tracking entries (R525, R526, R532, R533, R537, R540). -/
namespace Sys2Proof.Machine

/-- This device's node and system as DEST and SRC hold them (R531, R578). -/
def State.self (s : State) : Nat := s.regBits Reg.FAB_NODE 0 16

def State.port (s : State) (p : Nat) : FabPort := s.fab.ports.get {} p

def State.setPort (s : State) (p : Nat) (x : FabPort) : State := { s with fab := { s.fab with ports := s.fab.ports.set p x } }

/-- Plane 3 stands for the hub itself: requests to the own node do not leave the package (R537). -/
abbrev selfPlane : Nat := 3

/-- Is a PATH_LOST in force for a destination on a plane (R525, R529)? -/
def State.pathLost (s : State) (p node : Nat) : Bool := s.fab.paths.any (fun n => n.plane == p && n.node == node && n.lost)

/-- Usable planes for a destination, ascending (R525). -/
def State.planes (s : State) (node : Nat) : List Nat :=
  [0, 1, 2].filter (fun p => (s.port p).link == .up && !s.pathLost p node)

/-- Plane of a request, none when no plane is usable (R525, R537). -/
def State.planeFor (s : State) (dest offset : Nat) : Option Nat :=
  if dest = s.self then some selfPlane
  else
    let l := s.planes (dest % 4096)
    l[(dest % 4096 + offset / 4096) % l.length]?

/-- Is a path in RETRY: its port in REPLAY, or a PATH_RETRY for the destination that has not lapsed (R529, R551)? -/
def State.pathRetry (s : State) (p node : Nat) : Bool :=
  (s.port p).link == .replay ||
  s.fab.paths.any (fun n => n.plane == p && n.node == node && !n.lost && decide (s.now < n.at0 + usTc 2))

/-- One flit goes out on a port: counted, and held for replay, 2,048 at most (R528). -/
def State.pushFlit (s : State) (p : Nat) : State :=
  let x := s.port p
  (s.setPort p { x with txSeq := (x.txSeq + 1) % 4096, held := x.held ++ [{ seq := x.txSeq, at0 := s.time.hub }],
                        ackAt := if x.held.isEmpty then s.time.hub else x.ackAt }).count64 (Reg.FAB_PORT_FLITS_TX p) 1

/-- A transaction is handed to the shaper for a plane; one to the own node does not leave the package (R532, R537, R576). -/
def State.sendOn (s : State) (q p : Nat) (t : Txn) : State := if p = selfPlane then s.emit (.txn p t) else s.queueFlits q t

/-- A response to a request goes back on its plane (R530). -/
def State.respond (s : State) (p : Nat) (q : Txn) (op status : Nat) (data : List Byte) : State :=
  let t : Txn := { op := op, flags := q.flags &&& 4, len := data.length, dest := q.src, src := q.dest, job := q.job, status := status,
                   tag := q.tag, offset := q.offset, data := data }
  (s.output (outKey 9 0 0 s.rpl.inSeq) t.hashed).sendOn (s.respQueue p) p t

/-- Requests that hold tracking entries of a region, 12 for the hub (R533). -/
def State.tracked (s : State) (g : Nat) : Nat := (s.fab.reqs.filter (fun r => r.region == g)).length

/-- Is a tracking entry free (R533)? -/
def State.trackFree (s : State) (g : Nat) : Bool := decide (s.tracked g < (if g = 12 then 65536 else 16384))

/-- The output key of a request: its index within the command, context, command and list (R647). -/
def reqKey (idx ctx cmd : Nat) (list : DWord) : BitVec 128 := outKey 8 idx (ctx + cmd * 65536) list.toNat

/-- The output key of a request of the hub. -/
def hubKey : BitVec 128 := reqKey 0 0xFFFF 0 0

/-- A request is issued: it takes a tracking entry and leaves on its plane. With no usable plane an atomic waits for one; the caller ends
any other request with LINK_LOST first (R525, R533, R560). -/
def State.issueReq (s : State) (g : Nat) (t : Txn) (serves : ReqFor) (key : BitVec 128) : State :=
  let tag := s.fab.nextTag
  let t := { t with src := s.self, tag := tag }
  let plane := s.planeFor t.dest t.offset
  let r : Req := { tag := tag, region := g, plane := plane.getD 0, txn := t, since := s.now, first := s.now, serves := serves, key := key,
                   st := match plane with | none => .waitPlane | some p => if s.pathRetry p (t.dest % 4096) then .held else .sent }
  let s := { s with fab := { s.fab with nextTag := (tag + 1) % 262144, reqs := s.fab.reqs ++ [r] } }
  let s := s.output key t.hashed
  match plane with
  | none => s
  | some p => s.sendOn (s.reqQueue g p) p t

/-- An atomic is issued: a new ID, and FIRST (R557, R558). -/
def State.issueAtomic (s : State) (g dest offset flags job aop : Nat) (opa opb : DWord) (serves : ReqFor) (key : BitVec 128) : State :=
  let id : DWord := BitVec.ofNat 64 (s.self + s.fab.atoms * 65536)
  let t : Txn := { op := 3, flags := flags, len := 32, dest := dest, job := job, offset := offset, aux := aop, opfield := id,
                   data := leBytes 8 opa.toNat ++ leBytes 8 opb.toNat ++ leBytes 8 (tcStamp s.now).toNat ++ leBytes 8 0 }
  { s with fab := { s.fab with atoms := s.fab.atoms + 1 } }.issueReq g t serves key

/-- A request of the hub; with no usable plane it ends LINK_LOST at once (R525). -/
def State.hubReq (s : State) (t : Txn) (what : Nat) : State :=
  match s.planeFor t.dest t.offset with
  | none => s.count Reg.FAB_LOST_CNT 1
  | some _ => s.issueReq 12 t (.hub what) hubKey

/-- A GROUP message under the firmware job: kind, the receiver's and the sender's group index, a status, the stamp (R530, R534, R540; the 16
bytes are the model's, log entry 9). -/
def groupTxn (dest kind gto gfrom status : Nat) (stamp : Stamp) : Txn :=
  { op := 7, len := 16, dest := dest, job := 0xFFFFF, offset := 0,
    data := leBytes 1 kind ++ leBytes 1 gto ++ leBytes 1 gfrom ++ leBytes 1 status ++ leBytes 4 0 ++ leBytes 8 stamp.toNat }

/-- A GROUP message sent by the hub; with no usable plane it is not sent (R525, R534). -/
def State.sendGroup (s : State) (dest kind gto gfrom status : Nat) (stamp : Stamp) (what : Nat) : State :=
  match s.planeFor dest 0 with
  | none => s.count Reg.FAB_LOST_CNT 1
  | some _ => s.issueReq 12 (groupTxn dest kind gto gfrom status stamp) (.hub what) hubKey

end Sys2Proof.Machine
end

