-- ==== Sys2Proof/Machine/Lists.lean ====
section
/-! DEFINITION. Command lists on units: fetch, start, launch stamps and comparators, launch groups, handles, completion, stop, cancellation
(R78 to R95, R120 to R129, R249 to R258, R284 to R292, R786, R788). -/
namespace Sys2Proof.Machine

/-! ### Fetching (R253, R256) -/

/-- Address reference of command `i` of a list. -/
def cmdRef (l : ListRec) (i : Nat) : Nat := l.addr.toNat + 64 * i

/-- Commands `i` to `i + n - 1` of a list as memory holds them, up to the first whose address fails its check. -/
def State.fetchCmds (s : State) (x : Ctx) (l : ListRec) (i n : Nat) : List Cmd :=
  match n with
  | 0 => []
  | n + 1 =>
    if l.count ≤ i ∨ s.refChk x (cmdRef l i) 64 false ≠ 0 then []
    else bytesCmd (s.rdSpans (s.refSpans x (cmdRef l i) 64)) :: s.fetchCmds x l (i + 1) n

/-- The fetcher holds up to 16 commands ahead of execution (R256). -/
def State.refill (s : State) (x : Ctx) (r : Running) : Running :=
  { r with buf := r.buf ++ s.fetchCmds x r.list (r.idx + r.buf.length) (16 - r.buf.length) }

/-! ### LIST records (R597, R598) -/

/-- The LIST record of a list that ended or was refused; a shard's list of an inference step is shown to the service instead (R323, R598). -/
def State.listRecord (s : State) (l : ListRec) (code cmd : Nat) (detail : BitVec 96) : State :=
  match l.report with
  | .none =>
    (match s.ctx? l.ctx with
     | none => s
     | some x => if l.own && x.shard.isSome then { s with sched := { s.sched with ended := s.sched.ended ++ [(l.ctx, l.id, code)] } } else s)
  | .cq f q slot gen ord =>
    if l.own then s
    else s.post f q { code := code, kind := 1, slot := slot, ref := l.id,
                      detail := BitVec.ofNat 128 (detail.toNat + cmd * 2 ^ 96), gen := gen, ord := ord, aux := l.ctx }

/-! ### Contexts' queues -/

/-- Change a context if it exists. -/
def State.updCtx (s : State) (id : Nat) (f : Ctx → Ctx) : State :=
  match s.ctx? id with
  | none => s
  | some x => s.setCtx (f x)

def Ctx.hqueue (x : Ctx) (q : Nat) : List Handle := x.hq.get [] q

def Ctx.setHqueue (x : Ctx) (q : Nat) (l : List Handle) : Ctx := { x with hq := x.hq.set q l }

/-- Is the handle at the head of a queue visible (R287)? -/
def Ctx.headVisible (x : Ctx) (q : Nat) : Bool :=
  match x.hqueue q with
  | [] => false
  | h :: _ => h.visible

/-- Units that run lists of a context. -/
def State.unitsOf (s : State) (id : Nat) : List Nat :=
  (s.sched.units.filter (fun p => match p.2.run with | some r => r.list.ctx == id | none => false)).map (·.1)

/-- A wait held at the first command of a list: its head handle is not visible (R134, R287). -/
def State.firstWaits (s : State) (x : Ctx) (l : ListRec) : Bool :=
  match s.fetchCmds x l 1 1 with
  | [c] => cWait c && !x.headVisible (cWaitq c)
  | _ => false

/-- Is the CQ's store of a list's record full, so that the list does not start (R599)? -/
def State.reportFull (s : State) (l : ListRec) : Bool :=
  match l.report with
  | .none => false
  | .cq f q _ _ _ => decide (256 ≤ (s.qp f q).store.length)

/-- Does a swap hold a move engine (R143)? -/
def State.swapHolds (s : State) (u : Nat) : Bool :=
  uKind u == 4 && decide (u < 0x10000) && (match (s.sched.clusters.get {} (uIdx u)).swap with | some w => !w.byHub | none => false)

/-- Unit on which a queued list would start, given the lists queued before it (R250, R251): its unit when free and in service and no
earlier list names it; for ANY the lowest free one, after every earlier ANY of the queue. -/
def State.unitFor (s : State) (x : Ctx) (l : ListRec) : Option Nat :=
  let earlier := x.queue.filter (fun k => k.cls == l.cls && decide (k.seq < l.seq))
  let free (u : Nat) : Bool := (s.run u).isNone && (decide (0x10000 ≤ u) || s.unitIn u) && !s.swapHolds u
  if l.cls = 0 then (if free (uSvc x.id) ∧ earlier = [] then some (uSvc x.id) else none)
  else if l.unit ≠ 255 then
    let u := classUnit l.cls x.cluster l.unit
    if free u ∧ !earlier.any (fun k => k.unit == l.unit) then some u else none
  else if earlier.any (fun k => k.unit == 255) then none
  else ((List.range (classSize l.cls)).find? (fun i =>
      free (classUnit l.cls x.cluster i) && !earlier.any (fun k => k.unit == i))).map (classUnit l.cls x.cluster)

/-- Extra cycles before a list's first command: blocks that R787 writes out and reloads. -/
def State.blockMoves (s : State) (x : Ctx) (u : Nat) : Nat :=
  if uKind u ≠ 1 then 0
  else
    let a := uIdx u
    let saved := if a % 2 = 0 then x.saved0 else x.saved1
    let i := s.mat.arrays.get {} a
    if x.radio ∨ i.tag = some x.id ∨ saved.isNone then 0
    else (if (match i.tag with | some t => (match s.ctx? t with | some y => y.resident && y.id != x.id | none => false) | none => false)
      then 512 else 256)

/-- Nominal cclk cycles of the grade in Tc, rounded up: 1.6 GHz (-S) or 1.3 GHz (-E) as HUB_IDENT.GRADE says (R2, R747). -/
def State.cycTc (s : State) (n : Nat) : Nat :=
  if s.regBits Reg.HUB_IDENT 40 2 = 0 then ceilDiv (n * 12288) 10000 else ceilDiv (n * 196608) 130000

/-- Scaled length of a list on a unit, with the block moves that precede it (R125, R787). -/
def State.scaledOf (s : State) (x : Ctx) (l : ListRec) (u : Nat) : Nat :=
  let n := s.nDie (x.cluster / 12)
  scaledLen l.grain n + (if s.blockMoves x u = 0 then 0 else scaledLen (s.cycTc (s.blockMoves x u)) n)

/-- Does every condition but the fit check let a queued list start now (R120, R121, R134, R287, R599, R636)? -/
def State.mayRun (s : State) (x : Ctx) (l : ListRec) : Bool :=
  x.resident && x.st != .swapOut && x.st != .swapIn && !x.paused && !x.pausing && !x.ending &&
  s.admits (x.cluster / 4) x && !s.firstWaits x l && !s.reportFull l

/-- Does a grain fit, and is inference not held on its die (R125, R763)? Radio lists always pass here. -/
def State.fits (s : State) (x : Ctx) (l : ListRec) (u : Nat) : Bool :=
  x.radio || (s.mayStart (x.cluster / 4) (s.scaledOf x l u) && !s.power.hold.get false (x.cluster / 12))

/-- Has a context a list that may start now (R133, R134)? -/
def State.canStart (s : State) (x : Ctx) : Bool :=
  x.queue.any (fun l => s.mayRun x l && (match s.unitFor x l with | some u => s.fits x l u | none => false))

/-- Would a swapped context be READY if resident (R133)? -/
def State.wouldRun (s : State) (x : Ctx) : Bool := !x.paused && x.queue.any (fun l => !s.firstWaits x l)

/-- A context's state follows what it runs and what it may start; blocked-since and ready-since stamps are kept (R133, R134, R139). -/
def State.refresh (s : State) (id : Nat) : State :=
  s.updCtx id (fun x =>
    match x.st with
    | .swapOut => x
    | .swapIn => x
    | .swappedReady => if s.wouldRun x then x else { x with st := .swappedBlocked }
    | .swappedBlocked => if s.wouldRun x then { x with st := .swappedReady, readySince := s.now } else x
    | _ =>
      if s.unitsOf id ≠ [] then { x with st := .running }
      else if s.canStart x then { x with st := .ready }
      else if x.st = .blocked then x
      else { x with st := .blocked, blockedSince := s.now })

/-! ### Comparators and stamps (R79 to R88, R786) -/

/-- Launch point of a unit: its cluster, or 48 plus the region of a Kudu engine (R81). -/
def launchPt (u : Nat) : Nat := if uKind u = 5 then 48 + uIdx u else uCluster u

/-- Comparators of a launch point (R32, R94). -/
def cmpCount (pt : Nat) : Nat := if pt < 48 then 8 else 4

/-- Lowest free comparator of a launch point. -/
def State.freeCmp (s : State) (pt : Nat) : Option Nat :=
  (List.range (cmpCount pt)).find? (fun i => !s.sched.cmps.any (fun c => c.pt == pt && c.idx == i))

/-- The local counter of a cluster or Kudu engine, whole Tc (R79). -/
def State.localNow (s : State) : Nat := (((s.time.tc * 2 ^ 32 + s.time.frac : Nat) : Int) + s.time.drift).toNat / 2 ^ 32

/-- Status that refuses a launch stamp before a comparator is sought, 0 when it passes (R58, R86, R786). -/
def State.stampChk (s : State) (x : Stamp) : Nat :=
  if !stampOk x then 0x21
  else if s.time.st = .freerun then 0x23
  else if s.now + s.reg Reg.TIM_MAX_LEAD * frameTc < stampTc x then 0x22
  else 0

/-- A refused stamp is counted: LAUNCH_FULL, STAMP_FAR, STAMP_NOTIME (R84, R97). -/
def State.countRefuse (s : State) (code : Nat) : State :=
  if code = 0x20 ∨ code = 0x22 ∨ code = 0x23 then s.count Reg.TIM_REFUSE_CNT 1 else s

def State.group (s : State) (g : Nat) : Group := s.sched.groups.get {} g

def State.setGroup (s : State) (g : Nat) (x : Group) : State := { s with sched := { s.sched with groups := s.sched.groups.set g x } }

/-- Commit point of a group (R90). -/
def Group.commitAt (x : Group) : Nat := stampTc x.stamp - x.lead

/-- Status that refuses a participant, 0 when it passes (R94, R260). -/
def State.groupChk (s : State) (g : Nat) (stamp : Stamp) : Nat :=
  let x := s.group g
  if !(x.st = .arming) ∨ x.count ≤ x.armed then 0x2C
  else if x.stamp ≠ stamp then 0x6A else 0

/-- Kinds of the GROUP message. -/
abbrev gmJoin : Nat := 1
abbrev gmReady : Nat := 2
abbrev gmCommit : Nat := 3
abbrev gmAbort : Nat := 4
abbrev gmOrphan : Nat := 5
abbrev gmAborted : Nat := 6

/-- A message from an owner to each of its members, at the index that the member joined from. -/
def State.tellMembers (s : State) (g kind : Nat) : State :=
  (s.group g).members.foldl (fun s m => if m.joined then s.sendGroup m.node kind m.idx g 0 (s.group g).stamp 0 else s) s

/-- An owner that is READY with every member READY before the commit point commits and tells them (R90). -/
def State.tryCommit (s : State) (g : Nat) : State :=
  let x := s.group g
  if x.owner ∧ x.st = .ready ∧ x.members.all (fun m => m.ready) ∧ s.now < x.commitAt then
    (s.setGroup g { x with st := .committed }).tellMembers g gmCommit
  else s

/-- A local participant has taken its comparator; at or after the commit point it counts as not armed. A group whose participants all hold
comparators is READY; a member reports it (R90, R92). -/
def State.groupArm (s : State) (g : Nat) : State :=
  let x := s.group g
  if x.commitAt ≤ s.now then s
  else
    let x := { x with armed := x.armed + 1 }
    if x.armed < x.count then s.setGroup g x
    else
      let s := s.setGroup g { x with st := .ready }
      if x.owner then s.tryCommit g else s.sendGroup x.ownerNode gmReady x.ownerIdx g 0 x.stamp 0

/-- A participant has launched or been freed (R94). -/
def State.groupDone (s : State) (g : Option Nat) : State :=
  match g with
  | none => s
  | some g => s.setGroup g { s.group g with done := (s.group g).done + 1 }

/-- A comparator is freed (R83). -/
def State.dropCmp (s : State) (pt idx : Nat) : State :=
  { s with sched := { s.sched with cmps := s.sched.cmps.filter (fun c => !(c.pt == pt && c.idx == idx)) } }

/-- The comparators of a list are freed, and its group participations with them (R83, R94). -/
def State.dropCmpsOf (s : State) (ctx : Nat) (list : DWord) : State :=
  let mine := s.sched.cmps.filter (fun c => c.ctx == ctx && c.list == list)
  mine.foldl (fun s c => (s.dropCmp c.pt c.idx).groupDone c.group) s

/-! ### A list's progress on its unit -/

/-- A running list is to end with a status: it issues nothing more (R256, R297). -/
def State.failList (s : State) (u code : Nat) : State :=
  match s.run u with
  | none => s
  | some r => s.setRun u (some { r with ending := some code, stage := .ready, out := [] })

/-- The status and DETAIL with which a list will end (R564, R597). -/
def State.failListWith (s : State) (u code : Nat) (d : BitVec 96) : State :=
  match s.run u with
  | none => s
  | some r => s.setRun u (some { r with ending := some code, stage := .ready, out := [], detail := d })

/-- A late stamp is counted, and noted in the running list (R85, R597). -/
def State.noteLate (s : State) (u code : Nat) : State :=
  match s.run u with
  | none => s
  | some r =>
    let l := r.list
    let l := { l with lateCnt := l.lateCnt + 1, lateCode := if l.lateCnt = 0 then code else l.lateCode,
                      lateCmd := if l.lateCnt = 0 then r.idx else l.lateCmd }
    s.setRun u (some { r with list := l })

/-- Stage of a command whose launch, if any, has been made: it waits for its handle, then for its fence (R287, R290). -/
def afterLaunch (c : Cmd) : Stage := if cWait c then .onHandle else if cFence c then .onFence else .ready

/-- May a context release into, and store to, the context that DCTX names (R261, R788)? -/
def State.dctxOk (s : State) (x : Ctx) (d : Nat) : Bool :=
  d == 0xFFFF ||
  match s.ctx? d with
  | none => false
  | some y => y.id == x.id || (!x.radio && !y.radio && x.owner == y.owner) || (x.radio && y.radio) ||
      (x.radio && !y.radio && y.radioWork) || (!x.radio && y.radio && x.radioWork)

/-- Does the command's DCTX name a context of another package (R261)? -/
def dctxRemote (c : Cmd) : Bool := (cOp c == 0xA1 && !refLocal (cmdField c 24 8)) || cOp c == 0xA7

/-- The command at the front has become current: its format, visibility stamp, DCTX and launch stamp are taken up in that order; a stamped
command takes a comparator (R83 to R86, R256, R261, R286, R786). -/
def State.enterCmd (s : State) (u : Nat) : State :=
  match s.run u with
  | none => s
  | some r =>
    match r.buf, s.ctx? r.list.ctx with
    | _, none => s.failList u 0xC2
    | [], some x => s.failList u (s.refChk x (cmdRef r.list r.idx) 64 false)
    | c :: _, some x =>
      if !listCmdOk r.list.cls c then s.failList u 0x60
      else if cVis c && !stampOk (cWord1 c) then s.failList u 0x21
      else if cVis c && s.time.st == .freerun then (s.countRefuse 0x23).failList u 0x23
      else if !dctxRemote c && !s.dctxOk x (cDctx c) then s.failList u 0x64
      else if !cStamp c || cOp c == 2 || cOp c == 3 then s.setRun u (some { r with stage := afterLaunch c })
      else
        let code := s.stampChk (cWord1 c)
        let gcode := if cGroup c then s.groupChk (cGidx c) (cWord1 c) else 0
        if code ≠ 0 then (s.countRefuse code).failList u code
        else if gcode ≠ 0 then s.failList u gcode
        else
          match s.freeCmp (launchPt u) with
          | none => (s.countRefuse 0x20).failList u 0x20
          | some i =>
            let late := decide (stampTc (cWord1 c) ≤ s.localNow)
            let k : Cmp := { pt := launchPt u, idx := i, stamp := cWord1 c, unit := u, ctx := x.id, list := r.list.id, armed := false,
                             late := cLate c, group := if cGroup c then some (cGidx c) else none, waiting := late }
            let s := { s with sched := { s.sched with cmps := s.sched.cmps ++ [k] } }
            let s := if late then s.count Reg.TIM_LATE_CNT 1 else s
            let s := if cGroup c then s.groupArm (cGidx c) else s
            s.setRun u (some { r with stage := .stamped })

/-- The unit goes on to the next command, or its list ends normally (R257). -/
def State.advance (s : State) (u : Nat) : State :=
  match s.run u with
  | none => s
  | some r =>
    if r.list.count ≤ r.idx + 1 then s.setRun u (some { r with ending := some 0, stage := .ready, buf := [] })
    else
      match s.ctx? r.list.ctx with
      | none => s.failList u 0xC2
      | some x =>
        let r := s.refill x { r with idx := r.idx + 1, buf := r.buf.drop 1, taken := none, stage := .ready }
        (s.setRun u (some r)).enterCmd u

/-- The command is done but for its output handles: they are released in order, then the unit goes on (R288). -/
def State.finishCmd (s : State) (u : Nat) (outs : List (Nat × Nat × Handle)) : State :=
  match s.run u with
  | none => s
  | some r => if outs = [] then s.advance u else s.setRun u (some { r with stage := .releasing, out := outs })

/-- The context that owns a command's output, DCTX or its own; none once it has ended (R259, R261, R788). -/
def State.outCtx (s : State) (x : Ctx) (c : Cmd) : Option Ctx := if cDctx c = 0xFFFF then some x else s.ctx? (cDctx c)

/-- Must a command hold before its first store: its output's context is in SWAP_OUT or SWAP_IN (R261)? -/
def State.outHeld (s : State) (x : Ctx) (c : Cmd) : Bool :=
  match s.outCtx x c with
  | none => false
  | some y => y.st == .swapOut || y.st == .swapIn

/-- Status that refuses a Pool destination (R263). -/
def State.outChk (s : State) (x : Ctx) (c : Cmd) (o n : Nat) : Nat :=
  match s.outCtx x c with
  | none => 0
  | some y => s.poolChk y o n

/-- Bytes stored at a Pool offset of a command's destination: to the saved footprint of a swapped context, against the region's write share;
discarded once the context has ended (R261, R788). -/
def State.outStore (s : State) (x : Ctx) (c : Cmd) (o : Nat) (b : List Byte) : State :=
  match s.outCtx x c with
  | none => s
  | some y =>
    let s := if y.resident then s else s.charge (x.cluster / 4) 1 b.length
    s.wrSpans [(s.poolAddr y o, b.length)] b

/-- The output handle of a command, when it carries REL: `n` bytes from offset `o` of the destination's footprint (R259, R284, R288). -/
def outHandle (x : Ctx) (c : Cmd) (list : DWord) (o n : Nat) (part ahead : Bool) : List (Nat × Nat × Handle) :=
  if !cRel c then []
  else
    let d := if cDctx c = 0xFFFF then x.id else cDctx c
    [(d, cRelq c, { base := o, len := n, partialMark := part, ahead := ahead, visSet := cVis c, owner := d, list := list,
                    vis := if cVis c then cWord1 c else 0, visible := false })]

/-- The current command of a unit, when it has opcode `op` and its turn has come. -/
def State.cur (s : State) (u op : Nat) : Option (Running × Cmd × Ctx) :=
  match s.run u with
  | none => none
  | some r =>
    match r.buf, s.ctx? r.list.ctx with
    | c :: _, some x => if r.ending.isNone && r.stage == .ready && r.idx != 0 && cOp c == op then some (r, c, x) else none
    | _, _ => none

/-- The current command in progress (stage `busy`). -/
def State.curBusy (s : State) (u op : Nat) : Option (Running × Cmd × Ctx) :=
  match s.run u with
  | none => none
  | some r =>
    match r.buf, s.ctx? r.list.ctx with
    | c :: _, some x => if r.ending.isNone && r.stage == .busy && cOp c == op then some (r, c, x) else none
    | _, _ => none

/-! ### Starting (R250 to R252, R256) -/

/-- Owner code of a core's list: the tenant, or the radio service (R353, R377). -/
def Ctx.chmOwner (x : Ctx) : Nat := if x.radio then 0x800 else x.owner

/-- Bytes of X (0), Y (1) and instruction memory (2) of a core that inference lists address (R352). -/
def State.chmLimit (s : State) (k sel : Nat) (radio : Bool) : Nat :=
  let total := if sel = 2 then 65536 else 131072
  if radio then total
  else total - (if sel = 2 then 4096 * s.regBits (Reg.CHM_CFG k) 16 5 else 8192 * s.regBits (Reg.CHM_CFG k) (8 * sel) 5)

/-- A core before a list's first command: registers cleared; with a new owner the unreserved memories too (R343, R353, R377). -/
def State.chmClear (s : State) (x : Ctx) (k : Nat) : State :=
  let same := (s.chm.get {} k).owner == some x.chmOwner
  let m := if same then s.mem
    else [0, 1, 2].foldl (fun m sel => Mem.clear m (chmAt k sel 0) (s.chmLimit k sel false)) s.mem
  let s := { s with mem := m, chm := s.chm.set k { owner := some x.chmOwner } }
  s.count64 (Reg.CHM_XFER_CYC k) (if same then 2 else 16)

/-- A list starts on a unit: it leaves its queue, its header is current, the fetcher reads ahead (R256). -/
def State.startList (s : State) (x : Ctx) (l : ListRec) (u : Nat) (scaled : Nat) : State :=
  let s := s.setCtx { x with queue := x.queue.filter (fun k => k.seq != l.seq) }
  let r : Running := { list := l, idx := 0, buf := [], stage := .ready, taken := none, handles := [], out := [], ending := none, detail := 0,
                       start := s.now, scaled := scaled, overran := false }
  let s := if uKind u = 2 then s.chmClear x (uIdx u) else s
  (s.setRun u (some (s.refill x r))).refresh x.id

/-- Status of a class whose unit is out of service (R251). -/
def quarStatus (cls : Nat) : Nat :=
  match cls with
  | 1 => 0x43
  | 2 => 0x6B
  | 3 => 0x84
  | 4 => 0x92
  | _ => 0x6C

/-- Is a list to be refused for its unit: unconditionally out, or ANY with no unit in service or conditionally excluded (R251)? -/
def State.unitRefused (s : State) (x : Ctx) (cls unit : Nat) : Bool :=
  if cls = 0 then false
  else if unit ≠ 255 then s.unitOut (classUnit cls x.cluster unit)
  else (List.range (classSize cls)).all (fun i => s.unitOut (classUnit cls x.cluster i))

/-! ### Ending (R597, R83, R126, R128) -/

/-- What a unit keeps for its list is dropped at the list's end: open transfers issue nothing more, an array's stream and a vector unit's
rows go (R567, R291). -/
def State.dropUnitWork (s : State) (u : Nat) : State :=
  let s := { s with fab := { s.fab with xfers := s.fab.xfers.map (fun (t : Xfer) => if t.unit = u then { t with dead := true } else t) } }
  match uKind u with
  | 1 =>
    let i := s.mat.arrays.get {} (uIdx u)
    { s with mat := { s.mat with arrays := s.mat.arrays.set (uIdx u) { i with act := 0, frozen := false, loaded := none, fifo := 0, stream := none, rows := [],
                                                                                  unchecked := i.unchecked.filter (fun r => !r.stop) } } }
  | 3 => { s with mat := { s.mat with vecs := s.mat.vecs.set (uIdx u) {} } }
  | 2 => { s with chm := s.chm.upd {} (uIdx u) (fun k => { k with run := none, act := 0 }) }
  | _ => s

/-- The unit becomes free of its list (R83, R27). A quarantine that waited for the list takes effect (R674). -/
def State.freeUnit (s : State) (u : Nat) : State :=
  match s.run u with
  | none => s
  | some r =>
    let s := s.dropCmpsOf r.list.ctx r.list.id
    let s := s.dropUnitWork u
    let s := s.setRun u none
    let s := { s with sched := { s.sched with service := s.sched.service.filter (fun v => v != u) },
                      health := { s.health with quar := s.health.quar.map (fun (p : Nat × Quar) => if p.1 = u then (p.1, { p.2 with waits := false }) else p) } }
    (s.settleUnit u).refresh r.list.ctx

/-- A list ends on its unit and its record is produced (R597, R598). A normal end after a late launch carries the first late status. -/
def State.endList (s : State) (u : Nat) : State :=
  match s.run u with
  | none => s
  | some r =>
    match r.ending with
    | none => s
    | some code =>
      let l := r.list
      let s :=
        if code = 0 ∧ l.lateCnt ≠ 0 then s.listRecord l l.lateCode l.lateCmd (BitVec.ofNat 96 (l.lateCnt % 65536))
        else s.listRecord l code (if code = 0 then l.count - 1 else r.idx) r.detail
      s.freeUnit u

/-- Handles that a list has taken return to the heads of their queues, oldest first (log entry 10). -/
def Ctx.giveBack (x : Ctx) (l : List (Nat × Handle)) : Ctx :=
  l.foldr (fun p x => x.setHqueue p.1 (p.2 :: x.hqueue p.1)) x

/-- A grain is stopped as at a hard-stop point (R126, R128): rerun from its first command when its context next runs, unless NORESTART or
too many successive stops end it with GRAIN_STOPPED. A stop by a fast step does not count (R764). -/
def State.stopGrain (s : State) (u : Nat) (counts : Bool) : State :=
  match s.run u with
  | none => s
  | some r =>
    match s.ctx? r.list.ctx with
    | none => s
    | some x =>
      let g := x.cluster / 4
      let l : ListRec := { r.list with reruns := if counts then r.list.reruns + 1 else r.list.reruns }
      if l.noRestart ∨ s.regBits (Reg.CYC_CFG g) 16 2 < l.reruns then
        ((s.failList u 0x36).endList u).cycEvt g 8
      else
        let s := s.setCtx ({ x with queue := l :: x.queue }.giveBack r.handles)
        s.freeUnit u

/-! ### Cancellation (R291, R292) -/

/-- The list with an ID that has not ended: queued, armed or running. -/
def State.liveList (s : State) (ctx : Nat) (id : DWord) : Bool :=
  (match s.ctx? ctx with | some x => x.queue.any (fun l => l.id == id) | none => false) ||
  s.sched.armed.any (fun l => l.ctx == ctx && l.id == id) ||
  s.sched.units.any (fun p => match p.2.run with | some r => r.list.ctx == ctx && r.list.id == id | none => false)

/-- A list is cancelled: a queued or armed one is removed with a record, a running one stops issuing; its handles leave the context's
queues; copies that fetch ahead for it are cut (R291). Its record carries `code`. The caller has found it live. -/
def State.cancelWith (s : State) (ctx : Nat) (id : DWord) (code : Nat) : State :=
  match s.ctx? ctx with
  | none => s
  | some x =>
    let queued := x.queue.filter (fun l => l.id == id)
    let armed := s.sched.armed.filter (fun l => l.ctx == ctx && l.id == id)
    let x := { x with queue := x.queue.filter (fun l => l.id != id),
                      hq := x.hq.map (fun p => (p.1, p.2.filter (fun h => h.list != id))),
                      cut := if x.cut.contains id then x.cut else x.cut ++ [id] }
    let s := s.setCtx x
    let s := if armed = [] then s else s.dropCmpsOf ctx id
    let s := { s with sched := { s.sched with armed := s.sched.armed.filter (fun l => !(l.ctx == ctx && l.id == id)) } }
    let s := (queued ++ armed).foldl (fun s l => s.listRecord l code 0 0) s
    let running := (s.sched.units.filter (fun p => match p.2.run with | some r => r.list.ctx == ctx && r.list.id == id && r.ending.isNone | none => false)).map (·.1)
    let s := running.foldl (fun s u => (s.dropUnitWork u).failList u code) s
    s.refresh ctx

/-- A list is cancelled with CANCELLED (R291). -/
def State.cancelList (s : State) (ctx : Nat) (id : DWord) : State := s.cancelWith ctx id 0x65

end Sys2Proof.Machine
end

