-- ==== Sys2Proof/Machine/FabReq.lean ====
section
/-! DEFINITION. Tracked requests and transfers as they end: what an ended request does to the tile, the atomic or the hub's errand that it
served (R525, R528, R551 to R567, R94). -/
namespace Sys2Proof.Machine

/-- Ends a service command that a list or a submission holds: a unit's list goes on at status 0 and ends with any other (R258); a
submission's record is produced. -/
def State.finishService (s : State) (unit : Option Nat) (rep : Report) (code : Nat) (detail : BitVec 128) : State :=
  match unit with
  | some u => if code = 0 then s.advance u else s.failList u code
  | none =>
    match rep with
    | .none => s
    | .cq f q slot gen ord => s.post f q { code := code, kind := 0, slot := slot, ref := 0, detail := detail, gen := gen, ord := ord }

/-- A join has its answer: the member group is created on status 0 (R94). -/
def State.endJoin (s : State) (g code : Nat) : State :=
  match s.sched.joins.find g with
  | none => s
  | some j =>
    let s := { s with sched := { s.sched with joins := s.sched.joins.del g } }
    let s := if code = 0 then
        s.setGroup g { st := .arming, owner := false, ownerNode := j.node, ownerIdx := j.idx, stamp := j.stamp, lead := 0, count := j.count,
                       ctx := j.ctx }
      else s
    s.finishService j.unit j.report code 0

/-! ### Transfers -/

def State.xfer (s : State) (id : Nat) : Option Xfer := s.fab.xfers.find? (fun x => x.id == id)

def State.setXfer (s : State) (x : Xfer) : State :=
  { s with fab := { s.fab with xfers := s.fab.xfers.map (fun y => if y.id = x.id then x else y) } }

def State.dropXfer (s : State) (id : Nat) : State := { s with fab := { s.fab with xfers := s.fab.xfers.filter (fun y => y.id != id) } }

/-- Does a request serve transfer `x`? -/
def ReqFor.of (f : ReqFor) (x : Nat) : Bool :=
  match f with
  | .tile y _ => y == x
  | .handle y _ => y == x
  | .atomic y => y == x
  | .hub _ => false

/-- Requests in flight for a transfer. -/
def State.inFlight (s : State) (x : Nat) : Nat := (s.fab.reqs.filter (fun r => r.serves.of x)).length

def State.dropReq (s : State) (tag : Nat) : State := { s with fab := { s.fab with reqs := s.fab.reqs.filter (fun r => r.tag != tag) } }

def State.setReq (s : State) (r : Req) : State :=
  { s with fab := { s.fab with reqs := s.fab.reqs.map (fun q => if q.tag = r.tag then r else q) } }

/-- The record of a stopped transfer is kept: one of equal key is replaced, and a ninth frees the context's oldest (R565). -/
def State.keepRec (s : State) (r : XferRec) : State :=
  let l := s.fab.recs.filter (fun x => !(x.ctx == r.ctx && x.list == r.list && x.cmdIdx == r.cmdIdx))
  let mine := (l.filter (fun x => x.ctx == r.ctx)).length
  let l := if mine < 8 then l else match l.find? (fun x => x.ctx == r.ctx) with | none => l | some o => l.erase o
  { s with fab := { s.fab with recs := l ++ [r] } }

/-- A transfer that has met a failure, or whose list is gone, ends once nothing of it is in flight (R564, R567). -/
def State.settleXfer (s : State) (id : Nat) : State :=
  match s.xfer id with
  | none => s
  | some x =>
    if s.inFlight id ≠ 0 then s
    else if x.dead then s.dropXfer id
    else
      match x.fail with
      | none => s
      | some (cause, peer) =>
        let s := s.dropXfer id
        if cOp x.cmd = 0xA6 then s.failList x.unit cause
        else
          let s := s.keepRec { ctx := x.ctx, list := x.list, cmdIdx := x.cmdIdx, cmd := x.cmd, index := x.index, cause := cause }
          s.failListWith x.unit 0xB3 (BitVec.ofNat 96 (x.index + cause * 2 ^ 64 + peer * 2 ^ 80))

/-- A tile, handle or atomic of a transfer has failed; the first failure is kept (R564). -/
def State.failXfer (s : State) (id cause peer : Nat) : State :=
  match s.xfer id with
  | none => s
  | some x => (s.setXfer { x with fail := if x.fail.isNone then some (cause, peer) else x.fail }).settleXfer id

/-- A request has ended with a status other than success: its entry frees and what it served is told (R553, R564, R94). -/
def State.endReq (s : State) (r : Req) (code : Nat) : State :=
  let s := s.dropReq r.tag
  match r.serves with
  | .tile x _ => s.failXfer x code r.txn.dest
  | .handle x _ => s.failXfer x code r.txn.dest
  | .atomic x => s.failXfer x code r.txn.dest
  | .hub what => if 1000 ≤ what ∧ what < 1256 then s.endJoin (what - 1000) code else s

/-- A request ends LINK_LOST, TIMEOUT or FAB_BUSY: counted and logged (R553, R641). -/
def State.abandon (s : State) (r : Req) (code : Nat) : State :=
  let s := if code = 0xB0 then s.count Reg.FAB_LOST_CNT 1 else if code = 0xB1 then s.count Reg.FAB_TIMEOUT_CNT 1 else s
  (s.logIn 4 0x22 r.plane (BitVec.ofNat 64 code) (leBytes 16 r.key.toNat)).endReq r code

/-- Next usable plane after `p` for a destination, ascending and wrapping (R560). -/
def State.nextPlane (s : State) (node p : Nat) : Option Nat :=
  ([(p + 1) % 3, (p + 2) % 3, p % 3]).find? (fun k => (s.planes node).contains k)

/-- An atomic that would end LINK_LOST or TIMEOUT is reissued with REISSUE on the next usable plane, or waits for one (R560). -/
def State.reissue (s : State) (r : Req) : State :=
  let t : Txn := { r.txn with flags := r.txn.flags ||| 1 }
  let s := s.count Reg.FAB_REISSUE_CNT 1
  match s.nextPlane (t.dest % 4096) r.plane with
  | none => s.setReq { r with txn := t, st := .waitPlane, ran := 0, nacks := 0 }
  | some p =>
    (s.setReq { r with txn := t, plane := p, st := if s.pathRetry p (t.dest % 4096) then .held else .sent, ran := 0, since := s.now,
                       nacks := 0 }).sendOn (s.reqQueue r.region p) p t

/-- A request on a lost path, or past its timer (R528, R529, R552, R560). -/
def State.giveUp (s : State) (r : Req) (code : Nat) : State := if r.txn.op = 3 then s.reissue r else s.abandon r code

/-- Every request in flight that satisfies `p` is given up with LINK_LOST. -/
def State.loseReqs (s : State) (p : Req → Bool) : State :=
  (s.fab.reqs.filter p).foldl (fun s r => if s.fab.reqs.any (fun q => q.tag == r.tag) then s.giveUp r 0xB0 else s) s

/-- A path has left RETRY: the timers that it held resume (R551, R552). -/
def State.resumePaths (s : State) : State :=
  { s with fab := { s.fab with reqs := s.fab.reqs.map (fun r =>
      if r.st = .held ∧ !s.pathRetry r.plane (r.txn.dest % 4096) then { r with st := .sent, since := s.now } else r) } }

/-- A path has entered RETRY: the timers of its requests stop (R551, R552). -/
def State.holdPaths (s : State) : State :=
  { s with fab := { s.fab with reqs := s.fab.reqs.map (fun r =>
      if r.st = .sent ∧ s.pathRetry r.plane (r.txn.dest % 4096) then { r with st := .held, ran := r.ran + (s.now - r.since) } else r) } }

/-- A plane is gone for this device: the replay buffer empties and its requests end (R528, R609). -/
def State.losePlane (s : State) (p : Nat) (l : LinkSt) : State :=
  let s := s.setPort p { s.port p with link := l, held := [], replayLeft := 0, naked := false, txSeq := 0, rxSeq := 0 }
  let s := s.dropFlits p
  s.loseReqs (fun r => r.plane == p && (r.st == .sent || r.st == .held))

end Sys2Proof.Machine
end

