-- ==== Sys2Proof/Machine/RadioOps.lean ====
section
/-! DEFINITION. The radio service's shared operations: slots and deadlines, messages to L2 on their rings, capacity, stopping a cell
(R60, R385 to R391, R410 to R423, R571 to R573, R595). -/
namespace Sys2Proof.Machine

/-! ### Cells and slots -/

def State.cellCfg (s : State) (n : Nat) : Option CellCfg := s.radio.cfg.find n

def State.cell (s : State) (n : Nat) : Cell := s.radio.cells.get {} n

def State.setCell (s : State) (n : Nat) (x : Cell) : State := { s with radio := { s.radio with cells := s.radio.cells.set n x } }

/-- Length of a slot in Tc at numerology `mu` (R60). -/
def slotTc (mu : Nat) : Nat :=
  match mu with
  | 0 => 1966080
  | 1 => 983040
  | _ => 245760

/-- The slot boundary at or before an instant (R60). -/
def slotStart (mu t : Nat) : Nat := t / slotTc mu * slotTc mu

/-- DL deadline of the slot at `at0` (R410). -/
def dlDeadline (mu at0 : Nat) : Nat := at0 - (if mu = 3 then 4 else 2) * slotTc mu

/-- UL_ORDER deadline of the slot at `at0` (R410). -/
def ulDeadline (mu at0 : Nat) : Nat := at0 - slotTc mu

/-! ### Messages to L2 (R416, R418, R573, R595) -/

/-- A message of the Slot Service Interface, padded to 8 bytes. -/
def ssiMsg (ty cell seq count : Nat) (slot : Stamp) (payload : List Byte) : List Byte :=
  let pad := List.replicate (ceilDiv payload.length 8 * 8 - payload.length) (0 : Byte)
  leBytes 1 ty ++ leBytes 1 1 ++ leBytes 2 cell ++ leBytes 4 (24 + payload.length + pad.length) ++ leBytes 8 slot.toNat ++ leBytes 4 seq ++
  leBytes 2 count ++ leBytes 2 0 ++ payload ++ pad

/-- Offset in the indication ring of PF0's pair `q` at which `n` bytes fit, if they do (R595). -/
def QPair.indRoom (x : QPair) (n : Nat) : Option Nat :=
  let size := 2 ^ (16 + bits x.ssiBase 0 4)
  let o := if size < x.indOfs + n then 0 else x.indOfs
  if size < n ∨ x.indUse.any (fun u => decide (u.2.1 < o + n) && decide (o < u.2.1 + u.2.2)) then none else some o

/-- A TILE_WR of up to 4,096 bytes under the radio job, and the rest after it. -/
def State.tileOut (s : State) (e dest ofs fuel : Nat) (b : List Byte) : State :=
  match fuel with
  | 0 => s
  | fuel + 1 =>
    if b.isEmpty then s
    else
      let c := b.take 4096
      let s := s.hubReq { op := 4, len := c.length, dest := dest, job := s.regBits Reg.FAB_RADIO_JOB 0 20, offset := ofs, dctx := 0xFFFF,
                          opfield := BitVec.ofNat 64 (c.length + 2 ^ 16), data := c } (2000 + e)
      s.tileOut e dest (ofs + 4096) fuel (b.drop 4096)

/-- A message is written to its ring, if it finds room there: the host ring of a queue pair, or the outbound ring of a fabric endpoint, a
pad before it where it would pass the end (R572, R573, R595). A pair that is not ON drops it (R614). -/
def State.ringWrite (s : State) (via : Nat) (b : List Byte) : Option State :=
  if via < 16 then
    let x := s.qp pf0 via
    if !s.qpOn pf0 via then some s
    else
      match x.indRoom b.length with
      | none => none
      | some o =>
        let s := s.setQp pf0 via { x with indOfs := o + b.length, indUse := x.indUse ++ [(0, o, b.length)] }
        let s := s.emit (.hostWrite pf0 (bits x.ssiBase 12 36 * 4096 + o) b)
        some (s.post pf0 via { code := 0, kind := 5, slot := 0xFFFF, ref := 0, detail := BitVec.ofNat 128 (o + b.length * 2 ^ 64),
                               gen := (s.fn pf0).gen })
  else
    let e := via - 16
    let out := s.regs.get 0 (Reg.FAB_SSI_OUT e)
    let dest := s.regBits (Reg.FAB_SSI_IN e) 28 12 + s.self / 4096 * 4096
    let size := 2 ^ (16 + bits out 40 4) - 64
    let tail := s.fab.ssiTail.get 0 e
    let pos := tail % size
    let pad := if size < pos + b.length then size - pos else 0
    if size < tail - s.fab.ssiHead.get 0 e + pad + b.length then none
    else
      let base := bits out 0 40 + 64
      let s := if pad = 0 then s
        else s.tileOut e dest (base + pos) 1 (leBytes 1 0 ++ leBytes 1 1 ++ leBytes 2 0 ++ leBytes 4 pad ++ List.replicate 16 0)
      let s := s.tileOut e dest (base + (tail + pad) % size) (b.length / 4096 + 1) b
      some { s with fab := { s.fab with ssiTail := s.fab.ssiTail.set e (tail + pad + b.length) } }

/-- The L2's HEAD is read when room has not been seen (R573). -/
def State.readHead (s : State) (via : Nat) : State :=
  if via < 16 then s
  else
    let e := via - 16
    s.hubReq { op := 1, len := 8, dest := s.regBits (Reg.FAB_SSI_IN e) 28 12 + s.self / 4096 * 4096, job := s.regBits Reg.FAB_RADIO_JOB 0 20,
               offset := s.regBits (Reg.FAB_SSI_OUT e) 0 40 + 8 } (3000 + e)

/-- A message to L2 leaves a cell's service: written, or waiting behind those that wait for its ring (R573, R595). -/
def State.ssiOut (s : State) (n : Nat) (marks : List LateMark) (b : List Byte) : State :=
  let via := (s.cell n).via
  let wait (s : State) : State := { s with radio := { s.radio with waiting := s.radio.waiting ++ [{ cell := n, bytes := b, marks := marks }] } }
  if s.radio.waiting.any (fun m => (s.cell m.cell).via == via) then wait s
  else
    match s.ringWrite via b with
    | some s => s
    | none => (wait s).readHead via

/-- An indication of a cell: a muted cell keeps it until its deadline (R683). -/
def State.indicate (s : State) (n deadline : Nat) (marks : List LateMark) (b : List Byte) : State :=
  let live := s.health.heldInd.filter (fun (h : Nat × Nat × List Byte) => decide (s.now < h.2.1))
  if (s.cell n).muted then { s with health := { s.health with heldInd := live ++ [(n, deadline, b)] } } else s.ssiOut n marks b

/-- A message to L2 with the cell's next SEQ, recorded as one output (R416, R647). -/
def State.tellL2 (s : State) (n ty handle : Nat) (slot : Stamp) (payload : List Byte) : State :=
  let x := s.cell n
  let b := ssiMsg ty n x.seqOut 0 slot payload
  let s := s.setCell n { x with seqOut := (x.seqOut + 1) % 2 ^ 32 }
  (s.output (outKey 5 (n + ty * 2 ^ 16) handle slot.toNat) b).indicate n s.now [] b

/-- Codes of a cell's state in a CELL_NOTE (R418). -/
def EState.code : EState → Nat
  | .off => 0
  | .starting => 1
  | .on => 2
  | .stopping => 3

/-- A CELL_NOTE: the state, the reason, and the instant from which it holds (R418). -/
def State.cellNote (s : State) (n at0 : Nat) : State :=
  let x := s.cell n
  s.tellL2 n 0xB0 0 (tcStamp at0) (leBytes 1 x.en.st.code ++ leBytes 1 x.reason ++ leBytes 6 0 ++ leBytes 8 (tcStamp at0).toNat)

/-- A FAULT_NOTE: the code, and what it concerns (R418). -/
def State.faultNote (s : State) (n code ty seq handle : Nat) (slot : Stamp) : State :=
  s.tellL2 n 0xB8 handle slot (leBytes 1 code ++ leBytes 1 ty ++ leBytes 2 0 ++ leBytes 4 seq ++ leBytes 4 handle ++ leBytes 4 0)

/-! ### Capacity and stops (R385, R386, R390, R391) -/

/-- Cost of a cell in eighths (R385). -/
def CellCfg.cost (c : CellCfg) : Nat :=
  max 1 ((c.nrb * 2 ^ c.mu * (c.ant + 2 * max c.lDl c.lUl) + 818) / 819)

/-- Radio-window time of a region's table in Tc per 983,040 Tc (R386). -/
def State.radioTc (s : State) (g : Nat) : Nat :=
  ((List.range (s.cycCount g)).foldl (fun n i => let w := s.window g i; if w.cls = 1 then n + w.len else n) 0) * 983040 / s.cycPeriod g

/-- A region's capacity as the image gives it (R386). -/
def State.capOf (s : State) (g : Nat) : Nat := min 128 (s.radioTc g / 3072)

/-- Chamois cores of a region's radio-reserved clusters, and those of them in service (R391). -/
def State.radioCores (s : State) (g : Nat) : Nat × Nat :=
  let l := ((List.range 4).filter (fun i => decide (1 ≤ s.radioSlots (4 * g + i)))).flatMap (fun i => (List.range 4).map (fun j => uChm (4 * (4 * g + i) + j)))
  (l.length, (l.filter (fun u => !s.unitOut u)).length)

/-- A region's capacity with what quarantine leaves, whole eighths (R391); 0 with its Kudu engine out (R674). -/
def State.capNow (s : State) (g : Nat) : Nat :=
  let k := s.radioCores g
  if s.quarHard (uKud g) then 0 else if k.1 = 0 then s.capOf g else s.capOf g * k.2 / k.1

/-- Cells of a region that are not OFF. -/
def State.liveCells (s : State) (g : Nat) : List Nat :=
  (s.radio.cfg.filter (fun p => p.2.region == g && (s.cell p.1).en.st != .off)).map (·.1)

/-- Eighths that a region's cells hold. -/
def State.capUsed (s : State) (g : Nat) : Nat :=
  (s.liveCells g).foldl (fun n c => n + (match s.cellCfg c with | some k => k.cost | none => 0)) 0

/-- A cell takes its stop slot: the first whose DL deadline lies after now (R390). A cell that is STARTING takes it when ON. -/
def State.stopCell (s : State) (n reason : Nat) : State :=
  let x := s.cell n
  match s.cellCfg n with
  | none => s
  | some k =>
    let len := slotTc k.mu
    let first := slotStart k.mu s.now + len * ((if k.mu = 3 then 4 else 2) + 1)
    match x.en.st with
    | .on => (s.setCell n { x with en := { st := .stopping, pend := false }, stop := some first, reason := reason }).cellNote n s.now
    | .starting => s.setCell n { x with en := { x.en with pend := true }, reason := reason }
    | .stopping => s.setCell n { x with en := { x.en with pend := false }, next := none }
    | .off => s

/-- Cells of a region are stopped from the highest index down until those not OFF fit (R391). -/
def State.fitCells (s : State) (g : Nat) : State :=
  let step (acc : State × Nat) (c : Nat) : State × Nat :=
    if acc.2 ≤ acc.1.capNow g then acc
    else
      match acc.1.cellCfg c with
      | none => acc
      | some k => (if (acc.1.cell c).en.st == .stopping then acc.1 else acc.1.stopCell c 1, acc.2 - k.cost)
  ((s.liveCells g).reverse.foldl step (s, s.capUsed g)).1

end Sys2Proof.Machine
end

