-- ==== Sys2Proof/Machine/HealthOps.lean ====
section
/-! DEFINITION. The health monitor's shared operations: the log, scores, quarantine, mail between devices, expulsion requests (R658 to R677,
R691 to R694). -/
namespace Sys2Proof.Machine

/-- Score of bin `b` of a part (R663). -/
def State.score (s : State) (u b : Nat) : Nat := s.health.scores.get 1000 (32 * u + b)

/-- Is a part excluded now: its own quarantine, or what contains it (R674, `HLT_SEL_STATE.EXCL`)? -/
def State.excluded (s : State) (u : Nat) : Bool := s.quarHard u || s.quarCond u

/-- `HLT_SEL_STATE` of a part (R704). -/
def State.selState (s : State) (u : Nat) : Nat :=
  let k := s.health.quar.get {} u
  let kind := if k.image then 1 else k.kind
  kind + k.tmin * 2 ^ 2 + k.lmin * 2 ^ 5 + (s.excluded u).toNat * 2 ^ 7 + k.image.toNat * 2 ^ 8

/-- `HLT_EXPEL` (R705). -/
def State.expelWord (s : State) : Nat := s.health.expel + s.health.expelCause * 2 ^ 3 + s.health.expelSpare * 2 ^ 7

/-- Readings of the 17 sensors, 1/8 °C, and their peaks since start (R777, R782). -/
def State.sensed (s : State) (temps : List Int) : State :=
  let temp := temps.zipIdx.foldl (fun (t : Tab Int) (p : Int × Nat) => t.set p.2 p.1) s.power.temp
  let peak := temps.zipIdx.foldl (fun (t : Tab Int) (p : Int × Nat) => t.set p.2 (max p.1 (t.get p.1 p.2))) s.power.peak
  { s with power := { s.power with temp := temp, peak := peak } }

/-- An entry of the health log (R660, R661). -/
def State.healthLog (s : State) (kind unit ctx node : Nat) (detail : DWord) : State :=
  let h := s.reg Reg.HLT_LOG_HEAD
  let bin := if isPart unit then s.binOf unit else 0
  let w1 := unit + kind * 2 ^ 16 + bin / 4 * 2 ^ 24 + bin % 4 * 2 ^ 27 + (if isPart unit then s.score unit bin else 0) * 2 ^ 32 +
    (s.selState unit % 4) * 2 ^ 42
  let e : BitVec 256 := BitVec.ofNat 256 ((tcStamp s.now).toNat + w1 * 2 ^ 64 + detail.toNat * 2 ^ 128 + (ctx % 65536 + node % 4096 * 2 ^ 16) * 2 ^ 192)
  let s := { s with health := { s.health with log := s.health.log.set h e } }
  let s := s.setReg Reg.HLT_LOG_HEAD ((h + 1) % 256)
  if s.reg Reg.HLT_LOG_COUNT < 256 then s.setReg Reg.HLT_LOG_COUNT (s.reg Reg.HLT_LOG_COUNT + 1)
  else ((s.setReg Reg.HLT_LOG_TAIL ((s.reg Reg.HLT_LOG_TAIL + 1) % 256)).count Reg.HLT_LOG_LOST 1).hltEvt 0x800

/-! ### Mail between devices (R679, R693; the 64 bytes are the model's, log entry 12) -/

abbrev mailBeat : Nat := 0
abbrev mailExpel : Nat := 1
abbrev mailGrant : Nat := 2
abbrev mailSpare : Nat := 3
abbrev mailForced : Nat := 4
abbrev mailBoundary : Nat := 5

/-- A 64-byte STORE to a node's health mailbox, under the firmware job. -/
def State.mail (s : State) (node kind b1 w2 : Nat) : State :=
  s.hubReq { op := 2, len := 64, dest := node + s.self / 4096 * 4096, job := 0xFFFFF, offset := Config.mailboxOfs node % 2 ^ 40,
             data := leBytes 1 kind ++ leBytes 1 b1 ++ leBytes 2 w2 ++ List.replicate 60 0 } 0

/-- Steward nodes of the device (R692). -/
def State.steward (s : State) (i : Nat) : Nat := s.regBits Reg.HLT_DOMAIN (8 + 12 * i) 12

/-- The steward that can be reached: STEWARD0 unless its heartbeats are missing (R692). -/
def State.stewardNow (s : State) : Nat :=
  if s.health.peers.any (fun p => p.node == s.steward 0 && p.isSteward && decide (s.regBits Reg.HLT_PARTNER 31 4 ≤ p.miss)) then s.steward 1
  else s.steward 0

/-- `HLT_EXPEL.STATE` changes: logged, and flagged (R662, R707). -/
def State.setExpel (s : State) (st cause spare : Nat) : State :=
  let s := { s with health := { s.health with expel := st, expelCause := cause, expelSpare := spare } }
  ((s.healthLog 0x0B 0xF000 0 0 (BitVec.ofNat 64 s.expelWord)).hltEvt 0x80).redev

/-- The device sends its expulsion request to the steward; a steward keeps its own (R692, R693). -/
def State.sendExpel (s : State) (cause : Nat) : State :=
  let s := { s with health := { s.health with expelSent := s.now } }
  if s.stewardNow ≠ s.self % 4096 then s.mail s.stewardNow mailExpel cause 0
  else if s.health.reqs.any (fun r => r.node == s.self % 4096) then s
  else { s with health := { s.health with reqs := s.health.reqs ++ [{ node := s.self % 4096, cause := cause }] } }

/-- The health monitor requests its own device's expulsion (R691, R693). -/
def State.requestExpel (s : State) (cause : Nat) : State :=
  if s.health.expel ≠ 0 then s
  else (s.setExpel 1 cause 0).sendExpel cause

/-! ### Quarantine (R672 to R677) -/

/-- May a part be quarantined on a condition (R673, R674)? -/
def State.condOk (s : State) (u : Nat) : Bool :=
  match uKind u with
  | 1 => decide (s.radioSlots (uIdx u / 2) = 0)
  | 2 => decide (s.radioSlots (uIdx u / 4) = 0)
  | 3 => true
  | 4 => true
  | 8 => true
  | _ => false

/-- A part that has no local quarantine: Tarn, Mere, light engine 3 (R674). -/
def noQuar (u : Nat) : Bool := uKind u == 0xB || uKind u == 0xC || u == 0xD003

/-- Bins of a part below the threshold (R672). -/
def State.lowBins (s : State) (u : Nat) : List Nat :=
  (List.range 32).filter (fun b => decide (s.score u b < s.regBits Reg.HLT_CFG 0 10))

/-- Clusters in service (R691). -/
def State.clustersIn (s : State) : Nat := ((List.range 48).filter (fun c => !s.clusterOut c)).length

/-- What a new or wider exclusion makes of the device: its state, the cells that must stop, the fabric port, the expulsion (R391, R674,
R677, R691). -/
def State.afterQuar (s : State) (u : Nat) : State :=
  let s := s.redev
  let s := if s.health.quar.get {} u |>.waits then s else
    if uKind u = 2 ∨ uKind u = 5 ∨ uKind u = 6 ∨ uKind u = 8 then s.fitCells (uRegion u) else s
  let s := if uKind u = 0xD ∧ uIdx u < 3 then
      ({ s with host := { s.host with ports := s.host.ports.set (16 + uIdx u) {} } }).losePlane (uIdx u) .down
    else s
  if s.clustersIn < s.regBits Reg.HLT_CFG 26 6 then s.requestExpel 1 else s

/-- A quarantine that waited for a unit's list has taken effect, as `was` shows (R199, R674). -/
def State.quarSettled (s : State) (was : State) (u : Nat) : State :=
  if (was.health.quar.get {} u).waits && !(s.health.quar.get {} u).waits then s.afterQuar u else s

/-- The health monitor decides a part's quarantine from its bins (R672, R673, R674). -/
def State.decideQuar (s : State) (u : Nat) : State :=
  let f := s.lowBins u
  if f = [] then s
  else if noQuar u then s.requestExpel (if u = 0xD003 then 4 else 2)
  else
    let tmin := f.foldl (fun m b => min m (b / 4)) 7
    let lmin := f.foldl (fun m b => min m (b % 4)) 3
    let kind := if !s.condOk u then 1 else if 4 ≤ tmin then 2 else if 2 ≤ lmin then 3 else 1
    let old := s.health.quar.get {} u
    if old.kind = 1 ∨ (old.kind = kind ∧ (kind = 1 ∨ (old.tmin = tmin ∧ old.lmin = lmin))) then s
    else
      let q : Quar := { old with kind := kind, tmin := tmin, lmin := lmin, waits := isUnit u && (s.run u).isSome }
      let s := { s with health := { s.health with quar := s.health.quar.set u q } }
      ((s.healthLog 6 u 0 0 (BitVec.ofNat 64 (s.selState u))).hltEvt 1).afterQuar u

/-- An event deducts from the score of the bin in force, which stops at 0 (R666). -/
def State.deduct (s : State) (u n : Nat) : State :=
  if !isPart u then s
  else
    let k := 32 * u + s.binOf u
    let v := s.health.scores.get 1000 k - n
    let s := { s with health := { s.health with scores := s.health.scores.set k v } }
    if v < s.regBits Reg.HLT_CFG 0 10 then s.decideQuar u else s

/-- A corrected error of a part: one point, and an entry when the 64th of its second comes (R662, R666). -/
def State.corrected (s : State) (u : Nat) : State :=
  let sec := s.now / secondTc
  let old := s.health.ceCount.get 0 u
  let n := if old / 2 ^ 32 = sec then old % 2 ^ 32 + 1 else 1
  let s := { s with health := { s.health with ceCount := s.health.ceCount.set u (sec * 2 ^ 32 + n) } }
  let s := s.deduct u 1
  if n = 64 then s.healthLog 1 u 0 0 64 else s

end Sys2Proof.Machine
end

