-- ==== Sys2Proof/Machine/Num.lean ====
section
/-! DEFINITION. Exact values, rounding, and the number formats (spec/05_number_formats.md). -/
namespace Sys2Proof.Machine

/-- An exact rational value `num / den`; `den` is never 0. -/
structure Val where
  num : Int
  den : Nat
  deriving DecidableEq, Repr

/-- The value `m × 2^e`. -/
def Val.dyad (m e : Int) : Val := if 0 ≤ e then ⟨m * (2 ^ e.toNat : Nat), 1⟩ else ⟨m, 2 ^ (-e).toNat⟩

def Val.add (a b : Val) : Val := ⟨a.num * b.den + b.num * a.den, a.den * b.den⟩
def Val.neg (a : Val) : Val := ⟨-a.num, a.den⟩
def Val.mul (a b : Val) : Val := ⟨a.num * b.num, a.den * b.den⟩
/-- Quotient by a nonzero value. -/
def Val.div (a b : Val) : Val :=
  if 0 < b.num then ⟨a.num * b.den, a.den * b.num.toNat⟩ else ⟨-(a.num * b.den), a.den * (-b.num).toNat⟩
def Val.lt (a b : Val) : Bool := decide (a.num * b.den < b.num * a.den)
def Val.le (a b : Val) : Bool := decide (a.num * b.den ≤ b.num * a.den)
def Val.abs (a : Val) : Val := ⟨a.num.natAbs, a.den⟩

/-- floor(log2 |v|) of a nonzero value. -/
def Val.log2 (v : Val) : Int :=
  let n := v.num.natAbs
  let l : Int := (n.log2 : Int) - (v.den.log2 : Int)
  -- 2^(l-1) < |v| < 2^(l+1): settle between l and l - 1
  if (Val.dyad 1 l).le ⟨n, v.den⟩ then l else l - 1

/-- How a conversion rounds: convergently (R226), or stochastically with the 24-bit value u (R228). -/
inductive Rnd where
  | conv
  | stoch (u : Nat)
  deriving DecidableEq, Repr

/-- The exact value as a multiple of the grid step 2^g, rounded to an integer (R226, R228). -/
def roundGrid (r : Rnd) (v : Val) (g : Int) : Int :=
  let n : Int := if 0 ≤ g then v.num else v.num * (2 ^ (-g).toNat : Nat)
  let d : Nat := if 0 ≤ g then v.den * 2 ^ g.toNat else v.den
  let lo := n / (d : Int)
  let rem := (n % (d : Int)).toNat
  if rem = 0 then lo
  else match r with
    | .conv => if 2 * rem < d then lo else if d < 2 * rem then lo + 1 else if lo % 2 = 0 then lo else lo + 1
    | .stoch u => if 2 ^ 24 ≤ rem * 2 ^ 24 / d + u then lo + 1 else lo

/-- Clamped to `[lo, hi]` after rounding (R231). -/
def clampInt (lo hi x : Int) : Int := if x < lo then lo else if hi < x then hi else x

/-- A binary format: total bits, significand bits with the hidden one, and the largest exponent (R232). -/
structure FFmt where
  width : Nat
  prec : Nat
  emax : Int
  deriving DecidableEq, Repr

def fmt16 : FFmt := ⟨16, 11, 15⟩
def fmtB16 : FFmt := ⟨16, 8, 127⟩
def fmt32 : FFmt := ⟨32, 24, 127⟩

/-- A number of a binary format: NaN, an infinity, or a finite value with its sign (zeros are signed). -/
inductive Flt where
  | nan
  | inf (neg : Bool)
  | fin (neg : Bool) (v : Val)
  deriving DecidableEq, Repr

/-- The encoding of ±infinity. -/
def FFmt.infBits (f : FFmt) (neg : Bool) : Nat :=
  neg.toNat * 2 ^ (f.width - 1) + (2 ^ (f.width - f.prec) - 1) * 2 ^ (f.prec - 1)

/-- The quiet NaN that the vector unit produces (R237). -/
def FFmt.nanBits (f : FFmt) : Nat := f.infBits false + 2 ^ (f.prec - 2)

/-- The encoding of `±a × 2^g`, an already rounded magnitude; beyond the largest finite value an infinity (R232, R233). -/
def FFmt.pack (f : FFmt) (neg : Bool) (a : Nat) (g : Int) : Nat :=
  let s := neg.toNat * 2 ^ (f.width - 1)
  if a = 0 then s
  else
    let l : Int := (a.log2 : Int) + g
    if f.emax < l then f.infBits neg
    else if l < 1 - f.emax then s + a
    else s + (l + f.emax).toNat * 2 ^ (f.prec - 1) + (a * 2 ^ (f.prec - 1) / 2 ^ a.log2 - 2 ^ (f.prec - 1))

/-- The grid exponent of a binary format at the magnitude of a nonzero value (R228). -/
def FFmt.grid (f : FFmt) (v : Val) : Int :=
  let l := v.log2
  (if l < 1 - f.emax then 1 - f.emax else l) - ((f.prec : Int) - 1)

/-- One rounding of an exact value to a binary format: −0 for a negative value that rounds to zero, +0 for zero (R232). -/
def FFmt.round (f : FFmt) (r : Rnd) (v : Val) : Nat :=
  if v.num = 0 then 0
  else
    let g := f.grid v
    let k := roundGrid r v g
    f.pack (decide (v.num < 0)) k.natAbs g

/-- The number that a bit pattern of a binary format stands for. -/
def FFmt.unpack (f : FFmt) (b : Nat) : Flt :=
  let neg := b.testBit (f.width - 1)
  let e := b / 2 ^ (f.prec - 1) % 2 ^ (f.width - f.prec)
  let m := b % 2 ^ (f.prec - 1)
  if e = 2 ^ (f.width - f.prec) - 1 then (if m = 0 then .inf neg else .nan)
  else
    let mag : Int := if e = 0 then m else m + (2 ^ (f.prec - 1) : Nat)
    let x : Int := (if e = 0 then 1 else (e : Int)) - f.emax - ((f.prec : Int) - 1)
    .fin neg (Val.dyad (if neg then -mag else mag) x)

/-- A computed number as a bit pattern, rounding once (R237). -/
def FFmt.ofFlt (f : FFmt) (r : Rnd) (x : Flt) : Nat :=
  match x with
  | .nan => f.nanBits
  | .inf n => f.infBits n
  | .fin n v => if v.num = 0 then n.toNat * 2 ^ (f.width - 1) else f.round r v

/-! IEEE 754 operations on exact operands; the caller rounds the answer. -/

def Flt.neg : Flt → Flt
  | .nan => .nan
  | .inf n => .inf (!n)
  | .fin n v => .fin (!n) v.neg

def Flt.add : Flt → Flt → Flt
  | .nan, _ => .nan
  | _, .nan => .nan
  | .inf a, .inf b => if a = b then .inf a else .nan
  | .inf a, .fin _ _ => .inf a
  | .fin _ _, .inf b => .inf b
  | .fin a v, .fin b w =>
    let s := v.add w
    if s.num = 0 then .fin (a && b) s else .fin (decide (s.num < 0)) s

def Flt.sub (x y : Flt) : Flt := x.add y.neg

def Flt.mul : Flt → Flt → Flt
  | .nan, _ => .nan
  | _, .nan => .nan
  | .inf a, .inf b => .inf (a != b)
  | .inf a, .fin b w => if w.num = 0 then .nan else .inf (a != b)
  | .fin a v, .inf b => if v.num = 0 then .nan else .inf (a != b)
  | .fin a v, .fin b w => .fin (a != b) (v.mul w)

def Flt.div : Flt → Flt → Flt
  | .nan, _ => .nan
  | _, .nan => .nan
  | .inf _, .inf _ => .nan
  | .inf a, .fin b _ => .inf (a != b)
  | .fin a _, .inf b => .fin (a != b) ⟨0, 1⟩
  | .fin a v, .fin b w =>
    if w.num = 0 then (if v.num = 0 then .nan else .inf (a != b)) else .fin (a != b) (v.div w)

/-- Is `x < y`? (false when either is a NaN) -/
def Flt.lt : Flt → Flt → Bool
  | .nan, _ => false
  | _, .nan => false
  | .inf a, .inf b => a && !b
  | .inf a, .fin _ _ => a
  | .fin _ _, .inf b => !b
  | .fin _ v, .fin _ w => v.lt w

/-- Is `x ≥ y`? -/
def Flt.ge (x y : Flt) : Bool :=
  match x, y with
  | .nan, _ => false
  | _, .nan => false
  | _, _ => !(x.lt y)

/-- The larger; a NaN operand gives a NaN. -/
def Flt.max (x y : Flt) : Flt :=
  match x, y with
  | .nan, _ => .nan
  | _, .nan => .nan
  | _, _ => if x.lt y then y else x

/-- The smaller; a NaN operand gives a NaN. -/
def Flt.min (x y : Flt) : Flt :=
  match x, y with
  | .nan, _ => .nan
  | _, .nan => .nan
  | _, _ => if y.lt x then y else x

/-- floor(sqrt(den / num) / 2^g) of a positive value. -/
def rsqrtFloor (v : Val) (g : Int) : Nat :=
  if 0 ≤ g then natSqrt (v.den / (v.num.toNat * 4 ^ g.toNat)) else natSqrt (v.den * 4 ^ (-g).toNat / v.num.toNat)

/-- 1 / sqrt of a binary32 number, rounded once (R237, R272).. -/
def rsqrt32 (r : Rnd) (x : Flt) : Nat :=
  match x with
  | .nan => fmt32.nanBits
  | .inf true => fmt32.nanBits
  | .inf false => 0
  | .fin n v =>
    if v.num = 0 then fmt32.infBits n
    else if n then fmt32.nanBits
    else
      -- y = sqrt(den / num); g is its grid; k is y in steps of 2^(g - 24), rounded down
      let g : Int := ({ num := v.den, den := v.num.toNat } : Val).log2 / 2 - 23
      let k := rsqrtFloor v (g - 24)
      let lo := k / 2 ^ 24
      let f := k % 2 ^ 24
      match r with
      | .conv => fmt32.pack false (if 2 ^ 23 ≤ f then lo + 1 else lo) g
      | .stoch u => fmt32.pack false (if 2 ^ 24 ≤ f + u then lo + 1 else lo) g

/-- An exact value as INT8, signed or unsigned (R232). -/
def toInt8 (r : Rnd) (u8 : Bool) (v : Val) : Byte :=
  let k := roundGrid r v 0
  BitVec.ofInt 8 (if u8 then clampInt 0 255 k else clampInt (-128) 127 k)

/-- One KBF8 mantissa of `v` at exponent `e` (R234, R236). -/
def kbfMant (r : Rnd) (v : Val) (e : Int) : Int := roundGrid r v (e - 127)

/-- The exponent E of a KBF8 row (R234); each value comes with its own rounding. -/
def kbfRowExp (vs : List (Rnd × Val)) : Nat :=
  match vs.foldl (fun m p => if m.lt p.2.abs then p.2.abs else m) (⟨0, 1⟩ : Val) with
  | m =>
    if m.num = 0 then 0
    else
      let e0 := m.log2 + 121
      let e1 := if vs.any (fun p => kbfMant p.1 p.2 e0 == 128) then e0 + 1 else e0
      (clampInt 0 255 e1).toNat

/-- A KBF8 row: its exponent and mantissas (R234). -/
def kbfRow (vs : List (Rnd × Val)) : Nat × List Byte :=
  let e := kbfRowExp vs
  (e, vs.map (fun p => if (vs.all (fun q => q.2.num == 0)) then 0
    else BitVec.ofInt 8 (clampInt (-128) 127 (kbfMant p.1 p.2 e))))

/-- 40-, 48- and 128-bit two's complement limits. -/
def sat48 (x : Int) : Int := clampInt (-(2 ^ 47 : Nat)) ((2 ^ 47 : Nat) - 1) x

end Sys2Proof.Machine
end

