-- ==== Sys2Proof/Machine/TierOps.lean ====
section
/-! DEFINITION. The memory tiers' shared operations: frames, quotas, directives, migrations, claims, errors of lines (R489 to R514, R789). -/
namespace Sys2Proof.Machine

/-! ### Frames (R490, R789) -/

/-- 64 KiB frames of a tier on one die. -/
def tierFrames (tier : Nat) : Nat := if tier = 1 then 262144 else 1048576

/-- Lowest Mere frames of a die that the device reserves (R789). -/
def State.reserved (s : State) (tier die : Nat) : Nat :=
  if tier = 1 then 0 else (if die = 0 then 34304 else 33792) + s.regBits (Reg.MEM_DIE_RSV die) 0 21

/-- Key of frame 0 of a tier and die in the table of used frames. -/
def frameKey (tier die : Nat) : Nat := 2 ^ 24 * (die + if tier = 1 then 0 else 4)

/-- Frames in use of a tier and die, ascending. -/
def State.usedFrames (s : State) (tier die : Nat) : List Nat :=
  (s.tiers.used.filter (fun p => p.1 / 2 ^ 24 == frameKey tier die / 2 ^ 24)).map (fun p => p.1 % 2 ^ 24)

/-- Free frames of a tier and die. -/
def State.freeFrames (s : State) (tier die : Nat) : Nat := tierFrames tier - s.reserved tier die - (s.usedFrames tier die).length

/-- First run of `n` free frames at a multiple of `n`, from `base` on, given the used ones in ascending order (R789). -/
def firstRun (used : List Nat) (n base : Nat) : Nat :=
  match used with
  | [] => base
  | u :: r => if u < base then firstRun r n base else if u < base + n then firstRun r n ((u / n + 1) * n) else base

/-- Lowest free frame, or lowest free aligned run of 32, on a die (R789). -/
def State.pickFrame (s : State) (tier die : Nat) (large : Bool) : Option Nat :=
  let n := if large then 32 else 1
  let f := firstRun (s.usedFrames tier die) n (ceilDiv (s.reserved tier die) n * n)
  if f + n ≤ tierFrames tier then some f else none

/-- Frames `f` to `f + n - 1` become used. -/
def State.takeFrames (s : State) (tier die f n : Nat) : State :=
  { s with tiers := { s.tiers with used := (List.range n).foldl (fun t i => t.set (frameKey tier die + f + i) true) s.tiers.used } }

/-- Frames become free. -/
def State.giveFrames (s : State) (tier die f n : Nat) : State :=
  { s with tiers := { s.tiers with used := s.tiers.used.filter (fun p =>
      !(decide (frameKey tier die + f ≤ p.1) && decide (p.1 < frameKey tier die + f + n))) } }

/-- Frames left behind wait for R502 from this hub cycle on. -/
def State.leaveFrames (s : State) (tier die f n : Nat) : State :=
  { s with tiers := { s.tiers with old := s.tiers.old ++ [{ tier := tier, die := die, frame := f, count := n, at0 := s.time.hub }] } }

/-! ### Quotas (R508 to R510) -/

def State.quota (s : State) (t tier : Nat) : Nat :=
  if tier = 1 then s.regBits (Reg.MEM_TENANT_QUOTA t) 0 21 else s.regBits (Reg.MEM_TENANT_QUOTA t) 32 23

/-- Units charged to a tenant in a tier. -/
def State.used (s : State) (t tier : Nat) : Nat := s.tiers.charged.get 0 (2 * t + (tier - 1))

/-- Do `n` more units fit a tenant's quota? Radio and firmware areas are charged to no tenant (R508). -/
def State.fitsQuota (s : State) (t tier n : Nat) : Bool := decide (1024 ≤ t) || decide (s.used t tier + n ≤ s.quota t tier)

/-- Is a tenant at or above its pressure threshold (R510)? -/
def State.pressedAt (s : State) (t tier n : Nat) : Bool := decide (s.regBits Reg.MEM_CFG 8 4 * s.quota t tier ≤ 16 * n)

/-- Units are charged; a rise across the threshold raises quota pressure once (R499, R510). -/
def State.chargeUnits (s : State) (t tier n : Nat) : State :=
  if 1024 ≤ t ∨ n = 0 then s
  else
    let before := s.used t tier
    let s' := { s with tiers := { s.tiers with charged := s.tiers.charged.set (2 * t + (tier - 1)) (before + n) } }
    if s.pressedAt t tier (before + n) ∧ !s.pressedAt t tier before then (s'.memEvt 2).raise t 5 else s'

def State.releaseUnits (s : State) (t tier n : Nat) : State :=
  if 1024 ≤ t then s
  else { s with tiers := { s.tiers with charged := s.tiers.charged.set (2 * t + (tier - 1)) (s.used t tier - n) } }

/-! ### Entries and claims (R492, R505 to R507) -/

/-- 64 KiB pages of a page. -/
def Page.units (e : Page) : Nat := if e.large then 32 else 1

/-- Every part of a page changed by `f`, which sees the part's index. -/
def State.eachPart (s : State) (p n : Nat) (f : Nat → Page → Page) : State :=
  (List.range n).foldl (fun s i => s.setPage (p + i) (f i (s.page (p + i)))) s

def State.claimRec (s : State) (k : Nat) : Option Claim := s.tiers.claims.find k

def State.setClaim (s : State) (k : Nat) (c : Claim) : State := { s with tiers := { s.tiers with claims := s.tiers.claims.set k c } }

/-- Holders of claims in a tier. -/
def Claim.holders (c : Claim) (tier : Nat) : List Nat := if tier = 1 then c.tarn else c.mere

def Claim.loc (c : Claim) (tier : Nat) : Option (Nat × Nat) := if tier = 1 then c.tarnLoc else c.mereLoc

def Claim.setHolders (c : Claim) (tier : Nat) (l : List Nat) : Claim := if tier = 1 then { c with tarn := l } else { c with mere := l }

def Claim.setLoc (c : Claim) (tier : Nat) (l : Option (Nat × Nat)) : Claim := if tier = 1 then { c with tarnLoc := l } else { c with mereLoc := l }

/-- The entry of a shared page names its Tarn copy, or else its Mere copy (R506). -/
def State.nameCopy (s : State) (c : Claim) : State :=
  let at0 (tier : Nat) (l : Nat × Nat) : State := s.eachPart c.page 32 (fun i e => { e with tier := tier, die := l.1, frame := l.2 + i })
  match c.tarnLoc, c.mereLoc with
  | some l, _ => at0 1 l
  | none, some l => at0 2 l
  | none, none => s

/-- A copy leaves a tier when no claim there remains and no migration still reads it; a page with no claim is unmapped (R506). -/
def State.settleClaim (s : State) (k : Nat) : State :=
  match s.claimRec k with
  | none => s
  | some c =>
    if (s.page c.page).moving then s
    else
      let drop (s : State) (tier : Nat) : State :=
        match s.claimRec k with
        | none => s
        | some c =>
          match c.loc tier with
          | some l => if (c.holders tier).isEmpty then (s.setClaim k (c.setLoc tier none)).leaveFrames tier l.1 l.2 32 else s
          | none => s
      let s := drop (drop s 1) 2
      match s.claimRec k with
      | none => s
      | some c =>
        if c.tarn.isEmpty && c.mere.isEmpty then
          { s.eachPart c.page 32 (fun _ _ => {}) with tiers := { (s.eachPart c.page 32 (fun _ _ => {})).tiers with claims := s.tiers.claims.del k } }
        else s.nameCopy c

/-- A tenant's claim in a tier is dropped, with its units (R495, R507). -/
def State.dropClaim (s : State) (k t tier : Nat) : State :=
  match s.claimRec k with
  | none => s
  | some c =>
    if (c.holders tier).contains t then
      ((s.setClaim k (c.setHolders tier ((c.holders tier).filter (fun x => x != t)))).releaseUnits t tier 32).settleClaim k
    else s

/-! ### What a directive asks of a page (R495) -/

abbrev dPlace : Nat := 8
abbrev dPromote : Nat := 9
abbrev dEvict : Nat := 10
abbrev dPin : Nat := 11
abbrev dUnpin : Nat := 12

/-- Work of a directive on one page: nothing left to do, a change of the entry or claims alone, or a new frame in a tier. -/
inductive Work where
  | done
  | edit
  | frame (tier : Nat)
  deriving DecidableEq, Repr

/-- Die that a directive names for a page: 0xFF is the region's die, or the page's own for a private EVICT from Tarn (R495). -/
def Directive.dieFor (d : Directive) (e : Page) : Nat :=
  if d.die ≠ 0xFF then d.die else if d.op = dEvict ∧ d.tier = 1 ∧ !e.shared then e.die else d.region / 3

/-- What a directive asks of a page. -/
def State.workOf (s : State) (d : Directive) (e : Page) : Work :=
  if d.op = dPlace then .frame d.tier
  else if d.op = dPin then (if e.pinned then .done else .edit)
  else if d.op = dUnpin then (if e.pinned then .edit else .done)
  else if e.shared then
    match s.claimRec e.claim with
    | none => .done
    | some c =>
      if d.op = dPromote then
        (if (c.holders d.tier).contains d.tenant then .done else if (c.loc d.tier).isSome then .edit else .frame d.tier)
      else if d.tier = 1 then
        (if !c.tarn.contains d.tenant then .done
         else if c.mere.contains d.tenant ∨ c.mereLoc.isSome then .edit else .frame 2)
      else if c.mere.contains d.tenant then .edit else .done
  else if d.op = dPromote then (if e.tier = d.tier ∧ e.die = d.dieFor e then .done else .frame d.tier)
  else if d.tier = 1 then (if e.tier = 2 then .done else .frame 2)
  else .edit

/-- Units that a directive charges its tenant for a page, with the tier (R499, R507). -/
def State.unitsFor (s : State) (d : Directive) (e : Page) : Nat × Nat :=
  if e.shared then
    match s.claimRec e.claim with
    | none => (d.tier, 0)
    | some c =>
      if d.op = dPromote then (d.tier, if (c.holders d.tier).contains d.tenant then 0 else 32)
      else if d.op = dEvict ∧ d.tier = 1 then (2, if c.tarn.contains d.tenant ∧ !c.mere.contains d.tenant then 32 else 0)
      else (d.tier, 0)
  else
    match s.workOf d e with
    | .frame t => (t, if d.large then 32 else 1)
    | .done => (d.tier, 0)
    | .edit => (d.tier, 0)

/-- First failing check of orders 3 to 6 of R496 on a page, 0 when none fails. -/
def State.pageRefusal (s : State) (d : Directive) (e : Page) : Nat :=
  if d.op = dPlace then (if e.tier = 0 then 0 else 0xA3)
  else if e.tier = 0 then 0xA2
  else if !(if e.shared then s.hasClaim e.claim d.tenant else e.owner == d.tenant) then 0xA4
  else if (d.op = dPin ∨ d.op = dUnpin) ∧ e.shared then 0xA9
  else if (d.op = dPromote ∨ d.op = dEvict) ∧ !e.shared ∧ e.pinned then 0xA6
  else 0

/-! ### Migrations (R501 to R503) -/

/-- Does a migration in progress already copy a shared page into a tier (R503)? -/
def State.copying (s : State) (p tier : Nat) : Bool := s.tiers.migs.any (fun m => m.dir.page == p && m.toTier == tier)

/-- A directive acts on a page that no migration holds: the entry or claims change, or a migration is accepted with its frame on `die`
(R495, R499, R503). A new frame of a PLACE reads as zero at once (R502). -/
def State.actOn (s : State) (d : Directive) (die : Nat) : State :=
  let e := s.page d.page
  let n := if d.large then 32 else 1
  let w := s.workOf d e
  let charge := s.unitsFor d e
  match w with
  | .done => s.count Reg.MEM_NOOP_CNT 1
  | .edit =>
    if d.op = dPin then s.eachPart d.page n (fun _ e => { e with pinned := true })
    else if d.op = dUnpin then s.eachPart d.page n (fun _ e => { e with pinned := false })
    else if e.shared then
      let s := s.chargeUnits d.tenant charge.1 charge.2
      if d.op = dPromote then
        match s.claimRec e.claim with
        | none => s
        | some c => s.setClaim e.claim (c.setHolders d.tier (c.holders d.tier ++ [d.tenant]))
      else
        let s := if d.tier = 1 ∧ charge.2 ≠ 0 then
            (match s.claimRec e.claim with
             | none => s
             | some c => s.setClaim e.claim { c with mere := c.mere ++ [d.tenant] })
          else s
        s.dropClaim e.claim d.tenant d.tier
    else ((s.eachPart d.page n (fun _ _ => {})).leaveFrames e.tier e.die e.frame n).releaseUnits d.tenant e.tier n
  | .frame tier =>
    match s.pickFrame tier die d.large with
    | none => s
    | some f =>
      let s := (s.takeFrames tier die f n).chargeUnits d.tenant charge.1 charge.2
      let s := if e.shared then
          (match s.claimRec e.claim with
           | none => s
           | some c =>
             let c := c.setHolders tier (c.holders tier ++ [d.tenant])
             s.setClaim e.claim (if d.op = dEvict then { c with tarn := c.tarn.filter (fun x => x != d.tenant) } else c))
        else s
      let s := if e.shared ∧ d.op = dEvict then s.releaseUnits d.tenant 1 32 else s
      let s := if d.op = dPlace then
          { s with mem := s.mem.clear (frameAt tier die f 0) (n * 65536) }.eachPart d.page n (fun i _ =>
            { tier := tier, die := die, frame := f + i, large := d.large, moving := true, owner := d.tenant })
        else s.eachPart d.page n (fun _ e => { e with moving := true })
      { s with tiers := { s.tiers with migs := s.tiers.migs ++ [{ dir := d, started := false, line := 0, fill := d.op == dPlace,
                                                                   toTier := tier, toDie := die, toFrame := f }] } }

/-- Lowest die on which `n` frames (or runs) of a tier are free, the preferred one first (R495). -/
def State.dieWith (s : State) (tier n : Nat) (large : Bool) (pref : Nat) (fixed : Bool) : Option Nat :=
  let enough (die : Nat) : Bool :=
    (((List.range n).foldl (fun (a : Option State) _ =>
      match a with
      | none => none
      | some s => match s.pickFrame tier die large with
        | none => none
        | some f => some (s.takeFrames tier die f (if large then 32 else 1))) (some s))).isSome
  if enough pref then some pref else if fixed then none else [0, 1, 2, 3].find? enough

/-- Pages of a directive's range. -/
def dirPages (addr pages : Nat) (large : Bool) : List Nat :=
  (List.range pages).map (fun i => addr / 65536 + i * (if large then 32 else 1))

/-- A directive reaches the hub: its status, and the state after it (R496, R503). -/
def State.directive (s : State) (op addr pages tier die : Nat) (large : Bool) (tenant ctx region : Nat) : Nat × State :=
  let size := if large then 2 ^ 21 else 65536
  if 0x8000000000 < addr + pages * size then (0xA0, s)
  else
    let ps := dirPages addr pages large
    let dir (p : Nat) : Directive := { op := op, page := p, large := large, tier := tier, die := die, tenant := tenant, ctx := ctx, region := region }
    let parts (p : Nat) : List Nat := (List.range (if large then 32 else 1)).map (fun i => p + i)
    if addr % size ≠ 0 ∨ ps.any (fun p => (parts p).any (fun q => (s.page q).tier != 0 && (s.page q).large != large)) then (0xA1, s)
    else
      let codes := ps.flatMap (fun p => (parts p).map (fun q => s.pageRefusal (dir p) (s.page q)))
      match [0xA3, 0xA2, 0xA4, 0xA9, 0xA6].find? (fun c => codes.contains c) with
      | some c => (c, s)
      | none =>
        let served (p : Nat) : Bool := op == dPromote && (s.page p).shared && s.copying p tier
        let free := ps.filter (fun p => !(s.page p).moving)
        let counted := ps.filter (fun p => !(s.page p).moving || served p)
        let need (t : Nat) : Nat := (counted.map (fun p => let k := s.unitsFor (dir p) (s.page p); if k.1 = t then k.2 else 0)).foldl (· + ·) 0
        if !s.fitsQuota tenant 1 (need 1) ∨ !s.fitsQuota tenant 2 (need 2) then (0xA7, s)
        else
          let framed := free.filter (fun p => match s.workOf (dir p) (s.page p) with | .frame _ => true | .done => false | .edit => false)
          let target := if op = dEvict then 2 else tier
          -- pages grouped by the die that R495 names for each
          let dieOf (p : Nat) : Nat := (dir p).dieFor (s.page p)
          let same := framed.all (fun p => dieOf p == dieOf (framed.headD 0))
          let chosen : Option (Option Nat) :=
            if framed = [] then some none
            else if same then (s.dieWith target framed.length large (dieOf (framed.headD 0)) (die != 0xFF)).map some
            else if (List.range 4).all (fun d => (s.dieWith target (framed.filter (fun p => dieOf p == d)).length large d true).isSome) then some none
            else none
          match chosen with
          | none => (0xA8, s)
          | some c =>
            (0, ps.foldl (fun s p =>
              let d := dir p
              let e := s.page p
              if e.moving then
                (if op = dPromote ∧ e.shared ∧ s.copying p tier then
                  (match s.claimRec e.claim with
                   | none => s
                   | some k => if (k.holders tier).contains tenant then s
                     else (s.setClaim e.claim (k.setHolders tier (k.holders tier ++ [tenant]))).chargeUnits tenant tier 32)
                 else { s with tiers := { s.tiers with waiting := s.tiers.waiting ++ [d] } }.count Reg.MEM_DEFER_CNT 1)
              else s.actOn d (c.getD (d.dieFor e))) s)

/-- Memory log KIND of a deferred directive's refusal (R522). -/
def deferKind (code : Nat) : Nat :=
  if code = 0xA7 then 1 else if code = 0xA8 then 2 else if code = 0xA2 ∨ code = 0xA3 then 5 else if code = 0xA4 then 6 else 7

/-- Status with which a deferred directive fails now, 0 when it may act (R496 checks 3 to 8, R503). -/
def State.deferCode (s : State) (d : Directive) : Nat :=
  let e := s.page d.page
  let c := s.pageRefusal d e
  if c ≠ 0 then c
  else
    let k := s.unitsFor d e
    if !s.fitsQuota d.tenant k.1 k.2 then 0xA7
    else match s.workOf d e with
      | .frame t => if (s.dieWith t 1 d.large (d.dieFor e) (d.die != 0xFF)).isSome then 0 else 0xA8
      | .done => 0
      | .edit => 0

/-- The directives that wait behind a page are evaluated afresh, in arrival order, until one starts a migration (R503). -/
def State.deferGo (s : State) (page fuel : Nat) : State :=
  match fuel with
  | 0 => s
  | fuel + 1 =>
    if (s.page page).moving then s
    else
      match s.tiers.waiting.find? (fun d => d.page == page) with
      | none => s
      | some d =>
        let e := s.page page
        let s := { s with tiers := { s.tiers with waiting := s.tiers.waiting.erase d } }
        let code := s.deferCode d
        let s := if code ≠ 0 then ((s.memLog (deferKind code) d.tenant e.tier e.die e.frame page).memEvt 1).raise d.tenant 5
          else match s.workOf d e with
            | .frame t => s.actOn d ((s.dieWith t 1 d.large (d.dieFor e) (d.die != 0xFF)).getD 0)
            | .done => s.actOn d 0
            | .edit => s.actOn d 0
        s.deferGo page fuel

def State.deferEval (s : State) (page : Nat) : State := s.deferGo page (s.tiers.waiting.length + 1)

/-- 64-byte lines of a migration. -/
def Migration.lines (m : Migration) : Nat := if m.dir.large then 32768 else 1024

/-- May a migration issue a line request now: in a window that admits its issuer, before the hard-stop point (R498)? -/
def State.migAdmitted (s : State) (m : Migration) : Bool :=
  let g := m.dir.region
  let r := s.region g
  !r.gap && r.overrun.isNone && !s.pastStop g s.now &&
  (if m.dir.tenant < 1024 then r.cls == 2 && (if r.owner = 0xFFFF then s.permitted m.dir.tenant g else r.owner == m.dir.tenant)
   else r.cls == 1 && (r.owner == 0xFFFF || (match s.ctx? m.dir.ctx with | some x => r.owner == x.owner | none => false)))

/-! ### Errors of lines (R512, R513) -/

/-- Where a storage number lies: tier (0 Pool), die, frame, unit code of the part that holds it. -/
def whereIs (a : Nat) : Nat × Nat × Nat × Nat :=
  if a < 2 ^ 40 then (0, a / 2 ^ 23 / 12, a / 2 ^ 23, 0x8000 + a / 2 ^ 23)
  else if a < 2 ^ 41 then let d := (a - 2 ^ 40) / 2 ^ 34; (1, d, (a - 2 ^ 40) % 2 ^ 34 / 65536, 0xB000 + d)
  else let d := (a - 2 ^ 41) / 2 ^ 37; (2, d, (a - 2 ^ 41) % 2 ^ 37 / 65536, 0xC000 + 2 * d + (a - 2 ^ 41) % 2 ^ 37 / 2 ^ 36)

/-- Placed-range page of a frame, 0x7F_FFFF when none maps to it (R522); for Pool the 64 KiB unit. -/
def State.pageOf (s : State) (a : Nat) : Nat :=
  let w := whereIs a
  if w.1 = 0 then a % 2 ^ 23 / 65536
  else match s.tiers.pages.find? (fun p => p.2.tier == w.1 && p.2.die == w.2.1 && p.2.frame == w.2.2.1) with
    | some p => p.1
    | none => 0x7FFFFF

/-- A line with a correctable error is read: corrected, counted and charged (R512). -/
def State.fixLine (s : State) (l : Nat) : State :=
  let w := whereIs l
  let s := { s with tiers := { s.tiers with weak := s.tiers.weak.filter (fun k => k != l) } }
  let s := if w.1 = 1 then (s.count (Reg.MEM_DIE_TARN_CE w.2.1) 1).memEvt 4
    else if w.1 = 2 then (s.count (Reg.MEM_DIE_MERE_CE w.2.1) 1).memEvt 4 else s
  s.corrected w.2.2.2

/-- A line with an uncorrectable error is read: poisoned, logged and reported (R513, R658, R662, R666). -/
def State.poisonLine (s : State) (l : Nat) : State :=
  let w := whereIs l
  let s := { s with tiers := { s.tiers with bad := s.tiers.bad.filter (fun k => k != l), poison := s.tiers.poison ++ [l] } }
  let owner := if w.1 = 0 then 0x7FF else (s.page (s.pageOf l)).owner
  let s := s.memLog 3 owner w.1 w.2.1 w.2.2.1 (s.pageOf l)
  let s := if w.1 = 1 then s.count (Reg.MEM_DIE_TARN_UE w.2.1) 1 else if w.1 = 2 then s.count (Reg.MEM_DIE_MERE_UE w.2.1) 1 else s
  let s := s.memEvt 8
  let s := s.deduct w.2.2.2 (if w.1 = 0 then 300 else 100)
  s.healthLog 2 w.2.2.2 0 0 (BitVec.ofNat 64 l)

/-- Spans are read: lines with errors are corrected or poisoned; does the read meet poison, and then KIND 4 is logged (R512, R513)? -/
def State.readSpans (s : State) (l : List Span) (tenant : Nat) : Bool × State :=
  let s := (s.tiers.weak.filter (fun k => l.any (fun q => Span.hits q k))).foldl (fun s k => s.fixLine k) s
  let s := (s.tiers.bad.filter (fun k => l.any (fun q => Span.hits q k))).foldl (fun s k => s.poisonLine k) s
  match s.tiers.poison.find? (fun p => l.any (fun q => Span.hits q p)) with
  | none => (false, s)
  | some p =>
    let w := whereIs p
    (true, (s.memLog 4 tenant w.1 w.2.1 w.2.2.1 (s.pageOf p)).memEvt 0x10)

end Sys2Proof.Machine
end

