-- ==== Sys2Proof/Machine/CtxOps.lean ====
section
/-! DEFINITION. Contexts: placement, slots and Pool footprints, swaps, activation blocks, ends (R130 to R144, R286, R289, R482, R787, R788). -/
namespace Sys2Proof.Machine

/-! ### Slots and Pool (R132, R135, R138, R482) -/

/-- Contexts in slots of a cluster, one excepted. -/
def State.residents (s : State) (c : Nat) (but : Option Nat) : List Ctx :=
  (s.sched.ctxs.filter (fun p => p.2.cluster == c && p.2.resident && some p.1 != but)).map (·.2)

/-- Lowest slot of a cluster for a context of a kind that no resident occupies (R132, R135). -/
def State.freeSlot (s : State) (c : Nat) (radio : Bool) (but : Option Nat) : Option Nat :=
  let used := (s.residents c but).map (·.slot)
  ([0, 1, 2, 3].filter (fun i => decide (i < s.radioSlots c) == radio)).find? (fun i => !used.contains i)

/-- Inserted by base. -/
def insertRun (l : List (Nat × Nat)) (x : Nat × Nat) : List (Nat × Nat) :=
  match l with
  | [] => [x]
  | y :: r => if x.1 < y.1 then x :: y :: r else y :: insertRun r x

/-- Lowest offset, from `base` on, with `n` units free between runs in ascending order. -/
def poolHole (runs : List (Nat × Nat)) (n base : Nat) : Nat :=
  match runs with
  | [] => base
  | (b, l) :: r => if base + n ≤ b then base else poolHole r n (max base (b + l))

/-- Lowest free run of a cluster's Pool for a footprint, one context excepted (R135, R482). -/
def State.poolFit (s : State) (c n : Nat) (but : Option Nat) : Option Nat :=
  let runs := ((s.residents c but).filter (fun x => !x.radio)).foldl (fun l x => insertRun l (x.poolBase, x.footprint)) []
  let b := poolHole runs n 0
  if b + n ≤ s.inferPool c then some b else none

/-- Units of a cluster's Pool free for inference (`CLU_POOL_FREE`). -/
def State.poolFree (s : State) (c : Nat) : Nat :=
  s.inferPool c - ((s.residents c none).filter (fun x => !x.radio)).foldl (fun n x => n + x.footprint) 0

/-- Does a cluster keep a unit in service of each kind that a context requires (R29, R135)? -/
def State.unitsOk (s : State) (c need : Nat) : Bool :=
  [(0, 1), (1, 3), (2, 2), (3, 5)].all (fun k => !need.testBit k.1 || (List.range (classSize k.2)).any (fun i => s.unitIn (classUnit k.2 c i)))

/-- Is a cluster free for a context, one other excepted (R135)? -/
def State.freeFor (s : State) (x : Ctx) (c : Nat) (but : Option Nat) : Bool :=
  s.permitted x.owner (c / 4) && (match x.pin with | some p => p == c | none => true) &&
  (match x.only with | some g => g == c / 4 | none => true) && !s.clusterOut c &&
  (s.freeSlot c false but).isSome && (s.poolFit c x.footprint but).isSome && s.unitsOk c x.need

/-- Resident inference contexts of a tenant, one excepted. -/
def State.tenantRes (s : State) (t : Nat) (but : Option Nat) : Nat :=
  (s.sched.ctxs.filter (fun p => !p.2.radio && p.2.owner == t && p.2.resident && some p.1 != but)).length

def State.maxRes (s : State) (t : Nat) : Nat := s.regBits (Reg.CLU_TENANT t) 12 8
def State.maxSwap (s : State) (t : Nat) : Nat := s.regBits (Reg.CLU_TENANT t) 20 13

/-- Swapped contexts of the package, and of a tenant. -/
def State.swappedCount (s : State) : Nat := (s.sched.ctxs.filter (fun p => !p.2.resident)).length
def State.tenantSwap (s : State) (t : Nat) : Nat := (s.sched.ctxs.filter (fun p => p.2.owner == t && !p.2.radio && !p.2.resident)).length

/-- Lowest context ID in use by none (R131). -/
def State.newCtxId (s : State) : Nat := firstRun (s.sched.ctxs.map (·.1)) 1 1

/-- Units of a save area: record, footprint, and 128 KiB for activation blocks (R137, R508). -/
def saveUnits (footprint : Nat) : Nat := footprint + 3

/-- A context as it is created: empty (R131, R137). -/
def newCtx (id : Nat) (radio : Bool) (owner : Nat) : Ctx :=
  { id := id, radio := radio, owner := owner, cell := 0, cluster := 0, slot := 0, st := .swappedBlocked, footprint := 0, poolBase := 0,
    pin := none, only := none, need := 0, blockedSince := 0, readySince := 0, queue := [], hq := [], saved0 := none, saved1 := none, cut := [],
    ending := false, paused := false, pausing := false, placed := false, radioWork := false, shard := none, gen := 0 }

/-- A context takes a slot and a run of Pool on a cluster; a footprint placed for the first time reads as zero (R137). -/
def State.seat (s : State) (x : Ctx) (c : Nat) (but : Option Nat) (st : CtxState) : State :=
  let base := (s.poolFit c x.footprint but).getD 0
  let slot := (s.freeSlot c false but).getD 0
  let s := s.setCtx { x with cluster := c, slot := slot, poolBase := base, st := st, blockedSince := s.now, placed := true }
  if x.placed then s else { s with mem := s.mem.clear (poolAt c (base * 65536)) (x.footprint * 65536) }

/-- An inference context is created, or refused (R136, R137): status, context ID, state. -/
def State.createCtx (s : State) (t footprint : Nat) (pin only : Option Nat) (need : Nat) (shard : Option Nat) : Nat × Nat × State :=
  let refuse (code : Nat) : Nat × Nat × State := (code, 0, s.count Reg.CLU_REFUSE_CNT 1)
  let units := saveUnits footprint
  if (match pin with | some c => !s.permitted t (c / 4) | none => false) then refuse 0x32
  else if !s.fitsQuota t 2 units then refuse 0x33
  else
    let id := s.newCtxId
    let x : Ctx := { newCtx id false t with footprint := footprint, pin := pin, only := only, need := need, shard := shard, gen := (s.fn t).gen }
    let start (s : State) : State :=
      let s := s.chargeUnits t 2 units
      { s with mem := s.mem.clear (saveAt id 0) (2 ^ 24) }
    match (if s.tenantRes t none < s.maxRes t then (List.range 48).find? (fun c => s.freeFor x c none) else none) with
    | some c => (0, id, ((start s).seat x c none .blocked).refresh id)
    | none =>
      if s.swappedCount < 4096 ∧ s.tenantSwap t < s.maxSwap t then (0, id, ((start s).setCtx x).refresh id)
      else refuse (if pin.isSome then 0x30 else 0x31)

/-! ### Activation blocks (R130, R787) -/

def State.array (s : State) (a : Nat) : Ibex := s.mat.arrays.get {} a

def State.setArray (s : State) (a : Nat) (x : Ibex) : State := { s with mat := { s.mat with arrays := s.mat.arrays.set a x } }

def Ctx.savedOf (x : Ctx) (a : Nat) : Option BlkFmt := if a % 2 = 0 then x.saved0 else x.saved1

def Ctx.setSaved (x : Ctx) (a : Nat) (b : Option BlkFmt) : Ctx := if a % 2 = 0 then { x with saved0 := b } else { x with saved1 := b }

/-- Storage of array `a`'s block in a context's save area. -/
def savedAt (id a : Nat) : Nat := saveAt id (2 ^ 23 + a % 2 * 2 ^ 17)

/-- Cells and exponents of an array copied. -/
def copyBlock (m : Mem) (src dst : Nat) : Mem := m.copy src dst 0x10100

/-- The block of array `a` is written to the save area of the context that it is tagged to (R143, R787). -/
def State.saveBlock (s : State) (a : Nat) : State :=
  let i := s.array a
  match i.tag with
  | none => s
  | some t =>
    let s := s.updCtx t (fun x => x.setSaved a (some i.fmt))
    { s with mem := copyBlock s.mem (cellAt a 0 0) (savedAt t a) }.setArray a { i with tag := none }

/-- A context's saved block is reloaded into array `a` (R143, R787). -/
def State.reloadBlock (s : State) (id a : Nat) : State :=
  match s.ctx? id with
  | none => s
  | some x =>
    match x.savedOf a with
    | none => s
    | some f =>
      let s := s.setCtx (x.setSaved a none)
      { s with mem := copyBlock s.mem (savedAt id a) (cellAt a 0 0) }.setArray a { s.array a with fmt := f, tag := some id }

/-- Does an array hold a block tagged to a resident inference context other than `id` (R787)? -/
def State.heldByOther (s : State) (a id : Nat) : Bool :=
  match (s.array a).tag with
  | none => false
  | some t => t != id && (match s.ctx? t with | some y => y.resident | none => false)

/-- Before a context's list on an array: another resident's block is saved, its own reloaded (R787). -/
def State.bringBlock (s : State) (id a : Nat) : State :=
  match s.ctx? id with
  | none => s
  | some x =>
    if x.radio ∨ (s.array a).tag = some id ∨ (x.savedOf a).isNone then s
    else (if s.heldByOther a id then s.saveBlock a else s).reloadBlock id a

/-- Storage of an array's spill area in its cluster's Pool (R130, R482); exponents beside it. -/
def State.spillPool (s : State) (a : Nat) : Nat := poolAt (a / 2) (s.inferPool (a / 2) * 65536 + a % 2 * 65536)

/-- At an IBX radio opening every array of a region writes its block to its spill area (R130). -/
def State.spillRegion (s : State) (g : Nat) : State :=
  let s := (List.range 8).foldl (fun s i =>
    let a := 8 * g + i
    let k := s.array a
    let m := (s.mem.copy (cellAt a 0 0) (s.spillPool a) 0x10000).copy (cellExpAt a 0) (spillAt a 0) 0x100
    { s with mem := m }.setArray a { k with spillFmt := k.fmt, spillTag := k.tag, tag := none }) s
  s.setRegion g { s.region g with spilled := true }

/-- At the next inference opening each array reloads its spilled block (R130, R178). -/
def State.restoreRegion (s : State) (g : Nat) : State :=
  let s := (List.range 8).foldl (fun s i =>
    let a := 8 * g + i
    let k := s.array a
    let m := (s.mem.copy (s.spillPool a) (cellAt a 0 0) 0x10000).copy (spillAt a 0) (cellExpAt a 0) 0x100
    { s with mem := m }.setArray a { k with fmt := k.spillFmt, tag := k.spillTag, spillTag := none }) s
  s.setRegion g { s.region g with spilled := false }

/-! ### Swaps (R139 to R143) -/

def State.cluster (s : State) (c : Nat) : Cluster := s.sched.clusters.get {} c

def State.setCluster (s : State) (c : Nat) (x : Cluster) : State :=
  { s with sched := { s.sched with clusters := s.sched.clusters.set c x } }

/-- The swapped context that a cluster would take, as it would stand without `but` (R139, R140). -/
def State.chooseIn (s : State) (c : Nat) (but : Option Nat) : Option Nat :=
  let l := (s.sched.ctxs.filter (fun p => p.2.st == .swappedReady && !p.2.paused && s.freeFor p.2 c but &&
    decide (s.tenantRes p.2.owner but < s.maxRes p.2.owner) &&
    !s.sched.clusters.any (fun k => (match k.2.deferred with | some w => w.inn == some p.1 | none => false) ||
      (match k.2.swap with | some w => w.inn == some p.1 | none => false)))).map (·.2)
  (leastBy l (·.readySince)).map (·.id)

/-- Does an inference context hold a radio deadline (R141)? -/
def Ctx.deadline (x : Ctx) : Bool := x.queue.any (fun l => l.deadline)

/-- A resident context at a list boundary that must leave its slot: paused, or on a cluster out of service (R636, R675). -/
def State.mustLeave (s : State) (c : Nat) : Option Nat :=
  ((s.residents c none).find? (fun x => !x.radio && s.unitsOf x.id == [] && (x.pausing || s.clusterOut c) && x.st != .swapOut && x.st != .swapIn)).map (·.id)

/-- Bytes that a swap moves out of and into a cluster, and whether blocks are reloaded (R143). -/
def State.swapBytes (s : State) (w : Swap) (c : Nat) : Nat × Nat × Bool :=
  let tagged (id : Nat) : Nat := ([2 * c, 2 * c + 1].filter (fun a => (s.array a).tag == some id)).length
  let out := match w.out with
    | none => 0
    | some id => match s.ctx? id with | none => 0 | some x => 256 + x.footprint * 65536 + 65536 * tagged id
  let saved (x : Ctx) : Nat := x.saved0.isSome.toNat + x.saved1.isSome.toNat
  match w.inn with
  | none => (out, 0, false)
  | some id => match s.ctx? id with
    | none => (out, 0, false)
    | some x => (out, 256 + x.footprint * 65536 + 65536 * saved x, decide (0 < saved x))

/-- Worst-case duration of a swap, whole Tc rounded up; none when a share that it needs is 0 (R142, R143, R11). -/
def State.swapTc (s : State) (w : Swap) (c : Nat) : Option Nat :=
  let b := s.swapBytes w c
  let g := c / 4
  if (b.1 ≠ 0 ∧ s.share g 1 = 0) ∨ (b.2.1 ≠ 0 ∧ s.share g 0 = 0) then none
  else
    let part (n share : Nat) : Val := if n = 0 then ⟨0, 1⟩ else ⟨n * 196608, share * 100⟩
    let cyc := 16 + (if b.2.2 then 256 else 0)
    let n := s.nDie (c / 12)
    let cv : Val := if s.regBits Reg.HUB_IDENT 40 2 = 0 then ⟨cyc * 12288 * 32, 10000 * n⟩ else ⟨cyc * 196608 * 32, 130000 * n⟩
    let t := ((part b.1 (s.share g 1)).add (part b.2.1 (s.share g 0))).add cv
    some (ceilDiv t.num.toNat t.den)

/-- May a swap start now: in an inference window, ending at or before the guard band (R142)? -/
def State.swapFits (s : State) (w : Swap) (c : Nat) : Bool :=
  let g := c / 4
  let r := s.region g
  !r.gap && r.cls == 2 && r.overrun.isNone &&
  (match s.swapTc w c, s.nextClose g s.now with
   | none, _ => false
   | some _, none => true
   | some d, some close => decide (s.now + d + s.regBits (Reg.CYC_GUARD g) 0 18 ≤ close))

/-- A swap that waits is flagged at its first refusal, and again when the host has cleared the flag (R142). -/
def State.deferSwap (s : State) (c : Nat) (w : Swap) : State :=
  let g := c / 4
  let s' := s.setCluster c { s.cluster c with deferred := some { w with flagged := true } }
  if !w.flagged ∨ s.regBits (Reg.CYC_EVT g) 4 1 = 0 then s'.cycEvt g 0x10 else s'

/-- Poisoned lines of a run copied with it (R143). -/
def State.movePoison (s : State) (src dst n : Nat) : State :=
  let moved := (s.tiers.poison.filter (fun p => decide (src ≤ p) && decide (p < src + n))).map (fun p => p - src + dst)
  { s with tiers := { s.tiers with poison := s.tiers.poison.filter (fun p => !(decide (dst ≤ p) && decide (p < dst + n))) ++ moved } }

/-- A pause has completed when no shard of the same instance still waits for its own (R636, R639). -/
def State.pauseSeen (s : State) (x : Ctx) : State :=
  if s.sched.ctxs.any (fun (p : Nat × Ctx) => p.2.pausing && x.shard.isSome && p.2.owner == x.owner && p.2.shard == x.shard) then s
  else (s.setReg Reg.RPL_PAUSE 2).rplEvt 0x20

/-- A context's footprint is written to its save area, its blocks with it, and its slot frees (R143). -/
def State.swapOut (s : State) (id : Nat) : State :=
  match s.ctx? id with
  | none => s
  | some x =>
    let n := x.footprint * 65536
    let src := poolAt x.cluster (x.poolBase * 65536)
    let s := { s with mem := s.mem.copy src (saveAt id 0) n }.movePoison src (saveAt id 0) n
    let s := [2 * x.cluster, 2 * x.cluster + 1].foldl (fun s a => if (s.array a).tag = some id then s.saveBlock a else s) s
    let s := s.updCtx id (fun x => { x with st := .swappedBlocked, paused := x.paused || x.pausing, pausing := false })
    (if x.pausing then s.pauseSeen x else s).refresh id

/-- A context's footprint is read into the run of Pool reserved for it, and the saved blocks that R787 admits are reloaded (R143). -/
def State.swapIn (s : State) (id : Nat) : State :=
  match s.ctx? id with
  | none => s
  | some x =>
    let n := x.footprint * 65536
    let dst := poolAt x.cluster (x.poolBase * 65536)
    let s := { s with mem := s.mem.copy (saveAt id 0) dst n }.movePoison (saveAt id 0) dst n
    let s := s.updCtx id (fun x => { x with st := .blocked, blockedSince := s.now })
    let s := [2 * x.cluster, 2 * x.cluster + 1].foldl (fun s a => if s.heldByOther a id then s else s.reloadBlock id a) s
    (s.count (Reg.CLU_SWAPIN_CNT x.cluster) 1).refresh id

/-! ### Ends (R788, R612, R137) -/

/-- A context ends: its handles go, its slot and save area free, its transfer records go (R565, R788). -/
def State.dropCtx (s : State) (id : Nat) : State :=
  match s.ctx? id with
  | none => s
  | some x =>
    let s := x.queue.foldl (fun s l => s.listRecord l 0x65 0 0) s
    let s := if x.radio then s else s.releaseUnits x.owner 2 (saveUnits x.footprint)
    let s := (List.range 96).foldl (fun s a =>
      if (s.array a).tag = some id ∨ (s.array a).spillTag = some id then
        s.setArray a { s.array a with tag := if (s.array a).tag = some id then none else (s.array a).tag,
                                      spillTag := if (s.array a).spillTag = some id then none else (s.array a).spillTag }
      else s) s
    { s with sched := { s.sched with ctxs := s.sched.ctxs.del id }, fab := { s.fab with recs := s.fab.recs.filter (fun r => r.ctx != id) } }

/-- May a context that is ending end now: no list of it runs or is armed, and no swap carries it (R144, R282)? -/
def State.mayEnd (s : State) (x : Ctx) : Bool :=
  x.ending && s.unitsOf x.id == [] && !s.sched.armed.any (fun l => l.ctx == x.id) && x.st != .swapOut && x.st != .swapIn

end Sys2Proof.Machine
end

