-- ==== Sys2Proof/Machine/Operands.lean ====
section
/-! DEFINITION. The operands of engine commands: the primary input that BIND replaces, checked reads, and destinations (R259, R261, R263 to R265,
R284, R513). -/
namespace Sys2Proof.Machine

/-- A Pool offset as an address reference of SPACE 1 (R264). -/
def poolRef (o : Nat) : Nat := 2 ^ 60 + o

/-- Handle that replaces the primary input under BIND (R259). -/
def bound (r : Running) (c : Cmd) : Option Handle := if cBind c then r.taken else none

/-- Primary input that is a Pool offset in bytes `i` to `i + 3` (R265). -/
def primary (r : Running) (c : Cmd) (i : Nat) : Nat :=
  match bound r c with
  | some h => h.base
  | none => cmdField c i 4

/-- Primary input that is an address reference in bytes `i` to `i + 7` (R265). -/
def primaryRef (r : Running) (c : Cmd) (i : Nat) : Nat :=
  match bound r c with
  | some h => poolRef h.base
  | none => cmdField c i 8

/-- Length of the primary input (R259, R265). -/
def primaryLen (r : Running) (c : Cmd) (i n : Nat) : Nat :=
  match bound r c with
  | some h => h.len
  | none => cmdField c i n

/-- First status that refuses one of several reads by reference, 0 when all pass (R263, R264, R494). -/
def State.readChk (s : State) (x : Ctx) (l : List (Nat × Nat)) : Nat :=
  l.foldl (fun code p => if code ≠ 0 ∨ p.2 = 0 then code else s.refChk x p.1 p.2 false) 0

/-- Spans of several reads by reference. -/
def State.readSp (s : State) (x : Ctx) (l : List (Nat × Nat)) : List Span :=
  l.foldr (fun p r => (if p.2 = 0 then [] else s.refSpans x p.1 p.2) ++ r) []

/-- Several reads by reference: the status that ends the command, MEM_POISON among them, and what was read (R513). -/
def State.fetch (s : State) (x : Ctx) (l : List (Nat × Nat)) : Nat × List Byte × State :=
  if s.readChk x l ≠ 0 then (s.readChk x l, [], s)
  else
    let sp := s.readSp x l
    let rd := s.readSpans sp x.asOwner
    (if rd.1 then 0xAA else 0, rd.2.rdSpans sp, l.foldl (fun t p => if p.2 = 0 then t else t.chargeRef x p.1 p.2 false) rd.2)

/-- Bytes in Pool of a context, checks made before (R263). -/
def State.peek (s : State) (x : Ctx) (o n : Nat) : List Byte := s.mem.rdBytes (s.poolAddr x o) n

/-- Status that refuses a destination by reference: in SPACE 1 it lies in the destination context (R261, R263, R494). -/
def State.dstChk (s : State) (x : Ctx) (c : Cmd) (r n : Nat) : Nat :=
  if r / 2 ^ 60 = 1 then s.outChk x c (r % 2 ^ 32) n else s.placedChk (some x.asOwner) (r % 2 ^ 48) n true

/-- Must a command hold before its first store to a destination by reference (R261)? -/
def State.dstHeld (s : State) (x : Ctx) (c : Cmd) (r : Nat) : Bool := decide (r / 2 ^ 60 = 1) && s.outHeld x c

/-- Bytes stored at a destination by reference, checks made before (R261, R263, R294). -/
def State.dstStore (s : State) (x : Ctx) (c : Cmd) (r : Nat) (b : List Byte) : State :=
  if r / 2 ^ 60 = 1 then s.outStore x c (r % 2 ^ 32) b
  else (s.chargePlaced x (r % 2 ^ 48) b.length true).wrSpans (s.placedSpans (r % 2 ^ 48) b.length) b

/-- Cycles of a unit of a context: `j` is the counter of its kind (R616). -/
def State.work (s : State) (x : Ctx) (j n : Nat) : State := s.acct x.account j n

end Sys2Proof.Machine
end

