-- ==== Sys2Proof/Machine/Chamois.lean ====
section
/-! DEFINITION. Chamois signal cores: transfers, runs, bundles and control instructions (R343 to R380). -/
namespace Sys2Proof.Machine

def State.core (s : State) (k : Nat) : Chm := s.chm.get {} k

def State.setCore (s : State) (k : Nat) (c : Chm) : State := { s with chm := s.chm.set k c }

/-! ### Faults (R357, R363, R374, R375, R380, R659) -/

/-- A fault is shown and ends the list (R357, R375, R380). -/
def State.chmFault (s : State) (k code pc ofs mem : Nat) : State :=
  let s := s.setReg (Reg.CHM_FAULT k) (packFields [(4, code - 0x7F), (13, pc), (17, ofs), (2, mem)])
  (s.setCore k { s.core k with run := none, act := 0 }).failList (uChm k) code

/-- An uncorrectable line of a core's memories among `n` bytes at `a`. -/
def State.chmBad (s : State) (a n : Nat) : Option Nat := s.tiers.bad.find? (fun l => Span.hits (a, n) l)

/-- A core read an uncorrectable word: the list ends, and its memories are cleared before the next list (R658, R659, R662, R666). -/
def State.chmUe (s : State) (k line : Nat) : State :=
  let s := { s with tiers := { s.tiers with bad := s.tiers.bad.filter (fun l => l != line) } }
  let s := s.setCore k { s.core k with run := none, act := 0, owner := none }
  ((s.deduct (uChm k) 300).healthLog 0x0E (uChm k) 0 0 (BitVec.ofNat 64 line)).failList (uChm k) 0xD3

/-! ### Transfers (R351, R352, R372, R373) -/

/-- A transfer into a memory of core `k`: `sel` 0 X, 1 Y, 2 instruction memory. -/
def State.chmFill (s : State) (k : Nat) (r : Running) (x : Ctx) (c : Cmd) (sel ofs n : Nat) : State :=
  let src := primaryRef r c 16
  if s.chmLimit k sel x.radio < ofs + n then s.failList (uChm k) 0x80
  else
    let f := s.fetch x [(src, n)]
    if f.1 ≠ 0 then f.2.2.failList (uChm k) f.1
    else
      let t := { f.2.2 with mem := f.2.2.mem.wrBytes (chmAt k sel ofs) f.2.1 }
      ((t.count64 (Reg.CHM_XFER_CYC k) (ceilDiv n 64)).work x 2 (ceilDiv n 64)).finishCmd (uChm k)
        (outHandle x c r.list.id (src % 2 ^ 32) n false false)

/-- CIMEM (R372): a program into instruction memory; LEN under BIND must be a multiple of 8. -/
def execCimem (k : Nat) (s : State) : Res :=
  if 192 ≤ k then .fault .noSuchPart
  else
    match s.cur (uChm k) 0x60 with
    | none => .next s
    | some (r, c, x) =>
      let n := primaryLen r c 24 4
      if n % 8 ≠ 0 then .next (s.failList (uChm k) 0x60) else .next (s.chmFill k r x c 2 (8 * cmdField c 28 2) n)

/-- CFILL (R372): data into X or Y. -/
def execCfill (k : Nat) (s : State) : Res :=
  if 192 ≤ k then .fault .noSuchPart
  else
    match s.cur (uChm k) 0x61 with
    | none => .next s
    | some (r, c, x) =>
      let n := primaryLen r c 24 4
      let d := cmdField c 28 4
      if n % 4 ≠ 0 then .next (s.failList (uChm k) 0x60) else .next (s.chmFill k r x c (d / 2 ^ 17 % 2) (d % 2 ^ 17) n)

/-- CDRAIN (R372): data out of X or Y. -/
def execCdrain (k : Nat) (s : State) : Res :=
  if 192 ≤ k then .fault .noSuchPart
  else
    match s.cur (uChm k) 0x62 with
    | none => .next s
    | some (r, c, x) =>
      let u := uChm k
      let a := cmdField c 16 4
      let sel := a / 2 ^ 17 % 2
      let ofs := a % 2 ^ 17
      let n := cmdField c 20 4
      let dst := cmdField c 24 8
      if s.chmLimit k sel x.radio < ofs + n then .next (s.failList u 0x80)
      else if s.dstChk x c dst n ≠ 0 then .next (s.failList u (s.dstChk x c dst n))
      else if s.dstHeld x c dst then .next s
      else
        match s.chmBad (chmAt k sel ofs) n with
        | some line => .next (s.chmUe k line)
        | none =>
          let t := s.dstStore x c dst (s.mem.rdBytes (chmAt k sel ofs) n)
          .next (((t.count64 (Reg.CHM_XFER_CYC k) (ceilDiv n 64)).work x 2 (ceilDiv n 64)).finishCmd u
            (outHandle x c r.list.id (dst % 2 ^ 32) n false false))

/-! ### Lanes (R344 to R348, R360, R369, R370) -/

def re (w : Word) : Int := signed 16 (w.toNat % 65536)
def im (w : Word) : Int := signed 16 (w.toNat / 65536)
def mkElem (a b : Int) : Word := BitVec.ofNat 32 (unsigned 16 a + unsigned 16 b * 65536)
def sat16 (x : Int) : Int := clampInt (-32768) 32767 x

def Chm.vreg (c : Chm) (n : Nat) : List Word := c.v.get (List.replicate 16 0) n
def Chm.areg (c : Chm) (n : Nat) : List (BitVec 40) := c.a.get (List.replicate 16 0) n

/-- Lane by lane. -/
def lanes2 (f : Word → Word → Word) (a b : List Word) : List Word := (a.zip b).map (fun p => f p.1 p.2)

/-- Real and imaginary parts of a product, the second conjugated or not (R346). -/
def cprod (conj : Bool) (a b : Word) : Int × Int :=
  let ib := if conj then -(im b) else im b
  (re a * re b - im a * ib, re a * ib + im a * re b)

/-- An accumulator that becomes an exact value: it wraps modulo 2^40, and a value out of range is counted (R348). -/
def accPut (x : Int) : BitVec 40 × Bool := (BitVec.ofInt 40 x, decide (x < -(2 ^ 39 : Nat)) || decide ((2 ^ 39 : Nat) ≤ x))

def accInt (a : BitVec 40) : Int := signed 40 a.toNat

/-- Pair `p` becomes, lane by lane, `keep` times its value plus the given parts (R346 to R348). Answers the lanes that wrapped. -/
def Chm.accum (c : Chm) (p : Nat) (keep : Int) (parts : List (Int × Int)) : Chm × Nat :=
  let re' := ((c.areg (2 * p)).zip parts).map (fun q => accPut (keep * accInt q.1 + q.2.1))
  let im' := ((c.areg (2 * p + 1)).zip parts).map (fun q => accPut (keep * accInt q.1 + q.2.2))
  let n := ((re' ++ im').filter (·.2)).length
  ({ c with a := (c.a.set (2 * p) (re'.map (·.1))).set (2 * p + 1) (im'.map (·.1)), aovf := c.aovf || decide (0 < n) }, n)

/-- One accumulator rounded and saturated to a half (R369, R370). -/
def roundHalf (run : CRun) (sh : Nat) (a : BitVec 40) (l h : Nat) : Int × Bool :=
  let rnd : Rnd := if run.stoch then .stoch (mixU run.seed (run.tag * 2 ^ 32 + run.rounds % 2 ^ 27 * 2 ^ 5 + l * 2 + h)) else .conv
  let v := roundGrid rnd ⟨accInt a, 2 ^ sh⟩ 0
  (sat16 v, sat16 v != v)

/-- A pair rounded to complex elements, with the halves that saturated. -/
def Chm.roundPair (c : Chm) (run : CRun) (p : Nat) : List Word × Nat :=
  let l := (List.range 16).map (fun i =>
    let a := roundHalf run c.sh.toNat ((c.areg (2 * p)).getD i 0) i 0
    let b := roundHalf run c.sh.toNat ((c.areg (2 * p + 1)).getD i 0) i 1
    (mkElem a.1 b.1, a.2.toNat + b.2.toNat))
  (l.map (·.1), l.foldl (fun n p => n + p.2) 0)

/-- Reversal of the low `b` bits. -/
def revBits (b n : Nat) : Nat :=
  match b with
  | 0 => 0
  | b + 1 => n % 2 * 2 ^ b + revBits b (n / 2)

/-! ### Address generators (R354 to R357) -/

/-- Is a generator's mode and length legal (R357)? -/
def Agen.ok (g : Agen) : Bool :=
  match g.mode.toNat with
  | 0 => true
  | 1 => g.len.toNat % 4 == 0 && decide (4 ≤ g.len.toNat ∧ g.len.toNat ≤ 131072)
  | 2 => decide (64 ≤ g.len.toNat ∧ g.len.toNat ≤ 131072) && g.len.toNat == 2 ^ g.len.toNat.log2
  | _ => false

def Agen.bank (g : Agen) : Nat := g.base.toNat / 2 ^ 17
def Agen.off (g : Agen) : Nat := g.base.toNat % 2 ^ 17

/-- Byte offset of lane `l` of an access with elements of `size` bytes (R355, R359). -/
def Agen.addr (g : Agen) (size l : Nat) : Nat :=
  match g.mode.toNat with
  | 1 => g.off + (g.index.toNat + size * l) % g.len.toNat
  | 2 => g.off + 64 * revBits (g.len.toNat / 64).log2 (g.index.toNat / 64) + size * l
  | _ => g.off + g.index.toNat + size * l

/-- A generator after its update (R356). -/
def Agen.next (g : Agen) : Agen :=
  let i : Int := (g.index.toNat : Int) + signed 18 g.step.toNat
  { g with index := BitVec.ofInt 17 (if g.mode = 0 then i else i % (g.len.toNat : Int)) }

/-! ### Bundles (R358 to R360) -/

/-- A bundle's fields (R359). -/
structure Bundle where
  aop : Nat
  va : Nat
  vb : Nat
  d : Nat
  xen : Bool
  xv : Nat
  xp : Nat
  xu : Nat
  yen : Bool
  yv : Nat
  yp : Nat
  yu : Nat
  sk : Nat
  sb : Nat
  ss : Nat
  sp : Nat
  su : Bool
  /-- Every reserved bit zero. -/
  clean : Bool

def bundleOf (w : DWord) : Bundle :=
  let aop := bits w 57 6
  { aop := aop, va := bits w 53 4, vb := bits w 49 4, d := bits w 45 4, xen := bit w 44, xv := bits w 40 4, xp := bits w 37 3, xu := bits w 35 2,
    yen := bit w 34, yv := bits w 30 4, yp := bits w 27 3, yu := bits w 25 2, sk := bits w 23 2, sb := bits w 22 1, ss := bits w 18 4,
    sp := bits w 15 3, su := bit w 13,
    clean := bits w 0 13 == 0 && !bit w 14 && (aop == 0 || decide (9 ≤ aop) || bits w 47 2 == 0) }

/-- Active memory slots: generator, bank, lanes, bytes of a lane, update. -/
def Bundle.slots (b : Bundle) : List (Nat × Nat × Nat × Nat × Bool) :=
  (if b.xen then [(b.xp, 0, if 2 ≤ b.xu then 1 else 16, 4, b.xu % 2 == 1)] else []) ++
  (if b.yen then [(b.yp, 1, if 2 ≤ b.yu then 1 else 16, 4, b.yu % 2 == 1)] else []) ++
  (if b.sk = 0 then [] else [(b.sp, b.sb, 16, if b.sk = 3 then 2 else 4, b.su)])

/-- Is a bundle an illegal word (R347, R356, R358, R359)? -/
def Bundle.illegal (b : Bundle) : Bool :=
  let gens := b.slots.map (·.1)
  !b.clean || decide (0x10 ≤ b.aop) || !decide gens.Nodup || ((b.aop == 6 || b.aop == 7) && b.d % 2 == 1)

/-- V registers and pairs that a bundle reads, and the pair that its arithmetic needs settled (R365). -/
def Bundle.readsV (b : Bundle) : List Nat :=
  (if [1, 2, 3, 4, 5, 6, 7, 0xA, 0xB, 0xE].contains b.aop then [b.va, b.vb] else if [0xC, 0xD, 0xF].contains b.aop then [b.va] else []) ++
  (if b.sk = 1 then [b.ss] else [])

def Bundle.readsA (b : Bundle) : List Nat :=
  (if b.aop = 9 then [b.va % 4] else []) ++ (if b.sk = 2 then [b.ss % 4] else if b.sk = 3 then [b.ss % 8 / 2] else [])

/-- V registers that a bundle writes, with the cycles from issue to the write (R364). -/
def Bundle.writesV (b : Bundle) : List (Nat × Nat) :=
  (if b.aop = 9 then [(b.d, 2)] else if 0xA ≤ b.aop then [(b.d, 1)] else []) ++ (if b.xen then [(b.xv, 2)] else []) ++ (if b.yen then [(b.yv, 2)] else [])

/-- Pairs that a bundle's arithmetic writes. -/
def Bundle.writesA (b : Bundle) : List Nat :=
  if b.aop = 0 ∨ 9 ≤ b.aop then [] else if b.aop = 6 ∨ b.aop = 7 then [b.d % 4, b.d % 4 + 1] else [b.d % 4]

/-- Earliest cycle at which a bundle issues (R365, R367, R368). -/
def Bundle.issueAt (b : Bundle) (r : CRun) : Nat :=
  let t := b.readsV.foldl (fun t n => max t (r.vRead.get 0 n)) r.cyc
  let t := b.readsA.foldl (fun t n => max t (r.aRead.get 0 n)) t
  let t := b.writesV.foldl (fun t p => max t (r.vLand.get 0 p.1 + 1 - p.2)) t
  if (b.xen && r.wrote.get 0 0 == t + 1 && r.wrote.get 0 0 != 0) || (b.yen && r.wrote.get 0 1 == t + 1 && r.wrote.get 0 1 != 0) then t + 1 else t

/-! ### The run of a core -/

/-- The core's run in progress and the word at its PC. -/
def State.chmRun (s : State) (k : Nat) : Option (Running × Ctx × CRun × DWord) :=
  match s.curBusy (uChm k) 0x63, (s.core k).run with
  | some (r, _, x), some run => some (r, x, run, BitVec.ofNat 64 (s.mem.rdNat (chmAt k 2 (8 * (s.core k).pc.toNat)) 8))
  | _, _ => none

/-- Is the PC beyond the memory or its limit (R352, R363)? -/
def State.pcBad (s : State) (k : Nat) (x : Ctx) : Bool := (s.core k).pcOver || decide (s.chmLimit k 2 x.radio ≤ 8 * (s.core k).pc.toNat)

/-- PC `n`, or one past the memory. -/
def Chm.goto (c : Chm) (n : Nat) : Chm := { c with pc := BitVec.ofNat 13 n, pcOver := decide (8192 ≤ n) }

/-- First fault of a bundle's accesses: status, offset, bank (R355, R357, R359). -/
def State.bundleFault (s : State) (k : Nat) (x : Ctx) (b : Bundle) : Option (Nat × Nat × Nat) :=
  if b.illegal then some (0x82, 0, 0)
  else
    b.slots.foldl (fun (f : Option (Nat × Nat × Nat)) q =>
      match f with
      | some v => some v
      | none =>
        let g := (s.core k).p.get {} q.1
        if g.bank ≠ q.2.1 ∨ !g.ok then some (0x82, 0, q.2.1)
        else
          match (List.range q.2.2.1).find? (fun l => decide (s.chmLimit k q.2.1 x.radio < g.addr q.2.2.2.1 l + q.2.2.2.1)) with
          | some l => some (0x80, g.addr q.2.2.2.1 l, q.2.1)
          | none => none) none

/-- Lanes that a load brings: a vector, or lane 0 in all (R355). -/
def State.chmLoad (s : State) (k : Nat) (g : Agen) (bank : Nat) (broadcast : Bool) : List Word :=
  (List.range 16).map (fun l => BitVec.ofNat 32 (s.mem.rdNat (chmAt k bank (g.addr 4 (if broadcast then 0 else l))) 4))

/-- What the arithmetic slot does to the registers: the core, accumulators that wrapped, halves that saturated (R346, R347, R360, R369). -/
def Chm.arith (c : Chm) (run : CRun) (b : Bundle) : Chm × Nat × Nat :=
  let va := c.vreg b.va
  let vb := c.vreg b.vb
  let zip (f : Word → Word → Int × Int) : List (Int × Int) := (va.zip vb).map (fun p => f p.1 p.2)
  let p := b.d % 4
  let acc (keep : Int) (l : List (Int × Int)) : Chm × Nat × Nat := let r := c.accum p keep l; (r.1, r.2, 0)
  let two (keep : Int) : Chm × Nat × Nat :=
    let r := c.accum p keep (zip (fun a b => (re a * re b, re a * im b)))
    let q := r.1.accum (p + 1) keep (zip (fun a b => (im a * re b, im a * im b)))
    (q.1, r.2 + q.2, 0)
  let put (l : List Word) : Chm × Nat × Nat := ({ c with v := c.v.set b.d l }, 0, 0)
  match b.aop with
  | 0x01 => acc 1 (zip (cprod false))
  | 0x02 => acc 1 (zip (cprod true))
  | 0x03 => acc 1 (zip (fun a b => (-(cprod false a b).1, -(cprod false a b).2)))
  | 0x04 => acc 0 (zip (cprod false))
  | 0x05 => acc 0 (zip (cprod true))
  | 0x06 => two 1
  | 0x07 => two 0
  | 0x08 => acc 0 (zip (fun _ _ => (0, 0)))
  | 0x09 => let r := c.roundPair run (b.va % 4); ({ c with v := c.v.set b.d r.1 }, 0, r.2)
  | 0x0A => put (lanes2 (fun a b => mkElem (sat16 (re a + re b)) (sat16 (im a + im b))) va vb)
  | 0x0B => put (lanes2 (fun a b => mkElem (sat16 (re a - re b)) (sat16 (im a - im b))) va vb)
  | 0x0C => put (va.map (fun a => mkElem (re a) (sat16 (-(im a)))))
  | 0x0D => put va
  | 0x0E => put (va.drop 1 ++ [vb.headD 0])
  | 0x0F => put ((List.range 16).map (fun l => va.getD (revBits 4 l) 0))
  | _ => (c, 0, 0)

/-- Bytes that the store slot writes, from operands as they stand at issue (R366, R369): halves that saturated among them. -/
def Chm.storeBytes (c : Chm) (run : CRun) (b : Bundle) : List (List Byte) × Nat :=
  match b.sk with
  | 1 => ((c.vreg b.ss).map (fun w => leBytes 4 w.toNat), 0)
  | 2 => let r := c.roundPair run (b.ss % 4); (r.1.map (fun w => leBytes 4 w.toNat), r.2)
  | 3 =>
    let l := (List.range 16).map (fun i => roundHalf run c.sh.toNat ((c.areg (b.ss % 8)).getD i 0) i 0)
    (l.map (fun p => leBytes 2 (unsigned 16 p.1)), (l.filter (·.2)).length)
  | _ => ([], 0)

/-- The bundle after which the innermost loop repeats or pops (R362). -/
def Chm.loopEnd (c : Chm) : Chm :=
  match c.loops with
  | [] => c.goto (c.pc.toNat + 1)
  | l :: r =>
    if l.stop ≠ c.pc.toNat then c.goto (c.pc.toNat + 1)
    else if 1 < l.count then ({ c with loops := { l with count := l.count - 1 } :: r }).goto l.start
    else ({ c with loops := r }).goto (c.pc.toNat + 1)

/-- Scoreboard after a bundle issues at `t`. -/
def CRun.after (r : CRun) (b : Bundle) (t : Nat) : CRun :=
  let landed := b.writesV.foldl (fun (m : Tab Nat × Tab Nat) p => (m.1.set p.1 (t + p.2 + 1), m.2.set p.1 (t + p.2))) (r.vRead, r.vLand)
  { r with cyc := t + 1, vRead := landed.1, vLand := landed.2, aRead := b.writesA.foldl (fun m p => m.set p (t + 3)) r.aRead,
           wrote := if b.sk = 0 then r.wrote else r.wrote.set b.sb (t + 2), lastStore := if b.sk = 0 then r.lastStore else t + 2,
           rounds := if b.aop = 9 ∨ 2 ≤ b.sk then r.rounds + 1 else r.rounds }

/-- Cycles of a core spent on an instruction that issues at `t`: held ones are stalls (R365, R616). -/
def State.chmCycles (s : State) (k : Nat) (x : Ctx) (run : CRun) (t lost : Nat) : State :=
  let n := t - run.cyc
  let s := (s.count64 (Reg.CHM_STALL_CYC k) n).count64 (Reg.CHM_BUSY_CYC k) (n + 1 + lost)
  (s.setReg (Reg.CHM_PC k) (s.core k).pc.toNat).work x 2 (n + 1 + lost)

/-- A bundle issues at `t` (R359 to R370). -/
def State.doBundle (s : State) (k : Nat) (x : Ctx) (run : CRun) (b : Bundle) (t : Nat) : State :=
  let c := s.core k
  let xl := s.chmLoad k (c.p.get {} b.xp) 0 (decide (2 ≤ b.xu))
  let yl := s.chmLoad k (c.p.get {} b.yp) 1 (decide (2 ≤ b.yu))
  let st := c.storeBytes run b
  let r := c.arith run b
  let c1 := r.1
  let c1 := if b.xen then { c1 with v := c1.v.set b.xv xl } else c1
  let c1 := if b.yen then { c1 with v := c1.v.set b.yv yl } else c1
  -- two writes of one cycle to one register leave it open
  let late := (b.writesV.filter (fun p => p.2 == 2)).map (·.1)
  let clash := late.filter (fun n => decide (1 < (late.filter (fun m => m == n)).length))
  let c1 := clash.foldl (fun (c : Chm) n => { c with v := c.v.set n ((List.range 16).map (fun l => Config.chmClash (16 * s.drawn + l))) }) c1
  let g := c.p.get {} b.sp
  let size := if b.sk = 3 then 2 else 4
  let m := if b.sk = 0 then s.mem
    else ((List.range 16).zip st.1).foldl (fun m p => Mem.wrBytes m (chmAt k b.sb (g.addr size p.1)) p.2) s.mem
  let c1 := b.slots.foldl (fun (c : Chm) q => if q.2.2.2.2 then { c with p := c.p.set q.1 (c.p.get {} q.1).next } else c) c1
  let s := s.chmCycles k x run t 0
  let s := { s with mem := m, drawn := if clash = [] then s.drawn else s.drawn + 1 }
  let s := if 1 ≤ b.aop ∧ b.aop ≤ 7 then s.count64 (Reg.CHM_MAC_CNT k) 1 else s
  let s := (s.count (Reg.CHM_AOVF_CNT k) r.2.1).count (Reg.CHM_SAT_CNT k) (r.2.2 + st.2)
  s.setCore k { c1.loopEnd with run := some (run.after b t) }

/-- May an instruction that issues at `t` do so within LIMIT (R374)? -/
def CRun.within (r : CRun) (t : Nat) : Bool := r.limit == 0 || decide (t < r.limit)

/-- Lines of X, Y and instruction memory that a bundle reads. -/
def State.bundleBad (s : State) (k : Nat) (b : Bundle) : Option Nat :=
  let c := s.core k
  let spans : List Span := [(chmAt k 2 (8 * c.pc.toNat), 8)] ++
    (if b.xen then (List.range (if 2 ≤ b.xu then 1 else 16)).map (fun l => (chmAt k 0 ((c.p.get {} b.xp).addr 4 l), 4)) else []) ++
    (if b.yen then (List.range (if 2 ≤ b.yu then 1 else 16)).map (fun l => (chmAt k 1 ((c.p.get {} b.yp).addr 4 l), 4)) else [])
  s.tiers.bad.find? (fun l => spans.any (fun p => Span.hits p l))

/-- The next bundle of a core's run issues, when its AOP is `aop`: it takes effect, or it faults; at its LIMIT the run issues nothing (R375). -/
def State.bundle (s : State) (k aop : Nat) : Res :=
  if 192 ≤ k then .fault .noSuchPart
  else
    match s.chmRun k with
    | none => .next s
    | some (_, x, run, w) =>
      let b := bundleOf w
      if bit w 63 || b.aop != aop || s.pcBad k x then .next s
      else
        let t := b.issueAt run
        if !run.within (t - 1) then .next s
        else
          match s.bundleFault k x b with
          | some f => .next (s.chmFault k f.1 (s.core k).pc.toNat f.2.1 f.2.2)
          | none =>
            if !run.within t then .next s
            else
              match s.bundleBad k b with
              | some line => .next (s.chmUe k line)
              | none => .next (s.doBundle k x run b t)

/-- AOP_NOP: only the load and store slots act (R360). -/
def execAopNop (k : Nat) (s : State) : Res := s.bundle k 0x00
/-- CMAC: pair D += VA × VB (R360). -/
def execCmac (k : Nat) (s : State) : Res := s.bundle k 0x01
/-- CMACJ: pair D += VA × conj(VB) (R360). -/
def execCmacj (k : Nat) (s : State) : Res := s.bundle k 0x02
/-- CMSU: pair D −= VA × VB (R360). -/
def execCmsu (k : Nat) (s : State) : Res := s.bundle k 0x03
/-- CMUL: pair D = VA × VB (R360). -/
def execCmul (k : Nat) (s : State) : Res := s.bundle k 0x04
/-- CMULJ: pair D = VA × conj(VB) (R360). -/
def execCmulj (k : Nat) (s : State) : Res := s.bundle k 0x05
/-- RCMAC: pairs D and D + 1 += the real×complex products (R347, R360). -/
def execRcmac (k : Nat) (s : State) : Res := s.bundle k 0x06
/-- RCMUL: pairs D and D + 1 = the real×complex products (R347, R360). -/
def execRcmul (k : Nat) (s : State) : Res := s.bundle k 0x07
/-- AZERO: pair D = 0 (R360). -/
def execAzero (k : Nat) (s : State) : Res := s.bundle k 0x08
/-- ARND: VD = a pair rounded and saturated (R360, R369). -/
def execArnd (k : Nat) (s : State) : Res := s.bundle k 0x09
/-- VADD: VD = VA + VB, saturated (R360). -/
def execVadd (k : Nat) (s : State) : Res := s.bundle k 0x0A
/-- VSUB: VD = VA − VB, saturated (R360). -/
def execVsub (k : Nat) (s : State) : Res := s.bundle k 0x0B
/-- VCONJ: VD = conj(VA) (R360). -/
def execVconj (k : Nat) (s : State) : Res := s.bundle k 0x0C
/-- VMOV: VD = VA (R360). -/
def execVmov (k : Nat) (s : State) : Res := s.bundle k 0x0D
/-- VROT: lanes of VA rotated, lane 15 from VB (R360). -/
def execVrot (k : Nat) (s : State) : Res := s.bundle k 0x0E
/-- VBREV: lanes of VA in bit-reversed order (R360). -/
def execVbrev (k : Nat) (s : State) : Res := s.bundle k 0x0F

/-! ### Control instructions (R361 to R363) -/

/-- Is a control word illegal: reserved bits, unlisted codes, a control instruction at an active END (R358, R361, R362)? -/
def ctlIllegal (c : Chm) (w : DWord) : Bool :=
  c.loops.any (fun l => l.stop == c.pc.toNat) ||
  match bits w 58 5 with
  | 0 => bits w 0 58 != 0
  | 1 => bits w 20 25 != 0 || decide (bits w 45 13 ≤ c.pc.toNat) || decide (4 ≤ c.loops.length)
  | 2 => bits w 0 45 != 0
  | 3 => bits w 0 42 != 0
  | 4 => bits w 32 16 != 0 || decide (5 ≤ bits w 52 3)
  | 5 => bits w 32 23 != 0
  | 6 => bits w 32 23 != 0
  | 7 => bits w 5 53 != 0 || decide (24 < bits w 0 5)
  | _ => true

/-- A taken branch: levels whose body does not hold the target pop, with every level inside them (R363). -/
def Chm.branch (c : Chm) (n : Nat) : Chm :=
  ({ c with loops := (c.loops.reverse.takeWhile (fun (l : LoopLevel) => decide (l.start ≤ n) && decide (n ≤ l.stop))).reverse }).goto n

/-- The next control instruction of a core's run issues, when its COP is `cop`: `f` gives the core after it and the cycles that it loses. -/
def State.control (s : State) (k cop : Nat) (f : Chm → DWord → Chm × Nat) : Res :=
  if 192 ≤ k then .fault .noSuchPart
  else
    match s.chmRun k with
    | none => .next s
    | some (_, x, run, w) =>
      let c := s.core k
      if !bit w 63 || bits w 58 5 != cop || s.pcBad k x || !run.within (run.cyc - 1) then .next s
      else if ctlIllegal c w then .next (s.chmFault k 0x82 c.pc.toNat 0 0)
      else if !run.within run.cyc then .next s
      else
        match s.chmBad (chmAt k 2 (8 * c.pc.toNat)) 8 with
        | some line => .next (s.chmUe k line)
        | none =>
          let r := f c w
          .next ((s.chmCycles k x run run.cyc r.2).setCore k { r.1 with run := some { run with cyc := run.cyc + 1 + r.2 } })

/-- The next word in order. -/
def Chm.step (c : Chm) : Chm := c.goto (c.pc.toNat + 1)

def Chm.sreg (c : Chm) (n : Nat) : Word := c.s.get 0 n

/-- HALT (R361, R374, R375): the run ends well, a limit of the same cycle notwithstanding. -/
def execHalt (k : Nat) (s : State) : Res :=
  if 192 ≤ k then .fault .noSuchPart
  else
    match s.chmRun k with
    | none => .next s
    | some (_, x, run, w) =>
      let c := s.core k
      if !bit w 63 || bits w 58 5 != 0 || s.pcBad k x || !run.within (run.cyc - 1) then .next s
      else if ctlIllegal c w then .next (s.chmFault k 0x82 c.pc.toNat 0 0)
      else .next (((s.chmCycles k x run run.cyc 0).setCore k { c with run := none, act := 0 }).finishCmd (uChm k) [])

/-- LOOP (R362): pushes a level over PC + 1 to END; a count of 0 skips to END + 1. -/
def execLoop (k : Nat) (s : State) : Res :=
  s.control k 1 (fun c w =>
    let n := if bit w 16 then (c.sreg (bits w 17 3)).toNat else bits w 0 16
    let stop := bits w 45 13
    if n = 0 then (c.goto (stop + 1), 0)
    else (({ c with loops := { start := c.pc.toNat + 1, stop := stop, count := n } :: c.loops }).step, 0))

/-- BR (R363). -/
def execBr (k : Nat) (s : State) : Res := s.control k 2 (fun c w => (c.branch (bits w 45 13), 2))

/-- BNZ (R363): taken when S is not zero. -/
def execBnz (k : Nat) (s : State) : Res :=
  s.control k 3 (fun c w => if c.sreg (bits w 42 3) = 0 then (c.step, 0) else (c.branch (bits w 45 13), 2))

/-- SETP (R361): a field of a generator, truncated to its width. -/
def execSetp (k : Nat) (s : State) : Res :=
  s.control k 4 (fun c w =>
    let v := if bit w 51 then (c.sreg (bits w 48 3)).toNat else bits w 0 32
    let g := c.p.get {} (bits w 55 3)
    let g := match bits w 52 3 with
      | 0 => { g with base := BitVec.ofNat 18 v }
      | 1 => { g with index := BitVec.ofNat 17 v }
      | 2 => { g with step := BitVec.ofNat 18 v }
      | 3 => { g with len := BitVec.ofNat 18 v }
      | _ => { g with mode := BitVec.ofNat 2 v }
    (({ c with p := c.p.set (bits w 55 3) g }).step, 0))

/-- SETS (R361). -/
def execSets (k : Nat) (s : State) : Res :=
  s.control k 5 (fun c w => (({ c with s := c.s.set (bits w 55 3) (BitVec.ofNat 32 (bits w 0 32)) }).step, 0))

/-- ADDS (R361): modulo 2^32. -/
def execAdds (k : Nat) (s : State) : Res :=
  s.control k 6 (fun c w => (({ c with s := c.s.set (bits w 55 3) (c.sreg (bits w 55 3) + BitVec.ofNat 32 (bits w 0 32)) }).step, 0))

/-- SETSH (R361). -/
def execSetsh (k : Nat) (s : State) : Res := s.control k 7 (fun c w => (({ c with sh := BitVec.ofNat 5 (bits w 0 5) }).step, 0))

/-! ### CRUN and its limit (R372, R374, R375) -/

/-- CRUN (R352, R358, R363, R372, R374): a run starts at ENTRY; in progress, a PC beyond its limit or a word with an unlisted code ends it. -/
def execCrun (k : Nat) (s : State) : Res :=
  if 192 ≤ k then .fault .noSuchPart
  else
    let u := uChm k
    match s.chmRun k with
    | some (_, x, run, w) =>
      let c := s.core k
      if !run.within (run.cyc - 1) then .next s
      else if s.pcBad k x then .next (s.chmFault k 0x81 c.pc.toNat 0 2)
      else if (bit w 63 && decide (8 ≤ bits w 58 5)) || (!bit w 63 && decide (0x10 ≤ bits w 57 6)) then .next (s.chmFault k 0x82 c.pc.toNat 0 0)
      else .next s
    | none =>
      match s.cur u 0x63 with
      | none => .next s
      | some (r, c, x) =>
        let core := s.core k
        let regs : Tab Word := [(0, BitVec.ofNat 32 (cmdField c 36 4)), (1, BitVec.ofNat 32 (cmdField c 40 4)), (2, BitVec.ofNat 32 (cmdField c 44 4)),
          (3, BitVec.ofNat 32 (cmdField c 48 4)), (4, BitVec.ofNat 32 (cmdField c 52 4)), (5, BitVec.ofNat 32 (cmdField c 56 4)),
          (6, BitVec.ofNat 32 (cmdField c 60 4)), (7, 0)]
        let run : CRun := { stoch := bit c (8 * 18), seed := BitVec.ofNat 64 (cmdField c 24 8), tag := cmdField c 32 4, limit := cmdField c 20 4 }
        let core := ({ core with s := regs, run := some run, act := 4 }).goto (cmdField c 16 2)
        let t := (s.setCore k core).setRun u (some { r with stage := .busy })
        if 8192 ≤ cmdField c 16 2 ∨ s.chmLimit k 2 x.radio ≤ 8 * cmdField c 16 2 then .next (t.chmFault k 0x81 (cmdField c 16 2 % 8192) 0 2)
        else .next t

/-- Earliest issue of the word at a core's PC. -/
def wordIssueAt (run : CRun) (w : DWord) : Nat := if bit w 63 then run.cyc else (bundleOf w).issueAt run

/-- CHM_LIMIT (R374, R375): the next word would issue at the LIMIT or after it; a HALT or a fault of that very cycle prevails. -/
def execChmLimit (k : Nat) (s : State) : Res :=
  if 192 ≤ k then .fault .noSuchPart
  else
    match s.chmRun k with
    | none => .next s
    | some (_, x, run, w) =>
      let t := wordIssueAt run w
      let c := s.core k
      let prevails := t == run.limit && (s.pcBad k x || (if bit w 63 then bits w 58 5 == 0 || ctlIllegal c w else (s.bundleFault k x (bundleOf w)).isSome))
      if run.limit = 0 ∨ t < run.limit ∨ prevails = true then .next s
      else
        let s := (s.count64 (Reg.CHM_BUSY_CYC k) (run.limit - run.cyc)).work x 2 (run.limit - run.cyc)
        .next (s.chmFault k 0x83 c.pc.toNat 0 0)

end Sys2Proof.Machine
end

