-- ==== Sys2Proof/Machine/FabIn.lean ====
section
/-! DEFINITION. Inbound requests of the fabric: their headers, the RATC, the checks of R544, what they do at their target, atomics and the reply
cache (R530, R531, R541 to R550, R557 to R559). -/
namespace Sys2Proof.Machine

/-! ### Headers (R531) -/

/-- Bytes of a run, runs and signed stride of a tile request. -/
def Txn.runLen (t : Txn) : Nat := bits t.opfield 0 16
def Txn.runCount (t : Txn) : Nat := bits t.opfield 16 16
def Txn.stride (t : Txn) : Int := signed 32 (bits t.opfield 32 32)

/-- Length of the span that a HANDLE names (R284, R563). -/
def Txn.handleLen (t : Txn) : Nat := byteField t.data 4 4

/-- Does a request's header meet R531, with the data that its OP carries (R530)? -/
def Txn.reqOk (t : Txn) : Bool :=
  decide (t.flags < 16) && (t.op == 3 || t.flags % 2 == 0) && (t.op == 6 || !t.flags.testBit 3) && t.status == 0 && decide (t.tag < 2 ^ 18) &&
  decide (t.offset < 2 ^ 40) && decide (t.job < 2 ^ 20) && (t.op == 3 || t.op == 6 || t.aux == 0) && (t.op == 4 || t.op == 6 || t.dctx == 0) &&
  (t.op == 3 || t.op == 4 || t.op == 5 || t.opfield == 0) &&
  (match t.op with
   | 1 => decide (1 ≤ t.len ∧ t.len ≤ 256) && t.data.isEmpty
   | 2 => decide (1 ≤ t.len ∧ t.len ≤ 256) && t.data.length == t.len
   | 3 => t.len == 32 && t.data.length == 32 && decide (t.aux < 64) && decide (t.aux % 16 < 10)
   | 4 => decide (1 ≤ t.len ∧ t.len ≤ 4096) && t.data.length == t.len && t.runLen * t.runCount == t.len
   | 5 => decide (1 ≤ t.len ∧ t.len ≤ 4096) && t.data.isEmpty && t.runLen * t.runCount == t.len
   | 6 => t.len == 32 && t.data.length == 32 && decide (t.aux < 8)
   | 7 => t.len == 16 && t.data.length == 16
   | _ => false)

/-- Runs of bytes that a request names, as offsets. -/
def Txn.runs (t : Txn) : List (Int × Nat) :=
  match t.op with
  | 3 => [(t.offset, if t.aux.testBit 4 then 8 else 4)]
  | 4 => (List.range t.runCount).map (fun (k : Nat) => ((t.offset : Int) + (k : Int) * t.stride, t.runLen))
  | 5 => (List.range t.runCount).map (fun (k : Nat) => ((t.offset : Int) + (k : Int) * t.stride, t.runLen))
  | 6 => [(t.offset, t.handleLen)]
  | _ => [(t.offset, t.len)]

/-- Lowest offset of a request's span, and one past its highest. -/
def Txn.span (t : Txn) : Int × Int :=
  t.runs.foldl (fun (a : Int × Int) r => (if r.1 < a.1 then r.1 else a.1, if a.2 < r.1 + r.2 then r.1 + r.2 else a.2)) (t.offset, t.offset)

/-! ### The RATC (R541, R542) -/

def Ratc.valid (e : Ratc) : Bool := bit e.w0 0
def Ratc.cls (e : Ratc) : Nat := bits e.w0 1 1
def Ratc.job (e : Ratc) : Nat := bits e.w0 2 20
def Ratc.granule (e : Ratc) : Nat := bits e.w0 22 19
def Ratc.pool (e : Ratc) : Bool := bit e.w0 44
def Ratc.tgran (e : Ratc) : Nat := bits e.w1 0 18
def Ratc.ctx (e : Ratc) : Nat := bits e.w1 18 16
def Ratc.owner (e : Ratc) : Nat := bits e.w1 34 11
def Ratc.dctxOk (e : Ratc) : Bool := bit e.w1 45

/-- Set of a key (R542). -/
def ratcSet (job cls granule : Nat) : Nat :=
  let h := Nat.xor (Nat.xor granule (2 * job)) (cls * 2 ^ 13)
  Nat.xor h (h / 2 ^ 14) % 2 ^ 14

/-- Index of the valid entry with a key. -/
def State.ratcAt (s : State) (job cls granule : Nat) : Option Nat :=
  ((List.range 8).map (fun w => 8 * ratcSet job cls granule + w)).find? (fun i =>
    match s.fab.ratc.find i with
    | none => false
    | some e => e.valid && e.job == job && e.cls == cls && e.granule == granule)

/-- Entry that a request's granule hits. -/
def State.ratcHit (s : State) (t : Txn) (g : Nat) : Option Ratc :=
  (s.ratcAt t.job (t.flags / 2 % 2) g).bind (fun i => s.fab.ratc.find i)

/-- Granules of a request's span; none when the span leaves the 40-bit offsets. -/
def Txn.granules (t : Txn) : Option (List Nat) :=
  let p := t.span
  if p.1 < 0 ∨ (2 ^ 40 : Int) < p.2 ∨ p.2 ≤ p.1 then none
  else
    let a := p.1.toNat / 2 ^ 21
    some ((List.range ((p.2.toNat - 1) / 2 ^ 21 - a + 1)).map (fun i => a + i))

/-- Entries under a request's span, when check 4 of R544 passes: every granule hits, and they agree. -/
def State.ratcEntries (s : State) (t : Txn) : Option (List Ratc) :=
  match t.granules with
  | none => none
  | some gs =>
    let es := gs.filterMap (fun g => s.ratcHit t g)
    match es with
    | [] => none
    | e :: _ =>
      if es.length = gs.length ∧ es.zipIdx.all (fun p => p.1.pool == e.pool && p.1.ctx == e.ctx && p.1.owner == e.owner && p.1.tgran == e.tgran + p.2) then some es
      else none

/-- Does an entry admit the sender (R544 check 5)? -/
def Ratc.nodeOk (e : Ratc) (t : Txn) : Bool := bits e.w0 58 4 == t.src / 4096 && (bit e.w0 45 || bits e.w0 46 12 == t.src % 4096)

/-- Does an entry allow the transaction (R544 check 6)? -/
def Ratc.permOk (e : Ratc) (t : Txn) : Bool :=
  match t.op with
  | 1 => bit e.w0 41
  | 5 => bit e.w0 41
  | 3 => bit e.w0 43
  | _ => bit e.w0 42

/-- Target of a byte at node-offset `o` of a request: device address or Pool offset (R545). -/
def Ratc.target (e : Ratc) (t : Txn) (o : Int) : Nat :=
  (if e.pool then e.tgran % 4 else e.tgran) * 2 ^ 21 + (o - t.span.1.toNat / 2 ^ 21 * 2 ^ 21).toNat

/-- Spans of storage under a request. -/
def State.inSpans (s : State) (e : Ratc) (t : Txn) : List Span :=
  t.runs.flatMap (fun r =>
    if e.pool then (match s.ctx? e.ctx with | none => [] | some x => [(s.poolAddr x (e.target t r.1), r.2)])
    else s.placedSpans (e.target t r.1) r.2)

/-- Checks 5 to 8 of R544 on the entries of a request's span: 0, or the status of the ERROR; with the first entry. -/
def State.entryChk (s : State) (t : Txn) (es : List Ratc) : Nat × Option Ratc :=
  match es with
  | [] => (0xB9, none)
  | e :: _ =>
    if !es.all (fun k => k.nodeOk t) then (0xBA, none)
    else if !es.all (fun k => k.permOk t) then (0xBB, none)
    else if t.op = 6 ∧ !e.pool then (0xBC, none)
    else if e.pool then
      match s.ctx? e.ctx with
      | none => (0xBC, none)
      | some x =>
        if s.poolLen x < e.target t t.span.2 then (0x63, none)
        else if t.op = 6 ∧ t.dctx ≠ 0xFFFF ∧ !(t.dctx = e.ctx ∧ e.dctxOk) then (0xBC, none)
        else (0, some e)
    else
      let store := t.op != 1 && t.op != 5
      let code := t.runs.foldl (fun c r => if c ≠ 0 then c else s.placedChk (some e.owner) (e.target t r.1) r.2 store) 0
      (code, if code = 0 then some e else none)

/-- Checks 4 to 8 of R544: 0, or the status of the ERROR; with the entry that the request hits. -/
def State.inChk (s : State) (t : Txn) : Nat × Option Ratc :=
  match s.ratcEntries t with
  | none => (0xB9, none)
  | some es => s.entryChk t es

/-! ### Application (R545 to R550) -/

/-- Account of a RATC owner (R550, R615): a tenant's, or the device account. -/
def ownerAcct (o : Nat) : Nat := if o < 1024 then o else 1536

/-- The operation of an atomic on `w` bytes of memory (R557). -/
def atomicOp (op w m a b : Nat) : Nat :=
  let n := 2 ^ (8 * w)
  let a := a % n
  let b := b % n
  let sgn (v : Nat) : Int := signed (8 * w) v
  match op with
  | 0 => (m + a) % n
  | 1 => Nat.land m a
  | 2 => Nat.lor m a
  | 3 => Nat.xor m a
  | 4 => if sgn a < sgn m then a else m
  | 5 => if sgn m < sgn a then a else m
  | 6 => min m a
  | 7 => max m a
  | 8 => a
  | _ => if m = a then b else m

/-- Empty periods that a steward has counted for the ward at a node-offset (R685). -/
def State.stewardCount (s : State) (ofs : Nat) : Option Nat :=
  if s.regBits Reg.HLT_DOMAIN 48 1 = 0 then none else (s.health.peers.find? (fun p => Config.stewardOfs p.node % 2 ^ 40 == ofs)).map (·.miss)

/-- A request that passed every check is applied at its target: response, status, data, state (R536, R545 to R549). -/
def State.applyReq (s : State) (e : Ratc) (t : Txn) : Nat × Nat × List Byte × State :=
  let sp := s.inSpans e t
  let n := sp.foldl (fun k p => k + p.2) 0
  let s := if t.op = 6 then s else s.acct (ownerAcct e.owner) 13 n
  match t.op with
  | 2 => (0x82, 0, [], s.wrSpans sp t.data)
  | 4 => (0x82, 0, [], s.wrSpans sp t.data)
  | 3 =>
    let rd := s.readSpans sp e.owner
    if rd.1 then (0x85, 0xAA, [], rd.2)
    else
      let s := rd.2
      let w := if t.aux.testBit 4 then 8 else 4
      let m := (if e.owner = 0x401 then s.stewardCount t.offset else none).getD (leNat (s.rdSpans sp))
      let v := atomicOp (t.aux % 16) w m (byteField t.data 0 8) (byteField t.data 8 8)
      (if t.aux.testBit 5 then 0x83 else 0x82, 0, if t.aux.testBit 5 then leBytes 8 m else [], s.wrSpans sp (leBytes w v))
  | 6 =>
    match s.ctx? e.ctx with
    | none => (0x85, 0xBC, [], s)
    | some x =>
      let q := t.aux % 8
      let h : Handle := { base := e.target t t.offset, len := t.handleLen, partialMark := t.flags.testBit 3, ahead := (byteField t.data 8 1).testBit 1,
                          visSet := (byteField t.data 8 1).testBit 2, owner := e.ctx, list := BitVec.ofNat 64 (byteField t.data 16 8),
                          vis := BitVec.ofNat 64 (byteField t.data 24 8), visible := false }
      (0x82, 0, [], s.setCtx (x.setHqueue q (x.hqueue q ++ [h])))
  | _ =>
    let rd := s.readSpans sp e.owner
    if rd.1 then (0x85, 0xAA, [], rd.2) else (0x81, 0, rd.2.rdSpans sp, rd.2)

/-- Must a request wait in the inbound queue: its context is being swapped, or the handle queue it names is full (R288, R545)? -/
def State.inWaits (s : State) (e : Ratc) (t : Txn) : Bool :=
  e.pool && (match s.ctx? e.ctx with
    | none => false
    | some x => x.st == .swapOut || x.st == .swapIn || (t.op == 6 && decide (32 ≤ (x.hqueue (t.aux % 8)).length)))

/-- A failed check of R544, orders 4 to 8, is counted and flagged (R578, R581). -/
def State.ratcFault (s : State) : State := (s.count Reg.FAB_RATC_FAULT 1).fabEvt 0x20

/-- A NACK with the delay of `FAB_NACK_DELAY` (R546). -/
def State.nack (s : State) (p : Nat) (t : Txn) (ev : Nat) : State :=
  let r : Txn := { op := 0x84, flags := Nat.land t.flags 4, dest := t.src, src := t.dest, job := t.job, tag := t.tag, offset := t.offset,
                   opfield := BitVec.ofNat 64 (s.regBits Reg.FAB_NACK_DELAY 0 16) }
  ((s.count Reg.FAB_NACK_TX 1).fabEvt ev).sendOn (s.respQueue p) p r

/-- An accepted request is looked up and applied, or waits; its response leaves, and an atomic's is cached (R544, R545, R558, R559). -/
def State.serveReq (s : State) (p seq : Nat) (t : Txn) (es : List Ratc) : State :=
  let s := { s with rpl := { s.rpl with inSeq := seq } }
  let r := s.entryChk t es
  let answer (s : State) (op code : Nat) (data : List Byte) : State :=
    let s := if op = 0x85 then s.ratcFault else s
    let s := if t.op ≠ 3 then s
      else { s with fab := { s.fab with replies := s.fab.replies ++ [{ id := t.opfield, resp := { op := op, status := code, data := data }, at0 := s.now }] } }
    s.respond p t op code data
  match r.2 with
  | none => answer s 0x85 r.1 []
  | some e =>
    if s.inWaits e t then { s with fab := { s.fab with inq := s.fab.inq ++ [{ plane := p, seq := seq, txn := t, entries := es }] } }
    else
      match s.applyReq e t with
      | (op, code, data, s) => answer s op code data

/-- Requests of the inbound queue that need wait no longer are applied, in acceptance order, through the entries that they matched (R543,
R545). -/
def State.drainIn (s : State) : State :=
  s.fab.inq.foldl (fun s (q : InReq) =>
    if (match (s.entryChk q.txn q.entries).2 with | some e => s.inWaits e q.txn | none => false) then s
    else { s with fab := { s.fab with inq := s.fab.inq.erase q } }.serveReq q.plane q.seq q.txn q.entries) s

/-- The first reply cached under an atomic's ID. -/
def State.replyOf (s : State) (id : DWord) : Option Reply := s.fab.replies.find? (fun r => r.id == id)

/-- Accepted atomics that wait for their target hold no reply yet; a second copy waits behind them (R559). -/
def State.atomicWaits (s : State) (id : DWord) : Bool := s.fab.inq.any (fun q => q.txn.op == 3 && q.txn.opfield == id)

/-- A request arrives, through checks 1 to 3 of R544: `reply` cached, expired, refused, or accepted and logged (R544, R546, R558, R641). -/
def State.inbound (s : State) (p : Nat) (t : Txn) : State :=
  if t.dest ≠ s.self ∨ !t.reqOk then ((s.count Reg.FAB_ROUTE_CNT 1).fabEvt 0x40).respond p t 0x85 0xB8 []
  else if 8192 ≤ s.fab.inq.length then s.nack p t 0x10
  else
    let first := stampTc (BitVec.ofNat 64 (byteField t.data 16 8))
    let log (s : State) : Nat × State := (s.rpl.nextSeq, if p < 3 then s.logIn 4 0x20 p 0 (t.header ++ t.data) else s)
    match (if t.op = 3 then s.replyOf t.opfield else none) with
    | some r =>
      let k := log s
      ({ k.2 with rpl := { k.2.rpl with inSeq := k.1 } }.count Reg.FAB_RC_HIT 1).respond p t r.resp.op r.resp.status r.resp.data
    | none =>
      if t.op = 3 ∧ t.flags % 2 = 1 ∧ first + usTc 2000 ≤ s.now then
        let k := log s
        ({ k.2 with rpl := { k.2.rpl with inSeq := k.1 } }.count Reg.FAB_RC_EXPIRED 1).respond p t 0x85 0xBD []
      else if t.op = 3 ∧ 65536 ≤ s.fab.replies.length then s.nack p t 8
      else if t.op = 3 ∧ s.atomicWaits t.opfield then s
      else
        let k := log s
        k.2.serveReq p k.1 t ((k.2.ratcEntries t).getD [])

end Sys2Proof.Machine
end

