-- ==== Sys2Proof/Machine/InferOps.lean ====
section
/-! DEFINITION. Model instances and sequences: the state of a slot, KV pages and their allocation (R305 to R337). -/
namespace Sys2Proof.Machine

/-- Key of slot `n` of tenant `t`. -/
abbrev slotKey (t n : Nat) : Nat := 16 * t + n

def State.model (s : State) (t n : Nat) : Option Model := s.inf.models.find (slotKey t n)

def State.setModel (s : State) (t n : Nat) (m : Model) : State := { s with inf := { s.inf with models := s.inf.models.set (slotKey t n) m } }

/-- Sequences of an instance. -/
def State.seqsOf (s : State) (t n : Nat) : List Sequence := s.inf.seqs.filter (fun q => q.tenant == t && q.slot == n)

def State.setSeq (s : State) (q : Sequence) : State :=
  { s with inf := { s.inf with seqs := s.inf.seqs.map (fun (r : Sequence) => if r.id = q.id ∧ r.tenant = q.tenant then q else r) } }

/-- The sequence as it stands in the state. -/
def State.seqNow (s : State) (q : Sequence) : Option Sequence := s.inf.seqs.find? (fun r => r.id == q.id && r.tenant == q.tenant)

def State.dropSeq (s : State) (q : Sequence) : State :=
  { s with inf := { s.inf with seqs := s.inf.seqs.filter (fun r => !(r.id == q.id && r.tenant == q.tenant)) } }

/-- Is a sequence a member of the batch (R326)? -/
def Sequence.member (q : Sequence) : Bool := q.st == .active || q.st == .stalled

/-- Members of an instance's batch in the order of an ascending key. -/
def sortBy {α : Type} (f : α → Nat) (l : List α) : List α :=
  match l with
  | [] => []
  | x :: r => insAsc x (sortBy f r)
where
  /-- `x` inserted before the first element with a larger key. -/
  insAsc (x : α) : List α → List α
    | [] => [x]
    | y :: r => if f x ≤ f y then x :: y :: r else y :: insAsc x r

/-- Members of an instance's batch, by ascending column. -/
def State.membersOf (s : State) (t n : Nat) : List Sequence := sortBy (·.col) ((s.seqsOf t n).filter (·.member))

/-! ### KV pages (R327, R328, R329) -/

/-- 64 KiB units of a tier that hold KV pages; swap areas lie in Mere and are charged at load. -/
def State.kvUnits (s : State) (tier : Nat) : Nat :=
  s.inf.seqs.foldl (fun k q => match s.model q.tenant q.slot with
    | some m => if m.kvTier = tier then k + q.pages * m.kvPage else k
    | none => k) 0

/-- Units of a tier free on all dies (R327, log entry 16). -/
def State.tierFree (s : State) (tier : Nat) : Nat := [0, 1, 2, 3].foldl (fun k d => k + s.freeFrames tier d) 0 - s.kvUnits tier

/-- KV pages available to an instance (R327). -/
def State.kvAvail (s : State) (t : Nat) (m : Model) : Nat :=
  min ((s.quota t m.kvTier - s.used t m.kvTier) / m.kvPage) (s.tierFree m.kvTier / m.kvPage)

/-- A sequence takes `k` pages of KV_TIER. -/
def State.takePages (s : State) (m : Model) (q : Sequence) (k : Nat) : State :=
  (s.chargeUnits q.tenant m.kvTier (k * m.kvPage)).setSeq { q with pages := q.pages + k }

/-- Position that a decoding member processes in its step: its last token's. -/
def Sequence.pos (q : Sequence) : Nat := q.promptLen + q.made - 1

/-- Does a member request a page at the first KV write of its position (R328)? -/
def Sequence.wantsPage (q : Sequence) : Bool :=
  q.st == .active && q.promptDone == q.promptLen && decide (0 < q.made) && q.pos % 64 == 0 && q.pages == q.pos / 64

/-- Page requests of a step, by ascending column: a member that finds no page is STALLED (R328, R329). -/
def State.kvRequests (s : State) (t n : Nat) : State :=
  match s.model t n with
  | none => s
  | some m =>
    if !m.inStep then s
    else (s.membersOf t n).foldl (fun s q =>
      if !q.wantsPage then s
      else if 0 < s.kvAvail t m then s.takePages m q 1
      else s.setSeq { q with st := .stalled, since := s.now }) s

/-- The instance whose shard a context is. -/
def Ctx.slotOf (x : Ctx) : Option (Nat × Nat) := if x.radio then none else x.shard.map (fun n => (x.owner, n))

end Sys2Proof.Machine
end

