-- ==== Sys2Proof/Machine/StepOps.lean ====
section
/-! DEFINITION. Submitting lists, and the steps of a model instance: their lists, their ends, reruns and failures; how a sequence ends (R249 to
R255, R314 to R338). -/
namespace Sys2Proof.Machine

/-! ### Submitting a list (R249 to R255) -/

/-- Lists of one class that a context has queued. -/
def Ctx.queued (x : Ctx) (cls : Nat) : Nat := (x.queue.filter (fun l => l.cls == cls)).length

/-- The list whose header stands at an address reference of context `x`, or the status that refuses it (R122, R249 to R255, R263). -/
def State.admitList (s : State) (x : Ctx) (addr : Nat) (rep : Report) (own : Bool) : Nat × Option ListRec × State :=
  if addr % 64 ≠ 0 ∨ !refOk01 addr then (0x60, none, s)
  else
    let chk := s.refChk x addr 64 false
    if chk ≠ 0 then (chk, none, s)
    else
      let rd := s.readSpans (s.refSpans x addr 64) x.asOwner
      let s := rd.2
      let h := bytesCmd (s.rdSpans (s.refSpans x addr 64))
      let cls := cmdField h 26 1
      let unit := cmdField h 27 1
      let grain := cmdField h 28 2
      let l : ListRec := { id := BitVec.ofNat 64 (cmdField h 16 8), ctx := x.id, cls := cls, unit := unit, count := cmdField h 24 2, grain := grain,
                           noRestart := (cmdField h 30 1).testBit 0, deadline := (cmdField h 30 1).testBit 1, part := cmdField h 32 2,
                           addr := BitVec.ofNat 64 addr, seq := s.sched.seq, report := rep, reruns := 0, lateCnt := 0, lateCode := 0, lateCmd := 0,
                           own := own }
      if rd.1 then (0xAA, some l, s)
      else if !headerOk h ∨ (l.deadline ∧ !own) ∨ (x.radio ∧ grain ≠ 0) then (0x60, some l, s)
      else if !x.radio ∧ grain = 0 then (0x34, some l, s)
      else if !x.radio ∧ 9830 < grain then (0x35, some l, s)
      else if cls = 4 ∧ !x.radio then (0x68, some l, s)
      else if s.liveList x.id l.id then (0x61, some l, s)
      else if x.resident ∧ s.unitRefused x cls unit then (quarStatus cls, some l, s)
      else (0, some l, { s with sched := { s.sched with seq := s.sched.seq + 1 } })

/-- A list that passed its checks joins its context's queue; one beyond 64 of its class is refused (R249). -/
def State.queueList (s : State) (ctx : Nat) (l : ListRec) : Nat × State :=
  match s.ctx? ctx with
  | none => (0xC0, s)
  | some x =>
    if 64 ≤ x.queued l.cls then (0x62, s)
    else (0, (s.setCtx { x with queue := x.queue ++ [l], cut := x.cut.filter (fun i => i != l.id) }).refresh ctx)

/-! ### Sequences (R314, R319 to R322) -/

/-- A token record: tokens present, index of the first, END and CODE (R319). LAST goes with END. -/
def Sequence.tokenRec (q : Sequence) (t0 t1 : Option Nat) (idx endc code : Nat) : Rec :=
  { code := code, kind := 2, slot := 0xFFFF, ref := 0, gen := q.gen, ord := q.occ, aux := q.tenant + 2 ^ 16 * q.slot,
    detail := BitVec.ofNat 128 (packFields [(32, q.id), (32, t0.getD 0), (32, t1.getD 0), (16, idx), (1, t0.isSome.toNat), (1, t1.isSome.toNat),
      (1, if endc = 0 then 0 else 1), (5, 0), (8, endc)]) }

/-- A record joins its sequence's buffer; when the pair is not ON it is dropped and counted (R322, R609). -/
def State.putToken (s : State) (q : Sequence) (r : Rec) : State :=
  match q.report with
  | .none => s
  | .cq f p _ _ _ => if s.qpOn f p then s.setSeq { q with buf := q.buf ++ [r] } else (s.setSeq q).count Reg.HIF_QOFF_DROP 1

/-- A sequence that has ended leaves: its pages, swap pages and prompt copy free, and it is forgotten once its last record is written (R314,
R330, R331). -/
def State.leaveSeq (s : State) (q : Sequence) : State :=
  let s := match s.model q.tenant q.slot with
    | none => s
    | some m => (s.releaseUnits q.tenant m.kvTier (q.pages * m.kvPage)).setModel q.tenant q.slot { m with swapUsed := m.swapUsed - q.swapPages }
  let s := s.releaseUnits q.tenant 2 q.promptUnits
  let q := { q with pages := 0, swapPages := 0, prompt := [], promptUnits := 0, moving := false, st := .held, cols := 0, odd := none }
  if q.buf = [] then s.dropSeq q else s.setSeq q

/-- A sequence ends with END `endc` and a final record, with status `code`, of what is undelivered (R320). -/
def State.endSeqWith (s : State) (q : Sequence) (endc code : Nat) : State :=
  let q := { q with endc := endc }
  let s := s.putToken q (q.tokenRec q.odd none (q.made - q.odd.isSome.toNat) endc code)
  match s.seqNow q with
  | none => s
  | some q => s.leaveSeq q

/-- A sequence ends: SEQ_FAILED when it fails, else status 0 (R319, R320). -/
def State.endSeq (s : State) (q : Sequence) (endc : Nat) : State := s.endSeqWith q endc (if endc = 5 then 0x7C else 0)

/-- Sequences of an instance that have not ended. -/
def State.liveSeqs (s : State) (t n : Nat) : List Sequence := (s.seqsOf t n).filter (fun q => q.endc == 0)

/-! ### Steps (R323, R324) -/

/-- A third failure of a step: the instance fails (R324). -/
def State.failModel (s : State) (t n : Nat) : State :=
  match s.model t n with
  | none => s
  | some m =>
    let s := s.setModel t n { m with failed := true, inStep := false, waiting := [], failing := false }
    let s := (s.liveSeqs t n).foldl (fun s q => s.endSeq q 5) s
    s.raise t 7

/-- One shard list of a step is submitted; false when it is refused (R308, R323). -/
def State.submitShard (s : State) (t n : Nat) (p : Nat × Nat) : Bool × State :=
  match s.ctx? p.1 with
  | none => (false, s)
  | some x =>
    match s.admitList x p.2 .none true with
    | (code, l, s) =>
      match (if code = 0 then l else none) with
      | none => (false, s)
      | some l =>
        let r := s.queueList x.id l
        if r.1 ≠ 0 then (false, r.2)
        else match r.2.model t n with
          | none => (true, r.2)
          | some m => (true, r.2.setModel t n { m with waiting := m.waiting ++ [(x.id, l.id)] })

/-- The lists of the step are submitted; a refused one counts as a failure of the step (R323, R324). -/
def State.runStep (s : State) (t n fuel : Nat) : State :=
  match fuel with
  | 0 => s.failModel t n
  | fuel + 1 =>
    match s.model t n with
    | none => s
    | some m =>
      let s := s.setModel t n { m with inStep := true, waiting := [], failing := false }
      let r := m.lists.foldl (fun (a : Bool × State) p => if a.1 then a.2.submitShard t n p else a) (true, s)
      if r.1 then r.2
      else
        match r.2.model t n with
        | none => r.2
        | some k =>
          let s := k.waiting.foldl (fun s p => s.cancelList p.1 p.2) (r.2.setModel t n { k with waiting := [], fails := k.fails + 1 })
          s.runStep t n fuel

/-- The instance whose shard a context is, when it is loaded. -/
def State.shardOf (s : State) (ctx : Nat) : Option (Nat × Nat × Model) :=
  match s.ctx? ctx with
  | none => none
  | some x => match x.slotOf with
    | none => none
    | some (t, n) => (s.model t n).map (fun m => (t, n, m))

/-- The end of one shard list: it no longer holds its step; a status other than 0 cancels the rest (R323, R324). -/
def State.seeEnd (s : State) (e : Nat × DWord × Nat) : State :=
  match s.shardOf e.1 with
  | none => s
  | some (t, n, m) =>
    if !m.waiting.contains (e.1, e.2.1) then s
    else
      let m := { m with waiting := m.waiting.erase (e.1, e.2.1) }
      if e.2.2 = 0 ∨ m.failing then s.setModel t n m
      else m.waiting.foldl (fun s p => s.cancelList p.1 p.2) (s.setModel t n { m with failing := true })

/-- The ends that the service has not seen, in order. -/
def State.seeEnds (s : State) (fuel : Nat) : State :=
  match fuel with
  | 0 => s
  | fuel + 1 =>
    match s.sched.ended with
    | [] => s
    | e :: r => ({ s with sched := { s.sched with ended := r } }.seeEnd e).seeEnds fuel

/-- The service sees the shard lists that have ended; a step that failed runs again from its start, or its instance fails (R324). -/
def State.reapSteps (s : State) : State :=
  let s := s.seeEnds (s.sched.ended.length + s.inf.models.foldl (fun k p => k + p.2.waiting.length) 0 + 1)
  (s.inf.models.filter (fun p => p.2.inStep && p.2.failing && p.2.waiting.isEmpty)).foldl (fun s p =>
    let m := { p.2 with fails := p.2.fails + 1 }
    let s := s.setModel (p.1 / 16) (p.1 % 16) m
    s.runStep (p.1 / 16) (p.1 % 16) (3 - m.fails)) s

/-- A context is to be paused: at once when it lies in Mere, else at its next list boundary (R636). -/
def State.pauseCtx (s : State) (id : Nat) : State :=
  s.updCtx id (fun x => if x.paused then x else if x.resident then { x with pausing := true } else { x with paused := true })

end Sys2Proof.Machine
end

