-- ==== Sys2Proof/Machine/Cyclic.lean ====
section
/-! DEFINITION. The regions' sequencers and the commands of the cyclic table, swaps and grains (R118 to R143, R668 to R671). -/
namespace Sys2Proof.Machine

/-! ### The window in force -/

/-- Units of a region that run lists of radio (or of inference) contexts; the hub runs service lists at `uSvc`. -/
def State.busyUnits (s : State) (g : Nat) (radio : Bool) : List Nat :=
  (s.sched.units.filter (fun p => match p.2.run with
    | none => false
    | some r => match s.ctx? r.list.ctx with
      | none => false
      | some x => x.radio == radio && x.cluster / 4 == g)).map (·.1)

/-- Entry shown for an instant in no entry: the last before the gap (R148). -/
def State.entryBefore (s : State) (g t : Nat) : Nat :=
  let pos := t % s.cycPeriod g
  (List.range (s.cycCount g)).foldl (fun k i => if (s.window g i).start ≤ pos then i else k) (s.cycCount g - 1)

/-- Instant at which the window (or gap) that holds `t` opened. -/
def State.openedAt (s : State) (g t : Nat) : Nat :=
  let per := s.cycPeriod g
  let base := t / per * per
  match s.entryAt g t with
  | some i => base + (s.window g i).start
  | none =>
    let i := s.entryBefore g t
    let w := s.window g i
    if w.start ≤ t % per then base + w.start + w.len else base - per + w.start + w.len

/-! ### Maintenance work (R668 to R671) -/

/-- Declared length of the test of a part's kind, Tc, by grade (R668). -/
def State.testLen (s : State) (u : Nat) : Nat :=
  let e := s.regBits Reg.HUB_IDENT 40 2 != 0
  match uKind u with
  | 1 => if e then 3025 else 2458
  | 2 => if e then 6050 else 4916
  | 3 => if e then 2269 else 1844
  | 4 => if e then 3781 else 3072
  | 8 => if e then 1664 else 1352
  | _ => if e then 9075 else 7373

/-- Parts of a region by kind: Ibex, Chamois, vector, move, cluster, Kudu. -/
def testParts (g : Nat) : List (List Nat) :=
  [(List.range 8).map (fun i => uIbex (8 * g + i)), (List.range 16).map (fun i => uChm (16 * g + i)),
   (List.range 4).map (fun i => uVec (4 * g + i)), (List.range 4).map (fun i => uMov (4 * g + i)),
   (List.range 4).map (fun i => 0x8000 + 4 * g + i), [uKud g]]

/-- Can a part be tested: not disabled by the host, a cluster only with an unallocated unit, and the test fits (R669)? -/
def State.testable (s : State) (g u : Nat) : Bool :=
  (uKind u == 8 || (s.unit u).en.st == .on) && (uKind u != 8 || decide (0 < s.poolFree (u % 0x1000))) &&
  s.mayStart g (scaledLen (s.testLen u) (s.nDie (g / 3)))

/-- The next three parts in service of one kind, when there are three (R671). -/
def State.trioOf (s : State) (g : Nat) (l : List Nat) (turn : Nat) : Option (List Nat) :=
  let l := l.filter (fun u => s.testable g u && !s.excluded u)
  if l.length < 3 then none else some ([0, 1, 2].map (fun i => l[(turn + i) % l.length]?.getD 0))

/-- An active maintenance window starts its work: sentinel tests, or in turn with them the unit shadow comparison (R669, R671). -/
def State.startTests (s : State) (g owner k : Nat) : State :=
  let compare := owner.testBit 1 && (!owner.testBit 0 || decide (k % 2 = 1))
  if compare then
    ((List.range 5).foldl (fun s i =>
      let l := (testParts g)[i]?.getD []
      let key := 16 * i + g
      match s.trioOf g l (s.health.turn.get 0 key) with
      | none => s
      | some t => { s with health := { s.health with trios := s.health.trios ++ [t],
                                                     turn := s.health.turn.set key ((s.health.turn.get 0 key + 3) % 48) } }) s)
  else
    let l := ((if owner.testBit 0 then (testParts g).take 5 else []) ++ (if owner.testBit 2 then [[uKud g]] else [])).flatten
    (l.filter (fun u => s.testable g u)).foldl (fun s u =>
      { s with health := { s.health with testing := s.health.testing ++ [u], seed := s.health.seed.upd 0 u (fun k => (k + 1) % 64) } }) s

/-- Tests and comparisons of a region are dropped: they neither pass nor fail (R670). -/
def State.dropTests (s : State) (g : Nat) : State :=
  let mine (u : Nat) : Bool := uRegion u == g
  { s with health := { s.health with testing := s.health.testing.filter (fun u => !mine u),
                                     trios := s.health.trios.filter (fun t => !t.any mine) } }

/-! ### Openings and closes (R118 to R121, R126, R130) -/

/-- Inference grains of a region that still run are stopped, and the tests of its maintenance window with them (R126, R670). -/
def State.stopRegion (s : State) (g close : Nat) : State :=
  let l := s.busyUnits g false
  let s := s.dropTests g
  let s := (l.foldl (fun s u => (s.stopGrain u true).quarSettled s u) s).reapSteps
  let s := s.setRegion g { s.region g with stopped := close }
  if l = [] then s else (s.count (Reg.CYC_STOP_CNT g) l.length).cycEvt g 1

/-- Contexts resident on a region's clusters. -/
def State.regionCtxs (s : State) (g : Nat) : List Ctx :=
  (s.sched.ctxs.filter (fun p => p.2.cluster / 4 == g && p.2.resident)).map (·.2)

/-- The window in force opens for its work: spill or restore of the arrays, maintenance, and the swaps that wait (R130, R142, R669). -/
def State.openWindow (s : State) (g : Nat) : State :=
  let r := s.region g
  let w := s.window g r.entry
  let s :=
    if r.gap then s
    else if r.cls = 1 ∧ w.ibx ∧ !r.spilled then s.spillRegion g
    else if r.cls = 2 ∧ r.spilled then s.restoreRegion g
    else if r.cls = 3 then s.startTests g r.owner (s.periodIdx g r.opened / 2 ^ w.maintDiv)
    else s
  let s := (s.regionCtxs g).foldl (fun s x => s.refresh x.id) s
  if r.cls = 2 ∧ !r.gap then
    (List.range 4).foldl (fun s i =>
      let c := 4 * g + i
      match (s.cluster c).deferred with
      | none => s
      | some w => if s.swapFits w c then s else s.deferSwap c w) s
  else s

/-- A context that the new window alone keeps from running takes its opening as blocked-since stamp (R134). -/
def State.markBlocked (s : State) (old : Region) (g at0 : Nat) : State :=
  (s.regionCtxs g).foldl (fun s x =>
    if (s.setRegion g old).admits g x ∧ !s.admits g x ∧ s.unitsOf x.id = [] ∧ s.wouldRun x ∧ (x.st = .ready ∨ x.st = .blocked) then
      s.setCtx { x with st := .blocked, blockedSince := at0 }
    else s) s

/-- The sequencer of a region takes the entry that holds the local counter (R118, R119). A radio list that still runs at a closing point
holds the region from then on (R121). -/
def State.seqUpdate (s : State) (g : Nat) : State :=
  let t := s.localNow
  let r := s.region g
  let e := s.entryAt g t
  let entry := e.getD (s.entryBefore g t)
  let opened := s.openedAt g t
  if s.cycCount g = 0 ∨ (r.entry = entry ∧ r.gap = e.isNone ∧ r.opened = opened) then s
  else
    let f := s.inForce g t
    let w := s.window g entry
    let changed := f ≠ (r.cls, r.owner)
    let close := (s.nextClose g r.opened).getD opened
    let s := if changed ∧ r.stopped ≠ close ∧ s.busyUnits g false ≠ [] then s.stopRegion g close else s
    let s := s.dropTests g
    let past := if r.overrun.isNone ∧ changed ∧ r.cls = 1 ∧ s.busyUnits g true ≠ [] then some close else r.overrun
    let s := s.setRegion g { s.region g with entry := entry, gap := e.isNone, active := e.isSome && w.cls == 3 && s.maintActive g w t, cls := f.1,
                                             owner := f.2, opened := opened, overrun := past }
    let s := s.markBlocked r g opened
    if past.isSome then s else s.openWindow g

/-- At or past the hard-stop point of the next closing point: the grains that run are stopped, once (R119, R126). -/
def State.hardStopNow (s : State) (g : Nat) : State :=
  match s.nextClose g s.localNow with
  | none => s
  | some c => if hardStopOf c ≤ s.localNow ∧ (s.region g).stopped ≠ c then s.stopRegion g c else s

/-! ### Commands -/

/-- WINDOW_BOUNDARY (R118). -/
def execWindowBoundary (g : Nat) (s : State) : Res := if 12 ≤ g then .fault .noSuchPart else .next (s.seqUpdate g)

/-- HARD_STOP (R126). -/
def execHardStop (g : Nat) (s : State) : Res := if 12 ≤ g then .fault .noSuchPart else .next (s.hardStopNow g)

/-- First queued list of a resident inference context that a unit would take, every condition but the fit check met. -/
def State.nextGrain (s : State) (u : Nat) : Option (Ctx × ListRec) :=
  let one (x : Ctx) : Option (Ctx × ListRec) :=
    if x.radio then none
    else (x.queue.find? (fun l => s.mayRun x l && s.unitFor x l == some u)).map (fun l => (x, l))
  (s.sched.ctxs.filterMap (fun p => one p.2)).head?

/-- A list starts on a unit: the block moves of R787, then the start (R250, R256, R787). -/
def State.launchList (s : State) (x : Ctx) (l : ListRec) (u : Nat) : State :=
  let scaled := s.scaledOf x l u
  let s := if uKind u = 1 ∧ u < 0x10000 then s.bringBlock x.id (uIdx u) else s
  match s.ctx? x.id with
  | none => s
  | some x => s.startList x l u scaled

/-- GRAIN_START (R125, R763): the grain that the unit would take starts, or is deferred and counted. -/
def execGrainStart (u : Nat) (s : State) : Res :=
  if !isUnit u then .fault .noSuchPart
  else
    match s.nextGrain u with
    | none => .next s
    | some (x, l) =>
      if s.fits x l u then .next (s.launchList x l u)
      else .next ((s.count (Reg.CYC_DEFER_CNT (x.cluster / 4)) 1).refresh x.id)

/-- GRAIN_OVERRUN (R129). -/
def execGrainOverrun (u : Nat) (s : State) : Res :=
  if !isUnit u then .fault .noSuchPart
  else
    match s.run u with
    | none => .next s
    | some r =>
      match s.ctx? r.list.ctx with
      | none => .next s
      | some x =>
        if x.radio || r.overran || decide (s.now ≤ r.start + r.scaled) then .next s
        else .next (((s.setRun u (some { r with overran := true })).count (Reg.CYC_OVR_CNT (x.cluster / 4)) 1).cycEvt (x.cluster / 4) 2)

/-- RADIO_OVERRUN_END (R121). -/
def execRadioOverrunEnd (g : Nat) (s : State) : Res :=
  if 12 ≤ g then .fault .noSuchPart
  else
    match (s.region g).overrun with
    | none => .next s
    | some c =>
      if s.busyUnits g true ≠ [] then .next s
      else
        let s := (s.count (Reg.CYC_RADIO_OVR g) (s.localNow - c)).cycEvt g 4
        let s := s.seqUpdate g
        .next ((s.setRegion g { s.region g with overrun := none }).openWindow g)

/-- Context that a cluster would evict: every resident inference context is BLOCKED; the oldest blocked-since stamp, then the lowest ID, among
those that hold no radio deadline (R140, R141). -/
def State.victim (s : State) (c : Nat) : Option Ctx :=
  let l := (s.residents c none).filter (fun x => !x.radio)
  if l.all (fun x => x.st == .blocked) then leastBy (l.filter (fun x => !x.deadline)) (·.blockedSince) else none

/-- EVICTION (R140, R144): the oldest-blocked context is to leave for the candidate of R139; none while a free slot would serve. -/
def execEviction (c : Nat) (s : State) : Res :=
  if 48 ≤ c then .fault .noSuchPart
  else
    let k := s.cluster c
    if k.swap.isSome || k.deferred.isSome || (s.chooseIn c none).isSome then .next s
    else
      match s.victim c with
      | none => .next s
      | some v =>
        match s.chooseIn c (some v.id) with
        | none => .next s
        | some i => .next ((s.setCluster c { k with deferred := some { out := some v.id, inn := some i } }).count (Reg.CLU_EVICT_CNT c) 1)

/-- Is a swap that was chosen still to be made: its contexts exist, the outgoing one stands at a list boundary, the incoming one in Mere? -/
def State.swapStands (s : State) (w : Swap) : Bool :=
  (match w.out with
   | none => true
   | some i => match s.ctx? i with | none => false | some x => x.resident && s.unitsOf i == []) &&
  (match w.inn with
   | none => true
   | some i => match s.ctx? i with | none => false | some x => !x.resident && !x.paused)

/-- Swap that a cluster would make now: the one that waits, a context that must leave, or the filling of a free slot (R139, R142, R636). -/
def State.swapDue (s : State) (c : Nat) : Option Swap :=
  match (s.cluster c).deferred with
  | some w => some w
  | none =>
    match s.mustLeave c with
    | some i => some { out := some i, inn := none }
    | none => (s.chooseIn c none).map (fun i => { out := none, inn := some i })

/-- The incoming context takes its slot and its run of Pool, in SWAP_IN, and its bytes are charged to the region's read share (R143). -/
def State.bringIn (s : State) (c id : Nat) (w : Swap) : State :=
  match s.ctx? id with
  | none => s.setCluster c { s.cluster c with swap := none }
  | some x =>
    if x.resident || (s.freeSlot c false none).isNone || (s.poolFit c x.footprint none).isNone then s.setCluster c { s.cluster c with swap := none }
    else
      let n := (s.swapBytes { out := none, inn := some id } c).2.1
      let s := ((s.seat x c none .swapIn).charge (c / 4) 0 n).acct x.owner 9 n
      s.setCluster c { s.cluster c with swap := some { w with out := none } }

/-- SWAP_START (R142, R143): the swap starts if it ends before the guard band, else it waits and is flagged. -/
def execSwapStart (c : Nat) (s : State) : Res :=
  if 48 ≤ c then .fault .noSuchPart
  else if (s.cluster c).swap.isSome then .next s
  else
    match s.swapDue c with
    | none => .next s
    | some w =>
      if !s.swapStands w then .next (s.setCluster c { s.cluster c with deferred := none })
      else if !s.swapFits w c then .next (s.deferSwap c w)
      else
        let hub := !s.unitIn (uMov c)
        if !hub && (s.run (uMov c)).isSome then .next s
        else
          let w : Swap := { w with byHub := hub }
          let s := s.setCluster c { deferred := none, swap := some w }
          match w.out, w.inn with
          | some o, _ =>
            let n := (s.swapBytes w c).1
            let s := s.updCtx o (fun x => { x with st := .swapOut })
            let t := match s.ctx? o with | some x => x.owner | none => 0
            .next ((s.charge (c / 4) 1 n).acct t 10 n)
          | none, some i => .next (s.bringIn c i w)
          | none, none => .next s

/-- A context that stands ended once its swap is over (R144, R788). -/
def State.endIfDue (s : State) (id : Nat) : State :=
  match s.ctx? id with
  | none => s
  | some x => if s.mayEnd x then s.dropCtx id else s

/-- SWAP_COMPLETE (R143): the swap-out ends and the incoming context follows into the freed slot, or the swap-in ends. -/
def execSwapComplete (c : Nat) (s : State) : Res :=
  if 48 ≤ c then .fault .noSuchPart
  else
    match (s.cluster c).swap with
    | none => .next s
    | some w =>
      match w.out, w.inn with
      | some o, i =>
        let s := (s.swapOut o).endIfDue o
        (match i with
         | none => .next (s.setCluster c { s.cluster c with swap := none }).drainIn
         | some i => .next (s.bringIn c i w).drainIn)
      | none, some i => .next (((s.setCluster c { s.cluster c with swap := none }).swapIn i).endIfDue i).drainIn
      | none, none => .next (s.setCluster c { s.cluster c with swap := none })

end Sys2Proof.Machine
end

