-- ==== Sys2Proof/Machine/Kudu.lean ====
section
/-! DEFINITION. The Kudu coding engines: LDPC_DEC, LDPC_ENC, POLAR_DEC, POLAR_ENC (R402 to R409, R425, R426). The code itself, which the spec
takes from TS 38.212 without its tables, is a free value; rate matching, soft combining, CRCs and costs are worked out (log entry 18). -/
namespace Sys2Proof.Machine

/-! ### Bits and soft values (R403) -/

/-- The first `n` bits of a bit string: first bit in bit 7 of byte 0 (R403). -/
def bitsOf (l : List Byte) (n : Nat) : List Bool := (List.range n).map (fun i => (l.getD (i / 8) 0).toNat.testBit (7 - i % 8))

/-- A bit string as bytes, first bit in bit 7 of byte 0; what follows the last bit is left open. -/
def bytesOfBits (l : List Bool) : List Byte :=
  (List.range (ceilDiv l.length 8)).map (fun i => BitVec.ofNat 8 ((List.range 8).foldl (fun v j =>
    let k := 8 * i + j
    v + (if k < l.length then l.getD k false else Config.padBits l k).toNat * 2 ^ (7 - j)) 0))

/-- The lowest `n` bits of a number as bits, bit 0 first. -/
def natBits (v n : Nat) : List Bool := (List.range n).map v.testBit

/-- A soft value; −128 is read as −127 (R403). -/
def llr (b : Byte) : Int := max (-127) (signed 8 b.toNat)

/-- Saturation to ±127 (R406). -/
def sat127 (x : Int) : Int := max (-127) (min 127 x)

def softByte (x : Int) : Byte := BitVec.ofNat 8 (unsigned 8 x)

/-- Remainder of a bit string by a CRC polynomial of `len` bits, whose leading term is left out (TS 38.212, PRESUMED, log entry 18). -/
def crcRem (len poly : Nat) (l : List Bool) : Nat :=
  l.foldl (fun c b => let v := 2 * c + b.toNat; if v.testBit len then v ^^^ (2 ^ len + poly) else v) 0

/-- CRC polynomial of an LDPC command: CRC24B, CRC24A, CRC16. -/
def ldpcPoly (code : Nat) : Nat :=
  match code with
  | 1 => 0x800063
  | 2 => 0x864CFB
  | _ => 0x1021

/-- The block with its CRC after it. -/
def withCrc (code : Nat) (l : List Bool) : List Bool :=
  let n := ldpcCrcLen code
  if n = 0 then l
  else
    let r := crcRem n (ldpcPoly code) (l ++ List.replicate n false)
    l ++ (List.range n).map (fun i => r.testBit (n - 1 - i))

/-- CRC_OK of a decoded block (R409). -/
def crcPass (code : Nat) (l : List Bool) : Bool :=
  if ldpcCrcLen code = 0 then Config.ldpcNoCrc l else crcRem (ldpcCrcLen code) (ldpcPoly code) l == 0

/-! ### Parameters (R404, R408) -/

/-- Parameters of an LDPC command. -/
structure Ldpc where
  bg : Nat
  zc : Nat
  crc : Nat
  e : Nat
  kp : Nat
  ncb : Nat
  rv : Nat
  qm : Nat
  deriving DecidableEq, Repr

def ldpcOf (c : Cmd) : Ldpc :=
  { bg := bits c 336 1, zc := cmdField c 40 2, crc := bits c 338 2, e := cmdField c 44 4, kp := cmdField c 48 2, ncb := cmdField c 52 4,
    rv := cmdField c 56 1, qm := cmdField c 57 1 }

/-- Information columns of the base graph (R404). -/
def Ldpc.kb (x : Ldpc) : Nat := if x.bg = 0 then 22 else 10

/-- Columns of the code after the punctured two (TS 38.212). -/
def Ldpc.cols (x : Ldpc) : Nat := if x.bg = 0 then 66 else 50

/-- Starting position of the redundancy version (R404, TS 38.212). -/
def Ldpc.k0 (x : Ldpc) : Nat :=
  let n := match x.rv with
    | 0 => 0
    | 1 => if x.bg = 0 then 17 else 13
    | 2 => if x.bg = 0 then 33 else 25
    | _ => if x.bg = 0 then 56 else 43
  n * x.ncb / (x.cols * x.zc) * x.zc

/-- First filler position of the circular buffer, and the fillers in it (R408). -/
def Ldpc.fill0 (x : Ldpc) : Nat := min x.ncb (x.kp - 2 * x.zc)
def Ldpc.fillers (x : Ldpc) : Nat := min x.ncb (x.kb * x.zc - 2 * x.zc) - x.fill0

/-- Positions of the circular buffer that carry bits. -/
def Ldpc.ring (x : Ldpc) : Nat := x.ncb - x.fillers

/-- Rank of `k0` among the positions that carry bits. -/
def Ldpc.rank0 (x : Ldpc) : Nat := if x.k0 < x.fill0 then x.k0 else if x.k0 < x.fill0 + x.fillers then x.fill0 else x.k0 - x.fillers

/-- Position of rate-matched bit `n`, before bit interleaving. -/
def Ldpc.pos (x : Ldpc) (n : Nat) : Nat :=
  let r := (x.rank0 + n) % x.ring
  if r < x.fill0 then r else r + x.fillers

/-- Place of rate-matched bit `n` in the interleaved output. -/
def Ldpc.place (x : Ldpc) (n : Nat) : Nat :=
  let w := x.e / x.qm
  n / w + n % w * x.qm

/-- P without combining (R404). -/
def Ldpc.p (x : Ldpc) : Nat := min x.ncb (x.k0 + x.e)

/-- Rows in use when `p` positions are filled (R404). -/
def Ldpc.rows (x : Ldpc) (p : Nat) : Nat := max 4 (min (if x.bg = 0 then 46 else 42) (2 + ceilDiv p x.zc - x.kb))

/-- A combination that TS 38.212 allows, as far as the spec says what that is (R408, log entry 18). -/
def Ldpc.allowed (x : Ldpc) : Bool :=
  decide (ldpcCrcLen x.crc < x.kp) && decide (x.kp ≤ x.kb * x.zc) && decide (1 ≤ x.ncb) && decide (x.ncb ≤ x.cols * x.zc) && decide (1 ≤ x.ring) &&
  x.e % x.qm == 0 && (x.bg == 1 || decide (x.kp - 2 * x.zc ≤ x.e))

/-- N that TS 38.212 gives a polar code of K bits rate-matched to E, at most 2^`nmax` (R408, log entry 18). -/
def polarSize (k e nmax : Nat) : Nat :=
  let up := (e - 1).log2 + 1
  let lg := if e ≤ 1 then 0 else up
  let n1 := if 8 * e ≤ 9 * 2 ^ (lg - 1) ∧ 16 * k < 9 * e then lg - 1 else lg
  let n2 := (8 * k - 1).log2 + 1
  2 ^ max 5 (min n1 (min n2 nmax))

/-- A polar combination that TS 38.212 allows (R408, log entry 18). -/
def polarAllowed (c : Cmd) : Bool :=
  let k := cmdField c 48 2
  let e := cmdField c 44 4
  decide (polarCrcLen (bits c 336 2) < k) && decide (k ≤ e) && decide (k ≤ cmdField c 40 2) &&
  (polarSize k e 9 == cmdField c 40 2 || polarSize k e 10 == cmdField c 40 2)

/-! ### Common steps -/

/-- Offset from OUT of the result word: the next 8-byte boundary after `n` bytes (R409). -/
def resultOfs (out n : Nat) : Nat := ceilDiv (out % 2 ^ 48 + n) 8 * 8 - out % 2 ^ 48

/-- A coding command stores its output, and its result word where it has one; its counters advance and it ends. -/
def State.kudPut (s : State) (g : Nat) (r : Running) (x : Ctx) (c : Cmd) (b : List Byte) (word : Option Nat) (busy xfer : Nat) : State :=
  let out := cmdField c 24 8
  let s := s.dstStore x c out b
  let o := resultOfs out b.length
  let s := match word with
    | none => s
    | some w => s.dstStore x c (out + o) (leBytes 8 w)
  let n := match word with
    | none => b.length
    | some _ => o + 8
  let s := ((s.count64 (Reg.KUD_BUSY_CYC g) busy).count64 (Reg.KUD_XFER_CYC g) xfer).work x 3 (busy + xfer)
  s.finishCmd (uKud g) (outHandle x c r.list.id (out % 2 ^ 32) n false false)

/-- First status that refuses a coding command's operands: `n` bytes read at IN, `m` bytes of output (R263, R264, R494). -/
def State.kudChk (s : State) (x : Ctx) (c : Cmd) (n m : Nat) : Nat :=
  if s.readChk x [(cmdField c 16 8, n)] ≠ 0 then s.readChk x [(cmdField c 16 8, n)] else s.dstChk x c (cmdField c 24 8) m

/-! ### LDPC -/

/-- Key of a HARQ entry and the code block in it, for an address in the cell's area with room for `n` bytes (R406, R408). -/
def State.harqAt (s : State) (x : Ctx) (a n : Nat) : Option (Nat × Nat) :=
  match s.cellCfg x.cell with
  | none => none
  | some k =>
    if a < k.harqBase ∨ k.harqBase + k.harqLen < a + n ∨ k.harqEntry = 0 ∨ n = 0 then none
    else some (65536 * x.cell + (a - k.harqBase) / k.harqEntry, (a - k.harqBase) % k.harqEntry / n)

def noHarq : Harq := { tbs := 0, blocks := 0, bg := 0, zc := 0, passed := [], filled := [], busy := false }

def State.harqOf (s : State) (k : Nat) : Harq := s.radio.harq.get noHarq k

def State.setHarq (s : State) (k : Nat) (h : Harq) : State := { s with radio := { s.radio with harq := s.radio.harq.set k h } }

/-- The circular buffer after de-interleaving and rate de-matching into what it held (R402, R406). -/
def Ldpc.buffer (x : Ldpc) (soft : List Int) (old : Nat → Int) : List Int :=
  (List.range x.ncb).map (fun p =>
    if x.fill0 ≤ p ∧ p < x.fill0 + x.fillers then 0
    else
      let rank := if p < x.fill0 then p else p - x.fillers
      let first := (rank + x.ring - x.rank0) % x.ring
      (List.range (ceilDiv (x.e - first) x.ring)).foldl (fun v t => sat127 (v + soft.getD (x.place (first + t * x.ring)) 0)) (old p))

/-- Iterations run: up to the first whose syndrome is zero, `n` at most (R404). -/
def ldpcRun (bg zc kp : Nat) (soft : List Byte) (n i : Nat) : Nat × Nat × Bool :=
  match n with
  | 0 => let r := Config.ldpcIter i bg zc kp soft; (i, r.1, r.2)
  | n + 1 => let r := Config.ldpcIter i bg zc kp soft; if r.2 then (i, r.1, r.2) else ldpcRun bg zc kp soft n (i + 1)

/-- A code block is decoded from IN and, when combining, from its soft buffer at `harq` (R402, R404, R406). -/
def State.ldpcDecode (s : State) (g : Nat) (r : Running) (x : Ctx) (c : Cmd) (llrs old : List Byte) (at' : Option (Nat × Nat)) (comb : Bool) : State :=
  let k := ldpcOf c
  let harq := cmdField c 32 8
  let fill := match at' with | none => 0 | some q => ((s.harqOf q.1).filled.find q.2).getD k.p
  let p := if comb then max fill k.p else k.p
  let was (i : Nat) : Int := if comb && decide (i < fill) then llr (old.getD i 0) else 0
  let buf := (k.buffer (llrs.map llr) was).map softByte
  let it := ldpcRun k.bg k.zc k.kp buf (cmdField c 43 1 - 1) 1
  let dec := natBits it.2.1 k.kp
  let ok := crcPass k.crc dec
  let b := bytesOfBits dec
  let back := decide (harq ≠ 0) && !ok
  let word := packFields [(6, it.1), (1, it.2.2.toNat), (1, ok.toNat), (1, comb.toNat)]
  let s := match at' with
    | none => s
    | some q =>
      let h := s.harqOf q.1
      s.setHarq q.1 (if ok then { h with passed := h.passed.set q.2 (it.2.2, b) } else { h with passed := h.passed.del q.2, filled := h.filled.set q.2 p })
  let s := if back then ((s.chargePlaced x harq p true).wrSpans (s.placedSpans harq p) (buf.take p)).count64 (Reg.KUD_HARQ_WR_BYTES g) p else s
  let s := (s.count64 (Reg.KUD_LDPC_CB g) 1).count64 (Reg.KUD_LDPC_ITER g) it.1
  let s := if ok then s else s.count (Reg.KUD_CB_FAIL g) 1
  let s := if it.1 = cmdField c 43 1 ∧ !it.2.2 then s.count (Reg.KUD_ITER_CAP g) 1 else s
  let xfer := ceilDiv k.e 64 + ceilDiv k.kp 512 + (if comb then ceilDiv p 64 else 0) + (if back then ceilDiv p 64 else 0)
  s.kudPut g r x c b (some word) (64 + it.1 * k.rows p * ceilDiv k.zc 32) xfer

/-- LDPC_DEC (R402, R404, R406, R408, R409): a block already marked as passed is taken from the stored result. -/
def execLdpcDec (g : Nat) (s : State) : Res :=
  if 12 ≤ g then .fault .noSuchPart
  else
    match s.cur (uKud g) 0x80 with
    | none => .next s
    | some (r, c, x) =>
      let u := uKud g
      let k := ldpcOf c
      let harq := cmdField c 32 8
      let out := cmdField c 24 8
      let at' := if harq = 0 then none else s.harqAt x harq k.ncb
      let comb := bit c 337 && decide (harq ≠ 0)
      let n := resultOfs out (ceilDiv k.kp 8) + 8
      if !k.allowed then .next (s.failList u 0x90)
      else if harq ≠ 0 ∧ at'.isNone then .next (s.failList u 0x91)
      else if s.kudChk x c k.e n ≠ 0 then .next (s.failList u (s.kudChk x c k.e n))
      else if harq ≠ 0 ∧ s.placedChk (some x.asOwner) harq k.ncb true ≠ 0 then .next (s.failList u (s.placedChk (some x.asOwner) harq k.ncb true))
      else if s.dstHeld x c out then .next s
      else
        match (if comb then at' else none).bind (fun q => (s.harqOf q.1).passed.find q.2) with
        | some (syn, b) =>
          .next (s.kudPut g r x c b (some (packFields [(6, 0), (1, syn.toNat), (1, 1), (1, 0), (1, 1)])) 0 (ceilDiv k.kp 512))
        | none =>
          let f := s.fetch x [(cmdField c 16 8, k.e)]
          let sp := if comb then f.2.2.placedSpans harq k.ncb else []
          let rd := f.2.2.readSpans sp x.asOwner
          if f.1 ≠ 0 then .next (f.2.2.failList u f.1)
          else if rd.1 then .next (rd.2.failList u 0xAA)
          else
            let t := if comb then (rd.2.chargePlaced x harq k.p false).count64 (Reg.KUD_HARQ_RD_BYTES g) k.p else rd.2
            .next (t.ldpcDecode g r x c f.2.1 (rd.2.rdSpans sp) at' comb)

/-- LDPC_ENC (R402, R404, R408). -/
def execLdpcEnc (g : Nat) (s : State) : Res :=
  if 12 ≤ g then .fault .noSuchPart
  else
    match s.cur (uKud g) 0x81 with
    | none => .next s
    | some (r, c, x) =>
      let u := uKud g
      let k := ldpcOf c
      let n := k.kp - ldpcCrcLen k.crc
      let out := cmdField c 24 8
      if !k.allowed then .next (s.failList u 0x90)
      else if s.kudChk x c (ceilDiv n 8) (ceilDiv k.e 8) ≠ 0 then .next (s.failList u (s.kudChk x c (ceilDiv n 8) (ceilDiv k.e 8)))
      else if s.dstHeld x c out then .next s
      else
        let f := s.fetch x [(cmdField c 16 8, ceilDiv n 8)]
        if f.1 ≠ 0 then .next (f.2.2.failList u f.1)
        else
          let block := withCrc k.crc (bitsOf f.2.1 n)
          let w := k.e / k.qm
          let coded := (List.range k.e).map (fun j => Config.ldpcCode k.bg k.zc block (k.pos (j % k.qm * w + j / k.qm)))
          .next (f.2.2.kudPut g r x c (bytesOfBits coded) none (48 + (k.kb + k.rows k.p) * ceilDiv k.zc 40) (ceilDiv k.kp 512 + ceilDiv k.e 512))

/-! ### Polar -/

/-- POLAR_DEC (R402, R404, R408, R409). -/
def execPolarDec (g : Nat) (s : State) : Res :=
  if 12 ≤ g then .fault .noSuchPart
  else
    match s.cur (uKud g) 0x82 with
    | none => .next s
    | some (r, c, x) =>
      let u := uKud g
      let n := cmdField c 40 2
      let k := cmdField c 48 2
      let e := cmdField c 44 4
      let out := cmdField c 24 8
      let m := resultOfs out (ceilDiv k 8) + 8
      if !polarAllowed c then .next (s.failList u 0x90)
      else if s.kudChk x c e m ≠ 0 then .next (s.failList u (s.kudChk x c e m))
      else if s.dstHeld x c out then .next s
      else
        let f := s.fetch x [(cmdField c 16 8, e)]
        if f.1 ≠ 0 then .next (f.2.2.failList u f.1)
        else
          let d := Config.polarDec n k (cmdField c 42 1) (cmdField c 58 2) (f.2.1.map (fun b => softByte (llr b)))
          let t := f.2.2.count (Reg.KUD_POLAR_CNT g) 1
          let t := if d.2.1 then t else t.count (Reg.KUD_POLAR_FAIL g) 1
          .next (t.kudPut g r x c (bytesOfBits (natBits d.1 k)) (some (packFields [(1, d.2.1.toNat), (3, d.2.2 % 8)]))
            (64 + n * n.log2 / 8 + 6 * k) (ceilDiv e 64 + ceilDiv k 512))

/-- POLAR_ENC (R402, R404, R408). -/
def execPolarEnc (g : Nat) (s : State) : Res :=
  if 12 ≤ g then .fault .noSuchPart
  else
    match s.cur (uKud g) 0x83 with
    | none => .next s
    | some (r, c, x) =>
      let u := uKud g
      let n := cmdField c 40 2
      let k := cmdField c 48 2
      let e := cmdField c 44 4
      let m := k - polarCrcLen (bits c 336 2)
      let out := cmdField c 24 8
      if !polarAllowed c then .next (s.failList u 0x90)
      else if s.kudChk x c (ceilDiv m 8) (ceilDiv e 8) ≠ 0 then .next (s.failList u (s.kudChk x c (ceilDiv m 8) (ceilDiv e 8)))
      else if s.dstHeld x c out then .next s
      else
        let f := s.fetch x [(cmdField c 16 8, ceilDiv m 8)]
        if f.1 ≠ 0 then .next (f.2.2.failList u f.1)
        else
          let coded := (List.range e).map (Config.polarEnc n k e (cmdField c 42 1) (cmdField c 58 2) (bitsOf f.2.1 m))
          .next (f.2.2.kudPut g r x c (bytesOfBits coded) none (32 + n * n.log2 / 32) (ceilDiv k 512 + ceilDiv e 512))

end Sys2Proof.Machine
end

