-- ==== Sys2Proof/Machine/RadioMsg.lean ====
section
/-! DEFINITION. Messages and PDUs of the Slot Service Interface: their form and their checks (R383, R396, R407, R416 to R423, R443). -/
namespace Sys2Proof.Machine

/-! ### Messages (R416 to R418) -/

def mTy (b : List Byte) : Nat := byteField b 0 1
def mCell (b : List Byte) : Nat := byteField b 2 2
def mSlot (b : List Byte) : Stamp := BitVec.ofNat 64 (byteField b 8 8)
def mSeq (b : List Byte) : Nat := byteField b 16 4
def mCount (b : List Byte) : Nat := byteField b 20 2

/-- Bytes `i` to `i + n - 1` are zero. -/
def zeroAt (b : List Byte) (i n : Nat) : Bool := byteField b i n == 0

/-- A header that R416 and R417 accept, apart from its cell. -/
def msgHdrOk (b : List Byte) : Bool :=
  decide (24 ≤ b.length ∧ b.length ≤ 1048576) && b.length % 8 == 0 && byteField b 1 1 == 1 && byteField b 4 4 == b.length && zeroAt b 22 2 &&
  [0x01, 0x02, 0x20, 0x21, 0x28, 0x29].contains (mTy b)

/-- SLOT is zero for the messages that name no slot; else a stamp at a slot boundary of the cell (R416, R60). -/
def msgSlotOk (mu : Nat) (b : List Byte) : Bool :=
  if [0x01, 0x02, 0x29].contains (mTy b) then mSlot b == 0 else stampOk (mSlot b) && stampTc (mSlot b) % slotTc mu == 0

/-- `n` PDUs that fill a byte list exactly, each by its length (R417, R419). -/
def splitPdus (n : Nat) (b : List Byte) : Option (List (List Byte)) :=
  match n with
  | 0 => if b.isEmpty then some [] else none
  | n + 1 =>
    let len := byteField b 2 2
    if len % 8 ≠ 0 ∨ len < 8 ∨ 4096 < len ∨ b.length < len then none else (splitPdus n (b.drop len)).map (b.take len :: ·)

/-- `n` transport-block blocks that fill a byte list exactly: handle, codeword, bytes (R422). -/
def splitBlocks (n : Nat) (b : List Byte) : Option (List (Nat × Nat × List Byte)) :=
  match n with
  | 0 => if b.isEmpty then some [] else none
  | n + 1 =>
    let len := byteField b 8 4
    let all := 16 + ceilDiv len 8 * 8
    if b.length < all ∨ 1 < byteField b 4 1 ∨ !zeroAt b 5 3 ∨ !zeroAt b 12 4 ∨ !zeroAt b (16 + len) (all - 16 - len) then none
    else (splitBlocks n (b.drop all)).map ((byteField b 0 4, byteField b 4 1, (b.drop 16).take len) :: ·)

/-! ### Symbols (R383) -/

/-- End of symbol `l` of the slot whose R60 boundary is `at0`, whole Tc (R383). -/
def symStart (mu at0 l : Nat) : Nat :=
  let n := at0 % frameTc / slotTc mu
  let per := 7 * 2 ^ mu
  let h := (14 * n + l) / per
  let m := (14 * n + l) % per
  at0 / frameTc * frameTc + h * 983040 + (if m = 0 then 0 else 1024 + m * ((131072 + 9216) / 2 ^ mu))

def symEnd (mu at0 l : Nat) : Nat :=
  let n := at0 % frameTc / slotTc mu
  symStart mu at0 l + 9216 / 2 ^ mu + (if (14 * n + l) % (7 * 2 ^ mu) = 0 then 1024 else 0) + 131072 / 2 ^ mu

/-! ### Downlink PDUs (R420) -/

/-- Set bits of a field. -/
def popCount (v n : Nat) : Nat := ((List.range n).filter v.testBit).length

/-- DMRS_POS: one to four symbols of the slot (R381, R420). -/
def dmrsOk (v : Nat) : Bool := decide (v < 2 ^ 14) && decide (1 ≤ popCount v 14 ∧ popCount v 14 ≤ 4)

/-- BEAM_SET: a fixed beam, or 0xFFFF (R400). -/
def beamOk (v : Nat) : Bool := decide (v < 4096) || v == 0xFFFF

/-- Codeword `i` of a PDSCH. -/
def cwOk (b : List Byte) (i : Nat) : Bool :=
  let o := 32 + 12 * i
  decide (1 ≤ byteField b o 4) && decide (1 ≤ byteField b (o + 4) 2 ∧ byteField b (o + 4) 2 < 1024) && [2, 4, 6, 8].contains (byteField b (o + 6) 1) &&
  decide (byteField b (o + 7) 1 ≤ 3) && zeroAt b (o + 8) 4

def pdschOk (k : CellCfg) (b : List Byte) : Bool :=
  let ncw := byteField b 19 1
  decide (1 ≤ ncw ∧ ncw ≤ 2) && b.length == (if ncw = 1 then 48 else 56) && decide (byteField b 10 2 ≤ 1023) && decide (1 ≤ byteField b 14 2) &&
  decide (byteField b 16 1 ≤ 13) && decide (1 ≤ byteField b 17 1 ∧ byteField b 16 1 + byteField b 17 1 ≤ 14) &&
  decide (1 ≤ byteField b 18 1 ∧ byteField b 18 1 ≤ 8) && dmrsOk (byteField b 20 2) && decide (byteField b 22 1 < 16) &&
  decide (2 ≤ byteField b 22 1 % 8) && (k.mu == 3 || !(byteField b 22 1).testBit 3) && decide (byteField b 26 1 ≤ 1) &&
  beamOk (byteField b 28 2) && zeroAt b 30 2 && (List.range ncw).all (cwOk b) && zeroAt b (32 + 12 * ncw) (b.length - 32 - 12 * ncw)

def dciOk (b : List Byte) (n : Nat) : Bool :=
  let o := 24 + 40 * n
  [1, 2, 4, 8, 16].contains (byteField b (o + 4) 1) && decide (12 ≤ byteField b (o + 6) 2 ∧ byteField b (o + 6) 2 ≤ 140) &&
  beamOk (byteField b (o + 8) 2) && zeroAt b (o + 10) 6 && zeroAt b (o + 34) 6

def pdcchOk (b : List Byte) : Bool :=
  let n := byteField b 20 1
  let map := byteField b 14 1
  decide (1 ≤ n ∧ n ≤ 16) && b.length == 24 + 40 * n && byteField b 8 2 % 6 == 0 && byteField b 10 2 % 6 == 0 && decide (6 ≤ byteField b 10 2) &&
  decide (1 ≤ byteField b 13 1 ∧ byteField b 13 1 ≤ 3) && decide (byteField b 12 1 + byteField b 13 1 ≤ 14) && decide (map < 32) &&
  decide (map / 2 % 4 ≤ 2) && decide (map / 8 % 4 ≤ 2) && zeroAt b 15 1 && decide (byteField b 16 2 ≤ 274) && zeroAt b 21 3 && (List.range n).all (dciOk b)

def ssbOk (b : List Byte) : Bool :=
  b.length == 24 && decide (byteField b 8 2 ≤ 1007) && decide (byteField b 10 1 ≤ 63) && decide (byteField b 11 1 ≤ 1) &&
  decide (byteField b 12 2 ≤ 3287) && decide (byteField b 14 1 ≤ 4) && zeroAt b 15 1 && zeroAt b 19 1 && beamOk (byteField b 20 2) && zeroAt b 22 2

def csiRsOk (b : List Byte) : Bool :=
  b.length == 24 && decide (1 ≤ byteField b 10 2) && decide (1 ≤ byteField b 12 1 ∧ byteField b 12 1 ≤ 18) && decide (byteField b 13 1 ≤ 3) &&
  decide (byteField b 14 2 < 4096) && decide (byteField b 16 1 ≤ 13) && decide (byteField b 17 1 ≤ 13) && decide (byteField b 18 1 ≤ 3) &&
  decide (byteField b 19 1 ≤ 1) && decide (byteField b 20 2 ≤ 1023) && beamOk (byteField b 22 2)

/-- Form of a downlink PDU (R420). -/
def dlPduOk (k : CellCfg) (b : List Byte) : Bool :=
  match byteField b 0 2 with
  | 0x01 => pdschOk k b
  | 0x02 => pdcchOk b
  | 0x03 => ssbOk b
  | 0x04 => csiRsOk b
  | _ => false

/-- First resource block and resource blocks of a downlink PDU, none where its place is not given so. -/
def dlPrbs (b : List Byte) : Option (Nat × Nat) :=
  match byteField b 0 2 with
  | 0x01 => some (byteField b 12 2, byteField b 14 2)
  | 0x02 => some (byteField b 8 2, byteField b 10 2)
  | 0x04 => some (byteField b 8 2, byteField b 10 2)
  | _ => none

/-- Does a downlink PDU lie within the carrier (R423)? An SSB spans 240 subcarriers (TS 38.211). -/
def dlInCarrier (k : CellCfg) (b : List Byte) : Bool :=
  match dlPrbs b with
  | some (p, n) => decide (p + n ≤ k.nrb)
  | none => decide (byteField b 12 2 + 240 ≤ 12 * k.nrb)

/-! ### Uplink PDUs (R421) -/

def puschOk (k : CellCfg) (b : List Byte) : Bool :=
  let d := byteField b 22 1
  b.length == 48 && decide (byteField b 10 2 ≤ 1023) && decide (1 ≤ byteField b 14 2) && decide (byteField b 16 1 ≤ 13) &&
  decide (1 ≤ byteField b 17 1 ∧ byteField b 16 1 + byteField b 17 1 ≤ 14) && [1, 2, 4, 6, 8].contains (byteField b 18 1) &&
  (byteField b 18 1 != 1 || d.testBit 3) && decide (1 ≤ byteField b 19 1 ∧ byteField b 19 1 ≤ 4) && dmrsOk (byteField b 20 2) && decide (d < 16) &&
  decide (2 ≤ d % 8) && decide (byteField b 26 1 ≤ 1) && decide (byteField b 27 1 ≤ 3) && decide (1 ≤ byteField b 28 4) &&
  decide (1 ≤ byteField b 32 2 ∧ byteField b 32 2 < 1024) && decide (byteField b 34 1 < 8) && zeroAt b 35 1 &&
  decide (0 < k.harqEntry ∧ (byteField b 36 4 + 1) * k.harqEntry ≤ k.harqLen)

def pucchOk (b : List Byte) : Bool :=
  b.length == 32 && decide (byteField b 10 1 ≤ 4) && decide (byteField b 11 1 ≤ 13) &&
  decide (1 ≤ byteField b 12 1 ∧ byteField b 11 1 + byteField b 12 1 ≤ 14) && decide (byteField b 13 1 ≤ 3) &&
  decide (1 ≤ byteField b 16 1 ∧ byteField b 16 1 ≤ 16) && zeroAt b 17 1 && decide (byteField b 20 2 ≤ 1023) && decide (byteField b 22 1 ≤ 11) &&
  decide (byteField b 26 1 ≤ 4) && zeroAt b 27 1

def prachOk (b : List Byte) : Bool :=
  b.length == 24 && decide (byteField b 8 1 ≤ 10) && decide (1 ≤ byteField b 9 1 ∧ byteField b 9 1 ≤ 7) && decide (byteField b 10 1 ≤ 13) &&
  decide (1 ≤ byteField b 11 1 ∧ byteField b 11 1 ≤ 8) && decide (byteField b 12 2 ≤ 837) && decide (byteField b 14 1 ≤ 15) && zeroAt b 15 1 &&
  zeroAt b 18 6

def srsOk (b : List Byte) : Bool :=
  b.length == 24 && [1, 2, 4].contains (byteField b 10 1) && [1, 2, 4].contains (byteField b 12 1) &&
  decide (byteField b 11 1 + byteField b 12 1 ≤ 14) && [2, 4].contains (byteField b 13 1) && decide (byteField b 14 1 < byteField b 13 1) &&
  decide (byteField b 16 1 ≤ 63) && decide (byteField b 17 1 ≤ 3) && decide (byteField b 20 2 ≤ 1023) && decide (byteField b 22 1 ≤ 3) && zeroAt b 23 1

/-- Form of an uplink PDU (R421). -/
def ulPduOk (k : CellCfg) (b : List Byte) : Bool :=
  match byteField b 0 2 with
  | 0x11 => puschOk k b
  | 0x12 => pucchOk b
  | 0x13 => prachOk b
  | 0x14 => srsOk b
  | _ => false

/-- Does an uplink PDU lie within the carrier (R423)? -/
def ulInCarrier (k : CellCfg) (b : List Byte) : Bool :=
  match byteField b 0 2 with
  | 0x11 => decide (byteField b 12 2 + byteField b 14 2 ≤ k.nrb)
  | 0x12 => decide (byteField b 14 2 + byteField b 16 1 ≤ k.nrb) && (!(byteField b 13 1).testBit 0 || decide (byteField b 18 2 + byteField b 16 1 ≤ k.nrb))
  | 0x13 => decide (byteField b 16 2 < k.nrb)
  | _ => true

/-! ### Shared resource elements (R381, R396) -/

/-- First PRB, PRBs, first symbol, symbols, layers of a PDSCH or PUSCH. -/
def extent (b : List Byte) : Nat × Nat × Nat × Nat × Nat :=
  (byteField b 12 2, byteField b 14 2, byteField b 16 1, byteField b 17 1, if byteField b 0 2 = 1 then byteField b 18 1 else byteField b 19 1)

/-- Do two PDSCH, or two PUSCH, share a resource element? -/
def overlap (a b : List Byte) : Bool :=
  match extent a, extent b with
  | (p, n, s, t, _), (q, m, u, v, _) => decide (p < q + m ∧ q < p + n ∧ s < u + v ∧ u < s + t)

/-- The PDUs of `l` that a group reaches: those that overlap a member, and so on (R396). -/
def reach (fuel : Nat) (group l : List (List Byte)) : List (List Byte) :=
  match fuel with
  | 0 => group
  | fuel + 1 =>
    match l.filter (fun b => group.any (overlap b)) with
    | [] => group
    | near => reach fuel (group ++ near) (l.filter (fun b => !group.any (overlap b)))

/-- Layers of the group that a PDU forms with accepted ones. -/
def groupLayers (b : List Byte) (accepted : List (List Byte)) : Nat :=
  (reach accepted.length [b] accepted).foldl (fun n p => n + (extent p).2.2.2.2) 0

/-! ### Soft sizes (R406, R407; TS 38.212, PRESUMED, log entry 18) -/

/-- Base graph, code blocks, lifting size and soft bits of each block, for a transport block of `tbs` bits at rate `rate` / 1,024. -/
def softSize (cell tbs rate : Nat) (lbrm : Bool) : Nat × Nat × Nat × Nat :=
  let bg := if tbs ≤ 292 ∨ (tbs ≤ 3824 ∧ 100 * rate ≤ 67 * 1024) ∨ 4 * rate ≤ 1024 then 1 else 0
  let b := tbs + (if 3824 < tbs then 24 else 16)
  let kcb := if bg = 0 then 8448 else 3840
  let blocks := if b ≤ kcb then 1 else ceilDiv b (kcb - 24)
  let kp := ceilDiv (b + (if blocks = 1 then 0 else 24 * blocks)) blocks
  let kb := if bg = 0 then 22 else if 640 < b then 10 else if 560 < b then 9 else if 192 < b then 8 else 6
  let zc := ((List.range 385).find? (fun z => liftOk z && decide (kp ≤ kb * z))).getD 384
  let n := (if bg = 0 then 66 else 50) * zc
  (bg, blocks, zc, if lbrm then min n (Config.lbrmRef cell blocks) else n)

end Sys2Proof.Machine
end

