-- ==== Sys2Proof/Machine/Launch.lean ====
section
/-! DEFINITION. Launches: comparators that match, late policies, launch groups; the commands COMPARATOR_MATCH, COMMIT_POINT, GROUP_ORPHAN,
GROUP_FREE, TIM_GRP_ABORT, LAUNCH_COUNTER_CORRECT (R79 to R95, R120, R290). -/
namespace Sys2Proof.Machine

/-- A cluster has the lowest 48 launch points, the Kudu engines the next 12. -/
def isCmp (pt idx : Nat) : Bool := decide (pt < 60) && decide (idx < cmpCount pt)

def State.cmp (s : State) (pt idx : Nat) : Option Cmp := s.sched.cmps.find? (fun c => c.pt == pt && c.idx == idx)

/-- A comparator is marked late: counted once (R85). -/
def State.markLate (s : State) (c : Cmp) : State :=
  if c.waiting then s
  else
    let s := { s with sched := { s.sched with cmps := s.sched.cmps.map (fun (k : Cmp) =>
      if k.pt = c.pt ∧ k.idx = c.idx then { k with waiting := true } else k) } }
    s.count Reg.TIM_LATE_CNT 1

/-! ### Groups (R90 to R94) -/

/-- Every participant of a group is freed without executing, and reports (R91). -/
def State.groupFail (s : State) (g code : Nat) : State :=
  (s.sched.cmps.filter (fun c => c.group == some g)).foldl (fun s c =>
    let s := (s.dropCmp c.pt c.idx).groupDone (some g)
    if c.armed then
      let l := s.sched.armed.filter (fun l => l.ctx == c.ctx && l.id == c.list)
      let s := { s with sched := { s.sched with armed := s.sched.armed.filter (fun l => !(l.ctx == c.ctx && l.id == c.list)) } }
      l.foldl (fun s l => s.listRecord l code 0 0) s
    else s.failList c.unit code) s

/-- An owner group that is not COMMITTED is aborted, and its members are told (R90). -/
def State.abortGroup (s : State) (g : Nat) : State :=
  (({ s with sched := { s.sched with groups := s.sched.groups.set g { s.group g with st := .aborted } } }).groupFail g 0x27).tellMembers g gmAbort

/-- COMMIT_POINT (R90). -/
def execCommitPoint (g : Nat) (s : State) : Res :=
  if 256 ≤ g then .fault .noSuchPart
  else
    let x := s.group g
    if x.owner && (x.st == .arming || x.st == .ready) && decide (x.commitAt ≤ s.now) then .next (s.abortGroup g) else .next s

/-- GROUP_ORPHAN (R90, R91). -/
def execGroupOrphan (g : Nat) (s : State) : Res :=
  if 256 ≤ g then .fault .noSuchPart
  else
    let x := s.group g
    if !x.owner && (x.st == .arming || x.st == .ready) && decide (stampTc x.stamp ≤ s.now) then
      .next (((s.setGroup g { x with st := .orphaned }).groupFail g 0x28).sendGroup x.ownerNode gmOrphan x.ownerIdx g 0 x.stamp 0)
    else .next s

/-- GROUP_FREE (R94): every local participant has launched or been freed and, on an owner, every member has reported or the stamp has passed
by one frame. -/
def execGroupFree (g : Nat) (s : State) : Res :=
  if 256 ≤ g then .fault .noSuchPart
  else
    let x := s.group g
    let held := s.sched.cmps.any (fun c => c.group == some g)
    let localDone := match x.st with
      | .committed => decide (x.count ≤ x.done) && !held
      | .aborted => !held
      | .orphaned => !held
      | _ => false
    let told := !x.owner || x.members.all (fun m => m.ready || m.gone) || decide (stampTc x.stamp + frameTc ≤ s.now)
    if localDone && told then .next (s.setGroup g {}) else .next s

/-- TIM_GRP_ABORT (R97): acts only on an owner group before COMMITTED. -/
def execTimGrpAbort (g : Nat) (s : State) : Res :=
  if 256 ≤ g then .fault .noSuchPart
  else .next (s.bar2 Reg.TIM_GRP_ABORT 4 g (fun (s : State) =>
    let x := s.group g
    if x.owner && (x.st == .arming || x.st == .ready) then s.abortGroup g else s))

/-! ### Matches (R79, R85, R91, R120, R290) -/

/-- Has the feed FIFO of a fenced stream met its fence (R166, R290)? -/
def fenceUnmet (s : State) (c : Cmd) (u : Nat) : Bool :=
  cFence c && (let i := s.array (uIdx u)
    let n := cmdField c 24 4
    decide (i.fifo < min n 16384))

/-- Is a member of a multicast stream not yet at its stream command, or its fence unmet (R170)? -/
def State.mcastUnmet (s : State) (c : Cmd) (u : Nat) : Bool :=
  cOp c == 0x21 && (List.range 8).any (fun i =>
    let v := uIbex (uIdx u / 8 * 8 + i)
    (bits c 458 8).testBit i && v != u &&
    (match s.run v with
     | some r => (match r.buf with
       | d :: _ => !(cOp d == 0x21 && bits d 458 8 == bits c 458 8 && decide (r.idx ≠ 0)) || fenceUnmet s d v
       | [] => true)
     | none => true))

/-- The current command of a unit launches: its comparator frees, and it goes on to its handle or its fence. -/
def State.launchCmd (s : State) (k : Cmp) (late : Bool) : State :=
  let s := (s.dropCmp k.pt k.idx).groupDone k.group
  let s := if late then s.noteLate k.unit 0x24 else s
  match s.run k.unit with
  | none => s
  | some r => match r.buf with
    | [] => s
    | c :: _ => s.setRun k.unit (some { r with stage := afterLaunch c })

/-- A stamped command that is late takes its policy: RUN as soon as its window admits it, SKIP, FAIL (R85, R120). -/
def State.lateCmd (s : State) (k : Cmp) (admitted : Bool) : State :=
  let s := s.markLate k
  match k.late with
  | 0 => if admitted then s.launchCmd k true else s
  | 1 => (((s.dropCmp k.pt k.idx).groupDone k.group).noteLate k.unit 0x25).advance k.unit
  | _ => ((s.dropCmp k.pt k.idx).groupDone k.group).failList k.unit 0x26

/-- An armed list leaves the armed lists, and its comparator frees. -/
def State.disarm (s : State) (k : Cmp) : State :=
  let s := (s.dropCmp k.pt k.idx).groupDone k.group
  { s with sched := { s.sched with armed := s.sched.armed.filter (fun l => !(l.ctx == k.ctx && l.id == k.list)) } }

/-- An armed list whose stamp has come: it starts, is refused with its unit's status, or takes its late policy (R85, R120, R125, R251). -/
def State.matchList (s : State) (k : Cmp) : State :=
  match s.sched.armed.find? (fun l => l.ctx == k.ctx && l.id == k.list), s.ctx? k.ctx with
  | some l, some x =>
    if x.resident && s.unitRefused x l.cls l.unit then (s.disarm k).listRecord l (quarStatus l.cls) 0 0
    else
      let units := if l.cls = 0 then [uSvc x.id] else if l.unit ≠ 255 then [classUnit l.cls x.cluster l.unit]
        else (List.range (classSize l.cls)).map (classUnit l.cls x.cluster)
      let free := units.find? (fun u => (s.run u).isNone && (decide (0x10000 ≤ u) || s.unitIn u) && !s.swapHolds u)
      let u := free.getD k.unit
      let go := free.isSome && s.mayRun x l && s.fits x l u
      if go && !k.waiting then (s.disarm k).launchList x l u
      else
        let s := s.markLate k
        match k.late with
        | 0 => if go then
            (s.disarm k).launchList x { l with lateCnt := l.lateCnt + 1, lateCode := if l.lateCnt = 0 then 0x24 else l.lateCode } u
          else s
        | 1 => (s.disarm k).listRecord l 0x25 0 1
        | _ => (s.disarm k).listRecord l 0x26 0 1
  | _, _ => s.dropCmp k.pt k.idx

/-- COMPARATOR_MATCH (R79, R82 to R85, R91, R120): the local counter has reached the stamp. A participant launches only when its group is
COMMITTED; while its group is neither committed nor ended it waits. -/
def execComparatorMatch (pt idx : Nat) (s : State) : Res :=
  if !isCmp pt idx then .fault .noSuchPart
  else
    match s.cmp pt idx with
    | none => .next s
    | some k =>
      if s.localNow < stampTc k.stamp then .next s
      else
        let gst := match k.group with | none => GrpState.committed | some g => (s.group g).st
        match gst with
        | .committed =>
          if k.armed then .next (s.matchList k)
          else
            match s.run k.unit with
            | none => .next (s.dropCmp pt idx)
            | some r =>
              match r.buf, s.ctx? r.list.ctx with
              | c :: _, some x =>
                let admitted := s.admits (x.cluster / 4) x
                if k.waiting || !admitted || fenceUnmet s c k.unit || s.mcastUnmet c k.unit then .next (s.lateCmd k admitted) else .next (s.launchCmd k false)
              | _, _ => .next (s.dropCmp pt idx)
        | .aborted => .next (match k.group with | some g => s.groupFail g 0x27 | none => s)
        | .orphaned => .next (match k.group with | some g => s.groupFail g 0x28 | none => s)
        | _ => .next s

/-- LAUNCH_COUNTER_CORRECT (R79): the local copies are corrected from the hub, once every 1,024 Tc. -/
def execLaunchCounterCorrect (s : State) : Res :=
  if s.time.correctedAt + 1024 ≤ s.now ∨ s.now < s.time.correctedAt then
    .next { s with time := { s.time with drift := 0, correctedAt := s.now } }
  else .next s

end Sys2Proof.Machine
end

