-- ==== Sys2Proof/Machine/Service.lean ====
section
/-! DEFINITION. Service commands, lists, handles, and the ends of contexts (R249 to R258, R261, R262, R282 to R293, R592, R593, R788). -/
namespace Sys2Proof.Machine

/-! ### Submissions (R590 to R593) -/

/-- Opcodes that a host may submit (R592). -/
def hostOp (op : Nat) : Bool := [0, 2, 3, 4, 6, 7, 8, 9, 0xA, 0xB, 0xC, 0xD, 0xE, 0x10, 0x11, 0x12, 0x13, 0x14, 0x15, 0x16, 0x17].contains op

/-- Host opcodes that appear in command lists too, and may carry STAMP, LATE, GROUP and GIDX (R592). -/
def hostListable (op : Nat) : Bool := [0, 2, 3, 4, 6, 7, 8, 9, 0xA, 0xB, 0xC].contains op

/-- Word 0 and word 1 of a submission (R592). -/
def hostWord0Ok (c : Cmd) : Bool :=
  bits c 20 7 == 0 && (cOp c == 7 || cRelq c == 0) && bits c 30 18 == 0 && cLate c != 3 &&
  (cStamp c || bits c 64 64 == 0) && (!cGroup c || cStamp c) &&
  (hostListable (cOp c) || (!cStamp c && cLate c == 0 && !cGroup c && cGidx c == 0))

/-- Payload of a submission (R282, R592); those of the inference service are checked apart. -/
def hostPayloadOk (c : Cmd) : Bool :=
  match cOp c with
  | 0x0D | 0x0E => servicePayloadOk (cOp c) c && zb c 56 8
  | 0x10 | 0x11 | 0x12 | 0x13 => true
  | 0x14 => refOk01 (cmdField c 16 8) && zb c 26 38
  | 0x15 => refOk01 (cmdField c 24 8) && decide (1 ≤ cmdField c 32 4) && decide (cmdField c 36 1 ≤ 1) && zb c 37 19 && zb c 58 6 && (cmdField c 24 8 / 2 ^ 60 == 1 || zb c 56 2)
  | 0x16 => cmdField c 16 8 % 8 == 0 && zb c 28 36
  | 0x17 => cmdField c 16 8 % 8 == 0 && zb c 26 38
  | op => servicePayloadOk op c && zb c 58 6

/-- Is a submission allowed for its function and queue kind, and well formed (R593 check 1)? -/
def State.subOk (s : State) (fn q : Nat) (c : Cmd) : Bool :=
  let op := cOp c
  hostOp op && hostWord0Ok c && hostPayloadOk c &&
  (if op = 0xD ∨ op = 0xE ∨ (0x10 ≤ op ∧ op ≤ 0x13) then fn != pf0 else if op = 0x16 then fn == pf0 && (s.qp fn q).ssi else true)

/-- May the device take the submission at the head of a pair's SQ (R590, R599)? -/
def State.subReady (s : State) (fn q : Nat) : Bool :=
  isFn fn && decide (q < 8) && s.qpOn fn q && decide ((s.qp fn q).store.length < 256)

/-- The submission at the head is accepted: it leaves the SQ, is logged, and its record will go to the paired CQ (R591, R598, R613, R641, R644,
R647). -/
def State.popSub (s : State) (fn q : Nat) : Report × State :=
  let x := s.qp fn q
  let s := s.logIn 5 0x02 fn (BitVec.ofNat 64 (q + x.sqHead * 2 ^ 3 + (s.fn fn).gen * 2 ^ 15)) (leBytes 64 ((x.sq.headD 0).toNat))
  (.cq fn q x.sqHead (s.fn fn).gen x.accepted,
   s.setQp fn q { x with sq := x.sq.drop 1, sqHead := (x.sqHead + 1) % (x.sqSize + 1), accepted := x.accepted + 1 })

/-- Submissions at the head whose opcode no host may submit are refused (R592). -/
def State.refuseBad (s : State) (fn q fuel : Nat) : State :=
  match fuel with
  | 0 => s
  | fuel + 1 =>
    match (s.qp fn q).sq with
    | [] => s
    | c :: _ =>
      if hostOp (cOp c) ∨ !s.subReady fn q then s
      else
        let p := s.popSub fn q
        match p.1 with
        | .none => s
        | .cq f q' slot gen ord =>
          (p.2.post f q' { code := if s.health.role = .expelled then 0xD2 else 0x60, kind := 0, slot := slot, ref := 0, detail := 0, gen := gen, ord := ord }).refuseBad fn q fuel

/-! ### A service command, where it stands -/

/-- A service command about to act: the command, the context for which it acts, the function that submitted it or the tenant of its list,
where its record goes, a status that refuses it (0 none), and the state once it is taken. -/
structure Svc where
  cmd : Cmd
  ctx : Option Ctx
  fn : Nat
  rep : Report
  code : Nat
  st : State

/-- What a service command does: ends with a status and DETAIL, waits as it stands, or ends later. -/
inductive SvcOut where
  | done (code : Nat) (detail : BitVec 128) (s : State)
  | hold
  | later (s : State)

/-- May the function act for a context (R593 checks 2 and 3)? -/
def State.subCtx (s : State) (fn id : Nat) : Option Ctx × Nat :=
  match s.ctx? id with
  | none => (none, 0xC0)
  | some x => if fn ≠ pf0 ∧ (x.radio ∨ x.owner ≠ fn) then (none, 0xC0) else if x.ending then (some x, 0xC2) else (some x, 0)

/-- The service command with opcode `op` where `o` says, if it is there and may be taken. `ctxAt` is the byte at which a submission names its
context, 0 for none. -/
def State.svc (s : State) (o : Origin) (op ctxAt : Nat) : Option Svc :=
  match o with
  | .unit u =>
    match s.cur u op with
    | none => none
    | some (r, c, x) =>
      if u < 0x10000 ∧ 1024 ≤ s.sched.service.length then none
      else some { cmd := c, ctx := some x, fn := if x.radio then pf0 else x.owner, rep := r.list.report, code := 0, st := s }
  | .host fn q =>
    match (s.qp fn q).sq with
    | [] => none
    | c :: _ =>
      if cOp c ≠ op ∨ !s.subReady fn q then none
      else
        let p := s.popSub fn q
        let k := if s.health.role = .expelled then (none, 0xD2) else if !s.subOk fn q c then (none, 0x60) else if ctxAt = 0 then (none, 0) else s.subCtx fn (cmdField c ctxAt 2)
        some { cmd := c, ctx := k.1, fn := fn, rep := p.1, code := k.2, st := p.2 }

/-- The unit of a list holds for the hub's acknowledgement; the hub's own service list needs none (R252, R258). -/
def State.toHub (s : State) (u : Nat) : State :=
  match s.run u with
  | none => s
  | some r =>
    let s := s.setRun u (some { r with stage := .onService })
    if 0x10000 ≤ u then s else { s with sched := { s.sched with service := s.sched.service ++ [u] } }

/-- A service command has ended with a status: a submission has its record; a unit's list waits for the acknowledgement, or stops (R258, R297,
R598). -/
def State.svcEnd (s : State) (o : Origin) (rep : Report) (code : Nat) (detail : BitVec 128) : State :=
  match o with
  | .unit u =>
    (match s.run u with
     | none => s
     | some r =>
       if r.ending.isSome then s
       else if code ≠ 0 then s.failList u code
       else if 0x10000 ≤ u then s.advance u
       else s.toHub u)
  | .host fn q => (s.finishService none rep code detail).refuseBad fn q 4096

/-- A service command acts by `f` when it stands where `o` says. -/
def State.service (s : State) (o : Origin) (op ctxAt : Nat) (f : Svc → SvcOut) : Res :=
  match s.svc o op ctxAt with
  | none => .next s
  | some v =>
    if v.code ≠ 0 then .next (v.st.svcEnd o v.rep v.code 0)
    else
      match f v with
      | .hold => .next s
      | .done code d t => .next (t.svcEnd o v.rep code d)
      | .later t => .next (match o with | .unit u => t.toHub u | .host fn q => t.refuseBad fn q 4096)

/-- SERVICE_ACK (R258): the hub acknowledges the oldest command of its queue that a unit passed; a join is acknowledged by its answer. -/
def execServiceAck (u : Nat) (s : State) : Res :=
  if !isUnit u then .fault .noSuchPart
  else
    match s.run u with
    | none => .next s
    | some r =>
      if r.stage ≠ .onService || r.ending.isSome || s.sched.joins.any (fun j => j.2.unit == some u) then .next s
      else .next ({ s with sched := { s.sched with service := s.sched.service.filter (fun v => v != u) } }.advance u)

/-! ### Simple service commands -/

/-- NOP (R592). -/
def execNop (o : Origin) (s : State) : Res := s.service o 0x00 0 (fun v => .done 0 0 v.st)

/-- LIST (R253, R254, R256): the header is current; the list goes on to its first command. -/
def execListHdr (u : Nat) (s : State) : Res :=
  if !isUnit u then .fault .noSuchPart
  else
    match s.run u with
    | none => .next s
    | some r =>
      if r.idx ≠ 0 || r.ending.isSome then .next s
      else
        match r.buf with
        | [] => .next (s.enterCmd u)
        | c :: _ => .next (if headerOk c then s.advance u else s.failList u 0x60)

/-- NOTIFY (R282, R597, R598): a record with the user value, to the CQ of its list. -/
def execNotify (o : Origin) (s : State) : Res :=
  s.service o 0x05 0 (fun v =>
    match o, v.rep with
    | .unit u, .cq f q _ gen ord =>
      (match s.run u with
       | none => .done 0 0 v.st
       | some r =>
         if r.list.own then .done 0 0 v.st
         else .done 0 0 (v.st.post f q { code := 0, kind := 3, slot := 0xFFFF, ref := r.list.id, detail := BitVec.ofNat 128 (cmdField v.cmd 16 8), gen := gen,
                                         ord := ord, aux := r.list.ctx + r.idx * 2 ^ 16 }))
    | _, _ => .done 0 0 v.st)

/-- CANCEL (R291, R292). -/
def execCancel (o : Origin) (s : State) : Res :=
  s.service o 0x06 56 (fun v =>
    match v.ctx with
    | none => .done 0xC0 0 v.st
    | some x =>
      let id : DWord := BitVec.ofNat 64 (cmdField v.cmd 16 8)
      if v.st.liveList x.id id then .done 0 0 (v.st.cancelList x.id id).reapSteps else .done 0x66 0 v.st)

/-! ### Arming (R83, R262, R282, R786) -/

/-- May the arming context arm a list of the target (R262)? -/
def armOk (x y : Ctx) : Bool :=
  y.id == x.id || (!x.radio && !y.radio && x.owner == y.owner) || (x.radio && y.radio) || (x.radio && !y.radio && y.radioWork)

/-- A list is armed on a comparator of the target's launch point (R83 to R86, R94, R260, R786): its status and the state. -/
def State.armList (s : State) (y : Ctx) (l : ListRec) (c : Cmd) : Nat × State :=
  let stamp := cWord1 c
  let code := s.stampChk stamp
  let gcode := if cGroup c then s.groupChk (cGidx c) stamp else 0
  if code ≠ 0 then (code, s.countRefuse code)
  else if gcode ≠ 0 then (gcode, s)
  else
    let u := if l.cls = 0 then uSvc y.id else classUnit l.cls y.cluster (if l.unit = 255 then 0 else l.unit)
    let pt := if l.cls = 4 then 48 + y.cluster / 4 else y.cluster
    match (if y.resident then s.freeCmp pt else none) with
    | none => (0x20, s.countRefuse 0x20)
    | some i =>
      let late := decide (stampTc stamp ≤ s.localNow)
      let k : Cmp := { pt := pt, idx := i, stamp := stamp, unit := u, ctx := y.id, list := l.id, armed := true, late := cLate c,
                       group := if cGroup c then some (cGidx c) else none, waiting := late }
      let s := { s with sched := { s.sched with cmps := s.sched.cmps ++ [k], armed := s.sched.armed ++ [l] } }
      let s := if late then s.count Reg.TIM_LATE_CNT 1 else s
      (0, if cGroup c then s.groupArm (cGidx c) else s)

/-- ARM (R83, R262, R282). Its class and unit are those of the list's header. -/
def execArm (o : Origin) (s : State) : Res :=
  s.service o 0x02 56 (fun v =>
    match v.ctx, v.st.ctx? (cmdField v.cmd 24 2) with
    | some x, some y =>
      let pf := match o with | .host fn _ => fn == pf0 | .unit _ => false
      if !pf && !armOk x y then .done 0x6D 0 v.st
      else
        match v.st.admitList y (cmdField v.cmd 16 8) v.rep false with
        | (code, l, t) =>
          if code ≠ 0 then .done code 0 t
          else
            match l with
            | none => .done 0x60 0 t
            | some l =>
              if l.cls ≠ cmdField v.cmd 26 1 ∨ l.unit ≠ cmdField v.cmd 27 1 then .done 0x60 0 t
              else let r := t.armList y l v.cmd; .done r.1 0 r.2
    | _, _ => .done 0x6D 0 v.st)

/-! ### Launch groups (R89, R94) -/

/-- Is a group index free? -/
def State.groupFree (s : State) (g : Nat) : Bool := (s.group g).st == .free && (s.sched.joins.find g).isNone

/-- GROUP_CREATE (R58, R86, R89, R94). -/
def execGroupCreate (o : Origin) (s : State) : Res :=
  s.service o 0x03 56 (fun v =>
    match v.ctx with
    | none => .done 0xC0 0 v.st
    | some x =>
      let g := cGidx v.cmd
      let n := cmdField v.cmd 22 1
      let ofs := cmdField v.cmd 24 4
      let stamp := cWord1 v.cmd
      let spans : List Span := if n = 0 then [] else [(v.st.poolAddr x ofs, 2 * n)]
      if v.st.poolChk x ofs (2 * n) ≠ 0 then .done 0x63 0 v.st
      else
        let rd := v.st.readSpans spans x.asOwner
        let b := rd.2.rdSpans spans
        let nodes := (List.range n).map (fun i => byteField b (2 * i) 2)
        if rd.1 then .done 0xAA 0 rd.2
        else if !stampOk stamp then .done 0x21 0 rd.2
        else if rd.2.time.st = .freerun then .done 0x23 0 (rd.2.countRefuse 0x23)
        else if !rd.2.groupFree g then .done 0x29 0 rd.2
        else if 432 < cmdField v.cmd 20 2 ∨ nodes.contains (rd.2.self % 4096) ∨ !decide nodes.Nodup then .done 0x2B 0 rd.2
        else .done 0 0 (rd.2.setGroup g { st := .arming, owner := true, stamp := stamp, lead := cmdField v.cmd 16 4, count := cmdField v.cmd 20 2, ctx := x.id,
                                          members := nodes.map (fun a => { idx := 0, node := a, joined := false, ready := false, gone := false }) }))

/-- GROUP_JOIN (R94): a join goes to the owner; the command ends when the owner answers. -/
def execGroupJoin (o : Origin) (s : State) : Res :=
  s.service o 0x04 56 (fun v =>
    match v.ctx with
    | none => .done 0xC0 0 v.st
    | some x =>
      let g := cGidx v.cmd
      let node := cmdField v.cmd 16 2
      if !v.st.groupFree g then .done 0x29 0 v.st
      else if 432 < cmdField v.cmd 20 2 then .done 0x2B 0 v.st
      else
        let dest := node + v.st.self / 4096 * 4096
        if (v.st.planeFor dest 0).isNone then .done 0xB0 0 (v.st.count Reg.FAB_LOST_CNT 1)
        else
          let unit := match o with | .unit u => some u | .host _ _ => none
          let j : Join := { node := dest, idx := cmdField v.cmd 18 1, count := cmdField v.cmd 20 2, ctx := x.id,
                            stamp := if cStamp v.cmd then cWord1 v.cmd else 0, unit := unit, report := v.rep }
          let t := { v.st with sched := { v.st.sched with joins := v.st.sched.joins.set g j } }
          .later (t.sendGroup dest gmJoin j.idx g 0 0 (1000 + g)))

/-! ### Handles (R82, R284 to R289, R788) -/

/-- The handle that 32 bytes spell, when they are well formed (R284). -/
def parseHandle (b : List Byte) : Option Handle :=
  let base := byteField b 0 4
  let len := byteField b 4 4
  let fl := byteField b 8 1
  if base < 2 ^ 23 ∧ 1 ≤ len ∧ len ≤ 8388608 ∧ fl < 8 ∧ byteField b 9 1 = 0 ∧ byteField b 12 4 = 0 ∧ (fl.testBit 2 ∨ byteField b 24 8 = 0) then
    some { base := base, len := len, partialMark := fl.testBit 0, ahead := fl.testBit 1, visSet := fl.testBit 2, owner := byteField b 10 2,
           list := BitVec.ofNat 64 (byteField b 16 8), vis := BitVec.ofNat 64 (byteField b 24 8), visible := false }
  else none

/-- A handle is released into a queue; none when it must wait: the queue is full, or the context is in SWAP_OUT or SWAP_IN. What reaches an
ended context is discarded (R288, R289, R788). -/
def State.putHandle (s : State) (ctx q : Nat) (h : Handle) : Option State :=
  match s.ctx? ctx with
  | none => some s
  | some x =>
    if x.st = .swapOut ∨ x.st = .swapIn ∨ 32 ≤ (x.hqueue q).length then none
    else some (s.setCtx (x.setHqueue q (x.hqueue q ++ [{ h with visible := false }])))

/-- HANDLE_PUT (R58, R86, R261, R282, R288, R788). -/
def execHandlePut (o : Origin) (s : State) : Res :=
  s.service o 0x07 56 (fun v =>
    match v.ctx, parseHandle (leBytes 32 (cmdField v.cmd 16 32)) with
    | some x, some h =>
      if !v.st.dctxOk x (cDctx v.cmd) then .done 0x64 0 v.st
      else if h.visSet && !stampOk h.vis then .done 0x21 0 v.st
      else if h.visSet && v.st.time.st == .freerun then .done 0x23 0 (v.st.countRefuse 0x23)
      else
        match v.st.putHandle (if cDctx v.cmd = 0xFFFF then x.id else cDctx v.cmd) (cRelq v.cmd) h with
        | none => .hold
        | some t => .done 0 0 t
    | _, _ => .done 0x60 0 v.st)

/-- HANDLE_RELEASE (R288): the next output handle of a unit's command enters its queue; after the last the unit goes on. -/
def execHandleRelease (u : Nat) (s : State) : Res :=
  if !isUnit u then .fault .noSuchPart
  else
    match s.run u with
    | none => .next s
    | some r =>
      match r.out with
      | [] => .next s
      | (ctx, q, h) :: rest =>
        if r.ending.isSome then .next s
        else
          match s.putHandle ctx q h with
          | none => .next s
          | some t =>
            let t := t.setRun u (some { r with out := rest })
            .next (if rest = [] ∧ r.stage = .releasing then t.advance u else t)

/-- The first handle of a queue that is not yet visible becomes visible, when its stamp lets it (R82, R287, R289). `stamped` asks for one whose
stamp held it. -/
def State.showHandle (s : State) (ctx q : Nat) (stamped : Bool) : State :=
  match s.ctx? ctx with
  | none => s
  | some x =>
    let l := x.hqueue q
    match l.find? (fun h => !h.visible) with
    | none => s
    | some h =>
      if (stamped && !h.visSet) || (h.visSet && decide (s.localNow < stampTc h.vis)) then s
      else
        let n := (l.takeWhile (fun h => h.visible)).length
        (s.setCtx (x.setHqueue q (modNth l n (fun h => { h with visible := true })))).refresh ctx

/-- HANDLE_VISIBLE (R288, R289). -/
def execHandleVisible (ctx q : Nat) (s : State) : Res := if 8 ≤ q then .fault .noSuchPart else .next (s.showHandle ctx q false)

/-- VISIBILITY_STAMP_DUE (R82). -/
def execVisibilityStampDue (ctx q : Nat) (s : State) : Res := if 8 ≤ q then .fault .noSuchPart else .next (s.showHandle ctx q true)

/-- Units that wait for a context's queue. -/
def State.waiters (s : State) (ctx q : Nat) : List Nat :=
  (s.sched.units.filter (fun p => match p.2.run with
    | none => false
    | some r => r.list.ctx == ctx && r.stage == .onHandle && r.ending.isNone &&
        (match r.buf with | c :: _ => cWaitq c == q | [] => false))).map (·.1)

/-- HANDLE_WAIT_MET (R287): the waiting unit of lowest code takes the visible head. -/
def execHandleWaitMet (u : Nat) (s : State) : Res :=
  if !isUnit u then .fault .noSuchPart
  else
    match s.run u with
    | none => .next s
    | some r =>
      match r.buf, s.ctx? r.list.ctx with
      | c :: _, some x =>
        let q := cWaitq c
        if r.stage ≠ .onHandle || r.ending.isSome || (s.waiters x.id q).any (fun v => decide (v < u)) || !x.headVisible q then .next s
        else
          match x.hqueue q with
          | [] => .next s
          | h :: rest =>
            .next ((s.setCtx (x.setHqueue q rest)).setRun u (some { r with taken := some h, handles := r.handles ++ [(q, h)],
                                                                           stage := if cFence c then .onFence else .ready })).drainIn
      | _, _ => .next s

/-! ### Page directives (R282, R495, R496) -/

/-- A page directive is passed to the migration engine; it ends on acceptance (R258, R496). -/
def State.pageCmd (v : Svc) (op : Nat) : SvcOut :=
  match v.ctx with
  | none => .done 0xC0 0 v.st
  | some x =>
    let c := v.cmd
    let r := v.st.directive op (cmdField c 16 8) (cmdField c 24 4) (cmdField c 28 1) (cmdField c 29 1) (cmdField c 30 1 == 1) x.asOwner x.id (x.cluster / 4)
    .done r.1 0 r.2

/-- PLACE (R495). -/
def execPlace (o : Origin) (s : State) : Res := s.service o 0x08 56 (fun v => State.pageCmd v dPlace)

/-- PROMOTE (R495). -/
def execPromote (o : Origin) (s : State) : Res := s.service o 0x09 56 (fun v => State.pageCmd v dPromote)

/-- EVICT (R495). -/
def execEvict (o : Origin) (s : State) : Res := s.service o 0x0A 56 (fun v => State.pageCmd v dEvict)

/-- PIN (R495). -/
def execPin (o : Origin) (s : State) : Res := s.service o 0x0B 56 (fun v => State.pageCmd v dPin)

/-- UNPIN (R495). -/
def execUnpin (o : Origin) (s : State) : Res := s.service o 0x0C 56 (fun v => State.pageCmd v dUnpin)

/-! ### Contexts (R136, R282, R788) -/

/-- CTX_CREATE (R136, R137, R283): the record returns the ID. -/
def execCtxCreate (o : Origin) (s : State) : Res :=
  s.service o 0x0D 0 (fun v =>
    let c := v.cmd
    let pin := if cmdField c 18 1 = 0xFF then none else some (cmdField c 18 1)
    match v.st.createCtx v.fn (cmdField c 16 2) pin none (cmdField c 19 1) none with
    | (code, id, t) => .done code (BitVec.ofNat 128 (if code = 0 then id else 0)) t)

/-- CTX_END (R282, R565): the context is to end once its running lists end. -/
def execCtxEnd (o : Origin) (s : State) : Res :=
  s.service o 0x0E 16 (fun v =>
    match v.ctx with
    | none => .done 0xC0 0 v.st
    | some x =>
      let t := v.st.setCtx { x with ending := true }
      .done 0 0 { t with fab := { t.fab with recs := t.fab.recs.filter (fun r => r.ctx != x.id) } })

/-- CONTEXT_END (R282, R788). -/
def execContextEnd (ctx : Nat) (s : State) : Res :=
  match s.ctx? ctx with
  | none => .next s
  | some x => .next (if s.mayEnd x then s.dropCtx ctx else s)

/-! ### Starting lists (R249 to R252) -/

/-- A queued list leaves its queue with a record. -/
def State.refuseList (s : State) (x : Ctx) (l : ListRec) (code : Nat) : State :=
  (s.setCtx { x with queue := x.queue.filter (fun k => k.seq != l.seq) }).listRecord l code 0 0

/-- LIST_START (R250 to R252, R787): a queued list of the class starts on its unit, or is refused for want of one. The radio service starts its
own engine lists under R392. -/
def execListStart (ctx cls : Nat) (s : State) : Res :=
  if 6 ≤ cls then .fault .noSuchPart
  else
    match s.ctx? ctx with
    | none => .next s
    | some x =>
      let mine := x.queue.filter (fun l => l.cls == cls)
      match (if x.resident then mine.find? (fun l => s.unitRefused x cls l.unit) else none) with
      | some l => .next (((s.refuseList x l (quarStatus cls)).refresh ctx).reapSteps)
      | none =>
        if x.radio ∧ cls ≠ 0 then .next s
        else
          match mine.find? (fun l => s.mayRun x l && (s.unitFor x l).isSome) with
          | none => .next s
          | some l =>
            match s.unitFor x l with
            | none => .next s
            | some u => .next (if s.fits x l u then s.launchList x l u else s)

/-- BANDWIDTH_WINDOW (R35, R293, R294): every region's budgets are renewed. -/
def execBandwidthWindow (s : State) : Res := .next { s with sched := { s.sched with band := [] } }

end Sys2Proof.Machine
end

