-- ==== Sys2Proof/Machine/Radio.lean ====
section
/-! DEFINITION. The radio service's commands: cells, orders, transport blocks, HARQ releases, slot marks, reports, deadlines, the admission of
radio lists, and indications that wait for room (R388 to R401, R406 to R418, R424, R573, R595). -/
namespace Sys2Proof.Machine

/-! ### A message from L2 (R416, R417) -/

/-- Is a transport one of PF0's pairs or of the fabric endpoints (R571, R595)? -/
def isVia (via : Nat) : Bool := decide (via < 8) || (decide (16 ≤ via) && decide (via < 32))

/-- A cell that is OFF answers on the transport that its message came by (log entry 11). -/
def State.cellVia (s : State) (n via : Nat) : State :=
  if (s.cell n).en.st = .off then s.setCell n { s.cell n with via := via } else s

/-- A message is refused: a FAULT_NOTE to L2 (R417, R423). -/
def State.refuseMsg (s : State) (code : Nat) (b : List Byte) : State := s.faultNote (mCell b) code (mTy b) (mSeq b) 0 (mSlot b)

/-- A note about a PDU of a message. -/
def State.refusePdu (s : State) (code : Nat) (b : List Byte) (handle : Nat) : State :=
  s.faultNote (mCell b) code (mTy b) (mSeq b) handle (mSlot b)

/-- A message is taken: its header and cell are checked, its SEQ noted, and `f` acts on it when `ok` finds its contents to match (R417). -/
def State.message (s : State) (via : Nat) (b : List Byte) (ok : CellCfg → Bool) (f : CellCfg → State → State) : State :=
  let n := mCell b
  let s := s.cellVia n via
  match s.cellCfg n with
  | none => s.refuseMsg 0x01 b
  | some k =>
    if !msgHdrOk b || !msgSlotOk k.mu b || !ok k then s.refuseMsg 0x01 b
    else
      let x := s.cell n
      let gap := match x.seqIn with
        | none => false
        | some q => mSeq b != (q + 1) % 2 ^ 32
      let s := s.setCell n { x with seqIn := some (mSeq b) }
      f k (if gap then s.refuseMsg 0x0E b else s)

/-! ### Starting and stopping cells (R132, R388 to R390, R424, R607, R683) -/

/-- Does a cluster of a cell have no reserved slot left for one more cell (R388)? -/
def State.slotsFull (s : State) (k : CellCfg) : Bool :=
  k.clusters.any (fun c =>
    decide (s.radioSlots c ≤ (s.radio.cfg.filter (fun (p : Nat × CellCfg) => p.2.clusters.contains c && (s.cell p.1).en.st != .off)).length))

/-- A cell's radio contexts are created, one on each of its clusters (R132). -/
def State.makeRadioCtxs (s : State) (n : Nat) (k : CellCfg) : State :=
  k.clusters.foldl (fun s c =>
    s.setCtx { newCtx s.newCtxId true k.group with cell := n, cluster := c, slot := (s.freeSlot c true none).getD 0, st := .blocked,
                                                   blockedSince := s.now, placed := true }) s

/-- A cell's HARQ entries are empty. -/
def State.dropHarq (s : State) (n : Nat) : State :=
  { s with radio := { s.radio with harq := s.radio.harq.filter (fun (p : Nat × Harq) => p.1 / 65536 != n) } }

/-- First frame at least two frames after an instant (R389). -/
def onFrameOf (t : Nat) : Nat := ceilDiv t frameTc + 2

/-- A cell that is OFF is started, or refused by a status of R423 (R388, R389). -/
def State.startCell (s : State) (n : Nat) (k : CellCfg) (profile : Nat) : Nat × State :=
  if !s.time.everLocked then (0x06, s)
  else if s.capNow k.region < s.capUsed k.region + k.cost ∨ s.slotsFull k then (0x05, s)
  else
    let s := s.dropHarq n
    let s := { s with mem := (s.placedSpans k.harqBase k.harqLen).foldl (fun (m : Mem) (p : Span) => m.clear p.1 p.2) s.mem }
    let s := s.makeRadioCtxs n k
    let f := onFrameOf s.now
    let s := s.setCell n { s.cell n with en := { st := .starting, pend := false }, profile := profile, onFrame := f, first := f * frameTc, stop := none,
                                         reason := 0, next := none, slots := [], marked := 0, muted := false }
    (0, { s with rpl := { s.rpl with untouched := false } }.cellNote n s.now)

/-- CELL_START (R388, R389, R424). -/
def State.ssiCellStart (s : State) (via : Nat) (b : List Byte) : State :=
  s.message via b (fun _ => b.length == 32 && mCount b == 0 && decide (byteField b 24 1 ≤ 3) && zeroAt b 25 7) (fun k s =>
    let n := mCell b
    let x := s.cell n
    match x.en.st with
    | .off =>
      let r := (s.setCell n { x with via := via }).startCell n k (byteField b 24 1)
      if r.1 = 0 then r.2 else r.2.refuseMsg r.1 b
    | .starting => s.setCell n { x with en := { x.en with pend := false } }
    | .on => s
    | .stopping => s.setCell n { x with en := { x.en with pend := true }, next := some (byteField b 24 1) })

/-- CELL_STOP (R390). -/
def State.ssiCellStop (s : State) (via : Nat) (b : List Byte) : State :=
  s.message via b (fun _ => b.length == 24 && mCount b == 0) (fun _ s =>
    if (s.cell (mCell b)).en.st = .on then s.stopCell (mCell b) 0 else s.refuseMsg 0x04 b)

/-- Does a cell stand by for one of another device (R683)? -/
def State.isStandby (s : State) (n : Nat) : Bool := bit (s.regs.get 0 (Reg.HLT_CELL_SB n)) 0

/-- CELL_ON (R389, R607, R683). -/
def execCellOn (n : Nat) (s : State) : Res :=
  if 512 ≤ n then .fault .noSuchPart
  else
    let x := s.cell n
    if x.en.st ≠ .starting ∨ s.now < x.onFrame * frameTc then .next s
    else
      let stop := x.en.pend
      let s := s.setCell n { x with en := { st := .on, pend := false }, muted := s.isStandby n, marked := x.first - 1 }
      let s := s.cellNote n (x.onFrame * frameTc)
      .next (if stop then s.stopCell n x.reason else s)

/-- Radio contexts of a cell. -/
def State.cellCtxs (s : State) (n : Nat) : List Nat := (s.sched.ctxs.filter (fun p => p.2.radio && p.2.cell == n)).map (·.1)

/-- A cell is OFF: its HARQ area is freed and its contexts end; a CELL_START that waits acts (R390, R424). -/
def State.cellGone (s : State) (n : Nat) : State :=
  let x := s.cell n
  let s := (s.cellCtxs n).foldl (fun s id =>
    let s := s.updCtx id (fun y => { y with ending := true })
    match s.ctx? id with
    | none => s
    | some y => if s.mayEnd y then s.dropCtx id else s) s
  let s := (s.dropHarq n).setCell n { x with en := {}, slots := [], stop := none, next := none, muted := false }
  let s := s.cellNote n s.now
  match x.next, s.cellCfg n with
  | some p, some k =>
    let r := (s.setCell n { s.cell n with reason := 0 }).startCell n k p
    if r.1 = 0 then r.2 else r.2.faultNote n r.1 0x01 (x.seqIn.getD 0) 0 0
  | _, _ => s

/-- CELL_OFF (R390): the stop slot has come, and every indication of the slots before it is delivered. -/
def execCellOff (n : Nat) (s : State) : Res :=
  if 512 ≤ n then .fault .noSuchPart
  else
    let x := s.cell n
    let due := match x.stop with
      | none => true
      | some t => decide (t ≤ s.now)
    if x.en.st = .stopping && due && x.slots.all (fun w => w.pend.isEmpty) && !s.radio.waiting.any (fun m => m.cell == n) then .next (s.cellGone n)
    else .next s

/-- CELL_START as a message (R389). -/
def execCellStart (via : Nat) (b : List Byte) (s : State) : Res :=
  if !isVia via then .fault .noSuchPart else .next (if mTy b = 0x01 then s.ssiCellStart via b else s)

/-- CELL_STOP as a message (R390). -/
def execCellStop (via : Nat) (b : List Byte) (s : State) : Res :=
  if !isVia via then .fault .noSuchPart else .next (if mTy b = 0x02 then s.ssiCellStop via b else s)

/-! ### Orders (R390, R393, R401, R407, R410, R411, R419) -/

/-- Does a cell accept messages for the slot at `t` (R389, R390, R417)? -/
def Cell.takes (x : Cell) (t : Nat) : Bool :=
  match x.en.st with
  | .on => decide (x.first ≤ t)
  | .stopping => decide (x.first ≤ t) && (match x.stop with | some e => decide (t < e) | none => true)
  | _ => false

/-- What a cell holds for the slot at `t`. -/
def Cell.slotAt (x : Cell) (t : Nat) : SlotWork := (x.slots.find? (fun w => w.at0 == t)).getD { at0 := t }

/-- Slots in the order of their boundaries. -/
def insertSlot (l : List SlotWork) (w : SlotWork) : List SlotWork :=
  match l with
  | [] => [w]
  | y :: r => if w.at0 < y.at0 then w :: y :: r else if w.at0 = y.at0 then w :: r else y :: insertSlot r w

def Cell.setSlot (x : Cell) (w : SlotWork) : Cell := { x with slots := insertSlot x.slots w }

def State.setSlot (s : State) (n : Nat) (w : SlotWork) : State := s.setCell n ((s.cell n).setSlot w)

/-- PDUs of an order are taken in turn: `chk` gives the status that refuses one, given those accepted; the accepted with their places (R419,
R424). -/
def State.takePdus (s : State) (b : List Byte) (l : List (List Byte)) (i : Nat) (acc bad : List (List Byte)) (out : List Pdu)
    (chk : State → List (List Byte) → List (List Byte) → List Byte → Nat) : List Pdu × State :=
  match l with
  | [] => (out, s)
  | p :: r =>
    let h := byteField p 4 4
    let code := if out.any (fun q => q.handle == h) then 0x08 else chk s acc bad p
    if code = 0 then s.takePdus b r (i + 1) (acc ++ [p]) bad (out ++ [{ idx := i, ty := byteField p 0 2, handle := h, bytes := p }]) chk
    else (s.refusePdu code b h).takePdus b r (i + 1) acc (if code = 0x07 then bad ++ [p] else bad) out chk

/-- Status of a downlink PDU (R381, R393, R420, R423). -/
def dlChk (k : CellCfg) (acc : List (List Byte)) (p : List Byte) : Nat :=
  if !dlPduOk k p then 0x01
  else if !dlInCarrier k p then 0x08
  else if byteField p 0 2 = 0x01 ∧ k.lDl < groupLayers p (acc.filter (fun q => byteField q 0 2 == 1)) then 0x07
  else 0

/-- Does an RNTI of a cell have a usable SRS of the last 160 ms (R401)? -/
def State.srsFresh (s : State) (n rnti : Nat) : Bool :=
  match s.radio.srs.find (65536 * n + rnti) with
  | none => false
  | some t => decide (s.now ≤ t + 160 * 1966080)

/-- A field of two bytes replaced. -/
def setField2 (b : List Byte) (i v : Nat) : List Byte := b.take i ++ leBytes 2 v ++ b.drop (i + 2)

/-- BEAM_SET 0xFFFF of an RNTI without a usable SRS becomes beam 0 (R401). -/
def State.fixBeam (s : State) (n : Nat) (p : Pdu) : Pdu :=
  if p.ty = 0x01 ∧ byteField p.bytes 28 2 = 0xFFFF ∧ !s.srsFresh n (byteField p.bytes 8 2) then { p with bytes := setField2 p.bytes 28 0 }
  else if p.ty = 0x02 then
    { p with bytes := (List.range (byteField p.bytes 20 1)).foldl (fun b i =>
        let o := 24 + 40 * i
        if byteField b (o + 8) 2 = 0xFFFF ∧ !s.srsFresh n (byteField b o 2) then setField2 b (o + 8) 0 else b) p.bytes }
  else if p.ty = 0x03 ∧ byteField p.bytes 20 2 = 0xFFFF then { p with bytes := setField2 p.bytes 20 0 }
  else if p.ty = 0x04 ∧ byteField p.bytes 22 2 = 0xFFFF then { p with bytes := setField2 p.bytes 22 0 }
  else p

/-- DL_ORDER (R390, R399 to R401, R410, R411, R419, R420). -/
def State.ssiDlOrder (s : State) (via : Nat) (b : List Byte) : State :=
  s.message via b (fun _ => (splitPdus (mCount b) (b.drop 24)).isSome) (fun k s =>
    let n := mCell b
    let t := stampTc (mSlot b)
    let w := (s.cell n).slotAt t
    if !(s.cell n).takes t then s.refuseMsg 0x04 b
    else if s.now + 16 * slotTc k.mu < t then s.refuseMsg 0x01 b
    else if dlDeadline k.mu t ≤ s.now then
      (if w.dl.isSome then s else s.setSlot n { w with dlRefused := true }).refuseMsg 0x02 b
    else if w.dl.isSome then s.refuseMsg 0x03 b
    else
      let r := s.takePdus b ((splitPdus (mCount b) (b.drop 24)).getD []) 0 [] [] [] (fun _ acc _ p => dlChk k acc p)
      r.2.setSlot n { w with dl := some (r.1.map (r.2.fixBeam n)), dlSeq := mSeq b })

/-- DL_ORDER as a message (R410). -/
def execDlOrder (via : Nat) (b : List Byte) (s : State) : Res :=
  if !isVia via then .fault .noSuchPart else .next (if mTy b = 0x20 then s.ssiDlOrder via b else s)

/-- TB_LOAD (R410, R411, R422): a block repeated for the slot is ignored. -/
def State.ssiTbLoad (s : State) (via : Nat) (b : List Byte) : State :=
  s.message via b (fun _ => (splitBlocks (mCount b) (b.drop 24)).isSome) (fun k s =>
    let n := mCell b
    let t := stampTc (mSlot b)
    if !(s.cell n).takes t then s.refuseMsg 0x04 b
    else if s.now + 16 * slotTc k.mu < t then s.refuseMsg 0x01 b
    else if dlDeadline k.mu t ≤ s.now then s.refuseMsg 0x02 b
    else
      ((splitBlocks (mCount b) (b.drop 24)).getD []).foldl (fun s q =>
        let w := (s.cell n).slotAt t
        if w.tbs.any (fun o => o.2.1 == q.1 && o.2.2.1 == q.2.1) then s.refusePdu 0x03 b q.1
        else s.setSlot n { w with tbs := w.tbs ++ [(mSeq b, q.1, q.2.1, q.2.2)] }) s)

/-- TB_LOAD as a message (R411). -/
def execTbLoad (via : Nat) (b : List Byte) (s : State) : Res :=
  if !isVia via then .fault .noSuchPart else .next (if mTy b = 0x21 then s.ssiTbLoad via b else s)

/-! ### Uplink orders and HARQ entries (R396, R406, R407, R412, R443) -/

/-- PRACH occasions that every PRACH stream of a cell reserves (R443). -/
def State.prachRoom (s : State) (n : Nat) : Nat :=
  (List.range 8192).foldl (fun m i =>
    let e := Reg.FHL_EAXC i 0
    if s.regBits e 20 2 = 2 ∧ s.regBits e 23 9 = n then min m (s.regBits (Reg.FHL_EAXC i 1) 32 6) else m) 56

/-- Soft size of a PUSCH PDU. -/
def puschSoft (n : Nat) (p : List Byte) : Nat × Nat × Nat × Nat := softSize n (byteField p 28 4) (byteField p 32 2) ((byteField p 34 1).testBit 1)

/-- Status of an uplink PDU, given those accepted and those refused for their layers (R381, R396, R407, R421, R443). -/
def State.ulChk (s : State) (n : Nat) (k : CellCfg) (acc bad : List (List Byte)) (p : List Byte) : Nat :=
  let ty := byteField p 0 2
  let pusch := acc.filter (fun q => byteField q 0 2 == 0x11)
  if !ulPduOk k p then 0x01
  else if !ulInCarrier k p then 0x08
  else if ty = 0x13 ∧ s.prachRoom n < byteField p 9 1 * byteField p 11 1 then 0x08
  else if ty ≠ 0x11 then 0
  else if k.lUl < groupLayers p pusch ∨ bad.any (overlap p) then 0x07
  else if pusch.any (fun q => byteField q 36 4 == byteField p 36 4) then 0x08
  else if k.harqEntry < (puschSoft n p).2.2.2 * (puschSoft n p).2.1 then 0x09
  else 0

/-- What a PUSCH PDU asks of its HARQ entry. -/
def harqAsk (n : Nat) (p : List Byte) : HarqAsk :=
  let z := puschSoft n p
  { id := byteField p 36 4, tbs := byteField p 28 4, blocks := z.2.1, bg := z.1, zc := z.2.2.1, ndi := (byteField p 34 1).testBit 0, queued := true }

/-- The results that an accepted uplink PDU owes, with their deadlines (R412). An SRS without REPORT owes no entry. -/
def owes (n mu at0 : Nat) (p : Pdu) : List Pending :=
  let b := p.bytes
  let len := slotTc mu
  let r (kind dl : Nat) : Pending := { kind := kind, handle := p.handle, idx := p.idx, deadline := dl, late := false, status := 0, harq := none }
  match p.ty with
  | 0x11 =>
    let dl := symEnd mu at0 (byteField b 16 1 + byteField b 17 1 - 1) + len * 3 / 2
    { r 1 dl with harq := some (harqAsk n b) } :: (if (byteField b 34 1).testBit 2 then [r 2 dl] else [])
  | 0x12 => [r 2 (symEnd mu at0 (byteField b 11 1 + byteField b 12 1 - 1) + len * 3 / 2)]
  | 0x13 => [r 3 (symStart mu at0 (byteField b 10 1) + Config.prachLen (byteField b 8 1) mu (byteField b 9 1) + 2 * len)]
  | _ => [r 4 (symEnd mu at0 (byteField b 11 1 + byteField b 12 1 - 1) + 2 * len)]

/-- A PUSCH result takes its HARQ entry when no earlier slot still decodes into it: as new data under NDI or when the record differs (R406,
R407). -/
def State.takeHarq (s : State) (n : Nat) (q : Pending) : Pending × State :=
  match q.harq with
  | none => (q, s)
  | some a =>
    let key := 65536 * n + a.id
    let h := s.harqOf key
    if !a.queued ∨ h.busy then (q, s)
    else
      let known := (s.radio.harq.find key).isSome
      let same := known && h.tbs == a.tbs && h.blocks == a.blocks && h.bg == a.bg && h.zc == a.zc
      let fresh : Harq := { tbs := a.tbs, blocks := a.blocks, bg := a.bg, zc := a.zc, passed := [], filled := [], busy := true }
      ({ q with harq := some { a with queued := false }, status := if !a.ndi && known && !same then 0x0A else q.status },
       s.setHarq key (if a.ndi || !same then fresh else { h with busy := true }))

/-- The results of a slot take their entries in turn. -/
def State.takeHarqs (s : State) (n : Nat) (l : List Pending) : List Pending × State :=
  match l with
  | [] => ([], s)
  | q :: r =>
    let a := s.takeHarq n q
    let rest := a.2.takeHarqs n r
    (a.1 :: rest.1, rest.2)

/-- UL_ORDER (R390, R396, R407, R410 to R412, R419, R421, R443). -/
def State.ssiUlOrder (s : State) (via : Nat) (b : List Byte) : State :=
  s.message via b (fun _ => (splitPdus (mCount b) (b.drop 24)).isSome) (fun k s =>
    let n := mCell b
    let t := stampTc (mSlot b)
    let w := (s.cell n).slotAt t
    if !(s.cell n).takes t then s.refuseMsg 0x04 b
    else if s.now + 16 * slotTc k.mu < t then s.refuseMsg 0x01 b
    else if ulDeadline k.mu t ≤ s.now then
      (if w.ul.isSome then s else s.setSlot n { w with ulRefused := true }).refuseMsg 0x02 b
    else if w.ul.isSome then s.refuseMsg 0x03 b
    else
      let r := s.takePdus b ((splitPdus (mCount b) (b.drop 24)).getD []) 0 [] [] [] (fun s acc bad p => s.ulChk n k acc bad p)
      let h := r.2.takeHarqs n (r.1.flatMap (owes n k.mu t))
      h.2.setSlot n { w with ul := some r.1, ulSeq := mSeq b, pend := h.1 })

/-- UL_ORDER as a message (R410). -/
def execUlOrder (via : Nat) (b : List Byte) (s : State) : Res :=
  if !isVia via then .fault .noSuchPart else .next (if mTy b = 0x28 then s.ssiUlOrder via b else s)

/-- Does a slot still owe the decode of an entry? -/
def SlotWork.decodes (w : SlotWork) (id : Nat) : Bool := w.pend.any (fun q => match q.harq with | some a => a.id == id | none => false)

/-- An entry is marked empty at once, or after the last slot that has yet to decode it (R407). -/
def State.releaseHarq (s : State) (n id : Nat) : State :=
  let x := s.cell n
  match (x.slots.filter (fun w => w.decodes id)).getLast? with
  | some w => s.setCell n (x.setSlot { w with release := w.release ++ [id] })
  | none => { s with radio := { s.radio with harq := s.radio.harq.del (65536 * n + id) } }

/-- SOFT_RELEASE (R407, R418). -/
def State.ssiSoftRelease (s : State) (via : Nat) (b : List Byte) : State :=
  let ids := (List.range (mCount b)).map (fun i => byteField b (24 + 4 * i) 4)
  s.message via b (fun k => b.length == 24 + ceilDiv (mCount b) 2 * 8 && zeroAt b (24 + 4 * mCount b) (b.length - 24 - 4 * mCount b) &&
      ids.all (fun i => decide ((i + 1) * k.harqEntry ≤ k.harqLen))) (fun _ s =>
    if (s.cell (mCell b)).en.st = .on then ids.foldl (fun s i => s.releaseHarq (mCell b) i) s else s.refuseMsg 0x04 b)

/-- SOFT_RELEASE as a message (R407). -/
def execSoftRelease (via : Nat) (b : List Byte) (s : State) : Res :=
  if !isVia via then .fault .noSuchPart else .next (if mTy b = 0x29 then s.ssiSoftRelease via b else s)

/-- A message from L2 by its TYPE; any other TYPE is malformed (R418). -/
def State.ssiAccept (s : State) (via : Nat) (b : List Byte) : State :=
  match mTy b with
  | 0x01 => s.ssiCellStart via b
  | 0x02 => s.ssiCellStop via b
  | 0x20 => s.ssiDlOrder via b
  | 0x21 => s.ssiTbLoad via b
  | 0x28 => s.ssiUlOrder via b
  | 0x29 => s.ssiSoftRelease via b
  | _ => (s.cellVia (mCell b) via).refuseMsg 0x01 b

/-! ### Slot marks and the downlink deadline (R411, R418) -/

/-- SLOT_MARK (R418): one for each ON cell at each slot boundary: the slot begun, the slot whose downlink orders are due next, and DL_DONE of the
slot that ends. -/
def execSlotMark (n : Nat) (s : State) : Res :=
  if 512 ≤ n then .fault .noSuchPart
  else
    match s.cellCfg n with
    | none => .next s
    | some k =>
      let x := s.cell n
      let len := slotTc k.mu
      let t := slotStart k.mu s.now
      if x.en.st ≠ .on ∨ t ≤ x.marked then .next s
      else
        let next := t + len * ((if k.mu = 3 then 4 else 2) + 1)
        let done := (x.slotAt (t - len)).done
        let keep := x.slots.filter (fun w => !(decide (w.at0 + 16 * len ≤ t) && w.pend.isEmpty))
        let s := s.setCell n { x with marked := t, slots := keep }
        .next (s.tellL2 n 0xA0 0 (tcStamp t) (leBytes 8 (tcStamp next).toNat ++ leBytes 8 done ++ leBytes 8 0))

/-- Codewords of a PDSCH with the bytes of their transport blocks (R420, R422). -/
def codewords (p : Pdu) : List (Nat × Nat) :=
  if p.ty ≠ 0x01 then [] else (List.range (byteField p.bytes 19 1)).map (fun i => (i, ceilDiv (byteField p.bytes (32 + 12 * i) 4) 8))

/-- Has a codeword's block been accepted, with the right length (R411)? -/
def SlotWork.hasTb (w : SlotWork) (h cw len : Nat) : Bool := w.tbs.any (fun o => o.2.1 == h && o.2.2.1 == cw && o.2.2.2.length == len)

/-- The DL deadline of a slot: blocks that name no PDSCH codeword of it are discarded, and codewords without their block are not sent (R411). -/
def State.closeDl (s : State) (n : Nat) (w : SlotWork) : State :=
  let pdus := w.dl.getD []
  let names (o : Nat × Nat × Nat × List Byte) : Bool :=
    pdus.any (fun p => p.handle == o.2.1 && (codewords p).any (fun c => c.1 == o.2.2.1))
  let slot := tcStamp w.at0
  let s := (w.tbs.filter (fun o => !names o)).foldl (fun s o => s.faultNote n 0x08 0x21 o.1 o.2.1 slot) s
  let missing := pdus.flatMap (fun p => ((codewords p).filter (fun c => !w.hasTb p.handle c.1 c.2)).map (fun _ => p.handle))
  let s := missing.foldl (fun s h => s.faultNote n 0x0B 0x20 w.dlSeq h slot) s
  let done := (pdus.filter (fun p => decide (p.idx < 64) && !missing.contains p.handle)).foldl (fun v p => v ||| 2 ^ p.idx) 0
  s.setSlot n { w with tbs := w.tbs.filter names, dlClosed := true, done := if w.dlRefused then 0 else done }

/-- DL_DEADLINE (R411): the earliest slot whose DL deadline has come. -/
def execDlDeadline (n : Nat) (s : State) : Res :=
  if 512 ≤ n then .fault .noSuchPart
  else
    match s.cellCfg n with
    | none => .next s
    | some k =>
      match (s.cell n).slots.find? (fun w => !w.dlClosed && decide (dlDeadline k.mu w.at0 ≤ s.now)) with
      | none => .next s
      | some w => .next (s.closeDl n w)

/-! ### Radio admission (R392) -/

/-- Close of the current window entry of a region. -/
def State.windowEnd (s : State) (g : Nat) : Nat := (s.region g).opened + (s.window g (s.region g).entry).len

/-- Radio list that a unit would start: the first in context order that every condition but the plan of R392 lets start. -/
def State.nextRadio (s : State) (u : Nat) : Option (Ctx × ListRec) :=
  let one (x : Ctx) : Option (Ctx × ListRec) :=
    if !x.radio then none
    else (x.queue.find? (fun l => s.mayRun x l && s.unitFor x l == some u)).map (fun l => (x, l))
  (s.sched.ctxs.filterMap (fun p => one p.2)).head?

/-- The radio service submits a list of its own, at an address reference of a radio context (R249, R255; such a list has no record, R598). -/
def State.submitOwn (s : State) (id addr : Nat) : State :=
  match s.ctx? id with
  | none => s
  | some x =>
    if !x.radio then s
    else
      match s.admitList x addr .none true with
      | (0, some l, t) => if 64 ≤ x.queued l.cls then s else t.setCtx { x with queue := x.queue ++ [l] }
      | (_, _, t) => t

/-- RADIO_LIST_ADMIT (R392, R394, R398): the radio list that a unit would take starts when its worst case of `len` Tc ends before the close of
the current radio window; else it waits. `own` is a list that the radio service has just built, which it submits first. -/
def execRadioListAdmit (u len : Nat) (own : Option (Nat × Nat)) (s : State) : Res :=
  if !isUnit u || decide (0x10000 ≤ u) then .fault .noSuchPart
  else
    let s := match own with
      | none => s
      | some (id, addr) => s.submitOwn id addr
    match s.nextRadio u with
    | none => .next s
    | some (x, l) => .next (if s.now + len < s.windowEnd (x.cluster / 4) then s.launchList x l u else s)

/-! ### Uplink results (R401, R407, R412 to R414, R418, R422, R424) -/

/-- A result has missed its deadline: counted for its region, and L2 is told (R414). -/
def State.missed (s : State) (n handle seq : Nat) (slot : Stamp) : State :=
  match s.cellCfg n with
  | none => s
  | some k => (s.count (Reg.KUD_LATE_CNT k.region) 1).faultNote n 0x0D 0x28 seq handle slot

/-- LATE bit of an entry's FLAGS (R422). -/
def lateBit (kind : Nat) : Nat :=
  match kind with
  | 1 => 2
  | 2 => 32
  | _ => 1

/-- A result entry: its header, and its body padded to 8 bytes; a status of the slot's own prevails (R407, R413, R422). -/
def ulEntry (q : Pending) (r : UlResult) : List Byte :=
  let status := if q.status = 0 then r.status else q.status
  let body := if r.kind = 3 then r.body else r.body.take 2 ++ leBytes 1 status ++ r.body.drop 3
  let n := 8 + ceilDiv body.length 8 * 8
  let flags := (r.flags &&& (255 - lateBit r.kind)) + (if q.late then lateBit r.kind else 0)
  leBytes 1 r.kind ++ leBytes 1 flags ++ leBytes 2 n ++ leBytes 4 r.handle ++ body ++ List.replicate (n - 8 - body.length) 0

/-- The pending result that a result answers. -/
def SlotWork.pendOf (w : SlotWork) (r : UlResult) : Option Pending := w.pend.find? (fun q => q.kind == r.kind && q.handle == r.handle)

/-- SRS PDU of a slot by handle, with its flag `i` (0 REPORT, 1 BEAM). -/
def SlotWork.srsFlag (w : SlotWork) (handle i : Nat) : Bool :=
  (w.ul.getD []).any (fun p => p.ty == 0x14 && p.handle == handle && (byteField p.bytes 22 1).testBit i)

/-- A usable SRS with BEAM updates its RNTI (R400, R401). -/
def State.noteSrs (s : State) (n : Nat) (w : SlotWork) (r : UlResult) : State :=
  match (w.ul.getD []).find? (fun p => p.ty == 0x14 && p.handle == r.handle) with
  | none => s
  | some p =>
    if r.kind = 4 ∧ r.status = 0 ∧ (byteField p.bytes 22 1).testBit 1 then
      { s with radio := { s.radio with srs := s.radio.srs.set (65536 * n + byteField p.bytes 8 2) w.at0 } }
    else s

/-- A decode is over: its entry is no longer busy, is freed if its slot released it, and the next slot that waits for it takes it (R407). -/
def State.decodeDone (s : State) (n at0 : Nat) (q : Pending) : State :=
  match q.harq with
  | none => s
  | some a =>
    let key := 65536 * n + a.id
    let w := (s.cell n).slotAt at0
    let s := s.setHarq key { s.harqOf key with busy := false }
    let s := if w.release.contains a.id then { s with radio := { s.radio with harq := s.radio.harq.del key } } else s
    let waits (v : SlotWork) : Bool := v.pend.any (fun p => match p.harq with | some b => b.queued && b.id == a.id | none => false)
    match (s.cell n).slots.find? waits with
    | none => s
    | some v => let h := s.takeHarqs n v.pend; h.2.setSlot n { v with pend := h.1 }

/-- Results answer their pending ones: entries in PDU order with the marks of those still in time (R418, R422, R424). -/
def reportBody (w : SlotWork) (rs : List UlResult) (now : Nat) : List (List Byte × Pending × UlResult) :=
  (w.pend.filterMap (fun q => (rs.find? (fun r => r.kind == q.kind && r.handle == q.handle)).map (fun r =>
    let q := { q with late := q.late || decide (q.deadline < now) }
    (ulEntry q r, q, r))))

/-- Marks of the entries of a report that are not yet late. -/
def lateMarks (ofs seq : Nat) (l : List (List Byte × Pending × UlResult)) : List LateMark :=
  match l with
  | [] => []
  | (b, q, _) :: r =>
    let rest := lateMarks (ofs + b.length) seq r
    if q.late then rest else { ofs := ofs + 1, mask := lateBit q.kind, deadline := q.deadline, handle := q.handle, seq := seq } :: rest

/-- An UL_REPORT of results of one slot is written (R412 to R414, R418, R573, R647). -/
def State.writeReport (s : State) (n : Nat) (w : SlotWork) (rs : List UlResult) : State :=
  let all := reportBody w rs s.now
  let fresh := all.filter (fun e => e.2.1.late && !(w.pend.any (fun q => q.late && q.kind == e.2.1.kind && q.handle == e.2.1.handle)))
  let shown := all.filter (fun e => e.2.1.kind != 4 || w.srsFlag e.2.1.handle 0)
  let s := s.setSlot n { w with pend := w.pend.filter (fun q => !all.any (fun e => e.2.1.kind == q.kind && e.2.1.handle == q.handle)) }
  let s := all.foldl (fun s e => (s.decodeDone n w.at0 e.2.1).noteSrs n w e.2.2) s
  let slot := tcStamp w.at0
  let s := fresh.foldl (fun s e => s.missed n e.2.1.handle w.ulSeq slot) s
  if shown = [] then s
  else
    let x := s.cell n
    let m := ssiMsg 0xA8 n x.seqOut shown.length slot (shown.foldr (fun e l => e.1 ++ l) [])
    let s := s.setCell n { x with seqOut := (x.seqOut + 1) % 2 ^ 32 }
    let s := shown.foldl (fun s e => s.output (outKey 5 (n + e.2.1.kind * 2 ^ 16) e.2.1.handle slot.toNat) e.1) s
    s.indicate n (shown.foldl (fun d e => max d e.2.1.deadline) 0) (lateMarks 24 w.ulSeq shown) m

/-- UL_REPORT (R412, R418, R422): results of one slot that have become ready, at most 64 entries, each owed by the slot. -/
def execUlReport (n at0 : Nat) (rs : List UlResult) (s : State) : Res :=
  if 512 ≤ n then .fault .noSuchPart
  else
    let w := (s.cell n).slotAt at0
    let live := (s.cell n).en.st == .on || (s.cell n).en.st == .stopping
    if live && decide (rs.length ≤ 64) && rs.all (fun r => (w.pendOf r).isSome && decide (r.body.length < 65000)) && decide (rs.map (fun r => (r.kind, r.handle))).Nodup
      && !rs.isEmpty then .next (s.writeReport n w rs)
    else .next s

/-- Earliest pending result of a slot past its deadline and not yet LATE. -/
def SlotWork.overdue (w : SlotWork) (now : Nat) : Option Pending := w.pend.find? (fun q => !q.late && decide (q.deadline < now))

/-- LATE is set in the FLAGS byte of an entry of a message that waits. -/
def markEntry (b : List Byte) (m : LateMark) : List Byte := modNth b m.ofs (fun v => v ||| BitVec.ofNat 8 m.mask)

/-- DEADLINE_MISS (R414, R573): a result still owed, or an entry that waits for room, has passed its deadline. -/
def execDeadlineMiss (n : Nat) (s : State) : Res :=
  if 512 ≤ n then .fault .noSuchPart
  else
    match (s.cell n).slots.find? (fun w => (w.overdue s.now).isSome) with
    | some w =>
      (match w.overdue s.now with
       | none => .next s
       | some q =>
         let s := s.setSlot n { w with pend := w.pend.map (fun (p : Pending) => if p.kind = q.kind ∧ p.handle = q.handle then { p with late := true } else p) }
         .next (s.missed n q.handle w.ulSeq (tcStamp w.at0)))
    | none =>
      match indexOf s.radio.waiting (fun m => m.cell == n && m.marks.any (fun k => decide (k.deadline < s.now))) with
      | none => .next s
      | some i =>
        match s.radio.waiting[i]? with
        | none => .next s
        | some m =>
          match m.marks.find? (fun k => decide (k.deadline < s.now)) with
          | none => .next s
          | some k =>
            let m' : SsiMsg := { m with bytes := markEntry m.bytes k, marks := m.marks.filter (fun j => j != k) }
            let s := { s with radio := { s.radio with waiting := modNth s.radio.waiting i (fun _ => m') } }
            .next (s.missed n k.handle k.seq (mSlot m.bytes))

/-! ### Room in a ring (R573, R595) -/

/-- The oldest waiting message of a ring that has room is written. -/
def State.writeWaiting (s : State) (seen : List Nat) (before after : List SsiMsg) : State :=
  match after with
  | [] => s
  | m :: r =>
    let via := (s.cell m.cell).via
    if seen.contains via then s.writeWaiting seen (before ++ [m]) r
    else
      match s.ringWrite via m.bytes with
      | some t => { t with radio := { t.radio with waiting := before ++ r } }
      | none => s.writeWaiting (via :: seen) (before ++ [m]) r

/-- INDICATION_RING_ROOM (R573, R595). -/
def execIndicationRingRoom (s : State) : Res := .next (s.writeWaiting [] [] s.radio.waiting)

end Sys2Proof.Machine
end

