-- ==== Sys2Proof/Machine/FrontIn.lean ====
section
/-! DEFINITION. Fronthaul intake: frames, eCPRI and O-RAN headers, the uplink rings, PRACH occasions, bursts; the commands FRAME_RECEIVE,
RECEIVE_WINDOW_CLOSE, BURST_FFT, FH_LINK_CHANGE (R429 to R444, R451 to R459, R468). Header layouts that the spec leaves to eCPRI and O-RAN are
theirs (log entry 19). -/
namespace Sys2Proof.Machine

/-! ### Bytes in network order -/

/-- The number that bytes spell, most significant first. -/
def beNat (l : List Byte) : Nat := leNat l.reverse

/-- Bytes `i` to `i + n - 1`, most significant first. -/
def beField (l : List Byte) (i n : Nat) : Nat := beNat ((l.drop i).take n)

/-- `n` bits from bit offset `o` of a number of `w` bits, the first bit the most significant. -/
def msbField (v w o n : Nat) : Nat := v / 2 ^ (w - o - n) % 2 ^ n

/-! ### The eAxC map and the cells' windows (R434, R437, R472) -/

structure Eaxc where
  idx : Nat
  eaxc : Nat
  port : Nat
  kind : Nat
  dir : Nat
  cell : Nat
  stream : Nat
  cluster : Nat
  hq : Nat
  depth : Nat
  queue : Nat
  base : Nat
  bst : Nat
  filter : Nat
  occ : Nat
  deriving DecidableEq, Repr

/-- Entry `i` of the eAxC map (R434). -/
def State.eaxc (s : State) (i : Nat) : Eaxc :=
  let a := Reg.FHL_EAXC i 0
  let b := Reg.FHL_EAXC i 1
  { idx := i, eaxc := s.regBits a 0 16, port := s.regBits a 16 4, kind := s.regBits a 20 2, dir := s.regBits a 22 1, cell := s.regBits a 23 9,
    stream := s.regBits a 32 4, cluster := s.regBits a 36 6, hq := s.regBits a 42 3, depth := s.regBits a 45 2 + 2, queue := s.regBits a 48 14,
    base := s.regBits b 0 23, bst := s.regBits b 23 5, filter := s.regBits b 28 4, occ := s.regBits b 32 6 }

/-- The uplink entry of a port and eAxC ID (R434). -/
def State.eaxcOf (s : State) (port id : Nat) : Option Eaxc :=
  ((List.range 8192).find? (fun i => let e := s.eaxc i; e.kind != 0 && e.dir == 0 && e.port == port && e.eaxc == id)).map s.eaxc

/-- A field of `FHL_CELL` (R472). -/
def State.fhCell (s : State) (n word lo len : Nat) : Nat := s.regBits (Reg.FHL_CELL n word) lo len

/-- Receive window of what starts or ends at `t` (R437). -/
def State.rxOpen (s : State) (n t : Nat) : Nat := t + s.fhCell n 0 40 20
def State.rxClose (s : State) (n t : Nat) : Nat := t + s.fhCell n 1 0 20

/-- Width of a code: 0 stands for 16 bits (R472). -/
def iqWidth (code : Nat) : Nat := if code = 0 then 16 else code

/-- Bytes of a PRB of 12 elements: uncompressed, or BFP at a width (R448). -/
def prbBytes (meth width : Nat) : Nat := if meth = 0 then 48 else 3 * width + 1

/-! ### Frames (R430, R432) -/

/-- Counter `i` of a port (R470). -/
def State.fhCount (s : State) (p i n : Nat) : State := s.count (Reg.FHL_CNT p i) n

/-- Bytes before the EtherType's payload: with one tag, or none (R430). -/
def State.l2Len (s : State) (p : Nat) : Nat := if s.regBits (Reg.FHL_PORT_CFG p) 1 1 = 1 then 18 else 14

/-- Address, EtherType and tag of a frame (R430). -/
def State.l2Ok (s : State) (p : Nat) (f : List Byte) : Bool :=
  let dst := beField f 0 6
  let tagged := s.regBits (Reg.FHL_PORT_CFG p) 1 1 == 1
  let ty := beField f (s.l2Len p - 2) 2
  (dst == s.regBits (Reg.FHL_PORT_MAC p) 0 48 || dst == 0x011B19000000 || dst == 0x0180C200000E || dst == 0x0180C2000002) &&
  [0xAEFE, 0x88F7, 0x8809].contains ty &&
  (!tagged || (beField f 12 2 == 0x8100 && beField f 14 2 % 4096 == s.regBits (Reg.FHL_PORT_CFG p) 2 12))

/-- The payload of an eCPRI message of type 0: its eAxC ID, sequence ID and bytes; none when the header is refused (R432). -/
def ecpri (b : List Byte) : Option (Nat × Nat × List Byte) :=
  let size := beField b 2 2
  if beField b 0 1 / 16 ≠ 1 ∨ beField b 0 1 % 2 = 1 ∨ beField b 1 1 ≠ 0 ∨ size < 4 ∨ b.length < 4 + size ∨ beField b 7 1 ≠ 0x80 then none
  else some (beField b 4 2, beField b 6 1, (b.drop 8).take (size - 4))

/-! ### O-RAN sections (R431, R436, R439, R441) -/

/-- A section: its ID, first PRB, and the elements of its PRBs with the halves saturated. -/
structure Section where
  id : Nat
  first : Nat
  prbs : List (List Word × Nat)
  deriving DecidableEq, Repr

/-- A half decompressed: mantissa times 2^e, saturated; whether it was (R441). -/
def bfpHalf (width v e : Nat) : Nat × Nat :=
  let x := signed width v * (2 ^ e : Nat)
  if 32767 < x then (32767, 1) else if x < -32768 then (32768, 1) else (unsigned 16 x, 0)

/-- One PRB of 12 elements from its bytes (R441). -/
def unpackPrb (meth width : Nat) (b : List Byte) : List Word × Nat :=
  let e := if meth = 0 then 0 else beField b 0 1 % 16
  let d := if meth = 0 then b else b.drop 1
  let v := beNat d
  let w := if meth = 0 then 16 else width
  let halves := (List.range 24).map (fun i => bfpHalf w (msbField v (8 * d.length) (w * i) w) e)
  ((List.range 12).map (fun i => BitVec.ofNat 32 ((halves.getD (2 * i) (0, 0)).1 + (halves.getD (2 * i + 1) (0, 0)).1 * 2 ^ 16)),
   halves.foldl (fun n h => n + h.2) 0)

/-- `n` PRBs in turn. -/
def unpackPrbs (meth width n : Nat) (b : List Byte) : List (List Word × Nat) :=
  match n with
  | 0 => []
  | n + 1 => unpackPrb meth width (b.take (prbBytes meth width)) :: unpackPrbs meth width n (b.drop (prbBytes meth width))

/-- Sections up to the payload's end; none when one is malformed, lies outside `total` PRBs, or is compressed otherwise than the cell allows
(R431, R439). -/
def sections (fuel total meth width : Nat) (dyn : Bool) (b : List Byte) : Option (List Section) :=
  match fuel with
  | 0 => none
  | fuel + 1 =>
    if b.isEmpty then some []
    else
      let id := beField b 0 2 / 16
      let rb := beField b 1 1 / 8 % 2
      let inc := beField b 1 1 / 4 % 2
      let start := beField b 1 2 % 1024
      let num := beField b 3 1
      let hdr := if dyn then 6 else 4
      let m := if dyn then beField b 4 1 % 16 else meth
      let w := if dyn then iqWidth (beField b 4 1 / 16) else width
      let first := if num = 0 then 0 else start
      let n := if num = 0 then total else num
      let len := n * prbBytes m w
      if b.length < hdr ∨ rb = 1 ∨ inc = 1 ∨ total < first + n ∨ 1 < m ∨ (m = 0 ∧ w ≠ 16) ∨ (m = 1 ∧ !([8, 9, 12, 14].contains w)) ∨ b.length < hdr + len then none
      else (sections fuel total meth width dyn (b.drop (hdr + len))).map ({ id := id, first := first, prbs := unpackPrbs m w n (b.drop hdr) } :: ·)

/-- The occurrence of a frame, slot and symbol whose start lies nearest an instant: its slot boundary (R436). -/
def resolveSlot (mu frameId slot sym now : Nat) : Nat :=
  let f := now / frameTc
  let cand := [f / 256 * 256 + frameId - 256, f / 256 * 256 + frameId, f / 256 * 256 + frameId + 256].map (fun k => k * frameTc + slot * slotTc mu)
  (leastBy cand (fun t => let x := symStart mu t sym; if x ≤ now then now - x else x - now)).getD 0

/-! ### Rings (R440, R442, R443) -/

/-- Storage number of byte `o` of an entry's ring. -/
def State.ringAt (s : State) (e : Eaxc) (o : Nat) : Nat := poolAt e.cluster ((128 - s.radioPool e.cluster) * 65536 + e.base + o)

/-- Ring slot of a slot boundary (R440). -/
def Eaxc.slotOf (e : Eaxc) (mu at0 : Nat) : Nat := at0 / slotTc mu % e.depth

/-- Offset in its ring, and length, of a symbol's row (R440, R442). -/
def Eaxc.row (e : Eaxc) (k : CellCfg) (at0 sym : Nat) : Nat × Nat := (48 * k.nrb * (14 * e.slotOf k.mu at0 + sym), 48 * k.nrb)

/-- Offset and length of a PRACH occasion (R443). -/
def Eaxc.occRow (e : Eaxc) (mu at0 o : Nat) (long : Bool) : Nat × Nat := (3360 * (e.occ * e.slotOf mu at0 + o), if long then 3360 else 560)

/-- Elements as bytes (R344). -/
def wordBytes (l : List Word) : List Byte := l.foldr (fun w r => leBytes 4 w.toNat ++ r) []

/-- Reception state of a stream's symbol, or of its occasion. -/
def State.rxOf (s : State) (e at0 sym : Nat) : RxSym :=
  (s.front.rx.find? (fun r => r.entry == e && r.at0 == at0 && r.sym == sym)).getD { entry := e, at0 := at0, sym := sym, got := [], released := false, missing := [] }

/-- It is kept; what is two frames old is forgotten. -/
def State.setRx (s : State) (r : RxSym) : State :=
  { s with front := { s.front with rx := s.front.rx.filter (fun x =>
      !(x.entry == r.entry && x.at0 == r.at0 && x.sym == r.sym) && decide (s.now ≤ x.at0 + 2 * frameTc)) ++ [r] } }

/-- Radio context of a cell on a cluster. -/
def State.radioCtx (s : State) (n c : Nat) : Option Ctx :=
  ((s.sched.ctxs.find? (fun p => p.2.radio && p.2.cell == n && p.2.cluster == c))).map (·.2)

/-- The handle of a row is released into the cell's queue, unless the queue is full or the handle has been released (R288, R442). -/
def State.releaseRow (s : State) (e : Eaxc) (r : RxSym) (row : Nat × Nat) : State :=
  if r.released then s
  else
    match s.radioCtx e.cell e.cluster with
    | none => s.setRx { r with released := true }
    | some x =>
      match s.putHandle x.id e.hq { base := e.base + row.1, len := row.2, partialMark := false, ahead := false, visSet := false, owner := x.id, list := 0,
                                    vis := 0, visible := false } with
      | none => s.setRx r
      | some t => t.setRx { r with released := true }

/-! ### What a slot allocates (R421, R442) -/

/-- Resource blocks of an uplink PDU on a symbol. -/
def pduPrbs (nrb : Nat) (p : Pdu) (sym : Nat) : List Nat :=
  let b := p.bytes
  let run (a n : Nat) : List Nat := (List.range n).map (a + ·)
  match p.ty with
  | 0x11 => if byteField b 16 1 ≤ sym ∧ sym < byteField b 16 1 + byteField b 17 1 then run (byteField b 12 2) (byteField b 14 2) else []
  | 0x12 =>
    let s0 := byteField b 11 1
    let n := byteField b 12 1
    if sym < s0 ∨ s0 + n ≤ sym then []
    else if (byteField b 13 1).testBit 0 ∧ s0 + n / 2 ≤ sym then run (byteField b 18 2) (byteField b 16 1)
    else run (byteField b 14 2) (byteField b 16 1)
  | 0x14 => if byteField b 11 1 ≤ sym ∧ sym < byteField b 11 1 + byteField b 12 1 then Config.srsPrbs nrb b sym else []
  | _ => []

/-- PRACH PDU of a slot. -/
def SlotWork.prach (w : SlotWork) : Option Pdu := (w.ul.getD []).find? (fun p => p.ty == 0x13)

/-- End of PRACH occasion `o` of a slot (R437, R443). -/
def prachEnd (mu at0 : Nat) (b : List Byte) (o : Nat) : Nat :=
  symStart mu at0 (byteField b 10 1) + Config.prachLen (byteField b 8 1) mu (o / max 1 (byteField b 11 1) + 1)

/-- Is a PRACH format long (R421)? -/
def longPrach (b : List Byte) : Bool := decide (byteField b 8 1 ≤ 3)

/-- Blocks of 12 elements of an occasion (R443). -/
def prachPrbs (long : Bool) : Nat := if long then 70 else 12

/-! ### U-plane frames (R433, R439 to R443) -/

/-- Does a cell run the slot with an accepted UL_ORDER (R439 check 4)? -/
def Cell.ulLive (x : Cell) (at0 : Nat) : Bool := (x.en.st == .on || x.en.st == .stopping) && (x.slotAt at0).ul.isSome

/-- Elements are written at an offset of a ring. -/
def State.ringWriteAt (s : State) (e : Eaxc) (o : Nat) (b : List Byte) : State := s.wrSpans [(s.ringAt e o, b.length)] b

/-- PRBs of a section that passed every check are written, and counted where they saturate (R440, R441). -/
def State.writeSection (s : State) (p : Nat) (e : Eaxc) (rowOfs limit first : Nat) (prbs : List (List Word × Nat)) : State :=
  match prbs with
  | [] => s
  | (ws, sat) :: r =>
    let b := (wordBytes ws).take (limit - 48 * first)
    let s := s.ringWriteAt e (rowOfs + 48 * first) b
    (s.fhCount p 11 sat).writeSection p e rowOfs limit (first + 1) r

/-- A frame that passed every check is counted by its window (R439). -/
def State.countTimely (s : State) (p n t : Nat) : State := s.fhCount p (if s.now < s.rxOpen n t then 8 else 9) 1

/-- A frame of a cell stream, its sections parsed: checks 4 to 6, and its data (R439 to R442). -/
def State.cellFrame (s : State) (p : Nat) (e : Eaxc) (k : CellCfg) (at0 sym : Nat) (l : List Section) : State :=
  let x := s.cell e.cell
  let t := symStart k.mu at0 sym
  let r := s.rxOf e.idx at0 sym
  let prbs := l.flatMap (fun q => (List.range q.prbs.length).map (q.first + ·))
  if !x.ulLive at0 then s.fhCount p 5 1
  else if s.rxClose e.cell t ≤ s.now then s.fhCount p 6 1
  else if prbs.any (fun q => r.got.contains q) ∨ !decide prbs.Nodup then s.fhCount p 7 1
  else
    let row := e.row k at0 sym
    let s := l.foldl (fun s q => s.writeSection p e row.1 row.2 q.first q.prbs) (s.countTimely p e.cell t)
    let r := { r with got := r.got ++ prbs }
    let want := ((x.slotAt at0).ul.getD []).flatMap (fun q => pduPrbs k.nrb q sym)
    if want ≠ [] ∧ want.all (fun q => r.got.contains q) then s.releaseRow e r row else s.setRx r

/-- A frame of a PRACH stream: the section ID names the occasion (R439, R443, log entry 19). -/
def State.prachFrame (s : State) (p : Nat) (e : Eaxc) (k : CellCfg) (at0 : Nat) (l : List Section) : State :=
  let x := s.cell e.cell
  match (x.slotAt at0).prach, x.ulLive at0 with
  | some pdu, true =>
    let b := pdu.bytes
    let long := longPrach b
    let ends (q : Section) : Nat := prachEnd k.mu at0 b q.id
    let blocks (q : Section) : List Nat := (List.range q.prbs.length).map (q.first + ·)
    if l.any (fun q => decide (byteField b 9 1 * byteField b 11 1 ≤ q.id)) then s.fhCount p 5 1
    else if l.any (fun q => decide (s.rxClose e.cell (ends q) ≤ s.now)) then s.fhCount p 6 1
    else if l.any (fun q => (blocks q).any (fun i => (s.rxOf e.idx at0 q.id).got.contains i)) ∨
        !decide (l.flatMap (fun q => (blocks q).map (fun i => (q.id, i)))).Nodup then s.fhCount p 7 1
    else
      let s := s.countTimely p e.cell (l.foldl (fun m q => max m (ends q)) 0)
      l.foldl (fun s q =>
        let row := e.occRow k.mu at0 q.id long
        let s := s.writeSection p e row.1 row.2 q.first q.prbs
        let r := s.rxOf e.idx at0 q.id
        let r := { r with got := r.got ++ blocks q }
        if (List.range (prachPrbs long)).all (fun i => r.got.contains i) then s.releaseRow e r row else s.setRx r) s
  | _, _ => s.fhCount p 5 1

/-! ### Bursts (R451 to R458) -/

/-- Fields of a burst stream's configuration (R473). -/
def State.bstCfg (s : State) (b lo len : Nat) : Nat := s.regBits (Reg.FHL_BST_CFG b) lo len

def State.nFft (s : State) (b : Nat) : Nat := 2 ^ s.bstCfg b 11 4

def State.bstCount (s : State) (b i : Nat) : State := s.count (Reg.FHL_BST_CNT b i) 1

/-- Decisions that differ from a word, bit 31 first (R453, R455). -/
def wordErrs (l : List Bool) (w : Nat) : Nat := ((List.range 32).filter (fun i => l.getD i false != w.testBit (31 - i))).length

/-- First position from `lo`, of `n`, whose 32 decisions lie within a tolerance of a word. -/
def findWord (d : List Bool) (w tol n lo : Nat) : Option (Nat × Nat) :=
  match n with
  | 0 => none
  | n + 1 =>
    let e := wordErrs ((d.drop lo).take 32) w
    if e ≤ tol ∧ lo + 32 ≤ d.length then some (lo, e) else findWord d w tol n (lo + 1)

/-- Arrival stamp of the frame that holds a sample. -/
def arrivalOf (l : List (Nat × Nat)) (i : Nat) : Nat := l.foldl (fun t p => if p.1 ≤ i then p.2 else t) 0

/-- The first `n` samples of a stream leave it. -/
def BurstSt.consume (x : BurstSt) (n : Nat) : BurstSt :=
  { x with samples := x.samples.drop n, arrivals := (x.arrivals.map (fun p => (p.1 - n, p.2))) }

/-- Slot boundary nearest an instant (R457). -/
def nearSlot (mu t : Nat) : Nat := (t + slotTc mu / 2) / slotTc mu * slotTc mu

/-- A complete burst is assigned to its slot: discarded, or kept for the FFT (R457, R458). `at'` is where its samples start, `c` its count when its
end word was found. -/
def State.takeBurst (s : State) (b : Nat) (k : CellCfg) (n at' errs : Nat) (c : Option Nat) : State :=
  let x := s.front.bst.get {} b
  let slot := nearSlot k.mu (arrivalOf x.arrivals (at' - 1) - s.bstCfg b 28 20)
  let full := x.samples.drop at'
  let len := c.getD n
  let gain := Config.bstGain (x.samples.take 64) (s.bstCfg b 19 8)
  let body := (full.take (min n len)).map (Config.bstScale gain) ++ List.replicate (n - min n len) 0
  let dev := (len : Int) - (n : Int)
  let far := decide (n / 5000 < dev.natAbs)
  let y := x.consume (at' + len + 32)
  let put (s : State) (y : BurstSt) : State := { s with front := { s.front with bst := s.front.bst.set b y } }
  if !(s.cell (s.bstCfg b 2 9)).ulLive slot then (put s y).bstCount b 6
  else if x.slots.contains slot then (put s y).bstCount b 5
  else if 2 ≤ x.bursts.length then (put s y).bstCount b 7
  else
    let y := { y with bursts := y.bursts ++ [{ at0 := slot, samples := body, next := 0 }],
                      slots := (y.slots.filter (fun t => decide (s.now ≤ t + 2 * frameTc))) ++ [slot] }
    let s := put s y
    let s := if c.isNone then s.bstCount b 3 else if far then s.bstCount b 2 else s.bstCount b 0
    let s := s.setReg (Reg.FHL_BST_LAST b) (tcStamp slot).toNat
    let d : Int := max (-127) (min 127 dev)
    s.setReg (Reg.FHL_BST_STAT b) (packFields [(3, errs), (9, unsigned 9 gain), (8, unsigned 8 d), (1, (c.isSome && far).toNat), (1, c.isNone.toNat)])

/-- One step of the search through the samples that the intake holds (R455, R458): a complete burst is taken, samples without a sync word are passed
over; none where it has to wait for more. -/
def State.scanOnce (s : State) (b : Nat) (k : CellCfg) : Option State :=
  let x := s.front.bst.get {} b
  let n := 15 * s.nFft b
  let tol := s.bstCfg b 15 3
  let word := s.regBits (Reg.FHL_BST_SYNC b) 0 32
  if x.samples.length < 96 then none
  else
    let d := x.samples.map (Config.bstDecide (x.samples.take 64))
    match findWord (d.take 256) word tol 161 64 with
    | none =>
      if x.samples.length < 256 then none
      else some ({ s with front := { s.front with bst := s.front.bst.set b (x.consume 256) } }.bstCount b 1)
    | some (i, errs) =>
      let at' := i + 32
      match findWord d (2 ^ 32 - 1 - word) tol 129 (at' + n - 64) with
      | some (j, _) => some (s.takeBurst b k n at' errs (some (j - at')))
      | none => if x.samples.length < at' + n + 96 then none else some (s.takeBurst b k n at' errs none)

/-- The intake goes through the samples that it holds: bursts as long as they are complete (R455, R458). -/
def State.scanBurst (s : State) (b : Nat) (k : CellCfg) (fuel : Nat) : State :=
  match fuel with
  | 0 => s
  | fuel + 1 =>
    match s.scanOnce b k with
    | none => s
    | some t => t.scanBurst b k fuel

/-- Samples of a burst stream arrive; a sequence gap has ended the burst in progress (R452, R457). -/
def State.burstFrame (s : State) (e : Eaxc) (k : CellCfg) (gap : Bool) (b : List Byte) : State :=
  if s.bstCfg e.bst 0 1 = 0 ∨ b.length % 4 ≠ 0 then s
  else
    let x := s.front.bst.get {} e.bst
    let cut := gap && !x.samples.isEmpty
    let s := if cut then s.bstCount e.bst 4 else s
    let x : BurstSt := if cut then { x with samples := [], arrivals := [] } else x
    let new : List Word := (List.range (b.length / 4)).map (fun i => BitVec.ofNat 32 (byteField b (4 * i) 4))
    let y : BurstSt := { x with samples := x.samples ++ new, arrivals := x.arrivals ++ [(x.samples.length, s.now)] }
    ({ s with front := { s.front with bst := s.front.bst.set e.bst y } }).scanBurst e.bst k (y.samples.length / 96 + 1)

/-! ### FRAME_RECEIVE -/

/-- Checks 3 to 6 of a U-plane frame (R439). -/
def State.uplane (s : State) (p : Nat) (e : Eaxc) (k : CellCfg) (b : List Byte) : State :=
  let hdr := beField b 0 1
  let slotId := beField b 2 2 / 64 % 64
  let sym := beField b 3 1 % 64
  let sub := beField b 2 1 / 16
  let n := e.cell
  let dyn := s.fhCell n 3 12 1 == 1
  let total := if e.kind = 2 then 70 else k.nrb
  let ok := decide (4 ≤ b.length) && hdr / 16 == 1 && hdr % 16 == (if e.kind = 2 then e.filter else 0) && decide (slotId < 2 ^ k.mu) && decide (sym < 14) &&
    decide (sub < 10)
  match (if ok then sections b.length total (s.fhCell n 3 0 2) (iqWidth (s.fhCell n 3 2 4)) dyn (b.drop 4) else none) with
  | none => s.fhCount p 3 1
  | some l =>
    let at0 := resolveSlot k.mu (beField b 1 1) (sub * 2 ^ k.mu + slotId) sym s.now
    if e.kind = 2 then s.prachFrame p e k at0 l else s.cellFrame p e k at0 sym l

/-- A frame with a good FCS, from its destination address to the last byte before the FCS (R430, R433, R439). -/
def State.frameIn (s : State) (p : Nat) (f : List Byte) : State :=
  if !s.l2Ok p f then s.fhCount p 2 1
  else if beField f (s.l2Len p - 2) 2 ≠ 0xAEFE then s
  else
    match ecpri (f.drop (s.l2Len p)) with
    | none => s.fhCount p 3 1
    | some (id, seq, b) =>
      match s.eaxcOf p id with
      | none => s.fhCount p 4 1
      | some e =>
        let gap := match s.front.seqIn.find e.idx with
          | none => false
          | some q => seq != (q + 1) % 256
        let s := { s with front := { s.front with seqIn := s.front.seqIn.set e.idx seq } }
        let s := if gap then s.fhCount p 10 1 else s
        match s.cellCfg e.cell with
        | none => s.fhCount p 5 1
        | some k => if e.kind = 3 then s.burstFrame e k gap b else s.uplane p e k b

/-- Is a fronthaul port in service (R609)? -/
def State.fhOn (s : State) (p : Nat) : Bool := (s.host.ports.get {} p).st == .on

/-- FRAME_RECEIVE (R429, R430, R439, R444, R651): a frame of 64 to 9,216 bytes, FCS included. PTP and ESMC frames go to the time unit. -/
def execFrameReceive (p : Nat) (f : List Byte) (s : State) : Res :=
  if 16 ≤ p then .fault .noSuchPart
  else if !s.fhOn p ∨ f.length < 64 ∨ 9216 < f.length then .next s
  else if s.replayed then .next s.skipIn
  else
    let b := f.take (f.length - 4)
    if leNat (f.drop (f.length - 4)) ≠ (crc32 b).toNat then .next (s.fhCount p 1 1)
    else .next ((((s.fhCount p 0 1).logIn 3 0x10 p 0 b)).frameIn p b)

/-! ### RECEIVE_WINDOW_CLOSE (R413, R437, R442, R443) -/

/-- FH_LATE on each result whose PDU covers a missing resource block of a symbol (R413, R442). -/
def SlotWork.fhLate (w : SlotWork) (nrb sym : Nat) (missing : List Nat) : SlotWork :=
  { w with pend := w.pend.map (fun (q : Pending) =>
      if q.status = 0 ∧ (w.ul.getD []).any (fun p => p.handle == q.handle && (pduPrbs nrb p sym).any (fun i => missing.contains i)) then { q with status := 0x0C } else q) }

/-- A symbol's window closes: what was not received is written as zero, recorded, and the handle is released (R442). -/
def State.closeSym (s : State) (e : Eaxc) (k : CellCfg) (w : SlotWork) (sym : Nat) : State :=
  let r := s.rxOf e.idx w.at0 sym
  let row := e.row k w.at0 sym
  let missing := (List.range k.nrb).filter (fun i => !r.got.contains i)
  let s := if r.released then s else missing.foldl (fun s i => s.ringWriteAt e (row.1 + 48 * i) (List.replicate 48 0)) s
  let s := if r.released then s else s.setSlot e.cell (w.fhLate k.nrb sym missing)
  s.releaseRow e { r with missing := missing } row

/-- An occasion's window closes (R443). -/
def State.closeOcc (s : State) (e : Eaxc) (k : CellCfg) (w : SlotWork) (o : Nat) (long : Bool) : State :=
  let r := s.rxOf e.idx w.at0 o
  let row := e.occRow k.mu w.at0 o long
  let missing := (List.range (prachPrbs long)).filter (fun i => !r.got.contains i)
  let s := missing.foldl (fun s i => s.ringWriteAt e (row.1 + 48 * i) (List.replicate (min 48 (row.2 - 48 * i)) 0)) s
  s.releaseRow e { r with missing := missing } row

/-- RECEIVE_WINDOW_CLOSE (R437, R442, R443): the earliest slot whose window for a stream's symbol, or its occasion, has closed with its handle
unreleased. -/
def execReceiveWindowClose (i sym : Nat) (s : State) : Res :=
  if 8192 ≤ i then .fault .noSuchPart
  else
    let e := s.eaxc i
    let x := s.cell e.cell
    match s.cellCfg e.cell with
    | none => .next s
    | some k =>
      if e.kind = 0 ∨ e.dir = 1 then .next s
      else
        let endOf (w : SlotWork) : Option Nat :=
          if e.kind = 1 then (if sym < 14 then some (symStart k.mu w.at0 sym) else none)
          else if e.kind = 3 then (if sym < 14 then some (symEnd k.mu w.at0 13) else none)
          else w.prach.bind (fun p => if sym < byteField p.bytes 9 1 * byteField p.bytes 11 1 then some (prachEnd k.mu w.at0 p.bytes sym) else none)
        let due (w : SlotWork) : Bool :=
          w.ul.isSome && !(s.rxOf i w.at0 sym).released && (match endOf w with | some t => decide (s.rxClose e.cell t ≤ s.now) | none => false)
        match x.slots.find? due with
        | none => .next s
        | some w =>
          if e.kind = 2 then .next (s.closeOcc e k w sym (match w.prach with | some p => longPrach p.bytes | none => true))
          else .next (s.closeSym e k w sym)

/-! ### BURST_FFT (R459) -/

/-- Cyclic prefix of a symbol in samples (R459). -/
def cpLen (mu nfft at0 l : Nat) : Nat :=
  let n := at0 % frameTc / slotTc mu
  144 * nfft / 2048 + (if (14 * n + l) % (7 * 2 ^ mu) = 0 then 16 * 2 ^ mu * nfft / 2048 else 0)

/-- Sample at which a symbol starts. -/
def symSample (mu nfft at0 l : Nat) : Nat := (List.range l).foldl (fun n i => n + cpLen mu nfft at0 i + nfft) 0

/-- BURST_FFT (R459): the next symbol of the oldest burst of the entry's stream is transformed into its row. -/
def execBurstFft (i sym : Nat) (s : State) : Res :=
  if 8192 ≤ i then .fault .noSuchPart
  else
    let e := s.eaxc i
    let st := s.front.bst.get {} e.bst
    match s.cellCfg e.cell, st.bursts with
    | some k, u :: rest =>
      if e.kind ≠ 3 ∨ u.next ≠ sym ∨ 14 ≤ sym then .next s
      else
        let nfft := s.nFft e.bst
        let cp := cpLen k.mu nfft u.at0 sym
        let bins := Config.bstFft nfft ((u.samples.drop (symSample k.mu nfft u.at0 sym + cp - cp / 4)).take nfft)
        let row := e.row k u.at0 sym
        let els := (List.range (12 * k.nrb)).map (fun j => bins.getD ((j + nfft - 6 * k.nrb % nfft) % nfft) 0)
        let st := { st with bursts := if sym = 13 then rest else { u with next := sym + 1 } :: rest }
        let r := s.rxOf i u.at0 sym
        let s := { s with front := { s.front with bst := s.front.bst.set e.bst st } }
        if r.released then .next s
        else .next ((s.ringWriteAt e row.1 (wordBytes els)).releaseRow e { r with got := List.range k.nrb } row)
    | _, _ => .next s

/-! ### FH_LINK_CHANGE (R429, R471, R609) -/

/-- FH_LINK_CHANGE: the port's link state; a port that was starting is ON with its link. -/
def execFhLinkChange (p : Nat) (link align : Bool) (s : State) : Res :=
  if 16 ≤ p then .fault .noSuchPart
  else
    let s := { s with front := { s.front with link := s.front.link.set p (link, align) } }
    let x := s.host.ports.get {} p
    if link ∧ x.st = .starting then
      .next { s with host := { s.host with ports := s.host.ports.set p (if x.pend then { st := .stopping, pend := false } else { st := .on, pend := false }) } }
    else .next s

end Sys2Proof.Machine
end

