-- ==== Sys2Proof/Machine/FrontOut.lean ====
section
/-! DEFINITION. Fronthaul egress and the shaper: C-plane and U-plane packets, gates, selection, histograms; the commands EGRESS_BUILD, GATE_OPEN,
GATE_CLOSE_DROP, SHAPER_SELECT, SHP_HIST_SAMPLE, SHP_HIST_CLR (R75, R437, R445 to R450, R460 to R468). Layouts that the spec leaves to eCPRI and
O-RAN are theirs (log entry 19). -/
namespace Sys2Proof.Machine

/-- A number as `n` bytes, most significant first. -/
def beBytes (n v : Nat) : List Byte := (leBytes n v).reverse

/-! ### Sections of a slot (R445, R447) -/

/-- A section to be sent: ID, PDU, PRBs, symbols, and whether modulation compression carries it (R447). -/
structure TxSection where
  id : Nat
  pdu : Pdu
  prb : Nat
  nPrb : Nat
  sym : Nat
  nSym : Nat
  modc : Bool
  deriving DecidableEq, Repr

/-- Does modulation compression carry a PDSCH's data (R447)? -/
def modComp (k : CellCfg) (on : Bool) (p : Pdu) : Bool := on && p.ty == 0x01 && !k.beamformed && byteField p.bytes 27 1 == 0

/-- Runs of symbols that agree in whether they carry DMRS: first symbol, symbols, whether DMRS (R447). -/
def symRuns (dmrs lo n : Nat) : List (Nat × Nat × Bool) :=
  (List.range n).foldl (fun l i =>
    let d := dmrs.testBit (lo + i)
    match l.getLast? with
    | some (a, m, e) => if e = d then l.dropLast ++ [(a, m + 1, e)] else l ++ [(lo + i, 1, d)]
    | none => [(lo + i, 1, d)]) []

/-- Contiguous allocations of a downlink PDU: first PRB, PRBs, first symbol, symbols, modulation compression (R420, R445). -/
def dlAlloc (k : CellCfg) (on : Bool) (p : Pdu) : List (Nat × Nat × Nat × Nat × Bool) :=
  let b := p.bytes
  match p.ty with
  | 0x01 =>
    let prb := byteField b 12 2
    let n := byteField b 14 2
    if modComp k on p then (symRuns (byteField b 20 2) (byteField b 16 1) (byteField b 17 1)).map (fun r => (prb, n, r.1, r.2.1, !r.2.2))
    else [(prb, n, byteField b 16 1, byteField b 17 1, false)]
  | 0x02 => [(byteField b 8 2, byteField b 10 2, byteField b 12 1, byteField b 13 1, false)]
  | 0x03 => [(byteField b 12 2 / 12, ceilDiv (byteField b 12 2 % 12 + 240) 12, Config.ssbSym (byteField b 14 1) (byteField b 10 1), 4, false)]
  | _ =>
    if (byteField b 19 1).testBit 0 then []
    else
      let at' (l : Nat) : Nat × Nat × Nat × Nat × Bool := (byteField b 8 2, byteField b 10 2, l, 1, false)
      at' (byteField b 16 1) :: (if byteField b 16 1 < byteField b 17 1 then [at' (byteField b 17 1)] else [])

/-- Sections numbered from 0 in PDU order (R445). -/
def dlSections (k : CellCfg) (on : Bool) (l : List Pdu) : List TxSection :=
  let all := l.flatMap (fun p => (dlAlloc k on p).map (fun a => (p, a)))
  (List.range all.length).filterMap (fun i => (all[i]?).map (fun q =>
    { id := i, pdu := q.1, prb := q.2.1, nPrb := q.2.2.1, sym := q.2.2.2.1, nSym := q.2.2.2.2.1, modc := q.2.2.2.2.2 }))

/-- Sections of an uplink slot for a data stream: PUSCH, PUCCH and SRS (R445). -/
def ulSections (k : CellCfg) (l : List Pdu) : List TxSection :=
  let one (p : Pdu) : List (Nat × Nat × Nat × Nat) :=
    let b := p.bytes
    match p.ty with
    | 0x11 => [(byteField b 12 2, byteField b 14 2, byteField b 16 1, byteField b 17 1)]
    | 0x12 =>
      let s0 := byteField b 11 1
      let n := byteField b 12 1
      if (byteField b 13 1).testBit 0 then [(byteField b 14 2, byteField b 16 1, s0, n / 2), (byteField b 18 2, byteField b 16 1, s0 + n / 2, n - n / 2)]
      else [(byteField b 14 2, byteField b 16 1, s0, n)]
    | 0x14 => [(0, k.nrb, byteField b 11 1, byteField b 12 1)]
    | _ => []
  let all := l.flatMap (fun p => (one p).map (fun a => (p, a)))
  (List.range all.length).filterMap (fun i => (all[i]?).map (fun q =>
    { id := i, pdu := q.1, prb := q.2.1, nPrb := q.2.2.1, sym := q.2.2.2.1, nSym := q.2.2.2.2, modc := false }))

/-! ### Compression (R446, R448) -/

/-- v / 2^e rounded to the nearest integer, ties to even (R226). -/
def roundShift (v : Int) (e : Nat) : Int :=
  let d : Int := (2 ^ e : Nat)
  let q := v / d
  let r := v % d
  if 2 * r < d then q else if d < 2 * r then q + 1 else if q % 2 = 0 then q else q + 1

/-- Halves of elements, real first (R344). -/
def halvesOf (l : List Word) : List Int := l.flatMap (fun w => [signed 16 (bits w 0 16), signed 16 (bits w 16 16)])

/-- Smallest exponent for a PRB at a width (R446). -/
def bfpExp (w : Nat) (l : List Int) : Nat :=
  let top : Int := (2 ^ (w - 1) : Nat)
  ((List.range (16 - w)).find? (fun e => l.all (fun v => decide (-top ≤ roundShift v e ∧ roundShift v e < top)))).getD (16 - w)

/-- Numbers of `w` bits packed most significant bit first, zeros to a whole byte. -/
def packMsb (w : Nat) (l : List Nat) : List Byte :=
  let n := l.length * w
  let bytes := ceilDiv n 8
  beBytes bytes ((l.foldl (fun v x => v * 2 ^ w + x % 2 ^ w) 0) * 2 ^ (8 * bytes - n))

/-- One PRB compressed, or as it stands (R446). -/
def packPrb (meth w : Nat) (l : List Word) : List Byte :=
  let h := halvesOf l
  if meth = 0 then packMsb 16 (h.map (unsigned 16))
  else
    let e := bfpExp w h
    let top : Int := (2 ^ (w - 1) : Nat)
    leBytes 1 e ++ packMsb w (h.map (fun v => unsigned w (max (-top) (min (top - 1) (roundShift v e)))))

/-- Bytes per PRB of a section (R448). -/
def TxSection.prbLen (x : TxSection) (meth w : Nat) : Nat := if x.modc then ceilDiv (3 * (byteField x.pdu.bytes 38 1 / 2)) 2 else prbBytes meth w

/-! ### Frames (R429, R431, R432) -/

/-- A frame without its FCS: addresses, tag, eCPRI header, body, padded to 60 bytes. -/
def State.fhFrame (s : State) (e : Eaxc) (cplane : Bool) (seq : Nat) (body : List Byte) : List Byte :=
  let p := e.port
  let tag := if s.regBits (Reg.FHL_PORT_CFG p) 1 1 = 1 then
      beBytes 2 0x8100 ++ beBytes 2 (s.regBits (Reg.FHL_PORT_CFG p) (if cplane then 14 else 17) 3 * 2 ^ 13 + s.regBits (Reg.FHL_PORT_CFG p) 2 12)
    else []
  let b := beBytes 6 (Config.ruMac p e.eaxc) ++ beBytes 6 (s.regBits (Reg.FHL_PORT_MAC p) 0 48) ++ tag ++ beBytes 2 0xAEFE ++
    beBytes 1 0x10 ++ beBytes 1 (if cplane then 2 else 0) ++ beBytes 2 (4 + body.length) ++ beBytes 2 e.eaxc ++ beBytes 1 seq ++ beBytes 1 0x80 ++ body
  b ++ List.replicate (60 - b.length) 0

/-- The four bytes that name direction, filter, frame, subframe, slot and symbol (R436). -/
def oranHdr (dir filter mu at0 sym : Nat) : List Byte :=
  let n := at0 % frameTc / slotTc mu
  beBytes 1 (dir * 128 + 16 + filter) ++ beBytes 1 (at0 / frameTc % 256) ++
  beBytes 2 (n / 2 ^ mu * 4096 + n % 2 ^ mu * 64 + sym)

/-- Section ID, rb and symInc 0, first PRB and PRBs; 0 stands for more than 255. -/
def sectHdr (id prb n : Nat) : List Byte := beBytes 4 (id % 4096 * 2 ^ 20 + prb % 1024 * 2 ^ 8 + (if 255 < n then 0 else n))

/-- udCompHdr of a cell in a direction (R472). -/
def State.compHdr (s : State) (n dir : Nat) : Nat :=
  let o := if dir = 1 then 6 else 0
  s.fhCell n 3 (o + 2) 4 * 16 + s.fhCell n 3 o 2

/-! ### Entering the shaper (R449, R466) -/

/-- A packet takes its place by gate opening, C-plane first, never before an active head (R449). -/
def insertPkt (p : Packet) (keep : Bool) (l : List Packet) : List Packet :=
  match l with
  | [] => [p]
  | q :: r =>
    if keep then q :: insertPkt p false r
    else
      let a := match p.gate with | some g => g.1 | none => 0
      let b := match q.gate with | some g => g.1 | none => 0
      if a < b ∨ (a = b ∧ p.cplane ∧ !q.cplane) then p :: q :: r else q :: insertPkt p false r

/-- A fronthaul packet enters its queue, or is dropped and counted (R449, R466). -/
def State.enqFh (s : State) (q : Nat) (p : Packet) : State :=
  let x := s.shpQ q
  let port := s.shpPort q
  if s.regBits (Reg.SHP_Q q) 18 16 * 1024 < x.bytes + p.len ∨ 2 ^ 25 < s.shpBytes + p.len then
    (s.count (Reg.SHP_DROP_FULL port) 1).fhCount port 14 1
  else
    let s := s.setShpQ q { x with pkts := insertPkt p x.active x.pkts }
    if x.active then s else s.headTag q true

/-- A stream's next sequence ID (R432). -/
def State.nextSeq (s : State) (i : Nat) : Nat × State :=
  let n := s.front.seqOut.get 0 i
  (n, { s with front := { s.front with seqOut := s.front.seqOut.set i ((n + 1) % 256) } })

/-- Key that ties a stream's U-plane packets of a slot to their C-plane packet. -/
def sectKey (i at0 : Nat) : Nat := at0 * 8192 + i

/-- Output key of a fronthaul packet (R647). -/
def fhKey (e : Eaxc) (cplane : Bool) (idx id at0 : Nat) : BitVec 128 :=
  outKey 7 (cplane.toNat + idx % 128 * 2 + id % 65536 * 2 ^ 8) (e.port + e.eaxc * 2 ^ 16) (tcStamp at0).toNat

/-- Gates of a cell: C-plane and U-plane transmit windows measured from a symbol's start (R437). -/
def State.cGate (s : State) (n dir t : Nat) : Nat × Nat :=
  if dir = 1 then (t - s.fhCell n 1 20 20, t - s.fhCell n 1 40 20) else (t - s.fhCell n 2 0 20, t - s.fhCell n 2 20 20)
def State.uGate (s : State) (n t : Nat) : Nat × Nat := (t - s.fhCell n 0 0 20, t - s.fhCell n 0 20 20)

/-! ### C-plane messages (R445, R447) -/

/-- A section of type 1 with its extensions. -/
def State.cSection (s : State) (k : CellCfg) (e : Eaxc) (x : TxSection) : List Byte :=
  let ext := (if k.beamformed then Config.beamExt e.cell x.pdu.bytes e.stream else []) ++ (if x.modc then Config.modExt e.cell x.pdu.bytes else [])
  sectHdr x.id x.prb x.nPrb ++ beBytes 2 (0xFFF * 16 + x.nSym) ++ beBytes 2 (if ext = [] then 0 else 2 ^ 15) ++ ext

/-- A stream's C-plane message for a slot, built once (R445). -/
def State.buildC (s : State) (k : CellCfg) (e : Eaxc) (at0 : Nat) (l : List TxSection) : State :=
  let key := sectKey e.idx at0
  if l = [] ∨ s.front.cBuilt.contains key then s
  else
    let first := l.foldl (fun m x => min m x.sym) 13
    let r := s.nextSeq e.idx
    let s := r.2
    let body := oranHdr e.dir 0 k.mu at0 first ++ beBytes 1 l.length ++ beBytes 1 1 ++ beBytes 1 (s.compHdr e.cell e.dir) ++ beBytes 1 0 ++
      l.flatMap (fun x => s.cSection k e x)
    let f := s.fhFrame e true r.1 body
    let s := { s with front := { s.front with cBuilt := s.front.cBuilt.filter (fun j => decide (s.now ≤ j / 8192 + 2 * frameTc)) ++ [key] } }
    s.enqFh e.queue { len := f.length + 4, gate := some (s.cGate e.cell e.dir (symStart k.mu at0 first)), at0 := s.now, cplane := true, sect := key,
                      frame := f, key := fhKey e true 0 0 (symStart k.mu at0 first) }

/-- A PRACH stream's C-plane message of type 3: one section for each occasion (R431, R445). -/
def State.buildPrachC (s : State) (k : CellCfg) (e : Eaxc) (at0 : Nat) (p : Pdu) : State :=
  let key := sectKey e.idx at0
  if s.front.cBuilt.contains key then s
  else
    let first := byteField p.bytes 10 1
    let n := byteField p.bytes 9 1 * byteField p.bytes 11 1
    let r := s.nextSeq e.idx
    let s := r.2
    let body := oranHdr 0 e.filter k.mu at0 first ++ beBytes 1 n ++ beBytes 1 3 ++
      (List.range n).flatMap (fun o => sectHdr o 0 (prachPrbs (longPrach p.bytes)) ++ Config.prachSect k.mu p.bytes o)
    let f := s.fhFrame e true r.1 body
    let s := { s with front := { s.front with cBuilt := s.front.cBuilt.filter (fun j => decide (s.now ≤ j / 8192 + 2 * frameTc)) ++ [key] } }
    s.enqFh e.queue { len := f.length + 4, gate := some (s.cGate e.cell 0 (symStart k.mu at0 first)), at0 := s.now, cplane := true, sect := key, frame := f,
                      key := fhKey e true 0 0 (symStart k.mu at0 first) }

/-! ### U-plane packets (R446 to R449) -/

/-- Elements of PRBs of a symbol as the downlink ring holds them (R440, R449). -/
def State.ringWords (s : State) (e : Eaxc) (k : CellCfg) (at0 sym prb n : Nat) : List Word :=
  let b := s.mem.rdBytes (s.ringAt e ((e.row k at0 sym).1 + 48 * prb)) (48 * n)
  (List.range (12 * n)).map (fun i => BitVec.ofNat 32 (byteField b (4 * i) 4))

/-- Packet `i` of a section's symbol. -/
def State.uPacket (s : State) (e : Eaxc) (k : CellCfg) (at0 sym i prb n : Nat) (x : TxSection) : State :=
  let meth := s.fhCell e.cell 3 6 2
  let w := iqWidth (s.fhCell e.cell 3 8 4)
  let dyn := s.fhCell e.cell 3 12 1 == 1
  let r := s.nextSeq e.idx
  let s := r.2
  let ws := s.ringWords e k at0 sym prb n
  let data := if x.modc then Config.modData x.pdu.bytes ws
    else (List.range n).flatMap (fun j => packPrb meth w ((ws.drop (12 * j)).take 12))
  let hdr := if x.modc then byteField x.pdu.bytes 38 1 / 2 * 16 + 4 else s.compHdr e.cell 1
  let body := oranHdr 1 0 k.mu at0 sym ++ sectHdr x.id prb n ++ (if dyn then beBytes 2 (hdr * 256) else []) ++ data
  let f := s.fhFrame e false r.1 body
  let len := max 64 (s.l2Len e.port + (if dyn then 14 else 12) + n * x.prbLen meth w + 4)
  s.enqFh e.queue { len := len, gate := some (s.uGate e.cell (symStart k.mu at0 sym)), at0 := s.now, sect := sectKey e.idx at0, frame := f,
                    key := fhKey e false i x.id (symStart k.mu at0 sym) }

/-- A section's symbol, split at PRB boundaries into packets (R448). -/
def State.uSection (s : State) (e : Eaxc) (k : CellCfg) (at0 sym : Nat) (x : TxSection) : State :=
  let meth := s.fhCell e.cell 3 6 2
  let w := iqWidth (s.fhCell e.cell 3 8 4)
  let dyn := s.fhCell e.cell 3 12 1 == 1
  let per := max 1 ((s.regBits (Reg.FHL_PORT_CFG e.port) 20 14 - (if dyn then 14 else 12)) / max 1 (x.prbLen meth w))
  (List.range (ceilDiv x.nPrb per)).foldl (fun s i => s.uPacket e k at0 sym i (x.prb + i * per) (min per (x.nPrb - i * per)) x) s

/-! ### EGRESS_BUILD -/

/-- May a cell send for a slot: live, not muted, and not held by LOST with LOST_TX clear (R75, R390, R683)? -/
def State.maySend (s : State) (n at0 : Nat) : Bool :=
  (s.cell n).takes at0 && !(s.cell n).muted && (s.time.st != .lost || s.regBits Reg.TIM_CFG 0 1 == 1)

/-- Streams of a cell in a direction (R434). -/
def State.streams (s : State) (n dir : Nat) : List Eaxc :=
  ((List.range 8192).map s.eaxc).filter (fun e => e.kind != 0 && e.cell == n && e.dir == dir)

/-- EGRESS_BUILD (R445, R449): the radio service marks symbol `sym` of a downlink slot complete: the slot's C-plane messages are built first, then
the symbol's U-plane packets. `sym` 14 stands for the C-plane of the slot's uplink. -/
def execEgressBuild (n at0 sym : Nat) (s : State) : Res :=
  if 512 ≤ n ∨ 14 < sym then .fault .noSuchPart
  else
    match s.cellCfg n with
    | none => .next s
    | some k =>
      let w := (s.cell n).slotAt at0
      if !s.maySend n at0 then .next s
      else if sym = 14 then
        (match w.ul with
         | none => .next s
         | some l =>
           .next ((s.streams n 0).foldl (fun s e =>
             if e.kind = 1 then s.buildC k e at0 (ulSections k l)
             else if e.kind = 2 then (match w.prach with | some p => s.buildPrachC k e at0 p | none => s)
             else s) s))
      else
        match w.dl with
        | none => .next s
        | some l =>
          if w.dlRefused then .next s
          else
            let all := dlSections k (s.fhCell n 3 13 1 == 1) l
            let mine := all.filter (fun x => decide (x.sym ≤ sym) && decide (sym < x.sym + x.nSym))
            .next ((s.streams n 1).foldl (fun s e => mine.foldl (fun s x => s.uSection e k at0 sym x) (s.buildC k e at0 all)) s)

/-! ### Gates and selection (R449, R450, R461 to R465, R468) -/

/-- GATE_OPEN (R461, R463, R464). -/
def execGateOpen (q : Nat) (s : State) : Res :=
  if 16384 ≤ q then .fault .noSuchPart else .next (if (s.shpQ q).active then s else s.headTag q true)

/-- GATE_CLOSE_DROP (R450, R461): a head whose gate has closed is dropped, uncharged; the next packet becomes head. -/
def execGateCloseDrop (q : Nat) (s : State) : Res :=
  if 16384 ≤ q then .fault .noSuchPart
  else
    let x := s.shpQ q
    match x.pkts with
    | [] => .next s
    | p :: r =>
      match p.gate with
      | none => .next s
      | some (_, c) =>
        if s.now < c then .next s
        else
          let port := s.shpPort q
          let s := (s.setShpQ q { x with pkts := r }).headTag q (!x.active)
          .next ((s.count (Reg.SHP_DROP_GATE port) 1).fhCount port 13 1)

/-- May a queue's head leave now: active, open, its section's C-plane packet gone (R449, R461)? -/
def State.eligible (s : State) (x : ShpQueue) : Bool :=
  x.active &&
  (match x.pkts with
   | [] => false
   | p :: _ => p.open s.now && (p.cplane || p.sect == 0 || s.front.cLeft.contains p.sect))

/-- Queues of a port that may be selected, in index order. -/
def State.candidates (s : State) (port : Nat) : List (Nat × ShpQueue) :=
  s.front.queues.filter (fun p => s.shpPort p.1 == port && s.regBits (Reg.SHP_Q p.1) 5 1 == 1 && s.eligible p.2)

/-- Is a shaper port able to send: a fronthaul port in service with its link, a fabric port whose link is UP (R609, R527)? -/
def State.portUp (s : State) (port : Nat) : Bool :=
  if port < 16 then s.fhOn port && (s.front.link.get (false, false) port).1 else (s.port (port - 16)).link == .up

/-- A beacon, an ECHO_REQ or an ECHO_RESP takes its send time as it leaves (R569): 8 bytes of whole Tc and one of sixty-fourths, or the header's
OPFIELD and AUX. -/
def State.stampTxn (s : State) (t : Txn) : Txn :=
  if t.op = 8 ∨ t.op = 9 then { t with data := leBytes 8 (tcStamp s.now).toNat ++ leBytes 1 (s.now64 % 64) ++ t.data.drop 9 }
  else if t.op = 0x89 then { t with opfield := tcStamp s.now, aux := s.now64 % 64 }
  else t

/-- A packet leaves: a frame with its FCS, or a flit (R449, R462, R526, R647). -/
def State.sendPkt (s : State) (port : Nat) (p : Packet) : State :=
  let s := s.count64 (Reg.SHP_TX_BYTES port) (s.charged port p.len)
  if port < 16 then
    let s := s.output p.key p.frame
    let s := if p.cplane then
        { s with front := { s.front with cLeft := s.front.cLeft.filter (fun j => decide (s.now ≤ j / 8192 + 2 * frameTc)) ++ [p.sect] } }
      else s
    (s.fhCount port 12 1).emit (.fh port (p.frame ++ leBytes 4 (crc32 p.frame).toNat))
  else
    let s := s.pushFlit (port - 16)
    match p.txn with
    | none => s
    | some t =>
      let s := if t.op = 9 then { s with time := { s.time with echoT1 := s.time.echoT1.set (port - 16) (s.now64 : Int) } } else s
      s.emit (.txn (port - 16) (s.stampTxn t))

/-- SHAPER_SELECT (R465): the active queue of smallest F, the lower index on a tie; V and F_q take it. -/
def execShaperSelect (port : Nat) (s : State) : Res :=
  if 19 ≤ port then .fault .noSuchPart
  else if !s.portUp port then .next s
  else
    match leastBy (s.candidates port) (fun p => (p.2.tag - s.front.v.get 0 port + BitVec.ofNat 64 (2 ^ 63)).toNat) with
    | none => .next s
    | some (q, x) =>
      match x.pkts with
      | [] => .next s
      | p :: r =>
        let s := { s with front := { s.front with v := s.front.v.set port x.tag } }
        let s := (s.setShpQ q { x with pkts := r, f := x.tag }).headTag q false
        .next (s.sendPkt port p)

/-! ### Histograms (R467, R475) -/

/-- Bin of a value (R467). -/
def histBin (x : Nat) : Nat := if x = 0 then 0 else min 15 (1 + x.log2)

/-- Last sample instant at or before now (R467). -/
def State.sampleAt (s : State) : Nat :=
  let us := s.regBits Reg.SHP_CFG 0 10 + 1
  let t := s.now % frameTc
  let k := t * 100 / (us * 196608)
  let k := if (k + 1) * us * 196608 / 100 ≤ t then k + 1 else k
  s.now / frameTc * frameTc + k * us * 196608 / 100

/-- A saturating bin counts one. -/
def bump (h : Tab Nat) (k : Nat) : Tab Nat := h.set k (satAdd (2 ^ 32 - 1) (h.get 0 k) 1)

/-- SHP_HIST_SAMPLE (R467): one depth bin and one delay bin of every enabled queue. -/
def execShpHistSample (s : State) : Res :=
  let t := s.sampleAt
  if t ≤ s.front.sampled then .next s
  else
    let qs := (List.range 16384).filter (fun q => s.regBits (Reg.SHP_Q q) 5 1 == 1)
    let hist := qs.foldl (fun h q =>
      let x := s.shpQ q
      let age := match x.pkts with
        | [] => 0
        | p :: _ => ceilDiv ((t - p.at0) * 100000) (196608 * 64)
      bump (bump h (32 * q + histBin (ceilDiv x.bytes 64))) (32 * q + 16 + histBin age)) s.front.hist
    .next { s with front := { s.front with hist := hist, sampled := t } }

/-- Both histograms of a queue are cleared. -/
def State.clearHist (s : State) (q : Nat) : State :=
  { s with front := { s.front with hist := s.front.hist.filter (fun (p : Nat × Nat) => p.1 / 32 != q) } }

/-- SHP_HIST_CLR (R475): the queue is the one that `SHP_HIST_SEL` selects as the write acts. -/
def execShpHistClr (s : State) : Res :=
  .next (s.bar2 Reg.SHP_HIST_CLR 4 1 (fun (s : State) => s.clearHist (s.regBits Reg.SHP_HIST_SEL 0 14)))

end Sys2Proof.Machine
end

