-- ==== Sys2Proof/Machine/Infer.lean ====
section
/-! DEFINITION. The commands of the inference service: model load and unload, sequences, the step boundary, and the end of a list (R305 to R342,
R598, R680, R737 to R739). -/
namespace Sys2Proof.Machine

/-! ### Ends of lists (R598, R121, R199, R324) -/

/-- LIST_END (R598, R609, R674): the list of a unit ends with its status; Tc of Kudu work past its window's close are summed; a quarantine that
waited takes effect; the inference service sees the end of a shard's list. -/
def execListEnd (u : Nat) (s : State) : Res :=
  if !isUnit u then .fault .noSuchPart
  else
    match s.run u with
    | none => .next s
    | some r =>
      if r.ending.isNone then .next s
      else
        let t := match (if uKind u = 5 then (s.region (uIdx u)).overrun else none) with
          | none => s
          | some c => s.count (Reg.KUD_OVR_TC (uIdx u)) (s.localNow - c)
        .next (((t.endList u).quarSettled s u).reapSteps)

/-! ### Model images (R305 to R307, R737 to R739) -/

/-- The 128-byte header is well formed (R305). -/
def modelHdrOk (h : List Byte) : Bool :=
  byteField h 0 4 == 0x48544C42 && byteField h 4 2 == 1 && decide (byteField h 6 1 ≤ 2) && decide (byteField h 7 1 < 4) &&
  decide (2 ≤ byteField h 16 4 ∧ byteField h 16 4 ≤ 65535) &&
  decide (64 ≤ byteField h 20 4 ∧ byteField h 20 4 ≤ 131072) && byteField h 20 4 % 64 == 0 &&
  decide (1 ≤ byteField h 24 2 ∧ byteField h 24 2 ≤ 2048) && decide (1 ≤ byteField h 26 2 ∧ byteField h 26 2 ≤ 256) &&
  decide (1 ≤ byteField h 28 2 ∧ byteField h 28 2 ≤ 48) && decide (1 ≤ byteField h 30 1 ∧ byteField h 30 1 ≤ 12) &&
  decide (1 ≤ byteField h 31 1 ∧ byteField h 31 1 ≤ 2) && decide (1 ≤ byteField h 32 4 ∧ byteField h 32 4 ≤ 4096) &&
  byteField h 36 4 == 0 && decide (1 ≤ byteField h 64 4 ∧ byteField h 64 4 ≤ 64) && byteField h 68 12 == 0

/-- Entry `i` of the section table. -/
def modelSect (b : List Byte) (i : Nat) : List Byte := (b.drop (byteField b 56 8 + 32 * i)).take 32

/-- Offset of the section of a type, 0 when there is none. -/
def sectAt (b : List Byte) (ty : Nat) : Nat :=
  match (List.range (byteField b 64 4)).find? (fun i => byteField (modelSect b i) 0 1 == ty) with
  | none => 0
  | some i => byteField (modelSect b i) 8 8

/-- Entry `i` of the shard table (R307). -/
def modelShard (b : List Byte) (i : Nat) : List Byte := (b.drop (sectAt b 1 + 16 * i)).take 16

/-- The section table and the shard table are well formed (R306, R307). -/
def modelTablesOk (b : List Byte) : Bool :=
  let n := byteField b 64 4
  let l := (List.range n).map (modelSect b)
  decide (byteField b 56 8 + 32 * n ≤ b.length) && n == 5 &&
  [1, 2, 3, 4, 5].all (fun ty => l.any (fun e => byteField e 0 1 == ty)) &&
  l.all (fun e => byteField e 1 7 == 0 && byteField e 24 8 == 0 && decide (byteField e 8 8 + byteField e 16 8 ≤ b.length) &&
    (byteField e 0 1 != 1 || byteField e 16 8 == 16 * byteField b 28 2)) &&
  (List.range (byteField b 28 2)).all (fun i =>
    let e := modelShard b i
    decide (1 ≤ byteField e 0 2 ∧ byteField e 0 2 ≤ 128) && decide (byteField e 2 1 < 16) && decide (byteField e 3 1 < byteField b 30 1) &&
    byteField e 4 12 == 0)

/-- The trailer that 512 bytes spell, when they are one (R737). -/
def modelTrailer (b : List Byte) : Option (List Byte) :=
  if byteField b 0 4 = 0x54524C31 ∧ byteField b 4 1 < 4 ∧ byteField b 5 1 = 0 ∧ byteField b 308 12 = 0 ∧ byteField b 380 132 = 0 ∧ b.length = 512
  then some b else none

/-- Bytes of an accepted signer's hash (`SEC_SIGNER`). -/
def State.signerHash (s : State) (i : Nat) : List Byte := (List.range 12).flatMap (fun j => leBytes 4 (s.reg (Reg.SEC_SIGNER i j)))

/-- The key that decrypts an image's body (R738). -/
def State.bodyKey (s : State) (t : Nat) (h tr : List Byte) : Option (List Byte) :=
  if (byteField tr 4 1).testBit 1 then
    if !s.start.sessionKey then none
    else
      let x := Config.sessionDh s.start.sessionSeed ((tr.drop 200).take 96)
      gcmOpen (hkdf384 [] x (h.drop 80) 32) ((tr.drop 296).take 12) h ((tr.drop 320).take 32) ((tr.drop 352).take 16)
  else
    match s.start.keys.find (byteField tr 6 2) with
    | none => none
    | some k => if k.st = 1 ∧ k.owner = t ∧ k.usage = 1 then some (leBytes 32 k.key.toNat) else none

/-- Check 3 of R310 (R738): the body's key, empty for an image in clear, when the signature and the key hold. -/
def State.modelAuth (s : State) (t : Nat) (h : List Byte) (tr : Option (List Byte)) : Option (List Byte) :=
  let enc := (byteField h 7 1).testBit 1
  let cfg := s.regs.get 0 (Reg.SEC_TENANT t)
  match tr with
  | none => if enc ∨ bit cfg 6 then none else some []
  | some tr =>
    let sgn := (byteField tr 4 1).testBit 0
    let signer := (tr.drop 8).take 96
    if sgn && !ecdsaOk signer (sha384 h) ((tr.drop 104).take 96) then none
    else if bit cfg 6 && !(sgn && shaBytes (sha384 signer) == s.signerHash (bits cfg 0 6)) then none
    else if !enc then some []
    else if !sgn then none
    else s.bodyKey t h tr

/-- An image in clear (R739). -/
def modelPlain (b key : List Byte) (tr : Option (List Byte)) : List Byte :=
  match tr with
  | none => b
  | some tr => if key = [] then b else b.take 128 ++ aesCtr (b.length / 16 + 1) key ((tr.drop 368).take 12) 0 (b.drop 128)

/-! ### MODEL_LOAD (R308 to R310, R680) -/

/-- Word 0 and word 1 of a submission to the inference service (R311). -/
def inferWordsOk (c : Cmd) : Bool := bits c 8 56 == 0 && bits c 64 64 == 0

/-- Is another slot of the tenant loaded with the same image, so that its pages are claimed already (R310, R507)? -/
def State.imageShared (s : State) (t slot : Nat) (d : BitVec 384) : Bool :=
  (List.range 16).any (fun n => n != slot && (match s.model t n with | some m => m.digest == d | none => false))

/-- Permitted regions of a tenant, ascending (R308). -/
def State.permittedList (s : State) (t : Nat) : List Nat := (List.range 12).filter (fun g => s.permitted t g)

/-- Check 2 of R310 up to the body that may be encrypted. -/
def modelHeadOk (b : List Byte) : Bool :=
  let enc := (byteField b 7 1).testBit 1
  modelHdrOk b && (!enc || decide (b.length - 128 ≤ 2 ^ 36)) && shaBytes (sha384 (b.drop 128)) == (b.drop 80).take 48 && (enc || modelTablesOk b)

/-- Checks 4 to 6 of R310 and the mirror's of R680, on an image in clear: 0, or the status that ends the load. -/
def State.modelChk (s : State) (t slot swap : Nat) (b : List Byte) : Nat :=
  let regions := s.permittedList t
  let d : BitVec 384 := BitVec.ofNat 384 (msNat ((b.drop 80).take 48))
  let own := if s.imageShared t slot d then 0 else 1
  let saves := (List.range (byteField b 28 2)).foldl (fun k i => k + saveUnits (byteField (modelShard b i) 0 2)) 0
  if byteField b 8 8 ≠ s.regBits Reg.HUB_IDENT 0 32 then 0x71
  else if regions.length < byteField b 30 1 then 0x74
  else if !s.fitsQuota t 1 (own * byteField b 40 8) ∨ !s.fitsQuota t 2 (own * byteField b 48 8 + saves + swap * byteField b 32 4) then 0x73
  else if bit (s.regs.get 0 (Reg.HLT_TENANT t)) 0 ∧
      (s.health.pair ≠ .paired ∨ (regions.take (byteField b 30 1)).any (fun g => s.share g 2 == 0)) then 0xD0
  else 0

/-- One context for each shard (R308): the status of the first refusal, the contexts, the state. -/
def State.makeShards (s : State) (t slot : Nat) (b : List Byte) : Nat × List Nat × State :=
  (List.range (byteField b 28 2)).foldl (fun (a : Nat × List Nat × State) i =>
    if a.1 ≠ 0 then a
    else
      let e := modelShard b i
      let only := (a.2.2.permittedList t)[byteField e 3 1]?
      match a.2.2.createCtx t (byteField e 0 2) none only (byteField e 2 1) (some slot) with
      | (code, id, k) => (code, a.2.1 ++ [id], k)) (0, [], s)

/-- The instance that an image makes, before its first step. -/
def newModel (b : List Byte) (addr swap maxSeq : Nat) (ctxs : List Nat) (shared mirrored : Bool) (rep : Report) : Model :=
  { addr := addr, len := b.length, digest := BitVec.ofNat 384 (msNat ((b.drop 80).take 48)), mode := byteField b 6 1,
    batchInv := (byteField b 7 1).testBit 0, vocab := byteField b 16 4, maxCtx := byteField b 20 4, maxCols := byteField b 24 2,
    chunk := byteField b 26 2, shards := byteField b 28 2, ranks := byteField b 30 1, kvTier := byteField b 31 1, kvPage := byteField b 32 4,
    tarnUnits := if shared then 0 else byteField b 40 8, mereUnits := if shared then 0 else byteField b 48 8, swapCap := swap, swapUsed := 0, maxSeq := maxSeq,
    ctxs := ctxs, step := 0, fails := 0, inStep := false, waiting := [], lists := [], failing := false, failed := false,
    mirrorWait := if mirrored then some rep else none, mirrored := mirrored, standby := false, paused := false, pausing := false, joins := 0, report := rep }

/-- Bytes of a model image and of the 512 after it, or the status that refuses the reading (R494, R513). -/
def State.readImage (s : State) (t addr len : Nat) : Nat × List Byte × Option (List Byte) × State :=
  let chk := s.placedChk (some t) addr len false
  if chk ≠ 0 then (chk, [], none, s)
  else
    let rd := s.readSpans (s.placedSpans addr len) t
    let tr := if rd.2.placedChk (some t) (addr + len) 512 false = 0 then modelTrailer (rd.2.rdSpans (rd.2.placedSpans (addr + len) 512)) else none
    if rd.1 then (0xAA, [], none, rd.2) else (0, rd.2.rdSpans (rd.2.placedSpans addr len), tr, rd.2)

/-- A load, from its second check on: status and state; a mirrored one waits for the partner (R310, R680). -/
def State.loadModel (s : State) (t slot addr swap maxSeq : Nat) (b : List Byte) (tr : Option (List Byte)) (rep : Report) : Nat × State :=
  if !modelHeadOk b then (0x70, s)
  else
    match s.modelAuth t (b.take 128) tr with
    | none => (0x72, s)
    | some key =>
      let p := modelPlain b key tr
      if !modelTablesOk p then (0x70, s)
      else
        let code := s.modelChk t slot swap p
        if code ≠ 0 then (code, s)
        else
          match s.makeShards t slot p with
          | (code, ctxs, k) =>
            if code ≠ 0 then (code, s.count Reg.CLU_REFUSE_CNT 1)
            else
              let m := newModel p addr swap maxSeq ctxs (s.imageShared t slot (BitVec.ofNat 384 (msNat ((p.drop 80).take 48))))
                (bit (s.regs.get 0 (Reg.HLT_TENANT t)) 0) rep
              (0, ((k.chargeUnits t 1 m.tarnUnits).chargeUnits t 2 (m.mereUnits + swap * m.kvPage)).setModel t slot m)

/-- MODEL_LOAD (R308 to R311, R680, R737 to R739). -/
def execModelLoad (o : Origin) (s : State) : Res :=
  s.service o 0x10 0 (fun v =>
    let c := v.cmd
    let addr := cmdField c 16 8
    let len := cmdField c 24 8
    let slot := cmdField c 32 1
    let swap := cmdField c 34 2
    let maxSeq := cmdField c 36 2
    if !inferWordsOk c || decide (16 ≤ slot) || decide (2 ^ 48 ≤ addr) || cmdField c 33 1 != 0 || maxSeq == 0 || decide (16384 < maxSeq) ||
        !zb c 38 26 then .done 0x60 0 v.st
    else if (v.st.model v.fn slot).isSome then .done 0x75 0 v.st
    else
      match v.st.readImage v.fn addr len with
      | (code, b, tr, st) =>
        if code ≠ 0 then .done code 0 st
        else if len < 128 then .done 0x70 0 st
        else
          let r := st.loadModel v.fn slot addr swap maxSeq b tr v.rep
          match (if r.1 = 0 then r.2.model v.fn slot else none) with
          | some m => if m.mirrorWait.isSome then .later r.2 else .done 0 0 r.2
          | none => .done r.1 0 r.2)

/-! ### MODEL_UNLOAD and MIRROR_ACK (R338, R680) -/

/-- An instance is taken down: its sequences end with `endc`, its lists are cancelled, its contexts are to end, its charges go (R338, R507). The final records carry `code`. -/
def State.dropModel (s : State) (t n endc code : Nat) : State :=
  match s.model t n with
  | none => s
  | some m =>
    let s := (s.liveSeqs t n).foldl (fun s q => s.endSeqWith q endc code) s
    let live := m.waiting
    let s := { s with inf := { models := s.inf.models.del (slotKey t n),
                               seqs := s.inf.seqs.map (fun (q : Sequence) => if q.tenant = t ∧ q.slot = n then { q with slot := 16 } else q) } }
    let s := live.foldl (fun s p => s.cancelList p.1 p.2) s
    let s := m.ctxs.foldl (fun s c => s.updCtx c (fun x => { x with ending := true })) s
    let heir := (List.range 16).find? (fun k => match s.model t k with | some j => j.digest == m.digest | none => false)
    let s := s.releaseUnits t 2 (m.swapCap * m.kvPage)
    match heir with
    | none => (s.releaseUnits t 1 m.tarnUnits).releaseUnits t 2 m.mereUnits
    | some k => match s.model t k with
      | none => s
      | some j => s.setModel t k { j with tarnUnits := j.tarnUnits + m.tarnUnits, mereUnits := j.mereUnits + m.mereUnits }

/-- The instance in a slot, once its load has completed. -/
def State.modelReady (s : State) (t n : Nat) : Option Model :=
  match s.model t n with
  | none => none
  | some m => if m.mirrorWait.isSome then none else some m

/-- MODEL_UNLOAD (R311, R338). -/
def execModelUnload (o : Origin) (s : State) : Res :=
  s.service o 0x11 0 (fun v =>
    let c := v.cmd
    let slot := cmdField c 32 1
    let force := (cmdField c 33 1).testBit 0
    if !inferWordsOk c || decide (16 ≤ slot) || decide (2 ≤ cmdField c 33 1) || !zb c 16 16 || !zb c 34 30 then .done 0x60 0 v.st
    else
      match v.st.modelReady v.fn slot with
      | none => .done 0x76 0 v.st
      | some _ => if v.st.seqsOf v.fn slot ≠ [] ∧ !force then .done 0x75 0 v.st else .done 0 0 (v.st.dropModel v.fn slot 6 0))

/-- MIRROR_ACK (R680): the partner's answer completes a mirrored load, or ends it with MIRROR_FAIL and no trace. -/
def execMirrorAck (t slot : Nat) (ok : Bool) (s : State) : Res :=
  if 1024 ≤ t ∨ 16 ≤ slot then .fault .noSuchPart
  else
    match s.model t slot with
    | none => .next s
    | some m =>
      match m.mirrorWait with
      | none => .next s
      | some rep =>
        if ok then .next ((s.setModel t slot { m with mirrorWait := none }).finishService none rep 0 0)
        else
          let s := s.dropModel t slot 6 0
          .next ((m.ctxs.foldl (fun s c => s.dropCtx c) s).finishService none rep 0xD0 0)

/-! ### Sequences (R312 to R314, R337) -/

/-- Check 2 of R313: the fields of a SEQ_SUBMIT and its prompt. -/
def seqParamsOk (m : Model) (c : Cmd) (prompt : List Byte) : Bool :=
  let n := cmdField c 32 4
  let temp := cmdField c 44 4
  let stopOk (x : Nat) : Bool := x == 0xFFFFFFFF || decide (x < m.vocab)
  decide (cmdField c 21 1 < 4) && decide (1 ≤ cmdField c 22 2) && decide (1 ≤ n ∧ n ≤ m.maxCtx - 1) && decide (cmdField c 36 2 ≤ 256) &&
  cmdField c 38 2 == 0 && decide (1 ≤ cmdField c 40 4 ∧ cmdField c 40 4 ≤ 0x3F800000) && (decide (temp < 0x7F800000) || temp == 0x80000000) &&
  stopOk (cmdField c 56 4) && stopOk (cmdField c 60 4) && (List.range n).all (fun i => decide (byteField prompt (4 * i) 4 < m.vocab))

/-- Units of 64 KiB of a prompt's copy (R314). -/
def promptUnits (n : Nat) : Nat := ceilDiv (4 * n) 65536

/-- First condition of R313 and R314 that refuses a SEQ_SUBMIT, 0 when none does; a fenced device's paused instances refuse first (R686). -/
def State.seqRefusal (s : State) (t : Nat) (c : Cmd) (prompt : List Byte) : Nat :=
  let slot := cmdField c 20 1
  let id := cmdField c 16 4
  match (if slot < 16 then s.modelReady t slot else none) with
  | none => 0x76
  | some m =>
    let n := cmdField c 32 4
    if s.health.fenced && m.mirrored && (m.paused || m.pausing) then 0xD1
    else if !seqParamsOk m c prompt then 0x79
    else if id = 0 ∨ s.inf.seqs.any (fun q => q.tenant == t && q.id == id) then 0x78
    else if 16384 ≤ s.inf.seqs.length ∨ m.maxSeq ≤ (s.seqsOf t slot).length then 0x77
    else if s.quota t m.kvTier < ceilDiv (n + 1) 64 * m.kvPage then 0x7A
    else if !s.fitsQuota t 2 (promptUnits n) then 0x73 else 0

/-- The sequence that a SEQ_SUBMIT makes. -/
def State.newSeq (s : State) (t : Nat) (c : Cmd) (prompt : List Byte) (rep : Report) (occ : Nat) : Sequence :=
  let n := cmdField c 32 4
  { id := cmdField c 16 4, tenant := t, slot := cmdField c 20 1, st := .queued, pair := (cmdField c 21 1).testBit 0,
    stopEn := (cmdField c 21 1).testBit 1, maxNew := cmdField c 22 2, promptLen := n, topK := cmdField c 36 2,
    topP := BitVec.ofNat 32 (cmdField c 40 4), temp := BitVec.ofNat 32 (cmdField c 44 4), seed := BitVec.ofNat 64 (cmdField c 48 8),
    stop0 := cmdField c 56 4, stop1 := cmdField c 60 4, promptDone := 0, made := 0, pages := 0, swapPages := 0, prompt := prompt.take (4 * n),
    moving := false, promptUnits := promptUnits n, odd := none, buf := [], since := s.now, cancelled := false, endc := 0, occ := occ, join := 0,
    col := 0, cols := 0, report := rep, gen := (s.fn t).gen }

/-- SEQ_SUBMIT (R312 to R314): `prompt` is what the hub read at the prompt's host address. -/
def execSeqSubmit (o : Origin) (prompt : List Byte) (s : State) : Res :=
  s.service o 0x12 0 (fun v =>
    let c := v.cmd
    if !inferWordsOk c then .done 0x60 0 v.st
    else
      let code := v.st.seqRefusal v.fn c prompt
      if code ≠ 0 then .done code 0 v.st
      else
        let k := v.st.occur (2 ^ 80 + v.fn * 2 ^ 32 + cmdField c 16 4)
        let q := k.2.newSeq v.fn c prompt v.rep k.1
        let t := { k.2 with inf := { k.2.inf with seqs := k.2.inf.seqs ++ [q] } }.chargeUnits v.fn 2 q.promptUnits
        .done 0 (BitVec.ofNat 128 q.id) t)

/-- SEQ_CANCEL (R337). -/
def execSeqCancel (o : Origin) (s : State) : Res :=
  s.service o 0x13 0 (fun v =>
    let c := v.cmd
    let slot := cmdField c 20 1
    if !inferWordsOk c || !zb c 21 43 then .done 0x60 0 v.st
    else
      let fenced := match v.st.model v.fn slot with
        | some m => decide (slot < 16) && v.st.health.fenced && m.mirrored && (m.paused || m.pausing)
        | none => false
      if fenced then .done 0xD1 0 v.st
      else
        match v.st.inf.seqs.find? (fun q => q.tenant == v.fn && q.id == cmdField c 16 4 && q.slot == slot) with
        | none => .done 0x7B 0 v.st
        | some q => .done 0 0 (v.st.setSeq { q with cancelled := true }))

/-! ### The step boundary (R319 to R340) -/

/-- Does a member draw a token in the step that ends: it decodes, or its prompt is complete with the step's columns (R315, R325)? -/
def Sequence.draws (q : Sequence) : Bool := q.st == .active && decide (0 < q.cols) && (decide (0 < q.made) || decide (q.promptLen ≤ q.promptDone + q.cols))

/-- END code of a sequence whose newest token is `tok`, 0 when it goes on (R321). -/
def Sequence.endOf (q : Sequence) (m : Model) (tok : Nat) : Nat :=
  if q.made = q.maxNew then 1
  else if q.stopEn && (tok == q.stop0 || tok == q.stop1) then 2
  else if m.maxCtx ≤ q.promptLen + q.made then 3 else 0

/-- The records of one drawn token (R319, R320). -/
def State.writeToken (s : State) (m : Model) (q : Sequence) (tok : Nat) : State :=
  let q := { q with promptDone := if q.made = 0 then q.promptLen else q.promptDone, made := q.made + 1 }
  let e := q.endOf m tok
  let q := { q with endc := e }
  if !q.pair then s.putToken q (q.tokenRec (some tok) none (q.made - 1) e 0)
  else
    match q.odd with
    | some a => s.putToken { q with odd := none } (q.tokenRec (some a) (some tok) (q.made - 2) e 0)
    | none => if e = 0 then s.setSeq { q with odd := some tok } else s.putToken q (q.tokenRec (some tok) none (q.made - 1) e 0)

/-- What the step that ends did to each member: tokens drawn, prompt tokens taken (R323, R330 `write_records`). -/
def State.writeRecords (s : State) (m : Model) (l : List Sequence) (tokens : List (Nat × Nat)) : State :=
  l.foldl (fun s q =>
    if q.st ≠ .active then s
    else
      match (if q.draws then tokens.find? (fun p => p.1 == q.id) else none) with
      | some p => s.writeToken m q p.2
      | none => s.setSeq { q with promptDone := q.promptDone + (if q.made = 0 then q.cols else 0) }) s

/-- Swap-out moves that have completed free their pages (R334). -/
def State.endMoves (s : State) (t n : Nat) (m : Model) : State :=
  ((s.seqsOf t n).filter (·.moving)).foldl (fun s q => (s.releaseUnits t m.kvTier (q.pages * m.kvPage)).setSeq { q with pages := 0, moving := false }) s

/-- Ended and cancelled sequences leave, members by ascending column first (R330, R337, R339). -/
def State.leaves (s : State) (t n : Nat) : State :=
  let s := (s.membersOf t n).foldl (fun s q => if q.endc ≠ 0 then s.leaveSeq q else if q.cancelled then s.endSeq q 4 else s) s
  ((s.liveSeqs t n).filter (fun q => q.cancelled && !q.member)).foldl (fun s q => s.endSeq q 4) s

/-- Stalled members are swapped out, or parked when the swap area cannot hold them (R330, R334). -/
def State.swapStalled (s : State) (t n : Nat) : State :=
  ((s.membersOf t n).filter (fun q => q.st == .stalled)).foldl (fun s q =>
    match s.model t n with
    | none => s
    | some m =>
      if m.swapUsed + q.pages ≤ m.swapCap then
        (s.setModel t n { m with swapUsed := m.swapUsed + q.pages }).setSeq { q with st := .swapped, swapPages := q.pages, moving := true, cols := 0 }
      else s.setSeq { q with st := .parked, cols := 0 }) s

/-- Members whose buffers hold more than 14 records are held (R322, R330). -/
def State.holds (s : State) (t n : Nat) : State :=
  ((s.membersOf t n).filter (fun q => decide (14 < q.buf.length))).foldl (fun s q => s.setSeq { q with st := .held, cols := 0 }) s

/-- A sequence joins the batch: it takes the next join order (R325). -/
def State.joinSeq (s : State) (t n : Nat) (q : Sequence) : State :=
  match s.model t n with
  | none => s
  | some m => (s.setModel t n { m with joins := m.joins + 1 }).setSeq { q with st := .active, join := m.joins }

/-- Held sequences whose buffers have drained rejoin, by ascending SEQ_ID (R330, R339). -/
def State.rejoins (s : State) (t n maxCols : Nat) : State :=
  (sortBy (·.id) ((s.liveSeqs t n).filter (fun q => q.st == .held && decide (q.buf.length ≤ 14)))).foldl (fun s q =>
    if (s.membersOf t n).length < maxCols then s.joinSeq t n q else s) s

/-- Head of the admission queue: earliest waiting-since, then lowest SEQ_ID (R326). -/
def State.queueHead (s : State) (t n : Nat) : Option Sequence :=
  leastBy (sortBy (·.id) ((s.liveSeqs t n).filter (fun q => q.st == .queued || q.st == .swapped || q.st == .parked))) (·.since)

/-- Pages that an entry of the admission queue needs (R328). -/
def Sequence.needs (q : Sequence) : Nat :=
  match q.st with
  | .queued => ceilDiv (q.promptLen + 1) 64
  | .swapped => q.swapPages + 1
  | _ => 1

/-- Does a waiting sequence's whole set of pages exceed the tenant's quota (R336)? -/
def State.neverFits (s : State) (m : Model) (q : Sequence) : Bool :=
  match q.st with
  | .swapped => decide (s.quota q.tenant m.kvTier < (q.swapPages + 1) * m.kvPage)
  | .parked => decide (s.quota q.tenant m.kvTier < (q.pages + 1) * m.kvPage)
  | _ => false

/-- The admission queue is served in order until its head does not fit (R330, R332, R336). -/
def State.admissions (s : State) (t n fuel : Nat) : State :=
  match fuel with
  | 0 => s
  | fuel + 1 =>
    match s.queueHead t n, s.model t n with
    | some q, some m =>
      if s.neverFits m q then (s.endSeq q 7).admissions t n fuel
      else if m.maxCols ≤ (s.membersOf t n).length ∨ s.kvAvail t m < q.needs then s
      else
        let s := s.setModel t n { m with swapUsed := m.swapUsed - q.swapPages }
        let s := s.takePages m { q with swapPages := 0 } q.needs
        match s.seqNow q with
        | none => s
        | some q => (s.joinSeq t n q).admissions t n fuel
    | _, _ => s

/-- Columns of the members still in their prompts, in order of join, `free` columns being left (R325). -/
def promptCols (chunk : Nat) (col free : Nat) (l : List Sequence) : List Sequence :=
  match l with
  | [] => []
  | q :: r =>
    let k := min (min chunk (q.promptLen - q.promptDone)) (free - r.length)
    { q with col := col, cols := k } :: promptCols chunk (col + k) (free - k) r

/-- Columns are assigned: decoding members one each, then prompts, both in order of join (R325). -/
def State.assignColumns (s : State) (t n : Nat) (m : Model) : State :=
  let l := sortBy (·.join) (s.membersOf t n)
  let dec := l.filter (fun q => decide (0 < q.made))
  let pro := l.filter (fun q => q.made == 0)
  let d := dec.zipIdx.map (fun (p : Sequence × Nat) => { p.1 with col := p.2, cols := 1 })
  (d ++ promptCols m.chunk d.length (m.maxCols - d.length) pro).foldl (fun s q => s.setSeq q) s

/-- The boundary, up to the next step's lists (R330). -/
def State.boundary (s : State) (t n : Nat) (m : Model) (tokens : List (Nat × Nat)) : State :=
  let s := s.kvRequests t n
  let s := s.endMoves t n m
  let s := s.writeRecords m (s.membersOf t n) tokens
  let s := (((s.leaves t n).swapStalled t n).holds t n).rejoins t n m.maxCols
  let s := s.admissions t n (s.inf.seqs.length + 1)
  s.assignColumns t n m

/-- The next step begins, unless the batch is empty or the instance is to pause (R330, R639). -/
def State.nextStep (s : State) (t n : Nat) (lists : List (Nat × Nat)) : State :=
  match s.model t n with
  | none => s
  | some m =>
    if m.pausing then
      let s := m.ctxs.foldl (fun s c => s.pauseCtx c) (s.setModel t n { m with inStep := false, pausing := false, paused := true })
      (if m.ctxs.any (fun c => match s.ctx? c with | none => false | some x => x.pausing) then s else (s.setReg Reg.RPL_PAUSE 2).rplEvt 0x20)
    else if s.membersOf t n = [] then s.setModel t n { m with inStep := false }
    else (s.setModel t n { m with step := m.step + 1, fails := 0, lists := lists }).runStep t n 3

/-- STEP_BOUNDARY (R319 to R340, R639): `tokens` are the tokens drawn in the step, by SEQ_ID in ascending column; `lists` are the contexts and
addresses of the next step's shard lists, as the image's templates make them. -/
def execStepBoundary (t slot : Nat) (tokens lists : List (Nat × Nat)) (s : State) : Res :=
  if 1024 ≤ t ∨ 16 ≤ slot then .fault .noSuchPart
  else
    match s.modelReady t slot with
    | none => .next s
    | some m =>
      if m.failed then .next ((s.liveSeqs t slot).foldl (fun s q => s.endSeq q 5) s)
      else if m.paused || m.standby || (m.inStep && (m.waiting ≠ [] || m.failing)) then .next s
      else
        let k := s.kvRequests t slot
        let drawn := if m.inStep then ((k.membersOf t slot).filter (·.draws)).map (·.id) else []
        if tokens.map (·.1) ≠ drawn ∨ !tokens.all (fun p => decide (p.2 < m.vocab)) ∨ !lists.all (fun p => m.ctxs.contains p.1) then .next s
        else .next ((s.boundary t slot m tokens).nextStep t slot lists)

end Sys2Proof.Machine
end

