-- ==== Sys2Proof/Machine/HostOps.lean ====
section
/-! DEFINITION. The host interface's shared operations: queue pairs and VFs under the common state machine, the end of a VF's work, completion
records as they are written, apertures (R586 to R614). -/
namespace Sys2Proof.Machine

/-! ### Doorbell and aperture counters (R588, R590) -/

/-- A doorbell is ignored and counted, saturating (R590). -/
def State.dbErr (s : State) (f : Nat) : State := s.setFn f { s.fn f with dberr := satAdd (2 ^ 16 - 1) (s.fn f).dberr 1 }

/-- An aperture access is refused and counted, saturating (R588). -/
def State.apErr (s : State) (f : Nat) : State := s.setFn f { s.fn f with aperr := satAdd (2 ^ 16 - 1) (s.fn f).aperr 1 }

/-- Account of a function's DMA and aperture bytes (R617). -/
def fnAcct (f : Nat) : Nat := if f < 1024 then f else 1536

/-- Bytes of the placed range that hub traffic of a function moves, by tier (R617), and its PCIe bytes. -/
def State.countHost (s : State) (f a n : Nat) (store : Bool) : State :=
  let t := (s.page (a / 65536)).tier
  (s.acct (fnAcct f) ((if t = 1 then 7 else 9) + (if store then 1 else 0)) n).acct (fnAcct f) 14 n

/-- A write to host memory for a function leaves when its generation is the function's (R613). -/
def State.hostSend (s : State) (f gen addr : Nat) (b : List Byte) : State :=
  if (s.fn f).gen = gen then s.emit (.hostWrite f addr b) else (s.count Reg.HIF_GEN_DROP 1).hifEvt 4

/-! ### Completion records (R596 to R599, R613, R647) -/

/-- Free entries of a pair's CQ: one entry always stays free, so that head and tail tell a full ring from an empty one. -/
def QPair.cqFree (x : QPair) : Nat := x.cqSize - (x.cqTail + (x.cqSize + 1) - x.cqHead) % (x.cqSize + 1)

/-- The sequence whose buffered record is next for a pair (R322). -/
def State.tokenSeq (s : State) (f q : Nat) : Option Sequence :=
  s.inf.seqs.find? (fun (k : Sequence) => !k.buf.isEmpty && (match k.report with | .none => false | .cq g p _ _ _ => g == f && p == q))

/-- A sequence's oldest buffered record leaves; one that has ended goes with its last (R314). -/
def State.popToken (s : State) (k : Sequence) : State :=
  let k' := { k with buf := k.buf.drop 1 }
  if k'.buf.isEmpty && k.endc != 0 then s.dropSeq k else s.setSeq k'

/-- The record that a pair writes next: of its store, then of the token buffers. -/
def State.nextRec (s : State) (f q : Nat) : Option (Rec × State) :=
  let x := s.qp f q
  match x.store with
  | r :: t => some (r, s.setQp f q { x with store := t })
  | [] => match s.tokenSeq f q with
    | none => none
    | some k => match k.buf with
      | [] => none
      | r :: _ => some (r, s.popToken k)

/-- The 32 bytes of a record (R596), its status word and SQ head given. -/
def Rec.bytes (r : Rec) (word : BitVec 16) (phase : Bool) (head : Nat) : List Byte :=
  leBytes 2 word.toNat ++ leBytes 1 r.code ++ leBytes 1 (phase.toNat + r.kind * 2) ++ leBytes 2 head ++
  leBytes 2 (if r.slot = 0xFFFF then 0xFFFF else r.slot % 4096) ++ leBytes 8 r.ref.toNat ++ leBytes 16 r.detail.toNat

/-- Bytes of a record over which its digest is formed: bytes 0, 1, 4 and 5 zero (R648). -/
def Rec.hashed (r : Rec) (phase : Bool) : List Byte := r.bytes 0 phase 0

/-- Occurrences of a LIST_ID in a context (R647). -/
def occKey (ctx : Nat) (id : DWord) : Nat := 2 ^ 96 + ctx * 2 ^ 64 + id.toNat

/-- A record is an output, but for STATUS and SSI_IND records (R647): the first produced carries occurrence 0. -/
def State.recOut (s : State) (f q : Nat) (r : Rec) (phase : Bool) : State :=
  let b := r.hashed phase
  match r.kind with
  | 0 => s.output (outKey 1 0 (f * 8 + q) r.ord) b
  | 1 =>
    let k := s.occur (occKey (r.aux % 65536) r.ref)
    k.2.output (outKey 2 (k.1 % 256) (r.aux % 65536) r.ref.toNat) b
  | 2 => s.output (outKey 4 (r.ord % 256) r.aux (bits r.detail 0 32 * 2 ^ 32 + bits r.detail 96 16)) b
  | 3 => s.output (outKey 3 (s.rpl.occur.get 0 (occKey (r.aux % 65536) r.ref) % 256) r.aux r.ref.toNat) b
  | _ => s

/-- A record is written to the next entry of its CQ: the tail moves on, PHASE inverts at the wrap, the vector's causes are noted (R596, R598,
R605). The first record of a pair counts as a change of the status word. -/
def State.putCq (s : State) (f q : Nat) (r : Rec) : State :=
  let x := s.qp f q
  let w := s.statusWord f
  let c := x.count
  let wrap := x.cqTail == x.cqSize
  let use := if r.kind = 5 then x.indUse.map (fun (u : Nat × Nat × Nat) => if u.1 = 0 ∧ u.2.1 = bits r.detail 0 64 then (x.cqTail + 1, u.2) else u) else x.indUse
  let s := s.setQp f q { x with cqTail := if wrap then 0 else x.cqTail + 1, phase := if wrap then !x.phase else x.phase, since := x.since + 1,
                                oldest := some (x.oldest.getD s.now), lastWord := some w, sqReported := x.sqHead, indUse := use,
                                fire := x.fire || x.lastWord != some w || (c != 0 && decide (c ≤ x.since + 1)) }
  (s.emit (.hostWrite f (x.cqBase.toNat + 32 * x.cqTail) (r.bytes w x.phase x.sqHead))).recOut f q r x.phase

/-! ### Queue pairs (R607, R609) -/

/-- Queue pairs of a function (R592, R624). -/
def State.pairsOf (s : State) (f : Nat) : Nat := if f = pf0 then 8 else s.regBits (Reg.HIF_VF_CFG f) 0 4

/-- Are the bases and sizes of a pair valid (R590, R592, R622, R623)? -/
def State.qpValid (s : State) (f q : Nat) : Bool :=
  let x := s.qp f q
  let max := if f = pf0 then 4095 else s.regBits (Reg.HIF_VF_CFG f) 4 12
  decide (q < s.pairsOf f ∧ 1 ≤ x.sqSize ∧ x.sqSize ≤ max ∧ 1 ≤ x.cqSize) &&
  decide (x.sqBase.toNat + 64 * (x.sqSize + 1) ≤ 2 ^ 48 ∧ x.cqBase.toNat + 32 * (x.cqSize + 1) ≤ 2 ^ 48) &&
  (!x.ssi || (f == pf0 && decide (bits x.ssiBase 0 4 ≤ 8 ∧ bits x.ssiBase 12 36 * 4096 + 2 ^ (16 + bits x.ssiBase 0 4) ≤ 2 ^ 48)))

/-- A pair in STARTING goes ON, its rings empty and PHASE 1, or back to OFF with ERR (R598, R609). -/
def State.qpStart (s : State) (f q : Nat) : State :=
  let x := s.qp f q
  if s.qpValid f q && s.fnOn f && (s.start.dev == .serve || s.start.dev == .degraded) then
    s.setQp f q { x with en := { st := .on }, err := false, sqHead := 0, sqReported := 0, sqTail := 0, cqHead := 0, cqTail := 0, phase := true,
                         sq := [], store := [], since := 0, oldest := none, lastWord := none, fire := false, indOfs := 0, indUse := [] }
  else s.setQp f q { x with en := {}, err := true }

/-- Enable of a queue pair (R607). -/
def State.qpEnable (s : State) (f q : Nat) : State :=
  let x := s.qp f q
  match x.en.st with
  | .off => s.qpStart f q
  | .stopping => s.setQp f q { x with en := { x.en with pend := true } }
  | .starting => s
  | .on => s

/-- Records that a pair has not written go: those of its store, and those that sequences hold for it; their number (R609, R612). -/
def State.dropRecs (s : State) (f q : Nat) : Nat × State :=
  let x := s.qp f q
  let mine (k : Sequence) : Bool := match k.report with | .none => false | .cq g p _ _ _ => g == f && p == q
  let l := s.inf.seqs.filter mine
  let n := l.foldl (fun n (k : Sequence) => n + k.buf.length) x.store.length
  let s := l.foldl (fun (s : State) (k : Sequence) => if k.endc ≠ 0 then s.dropSeq k else s.setSeq { k with buf := [] }) s
  (n, s.setQp f q { x with store := [] })

/-- Disable of a queue pair: it stops fetching, and its records are dropped and counted (R607, R609). -/
def State.qpDisable (s : State) (f q : Nat) : State :=
  let x := s.qp f q
  match x.en.st with
  | .on =>
    let r := (s.setQp f q { x with en := { st := .stopping }, sq := [] }).dropRecs f q
    r.2.count Reg.HIF_QOFF_DROP r.1
  | .stopping => s.setQp f q { x with en := { x.en with pend := false } }
  | .starting => s
  | .off => s

/-! ### VFs (R586, R607, R610 to R612) -/

/-- A VF leaves OFF: its page is reset and it is ON; one at or above NUM_VF never starts (R609, R624). Before SERVE, and after a halt of the
tenants, it stays STARTING (R713, R743). -/
def State.vfStart (s : State) (v : Nat) : State :=
  if s.regBits Reg.HIF_CFG 0 11 ≤ v ∧ s.start.served then s.setFn v { s.fn v with en := {} }
  else
    let st := if s.start.served ∧ !s.start.haltTenants then EState.on else EState.starting
    { s.setFn v { en := { st := st }, gen := (s.fn v).gen } with rpl := { s.rpl with untouched := false } }

/-- Enable of a VF (R607). -/
def State.vfEnable (s : State) (v : Nat) : State :=
  let x := s.fn v
  match x.en.st with
  | .off => s.vfStart v
  | .stopping => s.setFn v { x with en := { x.en with pend := true } }
  | .starting => s.setFn v { x with en := { x.en with pend := false } }
  | .on => s

/-- Inference contexts of a tenant. -/
def State.tenantCtxs (s : State) (t : Nat) : List Ctx := (s.sched.ctxs.filter (fun (p : Nat × Ctx) => !p.2.radio && p.2.owner == t)).map (·.2)

/-- LIST_IDs of a context that are queued, armed or running. -/
def State.listsOf (s : State) (x : Ctx) : List DWord :=
  let armed := (s.sched.armed.filter (fun (l : ListRec) => l.ctx == x.id)).map (·.id)
  let running := s.sched.units.filterMap (fun (p : Nat × UnitSt) => match p.2.run with
    | some r => if r.list.ctx = x.id ∧ r.ending.isNone then some r.list.id else none
    | none => none)
  (x.queue.map (·.id) ++ armed ++ running).eraseDups

/-- Every list of a context is cancelled, with a status in its record, and the context is to end (R291, R612). -/
def State.closeCtx (s : State) (x : Ctx) (code : Nat) : State :=
  let s := (s.listsOf x).foldl (fun (s : State) id => s.cancelWith x.id id code) s
  let s := s.updCtx x.id (fun (y : Ctx) => { y with ending := true, paused := false, pausing := false })
  { s with fab := { s.fab with recs := s.fab.recs.filter (fun (r : XferRec) => r.ctx != x.id) } }

/-- A VF enters STOPPING: its generation moves on, unfetched submissions go, its instances are unloaded, its lists cancelled, its contexts are
to end (R610, R612). -/
def State.vfStop (s : State) (v : Nat) (flr : Bool) : State :=
  let x := s.fn v
  let s := s.setFn v { x with en := { st := .stopping }, gen := (x.gen + 1) % 256, flr := flr, held := false,
                              qs := x.qs.map (fun (p : Nat × QPair) => (p.1, { p.2 with sq := [] })) }
  let s := (List.range 16).foldl (fun (s : State) n => s.dropModel v n 6 0) s
  ((s.tenantCtxs v).foldl (fun (s : State) y => s.closeCtx y 0x65) s).reapSteps

/-- Disable of a VF (R607, R611). -/
def State.vfDisable (s : State) (v : Nat) (flr : Bool) : State :=
  let x := s.fn v
  match x.en.st with
  | .on => s.vfStop v flr
  | .stopping => s.setFn v { x with en := { x.en with pend := false } }
  | .starting => s.setFn v { x with en := { x.en with pend := true } }
  | .off => s

/-- At the first SERVE, VFs that wait in STARTING go ON, one with a latched disable to STOPPING at once; those at or above NUM_VF return to OFF
(R607, R624, R713). -/
def State.vfRelease (s : State) (v : Nat) : State :=
  let x := s.fn v
  if x.en.st ≠ .starting then s
  else
    let s := s.vfStart v
    if x.en.pend ∧ (s.fn v).en.st = .on then s.vfStop v false else s

/-- Migrations of a tenant's own pages stop, and the frames that they filled are free (R612). -/
def State.stopMigs (s : State) (t : Nat) : State :=
  let mine := s.tiers.migs.filter (fun (m : Migration) => m.dir.tenant == t && !(s.page m.dir.page).shared)
  let s := mine.foldl (fun (s : State) m =>
    let n := if m.dir.large then 32 else 1
    let s := if m.fill then s else s.giveFrames m.toTier m.toDie m.toFrame n
    (s.releaseUnits t m.toTier (if m.fill then 0 else n)).eachPart m.dir.page n (fun _ (e : Page) => { e with moving := false })) s
  { s with tiers := { s.tiers with migs := s.tiers.migs.filter (fun (m : Migration) => !mine.contains m),
                                   waiting := s.tiers.waiting.filter (fun (d : Directive) => d.tenant != t) } }

/-- Private pages of a tenant are unmapped and their frames left; its claims are dropped (R506, R612). -/
def State.dropPages (s : State) (t : Nat) : State :=
  let mine := s.tiers.pages.filter (fun (p : Nat × Page) => p.2.owner == t && !p.2.shared && p.2.tier != 0)
  let s := mine.foldl (fun (s : State) p =>
    ((s.setPage p.1 {}).leaveFrames p.2.tier p.2.die p.2.frame 1).releaseUnits t p.2.tier 1) s
  (s.tiers.claims.map (·.1)).foldl (fun (s : State) k => (s.dropClaim k t 1).dropClaim k t 2) s

/-- Everything of a VF's old work that may still reach its queues: records in stores and token buffers, dropped and counted (R612, R613). -/
def State.dropFnRecs (s : State) (v : Nat) : State :=
  let r := (List.range 8).foldl (fun (a : Nat × State) q => let k := a.2.dropRecs v q; (a.1 + k.1, k.2)) (0, s)
  if r.1 = 0 then r.2 else (r.2.count Reg.HIF_GEN_DROP r.1).hifEvt 4

/-- Has a stopping VF's work ended: no instance and no context of it remains (R612)? -/
def State.vfDone (s : State) (v : Nat) : Bool :=
  (s.tenantCtxs v).isEmpty && (List.range 16).all (fun n => (s.model v n).isNone)

/-! ### Apertures (R478, R588) -/

/-- Device address of an offset in a function's aperture. -/
def State.apAddr (s : State) (f ofs : Nat) : Nat :=
  (if f = pf0 then bits (s.fn f).aperture 30 18 * 2 ^ 30 else bits (s.fn f).aperture 28 20 * 2 ^ 28) + ofs

/-- Size of a function's aperture (R587). -/
def apSize (f : Nat) : Nat := if f = pf0 then 2 ^ 30 else 2 ^ 28

/-- Storage under an aperture access, or none when the access is refused (R588). -/
def State.apSpans (s : State) (f a n : Nat) (store : Bool) : Option (List Span) :=
  if f = pf0 ∧ 0x10000000000 ≤ a ∧ a + n ≤ 0x10018000000 then some [(poolAt 0 (a - 0x10000000000), n)]
  else if s.placedChk (if f = pf0 then none else some f) a n store ≠ 0 then none
  else some (s.placedSpans a n)

end Sys2Proof.Machine
end

