-- ==== Sys2Proof/Machine/Host.lean ====
section
/-! DEFINITION. The commands of the host interface: queues, submissions with their data, completion records, attentions, MSI-X (R590 to R606,
R620). -/
namespace Sys2Proof.Machine

/-! ### Doorbells (R590) -/

/-- SQ_DOORBELL (R590, R591, R651): the submissions up to the new tail stand in host memory; those of an opcode that no host may submit are
refused as their turn comes. During a replay nothing is fetched. -/
def execSqDoorbell (f q tail : Nat) (entries : List Cmd) (s : State) : Res :=
  if !isFn f ∨ 8 ≤ q then .fault .noSuchPart
  else if s.replayed then .next s
  else
    let x := s.qp f q
    let size := x.sqSize + 1
    let i := tail % 4096
    let more := (i + size - x.sqTail) % size
    let held := (x.sqTail + size - x.sqReported) % size
    if !s.fnOn f ∨ !s.qpOn f q ∨ size ≤ i ∨ size ≤ held + more then .next (s.dbErr f)
    else
      let new := (entries ++ List.replicate more 0).take more
      .next ((s.setQp f q { x with sqTail := i, sq := x.sq ++ new }).refuseBad f q 4096)

/-- CQ_DOORBELL (R590, R595): entries up to the new head are free, and the ring space of the indications that they reported. -/
def execCqDoorbell (f q head : Nat) (s : State) : Res :=
  if !isFn f ∨ 8 ≤ q then .fault .noSuchPart
  else
    let x := s.qp f q
    let size := x.cqSize + 1
    let i := head % 4096
    let n := (i + size - x.cqHead) % size
    if !s.fnOn f ∨ !s.qpOn f q ∨ size ≤ i ∨ (x.cqTail + size - x.cqHead) % size < n then .next (s.dbErr f)
    else
      let kept := x.indUse.filter (fun (u : Nat × Nat × Nat) => u.1 == 0 || decide (n ≤ (u.1 - 1 + size - x.cqHead) % size))
      .next (s.setQp f q { x with cqHead := i, indUse := kept })

/-! ### Submissions with data (R592 to R595, R620) -/

/-- A LIST_SUBMIT that is refused has its LIST record (R598). -/
def State.refuseSubmit (s : State) (rep : Report) (ctx code : Nat) (id : DWord) : State :=
  match rep with
  | .none => s
  | .cq f q slot gen ord => s.post f q { code := code, kind := 1, slot := slot, ref := id, detail := 0, gen := gen, ord := ord, aux := ctx }

/-- What a LIST_SUBMIT does once it is taken (R249 to R255, R592, R593). -/
def State.listSubmit (v : Svc) : State :=
  match v.ctx with
  | none => v.st.refuseSubmit v.rep (cmdField v.cmd 24 2) (if v.code = 0 then 0xC0 else v.code) 0
  | some x =>
    if v.code ≠ 0 then v.st.refuseSubmit v.rep x.id v.code 0
    else
      match v.st.admitList x (cmdField v.cmd 16 8) v.rep false with
      | (code, l, t) =>
        match l with
        | none => t.refuseSubmit v.rep x.id code 0
        | some l =>
          if code ≠ 0 then t.refuseSubmit v.rep x.id code l.id
          else
            let r := t.queueList x.id l
            if r.1 ≠ 0 then r.2.refuseSubmit v.rep x.id r.1 l.id else r.2

/-- LIST_SUBMIT (R249, R592, R598). -/
def execListSubmit (o : Origin) (s : State) : Res :=
  match o with
  | .unit _ => .next s
  | .host f q =>
    match s.svc o 0x14 24 with
    | none => .next s
    | some v => .next ((State.listSubmit v).refuseBad f q 4096)

/-- The queue pair, generation and ordinal of a submission. -/
def Report.sub (r : Report) : Nat × Nat × Nat × Nat :=
  match r with
  | .none => (0, 0, 0, 0)
  | .cq f q _ gen ord => (f, q, gen, ord)

/-- Bytes sent to host memory in pieces of 4,096, each an output (R613, R647). -/
def State.dmaOut (s : State) (rep : Report) (addr k fuel : Nat) (b : List Byte) : State :=
  match fuel with
  | 0 => s
  | fuel + 1 =>
    if b.isEmpty then s
    else
      let r := rep.sub
      let c := b.take 4096
      let s := (s.hostSend r.1 r.2.2.1 addr c).output (outKey 6 0 (r.1 * 8 + r.2.1) (r.2.2.2 * 2 ^ 32 + k)) c
      s.dmaOut rep (addr + 4096) (k + 1) fuel (b.drop 4096)

/-- Check of one page for a copy of a function: a VF under R494, PF0 unchecked but for a mapping (R588, R594). -/
def State.copyChk (s : State) (f p : Nat) (store : Bool) : Nat :=
  if f = pf0 then (if (s.page p).tier = 0 then 0xA2 else 0) else s.pageChk f p store

/-- Device side of a copy: the pages that pass, in order, with the status that stops it, 0 for none (R594). -/
def State.copyReach (s : State) (f : Nat) (store : Bool) (l : List (Nat × Nat × Nat)) : List Span × Nat :=
  match l with
  | [] => ([], 0)
  | p :: r =>
    let c := s.copyChk f p.1 store
    if c ≠ 0 then ([], c)
    else
      let e := s.page p.1
      let k := s.copyReach f store r
      ((frameAt e.tier e.die e.frame p.2.1, p.2.2) :: k.1, k.2)

/-- Spans that a copy may move, and the status that ends it there (R263, R479, R494, R594). -/
def State.copySpans (s : State) (f : Nat) (x : Option Ctx) (r n : Nat) (store : Bool) : List Span × Nat :=
  match x with
  | some x => if s.poolChk x (r % 2 ^ 32) n ≠ 0 then ([], s.poolChk x (r % 2 ^ 32) n) else ([(s.poolAddr x (r % 2 ^ 32), n)], 0)
  | none => if 0x8000000000 < r + n then ([], 0xA0) else s.copyReach f store (piecesOf r n)

/-- Spans are read one by one until one holds poison (R513, R594). -/
def State.copyRead (s : State) (t : Nat) (l : List Span) : List Byte × Bool × State :=
  match l with
  | [] => ([], false, s)
  | p :: r =>
    let k := s.readSpans [p] t
    if k.1 then ([], true, k.2)
    else
      let m := k.2.copyRead t r
      (k.2.rdSpans [p] ++ m.1, m.2)

/-- What a HOST_COPY does: status, bytes moved, state (R594). -/
def State.hostCopy (v : Svc) (bytes : List Byte) : Nat × Nat × State :=
  let c := v.cmd
  let r := cmdField c 24 8
  let len := cmdField c 32 4
  let out := (cmdField c 36 1).testBit 0
  let f := v.rep.sub.1
  let sp := v.st.copySpans f v.ctx r len (!out)
  let n := sp.1.foldl (fun n p => n + p.2) 0
  let count (s : State) (k : Nat) : State :=
    if v.ctx.isSome then s.acct (fnAcct f) 14 k else s.countHost f r k (!out)
  if out then
    match v.st.copyRead (if f = pf0 then 0x7FF else f) sp.1 with
    | (b, bad, s) =>
      let s := (count s b.length).dmaOut v.rep (cmdField c 16 8) 0 (b.length / 4096 + 1) b
      (if bad then 0xAA else sp.2, b.length, s)
  else
    let d := v.st.dmaIn f (cmdField c 16 8) n bytes
    let s := (count d.2 d.1.length).wrSpans sp.1 d.1
    if d.1.length < n then (0xC1, d.1.length, s.hifEvt 8) else (sp.2, n, s)

/-- HOST_COPY (R592, R594): `bytes` are those that arrive from host memory, fewer than LEN when a host-side transfer fails. -/
def execHostCopy (o : Origin) (bytes : List Byte) (s : State) : Res :=
  let pool := match o with
    | .unit _ => false
    | .host f q => (match (s.qp f q).sq with | [] => false | c :: _ => cmdField c 24 8 / 2 ^ 60 == 1)
  s.service o 0x15 (if pool then 56 else 0) (fun v =>
    let r := State.hostCopy { v with ctx := if pool then v.ctx else none } bytes
    .done r.1 (BitVec.ofNat 128 r.2.1) r.2.2)

/-- SSI_SEND (R595): `bytes` are those that arrive from host memory. -/
def execSsiSend (o : Origin) (bytes : List Byte) (s : State) : Res :=
  s.service o 0x16 0 (fun v =>
    let len := cmdField v.cmd 24 4
    if len < 24 ∨ 1048576 < len then .done 0xC3 0 v.st
    else
      let d := v.st.dmaIn pf0 (cmdField v.cmd 16 8) len bytes
      let st := d.2.acct 1536 14 d.1.length
      if d.1.length < len then .done 0xC1 0 (st.hifEvt 8)
      else if byteField d.1 4 4 ≠ len then .done 0xC3 0 st
      else .done 0 0 (st.ssiAccept v.rep.sub.2.1 d.1))

/-- The 16 counters of an account as they stood at the last boundary (R619, R625). -/
def State.acctBytes (s : State) (i : Nat) : List Byte := (List.range 16).flatMap (fun j => leBytes 8 (s.host.acct.shown.get 0 (16 * i + j)))

/-- ACC_READ (R620): a VF reads its own account. A number that is no account is malformed. -/
def execAccRead (o : Origin) (s : State) : Res :=
  s.service o 0x17 0 (fun v =>
    let f := v.rep.sub.1
    let k := cmdField v.cmd 24 2
    let i := if f ≠ pf0 then f else if k = 0xFFFF then 1536 else k
    if f = pf0 ∧ k ≠ 0xFFFF ∧ 1536 ≤ k then .done 0x60 0 v.st
    else .done 0 0 ((v.st.acct (fnAcct f) 14 128).dmaOut v.rep (cmdField v.cmd 16 8) 0 1 (v.st.acctBytes i)))

/-! ### Records, attentions and vectors (R599, R602, R603, R605, R606) -/

/-- RECORD_WRITE (R599, R613, R651): the next record of a pair that is ON enters a free CQ entry; one of another generation is dropped and
counted. During a replay no host frees entries, and none is needed. -/
def execRecordWrite (f q : Nat) (s : State) : Res :=
  if !isFn f ∨ 8 ≤ q then .fault .noSuchPart
  else if !s.qpOn f q ∨ ((s.qp f q).cqFree = 0 ∧ !s.replayed) then .next s
  else
    match s.nextRec f q with
    | none => .next s
    | some (r, t) => .next (if r.gen = (t.fn f).gen then t.putCq f q r else (t.count Reg.HIF_GEN_DROP 1).hifEvt 4)

/-- ATTN_HOLD_EXPIRY (R602): at the end of the hold one STATUS record carries the word as it then stands. -/
def execAttnHoldExpiry (f : Nat) (s : State) : Res :=
  if !isFn f then .fault .noSuchPart
  else
    let x := s.fn f
    match x.lastStatus with
    | none => .next s
    | some t => .next (if x.held ∧ t + usTc x.attnHold ≤ s.now then (s.setFn f { x with held := false }).statusNote f else s)

/-- A write of a function page is logged (R641, R650) and noted when the page is a VF's (R649). -/
def State.page0 (s : State) (f ofs width v : Nat) (g : State → State) : State :=
  let s := s.logIn 5 0x04 f (BitVec.ofNat 64 ofs) (leBytes width v)
  g { s with rpl := { s.rpl with untouched := s.rpl.untouched && f == pf0 } }

/-- Attentions cleared; SEQ stays and no record is written (R603). -/
def State.attnClear (s : State) (f mask : Nat) : State :=
  s.setFn f { s.fn f with attn := (s.fn f).attn &&& ~~~ BitVec.ofNat 8 mask }

/-- ATTN_CLEAR (R603). -/
def execAttnClear (f mask : Nat) (s : State) : Res :=
  if !isFn f then .fault .noSuchPart
  else if !s.fnOn f then .next s
  else .next (s.page0 f 0x10 8 (mask % 256) (fun (s : State) => s.attnClear f mask))

/-- A vector fires: its message leaves, or its pending bit is set while it is masked; its count and timer restart (R605, R606). -/
def State.fireVec (s : State) (f q : Nat) : State :=
  let x := s.qp f q
  let s := s.setQp f q { x with since := 0, oldest := none, fire := false }
  if (s.fn f).masked.getLsbD q then s.setFn f { s.fn f with pending := (s.fn f).pending ||| BitVec.ofNat 8 (2 ^ q) } else s.emit (.msix f q)

/-- Has a vector a cause to fire: a changed status word, the count, or the wait of the oldest record not signalled (R605)? -/
def State.vecDue (s : State) (f q : Nat) : Bool :=
  let x := s.qp f q
  x.fire || (x.time != 0 && (match x.oldest with | none => false | some t => decide (t + usTc x.time ≤ s.now)))

/-- MSIX_FIRE (R605). -/
def execMsixFire (f q : Nat) (s : State) : Res :=
  if !isFn f ∨ 8 ≤ q then .fault .noSuchPart else .next (if s.vecDue f q then s.fireVec f q else s)

/-- A vector is unmasked; a pending one fires once (R606). -/
def State.unmask (s : State) (f q : Nat) : State :=
  let x := s.fn f
  let m : BitVec 8 := ~~~ BitVec.ofNat 8 (2 ^ q)
  let s := s.setFn f { x with masked := x.masked &&& m, pending := x.pending &&& m }
  if x.pending.getLsbD q then s.emit (.msix f q) else s

/-- MSIX_UNMASK (R606). -/
def execMsixUnmask (f q : Nat) (s : State) : Res :=
  if !isFn f ∨ 8 ≤ q then .fault .noSuchPart
  else if !s.fnOn f then .next s
  else .next (s.page0 f (0x200C + 16 * q) 4 0 (fun (s : State) => s.unmask f q))

/-! ### Queue pairs (R607, R609) -/

/-- `HIF_FN_QCFG` of a pair as a write of it gives (R623). -/
def QPair.cfgWord (x : QPair) (en : Bool) : Nat := x.sqSize + x.cqSize * 2 ^ 12 + x.ssi.toNat * 2 ^ 24 + en.toNat * 2 ^ 25

/-- QUEUE_PAIR_ENABLE (R607, R609). -/
def execQueuePairEnable (f q : Nat) (s : State) : Res :=
  if !isFn f ∨ 8 ≤ q then .fault .noSuchPart
  else if !s.fnOn f then .next s
  else .next (s.page0 f (0x110 + 0x40 * q) 8 ((s.qp f q).cfgWord true) (fun (s : State) => s.qpEnable f q))

/-- QUEUE_PAIR_DISABLE (R607, R609). -/
def execQueuePairDisable (f q : Nat) (s : State) : Res :=
  if !isFn f ∨ 8 ≤ q then .fault .noSuchPart
  else if !s.fnOn f then .next s
  else .next (s.page0 f (0x110 + 0x40 * q) 8 ((s.qp f q).cfgWord false) (fun (s : State) => s.qpDisable f q))

/-- QUEUE_PAIR_OFF (R607, R609): no fetch or record write is under way between two commands. -/
def execQueuePairOff (f q : Nat) (s : State) : Res :=
  if !isFn f ∨ 8 ≤ q then .fault .noSuchPart
  else
    let x := s.qp f q
    if x.en.st ≠ .stopping then .next s
    else
      let s := s.setQp f q { x with en := {} }
      .next (if x.en.pend then s.qpStart f q else s)

end Sys2Proof.Machine
end

