-- ==== Sys2Proof/Machine/Enables.lean ====
section
/-! DEFINITION. VFs, engine units and ports under the common state machine; apertures; the accounting boundary (R586 to R588, R607 to R614,
R617 to R619, R676). -/
namespace Sys2Proof.Machine

/-! ### HIF_FCTL (R609, R624) -/

/-- A write of `HIF_FCTL` by PF0: its target and outcome are shown in `HIF_FSTATE`; the effect answers whether it was refused. -/
def State.fctl (s : State) (kind idx : Nat) (en : Bool) (f : State → Bool × State) : State :=
  s.bar2 Reg.HIF_FCTL 4 (en.toNat + kind * 2 + idx * 2 ^ 16) (fun (s : State) =>
    let r := f s
    let s := { r.2 with host := { r.2.host with fsel := (kind, idx), frej := r.1 } }
    if r.1 then s.hifEvt 1 else s)

/-- FCTL_VF_ENABLE (R607, R609). -/
def execFctlVfEnable (v : Nat) (s : State) : Res :=
  if 1024 ≤ v then .fault .noSuchPart else .next (s.fctl 1 v true (fun (s : State) => (false, s.vfEnable v)))

/-- FCTL_VF_DISABLE (R607, R609, R611). -/
def execFctlVfDisable (v : Nat) (s : State) : Res :=
  if 1024 ≤ v then .fault .noSuchPart else .next (s.fctl 1 v false (fun (s : State) => (false, s.vfDisable v false)))

/-- Is every score of a part at least the release threshold (R676)? -/
def State.releasable (s : State) (u : Nat) : Bool :=
  (List.range 32).all (fun b => decide (s.regBits Reg.HLT_CFG 10 10 ≤ s.score u b))

/-- Enable of an engine unit: an unconditional quarantine is lifted when the scores allow it, or the unit returns to OFF; the image's is
lifted by no means (R607, R609, R676). -/
def State.unitEnable (s : State) (u : Nat) : State :=
  let k := s.health.quar.get {} u
  let x := s.unit u
  if (k.kind = 1 ∨ k.image) ∧ !k.waits ∧ x.en.st ≠ .stopping then
    (if k.image ∨ !s.releasable u then s.setUnit u { x with en := {} }
     else
       let s := (s.setUnit u { x with en := { st := .starting } }).settleUnit u
       let s := { s with health := { s.health with quar := s.health.quar.set u { k with kind := 0, tmin := 0, lmin := 0 } } }
       ((s.healthLog 7 u 0 0 0).hltEvt 2).redev)
  else
    match x.en.st with
    | .off => (s.setUnit u { x with en := { st := .starting } }).settleUnit u
    | .starting => s.setUnit u { x with en := { st := .starting } }
    | .stopping => s.setUnit u { x with en := { st := .stopping, pend := true } }
    | .on => s

/-- Does radio use refuse the disable of a unit: a Kudu engine, or a unit of a radio-reserved cluster, while a cell of its region is not OFF
(R609)? -/
def State.unitHeld (s : State) (u : Nat) : Bool :=
  (uKind u == 5 || decide (s.radioSlots (uCluster u) ≠ 0)) &&
  s.radio.cells.any (fun (p : Nat × Cell) => p.2.en.st != .off && (match s.cellCfg p.1 with | none => false | some k => k.region == uRegion u))

/-- Disable of an engine unit: it is OFF once the list that it runs ends (R607, R609). -/
def State.unitDisable (s : State) (u : Nat) : State :=
  let x := s.unit u
  match x.en.st with
  | .on => (s.setUnit u { x with en := { st := .stopping } }).settleUnit u
  | .starting => s.setUnit u { x with en := { st := .starting, pend := true } }
  | .stopping => s.setUnit u { x with en := { st := .stopping } }
  | .off => s

/-- FCTL_UNIT_ENABLE (R609, R676). -/
def execFctlUnitEnable (u : Nat) (s : State) : Res :=
  if !isUnit u ∨ 0x10000 ≤ u then .fault .noSuchPart else .next (s.fctl 2 u true (fun (s : State) => (false, s.unitEnable u)))

/-- FCTL_UNIT_DISABLE (R609). -/
def execFctlUnitDisable (u : Nat) (s : State) : Res :=
  if !isUnit u ∨ 0x10000 ≤ u then .fault .noSuchPart
  else .next (s.fctl 2 u false (fun (s : State) => if s.unitHeld u then (true, s) else (false, s.unitDisable u)))

def State.setPortEn (s : State) (k : Nat) (e : Enable) : State := { s with host := { s.host with ports := s.host.ports.set k e } }

/-- Enable of a fronthaul port: ON when LINK is 1 (R607, R609). -/
def State.fhEnable (s : State) (p : Nat) : State :=
  let e := s.host.ports.get {} p
  match e.st with
  | .off => s.setPortEn p { st := if (s.front.link.get (false, false) p).1 then .on else .starting }
  | .starting => s.setPortEn p { st := .starting }
  | .stopping => s.setPortEn p { st := .stopping, pend := true }
  | .on => s

/-- Does the eAxC map name a port for a cell that is not OFF (R609)? -/
def State.fhHeld (s : State) (p : Nat) : Bool :=
  (List.range 8192).any (fun i => let e := s.eaxc i; e.kind != 0 && e.port == p && (s.cell e.cell).en.st != .off)

/-- Disable of a fronthaul port: it sends idle from then on, and is OFF (R607, R609). -/
def State.fhDisable (s : State) (p : Nat) : State :=
  let e := s.host.ports.get {} p
  match e.st with
  | .on => s.setPortEn p {}
  | .starting => s.setPortEn p { st := .starting, pend := true }
  | .stopping => s.setPortEn p { st := .stopping }
  | .off => s

/-- FCTL_FH_PORT_ENABLE (R609). -/
def execFctlFhPortEnable (p : Nat) (s : State) : Res :=
  if 16 ≤ p then .fault .noSuchPart else .next (s.fctl 3 p true (fun (s : State) => (false, s.fhEnable p)))

/-- FCTL_FH_PORT_DISABLE (R609). -/
def execFctlFhPortDisable (p : Nat) (s : State) : Res :=
  if 16 ≤ p then .fault .noSuchPart
  else .next (s.fctl 3 p false (fun (s : State) => if s.fhHeld p then (true, s) else (false, s.fhDisable p)))

/-- Enable of a fabric port: STARTING until its link is UP; the port of a quarantined light engine stays OFF (R607, R609, R674). -/
def State.fabEnable (s : State) (p : Nat) : State :=
  let e := s.host.ports.get {} (16 + p)
  match e.st with
  | .off => if s.quarHard (0xD000 + p) then s else s.setPortEn (16 + p) { st := .starting }
  | .starting => s.setPortEn (16 + p) { st := .starting }
  | .stopping => s.setPortEn (16 + p) { st := .stopping, pend := true }
  | .on => s

/-- Disable of a fabric port: the requests on its plane end as at LOST, and it is OFF (R528, R607, R609). -/
def State.fabDisable (s : State) (p : Nat) : State :=
  let e := s.host.ports.get {} (16 + p)
  match e.st with
  | .on => (s.setPortEn (16 + p) {}).losePlane p .down
  | .starting => s.setPortEn (16 + p) { st := .starting, pend := true }
  | .stopping => s.setPortEn (16 + p) { st := .stopping }
  | .off => s

/-- FCTL_FAB_PORT_ENABLE (R609). -/
def execFctlFabPortEnable (p : Nat) (s : State) : Res :=
  if 3 ≤ p then .fault .noSuchPart else .next (s.fctl 4 p true (fun (s : State) => (false, s.fabEnable p)))

/-- FCTL_FAB_PORT_DISABLE (R609). -/
def execFctlFabPortDisable (p : Nat) (s : State) : Res :=
  if 3 ≤ p then .fault .noSuchPart else .next (s.fctl 4 p false (fun (s : State) => (false, s.fabDisable p)))

/-! ### SR-IOV (R586, R611, R612, R614, R641, R644) -/

/-- HOST_CTL record (R644). -/
def State.logCtl (s : State) (f code : Nat) : State := s.logIn 5 0x05 f (BitVec.ofNat 64 (code + s.host.numVfs * 2 ^ 16)) []

/-- VF_ENABLE_SET (R586). -/
def execVfEnableSet (s : State) : Res :=
  let s := s.logCtl pf0 1
  if s.host.vfEnable then .next s
  else .next ((List.range s.host.numVfs).foldl (fun (s : State) v => s.vfEnable v) { s with host := { s.host with vfEnable := true } })

/-- VFs that are not OFF. -/
def State.liveVfs (s : State) : List Nat := (s.host.fns.filter (fun (p : Nat × Fn) => decide (p.1 < 1024) && p.2.en.st != .off)).map (·.1)

/-- VF_ENABLE_CLEAR (R586, R611): every VF is removed. -/
def execVfEnableClear (s : State) : Res :=
  let s := s.logCtl pf0 2
  .next (s.liveVfs.foldl (fun (s : State) v => s.vfDisable v false) { s with host := { s.host with vfEnable := false } })

/-- TotalVFs: NUM_VF of the header of the slot chosen in P1 (R711). -/
def State.totalVfs (s : State) : Nat := (s.start.slots.get {} s.start.slot).numVf

/-- NUMVFS_WRITE (R586, R711): at most TotalVFs; VFs that leave the range are removed. -/
def execNumvfsWrite (n : Nat) (s : State) : Res :=
  if s.totalVfs < n then .next s
  else
    let s := { s with host := { s.host with numVfs := n } }.logCtl pf0 4
    .next ((s.liveVfs.filter (fun v => decide (n ≤ v) && s.host.vfEnable)).foldl (fun (s : State) v => s.vfDisable v false) s)

/-- FLR (R607, R610, R611, R614): a VF's acts as a disable followed by an enable; PF0's stops its queue pairs only. -/
def execFlr (f : Nat) (s : State) : Res :=
  if !isFn f then .fault .noSuchPart
  else
    let s := s.logCtl f 3
    if f = pf0 then .next ((List.range 8).foldl (fun (s : State) q => s.qpDisable pf0 q) s)
    else
      let began := (s.fn f).en.st == .on
      let s := (s.vfDisable f true).vfEnable f
      .next (if began then s.hifEvt 2 else s)

/-- VF_STOP_COMPLETE (R607, R612): the work of a stopping VF has ended: its migrations stop, its pages and claims go, its page is reset but for
GEN; a pending enable is taken. -/
def execVfStopComplete (f : Nat) (s : State) : Res :=
  if 1024 ≤ f then .fault .noSuchPart
  else
    let x := s.fn f
    if x.en.st ≠ .stopping ∨ !s.vfDone f then .next s
    else
      let s := ((s.stopMigs f).dropPages f).dropFnRecs f
      let s := s.setFn f { gen := x.gen }
      .next (if x.en.pend then s.vfStart f else s)

/-! ### Apertures (R588) -/

/-- APERTURE_READ (R588): a refused read returns zeros; a poisoned line a poisoned completion. -/
def execApertureRead (f ofs len : Nat) (s : State) : Res :=
  if !isFn f ∨ apSize f < ofs + len then .fault .noSuchPart
  else
    let a := s.apAddr f ofs
    match s.apSpans f a len false with
    | none => .next ((s.apErr f).emit (.readData f (List.replicate len 0)))
    | some sp =>
      let r := s.readSpans sp (if f = pf0 then 0x7FF else f)
      let s := r.2.countHost f a len false
      .next (s.emit (if r.1 then .readPoison f else .readData f (s.rdSpans sp)))

/-- APERTURE_WRITE (R588, R641). -/
def execApertureWrite (f ofs : Nat) (b : List Byte) (s : State) : Res :=
  if !isFn f ∨ apSize f < ofs + b.length then .fault .noSuchPart
  else
    let s := s.logIn 5 0x04 f (BitVec.ofNat 64 (ofs + (if f = pf0 then 4 else 2) * 2 ^ 48)) b
    let a := s.apAddr f ofs
    match s.apSpans f a b.length true with
    | none => .next (s.apErr f)
    | some sp => .next ((s.countHost f a b.length true).wrSpans sp b)

/-! ### The accounting boundary (R618, R619) -/

/-- nJ added to an account: whole µJ are counted, the remainder is carried (R625). -/
def Accounts.addNj (a : Accounts) (i n : Nat) : Accounts :=
  let t := a.rem.get 0 i + n
  { a with rem := a.rem.set i (t % 1000), work := a.work.upd 0 (16 * i + 15) (· + t / 1000) }

/-- ACCOUNT_BOUNDARY (R618, R619): the measured energy is apportioned, every counter changes together, the epoch moves on. Energies are free
values (log entry 5). -/
def execAccountBoundary (s : State) : Res :=
  let ms := s.now / 1966080
  if ms = s.host.acct.lastMs then .next s
  else
    let k := s.drawn
    let e := Config.railNj k
    let dyn (i : Nat) : Nat := Config.dynNj k i
    let mod := (List.range 1536).foldl (fun n i => n + dyn i) (Config.staticNj k)
    let inc (i : Nat) : Nat := if mod = 0 then 0 else dyn i * e / mod
    let sum := (List.range 1536).foldl (fun n i => n + inc i) 0
    let a := (List.range 1536).foldl (fun (a : Accounts) i => if inc i = 0 then a else a.addNj i (inc i)) s.host.acct
    let a := a.addNj 1536 (e - sum)
    let t := a.rem.get 0 1537 + e
    let a := { a with rem := a.rem.set 1537 (t % 1000), lastMs := ms, shown := a.work }
    let s := { s with host := { s.host with acct := a }, power := { s.power with pin := min 65535 (e / 100000) }, drawn := k + 1 }
    let s := s.count64 Reg.ACC_RAIL_UJ (t / 1000)
    let s := s.setReg Reg.ACC_SCALE (if mod = 0 then Config.scaleOpen k % 2 ^ 32 else e * 2 ^ 16 / mod % 2 ^ 32)
    .next (s.count64 Reg.ACC_EPOCH 1)

end Sys2Proof.Machine
end

