-- ==== Sys2Proof/Machine/HealthIn.lean ====
section
/-! DEFINITION. What reaches the health monitor from other devices: heartbeats, expulsion mail, the steward's answer; the fence and the takeover
(R678 to R689, R692 to R696). -/
namespace Sys2Proof.Machine

/-- HB_MISS, and the heartbeat period in whole Tc (R679, R705). -/
def State.hbMiss (s : State) : Nat := s.regBits Reg.HLT_PARTNER 31 4
def State.hbTc (s : State) : Nat := usTc (s.regBits Reg.HLT_PARTNER 21 10)

/-- Roles as `HLT_STATE.ROLE` (R704). -/
def Role.code : Role → Nat
  | .active => 0
  | .spareTest => 1
  | .spareReady => 2
  | .shadow => 3
  | .expelling => 4
  | .expelled => 5

/-- Is this device a steward (R692)? -/
def State.isSteward (s : State) : Bool := decide (s.regBits Reg.HLT_DOMAIN 48 1 = 1)

/-- A peer as the device knows it before any heartbeat. -/
def State.newPeer (s : State) (node : Nat) : Peer :=
  { node := node, isWard := (List.range 2048).any (fun i => let w := s.regs.get 0 (Reg.HLT_WARD i); bit w 0 && bits w 1 12 == node),
    isPartner := decide (s.regBits Reg.HLT_PARTNER 20 1 = 1) && s.regBits Reg.HLT_PARTNER 0 12 == node,
    isSteward := s.steward 0 == node || s.steward 1 == node, beat := false, miss := 0, asked := false, lostAt := none }

def State.setPeer (s : State) (p : Peer) : State :=
  { s with health := { s.health with peers := s.health.peers.map (fun (q : Peer) => if q.node = p.node then p else q) } }

/-- Mirrored cells of this device: nothing in its own registers names them (R683, R686). -/
def State.mirroredCells (s : State) : List Nat :=
  (s.radio.cells.filter (fun p => p.2.en.st != .off && !bit (s.regs.get 0 (Reg.HLT_CELL_SB p.1)) 0 && Config.cellMirrored p.1)).map (·.1)

def State.muteCell (s : State) (n : Nat) (m : Bool) : State := s.setCell n { s.cell n with muted := m }

/-! ### Fence (R686) -/

/-- The device fences itself: its mirrored cells are muted at once, its mirrored instances pause at their next boundary. -/
def State.fence (s : State) : State :=
  if s.health.fenced then s
  else
    let s := { s with health := { s.health with fenced := true } }
    let s := s.mirroredCells.foldl (fun s n => s.muteCell n true) s
    let s := { s with inf := { s.inf with models := s.inf.models.map (fun (p : Nat × Model) =>
      if p.2.mirrored ∧ !p.2.paused then (p.1, { p.2 with pausing := true }) else p) } }
    ((s.healthLog 0x0A 0xF000 0 0 0).hltEvt 0x20).redev

/-- A paused or pausing instance goes on: the marks of its contexts go (R638, R706). -/
def State.resumeModel (s : State) (t n : Nat) : State :=
  match s.model t n with
  | none => s
  | some m =>
    let s := s.setModel t n { m with paused := false, pausing := false }
    m.ctxs.foldl (fun s c => (s.updCtx c (fun x => { x with paused := false, pausing := false })).refresh c) s

/-- The fence lifts: paused instances resume, and the cells that it muted (R686, R706). -/
def State.unfence (s : State) : State :=
  let s := { s with health := { s.health with fenced := false } }
  let s := s.mirroredCells.foldl (fun s n => s.muteCell n false) s
  ((s.inf.models.filter (fun p => p.2.mirrored)).foldl (fun s p => s.resumeModel (p.1 / 16) (p.1 % 16)) s).redev

/-! ### Takeover (R685, R687, R689) -/

/-- Standby cells that stand for cells of a ward. -/
def State.standbyCells (s : State) (node : Nat) : List Nat :=
  (s.radio.cells.filter (fun p => let w := s.regs.get 0 (Reg.HLT_CELL_SB p.1); bit w 0 && bits w 1 12 == node && p.2.muted)).map (·.1)

/-- First slot boundary of a cell at or after an instant. -/
def State.slotFrom (s : State) (n t : Nat) : Nat :=
  match s.cellCfg n with
  | none => t
  | some k => let b := slotStart k.mu t; if b = t then t else b + slotTc k.mu

/-- A ward is lost: logged, its instances taken over at once, its cells at their first slot boundary a heartbeat period later (R687, R689). -/
def State.wardLost (s : State) (node : Nat) : State :=
  match s.health.peers.find? (fun p => p.node == node) with
  | none => s
  | some p =>
    if s.health.fenced ∨ p.lostAt.isSome ∨ p.beat then s
    else
      let mine := s.health.standby.filter (fun k => k.ward == node)
      let last := mine.foldl (fun m k => max m k.step) 0
      let cells := s.standbyCells node
      let s := s.setPeer { p with lostAt := some s.now, asked := false }
      let s := (s.healthLog 8 0xF000 0 node (BitVec.ofNat 64 last)).hltEvt 0x10
      let s := cells.foldl (fun s n => { s with health := { s.health with unmuteAt := s.health.unmuteAt.set n (s.slotFrom n (s.now + s.hbTc)) } }) s
      let s := mine.foldl (fun s k => match s.model k.tenant k.slot with
        | none => s
        | some m => (s.setModel k.tenant k.slot { m with standby := false, inStep := false, waiting := [], failing := false }).healthLog 9 0xF000 0 node
          (BitVec.ofNat 64 k.step)) s
      if mine = [] ∧ cells = [] then s
      else { s with health := { s.health with taken := true, standby := s.health.standby.filter (fun k => k.ward != node) } }.hltEvt 0x40

/-- The steward's answer about a ward: empty periods that it has counted (R685, R701). -/
def State.stewardAnswer (s : State) (node count : Nat) : State :=
  match s.health.peers.find? (fun p => p.node == node) with
  | none => s
  | some p =>
    if !p.asked ∨ p.lostAt.isSome then s
    else if s.hbMiss ≤ count ∧ !p.beat then s.wardLost node
    else s.setPeer { p with asked := false }

/-- A device asks its steward about a ward by a fetching atomic; a steward asks itself (R685, log entry 12). -/
def State.askSteward (s : State) (p : Peer) : State :=
  let s := s.setPeer { p with asked := true }
  let dest := s.stewardNow + s.self / 4096 * 4096
  let ofs := Config.stewardOfs p.node % 2 ^ 40
  match s.planeFor dest ofs with
  | none => s.setPeer { p with asked := false }
  | some _ => s.issueAtomic 12 dest ofs 0 0xFFFFF 0x30 0 0 (.hub (10000 + p.node)) hubKey

/-! ### Mail (R678, R679, R692 to R696, log entry 12) -/

/-- A heartbeat counts for its sender in the current period (R679, R685). -/
def State.markBeat (s : State) (node : Nat) : State :=
  let l := if s.health.peers.any (fun p => p.node == node) then s.health.peers else s.health.peers ++ [s.newPeer node]
  { s with health := { s.health with peers := l.map (fun (q : Peer) => if q.node = node then { q with beat := true } else q) } }

/-- A steward lists the ready spares whose heartbeats it receives (R692). -/
def State.listSpare (s : State) (node role : Nat) : State :=
  if !s.isSteward then s
  else
    let l := s.health.spares.filter (fun n => n != node)
    { s with health := { s.health with spares := if role != 2 then l else if s.health.spares.contains node then s.health.spares else l ++ [node] } }

/-- A heartbeat is applied: it carries the sender's failure domain and its role. A pairing is decided by the first from the partner (R678). -/
def State.beatFrom (s : State) (node fdom role : Nat) : State :=
  let s := (s.markBeat node).listSpare node role
  if s.health.pair != .pairing || s.health.pairNode != node then s
  else if fdom == s.regBits Reg.HLT_DOMAIN 0 8 || fdom != s.regBits Reg.HLT_PARTNER 12 8 then
    ({ s with health := { s.health with pair := .refused } }.hltEvt 0x10).redev
  else { s with health := { s.health with pair := .paired } }.redev

/-- The device's expulsion is granted or forced: it hands its work over (R693 to R695). -/
def State.expelNow (s : State) (st cause spare : Nat) : State :=
  let s := s.setExpel st cause spare
  { s with health := { s.health with role := .expelling } }

/-- A steward learns of a forced expulsion: it supersedes the device's request, whose token is returned if it had been granted; it spends a token
and takes a spare when there are any (R694). -/
def State.forceExpel (s : State) (node : Nat) : State :=
  let tokens := s.health.tokens + (if s.health.granted.contains node then 1 else 0)
  let s' := { s with health := { s.health with reqs := s.health.reqs.filter (fun r => r.node != node), tokens := tokens - 1,
                                               granted := s.health.granted.filter (fun n => n != node), spares := s.health.spares.drop 1 } }
  match s.health.spares.head? with
  | none => s'
  | some n => s'.mail n mailSpare 0 node

/-- Mail that has been applied to the health mailbox (R679, R693, R694). -/
def State.mailIn (s : State) (node : Nat) (b : List Byte) : State :=
  let k := byteField b 0 1
  let b1 := byteField b 1 1
  let w2 := byteField b 2 2
  if k = mailBeat then s.beatFrom node b1 w2
  else if k = mailExpel then
    (if s.isSteward ∧ !s.health.reqs.any (fun r => r.node == node) then
      { s with health := { s.health with reqs := s.health.reqs ++ [{ node := node, cause := b1 }] } } else s)
  else if k = mailGrant then (if s.health.expel = 1 then s.expelNow 2 s.health.expelCause w2 else s)
  else if k = mailSpare then
    (if s.health.role = .spareReady then { s with health := { s.health with serveFor := some w2 } } else s)
  else if k = mailForced then
    (if w2 = s.self % 4096 then (if s.health.expel = 3 ∨ s.health.expel = 4 then s else (s.healthLog 0x0D 0xF000 0 node 0).expelNow 3 6 0)
     else if s.isSteward then s.forceExpel w2 else s)
  else s

end Sys2Proof.Machine
end

