-- ==== Sys2Proof/Machine/Transfer.lean ====
section
/-! DEFINITION. Multi-dimensional transfers: tiles, their requests and handles, delivery, stop (R279, R525, R534, R537 to R540, R562 to R567). -/
namespace Sys2Proof.Machine

/-! ### Remote addresses and jobs (R538 to R540) -/

/-- Job ID of a context's requests; none for a tenant without one (R540). -/
def State.jobOf (s : State) (x : Ctx) : Option Nat :=
  if x.radio then some (s.regBits Reg.FAB_RADIO_JOB 0 20)
  else if s.regBits (Reg.FAB_JOB x.owner) 20 1 = 1 then some (s.regBits (Reg.FAB_JOB x.owner) 0 20) else none

/-- Granule of the rack window (R538). -/
def State.rwGran (s : State) : Nat := 2 ^ (12 + s.regBits Reg.FAB_RW_CFG 0 4)

/-- DEST and OFFSET of a rack-window address (R538). -/
def State.rwMap (s : State) (a : Nat) : Nat × Nat :=
  let g := s.rwGran
  let n := s.regBits Reg.FAB_RW_CFG 4 8 + 1
  (s.regBits (Reg.FAB_RW_NODE (a / g % n)) 0 12 + s.self / 4096 * 4096, a / (g * n) * g + a % g)

/-- DEST, OFFSET and FLAGS of byte `o` from a remote reference (R537 to R539, R579). -/
def State.remote (s : State) (c : Cmd) (r : Nat) (o : Int) : Nat × Int × Nat :=
  let node := r / 2 ^ 48 % 4096
  if r / 2 ^ 60 = 3 then
    let a := ((r % 2 ^ 46 : Nat) : Int) + o
    let m := s.rwMap a.toNat
    (m.1, if a < 0 then a else m.2, 2)
  else
    let sys := if r / 2 ^ 60 = 4 then cSys c else s.self / 4096
    (node + sys * 4096, ((r % 2 ^ 40 : Nat) : Int) + o, if sys = s.self / 4096 then 0 else 4)

/-- Status that refuses a command that names a fabric address, 0 when it may go on (R296, R540). -/
def State.fabChk (s : State) (x : Ctx) : Nat :=
  if s.share (x.cluster / 4) 2 = 0 then 0x67 else if (s.jobOf x).isNone then 0xB7 else 0

/-! ### Tiles (R279, R562) -/

def xCount (c : Cmd) (i : Nat) : Nat := cmdField c (32 + 2 * i) 2
def xStride (c : Cmd) (dst : Bool) (i : Nat) : Int := signed 32 (cmdField c (if dst then 48 + 4 * i else 36 + 4 * i) 4)
def xSrc (c : Cmd) : Nat := cmdField c 16 8
def xDst (c : Cmd) : Nat := cmdField c 24 8
/-- Does the transfer write remotely? -/
def xOut (c : Cmd) : Bool := refLocal (xSrc c)

/-- Runs of a tile when COUNT0 is at most 4,096. -/
def xPerTile (c : Cmd) : Nat := 4096 / xCount c 0

/-- Number of tiles (R562). -/
def xTiles (c : Cmd) : Nat :=
  if xCount c 0 ≤ 4096 then xCount c 3 * xCount c 2 * ceilDiv (xCount c 1) (xPerTile c)
  else xCount c 3 * xCount c 2 * xCount c 1 * ceilDiv (xCount c 0) 4096

/-- A tile: the coordinates of its first run, the first byte within it, bytes of a run, and runs. -/
structure Tile where
  i3 : Nat
  i2 : Nat
  i1 : Nat
  b : Nat
  len : Nat
  runs : Nat

/-- Tile `t` of a transfer (R562). -/
def tileOf (c : Cmd) (t : Nat) : Tile :=
  if xCount c 0 ≤ 4096 then
    let per := ceilDiv (xCount c 1) (xPerTile c)
    let i1 := t % per * xPerTile c
    { i3 := t / per / xCount c 2, i2 := t / per % xCount c 2, i1 := i1, b := 0, len := xCount c 0, runs := min (xPerTile c) (xCount c 1 - i1) }
  else
    let per := ceilDiv (xCount c 0) 4096
    let q := t / per
    let b := t % per * 4096
    { i3 := q / (xCount c 1 * xCount c 2), i2 := q / xCount c 1 % xCount c 2, i1 := q % xCount c 1, b := b, len := min 4096 (xCount c 0 - b), runs := 1 }

/-- Offset of run `k` of a tile from the base of a side (R279). -/
def runOfs (c : Cmd) (dst : Bool) (t : Tile) (k : Nat) : Int :=
  (t.i3 : Int) * xStride c dst 3 + (t.i2 : Int) * xStride c dst 2 + ((t.i1 + k : Nat) : Int) * xStride c dst 1 + (t.b : Int)

/-- Lowest offset of a side, and one past its highest, over a whole transfer. -/
def xSpan (c : Cmd) (dst : Bool) : Int × Int :=
  [1, 2, 3].foldl (fun p i =>
    let d := ((xCount c i - 1 : Nat) : Int) * xStride c dst i
    (p.1 + min 0 d, p.2 + max 0 d)) (0, (xCount c 0 : Int))

/-- Lowest offset of a tile's destination, and one past its highest (R563). -/
def tileSpan (c : Cmd) (t : Tile) : Int × Int :=
  let a := runOfs c true t 0
  let z := runOfs c true t (t.runs - 1)
  (min a z, max a z + t.len)

/-- Does tile `n` owe a handle (R563)? -/
def owesHandle (c : Cmd) (n : Nat) : Bool := cTilerel c || (cRel c && n + 1 == xTiles c)

/-- Span that tile `n`'s handle names (R563). -/
def handleSpan (c : Cmd) (n : Nat) : Int × Int := if cTilerel c then tileSpan c (tileOf c n) else xSpan c true

/-- The handle of tile `n`, whose destination starts at Pool offset or node-offset `base` (R284, R563). -/
def tileHandle (c : Cmd) (owner : Nat) (list : DWord) (n base : Nat) : Handle :=
  let sp := handleSpan c n
  { base := base % 2 ^ 23, len := (sp.2 - sp.1).toNat, partialMark := n + 1 != xTiles c, ahead := false, visSet := cVis c, owner := owner, list := list,
    vis := if cVis c then cWord1 c else 0, visible := false }

/-- The 32 bytes of a handle (R284). -/
def Handle.bytes (h : Handle) : List Byte :=
  leBytes 4 h.base ++ leBytes 4 h.len ++ leBytes 1 (packBits [h.partialMark, h.ahead, h.visSet]) ++ leBytes 1 0 ++ leBytes 2 h.owner ++ leBytes 4 0 ++
  leBytes 8 h.list.toNat ++ leBytes 8 (if h.visSet then h.vis.toNat else 0)

/-! ### The local side -/

/-- Reference of a local byte of a transfer; none below zero. -/
def localRef (r : Nat) (o : Int) : Option Nat :=
  let a := ((r % 2 ^ 48 : Nat) : Int) + o
  if a < 0 then none else some (r / 2 ^ 60 * 2 ^ 60 + a.toNat)

/-- The local references of a tile's runs; none when one lies below zero. -/
def localRuns (c : Cmd) (t : Tile) : Option (List (Nat × Nat)) :=
  (List.range t.runs).foldr (fun k l => match l, localRef (if xOut c then xSrc c else xDst c) (runOfs c (!xOut c) t k) with
    | some l, some a => some ((a, t.len) :: l)
    | _, _ => none) (some [])

/-! ### Requests of a tile (R530, R531, R534, R538) -/

/-- Is the transfer carried as one LOAD or STORE (R534)? -/
def xSingle (far : Bool) (c : Cmd) : Bool := !far && xCount c 1 == 1 && xCount c 2 == 1 && xCount c 3 == 1 && decide (xCount c 0 ≤ 256)

/-- A run on the remote side cut at rack-window granules: (offset from the base, bytes) (R538). -/
def State.cutRun (s : State) (a n fuel : Nat) (o : Int) : List (Int × Nat) :=
  match fuel with
  | 0 => []
  | fuel + 1 =>
    if n = 0 then []
    else
      let k := min n (s.rwGran - a % s.rwGran)
      (o, k) :: s.cutRun (a + k) (n - k) fuel (o + k)

/-- The pieces of a tile that are one request each: offset from the remote base, bytes of a run, runs. -/
def State.tilePieces (s : State) (c : Cmd) (t : Tile) : List (Int × Nat × Nat) :=
  let r := if xOut c then xDst c else xSrc c
  if r / 2 ^ 60 ≠ 3 then [(runOfs c (xOut c) t 0, t.len, t.runs)]
  else (List.range t.runs).foldr (fun k l =>
    let o := runOfs c (xOut c) t k
    (s.cutRun (((r % 2 ^ 46 : Nat) : Int) + o).toNat t.len 4097 o).map (fun p => (p.1, p.2, 1)) ++ l) []

/-- Requests of a tile, the data of each taken in order from `data` (R531, R534). -/
def State.tileTxns (s : State) (c : Cmd) (job : Nat) (t : Tile) (data : List Byte) (ps : List (Int × Nat × Nat)) : List Txn :=
  match ps with
  | [] => []
  | (o, len, runs) :: rest =>
    let m := s.remote c (if xOut c then xDst c else xSrc c) o
    let single := xSingle (m.2.2 == 4) c
    let n := len * runs
    let q : Txn := { op := if xOut c then (if single then 2 else 4) else if single then 1 else 5, flags := m.2.2, len := n, dest := m.1, job := job,
                     offset := m.2.1.toNat, dctx := if xOut c && !single then cDctx c else 0,
                     opfield := if single then 0
                       else BitVec.ofNat 64 (len + runs * 2 ^ 16 + unsigned 32 (xStride c (xOut c) 1) * 2 ^ 32),
                     data := if xOut c then data.take n else [] }
    q :: s.tileTxns c job t (data.drop n) rest

/-- Bytes that a request and its response count against the remote share (R294, R532). -/
def txnCost (t : Txn) : Nat := 256 * (flitsOf t.data.length + (if t.op = 1 ∨ t.op = 5 then flitsOf t.len else 1))

/-- Status with which a transfer ends before any flit leaves, 0 when it may start (R263, R296, R538, R540). -/
def State.xferChk (s : State) (x : Ctx) (c : Cmd) : Nat :=
  let far := s.remote c (if xOut c then xDst c else xSrc c)
  let rs := xSpan c (xOut c)
  let loc := if xOut c then xSrc c else xDst c
  let ls := xSpan c (!xOut c)
  if s.fabChk x ≠ 0 then s.fabChk x
  else if (far rs.1).2.1 < 0 ∨ 2 ^ 40 ≤ (far (rs.2 - 1)).2.1 then 0xA0
  else if loc / 2 ^ 60 = 1 then
    let y := if xOut c then some x else s.outCtx x c
    let lo := ((loc % 2 ^ 32 : Nat) : Int) + ls.1
    if lo < 0 then 0x63
    else match y with
      | none => 0
      | some y => s.poolChk y lo.toNat (ls.2 - ls.1).toNat
  else 0

/-- Does the window's remote share still hold `n` bytes (R294)? -/
def State.rmRoom (s : State) (g n : Nat) : Bool := decide ((s.sched.band.get {} g).rm + n ≤ s.share g 2)

/-- A request that the window cannot hold waits for the next; the window is counted once (R294, R301). -/
def State.rmWait (s : State) (g : Nat) : State :=
  let b := s.sched.band.get {} g
  if b.rmFull then s
  else ({ s with sched := { s.sched with band := s.sched.band.set g { b with rmFull := true } } }).count (Reg.MOV_RM_FULL g) 1

/-- A region's fabric request is charged and issued (R294, R533, R617). -/
def State.sendReq (s : State) (x : Ctx) (t : Txn) (serves : ReqFor) (key : BitVec 128) : State :=
  let g := x.cluster / 4
  ((s.charge g 2 (txnCost t)).acct x.account 11 (256 * flitsOf t.data.length)).issueReq g t serves key

/-- May a region issue `n` more requests (R533)? -/
def State.trackRoom (s : State) (g n : Nat) : Bool := decide (s.tracked g + n ≤ 16384)

/-- Tile `n` of a transfer is issued; none when it must wait for entries or for the share (R294, R533, R563). -/
def State.issueTile (s : State) (x : Ctx) (f : Xfer) (job : Nat) : Option State :=
  let c := f.cmd
  let g := x.cluster / 4
  let t := tileOf c f.next
  let peer := (s.remote c (if xOut c then xDst c else xSrc c) 0).1
  match localRuns c t with
  | none => some (s.failXfer f.id 0xA0 peer)
  | some runs =>
    let fetched := if xOut c then s.fetch x runs else (0, [], s)
    if fetched.1 ≠ 0 then some (fetched.2.2.failXfer f.id fetched.1 peer)
    else
      let txns := s.tileTxns c job t fetched.2.1 (s.tilePieces c t)
      if !s.trackRoom g txns.length then none
      else if !s.rmRoom g (txns.foldl (fun n q => n + txnCost q) 0) then none
      else if txns.any (fun q => (s.planeFor q.dest q.offset).isNone) then some ((s.count Reg.FAB_LOST_CNT 1).failXfer f.id 0xB0 peer)
      else
        let s := fetched.2.2.setXfer { f with next := f.next + 1 }
        some (txns.foldl (fun s q => s.sendReq x q (.tile f.id f.next) (reqKey f.next x.id f.cmdIdx f.list)) s)

/-- Tiles of a transfer that are issued and not applied. -/
def Xfer.open (f : Xfer) : Nat := f.next - f.index - (f.applied.filter (fun n => decide (f.index ≤ n))).length

/-- Tiles are issued in ascending index, at most 64 in flight, within the entries and the share (R563). -/
def State.issueTiles (s : State) (x : Ctx) (id job fuel : Nat) : State :=
  match fuel with
  | 0 => s
  | fuel + 1 =>
    match s.xfer id with
    | none => s
    | some f =>
      if f.dead || f.fail.isSome || decide (xTiles f.cmd ≤ f.next) || decide (64 ≤ f.open) then s
      else
        match s.issueTile x f job with
        | none => s.rmWait (x.cluster / 4)
        | some t => t.issueTiles x id job fuel

/-! ### Delivery (R563, R564) -/

/-- A handle of tile `n` is sent to a remote destination; none when it must wait (R534, R563). -/
def State.sendHandle (s : State) (x : Ctx) (f : Xfer) (job n : Nat) : Option State :=
  let c := f.cmd
  let m := s.remote c (xDst c) (handleSpan c n).1
  let h := tileHandle c (cDctx c) f.list n m.2.1.toNat
  let t : Txn := { op := 6, flags := m.2.2 + (if h.partialMark then 8 else 0), len := 32, dest := m.1, job := job, offset := m.2.1.toNat, aux := cRelq c,
                   dctx := cDctx c, data := h.bytes }
  if !s.trackRoom (x.cluster / 4) 1 || !s.rmRoom (x.cluster / 4) (txnCost t) then none
  else if (s.planeFor t.dest t.offset).isNone then some ((s.count Reg.FAB_LOST_CNT 1).failXfer f.id 0xB0 t.dest)
  else some ((s.setXfer { f with asked := f.asked ++ [n] }).sendReq x t (.handle f.id n) (reqKey n x.id f.cmdIdx f.list))

/-- The lowest tiles that are applied, and whose handles are accepted, are delivered; with the last the command ends, and its record is freed
(R563, R565). -/
def State.deliver (s : State) (x : Ctx) (id job fuel : Nat) : State :=
  match fuel with
  | 0 => s
  | fuel + 1 =>
    match s.xfer id with
    | none => s
    | some f =>
      let c := f.cmd
      let n := f.index
      let step (s : State) : State :=
        (s.setXfer { f with index := n + 1, applied := f.applied.filter (fun k => k != n), handled := f.handled.filter (fun k => k != n) }).deliver x id job fuel
      if f.dead || f.fail.isSome then s
      else if xTiles c ≤ n then
        let s := s.dropXfer id
        let s := { s with fab := { s.fab with recs := s.fab.recs.filter (fun r => !(r.ctx == f.ctx && r.list == f.list && r.cmdIdx == f.cmdIdx)) } }
        s.finishCmd f.unit []
      else if !f.applied.contains n then s
      else if !owesHandle c n || f.handled.contains n then step s
      else if f.asked.contains n then s
      else if xOut c then
        match s.sendHandle x f job n with
        | none => s
        | some t => t
      else
        match s.outCtx x c with
        | none => step s
        | some y =>
          let base := ((xDst c % 2 ^ 32 : Nat) : Int) + (handleSpan c n).1
          if y.st = .swapOut ∨ y.st = .swapIn ∨ 32 ≤ (y.hqueue (cRelq c)).length then s
          else step (s.setCtx (y.setHqueue (cRelq c) (y.hqueue (cRelq c) ++ [tileHandle c y.id f.list n base.toNat])))

/-- A transfer goes on: what is applied is delivered, and further tiles issue. -/
def State.pumpXfer (s : State) (id : Nat) : State :=
  match s.xfer id with
  | none => s
  | some f =>
    match s.ctx? f.ctx with
    | none => s.settleXfer id
    | some x =>
      match s.jobOf x with
      | none => (s.failXfer id 0xB7 0).settleXfer id
      | some job => ((s.deliver x id job (xTiles f.cmd + 1)).issueTiles x id job 65).settleXfer id

/-- The response of a request of tile `n` has come: with the last of the tile's requests the tile is applied (R563). `ofs` and `data` are a
read's (R534). -/
def State.tileBack (s : State) (id n : Nat) (q : Txn) (data : List Byte) : State :=
  match s.xfer id with
  | none => s
  | some f =>
    match s.ctx? f.ctx with
    | none => s.settleXfer id
    | some x =>
      let c := f.cmd
      let t := tileOf c n
      let stop := f.dead
      -- which piece the request carried: its place among the tile's pieces
      let pieces := s.tilePieces c t
      let r := if xOut c then xDst c else xSrc c
      let before := pieces.takeWhile (fun p => !(decide ((s.remote c r p.1).2.1 = (q.offset : Int)) && (s.remote c r p.1).1 == q.dest))
      let skip := before.foldl (fun k p => k + p.2.1 * p.2.2) 0
      let cause := if xOut c ∨ stop then 0
        else match localRuns c t with
          | none => 0xA0
          | some runs => runs.foldl (fun k p => if k ≠ 0 then k else s.dstChk x c p.1 p.2) 0
      let s := if xOut c ∨ stop ∨ cause ≠ 0 then s
        else match localRuns c t with
          | none => s
          | some runs =>
            -- the bytes of the tile before, of, and after this piece, run by run
            (runs.foldl (fun (a : State × Nat) p =>
              let lo := max a.2 skip
              let hi := min (a.2 + p.2) (skip + data.length)
              (if lo < hi then a.1.dstStore x c (p.1 + (lo - a.2)) ((data.drop (lo - skip)).take (hi - lo)) else a.1, a.2 + p.2)) (s, 0)).1
      let s := s.count64 (Reg.MOV_REMOTE_BYTES (uIdx f.unit)) (if xOut c then q.len else data.length)
      if cause ≠ 0 then (s.failXfer id cause q.dest)
      else if s.fab.reqs.any (fun k => k.serves == .tile id n) then s
      else (s.setXfer { f with applied := f.applied ++ [n] }).pumpXfer id

/-- The handle of tile `n` is accepted at its receiver (R563). -/
def State.handleBack (s : State) (id n : Nat) : State :=
  match s.xfer id with
  | none => s
  | some f => (s.setXfer { f with handled := f.handled ++ [n], asked := f.asked.filter (fun k => k != n) }).pumpXfer id

end Sys2Proof.Machine
end

