-- ==== Sys2Proof/Machine/Move.lean ====
section
/-! DEFINITION. The move commands: COPY, FILL, exact partials, transfers, atomics, resumption (R241 to R246, R277 to R281, R291, R557,
R562 to R566). -/
namespace Sys2Proof.Machine

/-- A local move command stores its result: charged, counted, its output handle released. `ahead` is the FOR_LIST of a copy, or zero. -/
def State.movePut (s : State) (cl : Nat) (r : Running) (x : Ctx) (c : Cmd) (dst cycles : Nat) (ahead : DWord) (b : List Byte) : State :=
  let s := s.dstStore x c dst b
  let s := (s.count64 (Reg.MOV_LOCAL_BYTES cl) b.length).work x 4 cycles
  s.finishCmd (uMov cl) (outHandle x c (if ahead = 0 then r.list.id else ahead) (dst % 2 ^ 32) b.length false (ahead != 0))

/-- COPY (R278, R291, R328, R513): skipped when its FOR_LIST has been cancelled. The first KV write of an instance's step serves the step's
page requests. -/
def execCopy (cl : Nat) (s : State) : Res :=
  if 48 ≤ cl then .fault .noSuchPart
  else
    match s.cur (uMov cl) 0xA0 with
    | none => .next s
    | some (r, c, x) =>
      let u := uMov cl
      let ahead : DWord := BitVec.ofNat 64 (cmdField c 40 8)
      let src := primaryRef r c 16
      let n := primaryLen r c 32 4
      let dst := cmdField c 24 8
      if ahead ≠ 0 ∧ x.cut.contains ahead then .next ((s.count (Reg.MOV_CANCEL_SKIP cl) 1).finishCmd u [])
      else if s.readChk x [(src, n)] ≠ 0 then .next (s.failList u (s.readChk x [(src, n)]))
      else if s.dstChk x c dst n ≠ 0 then .next (s.failList u (s.dstChk x c dst n))
      else if s.dstHeld x c dst then .next s
      else
        let f := s.fetch x [(src, n)]
        if f.1 ≠ 0 then .next (f.2.2.failList u f.1)
        else
          let t := match x.slotOf with
            | some (ten, slot) => if r.list.own ∧ dst / 2 ^ 60 = 0 then f.2.2.kvRequests ten slot else f.2.2
            | none => f.2.2
          .next (t.movePut cl r x c dst (ceilDiv n 128) ahead f.2.1)

/-- FILL (R278): an 8-byte pattern repeated from DST on. -/
def execFill (cl : Nat) (s : State) : Res :=
  if 48 ≤ cl then .fault .noSuchPart
  else
    match s.cur (uMov cl) 0xA2 with
    | none => .next s
    | some (r, c, x) =>
      let dst := cmdField c 16 8
      let n := cmdField c 32 4
      let pat := leBytes 8 (cmdField c 48 8)
      if s.dstChk x c dst n ≠ 0 then .next (s.failList (uMov cl) (s.dstChk x c dst n))
      else if s.dstHeld x c dst then .next s
      else .next (s.movePut cl r x c dst (ceilDiv n 128) 0 ((List.range n).map (fun i => pat.getD (i % 8) 0)))

/-! ### Exact partials (R241 to R246) -/

/-- F, ELEMS and PARTS of an EXACT128 header; none when it is malformed (R241, R247). -/
def exactHeader (b : List Byte) : Option (Int × Nat × Nat) :=
  let e := byteField b 4 4
  let p := byteField b 8 4
  if byteField b 0 1 = 0xE1 ∧ byteField b 1 1 = 0 ∧ 1 ≤ e ∧ e ≤ 2 ^ 24 ∧ 1 ≤ p ∧ p ≤ 65536 ∧ byteField b 12 20 = 0 then
    some (signed 16 (byteField b 2 2), e, p)
  else none

/-- An EXACT128 buffer (R241). -/
def exactBytes (f : Int) (parts : Nat) (zs : List Int) : List Byte :=
  leBytes 1 0xE1 ++ leBytes 1 0 ++ leBytes 2 (unsigned 16 f) ++ leBytes 4 zs.length ++ leBytes 4 parts ++ leBytes 20 0 ++
  zs.foldr (fun z l => leBytes 16 (unsigned 128 z) ++ l) []

/-- Elements of an EXACT128 buffer. -/
def exactElems (b : List Byte) (n : Nat) : List Int :=
  match n with
  | 0 => []
  | n + 1 => signed 128 (leNat (b.take 16)) :: exactElems (b.drop 16) n

/-- One converted element: none when x − F lies outside 0 to 48 (R242). -/
def toExactElem (r : Int) (q : Nat) (x f : Int) : Option Int :=
  if 0 ≤ x - f ∧ x - f ≤ 48 then some (r * q * (2 ^ (x - f).toNat : Nat)) else none

/-- TO_EXACT (R242, R280): nothing is written when an element falls outside its range. -/
def execToExact (cl : Nat) (s : State) : Res :=
  if 48 ≤ cl then .fault .noSuchPart
  else
    match s.cur (uMov cl) 0xA3 with
    | none => .next s
    | some (r, c, x) =>
      let u := uMov cl
      let rows := cmdField c 40 2
      let n := cmdField c 42 2
      let fl := cmdField c 47 1
      let dst := cmdField c 32 8
      let total := 32 + 16 * (rows * n)
      let rawLen := 1536 * (rows - 1) + 6 * n
      let qLen := if fl.testBit 0 then 2 * rows else 0
      let eLen := if fl.testBit 1 then rows else 0
      let reads := [(poolRef (primary r c 16), rawLen), (poolRef (cmdField c 20 4), qLen), (poolRef (cmdField c 24 4), eLen),
        (poolRef (cmdField c 28 4), if fl.testBit 2 then 256 else 0)]
      if s.readChk x reads ≠ 0 then .next (s.failList u (s.readChk x reads))
      else if s.dstChk x c dst total ≠ 0 then .next (s.failList u (s.dstChk x c dst total))
      else if s.dstHeld x c dst then .next s
      else
        let f := s.fetch x reads
        if f.1 ≠ 0 then .next (f.2.2.failList u f.1)
        else
          let b := f.2.1
          let ex : Int := signed 8 (cmdField c 46 1)
          let point : Int := signed 16 (cmdField c 44 2)
          let qs := b.drop rawLen
          let es := qs.drop qLen
          let xs := es.drop eLen
          let cells := (List.range rows).foldr (fun o l => (List.range n).map (fun j => (o, j)) ++ l) []
          let zs := cells.map (fun p =>
            let ew : Int := if fl.testBit 1 then (byteField es p.1 1 : Int) - 127 else 0
            let ec : Int := if fl.testBit 2 then (byteField xs p.2 1 : Int) - 127 else 0
            toExactElem (signed 48 (byteField b (1536 * p.1 + 6 * p.2) 6)) (if fl.testBit 0 then byteField qs (2 * p.1) 2 else 0x8000) (ew + ec + ex - 15) point)
          if zs.any (fun z => z.isNone) then .next (f.2.2.failList u 0x50)
          else .next (f.2.2.movePut cl r x c dst (ceilDiv (rows * n) 8) 0 (exactBytes point 1 (zs.filterMap id)))

/-- EXACT_SUM (R243, R281): SRC is added into DST; a refused sum writes nothing. -/
def execExactSum (cl : Nat) (s : State) : Res :=
  if 48 ≤ cl then .fault .noSuchPart
  else
    match s.cur (uMov cl) 0xA4 with
    | none => .next s
    | some (r, c, x) =>
      let u := uMov cl
      let dst := cmdField c 16 8
      let src := primaryRef r c 24
      let y := if dst / 2 ^ 60 = 1 then (s.outCtx x c).getD x else x
      let h1 := s.fetch y [(dst, 32)]
      let h2 := h1.2.2.fetch x [(src, 32)]
      if h1.1 ≠ 0 then .next (h1.2.2.failList u h1.1)
      else if h2.1 ≠ 0 then .next (h2.2.2.failList u h2.1)
      else
        let s := h2.2.2
        match exactHeader h1.2.1, exactHeader h2.2.1 with
        | some (f1, e1, p1), some (f2, e2, p2) =>
          if f1 ≠ f2 ∨ e1 ≠ e2 then .next (s.failList u 0x51)
          else if 65536 < p1 + p2 then .next (s.failList u 0x50)
          else if s.dstChk x c dst (32 + 16 * e1) ≠ 0 then .next (s.failList u (s.dstChk x c dst (32 + 16 * e1)))
          else if s.dstHeld x c dst then .next s
          else
            let b1 := s.fetch y [(dst + 32, 16 * e1)]
            let b2 := b1.2.2.fetch x [(src + 32, 16 * e1)]
            if b1.1 ≠ 0 then .next (b1.2.2.failList u b1.1)
            else if b2.1 ≠ 0 then .next (b2.2.2.failList u b2.1)
            else
              let zs := ((exactElems b1.2.1 e1).zip (exactElems b2.2.1 e1)).map (fun p => p.1 + p.2)
              .next (b2.2.2.movePut cl r x c dst (ceilDiv e1 8) 0 (exactBytes f1 (p1 + p2) zs))
        | _, _ => .next (s.failList u 0x51)

/-- Rows of `n` values each; the last may be shorter. -/
def chunks {α : Type} (n fuel : Nat) (l : List α) : List (List α) :=
  match fuel with
  | 0 => []
  | fuel + 1 => if l.isEmpty then [] else l.take n :: chunks n fuel (l.drop n)

/-- FROM_EXACT (R245, R281): each z × 2^F rounded once. KBF8 side words go to bytes 52 to 55 in the destination's context (log entry 17). -/
def execFromExact (cl : Nat) (s : State) : Res :=
  if 48 ≤ cl then .fault .noSuchPart
  else
    match s.cur (uMov cl) 0xA5 with
    | none => .next s
    | some (r, c, x) =>
      let u := uMov cl
      let src := primaryRef r c 16
      let dst := cmdField c 24 8
      let ofmt := cmdField c 32 1
      let h := s.fetch x [(src, 32)]
      if h.1 ≠ 0 then .next (h.2.2.failList u h.1)
      else
        let s := h.2.2
        match exactHeader h.2.1 with
        | none => .next (s.failList u 0x51)
        | some (pt, e, _) =>
          let size := match ofmt with | 0 | 1 => 1 | 4 => 4 | _ => 2
          let rl := cmdField c 48 2
          let sideC := if dst / 2 ^ 60 = 1 then c else putBits c 48 16 0xFFFF
          let sideLen := if ofmt = 1 then 8 * ceilDiv e rl else 0
          if s.readChk x [(src + 32, 16 * e)] ≠ 0 then .next (s.failList u (s.readChk x [(src + 32, 16 * e)]))
          else if s.dstChk x c dst (size * e) ≠ 0 then .next (s.failList u (s.dstChk x c dst (size * e)))
          else if ofmt = 1 ∧ s.outChk x sideC (cmdField c 52 4) sideLen ≠ 0 then .next (s.failList u 0x63)
          else if s.dstHeld x c dst then .next s
          else
            let f := s.fetch x [(src + 32, 16 * e)]
            if f.1 ≠ 0 then .next (f.2.2.failList u f.1)
            else
              let rnd (i : Nat) : Rnd := if bit c (8 * 33) then .stoch (mixU (BitVec.ofNat 64 (cmdField c 40 8)) (cmdField c 36 4 * 2 ^ 32 + i)) else .conv
              let vs := ((List.range e).zip (exactElems f.2.1 e)).map (fun p => (rnd p.1, (Val.dyad p.2 pt)))
              let t := f.2.2
              match ofmt with
              | 0 => .next (t.movePut cl r x c dst (ceilDiv e 8) 0 (vs.map (fun p => toInt8 p.1 (bit c (8 * 33 + 1)) p.2)))
              | 1 =>
                let rows := (chunks rl e vs).map kbfRow
                let t := t.outStore x sideC (cmdField c 52 4) (rows.foldr (fun k l => leBytes 8 k.1 ++ l) [])
                .next (t.movePut cl r x c dst (ceilDiv e 8) 0 (rows.foldr (fun k l => k.2 ++ l) []))
              | 2 => .next (t.movePut cl r x c dst (ceilDiv e 8) 0 (vs.foldr (fun p l => leBytes 2 (fmt16.round p.1 p.2) ++ l) []))
              | 3 => .next (t.movePut cl r x c dst (ceilDiv e 8) 0 (vs.foldr (fun p l => leBytes 2 (fmtB16.round p.1 p.2) ++ l) []))
              | _ => .next (t.movePut cl r x c dst (ceilDiv e 8) 0 (vs.foldr (fun p l => leBytes 4 (fmt32.round p.1 p.2) ++ l) []))

/-! ### Fabric commands (R557, R562 to R566) -/

/-- The command with its primary input bound: SRC is the handle's BASE in SPACE 1 (R259, R265). -/
def bindSrc (r : Running) (c : Cmd) : Cmd :=
  match bound r c with
  | some h => putBits c 128 64 (poolRef h.base)
  | none => c

/-- A transfer is set up on its unit, from a tile on. -/
def State.openXfer (s : State) (u : Nat) (r : Running) (x : Ctx) (c : Cmd) (list : DWord) (cmdIdx index : Nat) : State :=
  let id := s.fab.nextX
  let f : Xfer := { id := id, unit := u, cmd := c, ctx := x.id, list := list, cmdIdx := cmdIdx, next := index, index := index }
  let s := { s with fab := { s.fab with xfers := s.fab.xfers ++ [f], nextX := id + 1 } }
  (s.setRun u (some { r with stage := .busy })).pumpXfer id

/-- The transfer that a unit carries. -/
def State.xferOn (s : State) (u : Nat) : Option Xfer := s.fab.xfers.find? (fun f => f.unit == u && !f.dead)

/-- XFER_ND (R279, R294, R562, R563): it starts, or goes on where entries, the share or a queue held it. -/
def execXferNd (cl : Nat) (s : State) : Res :=
  if 48 ≤ cl then .fault .noSuchPart
  else
    let u := uMov cl
    match s.curBusy u 0xA1, s.xferOn u with
    | some _, some f => .next (s.pumpXfer f.id)
    | _, _ =>
      match s.cur u 0xA1 with
      | none => .next s
      | some (r, c0, x) =>
        let c := bindSrc r c0
        if refLocal (xSrc c) = refLocal (xDst c) then .next (s.failList u 0x60)
        else if s.xferChk x c ≠ 0 then .next (s.failList u (s.xferChk x c))
        else if !xOut c && s.dstHeld x c (xDst c) then .next s
        else .next (s.openXfer u r x c r.list.id r.idx 0)

/-- RESUME (R566): the recorded transfer goes on from its resume index, or is refused. -/
def execResume (cl : Nat) (s : State) : Res :=
  if 48 ≤ cl then .fault .noSuchPart
  else
    let u := uMov cl
    match s.curBusy u 0xA7, s.xferOn u with
    | some _, some f => .next (s.pumpXfer f.id)
    | _, _ =>
      match s.cur u 0xA7 with
      | none => .next s
      | some (r, c, x) =>
        match s.fab.recs.find? (fun k => k.ctx == x.id && k.list.toNat == cmdField c 16 8 && k.cmdIdx == cmdField c 24 2) with
        | none => .next (s.failList u 0xB4)
        | some k =>
          if k.index ≠ cmdField c 32 8 then .next (s.failList u 0xB4)
          else if s.xferChk x k.cmd ≠ 0 then .next (s.failList u (s.xferChk x k.cmd))
          else if !xOut k.cmd && s.dstHeld x k.cmd (xDst k.cmd) then .next s
          else .next (s.openXfer u r x k.cmd k.list k.cmdIdx k.index)

/-- ATOMIC (R557, R558): issued with a new ID and FIRST; the list holds for its response. -/
def execAtomic (cl : Nat) (s : State) : Res :=
  if 48 ≤ cl then .fault .noSuchPart
  else
    let u := uMov cl
    match s.cur u 0xA6 with
    | none => .next s
    | some (r, c, x) =>
      let fetch := bit c (192 + 5)
      let m := s.remote c (xSrc c) 0
      if s.fabChk x ≠ 0 then .next (s.failList u (s.fabChk x))
      else if 2 ^ 40 ≤ m.2.1 then .next (s.failList u 0xA0)
      else if fetch ∧ s.outChk x c (cmdField c 48 4) 8 ≠ 0 then .next (s.failList u 0x63)
      else if !s.trackRoom (x.cluster / 4) 1 then .next s
      else if !s.rmRoom (x.cluster / 4) 512 then .next (s.rmWait (x.cluster / 4))
      else
        let id := s.fab.nextX
        let f : Xfer := { id := id, unit := u, cmd := c, ctx := x.id, list := r.list.id, cmdIdx := r.idx, next := 0, index := 0 }
        let t := { s with fab := { s.fab with xfers := s.fab.xfers ++ [f], nextX := id + 1 } }
        let t := (t.charge (x.cluster / 4) 2 512).acct x.account 11 256
        let t := t.issueAtomic (x.cluster / 4) m.1 m.2.1.toNat m.2.2 ((s.jobOf x).getD 0) (cmdField c 24 1) (BitVec.ofNat 64 (cmdField c 32 8))
          (BitVec.ofNat 64 (cmdField c 40 8)) (.atomic id) (reqKey 0 x.id r.idx r.list.id)
        .next (t.setRun u (some { r with stage := .busy }))

/-- An atomic has ended well: the old value of a fetching one goes to RES, and the list goes on (R557, R561). -/
def State.atomicBack (s : State) (id : Nat) (old : Option DWord) : State :=
  match s.xfer id with
  | none => s
  | some f =>
    let s := s.dropXfer id
    match s.ctx? f.ctx with
    | none => s
    | some x =>
      if f.dead then s
      else
        let c := f.cmd
        let s := match old with
          | none => s
          | some v => s.outStore x c (cmdField c 48 4) (leBytes 8 v.toNat)
        s.finishCmd f.unit (if old.isSome then outHandle x c f.list (cmdField c 48 4) 8 false false else [])

end Sys2Proof.Machine
end

