-- ==== Sys2Proof/Machine/TimeOps.lean ====
section
/-! DEFINITION. Operations of the time unit: sources, transitions, steering, steps, the tick of the hub clock (R57 to R78, R784). -/
namespace Sys2Proof.Machine

/-- 1/64 Tc in one second. -/
abbrev second64 : Int := 64 * 1966080000

/-- `TIM_FRAME_OFS` in Tc (R61). -/
def State.frameOfs (s : State) : Int := signed 32 (s.regBits Reg.TIM_FRAME_OFS 0 32)

/-- Source number in rank slot `i` of `TIM_SRC_PRIO` (R99). -/
def State.rankSlot (s : State) (i : Nat) : Nat := s.regBits Reg.TIM_SRC_PRIO (4 * i) 4

/-- Enabled sources, highest rank first: 1 PPS, 2 PTP, 3 BCN (R62, R99). -/
def State.ranked (s : State) : List Nat := ([0, 1, 2, 3].map s.rankSlot).filter (fun x => x == 1 || x == 2 || x == 3)

def State.srcEnabled (s : State) (i : Nat) : Bool := s.ranked.contains i

def State.srcSt (s : State) (i : Nat) : SrcState :=
  match i with
  | 1 => s.time.pps
  | 2 => s.time.ptp
  | _ => s.time.bcn

def State.setSrc (s : State) (i : Nat) (x : SrcState) : State :=
  match i with
  | 1 => { s with time := { s.time with pps := x } }
  | 2 => { s with time := { s.time with ptp := x } }
  | _ => { s with time := { s.time with bcn := x } }

/-- The highest-ranked qualified source (R62). -/
def State.bestSrc (s : State) : Option Nat := s.ranked.find? (fun i => (s.srcSt i).qual)

/-- Code of a time unit state (R100). -/
def TuState.code : TuState → Nat
  | .freerun => 0
  | .locked => 1
  | .holdover => 2
  | .lost => 3

/-- Is any cell ON (R77)? -/
def State.anyCellOn (s : State) : Bool := s.radio.cells.any (fun p => p.2.en.st == .on)

/-- A transition of R73 takes effect: state and source, the flags, the recorder's TIME record, and what R75 and R677 make of LOST. -/
def State.timTo (s : State) (st : TuState) (src : Nat) (step : Bool) : State :=
  let srcChg := s.time.src ≠ src
  let s := { s with time := { s.time with st := st, src := src, everLocked := s.time.everLocked || (st == TuState.locked) } }
  let s := s.logIn 64 0x30 0 (BitVec.ofNat 64 (st.code + src * 2 ^ 4 + (if step then 2 ^ 8 else 0)))
    (if step then leBytes 8 (tcStamp s.now).toNat else [])
  (s.timEvt (1 + (if srcChg then 2 else 0) + (if step then 0x80 else 0))).redev

/-- The counter set to an instant in 1/64 Tc. -/
def State.setCounter (s : State) (t64 : Int) : State :=
  { s with time := { s.time with tc := t64.toNat / 64, frac := t64.toNat % 64 * 2 ^ 26, slew := 0, drift := 0 } }

/-- Nanoseconds to 1/64 Tc, toward zero of the exact value. -/
def ns64 (n : Nat) : Nat := n * 12582912 / 100000

/-- Is an offset within `TIM_STEP_LIMIT` ns (R73)? -/
def State.withinStep (s : State) (ofs : Int) : Bool :=
  decide (ofs.natAbs * 100000 ≤ s.regBits Reg.TIM_STEP_LIMIT 0 32 * 12582912)

/-- The counter is steered to the selected source: `TIM_OFFSET`, the phase to slew, and a rate correction of the servo, a free value
(R72, R76, R97). -/
def State.steer (s : State) (i : Nat) (ofs : Int) : State :=
  if s.time.st = .locked ∧ s.time.src = i then
    { s with time := { s.time with offset := ofs, slew := -(ofs * 2 ^ 26), freq := Config.rateCorr s.drawn }, drawn := s.drawn + 1 }
  else s

/-- Source `i` has met its condition with the offset last measured (R62, R73). During a replay the unit runs on TIME records (R650). -/
def State.qualify (s : State) (i : Nat) : State :=
  let x := s.srcSt i
  if s.replayed ∨ x.qual ∨ x.disq then s
  else
    match s.time.st with
    | .freerun =>
      let s := s.setSrc i { x with qual := true, since := s.now, ofs := 0 }
      let s := s.setCounter (s.now64 - x.ofs)
      let s := s.setSrc i { s.srcSt i with since := s.now }
      { s with time := { s.time with offset := 0 } }.timTo .locked i false
    | .locked => s.setSrc i { x with qual := true, since := s.now }
    | .holdover | .lost =>
      if s.withinStep x.ofs then
        let s := s.setSrc i { x with qual := true, since := s.now }
        (s.timTo .locked i false).steer i x.ofs
      else s.setSrc i { x with disq := true }

/-- Source `i` is disqualified (R62, R63, R73, R784). -/
def State.disqualify (s : State) (i : Nat) : State :=
  let x := s.srcSt i
  let s := s.setSrc i { x with qual := false, run := 0 }
  if s.replayed ∨ !x.qual ∨ !(s.time.st = .locked) ∨ s.time.src ≠ i then s
  else
    match s.bestSrc with
    | some j => (s.timTo .locked j false).steer j (s.srcSt j).ofs
    | none =>
      let s := { s with time := { s.time with slew := 0, holdOfs := s.time.offset.natAbs, holdAt := s.now } }
      s.timTo .holdover s.time.src false

/-- The holdover estimate, ns rounded up (R74). -/
def State.holdTe (s : State) : Nat :=
  if s.time.st = .holdover ∨ s.time.st = .lost then
    let ppb := if s.time.synce then s.regBits Reg.TIM_HOLD 16 16 else s.regBits Reg.TIM_HOLD 0 16
    ceilDiv (s.time.holdOfs * 100000 * 1966080000 + (s.now - s.time.holdAt) * ppb * 12582912) (12582912 * 1966080000)
  else 0

/-- Source whose time a step would take: the highest-ranked one disqualified by offset (R77). -/
def State.stepSrc (s : State) : Option Nat :=
  if (s.time.st == .holdover || s.time.st == .lost) && !s.anyCellOn then s.ranked.find? (fun i => (s.srcSt i).disq) else none

/-- After a step every armed comparator is compared again: a forward step makes the stamps it reached late, a backward step lets the others
wait (R78). Visibility stamps are compared at their own instants. -/
def State.reevaluate (s : State) : State :=
  let fresh := (s.sched.cmps.filter (fun c => !c.waiting && decide (stampTc c.stamp ≤ s.now))).length
  let s := { s with sched := { s.sched with cmps := s.sched.cmps.map (fun (c : Cmp) => { c with waiting := decide (stampTc c.stamp ≤ s.now) }) } }
  s.count Reg.TIM_LATE_CNT fresh

/-- Rate of the counter, in 2^-32 Tc per hub cycle times `tickDen` (R72, R76): 768/625 Tc per cycle at the nominal rate. -/
abbrev tickDen : Nat := 625 * 10 ^ 9

/-- One hub cycle: the counter advances at the synthesiser's corrected rate, and by the slew that R76 allows; the local copies advance at the
nominal rate until they are corrected (R79). Without supplies, and after a thermal trip, the clocks stand (R756, R771). -/
def State.tick (s : State) : State :=
  let t := s.time
  if !s.start.pwrOk || s.power.thermTrip then s else
  let base : Nat := 768 * 2 ^ 32
  let num : Nat := base * (10 ^ 9 + t.freq).toNat + t.resid
  let cap : Int := (base * s.regBits Reg.TIM_SLEW 0 32 / tickDen : Nat)
  let sl : Int := clampInt (-cap) cap t.slew
  let adv : Int := (num / tickDen : Nat) + sl
  let total : Int := (t.tc * 2 ^ 32 + t.frac : Nat) + adv
  let nominal : Int := (base / 625 : Nat)
  { s with time := { t with tc := total.toNat / 2 ^ 32, frac := total.toNat % 2 ^ 32, resid := num % tickDen, hub := t.hub + 1,
                            slew := t.slew - sl, drift := t.drift + (nominal - adv) },
           rpl := { s.rpl with buffered := s.rpl.buffered - Config.logDrain t.hub } }

end Sys2Proof.Machine
end

