-- ==== Sys2Proof/Machine/Fabric.lean ====
section
/-! DEFINITION. The commands of the Phiuz fabric: links and paths, inbound requests, responses, retries, beacons, the RATC (R523 to R583). -/
namespace Sys2Proof.Machine

/-! ### The link layer (R526 to R529) -/

/-- An atomic that waits for a usable plane is sent once there is one (R560). -/
def State.wakeAtomics (s : State) : State :=
  (s.fab.reqs.filter (fun r => r.st == .waitPlane)).foldl (fun s r =>
    match s.nextPlane (r.txn.dest % 4096) r.plane with
    | none => s
    | some p =>
      (s.setReq { r with plane := p, st := if s.pathRetry p (r.txn.dest % 4096) then .held else .sent, ran := 0, since := s.now, nacks := 0 }).sendOn
        (s.reqQueue r.region p) p r.txn) s

/-- Is a link carrying flits? -/
def FabPort.live (x : FabPort) : Bool := x.link == .up || x.link == .replay

/-- Flits up to a sequence number are acknowledged; a replay whose flits are all acknowledged ends (R526, R528). -/
def State.acked (s : State) (p seq : Nat) : State :=
  let x := s.port p
  match indexOf x.held (fun f => f.seq == seq) with
  | none => s
  | some i =>
    let left := x.replayLeft - (i + 1)
    let done := x.link == .replay && left == 0
    let s := s.setPort p { x with held := x.held.drop (i + 1), ackAt := s.time.hub, replayLeft := left, link := if done then .up else x.link }
    if done then s.resumePaths else s

/-- A link enters REPLAY and resends every flit from a sequence number onwards (R527, R528). -/
def State.replayFrom (s : State) (p seq : Nat) : State :=
  let s := s.acked p ((seq + 4095) % 4096)
  let x := s.port p
  match indexOf x.held (fun f => f.seq == seq) with
  | none => s
  | some i =>
    let s := if x.link = .up then s.count (Reg.FAB_PORT_REPLAY p) 1 else s
    ((s.setPort p { x with link := .replay, replayLeft := x.held.length }).emit (.replay p ((x.held.drop i).map (·.seq)))).holdPaths

/-- A flit with a good CRC (R526, R528): its acknowledgement, then its sequence number. Idle flits hold none (log entry 20). -/
def State.goodFlit (s : State) (p : Nat) (b : List Byte) : State :=
  let ack := byteField b 2 2
  let seq := byteField b 0 2 % 4096
  let kind := byteField b 0 2 / 4096
  let s := if ack.testBit 12 then s.replayFrom p ((ack + 1) % 4096) else s.acked p (ack % 4096)
  let x := s.port p
  if kind = 0 then s
  else if seq = x.rxSeq then (s.setPort p { x with rxSeq := (seq + 1) % 4096, naked := false }).emit (.linkAck p seq false)
  else if x.naked then s
  else (s.setPort p { x with naked := true }).emit (.linkAck p x.rxSeq true)

/-- FLIT_RECEIVE (R526, R528): the link layer of one flit. The transaction that its flits carry is a command of its own. -/
def execFlitReceive (p : Nat) (b : List Byte) (s : State) : Res :=
  if 3 ≤ p then .fault .noSuchPart
  else
    let x := s.port p
    if !x.live || b.length != 256 then .next s
    else
      let s := s.count64 (Reg.FAB_PORT_FLITS_RX p) 1
      if (crc32 (b.take 252)).toNat = byteField b 252 4 then .next (s.goodFlit p b)
      else
        let s := s.count (Reg.FAB_PORT_CRC p) 1
        .next (if x.naked then s else (s.setPort p { s.port p with naked := true }).emit (.linkAck p x.rxSeq true))

/-- NAK_RECEIVE (R527, R528). -/
def execNakReceive (p seq : Nat) (s : State) : Res :=
  if 3 ≤ p then .fault .noSuchPart else if !(s.port p).live then .next s else .next (s.replayFrom p (seq % 4096))

/-- Hub cycles in 256 flit times, and in 1.5 µs (R523, R527, R9). -/
abbrev ackCycles : Nat := 525
abbrev lostCycles : Nat := 2400

/-- ACK_TIMEOUT (R527): no acknowledgement for 256 flit times. -/
def execAckTimeout (p : Nat) (s : State) : Res :=
  if 3 ≤ p then .fault .noSuchPart
  else
    let x := s.port p
    match x.held with
    | [] => .next s
    | f :: _ => if x.link != .up || decide (s.time.hub < x.ackAt + ackCycles) then .next s else .next (s.replayFrom p f.seq)

/-- LINK_LOST (R527, R528): a flit unacknowledged 1.5 µs after its first transmission; the link enters TRAIN. -/
def execLinkLost (p : Nat) (s : State) : Res :=
  if 3 ≤ p then .fault .noSuchPart
  else
    let x := s.port p
    if !x.live || !x.held.any (fun f => decide (f.at0 + lostCycles ≤ s.time.hub)) then .next s
    else .next (((s.count (Reg.FAB_PORT_LOST p) 1).fabEvt 1).losePlane p .train)

/-- LINK_TRAINED (R527, R607, R609, R725): a port that is enabled becomes UP, not before the image is applied. -/
def execLinkTrained (p : Nat) (s : State) : Res :=
  if 3 ≤ p then .fault .noSuchPart
  else
    let x := s.port p
    let en := s.host.ports.get {} (16 + p)
    if x.link != .train || !s.start.served || en.st == .off || en.st == .stopping then .next s
    else
      let e : Enable := if en.st = .starting ∧ en.pend then {} else { st := .on }
      let s := { s with host := { s.host with ports := s.host.ports.set (16 + p) e } }
      if e.st = .off then .next s
      else .next (s.setPort p { x with link := .up, txSeq := 0, rxSeq := 0, naked := false, held := [], replayLeft := 0, ackAt := s.time.hub }).wakeAtomics

/-- LOSS_OF_SIGNAL (R527). -/
def execLossOfSignal (p : Nat) (s : State) : Res :=
  if 3 ≤ p then .fault .noSuchPart
  else if (s.port p).link = .down then .next s
  else .next ((s.fabEvt 2).losePlane p .down)

/-- Notices in force for a destination on a plane, but one kind. -/
def State.dropNote (s : State) (p node : Nat) (lost retry : Bool) : State :=
  { s with fab := { s.fab with paths := s.fab.paths.filter (fun n => !(n.plane == p && n.node == node && ((n.lost && lost) || (!n.lost && retry)))) } }

/-- PATH_RETRY (R529, R551). -/
def execPathRetry (p node : Nat) (s : State) : Res :=
  if 3 ≤ p then .fault .noSuchPart
  else
    let s := s.dropNote p node false true
    let t : State := { s with fab := { s.fab with paths := s.fab.paths ++ [({ plane := p, node := node, lost := false, at0 := s.now } : PathNote)] } }
    .next t.holdPaths

/-- PATH_OK (R529). -/
def execPathOk (p node : Nat) (s : State) : Res :=
  if 3 ≤ p then .fault .noSuchPart else .next ((s.dropNote p node true true).resumePaths).wakeAtomics

/-- PATH_LOST (R525, R529, R553). -/
def execPathLost (p node : Nat) (s : State) : Res :=
  if 3 ≤ p then .fault .noSuchPart
  else
    let s := s.dropNote p node true true
    let t : State := { s with fab := { s.fab with paths := s.fab.paths ++ [({ plane := p, node := node, lost := true, at0 := s.now } : PathNote)] } }
    .next (t.loseReqs (fun (r : Req) => r.plane == p && r.txn.dest % 4096 == node && (r.st == .sent || r.st == .held)))

/-- PATH_RETRY_LAPSE (R529, R551): 2 µs after the last repetition. -/
def execPathRetryLapse (p node : Nat) (s : State) : Res :=
  if 3 ≤ p then .fault .noSuchPart
  else if s.fab.paths.any (fun n => n.plane == p && n.node == node && !n.lost && decide (n.at0 + usTc 2 ≤ s.now)) then
    .next (s.dropNote p node false true).resumePaths
  else .next s

/-! ### Inbound requests (R530 to R550, R556 to R559) -/

/-- An inbound transaction with code `op` on plane `p`, when its port carries flits; during a replay what comes from a port is discarded
(R651). -/
def State.inRow (s : State) (p : Nat) (t : Txn) (op : Nat) (f : State) : Res :=
  if 4 ≤ p then .fault .noSuchPart
  else if t.op ≠ op ∨ (p < 3 ∧ !(s.port p).live) then .next s
  else if p < 3 ∧ s.replayed then .next s.skipIn
  else .next f

/-- FAB_LOAD (R544). -/
def execFabLoad (p : Nat) (t : Txn) (s : State) : Res := s.inRow p t 1 (s.inbound p t)

/-- Does a STORE reach the health mailbox (R679)? -/
def State.isMail (s : State) (t : Txn) : Bool :=
  t.op == 2 && t.len == 64 && t.job == 0xFFFFF && t.dest == s.self && t.reqOk && t.offset == Config.mailboxOfs (s.self % 4096) % 2 ^ 40 &&
  decide (s.fab.inq.length < 8192) && (match (s.inChk t).2 with | some e => e.owner == 0x401 | none => false)

/-- A STORE that arrives; one to the health mailbox is read by the health monitor (R544, R679). -/
def State.inStore (s : State) (p : Nat) (t : Txn) : State := if s.isMail t then (s.inbound p t).mailIn (t.src % 4096) t.data else s.inbound p t

/-- FAB_STORE (R544, R548, R679). -/
def execFabStore (p : Nat) (t : Txn) (s : State) : Res := s.inRow p t 2 (s.inStore p t)

/-- Messages of an endpoint's inbound ring between HEAD and TAIL are accepted in order; pads are skipped (R571, R572). -/
def State.ringTake (s : State) (e base size fuel : Nat) : State :=
  match fuel with
  | 0 => s
  | fuel + 1 =>
    let rd (o n : Nat) : Nat := leNat (s.rdSpans (s.placedSpans (base + o) n))
    let tail := rd 0 8
    let head := rd 8 8
    if tail ≤ head then s
    else
      let pos := 64 + head % (size - 64)
      let len := rd (pos + 4) 4
      let bad := decide (len < 24 ∨ tail < head + len ∨ size < pos + len)
      let b := s.rdSpans (s.placedSpans (base + pos) len)
      let s := s.wrSpans (s.placedSpans (base + 8) 8) (leBytes 8 (if bad then tail else head + len))
      if bad then s
      else (if byteField b 0 1 = 0 then s else s.ssiAccept (16 + e) b).ringTake e base size fuel

/-- Every enabled endpoint's ring is served (R571, R572, R583). -/
def State.ringsIn (s : State) : State :=
  (List.range 16).foldl (fun s e =>
    let w := s.regs.get 0 (Reg.FAB_SSI_IN e)
    if bit w 0 then s.ringTake e (bits w 5 23 * 65536) (2 ^ (16 + bits w 1 4)) (2 ^ 24) else s) s

/-- FAB_ATOMIC (R544, R557 to R559, R572): an ADD that moves a ring's TAIL makes its messages count as accepted. -/
def execFabAtomic (p : Nat) (t : Txn) (s : State) : Res := s.inRow p t 3 (s.inbound p t).ringsIn

/-- FAB_TILE_WR (R544). -/
def execFabTileWr (p : Nat) (t : Txn) (s : State) : Res := s.inRow p t 4 (s.inbound p t)

/-- FAB_TILE_RD (R544). -/
def execFabTileRd (p : Nat) (t : Txn) (s : State) : Res := s.inRow p t 5 (s.inbound p t)

/-- FAB_HANDLE (R544, R545, R563). -/
def execFabHandle (p : Nat) (t : Txn) (s : State) : Res := s.inRow p t 6 (s.inbound p t)

/-- Is a node a member of an owner's group, and what becomes of it. -/
def Group.setMember (x : Group) (node : Nat) (f : GMember → GMember) : Group :=
  { x with members := x.members.map (fun m => if m.node = node then f m else m) }

/-- The owner's host is told of an orphaned member (R91). -/
def State.orphanNotice (s : State) (g : Nat) : State :=
  match s.ctx? (s.group g).ctx with
  | none => s.raise pf0 7
  | some x => s.raise (if x.radio then pf0 else x.owner) 7

/-- What a GROUP message does to the receiver's group: the status of the answer, and the state (R90, R91, R94, log entry 9). -/
def State.groupIn (s : State) (t : Txn) : Nat × State :=
  let kind := byteField t.data 0 1
  let g := byteField t.data 1 1
  let x := s.group g
  let node := t.src % 4096
  let member := x.owner && x.members.any (fun m => m.node == node)
  let mine := !x.owner && x.ownerNode % 4096 == node && (x.st == .arming || x.st == .ready)
  if kind = gmJoin then
    (if member && (x.st == .arming || x.st == .ready) then (0, s.setGroup g (x.setMember node (fun m => { m with joined := true, idx := byteField t.data 2 1 })))
     else (0x2A, s))
  else if kind = gmReady then (0, if member then (s.setGroup g (x.setMember node (fun m => { m with ready := true }))).tryCommit g else s)
  else if kind = gmCommit then (0, if mine then s.setGroup g { x with st := .committed } else s)
  else if kind = gmAbort then
    (0, if mine then ((s.setGroup g { x with st := .aborted }).groupFail g 0x27).sendGroup x.ownerNode gmAborted x.ownerIdx g 0 x.stamp 0 else s)
  else if kind = gmOrphan then (0, if member then (s.setGroup g (x.setMember node (fun m => { m with gone := true }))).orphanNotice g else s)
  else (0, if member then s.setGroup g (x.setMember node (fun m => { m with gone := true })) else s)

/-- A GROUP message arrives (R530, R544 checks 1 and 2). -/
def State.inGroup (s : State) (p : Nat) (t : Txn) : State :=
  if t.dest ≠ s.self ∨ !t.reqOk then ((s.count Reg.FAB_ROUTE_CNT 1).fabEvt 0x40).respond p t 0x85 0xB8 []
  else if 8192 ≤ s.fab.inq.length then s.nack p t 0x10
  else
    let seq := s.rpl.nextSeq
    let s := if p < 3 then s.logIn 4 0x20 p 0 (t.header ++ t.data) else s
    let r := s.groupIn t
    { r.2 with rpl := { r.2.rpl with inSeq := seq } }.respond p t (if r.1 = 0 then 0x82 else 0x85) r.1 []

/-- FAB_GROUP (R89 to R94). -/
def execFabGroup (p : Nat) (t : Txn) (s : State) : Res := s.inRow p t 7 (s.inGroup p t)

/-! ### Beacons (R568 to R570) -/

/-- A stamp of nine bytes, whole Tc and fraction, in 1/64 Tc (R569). -/
def stamp64 (b : List Byte) (i : Nat) : Int := (stampTc (BitVec.ofNat 64 (byteField b i 8)) * 64 + byteField b (i + 8) 1 % 64 : Nat)

/-- Node of the selected beacon source (R69, R107). -/
def State.beaconNode (s : State) : Nat := s.regBits Reg.TIM_BCN_CFG (if s.time.bcn1 then 12 else 0) 12

/-- FAB_BEACON (R69, R570): a beacon of the selected source is noted on its plane; SRC0 is watched while SRC1 serves. -/
def execFabBeacon (p : Nat) (t : Txn) (s : State) : Res :=
  if 3 ≤ p then .fault .noSuchPart
  else if t.op ≠ 8 ∨ t.data.length ≠ 16 ∨ t.dest ≠ s.self ∨ s.replayed ∨ !s.srcEnabled 3 ∨ !(s.port p).live then .next s
  else
    let node := t.src % 4096
    let t0 := stamp64 t.data 0
    let per := usTc (s.regBits Reg.TIM_BCN_CFG 24 16)
    let u := s.time
    let zero := node = s.regBits Reg.TIM_BCN_CFG 0 12
    let u := if zero then { u with bcnLast0 := s.now,
                                   bcn0Since := if !u.bcn1 then none else if u.bcnLast0 + 4 * per < s.now then some s.now else some (u.bcn0Since.getD s.now) } else u
    if node ≠ s.beaconNode then .next { s with time := u }
    else
      let fresh := u.bcnRx.all (fun q => decide ((q.2.1 - t0).natAbs < 32 * per))
      .next { s with time := { u with bcnLast := s.now, bcnRx := (if fresh then u.bcnRx else []).set p (t0, s.now64) } }

/-- Does the device act as beacon source (R71, R107)? -/
def State.beaconSource (s : State) : Bool :=
  s.regBits Reg.TIM_BCN_CFG 40 1 == 1 && (s.time.src == 1 || s.time.src == 2) && !s.replayed

/-- FAB_ECHO_REQ (R568, R569): the source notes the follower and answers; t3 is written as the flit leaves. -/
def execFabEchoReq (p : Nat) (t : Txn) (s : State) : Res :=
  if 3 ≤ p then .fault .noSuchPart
  else if t.op ≠ 9 ∨ t.data.length ≠ 16 ∨ t.dest ≠ s.self ∨ !s.beaconSource ∨ !(s.port p).live then .next s
  else
    let l := if (s.fab.followers.find (t.src % 4096)).isSome ∨ s.fab.followers.length < 4095 then s.fab.followers.set (t.src % 4096) s.now else s.fab.followers
    let r : Txn := { op := 0x89, len := 32, dest := t.src, src := s.self, job := 0xFFFFF,
                     data := t.data.take 9 ++ List.replicate 7 0 ++ leBytes 8 (tcStamp s.now).toNat ++ leBytes 1 (s.now64 % 64) ++ List.replicate 7 0 }
    .next ({ s with fab := { s.fab with followers := l } }.sendOn (s.bcnQueue p) p r)

/-- An offset of the beacon source is known: the count of R62, and steering. Before a lock the threshold applies to the change of the offset
(log entry 21). -/
def State.beaconOfs (s : State) (e : Int) : State :=
  let x := s.time.bcn
  let d := if s.time.st = .locked then e else e - x.ofs
  let good := decide (d.natAbs ≤ ns64 32)
  let s := s.setSrc 3 { x with run := if good then x.run + 1 else 0, ofs := e }
  if x.qual then s.steer 3 e else if good ∧ 8 ≤ x.run + 1 then s.qualify 3 else s

/-- FAB_ECHO_RESP (R570): path delay and offset on the lowest plane that received the period's beacon. -/
def execFabEchoResp (p : Nat) (t : Txn) (s : State) : Res :=
  if 3 ≤ p then .fault .noSuchPart
  else if t.op ≠ 0x89 ∨ t.data.length ≠ 32 ∨ t.dest ≠ s.self ∨ t.src % 4096 ≠ s.beaconNode ∨ s.replayed then .next s
  else
    let t1 := stamp64 t.data 0
    match s.time.bcnRx.find p with
    | none => .next s
    | some (t0, r) =>
      if s.time.echoT1.find p ≠ some t1 ∨ s.time.bcnRx.any (fun q => decide (q.1 < p)) then .next s
      else
        let t2 := stamp64 t.data 16
        let t3 : Int := (stampTc t.opfield * 64 + t.aux % 64 : Nat)
        let t4 : Int := s.now64
        let d := ((t4 - t1) - (t3 - t2)) / 2
        let e := r - (t0 + d + signed 32 (s.regBits Reg.TIM_BCN_ASYM 0 32))
        .next ({ s with time := { s.time with bcnRx := [], echoT1 := s.time.echoT1.del p } }.beaconOfs e)

/-- Number of the last instant floor(k × P × 1,966.08) at or before `t` Tc (R568). -/
def State.beaconIdx (s : State) (t : Nat) : Nat :=
  let per := s.regBits Reg.TIM_BCN_CFG 24 16 * 196608
  if per = 0 then 0 else ceilDiv ((t + 1) * 100) per - 1

/-- BEACON_SEND (R568): at each beacon instant, to every follower of the last 4 periods, on every up plane. -/
def execBeaconSend (s : State) : Res :=
  let k := s.beaconIdx s.now
  if !s.beaconSource || k == s.fab.beaconK then .next s
  else
    let per := usTc (s.regBits Reg.TIM_BCN_CFG 24 16)
    let l := s.fab.followers.filter (fun q => decide (s.now ≤ q.2 + 4 * per))
    let s := { s with fab := { s.fab with followers := l, beaconK := k } }
    .next (l.foldl (fun s q => ([0, 1, 2].filter (fun p => (s.port p).link == .up)).foldl (fun s p =>
      s.sendOn (s.bcnQueue p) p { op := 8, len := 16, dest := q.1 + s.self / 4096 * 4096, src := s.self, job := 0xFFFFF, data := List.replicate 16 0 }) s) s)

/-- ECHO_REQ_SEND (R568): half a period after each beacon instant, to the selected source, on every up plane. -/
def execEchoReqSend (s : State) : Res :=
  let half := s.regBits Reg.TIM_BCN_CFG 24 16 * 98304 / 100
  let k := s.beaconIdx (s.now - half)
  if !s.srcEnabled 3 || s.replayed || decide (s.now < half) || k == s.fab.echoK then .next s
  else
    let s := { s with fab := { s.fab with echoK := k } }
    .next (([0, 1, 2].filter (fun p => (s.port p).link == .up)).foldl (fun s p =>
      s.sendOn (s.bcnQueue p) p { op := 9, len := 16, dest := s.beaconNode + s.self / 4096 * 4096, src := s.self, job := 0xFFFFF, data := List.replicate 16 0 }) s)

/-! ### Responses (R530, R551 to R556, R560, R561) -/

/-- Bytes of a response count as FAB_IN for the context whose request it answers (R617). -/
def State.countIn (s : State) (r : Req) (t : Txn) : State :=
  let one (x : Nat) : State :=
    match s.xfer x with
    | none => s
    | some f => match s.ctx? f.ctx with
      | none => s
      | some c => s.acct c.account 12 (256 * flitsOf t.data.length)
  match r.serves with
  | .tile x _ => one x
  | .handle x _ => one x
  | .atomic x => one x
  | .hub _ => s.acct 1536 12 (256 * flitsOf t.data.length)

/-- An errand of the hub has its answer: a join, the Slot Service Interface's rings, the steward's count (R94, R573, R685). -/
def State.hubBack (s : State) (what : Nat) (data : List Byte) : State :=
  if 1000 ≤ what ∧ what < 1256 then s.endJoin (what - 1000) 0
  else if 2000 ≤ what ∧ what < 2016 then
    let e := what - 2000
    let busy := s.fab.reqs.any (fun r => r.serves == .hub what)
    let n := s.fab.ssiTail.get 0 e - s.fab.ssiAdded.get 0 e
    let dest := s.regBits (Reg.FAB_SSI_IN e) 28 12 + s.self / 4096 * 4096
    let ofs := s.regBits (Reg.FAB_SSI_OUT e) 0 40
    if busy ∨ n = 0 then s
    else
      let s := { s with fab := { s.fab with ssiAdded := s.fab.ssiAdded.set e (s.fab.ssiTail.get 0 e) } }
      s.issueAtomic 12 dest ofs 0 (s.regBits Reg.FAB_RADIO_JOB 0 20) 0x10 (BitVec.ofNat 64 n) 0 (.hub (4000 + e)) hubKey
  else if 3000 ≤ what ∧ what < 3016 then { s with fab := { s.fab with ssiHead := s.fab.ssiHead.set (what - 3000) (leNat data) } }
  else if 10000 ≤ what then s.stewardAnswer (what - 10000) (leNat data)
  else s

/-- A request has succeeded: what it served goes on (R553, R557, R563). -/
def State.reqDone (s : State) (r : Req) (t : Txn) : State :=
  let s := (s.countIn r t).dropReq r.tag
  match r.serves with
  | .tile x n => s.tileBack x n r.txn t.data
  | .handle x n => s.handleBack x n
  | .atomic x => s.atomicBack x (if t.op = 0x83 then some (BitVec.ofNat 64 (leNat t.data)) else none)
  | .hub w => s.hubBack w t.data

/-- An atomic's outcome is unknown (R560, R561). -/
def State.unknown (s : State) (r : Req) : State := ((s.count Reg.FAB_UNKNOWN_CNT 1).fabEvt 4).endReq r 0xB2

/-- A NACK: back-off, or FAB_BUSY beyond NACK_MAX; the delay's factor is a free value (R553, R554). -/
def State.nacked (s : State) (r : Req) (t : Txn) : State :=
  let s := s.count Reg.FAB_NACK_RX 1
  if s.regBits Reg.FAB_CFG 24 7 < r.nacks + 1 then s.abandon r 0xB5
  else
    let d := bits t.opfield 0 32
    let u := Config.backoff s.drawn % 2 ^ 32
    { s with drawn := s.drawn + 1 }.setReq { r with st := .backoff, nacks := r.nacks + 1, due := s.now + nsTc (d + ceilDiv (d * u) (2 ^ 32)) }

/-- Does a response fit its request (R530)? -/
def Req.fits (r : Req) (t : Txn) : Bool :=
  t.src == r.txn.dest &&
  (match t.op with
   | 0x81 => (r.txn.op == 1 || r.txn.op == 5) && t.data.length == r.txn.len
   | 0x82 => r.txn.op == 2 || r.txn.op == 4 || r.txn.op == 6 || r.txn.op == 7 || (r.txn.op == 3 && !r.txn.aux.testBit 5)
   | 0x83 => r.txn.op == 3 && r.txn.aux.testBit 5 && t.data.length == 8
   | 0x84 => r.st == .sent || r.st == .held
   | _ => true)

/-- A response to a live request acts on it. -/
def State.respIn (s : State) (r : Req) (t : Txn) : State :=
  if t.op = 0x84 then s.nacked r t
  else if t.op = 0x85 then (if r.txn.op = 3 ∧ t.status = 0xBD then s.unknown r else s.endReq r t.status)
  else s.reqDone r t

/-- A response arrives: logged and taken, or discarded and counted when its request has ended (R555, R641). -/
def State.response (s : State) (p : Nat) (t : Txn) : State :=
  match (if t.dest = s.self then s.fab.reqs.find? (fun r => r.tag == t.tag && r.fits t) else none) with
  | none => s.count Reg.FAB_LATE_RESP 1
  | some r =>
    let s := if p < 3 ∧ t.op ≠ 0x84 then s.logIn 4 0x21 p 0 (leBytes 16 r.key.toNat ++ t.header ++ t.data) else s
    s.respIn r t

/-- FAB_DATA (R553). -/
def execFabData (p : Nat) (t : Txn) (s : State) : Res := s.inRow p t 0x81 (s.response p t)

/-- FAB_ACK (R553). -/
def execFabAck (p : Nat) (t : Txn) (s : State) : Res := s.inRow p t 0x82 (s.response p t)

/-- FAB_RESULT (R557, R558). -/
def execFabResult (p : Nat) (t : Txn) (s : State) : Res := s.inRow p t 0x83 (s.response p t)

/-- FAB_NACK (R553, R554). -/
def execFabNack (p : Nat) (t : Txn) (s : State) : Res := s.inRow p t 0x84 (s.response p t)

/-- FAB_ERROR (R553, R560). -/
def execFabError (p : Nat) (t : Txn) (s : State) : Res := s.inRow p t 0x85 (s.response p t)

/-- A live request with a tag. -/
def State.req? (s : State) (tag : Nat) : Option Req := s.fab.reqs.find? (fun r => r.tag == tag)

/-- Timer limit of a request, whole Tc (R552). -/
def State.reqLimit (s : State) (r : Req) : Nat :=
  if r.txn.flags.testBit 2 then usTc (10 * s.regBits Reg.FAB_CFG 16 8) else usTc (s.regBits Reg.FAB_CFG 8 8)

/-- REQUEST_TIMEOUT (R552, R553, R560). -/
def execRequestTimeout (tag : Nat) (s : State) : Res :=
  match s.req? tag with
  | none => .next s
  | some r =>
    if r.st != .sent || decide (r.ran + (s.now - r.since) < s.reqLimit r) || (s.replayed && decide (r.plane < 3)) then .next s
    else .next (s.giveUp r 0xB1)

/-- NACK_BACKOFF_END (R553, R554): the request is sent again, with its timer at zero. -/
def execNackBackoffEnd (tag : Nat) (s : State) : Res :=
  match s.req? tag with
  | none => .next s
  | some r =>
    if r.st != .backoff || decide (s.now < r.due) then .next s
    else if r.plane < 3 ∧ (!(s.port r.plane).live ∨ s.pathLost r.plane (r.txn.dest % 4096)) then .next (s.giveUp r 0xB0)
    else .next ((s.setReq { r with st := if s.pathRetry r.plane (r.txn.dest % 4096) then .held else .sent, ran := 0, since := s.now }).sendOn
      (s.reqQueue r.region r.plane) r.plane r.txn)

/-- ATOMIC_UNKNOWN (R560): no response when the counter passes FIRST + 2 ms. -/
def execAtomicUnknown (tag : Nat) (s : State) : Res :=
  match s.req? tag with
  | none => .next s
  | some r => if r.txn.op != 3 || decide (s.now ≤ r.first + usTc 2000) then .next s else .next (s.unknown r)

/-- REPLY_CACHE_FREE (R559): entries are freed 2 ms after their application. -/
def execReplyCacheFree (s : State) : Res :=
  .next { s with fab := { s.fab with replies := s.fab.replies.filter (fun r => decide (s.now < r.at0 + usTc 2000)) } }

/-! ### RATC commands (R541 to R543, R582) -/

/-- The staged entry, reserved bits zero. -/
def State.staged (s : State) : Ratc :=
  { w0 := BitVec.ofNat 64 (s.reg Reg.FAB_RATC_W0 % 2 ^ 62), w1 := BitVec.ofNat 64 (s.reg Reg.FAB_RATC_W1 % 2 ^ 46) }

/-- INDEX of `FAB_RATC_RESULT`. -/
def ratcResult (i : Nat) : Nat := i * 16

/-- RATC_INSERT (R543, R582). -/
def execRatcInsert (s : State) : Res :=
  .next (s.bar2 Reg.FAB_RATC_CMD 4 1 (fun (s : State) =>
    let e := s.staged
    let set := ratcSet e.job e.cls e.granule
    let free (i : Nat) : Bool := match s.fab.ratc.find i with | none => true | some k => !k.valid
    if (s.ratcAt e.job e.cls e.granule).isSome then s.setReg Reg.FAB_RATC_RESULT 5
    else
      match ((List.range 8).map (fun w => 8 * set + w)).find? free with
      | none => s.setReg Reg.FAB_RATC_RESULT 3
      | some i => { s with fab := { s.fab with ratc := s.fab.ratc.set i { e with w0 := e.w0 ||| 1 } } }.setReg Reg.FAB_RATC_RESULT (1 + ratcResult i)))

/-- RATC_REMOVE (R543, R725): an entry of the radio service or the firmware stays; another no longer serves lookups; DONE follows when the requests that matched it have been applied. -/
def execRatcRemove (s : State) : Res :=
  .next (s.bar2 Reg.FAB_RATC_CMD 4 2 (fun (s : State) =>
    let e := s.staged
    match s.ratcAt e.job e.cls e.granule with
    | none => s.setReg Reg.FAB_RATC_RESULT 9
    | some i =>
      let old := s.fab.ratc.get e i
      if old.owner = 0x400 ∨ old.owner = 0x401 then s.setReg Reg.FAB_RATC_RESULT 9 else
      { s with fab := { s.fab with ratc := s.fab.ratc.del i, removing := some (i, old) } }.setReg Reg.FAB_RATC_RESULT (ratcResult i)))

/-- RATC_REMOVE_DONE (R543). -/
def execRatcRemoveDone (s : State) : Res :=
  match s.fab.removing with
  | none => .next s
  | some (_, e) =>
    if s.fab.inq.any (fun q => q.entries.contains e) then .next s
    else .next ({ s with fab := { s.fab with removing := none } }.flag Reg.FAB_RATC_RESULT 1)

/-- RATC_READ (R543). -/
def execRatcRead (s : State) : Res :=
  .next (s.bar2 Reg.FAB_RATC_CMD 4 3 (fun (s : State) =>
    let e := s.fab.ratc.get { w0 := 0, w1 := 0 } (s.regBits Reg.FAB_RATC_IDX 0 17)
    ((s.setReg Reg.FAB_RATC_W0 e.w0.toNat).setReg Reg.FAB_RATC_W1 e.w1.toNat).setReg Reg.FAB_RATC_RESULT 1))

end Sys2Proof.Machine
end

