-- ==== Sys2Proof/Machine/Health.lean ====
section
/-! DEFINITION. The commands of the health monitor: results of sentinel tests and comparisons, temperature bins, heartbeats, takeover,
expulsion, step shadows, `HLT_CMD` (R660 to R707). -/
namespace Sys2Proof.Machine

/-! ### Sentinel tests and unit shadow comparison (R667, R670, R671) -/

/-- A score has risen: a quarantine on a condition is decided again from fewer bins, or released when none is left; an unconditional one
lasts (R672, R676). -/
def State.recovered (s : State) (u : Nat) : State :=
  let f := s.lowBins u
  let old := s.health.quar.get {} u
  let tmin := f.foldl (fun m b => min m (b / 4)) 7
  let lmin := f.foldl (fun m b => min m (b % 4)) 3
  let put (s : State) (q : Quar) : State := { s with health := { s.health with quar := s.health.quar.set u q } }
  if old.kind ≠ 2 ∧ old.kind ≠ 3 then s
  else if f = [] then (((put s { old with kind := 0, tmin := 0, lmin := 0 }).healthLog 7 u 0 0 0).hltEvt 2).redev
  else if old.tmin = tmin ∧ old.lmin = lmin then s
  else
    let s := put s { old with kind := if 4 ≤ tmin then 2 else 3, tmin := tmin, lmin := lmin }
    (s.healthLog 6 u 0 0 (BitVec.ofNat 64 (s.selState u))).redev

/-- A test has passed: the score of the bin in force rises; a spare counts it (R667, R700). -/
def State.testPassed (s : State) (u : Nat) : State :=
  let s := { s with health := { s.health with
    scores := s.health.scores.upd 1000 (32 * u + s.binOf u) (fun v => min 1000 (v + s.regBits Reg.HLT_CFG 20 6)),
    passed := s.health.passed.upd 0 u (· + 1) } }
  (s.count Reg.HLT_SENT_PASS 1).recovered u

/-- A test has failed with a digest (R662, R666, R670). -/
def State.testFailed (s : State) (u : Nat) (digest : DWord) : State :=
  (((s.count Reg.HLT_SENT_FAIL 1).deduct u 500).healthLog 4 u 0 0 digest).hltEvt 4

/-- SENTINEL_RESULT (R667, R670): the part's test ends with a digest and, when `clean`, no error; `known` is the known answer. -/
def execSentinelResult (u : Nat) (digest known : DWord) (clean : Bool) (s : State) : Res :=
  if !isPart u then .fault .noSuchPart
  else if !s.health.testing.contains u then .next s
  else
    let s := { s with health := { s.health with testing := s.health.testing.erase u } }
    .next ((if digest = known ∧ clean then s.testPassed u else s.testFailed u digest).settleUnit u)

/-- One of three units found wrong in a comparison (R662, R666, R671). -/
def State.shadowMiss (s : State) (u n : Nat) (digest : DWord) : State := (s.deduct u n).healthLog 5 u 0 0 digest

/-- A comparison found a minority or no majority (R671). -/
def State.shadowFound (s : State) : State := (s.count Reg.HLT_USHADOW_MISS 1).hltEvt 8

/-- UNIT_SHADOW_RESULT (R671). -/
def execUnitShadowResult (u0 u1 u2 : Nat) (d0 d1 d2 : DWord) (s : State) : Res :=
  if !(isPart u0 && isPart u1 && isPart u2) then .fault .noSuchPart
  else if !s.health.trios.contains [u0, u1, u2] then .next s
  else
    let s := { s with health := { s.health with trios := s.health.trios.erase [u0, u1, u2] } }
    if d0 = d1 ∧ d1 = d2 then .next s
    else if d1 = d2 then .next (s.shadowMiss u0 500 d0).shadowFound
    else if d0 = d2 then .next (s.shadowMiss u1 500 d1).shadowFound
    else if d0 = d1 then .next (s.shadowMiss u2 500 d2).shadowFound
    else .next (((s.shadowMiss u0 100 d0).shadowMiss u1 100 d1).shadowMiss u2 100 d2).shadowFound

/-! ### Bins (R664, R665, R674, R676) -/

/-- Temperature bin of a junction temperature in 1/8 °C (R664). -/
def tbinOf (t : Int) : Nat :=
  if t < 0 then 0 else if t < 320 then 1 else if t < 480 then 2 else if t < 560 then 3 else if t < 640 then 4 else if t < 680 then 5
  else if t < 760 then 6 else 7

/-- Parts quarantined on a condition that excludes them now. -/
def State.condOut (s : State) : List Nat := (s.health.quar.filter (fun (p : Nat × Quar) => s.quarCond p.1)).map (·.1)

/-- HEALTH_SENSOR_READ (R664, R665, R674): the 17 sensors' temperatures in 1/8 °C, and load bins of parts; conditions are weighed again. -/
def execHealthSensorRead (temps : List Int) (loads : List (Nat × Nat)) (s : State) : Res :=
  if temps.length ≠ 17 ∨ !loads.all (fun p => isPart p.1 && decide (p.2 < 4)) then .fault .noSuchPart
  else
    let before := s.condOut
    let tbin := temps.zipIdx.foldl (fun (b : Tab Nat) (p : Int × Nat) => b.set p.2 (tbinOf p.1)) s.health.tbin
    let lbin := loads.foldl (fun (b : Tab Nat) (p : Nat × Nat) => b.set p.1 p.2) s.health.lbin
    let s := { s.sensed temps with health := { s.health with tbin := tbin, lbin := lbin } }
    let s := (s.condOut.filter (fun u => !before.contains u)).foldl (fun (s : State) u => s.afterQuar u) s.redev
    let s := (s.sched.units.filter (fun (p : Nat × UnitSt) => p.2.en.st == .starting)).foldl (fun (s : State) p => s.settleUnit p.1) s
    .next ((s.sched.ctxs.map (·.1)).foldl (fun (s : State) c => s.refresh c) s)

/-! ### Heartbeats (R679, R685, R686) -/

/-- Nodes to which the device sends heartbeats: its partner and its stewards (R679). -/
def State.beatTo (s : State) : List Nat :=
  let l := (if s.regBits Reg.HLT_PARTNER 20 1 = 1 then [s.regBits Reg.HLT_PARTNER 0 12] else []) ++ [s.steward 0, s.steward 1]
  l.eraseDups.filter (fun n => n != s.self % 4096)

/-- HEARTBEAT_SEND (R679): the failure domain and the role go with it (R678, R692). -/
def execHeartbeatSend (s : State) : Res :=
  .next (s.beatTo.foldl (fun (s : State) n => s.mail n mailBeat (s.regBits Reg.HLT_DOMAIN 0 8) s.health.role.code) s)

/-- A peer whose period has ended. -/
def Peer.ended (p : Peer) : Peer := if p.beat then { p with beat := false, miss := 0 } else { p with miss := p.miss + 1 }

/-- The partner is lost: HB_MISS periods without a heartbeat of it (R677, R705). -/
def State.partnerLost (s : State) : State :=
  if s.health.pair != .paired || !s.health.peers.any (fun (p : Peer) => p.node == s.health.pairNode && decide (s.hbMiss ≤ p.miss)) then s
  else
    let last := s.inf.models.foldl (fun (n : Nat) (p : Nat × Model) => if p.2.mirrored then max n p.2.step else n) 0
    let s := { s with health := { s.health with pair := .lost } }
    ((s.healthLog 8 0xF000 0 s.health.pairNode (BitVec.ofNat 64 last)).hltEvt 0x10).redev

/-- Neither the partner nor any steward heard for HB_MISS periods (R686). -/
def State.isolated (s : State) : Bool :=
  let l := s.health.peers.filter (fun (p : Peer) => p.isPartner || p.isSteward)
  !l.isEmpty && l.all (fun (p : Peer) => decide (s.hbMiss ≤ p.miss))

/-- A silent ward: the steward is asked once; a steward answers itself; a fenced device takes over nothing (R685, R686). -/
def State.askWards (s : State) : State :=
  if s.health.fenced then s
  else (s.health.peers.filter (fun (p : Peer) => p.isWard && !p.asked && p.lostAt.isNone && decide (s.hbMiss ≤ p.miss))).foldl
    (fun (s : State) p => if s.stewardNow = s.self % 4096 then s.wardLost p.node else s.askSteward p) s

/-- HEARTBEAT_PERIOD_END (R685, R686). -/
def execHeartbeatPeriodEnd (s : State) : Res :=
  let s := { s with health := { s.health with peers := s.health.peers.map Peer.ended } }.partnerLost
  .next (if s.isolated then s.fence else s).askWards

/-! ### Takeover (R689) -/

/-- TAKEOVER_UNMUTE (R689): the standby cell speaks, and writes what it held that is not yet due. -/
def execTakeoverUnmute (n : Nat) (s : State) : Res :=
  if 512 ≤ n then .fault .noSuchPart
  else
    match s.health.unmuteAt.find n with
    | none => .next s
    | some t =>
      if s.now < t then .next s
      else
        let held := s.health.heldInd.filter (fun (h : Nat × Nat × List Byte) => h.1 == n && decide (t < h.2.1))
        let rest := s.health.heldInd.filter (fun (h : Nat × Nat × List Byte) => h.1 != n)
        let s := { s with health := { s.health with unmuteAt := s.health.unmuteAt.del n, taken := true, heldInd := rest } }
        let s := s.setCell n { s.cell n with muted := false, reason := 2 }
        let s := held.foldl (fun (s : State) h => s.ssiOut n [] h.2.2) s
        let ward := bits (s.regs.get 0 (Reg.HLT_CELL_SB n)) 1 12
        .next (((s.cellNote n t).healthLog 9 0xF000 0 ward (tcStamp t)).hltEvt 0x40)

/-! ### Expulsion (R691 to R696) -/

/-- EXPEL_RETRY (R693). -/
def execExpelRetry (s : State) : Res :=
  .next (if s.health.expel = 1 ∧ s.health.expelSent + 10 * secondTc ≤ s.now then s.sendExpel s.health.expelCause else s)

/-- EXPEL_MAX and EXPEL_WIN in whole Tc (R705). -/
def State.expelMax (s : State) : Nat := s.regBits Reg.HLT_DOMAIN 32 4
def State.expelWin (s : State) : Nat := s.regBits Reg.HLT_DOMAIN 36 12 * secondTc

/-- STEWARD_TOKEN_REGAIN (R692). -/
def execStewardTokenRegain (s : State) : Res :=
  .next (if s.isSteward ∧ s.health.tokenAt + s.expelWin ≤ s.now then
    { s with health := { s.health with tokens := min s.expelMax (s.health.tokens + 1), tokenAt := s.health.tokenAt + s.expelWin } } else s)

/-- The steward grants a request: a token is spent, the first listed spare assigned, and both told (R693). -/
def State.grant (s : State) (r : ExpelReq) (spare : Nat) : State :=
  let s := { s with health := { s.health with tokens := s.health.tokens - 1, spares := s.health.spares.drop 1, reqs := s.health.reqs.drop 1,
                                              granted := s.health.granted ++ [r.node] } }
  let s := s.mail spare mailSpare 0 r.node
  if r.node ≠ s.self % 4096 then s.mail r.node mailGrant 0 spare
  else if s.health.expel = 1 then s.expelNow 2 s.health.expelCause spare else s

/-- EXPEL_GRANT (R693): the oldest request, when the steward holds a token and a ready spare. -/
def execExpelGrant (s : State) : Res :=
  match s.health.reqs.head?, s.health.spares.head? with
  | some r, some n => .next (if s.isSteward ∧ 0 < s.health.tokens then s.grant r n else s)
  | _, _ => .next s

/-- A mirrored instance leaves for the partner: its sequences go without records, its contexts are to end (R695). -/
def State.moveModel (s : State) (t n : Nat) : State :=
  let s := { s with inf := { s.inf with seqs := s.inf.seqs.map (fun (q : Sequence) =>
    if q.tenant = t ∧ q.slot = n then { q with report := .none } else q) } }
  s.dropModel t n 6 0

/-- Mirrored work goes to the partner (R695 step 1). -/
def State.handMirrored (s : State) : State :=
  let s := (s.inf.models.filter (fun (p : Nat × Model) => p.2.mirrored)).foldl (fun (s : State) p => s.moveModel (p.1 / 16) (p.1 % 16)) s
  s.mirroredCells.foldl (fun (s : State) n => s.muteCell n true) s

/-- Unmirrored work ends with EXPELLED (R695 step 2, R612). -/
def State.endUnmirrored (s : State) : State :=
  let s := (s.inf.models.map (·.1)).foldl (fun (s : State) k => s.dropModel (k / 16) (k % 16) 6 0xD2) s
  let s := ((s.sched.ctxs.filter (fun (p : Nat × Ctx) => !p.2.ending)).map (·.2)).foldl (fun (s : State) x => s.closeCtx x 0xD2) s
  let s := ((s.radio.cells.filter (fun (p : Nat × Cell) => p.2.en.st != .off)).map (·.1)).foldl (fun (s : State) n => s.stopCell n 2) s
  s.reapSteps

/-- WORK_HANDOVER (R695): the expelled device hands its mirrored work over, ends the rest, and stops. -/
def execWorkHandover (s : State) : Res :=
  if s.health.role ≠ .expelling then .next s
  else
    let s := s.handMirrored.endUnmirrored
    let s := { s with health := { s.health with role := .expelled } }
    .next ((s.setExpel 4 s.health.expelCause s.health.expelSpare).setDev .stopping)

/-- The spare owns what its image names for a node: its instances at once, its cells at a slot boundary two slots ahead (R695, R696). -/
def State.ownWork (s : State) (node : Nat) : State :=
  let mine := s.health.standby.filter (fun (k : Standby) => k.ward == node)
  let s := (s.standbyCells node).foldl (fun (s : State) n => match s.cellCfg n with
    | none => s
    | some k => { s with health := { s.health with unmuteAt := s.health.unmuteAt.set n (s.slotFrom n (s.now + 2 * slotTc k.mu)) } }) s
  let s := mine.foldl (fun (s : State) k => match s.model k.tenant k.slot with
    | none => s
    | some m => s.setModel k.tenant k.slot { m with standby := false, mirrored := true, inStep := false, waiting := [], failing := false }) s
  { s with health := { s.health with standby := s.health.standby.filter (fun (k : Standby) => k.ward != node) } }

/-- Pairing with the partner that the image names begins (R678). -/
def State.startPair (s : State) : State :=
  if s.regBits Reg.HLT_PARTNER 20 1 = 1 then
    { s with health := { s.health with pair := .pairing, pairNode := s.regBits Reg.HLT_PARTNER 0 12 } } else s

/-- SPARE_LOAD (R696, R700): the assigned spare takes over the work of the expelled node and is admitted. -/
def execSpareLoad (node : Nat) (s : State) : Res :=
  if 4096 ≤ node then .fault .noSuchPart
  else if s.health.role ≠ .spareReady ∨ s.health.serveFor ≠ some node then .next s
  else
    let s := { s with health := { s.health with role := .active, roleBefore := .spareReady, serveFor := none, taken := true } }
    .next ((s.ownWork node).startPair.hltEvt 0x200)

/-! ### Step shadows (R697 to R700) -/

/-- Subject node of the shadow (R707). -/
def State.subject (s : State) : Nat := s.regBits Reg.HLT_SHADOW 0 12

/-- A step matched: with the last of ADMIT_STEPS the device is admitted (R699). -/
def State.shadowMatch (s : State) : State :=
  let n := s.health.shRun + 1
  let s := { s with health := { s.health with shRun := n } }
  if n < s.regBits Reg.HLT_SHADOW 12 16 then s
  else { s with health := { s.health with role := if s.regBits Reg.HLT_SHADOW 28 1 = 1 then .spareReady else .active } }.hltEvt 0x200

/-- STEP_SHADOW_COMPARE (R697, R699, R701): digests of the shadow's run and of what was mirrored. -/
def execStepShadowCompare (t slot step : Nat) (mine theirs : DWord) (s : State) : Res :=
  if 1024 ≤ t ∨ 16 ≤ slot then .fault .noSuchPart
  else if s.health.role ≠ .shadow ∨ s.health.rerun.isSome then .next s
  else if mine = theirs then .next s.shadowMatch
  else
    .next ({ s with health := { s.health with shMiss := min 0xFFFF (s.health.shMiss + 1),
                                              rerun := some (slotKey t slot, step, mine) } }.hltEvt 0x100)

/-- A wrong result of the subject is confirmed: logged, and its expulsion forced through it and the steward (R694, R698). -/
def State.wrongResult (s : State) (step : Nat) : State :=
  let s := s.healthLog 0x0D 0xF000 0 s.subject (BitVec.ofNat 64 step)
  let s := s.mail s.subject mailForced 0 s.subject
  if s.stewardNow = s.self % 4096 then s.forceExpel s.subject else s.mail s.stewardNow mailForced 0 s.subject

/-- The shadow's own fault: logged, and its run of matches starts again (R698, R699). -/
def State.shadowFault (s : State) (step : Nat) : State :=
  { s with health := { s.health with shRun := 0 } }.healthLog 0x0C 0xF000 0 s.subject (BitVec.ofNat 64 step)

/-- SHADOW_RERUN_RESULT (R698, R699). -/
def execShadowRerunResult (t slot step : Nat) (mine theirs : DWord) (s : State) : Res :=
  if 1024 ≤ t ∨ 16 ≤ slot then .fault .noSuchPart
  else
    match s.health.rerun with
    | none => .next s
    | some (k, st, first) =>
      if k ≠ slotKey t slot ∨ st ≠ step then .next s
      else
        let s := { s with health := { s.health with rerun := none } }
        if mine = theirs then .next (s.shadowFault step)
        else if mine = first then .next (s.wrongResult step)
        else .next ((s.shadowFault step).shadowFault step)

/-- Has every part that is tested passed its tests on 8 seeds (R669, R700)? -/
def State.testsDone (s : State) : Bool :=
  (List.range 12).all (fun g => (testParts g).flatten.all (fun u =>
    (uKind u != 8 && (s.unit u).en.st != .on) || decide (8 ≤ s.health.passed.get 0 u)))

/-- SPARE_TEST_DONE (R700): the spare is ready and registers with its stewards by a heartbeat that carries its role (R692). -/
def execSpareTestDone (s : State) : Res :=
  if s.health.role ≠ .spareTest ∨ !s.testsDone ∨ s.health.quar.any (fun (p : Nat × Quar) => s.quarHard p.1) then .next s
  else
    let s := { s with health := { s.health with role := .spareReady } }
    let dests := [s.steward 0, s.steward 1].eraseDups.filter (fun n => n != s.self % 4096)
    .next (dests.foldl (fun (s : State) n => s.mail n mailBeat (s.regBits Reg.HLT_DOMAIN 0 8) s.health.role.code) s)

/-! ### HLT_CMD and the log (R660, R706) -/

/-- A command of `HLT_CMD`: ignored with REFUSED when its condition is not met (R706). -/
def State.hltCmd (s : State) (code : Nat) (ok : State → Bool) (f : State → State) : State :=
  s.bar2 Reg.HLT_CMD 4 code (fun (s : State) => if ok s then f s else s.hltEvt 0x400)

/-- EXPEL (R706). -/
def execExpel (s : State) : Res := .next (s.hltCmd 1 (fun (s : State) => s.health.role == .active) (fun (s : State) => s.requestExpel 5))

/-- A heartbeat of the partner or a steward was applied in the last period (R706). -/
def State.beatHeard (s : State) : Bool :=
  s.health.peers.any (fun (p : Peer) => (p.isPartner || p.isSteward) && (p.beat || p.miss == 0))

/-- UNFENCE (R686, R701, R706). -/
def execUnfence (s : State) : Res :=
  .next (s.hltCmd 2 (fun (s : State) => s.health.fenced && s.beatHeard) (fun (s : State) => s.unfence))

/-- SHADOW_START (R697, R706). -/
def execShadowStart (s : State) : Res :=
  .next (s.hltCmd 3
    (fun (s : State) => (s.health.role == .active || s.health.role == .spareReady) && !s.inf.models.any (fun (p : Nat × Model) => p.2.mirrored) &&
      s.mirroredCells.isEmpty)
    (fun (s : State) => { s with health := { s.health with roleBefore := s.health.role, role := .shadow, shRun := 0, rerun := none } }))

/-- SHADOW_STOP (R706). -/
def execShadowStop (s : State) : Res :=
  .next (s.hltCmd 4 (fun (s : State) => s.health.role == .shadow)
    (fun (s : State) => { s with health := { s.health with role := s.health.roleBefore, rerun := none } }))

/-- HLT_LOG_ACK (R660, R191). -/
def execHltLogAck (n : Nat) (s : State) : Res :=
  .next (s.bar2 Reg.HLT_LOG_ACK 4 n (fun (s : State) =>
    let k := min (n % 2 ^ 9) (s.reg Reg.HLT_LOG_COUNT)
    let s := s.setReg Reg.HLT_LOG_TAIL ((s.reg Reg.HLT_LOG_TAIL + k) % 256)
    s.setReg Reg.HLT_LOG_COUNT (s.reg Reg.HLT_LOG_COUNT - k)))

end Sys2Proof.Machine
end

