-- ==== Sys2Proof/Machine/Ibex.lean ====
section
/-! DEFINITION. The matrix commands: activation blocks, weight streams, output rows, checksums (R156 to R203, R204 to R236, R266 to R270,
R290). -/
namespace Sys2Proof.Machine

/-! ### Blocks (R174 to R178, R212 to R214, R266, R787) -/

/-- LOAD (R174 to R176, R213, R266): the tag goes to the list's context, none for a radio context (R787). -/
def execLoad (a : Nat) (s : State) : Res :=
  if 96 ≤ a then .fault .noSuchPart
  else
    match s.cur (uIbex a) 0x20 with
    | none => .next s
    | some (r, c, x) =>
      let u := uIbex a
      let base := primary r c 16
      let n := cmdField c 20 2
      let kbf := bit c (8 * 22 + 1)
      if base % 256 ≠ 0 then .next (s.failList u 0x42)
      else
        let f := s.fetch x [(poolRef base, 256 * n), (poolRef (base + 0x10000), if kbf then n else 0)]
        if f.1 ≠ 0 then .next (f.2.2.failList u f.1)
        else
          let t := f.2.2
          let m := ((t.mem.clear (cellAt a 0 0) 0x10100).wrBytes (cellAt a 0 0) (f.2.1.take (256 * n))).wrBytes (cellExpAt a 0) (f.2.1.drop (256 * n))
          let i := t.array a
          let t := { t with mem := m }.setArray a { i with fmt := { n := n, isSigned := kbf || bit c (8 * 22), kbf := kbf },
                                                           tag := if x.radio then none else some x.id, loaded := some n }
          let t := (t.count64 (Reg.IBX_BUSY_CYC a) n).work x 0 n
          .next (t.finishCmd u (outHandle x c r.list.id base (256 * n) false false))

/-- SPILL (R178, R266): the cells go to a 64 KiB Pool area. -/
def execSpill (a : Nat) (s : State) : Res :=
  if 96 ≤ a then .fault .noSuchPart
  else
    match s.cur (uIbex a) 0x22 with
    | none => .next s
    | some (r, c, x) =>
      let u := uIbex a
      let o := cmdField c 16 4
      if s.outChk x c o 65536 ≠ 0 then .next (s.failList u 0x63)
      else if s.outHeld x c then .next s
      else
        let t := s.outStore x c o (s.mem.rdBytes (cellAt a 0 0) 65536)
        let t := (t.setArray a { t.array a with loaded := none }).count64 (Reg.IBX_BUSY_CYC a) 256
        .next ((t.work x 0 256).finishCmd u (outHandle x c r.list.id o 65536 false false))

/-- RESTORE (R178, R266): the cells come from a 64 KiB Pool area; the block keeps the array's format and exponents (log entry 13). -/
def execRestore (a : Nat) (s : State) : Res :=
  if 96 ≤ a then .fault .noSuchPart
  else
    match s.cur (uIbex a) 0x23 with
    | none => .next s
    | some (r, c, x) =>
      let u := uIbex a
      let base := primary r c 16
      if base % 256 ≠ 0 then .next (s.failList u 0x42)
      else
        let f := s.fetch x [(poolRef base, 65536)]
        if f.1 ≠ 0 then .next (f.2.2.failList u f.1)
        else
          let t := f.2.2
          let t := { t with mem := t.mem.wrBytes (cellAt a 0 0) f.2.1 }.setArray a
            { t.array a with tag := if x.radio then none else some x.id, loaded := none }
          let t := (t.count64 (Reg.IBX_BUSY_CYC a) 256).work x 0 256
          .next (t.finishCmd u (outHandle x c r.list.id base 65536 false false))

/-! ### The control word and the weight stream (R159 to R162, R204, R267, R268) -/

def ctlN (c : Cmd) : Nat := bits c 449 9
def ctlMcast (c : Cmd) : Nat := bits c 458 8
def ctlStoch (c : Cmd) : Bool := bit c 466
def ctlStop (c : Cmd) : Bool := bit c 467
def ctlOfmt (c : Cmd) : Nat := bits c 468 3
def ctlCols (c : Cmd) : Bool := bit c 471
def ctlU8 (c : Cmd) : Bool := bit c 472
def ctlAdd (c : Cmd) : Bool := bit c 473
def ctlAshift (c : Cmd) : Bool := bit c 474
def ctlQ (c : Cmd) : Bool := bit c 475
def ctlScale (c : Cmd) : Int := signed 8 (bits c 476 8)
def ctlRelrows (c : Cmd) : Nat := bits c 484 4

/-- Address reference of the weight stream (R267). -/
def streamRef (c : Cmd) : Nat := if bit c 448 then poolRef (cmdField c 16 8 % 2 ^ 32) else cmdField c 16 8 % 2 ^ 48

/-- Length of the weight stream (R267). -/
def streamLen (c : Cmd) : Nat := cmdField c 24 4

/-- Is a (KIND, P) pair accepted (R160)? -/
def pairOk (kind p : Nat) : Bool :=
  (kind == 0 && [1, 2, 3, 4, 5, 6, 8].contains p) || (kind == 1 && p == 2) || (kind == 2 && decide (2 ≤ p ∧ p ≤ 8))

/-- KIND, P and ROWS of a group header; none when it is not accepted (R159, R160; ROWS above 4,096 is among them, log entry 14). -/
def groupHeader (b : List Byte) : Option (Nat × Nat × Nat) :=
  let kind := byteField b 0 1
  let p := byteField b 1 1
  let rows := byteField b 2 2
  if pairOk kind p ∧ 1 ≤ rows ∧ rows ≤ 4096 ∧ byteField b 4 28 = 0 then some (kind, p, rows) else none

/-- Bytes of a row (R159). -/
def rowBytes (kind p : Nat) : Nat := 32 * p + (if kind = 2 then 8 else 0)

/-- Rows of a stream before the first group that is not accepted or not whole, as `rd` reads its headers (R160, log entry 14). -/
def streamRows (rd : Nat → List Byte) (len fuel ofs : Nat) : Nat :=
  match fuel with
  | 0 => 0
  | fuel + 1 =>
    if len < ofs + 32 then 0
    else
      match groupHeader (rd ofs) with
      | none => 0
      | some (kind, p, rows) =>
        let fit := (len - ofs - 32) / rowBytes kind p
        if fit < rows then fit else rows + streamRows rd len fuel (ofs + 32 + rows * rowBytes kind p)

/-- Bits of element `i` of a row, from its planes. -/
def element (planes : List Byte) (p i : Nat) : Nat := packBits ((List.range p).map (fun b => bit (planes.getD (32 * b + i / 8) 0) (i % 8)))

/-- Micro-shift of the group of element `i` (R162). -/
def microShift (side i : Nat) : Nat := side / 2 ^ (8 + 2 * (i / 32)) % 4

/-- Integer that element `i` counts for in the array (R161, R162, R204). -/
def weight (kind p side : Nat) (planes : List Byte) (i : Nat) : Int :=
  let e := element planes p i
  if kind = 1 then ((e % 2 : Nat) : Int) - ((e / 2 : Nat) : Int)
  else if kind = 2 then
    let sh := microShift side i
    signed (p - sh) (e % 2 ^ (p - sh)) * (2 ^ sh : Nat)
  else if p = 1 then (e : Int)
  else signed p e

/-- Are the side word's shifts and zero bits as R162 requires? -/
def sideOk (p side : Nat) : Bool := decide (side < 2 ^ 24) && (List.range 8).all (fun g => decide (microShift side (32 * g) + 2 ≤ p))

/-- Nonzero elements of a row (R193, R208). -/
def density (kind p side : Nat) (planes : List Byte) : Nat :=
  if kind = 0 ∧ p = 1 then 256 else ((List.range 256).filter (fun i => weight kind p side planes i != 0)).length

/-! ### Starting a stream (R166 to R170, R180, R182, R195, R196, R198, R236, R269) -/

/-- Reader of stream bytes. -/
def State.streamRd (s : State) (x : Ctx) (c : Cmd) (ofs n : Nat) : List Byte := s.rdSpans (s.refSpans x (streamRef c + ofs) n)

/-- Rows of a command's stream. -/
def State.rowsOf (s : State) (x : Ctx) (c : Cmd) : Nat := streamRows (fun o => s.streamRd x c o 32) (streamLen c) (streamLen c / 32 + 1) 0

/-- Row stride and element bytes of an output format (R182). -/
def rowStride (ofmt : Nat) : Nat := match ofmt with | 0 | 1 => 256 | 5 => 1536 | _ => 512
def elemBytes (ofmt : Nat) : Nat := match ofmt with | 0 | 1 => 1 | 5 => 6 | _ => 2

/-- First byte and length of what rows `o` to `o + n - 1` fill (R182, R270). -/
def rowsSpan (c : Cmd) (o n : Nat) : Nat × Nat :=
  let out := cmdField c 28 4
  if ctlCols c then (out + o, 256 * (ctlN c - 1) + n)
  else (out + rowStride (ctlOfmt c) * o, rowStride (ctlOfmt c) * (n - 1) + elemBytes (ctlOfmt c) * ctlN c)

/-- Status that refuses a stream before it starts, 0 when it may start (R180, R182, R198, R236, R263, R268, R494). -/
def State.streamChk (s : State) (r : Running) (x : Ctx) (c : Cmd) : Nat :=
  let n := ctlN c
  let f := ctlOfmt c
  if n = 0 ∨ 256 < n ∨ 5 < f ∨ (ctlCols c ∧ 1 < f) then 0x42
  else if s.refChk x (streamRef c) (streamLen c) false ≠ 0 then s.refChk x (streamRef c) (streamLen c) false
  else
    let rows := s.rowsOf x c
    if ctlCols c && f == 1 && decide (rows < 32) then 0x42
    else if ctlAdd c && (match bound r c with | some h => decide (h.len < 1536 * rows) | none => false) then 0x42
    else if rows = 0 then 0
    else if ctlAdd c ∧ s.poolChk x (primary r c 32) (1536 * rows) ≠ 0 then 0x63
    else if ctlQ c ∧ s.poolChk x (cmdField c 36 4) (2 * rows) ≠ 0 then 0x63
    else if f = 4 then 0
    else if s.outChk x c (rowsSpan c 0 rows).1 (rowsSpan c 0 rows).2 ≠ 0 then 0x63
    else if f = 1 ∧ s.outChk x c (cmdField c 40 4) (if ctlCols c then 256 else 8 * rows) ≠ 0 then 0x63
    else if f = 1 ∧ ctlCols c ∧ s.outChk x c (cmdField c 28 4 + 0x10000) 256 ≠ 0 then 0x63
    else 0

/-- Idle count of an array (R195): 256 until a plane enters, then the cycles since, at nominal rate. -/
def State.idleOf (s : State) (a : Nat) : Nat :=
  match (s.array a).planeAt with
  | none => 256
  | some t => min 256 ((s.now - t) * 10000 / s.cycTc 10000)

/-- Planes begin to enter an array: its stream is in place, and its ramp is counted (R166, R195, R196). -/
def State.beginStream (s : State) (a : Nat) (first : Bool) (r : Running) (c : Cmd) (x : Ctx) : State :=
  let u := uIbex a
  let code := s.streamChk r x c
  if code ≠ 0 then s.failList u code
  else
    let i := s.array a
    let ramps := decide (64 < ctlN c) && decide (s.idleOf a = 256)
    let s := if !ramps then s else s.count (if i.loaded.isSome then Reg.IBX_RAMP_HID a else Reg.IBX_RAMP_CNT a) 1
    let s := if first then s.chargeRef x (streamRef c) (streamLen c) false else s
    let s := s.setArray a { i with act := 2, loaded := none, planeAt := some s.now,
                                   stream := some { cmd := c, addin := primary r c 32, total := s.rowsOf x c } }
    s.setRun u (some { r with stage := .busy })

/-- Members of a multicast stream that array `a` takes, itself alone when it is none (R168). -/
def members (a : Nat) (c : Cmd) : List Nat :=
  if ctlMcast c = 0 then [a] else ((List.range 8).filter (fun i => (ctlMcast c).testBit i)).map (fun i => a / 8 * 8 + i)

/-- Do two member commands agree (R170, R269)? -/
def mcastAgree (c d : Cmd) (x y : Ctx) : Bool :=
  ctlMcast c == ctlMcast d && cmdField c 16 12 == cmdField d 16 12 && bit c 448 == bit d 448 && cStamp c == cStamp d && cWord1 c == cWord1 d &&
  cLate c == cLate d && x.asOwner == y.asOwner

/-- STREAM (R158 to R171, R267 to R269, R290): it starts on all members of its stream once the last of them is ready. -/
def execStream (a : Nat) (s : State) : Res :=
  if 96 ≤ a then .fault .noSuchPart
  else
    match s.cur (uIbex a) 0x21 with
    | none => .next s
    | some (_, c, x) =>
      let ms := members a c
      if !ms.contains a then .next (s.failList (uIbex a) 0x42)
      else
        let rs := ms.map (fun b => (b, s.cur (uIbex b) 0x21))
        if rs.any (fun p => p.2.isNone) then .next s
        else if !rs.all (fun p => match p.2 with | some (_, d, y) => mcastAgree c d x y | none => false) then
          .next (ms.foldl (fun s b => s.failList (uIbex b) 0x42) s)
        else
          .next (rs.foldl (fun s p => match p.2 with | some (r, d, y) => s.beginStream p.1 (some p.1 == ms.head?) r d y | none => s) s)

/-- WEIGHT_FENCE_MET (R166, R290): the feed FIFO of a fenced stream holds it whole, or 16 KiB. -/
def execWeightFenceMet (a : Nat) (s : State) : Res :=
  if 96 ≤ a then .fault .noSuchPart
  else
    let u := uIbex a
    match s.run u with
    | none => .next s
    | some r =>
      match r.buf with
      | [] => .next s
      | c :: _ =>
        if cOp c ≠ 0x21 || !cFence c || r.ending.isSome || r.idx == 0 || (s.array a).stream.isSome then .next s
        else
          let s := s.setArray a { s.array a with fifo := min (streamLen c) 16384 }
          .next (if r.stage = .onFence then s.setRun u (some { r with stage := .ready }) else s)

/-- Arrays that stream together with array `a`. -/
def State.streamMates (s : State) (a : Nat) : List Nat :=
  match (s.array a).stream with
  | none => []
  | some st => (members a st.cmd).filter (fun b => match (s.array b).stream with
    | some st' => ctlMcast st'.cmd == ctlMcast st.cmd
    | none => false)

/-- IBX_FREEZE (R167, R169): a cycle in which an array that streams lacks a plane; a freeze of one member freezes all. The cycle is wait. -/
def execIbxFreeze (a : Nat) (s : State) : Res :=
  if 96 ≤ a then .fault .noSuchPart
  else
    .next ((s.streamMates a).foldl (fun s b =>
      let s := (s.setArray b { s.array b with frozen := true }).count (Reg.IBX_FREEZE_CYC b) 1
      match s.curBusy (uIbex b) 0x21 with
      | some (_, _, x) => s.work x 6 1
      | none => s) s)

/-! ### Output rows (R172, R182, R218 to R236) -/

/-- A row of a stream as it has been read. -/
structure WRow where
  kind : Nat
  p : Nat
  side : Nat
  planes : List Byte

/-- Content of cell (i, j) of an array (R212, R214). -/
def cellOf (f : BlkFmt) (b : Byte) : Int := if f.isSigned then signed 8 b.toNat else (b.toNat : Int)

/-- Result of column `j`: Σ W[i] × X[i][j], as INT1 corrects it (R158, R161, R218). -/
def State.colResult (s : State) (a : Nat) (w : WRow) (j : Nat) : Int :=
  let f := (s.array a).fmt
  let cells := s.mem.rdBytes (cellAt a j 0) 256
  let pairs := (List.range 256).zip cells
  let sum := pairs.foldl (fun t p => t + weight w.kind w.p w.side w.planes p.1 * cellOf f p.2) 0
  if w.kind = 0 ∧ w.p = 1 then 2 * sum - cells.foldl (fun t b => t + cellOf f b) 0 else sum

/-- The 48-bit result r of stage 1 (R219, R220). -/
def State.stage1 (s : State) (a : Nat) (x : Ctx) (st : Stream) (w : WRow) (j : Nat) : Int :=
  let own := s.colResult a w j * (if ctlAshift st.cmd then 256 else 1)
  let add := if ctlAdd st.cmd then signed 48 (leNat (s.peek x (st.addin + 1536 * st.row + 6 * j) 6)) else 0
  sat48 (add + own)

/-- The exact value v of stage 2 (R223, R224). -/
def State.stage2 (s : State) (a : Nat) (x : Ctx) (st : Stream) (w : WRow) (j : Nat) : Val :=
  let q : Nat := if ctlQ st.cmd then leNat (s.peek x (cmdField st.cmd 36 4 + 2 * st.row) 2) else 0x8000
  let ew : Int := if w.kind = 2 then ((w.side % 256 : Nat) : Int) - 127 else 0
  let ex : Int := if (s.array a).fmt.kbf then ((s.mem.rd (cellExpAt a j)).toNat : Int) - 127 else 0
  Val.dyad (s.stage1 a x st w j * q) (ew + ex + ctlScale st.cmd - 15)

/-- Rounding of column `j` of a row (R226, R228, R229). -/
def streamRnd (st : Stream) (j : Nat) : Rnd :=
  if ctlStoch st.cmd then
    .stoch (mixU (BitVec.ofNat 64 (cmdField st.cmd 48 8)) (cmdField st.cmd 44 4 * 2 ^ 32 + st.row * 2 ^ 8 + j))
  else .conv

/-- Stage 3 and the stores of a row: its live columns in the format and layout of the command (R182, R232 to R236). -/
def State.storeRow (s : State) (a : Nat) (x : Ctx) (st : Stream) (w : WRow) : State :=
  let c := st.cmd
  let o := st.row
  let out := cmdField c 28 4
  let oside := cmdField c 40 4
  let cols := List.range (ctlN c)
  let vs := cols.map (fun j => (streamRnd st j, s.stage2 a x st w j))
  match ctlOfmt c with
  | 0 =>
    let b := vs.map (fun p => toInt8 p.1 (ctlU8 c) p.2)
    if ctlCols c then (cols.zip b).foldl (fun s p => s.outStore x c (out + 256 * p.1 + o) [p.2]) s else s.outStore x c (out + 256 * o) b
  | 1 =>
    if ctlCols c then
      match s.outCtx x c with
      | none => s
      | some y =>
        let es := s.peek y oside 256
        let b := (cols.zip vs).map (fun p => BitVec.ofInt 8 (clampInt (-128) 127 (kbfMant p.2.1 p.2.2 ((es.getD p.1 0).toNat))))
        let s := (cols.zip b).foldl (fun s p => s.outStore x c (out + 256 * p.1 + o) [p.2]) s
        if o < 32 then s.outStore x c (out + 0x10000 + 8 * o) ((es.drop (8 * o)).take 8) else s
    else
      let k := kbfRow vs
      (s.outStore x c (out + 256 * o) k.2).outStore x c (oside + 8 * o) (leBytes 8 k.1)
  | 2 => s.outStore x c (out + 512 * o) (vs.foldr (fun p r => leBytes 2 (fmt16.round p.1 p.2) ++ r) [])
  | 3 => s.outStore x c (out + 512 * o) (vs.foldr (fun p r => leBytes 2 (fmtB16.round p.1 p.2) ++ r) [])
  | 4 => s.setArray a { s.array a with rows := (s.array a).rows ++ [vs.map (fun p => fmt32.round p.1 p.2)] }
  | _ => s.outStore x c (out + 1536 * o) (cols.foldr (fun j r => leBytes 6 (unsigned 48 (s.stage1 a x st w j)) ++ r) [])

/-- EARLY of a row that enters `d` slots after the stream's first plane (R193). -/
def earlyOf (d : Nat) : Nat := min 15 (d + 1).log2

/-- The output handle of the run that ends with the current row, if one ends there (R189, R270, R285). -/
def runHandle (x : Ctx) (list : DWord) (st : Stream) (last : Bool) : List (Nat × Nat × Handle) :=
  let w := rowsSpan st.cmd st.runStart (st.row + 1 - st.runStart)
  outHandle x st.cmd list w.1 w.2 (!last) false

/-- Does a run of rows end with the current row (R270)? -/
def runEnds (st : Stream) (last : Bool) : Bool := last || (ctlRelrows st.cmd != 0 && (st.row + 1) % 2 ^ ctlRelrows st.cmd == 0)

/-- The stream stops with a status at the current row (R160, R162, R513). -/
def State.stopStream (s : State) (a code : Nat) : State :=
  (s.setArray a { s.array a with act := 0, stream := none, fifo := 0, frozen := false }).failList (uIbex a) code

/-- The next group's header is taken up when the current group has no row left (R159). -/
def State.openGroup (s : State) (x : Ctx) (st : Stream) : Option Stream :=
  if st.left ≠ 0 then some st
  else if streamLen st.cmd < st.ofs + 32 then none
  else
    match groupHeader (s.streamRd x st.cmd st.ofs 32) with
    | none => none
    | some (kind, p, rows) => some { st with ofs := st.ofs + 32, kind := kind, p := p, left := rows }

/-- The stream has gone on past the current row: counters, the pending comparison, and the release that the row calls for. -/
def State.rowDone (s : State) (a : Nat) (r : Running) (x : Ctx) (st : Stream) (w : WRow) : State :=
  let c := st.cmd
  let u := uIbex a
  let i := s.array a
  let st' : Stream := { st with ofs := st.ofs + rowBytes w.kind w.p, left := st.left - 1 }
  let last := st'.left == 0 && decide (streamLen c ≤ st'.ofs)
  let ends := runEnds st last
  let fed : FedRow := { o := st.row, p := w.p, kind := w.kind, density := density w.kind w.p w.side w.planes, early := earlyOf st.slots,
                        list := r.list.id, ctx := x.id, live := ctlN c, stop := ctlStop c, throttle := 32 - s.nDie (x.cluster / 12),
                        endsRun := ends, last := last }
  let next : Stream := { st' with row := st.row + 1, slots := st.slots + w.p, runStart := if ends ∧ !ctlStop c then st.row + 1 else st.runStart }
  let done := last && !ctlStop c
  let s := s.setArray a { i with frozen := false, planeAt := some s.now, stream := if done then none else some next, act := if last then 0 else 2,
                                 fifo := if last then 0 else i.fifo, unchecked := i.unchecked ++ [fed] }
  let s := ((s.count64 (Reg.IBX_ROW_CNT a) 1).count64 (Reg.IBX_BUSY_CYC a) w.p).work x 0 w.p
  let s := if ctlN c ≤ 64 then s.count (Reg.IBX_GATE_CYC a) w.p else s
  if ctlStop c then s
  else
    let h := if ends then runHandle x r.list.id st last else []
    if last then s.finishCmd u h else if h = [] then s else s.setRun u (some { r with out := h })

/-- IBX_OUTPUT_ROW (R172): the next row of a stream leaves the array, unless the array is held by a release, by its destination, or by a
full row buffer (R261, R276, R288). A group or micro-shift outside R160 or R162 stops the command at that row. -/
def execIbxOutputRow (a : Nat) (s : State) : Res :=
  if 96 ≤ a then .fault .noSuchPart
  else
    match s.curBusy (uIbex a) 0x21, (s.array a).stream with
    | some (r, c, x), some st =>
      if r.out ≠ [] || s.outHeld x c || (ctlOfmt c == 4 && decide (8 ≤ (s.array a).rows.length)) ||
          (st.left == 0 && st.ofs == streamLen c && decide (0 < st.row)) then .next s
      else
        match s.openGroup x st with
        | none => .next (s.stopStream a 0x41)
        | some st' =>
          let n := rowBytes st'.kind st'.p
          if streamLen c < st'.ofs + n then .next (s.stopStream a 0x41)
          else
            let rd := s.readSpans (s.readSp x [(streamRef c + st.ofs, st'.ofs - st.ofs + n)]) x.asOwner
            let t := rd.2
            let b := t.streamRd x c st'.ofs n
            let side := if st'.kind = 2 then byteField b 0 8 else 0
            let w : WRow := { kind := st'.kind, p := st'.p, side := side, planes := if st'.kind = 2 then b.drop 8 else b }
            if rd.1 then .next (t.stopStream a 0xAA)
            else if st'.kind = 2 ∧ !sideOk st'.p side then .next (t.stopStream a 0x41)
            else
              let f := t.fetch x ([(poolRef (st.addin + 1536 * st.row), if ctlAdd c then 6 * ctlN c else 0),
                                   (poolRef (cmdField c 36 4 + 2 * st.row), if ctlQ c then 2 else 0)])
              if f.1 ≠ 0 then .next (f.2.2.stopStream a f.1)
              else .next ((f.2.2.storeRow a x st' w).rowDone a r x st' w)
    | _, _ => .next s

/-! ### Checksums (R187 to R193) -/

/-- LOAD_SIG of a row (R193). -/
def loadSig (f : FedRow) : Nat :=
  packFields [(4, f.p), (2, f.kind), (8, f.live - 1), (4, f.early), (1, (decide (f.live ≤ 64)).toNat), (9, f.density), (4, min 15 f.throttle)]

/-- A checksum log entry (R192); the rail's reading is a free value (log entry 5). -/
def State.csumEntry (s : State) (a : Nat) (f : FedRow) (diff : Int) (rpt : Bool) : LogEntry :=
  let bin := s.binOf (uIbex a)
  BitVec.ofNat 256 (packFields [(64, (tcStamp s.now).toNat), (16, uIbex a), (16, f.ctx), (16, unsigned 16 (s.power.temp.get 0 (a / 8))),
    (16, Config.railMv s.drawn), (32, loadSig f), (32, unsigned 32 diff), (16, f.o), (3, bin / 4), (2, bin % 4), (1, rpt.toNat), (10, 0),
    (32, f.list.toNat)])

/-- An entry enters the checksum log ring of a region (R191). -/
def State.csumPush (s : State) (g : Nat) (e : LogEntry) : State :=
  let h := s.reg (Reg.IBX_CS_HEAD g)
  let s := { s with mat := { s.mat with csLog := s.mat.csLog.set (512 * g + h) e }, drawn := s.drawn + 1 }
  let s := s.setReg (Reg.IBX_CS_HEAD g) ((h + 1) % 512)
  let s := if s.reg (Reg.IBX_CS_COUNT g) < 512 then s.setReg (Reg.IBX_CS_COUNT g) (s.reg (Reg.IBX_CS_COUNT g) + 1)
    else (s.setReg (Reg.IBX_CS_TAIL g) ((s.reg (Reg.IBX_CS_TAIL g) + 1) % 512)).count (Reg.IBX_CS_LOST g) 1
  s.setReg (Reg.IBX_CS_TOTAL g) (min 0xFFFFFFFF (s.reg (Reg.IBX_CS_TOTAL g) + 1))

/-- A mismatch is logged and reported (R190 to R193, R203, R601, R662, R666). -/
def State.csumLog (s : State) (a : Nat) (f : FedRow) (diff : Int) : State :=
  let rpt := (s.array a).lastBad == some (f.list, f.ctx, f.o)
  let s := (s.csumPush (a / 8) (s.csumEntry a f diff rpt)).count (Reg.IBX_CSUM_CNT a) 1
  let s := s.setArray a { s.array a with lastBad := some (f.list, f.ctx, f.o + 1) }
  let s := if s.regBits (Reg.IBX_CS_CFG (a / 8)) 0 1 = 1 then s.raise pf0 2 else s
  let s := s.deduct (uIbex a) (if rpt then 300 else 100)
  s.healthLog 3 (uIbex a) f.ctx 0 (BitVec.ofNat 64 (unsigned 32 diff + f.o * 2 ^ 32))

/-- A row's check has passed under STOP: the run that it ends is released, and with the last row the command ends (R189, R270). -/
def State.checkPassed (s : State) (a : Nat) (f : FedRow) : State :=
  match s.curBusy (uIbex a) 0x21, (s.array a).stream with
  | some (r, _, x), some st =>
    if !f.stop || r.list.id != f.list || !f.endsRun then s
    else
      let h := runHandle x r.list.id { st with row := f.o } f.last
      if f.last then (s.setArray a { s.array a with stream := none }).finishCmd (uIbex a) (r.out ++ h)
      else (s.setArray a { s.array a with stream := some { st with runStart := f.o + 1 } }).setRun (uIbex a) (some { r with out := r.out ++ h })
  | _, _ => s

/-- CHECKSUM_COMPARE (R187 to R190): the oldest row that has left is compared; `diff` is the checksum accumulator less the sum of the
columns. -/
def execChecksumCompare (a : Nat) (diff : Int) (s : State) : Res :=
  if 96 ≤ a then .fault .noSuchPart
  else
    match (s.array a).unchecked with
    | [] => .next s
    | f :: rest =>
      let s := s.setArray a { s.array a with unchecked := rest }
      if diff = 0 then .next (s.checkPassed a f)
      else
        let s := s.csumLog a f diff
        let mine := match s.curBusy (uIbex a) 0x21 with | some (r, _, _) => r.list.id == f.list && r.list.ctx == f.ctx | none => false
        if f.stop && mine then
          let s := s.stopStream a 0x40
          .next (s.setArray a { s.array a with unchecked := (s.array a).unchecked.filter (fun k => !k.stop) })
        else .next s

/-- IBX_CS_ACK (R191): entries acknowledged, at most those held. -/
def execIbxCsAck (g n : Nat) (s : State) : Res :=
  if 12 ≤ g then .fault .noSuchPart
  else .next (s.bar2 (Reg.IBX_CS_ACK g) 4 n (fun (s : State) =>
    let k := min (n % 2 ^ 10) (s.reg (Reg.IBX_CS_COUNT g))
    let s := s.setReg (Reg.IBX_CS_TAIL g) ((s.reg (Reg.IBX_CS_TAIL g) + k) % 512)
    s.setReg (Reg.IBX_CS_COUNT g) (s.reg (Reg.IBX_CS_COUNT g) - k)))

end Sys2Proof.Machine
end

