-- ==== Sys2Proof/Machine/Memory.lean ====
section
/-! DEFINITION. The commands of the memory tiers (R489, R501 to R503, R512 to R514, R521). -/
namespace Sys2Proof.Machine

/-- The migration of a page, if one is accepted. -/
def State.mig (s : State) (page : Nat) : Option Migration := s.tiers.migs.find? (fun m => m.dir.page == page)

def State.setMig (s : State) (m : Migration) : State :=
  { s with tiers := { s.tiers with migs := s.tiers.migs.map (fun x => if x.dir.page = m.dir.page then m else x) } }

/-- MIGRATION_START (R503): it starts when its region carries fewer than 16 and none accepted before it in the region waits to start. -/
def execMigrationStart (page : Nat) (s : State) : Res :=
  match s.mig page with
  | none => .next s
  | some m =>
    let mine := s.tiers.migs.filter (fun x => x.dir.region == m.dir.region)
    if !m.started && decide ((mine.filter (fun x => x.started)).length < 16) && ((mine.find? (fun x => !x.started)) == some m) then
      .next (s.setMig { m with started := true })
    else .next s

/-- MIGRATION_LINE (R498, R501, R513): the next line is read from the old frame and written to the new one, poison with it; a fill writes
zeros, which its frame has read as since it was mapped (R502). -/
def execMigrationLine (page : Nat) (s : State) : Res :=
  match s.mig page with
  | none => .next s
  | some m =>
    let g := m.dir.region
    let b := s.sched.band.get {} g
    if !m.started || decide (m.lines ≤ m.line) || !s.migAdmitted m || decide (s.share g 1 < b.wr + 64) ||
        (!m.fill && decide (s.share g 0 < b.rd + 64)) then .next s
    else
      let e := s.page page
      let o := frameAt e.tier e.die e.frame (64 * m.line)
      let n := frameAt m.toTier m.toDie m.toFrame (64 * m.line)
      let t := m.dir.tenant
      let s := (s.charge g 1 64).acct t (if m.toTier = 1 then 8 else 10) 64
      let s := if m.fill then s
        else
          let s := ((s.charge g 0 64).acct t (if e.tier = 1 then 7 else 9) 64).count64 Reg.MEM_MIG_BYTES 64
          { s with mem := s.mem.copy o n 64, tiers := { s.tiers with poison :=
              (if s.tiers.poison.contains o && !s.tiers.poison.contains n then s.tiers.poison ++ [n] else s.tiers.poison) } }
      .next (s.setMig { m with line := m.line + 1 })

/-- MIGRATION_SWITCH (R501, R499, R506, R503): after the last line the entry names the new frame and MOVING clears; the frame left behind is
released, and the next directive on the page is evaluated. -/
def execMigrationSwitch (page : Nat) (s : State) : Res :=
  match s.mig page with
  | none => .next s
  | some m =>
    if m.line < m.lines then .next s
    else
      let e := s.page page
      let n := if m.dir.large then 32 else 1
      let s := { s with tiers := { s.tiers with migs := s.tiers.migs.filter (fun x => x.dir.page != page) } }
      let s := (s.count64 Reg.MEM_MIG_PAGES n).count (Reg.MEM_TENANT_MIG m.dir.tenant) (if m.dir.tenant < 1024 then n else 0)
      let clear (s : State) : State := s.eachPart page n (fun _ e => { e with moving := false })
      let s :=
        if m.fill then clear s
        else if e.shared then
          match s.claimRec e.claim with
          | none => clear s
          | some c => (clear (s.setClaim e.claim (c.setLoc m.toTier (some (m.toDie, m.toFrame))))).settleClaim e.claim
        else
          let s := s.eachPart page n (fun i e => { e with tier := m.toTier, die := m.toDie, frame := m.toFrame + i, moving := false })
          (s.leaveFrames e.tier e.die e.frame n).releaseUnits e.owner e.tier n
      .next (s.deferEval page)

/-- FRAME_FREE (R502): frames left behind 64 hub cycles ago or more are free; no access is in progress between two commands. -/
def execFrameFree (s : State) : Res :=
  let due := s.tiers.old.filter (fun o => decide (o.at0 + 64 ≤ s.time.hub))
  let s := due.foldl (fun s o => s.giveFrames o.tier o.die o.frame o.count) s
  .next { s with tiers := { s.tiers with old := s.tiers.old.filter (fun o => !decide (o.at0 + 64 ≤ s.time.hub)) } }

/-- MEMORY_REFRESH (R489): a bank refreshes; no bit changes. -/
def execMemoryRefresh (d : Nat) (_mere : Bool) (_bank : Nat) (s : State) : Res :=
  if 4 ≤ d then .fault .noSuchPart else .next s

/-- SCRUB (R514): the scrubber reads the next line of a die's Tarn or Mere, corrects it or poisons it. -/
def execScrub (d : Nat) (mere : Bool) (s : State) : Res :=
  if 4 ≤ d then .fault .noSuchPart
  else
    let k := if mere then 4 + d else d
    let i := s.tiers.scrub.get 0 k
    let lines := tierFrames (if mere then 2 else 1) * 1024
    let l := frameAt (if mere then 2 else 1) d 0 (64 * i)
    let s := { s with tiers := { s.tiers with scrub := s.tiers.scrub.set k ((i + 1) % lines) } }
    let s := s.count64 (Reg.MEM_DIE_HUB_SLOTS d) 1
    .next (s.readSpans [(l, 64)] (s.page (s.pageOf l)).owner).2

/-- MEM_LOG_ACK (R521, R191): entries acknowledged, at most those held; the tail advances. -/
def execMemLogAck (n : Nat) (s : State) : Res :=
  .next (s.bar2 Reg.MEM_LOG_ACK 4 n (fun (s : State) =>
    let k := min (n % 2 ^ 11) (s.reg Reg.MEM_LOG_COUNT)
    let s := s.setReg Reg.MEM_LOG_TAIL ((s.reg Reg.MEM_LOG_TAIL + k) % 1024)
    s.setReg Reg.MEM_LOG_COUNT (s.reg Reg.MEM_LOG_COUNT - k)))

end Sys2Proof.Machine
end

