-- ==== Sys2Proof/Machine/Package.lean ====
section
/-! DEFINITION. The commands of power, temperature and optics: ceilings, holds, the fast step, the thermal trip, signal on a fabric lane
(R527, R760 to R767, R771, R777, R782). -/
namespace Sys2Proof.Machine

/-- Do a die's regions hold a cell that is not OFF (R762)? -/
def State.radioDie (s : State) (d : Nat) : Bool :=
  s.radio.cells.any (fun (p : Nat × Cell) => p.2.en.st != .off && (match s.cellCfg p.1 with | none => false | some k => k.region / 3 == d))

def State.pCeil (s : State) (d : Nat) : Nat := s.power.p.get 32 d
def State.tCeil (s : State) (d : Nat) : Nat := s.power.t.get 32 d
def State.held (s : State) (d : Nat) : Bool := s.power.hold.get false d

def State.setP (s : State) (d n : Nat) : State := { s with power := { s.power with p := s.power.p.set d n } }
def State.setT (s : State) (d n : Nat) : State := { s with power := { s.power with t := s.power.t.set d n } }
def State.setHold (s : State) (d : Nat) (b : Bool) : State := { s with power := { s.power with hold := s.power.hold.set d b } }

/-- A ceiling has been lowered: counted, with a flag (R765, R782). -/
def State.stepped (s : State) (m : Nat) : State := (s.count Reg.HUB_THR_CNT 1).thrEvt m

/-! ### Temperature (R761, R771, R777) -/

/-- Hottest of a die's three region sensors and its own, 1/8 °C (R761). -/
def dieTemp (temps : List Int) (d : Nat) : Int :=
  [3 * d + 1, 3 * d + 2, 12 + d].foldl (fun m i => max m (temps.getD i 0)) (temps.getD (3 * d) 0)

/-- A die's thermal ceiling is revised (R761). -/
def State.reviseT (s : State) (t : Int) (d : Nat) : State :=
  let n := s.tCeil d
  if 800 ≤ t then
    (if 16 < n then ((s.setT d (n - 1)).stepped (if s.radioDie d then 0xA else 2)) else s)
  else if t ≤ 776 ∧ n < 32 then s.setT d (n + 1)
  else s

/-- THERMAL_REVISION (R761): the 17 sensors' temperatures in 1/8 °C. -/
def execThermalRevision (temps : List Int) (s : State) : Res :=
  if temps.length ≠ 17 then .fault .noSuchPart
  else .next ([0, 1, 2, 3].foldl (fun (s : State) d => s.reviseT (dieTemp temps d) d) (s.sensed temps))

/-- THERMTRIP (R771): every clock but the security unit's stops, and fronthaul egress and the fabric links with them. -/
def execThermtrip (s : State) : Res :=
  if !s.start.pwrOk ∨ s.power.thermTrip then .next s
  else
    let down (t : Tab FabPort) (p : Nat) : Tab FabPort := t.upd {} p (fun (x : FabPort) => { x with link := .down })
    .next { s with power := { s.power with thermTrip := true }, fab := { s.fab with ports := [0, 1, 2].foldl down s.fab.ports } }

/-! ### Power (R762 to R767) -/

/-- PLIMIT in 0.1 W units (R747). -/
def State.plimit (s : State) : Nat :=
  match s.regBits Reg.HUB_CFG 0 2 with
  | 0 => 3800
  | 1 => 4000
  | 2 => 4400
  | _ => 4800

/-- The die with the highest power ceiling above 16 among dies without radio work, the lowest on a tie (R762). -/
def State.lowerable (s : State) : Option Nat :=
  [0, 1, 2, 3].foldl (fun (b : Option Nat) d =>
    if s.radioDie d || decide (s.pCeil d ≤ 16) then b
    else match b with
      | none => some d
      | some e => if s.pCeil e < s.pCeil d then some d else b) none

/-- The die with the lowest power ceiling below 32 among dies without radio work, the lowest on a tie (R762). -/
def State.raisable (s : State) : Option Nat :=
  [0, 1, 2, 3].foldl (fun (b : Option Nat) d =>
    if s.radioDie d || decide (32 ≤ s.pCeil d) then b
    else match b with
      | none => some d
      | some e => if s.pCeil d < s.pCeil e then some d else b) none

/-- Above the limit: a step down, else a hold, else nothing is left to take (R762, R766). -/
def State.powerDown (s : State) : State :=
  match s.lowerable with
  | some d => (s.setP d (s.pCeil d - 1)).stepped 1
  | none =>
    match [0, 1, 2, 3].find? (fun d => s.radioDie d && !s.held d) with
    | some d => (s.setHold d true).thrEvt 0x10
    | none => s.thrEvt 0x20

/-- Below 95 % of the limit: a hold is released, else a step up (R762). -/
def State.powerUp (s : State) : State :=
  match [3, 2, 1, 0].find? (fun d => s.held d) with
  | some d => s.setHold d false
  | none =>
    match s.raisable with
    | some d => s.setP d (s.pCeil d + 1)
    | none => s

/-- Dies with radio work keep their full cclk; the others hold no inference (R762). -/
def State.powerBase (s : State) : State :=
  [0, 1, 2, 3].foldl (fun (s : State) d => if s.radioDie d then s.setP d 32 else s.setHold d false) s

/-- POWER_REVISION (R762, R765, R766): input power averaged over 10 µs and 100 µs, in 0.1 W units. -/
def execPowerRevision (p10 p100 : Nat) (s : State) : Res :=
  let k := s.power.ticks
  let s := { s with power := { s.power with ticks := k + 1 } }.powerBase
  if s.plimit < p10 then .next s.powerDown
  else if k % 10 = 0 ∧ p100 * 100 < s.plimit * 95 then .next s.powerUp
  else .next s

/-- The inference grains of a die stop as at a hard-stop point; the stop does not count towards MAX_RERUN (R126, R128, R764). -/
def State.fastStop (s : State) (d : Nat) : State :=
  [3 * d, 3 * d + 1, 3 * d + 2].foldl (fun (s : State) g =>
    let l := s.busyUnits g false
    let s := (l.foldl (fun (s : State) u => (s.stopGrain u false).quarSettled s u) s).reapSteps
    if l = [] then s else (s.count (Reg.CYC_STOP_CNT g) l.length).cycEvt g 1) s

/-- A die under the fast step (R764). -/
def State.fastDie (s : State) (d : Nat) : State :=
  if s.radioDie d then ((s.setHold d true).thrEvt 0x10).fastStop d
  else if 16 < s.pCeil d then (s.setP d (max 16 (s.pCeil d - 4))).count Reg.HUB_THR_CNT 1
  else s

/-- FAST_STEP (R764): none within 10 µs of the last. -/
def execFastStep (s : State) : Res :=
  let wait := match s.power.fastAt with
    | none => false
    | some t => decide (s.time.hub < t + 16000)
  if wait then .next s
  else
    let s := ({ s with power := { s.power with fastAt := some s.time.hub } }).thrEvt 4
    .next ([0, 1, 2, 3].foldl (fun (s : State) d => s.fastDie d) s)

/-! ### Optics (R527) -/

/-- SIGNAL_ON (R527): an enabled port in DOWN trains. -/
def execSignalOn (p : Nat) (s : State) : Res :=
  if 3 ≤ p then .fault .noSuchPart
  else
    let en := s.host.ports.get {} (16 + p)
    if (s.port p).link ≠ .down ∨ en.st = .off then .next s else .next (s.setPort p { s.port p with link := .train })

end Sys2Proof.Machine
end

