-- ==== Sys2Proof/Machine/RegView.lean ====
section
/-! DEFINITION. What the 32-bit registers that show a part of the state read as (R16, R97, R100, R108, R109, R148, R152, R201, R299, R304, R379,
R427, R428, R471, R475, R518, R580, R609, R657, R704, R705, R747, R748, R782). -/
namespace Sys2Proof.Machine

/-- A signed number in 32 bits. -/
def int32 (x : Int) : Nat := (BitVec.ofInt 32 x).toNat

/-! ### Time unit (R97, R100, R108, R109) -/

/-- `TIM_STATUS` (R100). -/
def State.timStatus (s : State) : Nat :=
  let t := s.time
  packFields [(3, t.st.code), (1, 0), (2, t.src), (4, t.ptpPort), (1, t.synce.toNat), (1, t.bcn1.toNat),
    (3, packBits [t.pps.qual, t.ptp.qual, t.bcn.qual]), (1, 0), (3, packBits [t.pps.disq, t.ptp.disq, t.bcn.disq])]

/-- Occupancy of a launch point's comparators (R108). -/
def State.cmpWord (s : State) (pt : Nat) : Nat :=
  let l := s.sched.cmps.filter (fun (c : Cmp) => c.pt == pt)
  let busy := (List.range 8).foldl (fun n i => n + (if l.any (fun (c : Cmp) => c.idx == i) then 2 ^ i else 0)) 0
  packFields [(8, busy), (8, (l.filter (fun (c : Cmp) => c.armed)).length), (8, (l.filter (fun (c : Cmp) => c.group.isSome)).length)]

def GrpState.code : GrpState → Nat
  | .free => 0
  | .arming => 1
  | .ready => 2
  | .committed => 3
  | .aborted => 4
  | .orphaned => 5

/-- `TIM_GRP_STATE` of the selected group (R109). -/
def State.grpWord (s : State) : Nat :=
  let x := s.group (s.regBits Reg.TIM_GRP_SEL 0 8)
  packFields [(3, x.st.code), (1, x.owner.toNat), (9, x.armed), (6, (x.members.filter (fun (m : GMember) => m.ready)).length)]

def State.viewTim (s : State) (a v : Nat) : Nat :=
  if a = Reg.TIM_STATUS then s.timStatus
  else if a = Reg.TIM_OFFSET then int32 s.time.offset
  else if a = Reg.TIM_FREQ then int32 s.time.freq
  else if a = Reg.TIM_HOLD_TE then s.holdTe % 2 ^ 32
  else if a = Reg.TIM_GRP_STATE then s.grpWord
  else if Reg.TIM_CMP 0 ≤ a ∧ a < Reg.TIM_CMP 48 then s.cmpWord ((a - Reg.TIM_CMP 0) / 4)
  else if Reg.TIM_KUD_CMP 0 ≤ a ∧ a < Reg.TIM_KUD_CMP 12 then s.cmpWord (48 + (a - Reg.TIM_KUD_CMP 0) / 4)
  else v

/-! ### Regions, clusters, units (R148, R152, R201, R299, R304, R377, R379, R427, R428) -/

/-- `CYC_CUR` (R148). -/
def State.cycCur (s : State) (g : Nat) : Nat :=
  let r := s.region g
  packFields [(12, r.entry), (1, r.gap.toNat), (2, if r.gap then 0 else r.cls), (1, (s.inGuard g s.now).toNat), (1, (s.pastStop g s.now).toNat),
    (1, r.active.toNat)]

/-- Units of a cluster. -/
def cluUnits (c : Nat) : List Nat := [uIbex (2 * c), uIbex (2 * c + 1), uVec c, uMov c] ++ (List.range 4).map (fun i => uChm (4 * c + i))

/-- `CLU_STATE` (R152). -/
def State.cluState (s : State) (c : Nat) : Nat :=
  packFields [(1, (!s.clusterOut c && (cluUnits c).any s.unitIn).toNat), (1, (s.clusterOut c).toNat), (3, (s.residents c none).length),
    (1, (s.cluster c).swap.isSome.toNat)]

/-- Opcode of the command in progress on a unit, none while it waits or is idle. -/
def State.busyOp (s : State) (u : Nat) : Option Nat :=
  match s.run u with
  | none => none
  | some r => if r.stage = .busy ∨ r.stage = .ready then r.buf.head?.map cOp else none

/-- Does a unit's command wait on a handle, or release into a full queue (R287, R288)? -/
def State.waitsOn (s : State) (u : Nat) (st : Stage) : Bool :=
  match s.run u with
  | none => false
  | some r => r.stage == st

/-- `IBX_STATE` of array `a` (R201). -/
def State.ibxState (s : State) (a : Nat) : Nat :=
  let i := s.mat.arrays.get {} a
  let ctl := match i.stream with
    | none => 0
    | some st => bits st.cmd 448 64
  let n := ctl / 2 % 512
  let idle := match i.planeAt with
    | none => 256
    | some t => min 256 ((s.now - t) * 10000 / s.cycTc 10000)
  packFields [(2, i.act), (1, i.frozen.toNat), (1, (decide (0 < i.ramp)).toNat), (4, min 8 i.ramp),
    (1, (i.stream.isSome && decide (n ≤ 64)).toNat), (1, (s.excluded (uIbex a)).toNat), (1, (decide (ctl / 2 ^ 10 % 256 ≠ 0)).toNat), (9, idle)]

/-- `IBX_RAMP_MASK` of region `g` (R203). -/
def State.rampMask (s : State) (g : Nat) : Nat :=
  (List.range 8).foldl (fun n i => n + (if 0 < (s.mat.arrays.get {} (8 * g + i)).ramp then 2 ^ i else 0)) 0

/-- `MOV_STATE` of cluster `c` (R299). -/
def State.movState (s : State) (c : Nat) : Nat :=
  let u := uMov c
  let act := match s.busyOp u with
    | none => 0
    | some o => if o = 0xA0 ∨ o = 0xA2 then 1 else if o = 0xA1 ∨ o = 0xA6 ∨ o = 0xA7 then 2 else 3
  let b := s.sched.band.get {} (c / 4)
  packFields [(2, act), (1, (act != 0 && (b.rdFull || b.wrFull || b.rmFull)).toNat), (1, (s.waitsOn u .onHandle).toNat),
    (1, (s.waitsOn u .releasing).toNat), (1, (s.excluded u).toNat)]

/-- `VEC_STATE` of cluster `c` (R304). -/
def State.vecState (s : State) (c : Nat) : Nat :=
  let u := uVec c
  let rows := (s.mat.arrays.get {} (2 * c)).rows != [] || (s.mat.arrays.get {} (2 * c + 1)).rows != []
  packFields [(3, (s.mat.vecs.get {} c).act), (1, (s.waitsOn u .onHandle).toNat), (1, (rows && (s.busyOp u).isSome).toNat),
    (1, (s.excluded u).toNat)]

/-- `CHM_STATE` of core `k` (R379). -/
def State.chmState (s : State) (k : Nat) : Nat :=
  let x := s.chm.get {} k
  packFields [(3, x.act), (1, 0), (1, (s.waitsOn (uChm k) .onHandle).toNat), (1, (s.excluded (uChm k)).toNat), (3, x.loops.length), (1, x.aovf.toNat)]

/-- `KUD_STATE` of region `g` (R427). -/
def State.kudState (s : State) (g : Nat) : Nat :=
  let act := match s.busyOp (uKud g) with
    | none => 0
    | some o => if o = 0x80 ∨ o = 0x81 then 2 else 3
  let r := s.region g
  packFields [(2, act), (1, 0), (1, (s.excluded (uKud g)).toNat), (1, (!r.gap && r.cls == 1).toNat)]

def State.viewUnits (s : State) (a v : Nat) : Nat :=
  let o := a % 2 ^ 20
  match a / 2 ^ 20 with
  | 0x2 | 0x3 => if a % 2 ^ 17 = 0x10 then s.cycCur ((a - 0x200000) / 2 ^ 17) else v
  | 0x4 =>
    if o = 0x40000 then (s.sched.ctxs.filter (fun (p : Nat × Ctx) => !p.2.resident)).length
    else if o % 0x1000 = 0x10 then s.cluState (o / 0x1000)
    else if o % 0x1000 = 0x38 then s.poolFree (o / 0x1000) else v
  | 0x5 => if o < 0x40000 then s.ibxState (o / 0x800) else if (o - 0x40000) % 0x8000 = 0x20 then s.rampMask ((o - 0x40000) / 0x8000) else v
  | 0x6 => if o % 0x400 = 0x10 then s.chmState (o / 0x400) else if o % 0x400 = 0x58 then (s.chm.get {} (o / 0x400)).owner.getD 0 else v
  | 0x7 =>
    let g := o / 0x1000
    if o % 0x1000 = 8 then s.kudState g else if o % 0x1000 = 0x18 then s.capNow g % 256 + s.capUsed g % 256 * 256 else v
  | 0x8 => s.vecState (o / 0x400)
  | 0x9 => s.movState (o / 0x400)
  | _ => v

/-! ### Memory, fronthaul, shaper, fabric, host (R471, R475, R518, R521, R577, R580, R609, R624) -/

def LinkSt.code : LinkSt → Nat
  | .down => 0
  | .train => 1
  | .up => 2
  | .replay => 3
  | .lost => 4

/-- `FAB_PORT_STATE` of plane `p` (R580): the image disables no port. -/
def State.fabPortWord (s : State) (p : Nat) : Nat :=
  let x := s.port p
  let note (lost : Bool) : Bool := s.fab.paths.any (fun (n : PathNote) => n.plane == p && n.lost == lost)
  packFields [(3, x.link.code), (1, 1), (12, x.held.length), (1, (note false).toNat), (1, (note true).toNat)]

/-- `FHL_PORT_STATE` of port `p` (R471). -/
def State.fhPortWord (s : State) (p : Nat) : Nat :=
  let l := s.front.link.get (false, false) p
  packBits [l.1, l.2, s.time.ptpSlave && s.time.ptpPort == p]

/-- The function that `HIF_FSTATE` shows: the target of the last `HIF_FCTL` write (R609, R624). -/
def State.fctlTarget (s : State) : Enable :=
  let i := s.host.fsel.2
  match s.host.fsel.1 with
  | 1 => (s.fn i).en
  | 2 => (s.unit i).en
  | 3 => s.host.ports.get {} i
  | 4 => s.host.ports.get {} (16 + i)
  | _ => {}

/-- `HIF_FSTATE` (R624). -/
def State.fstateWord (s : State) : Nat := packFields [(2, s.fctlTarget.st.code), (1, s.fctlTarget.pend.toNat), (1, s.host.frej.toNat)]

def State.viewIo (s : State) (a v : Nat) : Nat :=
  let o := a % 2 ^ 20
  let d := (o - 0x10000) / 0x100
  match a / 2 ^ 20 with
  | 0xA =>
    if a = Reg.MEM_MIG_STATE then s.tiers.migs.length % 256 + s.tiers.waiting.length % 2 ^ 13 * 256
    else if a = Reg.MEM_CLAIMS then s.tiers.claims.length % 2 ^ 17
    else if 0x10000 ≤ o ∧ o < 0x10400 then
      (match o % 0x100 with
       | 0x00 => s.freeFrames 1 d
       | 0x04 => s.freeFrames 2 d
       | 0x20 => (Config.memHot d s.time.hub).toNat + (Config.memHot (4 + d) s.time.hub).toNat * 2
       | _ => v)
    else v
  | 0xB =>
    if a = Reg.FAB_OUTSTANDING then s.fab.reqs.length
    else if a = Reg.FAB_RC_USE then s.fab.replies.length
    else if a = Reg.FAB_INQ then s.fab.inq.length
    else if a = Reg.FAB_RATC_USE then (s.fab.ratc.filter (fun (p : Nat × Ratc) => p.2.valid)).length
    else if 0x1000 ≤ o ∧ o < 0x1300 ∧ o % 0x100 = 0 then s.fabPortWord ((o - 0x1000) / 0x100)
    else if 0x2000 ≤ o ∧ o < 0x2300 ∧ o % 0x40 = 0 then (s.fab.reqs.filter (fun (r : Req) => r.region == (o - 0x2000) / 0x40)).length
    else v
  | 0xC =>
    let q := s.regBits Reg.SHP_HIST_SEL 0 14
    if 0x100 ≤ o ∧ o < 0x180 then s.front.hist.get 0 (32 * q + (o - 0x100) / 4) % 2 ^ 32 else v
  | 0xD => if 0x1000 ≤ o ∧ o < 0x2000 ∧ o % 0x100 = 0x10 then s.fhPortWord ((o - 0x1000) / 0x100) else v
  | 0xE => if a = Reg.HIF_LINK then Config.hostLink % 256 else if a = Reg.HIF_FSTATE then s.fstateWord else v
  | _ => v

/-! ### Recorder, health, start, power, security (R657, R704, R705, R747, R748, R782) -/

def RplSt.code : RplSt → Nat
  | .idle => 0
  | .recording => 1
  | .full => 2
  | .replaying => 3
  | .replayEnd => 4
  | .stopped => 5

def PairSt.code : PairSt → Nat
  | .none => 0
  | .pairing => 1
  | .paired => 2
  | .lost => 3
  | .refused => 4

def State.viewHealth (s : State) (a v : Nat) : Nat :=
  let u := s.regBits Reg.HLT_SEL 0 16
  if a = Reg.HLT_STATE then packFields [(3, s.health.role.code), (1, s.health.fenced.toNat), (5, s.degCauses)]
  else if a = Reg.HLT_PAIR then packFields [(12, s.health.pairNode), (3, s.health.pair.code), (1, s.health.taken.toNat)]
  else if a = Reg.HLT_EXPEL then s.expelWord
  else if a = Reg.HLT_SEL_STATE then s.selState u
  else if Reg.HLT_SCORE 0 ≤ a ∧ a < Reg.HLT_SCORE 32 then s.score u ((a - Reg.HLT_SCORE 0) / 4)
  else v

/-- The phase shown: of those running, the last in order (R708, R747): P5 runs alongside P3 and P4. -/
def Start.phaseShown (x : Start) : Nat := if (x.phase = 3 ∨ x.phase = 4) ∧ !x.p5done then 5 else x.phase

/-- `HUB_FUSE` (R747). -/
def State.fuseWord (s : State) : Nat :=
  packFields [(6, s.start.svnMin), (4, s.start.revoke), (1, s.start.ownerSet.toNat), (1, s.start.identErased.toNat), (1, s.start.debugOff.toNat)]

/-- `HUB_TEMP` of sensor `i` (R782). -/
def State.tempWord (s : State) (i : Nat) : Nat :=
  (BitVec.ofInt 16 (s.power.temp.get 0 i)).toNat + (BitVec.ofInt 16 (s.power.peak.get 0 i)).toNat * 2 ^ 16

def State.viewHubs (s : State) (a v : Nat) : Nat :=
  if a = Reg.HUB_STATE then s.start.dev.code + s.start.phaseShown * 16
  else if a = Reg.HUB_START_MS then s.start.startMs
  else if a = Reg.HUB_FUSE then s.fuseWord
  else if a = Reg.HUB_PWR_IN then Config.pwrIn s.time.hub % 2 ^ 32
  else if a = Reg.HUB_PWR_W then s.power.pin
  else if a = Reg.HUB_CCLK then (List.range 4).foldl (fun n d => n + s.nDie d * 2 ^ (8 * d)) 0
  else if Reg.HUB_TEMP 0 ≤ a ∧ a < Reg.HUB_TEMP 17 then s.tempWord ((a - Reg.HUB_TEMP 0) / 4)
  else v

/-- The 32 bits `i` of a 48-byte string: its bytes in order, in the byte order of R14. -/
def shaWord (h : BitVec 384) (i : Nat) : Nat := leNat (((msBytes 48 h.toNat).drop (4 * i)).take 4)

/-- `SEC_KEY_STATE` of a slot (R748). -/
def State.keyWord (s : State) (i : Nat) : Nat := let k := s.start.keys.get {} i; k.st + k.owner % 2 ^ 10 * 4

def State.viewSec (s : State) (a v : Nat) : Nat :=
  let o := a % 2 ^ 20
  if a = Reg.SEC_STATE then packFields [(1, (!s.start.identErased).toNat), (1, Bool.toNat s.start.debug), (2, s.start.action)]
  else if 0x80 ≤ o ∧ o < 0xC0 then bits s.start.nonce ((o - 0x80) * 8) 32
  else if 0x200 ≤ o ∧ o < 0x600 then shaWord (s.start.mr.get 0 ((o - 0x200) / 0x40)) (o % 0x40 / 4)
  else if 0x3000 ≤ o ∧ o < 0x3400 then s.keyWord ((o - 0x3000) / 4)
  else v

/-- What a 32-bit register shows: a part of the state, or its stored value. -/
def State.view32 (s : State) (a v : Nat) : Nat :=
  match a / 2 ^ 20 with
  | 0x0 => s.viewHubs a v
  | 0x1 => s.viewTim a v
  | 0xF => s.viewSec a v
  | 0x10 => s.viewHealth a v
  | 0x12 => if a = Reg.RPL_STATE then packFields [(3, s.rpl.st.code), (1, s.rpl.replayable.toNat), (1, (s.rpl.xfer != 0).toNat)] else v
  | n => if n < 0xA then s.viewUnits a v else s.viewIo a v

end Sys2Proof.Machine
end

