-- ==== Sys2Proof/Machine/RegAccess.lean ====
section
/-! DEFINITION. The host's register accesses: what the 64-bit registers and the function pages show, and what writes and reads do (R16 to R22,
R622 to R625, R783). -/
namespace Sys2Proof.Machine

/-! ### What registers show -/

/-- Context, command index and low half of the LIST_ID of a unit's list (R200, R298, R303, R377, R426); no rule gives the value of an idle unit. -/
def State.curWord (s : State) (u : Nat) : Nat :=
  match s.run u with
  | none => Config.idleCur u % 2 ^ 64
  | some r => r.list.ctx % 2 ^ 16 + r.idx % 2 ^ 16 * 2 ^ 16 + bits r.list.id 0 32 * 2 ^ 32

/-- `CLU_SLOT[i]` of cluster `c` (R153). -/
def State.slotWord (s : State) (c i : Nat) : Nat :=
  match (s.residents c none).find? (fun x => x.slot == i) with
  | none => 0
  | some x =>
    let st := match x.st with | .running => 1 | .ready => 2 | .blocked => 3 | .swapOut => 4 | .swapIn => 5 | .swappedReady => 0 | .swappedBlocked => 0
    let us := if x.st = .blocked then min (2 ^ 32 - 1) ((s.now - x.blockedSince) * 100 / 196608) else 0
    packFields [(16, x.id), (10, if x.radio then 0 else x.owner), (1, x.radio.toNat), (1, x.deadline.toNat), (3, st), (1, 0), (32, us)]

/-- `MOV_HQ[i]` of cluster `c` (R300). -/
def State.hqWord (s : State) (c i : Nat) : Nat :=
  match (s.residents c none).find? (fun x => x.slot == i) with
  | none => 0
  | some x =>
    let held (q : Nat) : Nat := match x.hqueue q with
      | [] => 0
      | h :: _ => if !h.visible && h.visSet then 2 ^ (48 + q) else 0
    (List.range 8).foldl (fun n q => n + (x.hqueue q).length * 2 ^ (6 * q) + held q) 0

/-- `HIF_VF[v]` (R624). -/
def State.vfWord (s : State) (v : Nat) : Nat :=
  let x := s.fn v
  packFields [(2, x.en.st.code), (1, x.en.pend.toNat), (8, x.gen), (1, x.flr.toNat)]

/-- `SHP_QSTAT[q]` (R476). -/
def State.qstatWord (s : State) (q : Nat) : Nat :=
  let x := s.shpQ q
  x.bytes % 2 ^ 32 + min 65535 x.pkts.length * 2 ^ 32 + x.active.toNat * 2 ^ 48

/-- `HUB_CEIL` (R782). -/
def State.ceilWord (s : State) : Nat :=
  (List.range 4).foldl (fun n d => n + (s.power.p.get 32 d + s.power.t.get 32 d * 2 ^ 8 + (s.power.hold.get false d).toNat * 2 ^ 14) * 2 ^ (16 * d)) 0

/-- `HUB_START` and the two SLOT registers (R747). -/
def State.startWord (s : State) : Nat :=
  packFields [(1, s.start.slot), (1, s.start.fallback.toNat), (4, s.start.fullTrain), (8, s.start.cause), (18, s.start.entry)]

def SlotHdr.word (x : SlotHdr) : Nat := packFields [(4, x.check), (6, x.svn), (22, 0), (32, x.seq)]

/-- Blocks TIM_, CYC_, CLU_ and the engines'. -/
def State.viewEngines (s : State) (a v : Nat) : Nat :=
  let o := a % 2 ^ 20
  match a / 2 ^ 20 with
  | 0x1 => if a = Reg.TIM_NOW then (tcStamp s.now).toNat else if a = Reg.TIM_GRP_STAMP then (s.group (s.regBits Reg.TIM_GRP_SEL 0 8)).stamp.toNat else v
  | 0x2 | 0x3 => if a % 2 ^ 17 = 0x18 then (match s.nextClose ((a - 0x200000) / 2 ^ 17) s.now with | none => 2 ^ 64 - 1 | some t => (tcStamp t).toNat) else v
  | 0x4 => if o < 0x40000 ∧ 0x18 ≤ o % 0x1000 ∧ o % 0x1000 < 0x38 then s.slotWord (o / 0x1000) ((o % 0x1000 - 0x18) / 8) else v
  | 0x5 =>
    if o < 0x40000 then (if o % 0x800 = 0x18 then s.curWord (uIbex (o / 0x800)) else v)
    else
      let k := (o - 0x40000) % 0x8000
      if 0x2000 ≤ k ∧ k < 0x6000 then bits (s.mat.csLog.get 0 (512 * ((o - 0x40000) / 0x8000) + (k - 0x2000) / 32)) (k % 32 * 8) 64 else v
  | 0x6 => if o % 0x400 = 0x18 then s.curWord (uChm (o / 0x400)) else v
  | 0x7 => if o % 0x1000 = 0x10 then s.curWord (uKud (o / 0x1000)) else v
  | 0x8 => if o % 0x400 = 0x10 then s.curWord (uVec (o / 0x400)) else v
  | 0x9 =>
    if 0x40000 ≤ o then v
    else if o % 0x400 = 0x10 then s.curWord (uMov (o / 0x400))
    else if 0x40 ≤ o % 0x400 ∧ o % 0x400 < 0x60 then s.hqWord (o / 0x400) ((o % 0x400 - 0x40) / 8)
    else v
  | _ => v

/-- The other blocks. -/
def State.viewHub (s : State) (a v : Nat) : Nat :=
  let o := a % 2 ^ 20
  match a / 2 ^ 20 with
  | 0x0 =>
    if a = Reg.HUB_START then s.startWord
    else if a = Reg.HUB_SLOT_A then (s.start.slots.get {} 0).word
    else if a = Reg.HUB_SLOT_B then (s.start.slots.get {} 1).word
    else if a = Reg.HUB_CEIL then s.ceilWord else v
  | 0xA =>
    if 0x20000 ≤ o ∧ o < 0x28000 ∧ o % 0x20 = 8 then s.used ((o - 0x20000) / 0x20) 1 + s.used ((o - 0x20000) / 0x20) 2 * 2 ^ 32
    else if 0x30000 ≤ o ∧ o < 0x34000 then bits (s.tiers.log.get 0 ((o - 0x30000) / 16)) (o % 16 * 8) 64
    else v
  | 0xC =>
    if 0x1000 ≤ o ∧ o < 0x1260 ∧ o % 0x20 = 8 then (s.front.v.get 0 ((o - 0x1000) / 0x20)).toNat
    else if 0x40000 ≤ o ∧ o < 0x60000 then s.qstatWord ((o - 0x40000) / 8) else v
  | 0xE => if 0x1000 ≤ o ∧ o < 0x3000 then s.vfWord ((o - 0x1000) / 8) else v
  | 0x10 =>
    if a = Reg.HLT_SHADOW_STATE then s.health.shRun % 2 ^ 32 + min 65535 s.health.shMiss * 2 ^ 32
    else if 0x2000 ≤ o ∧ o < 0x4000 then bits (s.health.log.get 0 ((o - 0x2000) / 32)) (o % 32 * 8) 64 else v
  | 0x11 => if 0x10000 ≤ o then s.host.acct.shown.get 0 (16 * ((o - 0x10000) / 0x100) + o % 0x100 / 8) % 2 ^ 64 else v
  | 0x12 => if a = Reg.RPL_HEAD then s.rpl.head % 2 ^ 64 else if a = Reg.RPL_NEXT_SEQ then s.rpl.nextSeq % 2 ^ 64 else v
  | _ => v

/-- What a register of BAR2 shows: a constant, a part of the state, or its stored value; a write-only one 0 (R16). -/
def State.bar2View (s : State) (r : RegRow) (a : Nat) : Nat :=
  match r.acc with
  | .wo => 0
  | .ro => if r.fix ≠ 0 then r.fix else if r.width = 4 then s.view32 a (s.reg a) else if a < 0xA00000 ∧ 0x100000 ≤ a then s.viewEngines a (s.reg a) else s.viewHub a (s.reg a)
  | .rw => s.reg a
  | .rw1c => s.reg a
  | .rc => s.reg a
  | .lk => s.reg a

/-- Queue-pair registers of a function page, at offset `o` of the pair's block (R622, R623). -/
def QPair.view (x : QPair) (o : Nat) : Nat :=
  match o with
  | 0x00 => x.sqBase.toNat
  | 0x08 => x.cqBase.toNat
  | 0x10 => packFields [(12, x.sqSize), (12, x.cqSize), (1, x.ssi.toNat), (1, (x.en.st == .on || x.en.st == .starting).toNat), (2, x.en.st.code),
      (1, x.en.pend.toNat), (1, x.err.toNat)]
  | 0x18 => x.count + x.time * 2 ^ 8
  | 0x20 => packFields [(12, x.sqHead), (12, x.sqTail), (12, x.cqTail), (9, x.store.length)]
  | 0x28 => x.ssiBase.toNat
  | _ => 0

/-- What a register of a function page shows: bits 63 to 48 are the status word (R622, R623). -/
def State.pageView (s : State) (f o : Nat) : Nat :=
  let x := s.fn f
  let v := match o with
    | 0x00 => f % 2 ^ 11 + (if f = pf0 then 0 else x.gen) * 2 ^ 11
    | 0x08 => packFields [(2, if f = pf0 then 2 else x.en.st.code), (1, x.en.pend.toNat), (1, x.flr.toNat)]
    | 0x10 => x.attn.toNat
    | 0x18 => x.attnCq + x.attnHold * 2 ^ 3
    | 0x20 => x.aperture.toNat
    | 0x28 => x.dberr
    | 0x30 => x.aperr
    | o => if 0x100 ≤ o ∧ o < 0x300 then (s.qp f ((o - 0x100) / 0x40)).view (o % 0x40) else 0
  v % 2 ^ 48 + (s.statusWord f).toNat * 2 ^ 48

/-! ### Writes (R16, R19, R20) -/

/-- Half `hi` (4 bytes) or all of an old value replaced (R21). -/
def mergeHalf (old v width : Nat) (hi : Bool) : Nat :=
  if width = 8 then v % 2 ^ 64 else if hi then old % 2 ^ 32 + v % 2 ^ 32 * 2 ^ 32 else old / 2 ^ 32 * 2 ^ 32 + v % 2 ^ 32

/-- A write of a register's bits by its access code; reserved bits are ignored, and registers with commands act by those commands' rows. -/
def State.writeRow (s : State) (r : RegRow) (a v width : Nat) (hi : Bool) : State :=
  match r.acc with
  | .rw => s.setReg a ((s.reg a &&& (2 ^ 64 - 1 - r.mask)) ||| (mergeHalf (s.reg a) v width hi &&& r.mask))
  | .rw1c => s.setReg a (s.reg a &&& (2 ^ 64 - 1 - (mergeHalf 0 v width hi &&& r.mask)))
  | .ro => s
  | .wo => s
  | .rc => s
  | .lk => s

/-- The register that an access of BAR2 names: its row, its address, and whether the access is to the high half of a 64-bit one (R21). -/
def regHit (ofs width : Nat) : Option (RegRow × Nat × Bool) :=
  if ofs % width ≠ 0 ∨ !(width == 4 || width == 8) then none
  else
    match regRowAt ofs with
    | some r => some (r, ofs, false)
    | none =>
      if width = 4 ∧ ofs % 8 = 4 then
        (match regRowAt (ofs - 4) with
         | some r => if r.width = 8 then some (r, ofs - 4, true) else none
         | none => none)
      else none

/-- A write of a queue-pair register; bases change only while the pair is OFF (R622, R623). -/
def State.writePair (s : State) (f q o v : Nat) : State :=
  let x := s.qp f q
  let base : DWord := BitVec.ofNat 64 (v % 2 ^ 48 / 4096 * 4096)
  let off := x.en.st == .off
  match o with
  | 0x00 => if off then s.setQp f q { x with sqBase := base } else s
  | 0x08 => if off then s.setQp f q { x with cqBase := base } else s
  | 0x10 =>
    let s := s.setQp f q { x with sqSize := v % 2 ^ 12, cqSize := v / 2 ^ 12 % 2 ^ 12, ssi := (v.testBit 24) && f == pf0 }
    if v.testBit 25 then s.qpEnable f q else s.qpDisable f q
  | 0x18 => s.setQp f q { x with count := v % 2 ^ 8, time := v / 2 ^ 8 % 2 ^ 10 }
  | 0x28 => if off && f == pf0 then s.setQp f q { x with ssiBase := base ||| BitVec.ofNat 64 (v % 2 ^ 4) } else s
  | _ => s

/-- A write of a function page, the MSI-X table's vector control included (R606, R622, R623). -/
def State.writePage (s : State) (f o v : Nat) : State :=
  let x := s.fn f
  if o = 0x10 then s.attnClear f (v % 256)
  else if o = 0x18 then s.setFn f { x with attnCq := v % 8, attnHold := v / 8 % 2 ^ 10 }
  else if o = 0x20 then
    s.setFn f { x with aperture := BitVec.ofNat 64 (if f = pf0 then v % 2 ^ 48 / 2 ^ 30 * 2 ^ 30 else v % 2 ^ 48 / 2 ^ 28 * 2 ^ 28) }
  else if 0x100 ≤ o ∧ o < 0x300 then s.writePair f ((o - 0x100) / 0x40) (o % 0x40) v
  else if 0x2000 ≤ o ∧ o < 0x2080 ∧ o % 16 = 8 then
    (if v.testBit 32 then s.setFn f { x with masked := x.masked ||| BitVec.ofNat 8 (2 ^ ((o - 0x2000) / 16)) }
     else s.unmask f ((o - 0x2000) / 16))
  else s

/-- Half or all of a function page's register written: what is not written stays as it reads. -/
def State.writePageHalf (s : State) (f ofs v width : Nat) : State :=
  let a := ofs / 8 * 8
  let old := if a = 0x10 then 0 else if 0x2000 ≤ a then ((s.fn f).masked.getLsbD ((a - 0x2000) / 16)).toNat * 2 ^ 32 else s.pageView f a
  s.writePage f a (mergeHalf old v width (ofs % 8 == 4))

/-- REGISTER_WRITE (R16, R19, R20, R589, R622). -/
def execRegisterWrite (r : RegRef) (v : Nat) (s : State) : Res :=
  if !isFn r.fn ∨ !(r.width == 4 || r.width == 8) ∨ r.ofs % r.width ≠ 0 then .fault .noSuchPart
  else if r.bar2 then
    (if r.fn ≠ pf0 then .fault .noSuchPart
     else match regHit r.ofs r.width with
      | none => .next s
      | some (k, a, hi) => .next (s.bar2 r.ofs r.width v (fun (s : State) => s.writeRow k a v r.width hi)))
  else if !s.fnOn r.fn then .next s
  else .next (s.page0 r.fn r.ofs r.width v (fun (s : State) => s.writePageHalf r.fn r.ofs v r.width))

/-! ### Reads (R18, R21) -/

/-- Key of a function's latch for a register (R21): BAR2 addresses, and the function page's above them. -/
def latchKey (r : RegRef) (a : Nat) : Nat := 2 ^ 32 * r.fn + (if r.bar2 then a else 2 ^ 31 + a)

/-- A counter of a function page cleared by its read. -/
def State.clearPage (s : State) (f o : Nat) : State :=
  if o = 0x28 then s.setFn f { s.fn f with dberr := 0 } else if o = 0x30 then s.setFn f { s.fn f with aperr := 0 } else s

/-- The register named, if there is one: address, what it shows, whether it is 64 bits wide, and what its read does to the state (R16, R18). -/
def State.readReg (s : State) (r : RegRef) : Option (Nat × Nat × Bool × State) :=
  if r.bar2 then
    match regHit r.ofs r.width with
    | none => none
    | some (k, a, _) => some (a, s.bar2View k a, k.width == 8, if k.acc = .rc then s.setReg a 0 else s)
  else
    let a := r.ofs / 8 * 8
    some (a, s.pageView r.fn a, true, s.clearPage r.fn a)

/-- A read as it comes: all of a register; its low half, which latches the high one; or the high half, from the latch if there is one (R21). -/
def State.hostRead (s : State) (r : RegRef) : State :=
  match s.readReg r with
  | none => s.emit (.readData r.fn (List.replicate r.width 0))
  | some (a, v, wide, t) =>
    let key := latchKey r a
    if r.width = 8 ∨ !wide then t.emit (.readData r.fn (leBytes r.width v))
    else if r.ofs % 8 = 0 then { t with latch := t.latch.set key (BitVec.ofNat 32 (v / 2 ^ 32)) }.emit (.readData r.fn (leBytes 4 (v % 2 ^ 32)))
    else
      match s.latch.find key with
      | none => t.emit (.readData r.fn (leBytes 4 (v / 2 ^ 32)))
      | some h => { s with latch := s.latch.del key }.emit (.readData r.fn (leBytes 4 h.toNat))

/-- An access that the function can make: aligned, of BAR2 by PF0 only, or of the function's own page (R587, R589). -/
def refOk (r : RegRef) : Bool := isFn r.fn && (r.width == 4 || r.width == 8) && r.ofs % r.width == 0 && (!r.bar2 || r.fn == pf0)

/-- RC_COUNTER_READ (R16, R18, R21): the value is returned and the counter clears. -/
def execRcCounterRead (r : RegRef) (s : State) : Res := if refOk r then .next (s.hostRead r) else .fault .noSuchPart

/-- LOW_HALF_READ (R21). -/
def execLowHalfRead (r : RegRef) (s : State) : Res :=
  if !refOk r ∨ r.width ≠ 4 then .fault .noSuchPart else .next (s.hostRead r)

end Sys2Proof.Machine
end

