-- ==== Sys2Proof/Machine/Loader.lean ====
section
/-! DEFINITION. The Skeivimbe image: its header and sections, and the checks of the image loader on registers (R71, R99, R105, R112, R124, R151,
R296, R378, R387, R435, R438, R456, R472, R476, R508, R517, R579, R583, R657, R704, R716 to R721, R747, R748). -/
namespace Sys2Proof.Machine

/-! ### The flash (R714; storage holds the complement of each byte, so that an erased byte is unlisted) -/

/-- Storage of a flash offset. -/
def flashAt (o : Nat) : Nat := 2 ^ 46 + o

/-- Flash offset of a slot: 0 A, 1 B. -/
def slotBase (i : Nat) : Nat := i * 2 ^ 27

/-- Bytes of the flash. -/
def State.flash (s : State) (o n : Nat) : List Byte := (s.mem.rdBytes (flashAt o) n).map (fun b => ~~~b)

/-! ### The header (R716, R718, R719) -/

/-- A section entry: TYPE, offset, length, SHA-384. -/
structure Sect where
  ty : Nat
  ofs : Nat
  len : Nat
  dig : List Byte
  deriving DecidableEq, Repr

/-- Bytes of section entry `i` of a header. -/
def hdrEntry (h : List Byte) (i : Nat) : List Byte := (h.drop (256 + 96 * i)).take 96

def nSect (h : List Byte) : Nat := byteField h 6 2

/-- The sections that a header lists, in order. -/
def sects (h : List Byte) : List Sect :=
  (List.range (nSect h)).map (fun i =>
    let e := hdrEntry h i
    { ty := byteField e 0 2, ofs := byteField e 8 8, len := byteField e 16 8, dig := (e.drop 24).take 48 })

/-- MAGIC, FORMAT, ranges and zero bytes of a header. -/
def hdrFormat (h : List Byte) : Bool :=
  byteField h 0 4 == 0x534B5649 && byteField h 4 2 == 1 && decide (1 ≤ nSect h ∧ nSect h ≤ 64) && byteField h 8 8 != 0 &&
  decide (byteField h 16 1 < 64) && byteField h 17 1 == 0 && decide (byteField h 18 2 ≤ 1024) && byteField h 24 8 % 4096 == 0 &&
  decide (16384 ≤ byteField h 24 8 ∧ byteField h 24 8 ≤ 2 ^ 27) && byteField h 224 32 == 0 &&
  (List.range (nSect h)).all (fun i => let e := hdrEntry h i; byteField e 2 6 == 0 && byteField e 72 24 == 0) &&
  leNat (h.drop (256 + 96 * nSect h)) == 0

/-- OWNER_KEY of a header. -/
def hdrOwner (h : List Byte) : List Byte := (h.drop 32).take 96

/-- What P1 finds of a header: 0 valid, or a CAUSE: 5 FORMAT, 1 HDR_SIG, 2 SVN (R716, R747). -/
def State.hdrCheck (s : State) (h : List Byte) : Nat :=
  if !hdrFormat h then 5
  else if s.start.ownerSet ∧ sha384 (hdrOwner h) ≠ s.start.ownerHash then 1
  else if !ecdsaOk (hdrOwner h) (sha384 (h.take 128 ++ h.drop 256)) ((h.drop 128).take 96) then 1
  else if byteField h 16 1 < s.start.svnMin then 2
  else 0

/-- Section types with their least and largest counts (R719). -/
def sectTypes : List (Nat × Nat × Nat) :=
  [(1, 1, 1), (2, 1, 1), (3, 0, 1), (4, 0, 1), (0x10, 1, 64), (0x11, 0, 1), (0x12, 0, 1), (0x13, 0, 1), (0x14, 0, 1), (0x15, 0, 1)]

/-- Do the sections meet R719? -/
def sectsOk (h : List Byte) : Bool :=
  let l := sects h
  l.all (fun (x : Sect) => x.ofs % 4096 == 0 && decide (8192 ≤ x.ofs ∧ x.ofs + x.len ≤ byteField h 24 8) && sectTypes.any (fun t => t.1 == x.ty)) &&
  sectTypes.all (fun t => let n := (l.filter (fun (x : Sect) => x.ty == t.1)).length; decide (t.2.1 ≤ n ∧ n ≤ t.2.2)) &&
  l.zipIdx.all (fun (p : Sect × Nat) => l.zipIdx.all (fun (q : Sect × Nat) =>
    p.2 == q.2 || decide (p.1.ofs + p.1.len ≤ q.1.ofs) || decide (q.1.ofs + q.1.len ≤ p.1.ofs)))

/-- A firmware section's block: 0, or 9 KEY_REVOKED, 4 FW_SIG (R720). -/
def State.fwCheck (s : State) (ty : Nat) (b : List Byte) : Nat :=
  let k := byteField b 4 1
  if byteField b 0 4 ≠ 0x4B465731 ∨ 4 ≤ k ∨ byteField b 8 2 ≠ ty ∨ byteField b 5 3 ≠ 0 ∨ byteField b 10 6 ≠ 0 ∨ byteField b 208 48 ≠ 0 then 4
  else if s.start.revoke.testBit k then 9
  else
    let key := (b.drop 16).take 96
    if sha384 key ≠ Config.romKeyHash k ∨ !ecdsaOk key (sha384 (b.take 112 ++ b.drop 256)) ((b.drop 112).take 96) then 4 else 0

/-- Bytes of a section of a slot. -/
def State.sectBytes (s : State) (slot : Nat) (x : Sect) : List Byte := s.flash (slotBase slot + x.ofs) x.len

/-- P3 over a slot: 0, or the CAUSE of the first failure (R717, R719, R720). -/
def State.p3Check (s : State) (slot : Nat) (h : List Byte) : Nat :=
  if !sectsOk h then 5
  else
    let bad := (sects h).findSome? (fun (x : Sect) =>
      let b := s.sectBytes slot x
      if shaBytes (sha384 b) ≠ x.dig then some 3
      else if x.ty ≤ 4 ∧ s.fwCheck x.ty b ≠ 0 then some (s.fwCheck x.ty b) else none)
    match bad with
    | some c => c
    | none => if byteField h 20 4 ≠ s.regBits Reg.HUB_IDENT 0 32 then 6 else 0

/-- Measurement register of a section type (R719). -/
def sectMr (ty : Nat) : Nat :=
  match ty with
  | 0x10 => 6
  | 0x13 => 8
  | 0x14 => 9
  | _ => if ty ≤ 4 then ty else 7

/-- MRi extended by a digest (R731). -/
def State.mrExtend (s : State) (i : Nat) (d : List Byte) : State :=
  { s with start := { s.start with mr := s.start.mr.set i (sha384 (shaBytes (s.start.mr.get 0 i) ++ d)) } }

/-! ### Register loads (R721) -/

/-- The bytes of a list in runs of `n`. -/
def chunksOf (fuel n : Nat) (l : List Byte) : List (List Byte) :=
  match fuel with
  | 0 => []
  | fuel + 1 => if l.isEmpty then [] else l.take n :: chunksOf fuel n (l.drop n)

/-- Outcome of a part of the loader: CAUSE (0 accepted), ENTRY of the refusal, and the state. -/
structure Load where
  cause : Nat := 0
  entry : Nat := 0
  st : State

/-- The next part of the loader, unless the image has been refused. -/
def Load.andThen (l : Load) (f : State → Load) : Load := if l.cause ≠ 0 then l else f l.st

/-- A refusal with cause LOADER. -/
def State.refuseLoad (s : State) (entry : Nat) : Load := { cause := 7, entry := entry, st := s }

/-- Register entries applied in order; `seen` holds the last entry that set each register. -/
def loadRegs (s : State) (k : Nat) (seen : Tab Nat) (l : List (List Byte)) : Load × Tab Nat :=
  match l with
  | [] => ({ st := s }, seen)
  | e :: r =>
    let w := byteField e 4 1
    if e.length ≠ 16 ∨ !(w == 4 || w == 8) ∨ byteField e 5 3 ≠ 0 ∨ (w = 4 ∧ byteField e 12 4 ≠ 0) then (s.refuseLoad k, seen)
    else
      match regHit (byteField e 0 4) w with
      | none => (s.refuseLoad k, seen)
      | some (row, a, hi) =>
        if !row.img ∨ row.width < w then (s.refuseLoad k, seen)
        else loadRegs (s.setReg a (mergeHalf (s.reg a) (byteField e 8 8) w hi)) (k + 1) (seen.set a k) r

/-- A range that a field's table states: `n` registers from `base`, `stride` apart, field `[lo + len - 1 : lo]`. -/
structure Rng where
  base : Nat
  n : Nat
  stride : Nat
  lo : Nat
  len : Nat
  min : Nat
  max : Nat

/-- Ranges of the time, cyclic-table, cluster and engine registers (R96, R105 to R107, R124, R149, R151, R154, R302, R378). -/
def rngEngines : List Rng := [
  ⟨Reg.TIM_SLEW, 1, 0, 0, 32, 100, 50000⟩, ⟨Reg.TIM_TOD_CFG, 1, 0, 0, 3, 0, 4⟩, ⟨Reg.TIM_PTP_CFG, 1, 0, 0, 8, 24, 43⟩,
  ⟨Reg.TIM_BCN_CFG, 1, 0, 24, 16, 125, 8000⟩, ⟨Reg.TIM_MAX_LEAD, 1, 0, 0, 32, 1, 65536⟩,
  ⟨Reg.CYC_CFG 0, 12, 0x20000, 2, 13, 1, 4096⟩, ⟨Reg.CYC_GUARD 0, 12, 0x20000, 0, 18, 11797, 196608⟩,
  ⟨Reg.CLU_CFG 0, 48, 0x1000, 0, 3, 0, 4⟩, ⟨Reg.CLU_CFG 0, 48, 0x1000, 8, 8, 0, 128⟩,
  ⟨Reg.CLU_TENANT 0, 1024, 8, 12, 8, 0, 192⟩, ⟨Reg.CLU_TENANT 0, 1024, 8, 20, 13, 0, 4096⟩,
  ⟨Reg.MOV_SPLIT 0, 12, 0x100, 0, 5, 1, 16⟩, ⟨Reg.MOV_SPLIT 0, 12, 0x100, 8, 5, 1, 16⟩, ⟨Reg.MOV_SPLIT 0, 12, 0x100, 16, 5, 0, 16⟩,
  ⟨Reg.CHM_CFG 0, 192, 0x400, 0, 5, 0, 16⟩, ⟨Reg.CHM_CFG 0, 192, 0x400, 8, 5, 0, 16⟩, ⟨Reg.CHM_CFG 0, 192, 0x400, 16, 5, 0, 16⟩]

/-- Ranges of the fronthaul, memory, fabric, host, recorder, health, start and security registers (R471 to R473, R517, R520, R579, R583, R621,
R657, R704, R705, R707, R747, R748). -/
def rngHub : List Rng := [
  ⟨Reg.FHL_PORT_CFG 0, 16, 0x100, 20, 14, 1500, 9000⟩,
  ⟨Reg.FHL_BST_CFG 0, 32, 0x80, 11, 4, 7, 11⟩, ⟨Reg.FHL_BST_CFG 0, 32, 0x80, 15, 3, 0, 6⟩, ⟨Reg.FHL_BST_CFG 0, 32, 0x80, 19, 8, 24, 120⟩,
  ⟨Reg.FHL_CELL 0 3, 512, 32, 0, 2, 0, 1⟩, ⟨Reg.FHL_CELL 0 3, 512, 32, 6, 2, 0, 1⟩,
  ⟨Reg.MEM_CFG, 1, 0, 0, 8, 1, 168⟩, ⟨Reg.MEM_CFG, 1, 0, 8, 4, 8, 15⟩,
  ⟨Reg.MEM_TENANT_QUOTA 0, 1024, 0x20, 0, 21, 0, 1048576⟩, ⟨Reg.MEM_TENANT_QUOTA 0, 1024, 0x20, 32, 23, 0, 4194304⟩,
  ⟨Reg.FAB_CFG, 1, 0, 0, 2, 1, 3⟩, ⟨Reg.FAB_CFG, 1, 0, 8, 8, 1, 255⟩, ⟨Reg.FAB_CFG, 1, 0, 16, 8, 1, 255⟩, ⟨Reg.FAB_CFG, 1, 0, 24, 7, 1, 127⟩,
  ⟨Reg.FAB_NACK_DELAY, 1, 0, 0, 16, 64, 65535⟩, ⟨Reg.FAB_RW_CFG, 1, 0, 0, 4, 0, 9⟩,
  ⟨Reg.FAB_SSI_IN 0, 16, 0x10, 1, 4, 0, 8⟩, ⟨Reg.FAB_SSI_OUT 0, 16, 0x10, 40, 4, 0, 8⟩, ⟨Reg.FAB_SSI_OUT 0, 16, 0x10, 0, 16, 0, 0⟩,
  ⟨Reg.HIF_CFG, 1, 0, 0, 11, 0, 1024⟩, ⟨Reg.RPL_CFG, 1, 0, 8, 8, 1, 255⟩,
  ⟨Reg.HLT_CFG, 1, 0, 0, 10, 1, 999⟩, ⟨Reg.HLT_CFG, 1, 0, 10, 10, 2, 1000⟩, ⟨Reg.HLT_CFG, 1, 0, 20, 6, 1, 63⟩, ⟨Reg.HLT_CFG, 1, 0, 26, 6, 1, 48⟩,
  ⟨Reg.HLT_CFG, 1, 0, 32, 2, 0, 2⟩, ⟨Reg.HLT_DOMAIN, 1, 0, 32, 4, 1, 15⟩, ⟨Reg.HLT_DOMAIN, 1, 0, 36, 12, 60, 4095⟩,
  ⟨Reg.HLT_PARTNER, 1, 0, 21, 10, 10, 1000⟩, ⟨Reg.HLT_PARTNER, 1, 0, 31, 4, 2, 15⟩, ⟨Reg.HLT_SHADOW, 1, 0, 12, 16, 1, 65535⟩,
  ⟨Reg.HUB_CFG, 1, 0, 2, 2, 0, 2⟩, ⟨Reg.HUB_CFG, 1, 0, 4, 10, 10, 1000⟩, ⟨Reg.SEC_CFG, 1, 0, 0, 7, 8, 0x77⟩,
  ⟨Reg.SEC_ALARM_ACT, 1, 0, 0, 2, 2, 3⟩, ⟨Reg.SEC_ALARM_ACT, 1, 0, 12, 2, 0, 0⟩]

/-- First register of a range row whose field lies outside. -/
def State.rngBad (s : State) (r : Rng) : Option Nat :=
  ((List.range r.n).map (fun i => r.base + i * r.stride)).find? (fun a => let v := s.regBits a r.lo r.len; decide (v < r.min) || decide (r.max < v))

/-- `TIM_SRC_PRIO` with an unlisted code or a source named twice, and a device with no source but BCN named as a beacon source (R71, R99). -/
def State.timBad (s : State) : List (Nat × Bool) :=
  let l := ([0, 1, 2, 3].map s.rankSlot)
  let named := l.filter (fun x => x != 0)
  let node := s.self % 4096
  [(Reg.TIM_SRC_PRIO, l.any (fun x => decide (3 < x)) || named.eraseDups.length != named.length),
   (Reg.TIM_BCN_CFG, named == [3] && (s.regBits Reg.TIM_BCN_CFG 0 12 == node || s.regBits Reg.TIM_BCN_CFG 12 12 == node))]

/-- Is a window's class and owner encoded as R113 and R114 require? -/
def Window.ownerOk (w : Window) : Bool :=
  (match w.cls with
   | 0 => w.owner == 0
   | 1 => decide (w.owner < 0x100) || w.owner == 0xFFFF
   | 2 => decide (w.owner < 0x400) || w.owner == 0xFFFF
   | _ => decide (w.owner < 8)) && (w.cls == 1 || !w.ibx) && (w.cls == 3 || w.maintDiv == 0)

/-- Does region `g`'s table break R112? -/
def State.tableBad (s : State) (g : Nat) : Bool :=
  let n := s.cycCount g
  let l := (List.range n).map (s.window g)
  !l.all (fun w => w.ownerOk && decide (1967 ≤ w.len)) || !l.any (fun w => w.cls == 3) ||
  !(List.range n).all (fun i =>
    let w := s.window g i
    if i + 1 < n then decide (w.start < (s.window g (i + 1)).start) && decide (w.start + w.len ≤ (s.window g (i + 1)).start)
    else decide (w.start + w.len ≤ s.cycPeriod g))

/-- A nonzero word in an entry at or beyond COUNT (R149). -/
def State.beyondCount (s : State) (g : Nat) : Option Nat :=
  let a := Reg.CYC_ENTRY g 0 0
  (s.regs.find? (fun (p : Nat × DWord) => decide (a + 16 * s.cycCount g ≤ p.1) && decide (p.1 < a + 0x10000) && p.2 != 0)).map (·.1)

/-- Rules on cyclic tables, clusters and shares (R112, R149, R151, R296). -/
def State.regionBad (s : State) : List (Nat × Bool) :=
  (List.range 12).map (fun g => (Reg.CYC_ENTRY g 0 0, s.tableBad g)) ++
  (List.range 12).map (fun g => ((s.beyondCount g).getD 0, (s.beyondCount g).isSome)) ++
  (List.range 48).map (fun c => (Reg.CLU_CFG c, decide (128 < s.radioPool c + (if s.hasIbx (c / 4) then 2 else 0)) ||
    (s.radioSlots c != 0 && s.radioPool c == 0))) ++
  (List.range 12).map (fun g => (Reg.MOV_SPLIT g, decide (16 < s.share g 0 + s.share g 1 + s.share g 2)))

/-- Width codes of `FHL_CELL` (R472). -/
def widthOk (c : Nat) : Bool := [0, 8, 9, 12, 14].contains c

/-- Number of positions in which a burst sync word and the window that ends `k` bits after the preamble differ (R456). -/
def syncDist (w k : Nat) : Nat :=
  let pre := (List.range k).foldl (fun n i => n * 2 + (if (k - i) % 2 = 0 then 1 else 0)) 0
  let x := Nat.xor w (pre * 2 ^ (32 - k) + w / 2 ^ k)
  ((List.range 32).filter (fun i => x.testBit i)).length

/-- Rules on fronthaul registers (R456, R472, R476). -/
def State.fhBad (s : State) : List (Nat × Bool) :=
  (List.range 512).map (fun n => (Reg.FHL_CELL n 3, !(widthOk (s.fhCell n 3 2 4) && widthOk (s.fhCell n 3 8 4) && widthOk (s.fhCell n 3 14 4)))) ++
  (List.range 32).map (fun b => (Reg.FHL_BST_SYNC b, s.bstCfg b 0 1 == 1 &&
    (List.range 32).any (fun k => decide (syncDist (s.regBits (Reg.FHL_BST_SYNC b) 0 32) (k + 1) < 2 * s.bstCfg b 15 3 + 1)))) ++
  (List.range 16384).map (fun q => (Reg.SHP_Q q, s.regBits (Reg.SHP_Q q) 5 1 == 1 &&
    (decide (18 < s.regBits (Reg.SHP_Q q) 0 5) || s.regBits (Reg.SHP_Q q) 18 16 == 0)))

/-- Rules on host, recorder, health and start registers (R621, R657, R678, R704, R747). -/
def State.hubBad (s : State) (firm : Nat → Nat) : List (Nat × Bool) :=
  (List.range (s.regBits Reg.HIF_CFG 0 11)).map (fun v => (Reg.HIF_VF_CFG v, decide (8 < s.regBits (Reg.HIF_VF_CFG v) 0 4) ||
    s.regBits (Reg.HIF_VF_CFG v) 4 12 == 0)) ++
  [(Reg.RPL_AREA, (List.range 4).any (fun d => decide (s.regBits (Reg.MEM_DIE_RSV d) 0 21 < firm d + s.regBits Reg.RPL_AREA 0 21))),
   (Reg.HLT_PARTNER, s.regBits Reg.HLT_PARTNER 12 8 == s.regBits Reg.HLT_DOMAIN 0 8),
   (Reg.HLT_CFG, decide (s.regBits Reg.HLT_CFG 10 10 ≤ s.regBits Reg.HLT_CFG 0 10)),
   (Reg.HUB_CFG, (s.regBits Reg.HUB_CFG 0 2 != 0) != (s.regBits Reg.HUB_IDENT 40 2 == 0))]

/-- The registers' values as they stand, defaults included: ENTRY of a refusal is the last entry that set the refused register (R721). -/
def State.checkRegs (s : State) (seen : Tab Nat) (firm : Nat → Nat) : Load :=
  let rules := s.timBad ++ s.regionBad ++ s.fhBad ++ s.hubBad firm
  match (rngEngines ++ rngHub).findSome? s.rngBad with
  | some a => s.refuseLoad (seen.get 0x3FFFF a)
  | none =>
    match rules.find? (fun (p : Nat × Bool) => p.2) with
    | some p => s.refuseLoad (seen.get 0x3FFFF p.1)
    | none => { st := s }

end Sys2Proof.Machine
end

