-- ==== Sys2Proof/Machine/Areas.lean ====
section
/-! DEFINITION. The sections of the image other than firmware and registers: areas, cells, quarantine list, wrapped keys and RATC entries, and the
loader's checks on them (R286, R381, R387, R435, R438, R451, R486, R508, R571, R583, R684, R722 to R725, R735, R736, R789). -/
namespace Sys2Proof.Machine

/-- Sections of a type in a slot, their bytes joined. -/
def State.sectionOf (s : State) (slot : Nat) (h : List Byte) (ty : Nat) : List Byte :=
  ((sects h).filter (fun (x : Sect) => x.ty == ty)).flatMap (fun (x : Sect) => s.sectBytes slot x)

/-- Records of `n` bytes of a section, numbered. -/
def records (n : Nat) (b : List Byte) : List (List Byte × Nat) := (chunksOf (b.length / n + 1) n b).zipIdx

/-! ### Areas (R722, R789) -/

/-- An area of the image. -/
structure Area where
  addr : Nat
  pages : Nat
  tier : Nat
  die : Nat
  owner : Nat
  src : Nat
  deriving DecidableEq, Repr

def areaOf (b : List Byte) : Area :=
  { addr := byteField b 0 8, pages := byteField b 8 4, tier := byteField b 12 1, die := byteField b 13 1, owner := byteField b 14 2, src := byteField b 16 8 }

/-- Fields and zero bytes of an area record. -/
def areaOk (len : Nat) (b : List Byte) : Bool :=
  let a := areaOf b
  b.length == 32 && a.addr % 65536 == 0 && decide (1 ≤ a.pages ∧ a.addr + a.pages * 65536 ≤ 2 ^ 39) && (a.tier == 1 || a.tier == 2) &&
  decide (a.die < 4) && (a.owner == 0x400 || a.owner == 0x401) && byteField b 24 8 == 0 && (a.src == 0 || decide (a.src + a.pages * 65536 ≤ len))

/-- The pages of an area take the lowest free frames of its die; none is free: refused (R722, R789). -/
def State.layArea (s : State) (slot k : Nat) (a : Area) (i n : Nat) : Load :=
  match n with
  | 0 => { st := s }
  | n + 1 =>
    match s.pickFrame a.tier a.die false with
    | none => s.refuseLoad k
    | some f =>
      let p := a.addr / 65536 + i
      if s.page p ≠ {} then s.refuseLoad k
      else
        let s := (s.takeFrames a.tier a.die f 1).setPage p { tier := a.tier, die := a.die, frame := f, owner := a.owner }
        let b := if a.src = 0 then [] else s.flash (slotBase slot + a.src + 65536 * i) 65536
        let at0 := frameAt a.tier a.die f 0
        { s with mem := (s.mem.clear at0 65536).wrBytes at0 b }.layArea slot k a (i + 1) n

/-- The areas section is applied. -/
def State.loadAreas (s : State) (slot len : Nat) (l : List (List Byte × Nat)) : Load :=
  l.foldl (fun (x : Load) (r : List Byte × Nat) => x.andThen (fun (s : State) =>
    if !areaOk len r.1 then s.refuseLoad r.2 else s.layArea slot r.2 (areaOf r.1) 0 (areaOf r.1).pages)) { st := s }

/-- Is a range of the placed range mapped for an owner, on a tier and die (2 and any die where `die` is none)? -/
def State.inArea (s : State) (addr n owner : Nat) (tier die : Option Nat) : Bool :=
  decide (addr + n ≤ 2 ^ 39) && (piecesOf addr n).all (fun (p : Nat × Nat × Nat) =>
    let e := s.page p.1
    e.owner == owner && (match tier with | some t => e.tier == t | none => e.tier != 0) &&
    (match die with | some d => e.die == d | none => true))

/-- Mere frames of firmware areas on a die (R657). -/
def firmFrames (l : List (List Byte × Nat)) (d : Nat) : Nat :=
  l.foldl (fun (n : Nat) (r : List Byte × Nat) => let a := areaOf r.1; if a.owner = 0x401 ∧ a.tier = 2 ∧ a.die = d then n + a.pages else n) 0

/-- Do the tenants' quotas fit what is left of each tier (R508)? -/
def State.quotasFit (s : State) : Bool :=
  [1, 2].all (fun t => decide ((List.range 1024).foldl (fun n v => n + s.quota v t) 0 ≤ [0, 1, 2, 3].foldl (fun n d => n + s.freeFrames t d) 0))

/-! ### Cells (R381, R387, R438, R486, R684, R723) -/

/-- Resource blocks of the bandwidths of R381, by numerology (TS 38.101). -/
def nrbOf (mu : Nat) : List Nat :=
  match mu with
  | 0 => [25, 52, 79, 106, 133, 160, 216, 270]
  | 1 => [24, 38, 51, 65, 78, 106, 133, 162, 189, 217, 245, 273]
  | 3 => [32, 66, 132, 264]
  | _ => []

/-- The cell that a record names, and its configuration. -/
def cellRec (b : List Byte) : Nat × CellCfg :=
  let g := byteField b 2 1
  (byteField b 0 2,
   { nrb := byteField b 8 2, mu := byteField b 3 1, ant := byteField b 10 1, lDl := byteField b 11 1, lUl := byteField b 12 1,
     beamformed := byteField b 13 1 == 1, region := g, group := byteField b 15 1,
     clusters := ([0, 1, 2, 3].filter (fun i => (byteField b 4 1).testBit i)).map (fun i => 4 * g + i),
     harqBase := byteField b 16 8, harqLen := byteField b 24 4 * 65536, harqEntry := byteField b 28 2 * 1024,
     profiles := [0, 1, 2, 3].map (fun p => byteField b (64 + 16 * p) 16), precoder := byteField b 32 8, beams := byteField b 40 8,
     beamCount := byteField b 48 2, fdd := byteField b 14 1 == 1 })

/-- Fields and zero bytes of a cell record, within the limits of R381. -/
def cellFieldsOk (b : List Byte) : Bool :=
  let n := (cellRec b).1
  let k := (cellRec b).2
  b.length == 128 && decide (n < 512) && decide (k.region < 12) && (nrbOf k.mu).contains k.nrb && decide (1 ≤ byteField b 4 1 ∧ byteField b 4 1 < 16) &&
  decide (byteField b 13 1 ≤ 1 ∧ byteField b 14 1 ≤ 1) && !(k.fdd && k.mu == 3) &&
  (if k.beamformed then [16, 32, 64].contains k.ant else [1, 2, 4, 8].contains k.ant) &&
  decide (1 ≤ k.lDl ∧ k.lDl ≤ min k.ant 16) && decide (1 ≤ k.lUl ∧ k.lUl ≤ min k.ant 8) && decide (k.beamCount ≤ 4096) &&
  byteField b 5 3 == 0 && byteField b 30 2 == 0 && byteField b 50 14 == 0 &&
  [0, 1, 2, 3].all (fun p => byteField b (65 + 16 * p) 1 == 0 && byteField b (74 + 16 * p) 6 == 0)

/-- Longest interval of a region's period without radio window time, 0 when radio fills it (R387). -/
def State.radioGap (s : State) (g : Nat) : Nat :=
  let l := ((List.range (s.cycCount g)).map (s.window g)).filter (fun w => w.cls == 1)
  match l with
  | [] => s.cycPeriod g
  | w :: _ =>
    (l.foldl (fun (a : Nat × Nat) v => (max a.1 (v.start - a.2), v.start + v.len))
      (match l.getLast? with | some z => w.start + s.cycPeriod g - (z.start + z.len) | none => 0, w.start)).1

/-- Does a cell's set of windows meet R438? -/
def State.windowsOk (s : State) (n mu : Nat) : Bool :=
  let f (w lo : Nat) : Nat := s.fhCell n w lo 20
  decide (f 0 20 < f 0 0) && decide (f 0 40 < f 1 0) && decide (f 1 40 < f 1 20) && decide (f 2 20 < f 2 0) &&
  decide (f 0 0 ≤ f 1 20) && decide (f 0 20 ≤ f 1 40) && decide (f 1 20 + 98304 ≤ (if mu = 3 then 4 else 2) * slotTc mu) &&
  decide (f 2 0 + 98304 ≤ slotTc mu)

/-- Limits of a burst cell: FR1 at most 20 MHz, one or two antennas (R451). -/
def burstOk (k : CellCfg) : Bool := k.mu != 3 && decide (k.ant ≤ 2) && decide (k.nrb ≤ if k.mu = 0 then 106 else 51)

/-- Does the loader accept a cell (R387, R438, R451, R486, R684)? -/
def State.cellOk (s : State) (n : Nat) (k : CellCfg) : Bool :=
  let die := k.region / 3
  k.clusters.all (fun c => decide (1 ≤ s.radioSlots c)) && decide (4 * s.radioGap k.region ≤ 3 * slotTc k.mu) && s.windowsOk n k.mu &&
  s.inArea k.harqBase k.harqLen 0x400 (some 1) (some die) &&
  (k.precoder == 0 || s.inArea k.precoder 65280 0x400 none (some die)) && (k.beams == 0 || s.inArea k.beams (256 * k.beamCount) 0x400 none (some die)) &&
  (s.fhCell n 3 18 1 == 0 || burstOk k) &&
  (!Config.cellMirrored n || decide (usTc (s.regBits Reg.HLT_PARTNER 21 10 * (s.hbMiss + 2) + 5) ≤ slotTc k.mu))

/-- The cells section is applied. -/
def State.loadCells (s : State) (l : List (List Byte × Nat)) : Load :=
  l.foldl (fun (x : Load) (r : List Byte × Nat) => x.andThen (fun (s : State) =>
    let c := cellRec r.1
    if !cellFieldsOk r.1 ∨ (s.radio.cfg.find c.1).isSome ∨ !s.cellOk c.1 c.2 then s.refuseLoad r.2
    else { st := { s with radio := { s.radio with cfg := s.radio.cfg.set c.1 c.2 } } })) { st := s }

/-! ### The eAxC map (R286, R435, R451) -/

/-- Bytes of an entry's ring (R434, R435). -/
def Eaxc.ringLen (e : Eaxc) (k : CellCfg) : Nat := if e.kind = 2 then 3360 * e.occ * e.depth else 48 * k.nrb * 14 * e.depth

/-- Does an entry in use break a rule on its own? -/
def State.eaxcBad (s : State) (e : Eaxc) : Bool :=
  match s.cellCfg e.cell with
  | none => true
  | some k =>
    e.depth == 5 || (if e.kind = 2 then e.occ == 0 || decide (56 < e.occ) else e.occ != 0) || !k.clusters.contains e.cluster ||
    (e.dir == 0 && (decide (s.radioPool e.cluster * 65536 < e.base + e.ringLen k) || decide (e.base < s.radioSlots e.cluster * 8192))) ||
    s.regBits (Reg.SHP_Q e.queue) 5 1 == 0 || s.regBits (Reg.SHP_Q e.queue) 0 5 != e.port ||
    (e.kind == 3 && (s.bstCfg e.bst 2 9 != e.cell || s.bstCfg e.bst 1 1 != e.stream))

/-- Two entries that may not stand together. -/
def Eaxc.clash (a b : Eaxc) : Bool :=
  (a.port == b.port && a.eaxc == b.eaxc && a.dir == b.dir) ||
  (a.dir == 0 && b.dir == 0 && a.cell == b.cell && a.stream == b.stream && (a.kind == 2) == (b.kind == 2))

/-- The map is checked once registers and cells stand; the entry's register names the refusal. -/
def State.checkMap (s : State) (seen : Tab Nat) : Load :=
  let l := ((List.range 8192).map s.eaxc).filter (fun (e : Eaxc) => e.kind != 0)
  match l.find? (fun (e : Eaxc) => s.eaxcBad e || l.any (fun (f : Eaxc) => decide (f.idx < e.idx) && e.clash f)) with
  | none => { st := s }
  | some e => s.refuseLoad (seen.get 0x3FFFF (Reg.FHL_EAXC e.idx 0))

/-! ### Quarantine list, keys and RATC (R724, R725, R735, R736) -/

/-- The quarantine list is applied: codes of the kinds of R663, or of kind 0x9. -/
def State.loadQuar (s : State) (l : List (List Byte × Nat)) : Load :=
  l.foldl (fun (x : Load) (r : List Byte × Nat) => x.andThen (fun (s : State) =>
    let u := byteField r.1 0 2
    if !isPart u ∧ !(uKind u == 9 && decide (u % 0x1000 < 12)) then s.refuseLoad r.2
    else { st := { s with health := { s.health with quar := s.health.quar.set u { kind := 1, image := true } } } })) { st := s }

/-- Zero bytes and ranges of a wrapped-key record. -/
def keyRecOk (b : List Byte) : Bool :=
  b.length == 192 && decide (byteField b 0 2 < 256) && byteField b 5 3 == 0 && byteField b 116 12 == 0 && byteField b 176 16 == 0

/-- A wrapped key is opened: loaded, or FAILED (R736). -/
def openKey (b : List Byte) : KeySlot :=
  let k := hkdf384 [] (Config.imageDh ((b.drop 8).take 96)) (b.take 8) 32
  match gcmOpen k ((b.drop 104).take 12) (b.take 8) ((b.drop 128).take 32) ((b.drop 160).take 16) with
  | some m => { st := 1, owner := byteField b 2 2, usage := byteField b 4 1, key := BitVec.ofNat 256 (leNat m) }
  | none => { st := 2, owner := byteField b 2 2, usage := byteField b 4 1 }

/-- The wrapped-key section is applied. -/
def State.loadKeys (s : State) (l : List (List Byte × Nat)) : Load :=
  l.foldl (fun (x : Load) (r : List Byte × Nat) => x.andThen (fun (s : State) =>
    let n := byteField r.1 0 2
    if !keyRecOk r.1 ∨ (s.start.keys.find n).isSome then s.refuseLoad r.2
    else { st := { s with start := { s.start with keys := s.start.keys.set n (openKey r.1) } } })) { st := s }

/-- The RATC section is applied in order (R542, R543, R725). -/
def State.loadRatc (s : State) (l : List (List Byte × Nat)) : Load :=
  l.foldl (fun (x : Load) (r : List Byte × Nat) => x.andThen (fun (s : State) =>
    let e : Ratc := { w0 := BitVec.ofNat 64 (byteField r.1 0 8), w1 := BitVec.ofNat 64 (byteField r.1 8 8) }
    let set := ratcSet e.job e.cls e.granule
    let mine := e.owner == 0x400 || e.owner == 0x401
    if r.1.length ≠ 16 ∨ !e.valid ∨ e.pool ∨ (s.ratcAt e.job e.cls e.granule).isSome ∨
       (mine ∧ !s.inArea (e.tgran * 2 ^ 21) (2 ^ 21) e.owner none none) then s.refuseLoad r.2
    else
      match ((List.range 8).map (fun w => 8 * set + w)).find? (fun i => (s.fab.ratc.find i).isNone) with
      | none => s.refuseLoad r.2
      | some i => { st := { s with fab := { s.fab with ratc := s.fab.ratc.set i e } } })) { st := s }

/-- Is an enabled inbound Slot Service Interface ring outside the radio area of Mere, or not exposed by a RATC entry (R571, R583)? -/
def State.ssiBad (s : State) (n : Nat) : Bool :=
  let a := Reg.FAB_SSI_IN n
  let addr := s.regBits a 5 23 * 65536
  s.regBits a 0 1 == 1 &&
  (!s.inArea addr (2 ^ (16 + s.regBits a 1 4)) 0x400 (some 2) none ||
   !s.fab.ratc.any (fun (p : Nat × Ratc) => p.2.valid && p.2.owner == 0x400 && p.2.tgran == addr / 2 ^ 21))

/-- The rings are checked once the RATC section stands. -/
def State.checkRings (s : State) (seen : Tab Nat) : Load :=
  match (List.range 16).find? s.ssiBad with
  | none => { st := s }
  | some n => s.refuseLoad (seen.get 0x3FFFF (Reg.FAB_SSI_IN n))

/-! ### P4 (R708, R721, R726) -/

/-- Registers of the image return to their defaults; the others keep what they hold (R721, R785). -/
def State.imageDefaults (s : State) : State :=
  let keep := s.regs.filter (fun (p : Nat × DWord) => match regRowAt p.1 with | some r => !r.img | none => true)
  { s with regs := regDefaults.foldl (fun (t : Tab DWord) (p : Nat × DWord) => t.set p.1 p.2) keep }

/-- P4 over a slot whose P3 has passed: everything the image sets, and every check of the loader. NUM_VF must equal what was loaded (R718). -/
def State.p4 (s : State) (slot : Nat) (h : List Byte) : Load :=
  let sec (ty n : Nat) : List (List Byte × Nat) := records n (s.sectionOf slot h ty)
  let s := s.imageDefaults
  let r := loadRegs s 0 [] ((sec 0x10 16).map (·.1))
  let areas := sec 0x11 32
  let x := r.1.andThen (fun (s : State) => s.checkRegs r.2 (firmFrames areas))
  let x := x.andThen (fun (s : State) => if s.regBits Reg.HIF_CFG 0 11 = byteField h 18 2 then { st := s } else { cause := 8, st := s })
  let x := x.andThen (fun (s : State) => s.loadAreas slot (byteField h 24 8) areas)
  let x := x.andThen (fun (s : State) => if s.quotasFit then { st := s } else s.refuseLoad (r.2.get 0x3FFFF (Reg.MEM_TENANT_QUOTA 0)))
  let x := x.andThen (fun (s : State) => s.loadCells (sec 0x12 128))
  let x := x.andThen (fun (s : State) => s.checkMap r.2)
  let x := x.andThen (fun (s : State) => s.loadQuar (sec 0x13 2))
  let x := x.andThen (fun (s : State) => s.loadKeys (sec 0x14 192))
  let x := x.andThen (fun (s : State) => s.loadRatc (sec 0x15 16))
  x.andThen (fun (s : State) => s.checkRings r.2)

end Sys2Proof.Machine
end

