-- ==== Sys2Proof/Machine/TrustOps.lean ====
section
/-! DEFINITION. Operations of start and trust: the reset of the package, the actions of security alarms, measurement of the fuses
(R711, R712, R730, R731, R742, R743, R759). -/
namespace Sys2Proof.Machine

/-! ### Reset (R708, R712, R730, R759) -/

/-- The package as a reset leaves it: fuses, flash, identity, pins, a flash command in progress and what has left the package stay; every other
piece of state is that of `State.reset` (R22, R712, R730). -/
def State.wiped (s : State) : State :=
  let r := Start.reset
  let x := s.start
  let st : Start := { r with pwrOk := x.pwrOk, perst := x.perst, trainCopy := x.trainCopy, flash := x.flash }
  let st : Start := { st with svnMin := x.svnMin, revoke := x.revoke, ownerSet := x.ownerSet, identErased := x.identErased }
  let st : Start := { st with debugOff := x.debugOff, ownerHash := x.ownerHash }
  let regs := (State.reset.regs.set Reg.HUB_IDENT (s.regs.get 0 Reg.HUB_IDENT)).set Reg.HUB_SERIAL (s.regs.get 0 Reg.HUB_SERIAL)
  { State.reset with start := st, regs := regs, mem := s.mem.filter (fun c => decide (2 ^ 46 ≤ c.1)), out := s.out, drawn := s.drawn,
                     pending := s.pending }

/-- The wiped package awaits the deassertion of PERST# while it is asserted, or begins start at P0 (R712, R730). -/
def State.restarted (s : State) : State :=
  let s := s.wiped
  { s with start := { s.start with restart := if s.start.perst then 4 else 0 } }

/-! ### Measurement of the fuses (R731, R747) -/

/-- MR0 to MR9 as they stand. -/
def State.mrTen (s : State) : List (BitVec 384) := (List.range 10).map (s.start.mr.get 0)

/-- The alias key is derived (R732). -/
def State.deriveAlias (s : State) : State := { s with start := { s.start with aliasMr := s.mrTen } }

/-! ### Actions (R742, R743) -/

/-- LOG: the source's bit, the first stamp, the attention (R743). -/
def State.alarmLog (s : State) (b : Nat) : State :=
  let s := s.flag Reg.SEC_ALARM (2 ^ b)
  let s := if s.start.alarmed then s
    else { s with start := { s.start with alarmed := true } }.setReg Reg.SEC_ALARM_STAMP (tcStamp s.now).toNat
  s.raiseAll 3

/-- HALT-TENANTS: device state ALARM, every VF stops, VF enables stay latched until the next start (R743). A device that is STOPPING stays so. -/
def State.haltTenants (s : State) : State :=
  if s.start.haltTenants then s
  else
    let s := if s.start.dev = .stopping then s else s.setDev .alarm
    let s := { s with start := { s.start with haltTenants := true } }
    s.liveVfs.foldl (fun (s : State) v => if (s.fn v).en.st = .on then s.vfStop v false else s) s

/-- ERASE-SESSION: key slots and the session wrapping key go (R743). -/
def State.eraseSession (s : State) : State :=
  let keys := s.start.keys.map (fun (p : Nat × KeySlot) => (p.1, { p.2 with st := 3, key := 0 }))
  { s with start := { s.start with keys := keys, sessionKey := false } }

/-- A cell is OFF at once (R712, R743). -/
def State.killCell (s : State) (n : Nat) : State := (s.setCell n { s.cell n with next := none }).cellGone n

/-- ERASE-ALL: the identity is erased, fronthaul egress stops, every cell is OFF, the device is STOPPING until power-off (R743). -/
def State.eraseAll (s : State) : State :=
  let s := { s with start := { s.start with identErased := true } }
  let s := (List.range 16).foldl (fun (s : State) p => s.setPortEn p {}) s
  let s := ((s.radio.cells.filter (fun (p : Nat × Cell) => p.2.en.st != .off)).map (·.1)).foldl (fun (s : State) n => s.killCell n) s
  s.setDev .stopping

/-- An action and every action above it but LOG (R743). -/
def State.takeAction (s : State) (a : Nat) : State :=
  let s := { s with start := { s.start with action := max s.start.action a } }
  let s := if 1 ≤ a then s.haltTenants else s
  let s := if 2 ≤ a then s.eraseSession else s
  if 3 ≤ a then s.eraseAll else s

/-- Source `b` fires (R742, R743). -/
def State.alarm (s : State) (b : Nat) : State := (s.alarmLog b).takeAction (s.regBits Reg.SEC_ALARM_ACT (2 * b) 2)

end Sys2Proof.Machine
end

