-- ==== Sys2Proof/Machine/Start.lean ====
section
/-! DEFINITION. The commands of start: supplies and PERST#, the phases, fallback, the first SERVE; restart; the flash; `HUB_CMD`
(R708 to R730, R745, R759). -/
namespace Sys2Proof.Machine

/-! ### Supplies and PERST# (R708, R711, R712, R758, R759) -/

/-- PWR_OK_ASSERT (R708, R711): start begins at P0, whatever the state of PERST#. -/
def execPwrOkAssert (s : State) : Res :=
  if s.start.pwrOk then .next s
  else
    let s := s.wiped
    .next { s with start := { s.start with pwrOk := true, flash := none } }

/-- Is the flash being erased or programmed? -/
def State.flashAlters (s : State) : Option (Nat × Nat) :=
  match s.start.flash with
  | some (c, o, n) => if c = 1 ∨ c = 2 then some (o, n) else none
  | none => none

/-- The contents of a range of the flash are undefined: free values (R759, log entry 5). -/
def State.flashLost (s : State) (o n : Nat) : State :=
  { s with mem := s.mem.wrBytes (flashAt o) ((List.range n).map (Config.flashLost s.drawn)), drawn := s.drawn + 1 }

/-- PWR_OK_DEASSERT (R756, R759): all state but the fuses and the flash is lost, nothing is written. -/
def execPwrOkDeassert (s : State) : Res :=
  let s := match s.flashAlters with
    | some (o, n) => s.flashLost o n
    | none => s
  let s := s.wiped
  .next { s with start := { s.start with pwrOk := false, flash := none } }

/-- The PCIe endpoint is reset: function pages, queue pairs and SR-IOV (R712). -/
def State.resetEndpoint (s : State) : State :=
  { s with host := { HostIf.reset with ports := s.host.ports, acct := s.host.acct }, latch := [] }

/-- PERST_ASSERT (R712): before the first SERVE the endpoint alone; after it every cell stops at once and all work ends. A device that has
erased its identity stays STOPPING (R743). -/
def execPerstAssert (s : State) : Res :=
  if s.start.perst then .next s
  else
    let s := { s with start := { s.start with perst := true } }
    .next (if !s.start.served ∨ 3 ≤ s.start.action then s.resetEndpoint else s.restarted)

/-- PERST_DEASSERT (R711, R712): start begins at P0 when it awaits this. -/
def execPerstDeassert (s : State) : Res :=
  let s := { s with start := { s.start with perst := false } }
  .next (if s.start.restart = 4 then { s with start := { s.start with restart := 0, beganAt := s.time.hub } } else s)

/-! ### The phases (R708, R716, R717) -/

/-- Start ends in ALARM, without service (R717, R743). -/
def State.startFails (s : State) : State := { s.deriveAlias with start := { s.deriveAlias.start with failed := true } }.setDev .alarm

/-- The header in a slot of the flash. -/
def State.header (s : State) (i : Nat) : List Byte := s.flash (slotBase i) 8192

/-- P0: the fuses are measured, session keys and the debug nonce are drawn; with the identity erased there is no service (R708, R731, R732,
R740, R743). -/
def State.endP0 (s : State) : State :=
  let s := s.mrExtend 0 (shaBytes (sha384 (leBytes 4 Config.romVersion ++ leBytes 4 s.fuseWord ++ shaBytes s.start.ownerHash)))
  let s := { s with start := { s.start with sessionKey := !s.start.identErased, sessionSeed := s.drawn, nonce := Config.dbgNonce s.drawn,
                                            phase := 1 }, drawn := s.drawn + 1 }
  if s.start.identErased then s.startFails else s

/-- A slot's header is read and checked (R716); a signature that fails fires IMGSIG (R742). -/
def State.readSlot (s : State) (i : Nat) : State :=
  let h := s.header i
  let c := s.hdrCheck h
  let x : SlotHdr := { valid := c == 0, seq := byteField h 8 8, svn := byteField h 16 1 % 64, numVf := byteField h 18 2, check := c }
  let s := { s with start := { s.start with slots := s.start.slots.set i x } }
  if hdrFormat h && !ecdsaOk (hdrOwner h) (sha384 (h.take 128 ++ h.drop 256)) ((h.drop 128).take 96) then s.alarm 6 else s

def State.slotHdr (s : State) (i : Nat) : SlotHdr := s.start.slots.get {} i

/-- The valid slot with the larger SEQ; A when the two are equal (R716). -/
def State.chooseSlot (s : State) : Option Nat :=
  let a := s.slotHdr 0
  let b := s.slotHdr 1
  if a.valid && b.valid then some (if a.seq < b.seq then 1 else 0) else if a.valid then some 0 else if b.valid then some 1 else none

/-- A slot is taken: its header is measured into MR5 (R717, R731). -/
def State.takeSlot (s : State) (i : Nat) : State :=
  { s with start := { s.start with slot := i } }.mrExtend 5 (shaBytes (sha384 (s.header i)))

/-- P1 (R708, R716). -/
def State.endP1 (s : State) : State :=
  let s := (s.readSlot 0).readSlot 1
  match s.chooseSlot with
  | none => s.startFails
  | some i => let s := s.takeSlot i; { s with start := { s.start with phase := 2 } }

/-- P2: memory is trained; bit d of `full` says that die d trained in full (R708, R727, R728). -/
def State.endP2 (s : State) (full : Nat) : State :=
  { s with start := { s.start with fullTrain := full % 16, trainOwed := decide (full % 16 ≠ 0), phase := 3 } }

/-- The slot in hand is refused: MR1 to MR9 are cleared, and the other slot is tried when its header is valid and carries the same NUM_VF;
else start ends in ALARM (R717). -/
def State.refuseSlot (s : State) (cause entry : Nat) : State :=
  let i := s.start.slot
  let j := 1 - i
  let x := s.slotHdr i
  let y := s.slotHdr j
  let mr := (List.range 9).foldl (fun (t : Tab (BitVec 384)) k => t.del (k + 1)) s.start.mr
  let s := { s with start := { s.start with mr := mr, cause := cause, entry := entry, slots := s.start.slots.set i { x with check := cause } } }
  let s := if cause = 3 ∨ cause = 4 ∨ cause = 9 then s.alarm 6 else s
  if s.start.fallback ∨ !y.valid then s.startFails
  else if y.numVf ≠ x.numVf then { s with start := { s.start with slots := s.start.slots.set j { y with check := 8 } } }.startFails
  else
    let s := s.takeSlot j
    { s with start := { s.start with fallback := true, phase := 3 } }

/-- P3: the sections of the slot are checked and measured (R708, R717 to R720, R731). -/
def State.endP3 (s : State) : State :=
  let i := s.start.slot
  let h := s.header i
  let c := s.p3Check i h
  if c ≠ 0 then s.refuseSlot c 0
  else
    let s := (sects h).foldl (fun (s : State) (x : Sect) => s.mrExtend (sectMr x.ty) x.dig) s
    let img := sha384 (s.flash (slotBase i) (byteField h 24 8))
    { s with start := { s.start with imgOwner := sha384 (hdrOwner h), imgDigest := img, imgSvn := byteField h 16 1, phase := 4 } }

/-- P5: the dies leave reset, Pool is cleared, and the fabric ports may train (R708, R527). -/
def State.endP5 (s : State) : State :=
  let s := { s with mem := s.mem.clear (poolAt 0 0) (48 * 2 ^ 23), start := { s.start with p5done := true } }
  [0, 1, 2].foldl (fun (s : State) p => s.setPortEn (16 + p) { st := .starting }) s

/-! ### The first SERVE (R609, R646, R678, R692, R700, R713, R785) -/

/-- Fronthaul ports that the image enables train; the fabric port of an engine that the image quarantines stays OFF (R607, R609, R724). -/
def State.startPorts (s : State) : State :=
  let s := (List.range 16).foldl (fun (s : State) p => if s.regBits (Reg.FHL_PORT_CFG p) 0 1 = 1 then s.fhEnable p else s) s
  [0, 1, 2].foldl (fun (s : State) p => if s.quarHard (0xD000 + p) then (s.setPortEn (16 + p) {}).losePlane p .down else s) s

/-- Nodes whose heartbeats count: partner, wards and stewards (R679, R685, R692). -/
def State.peerNodes (s : State) : List Nat :=
  let wards := ((List.range 2048).map (fun i => s.regs.get 0 (Reg.HLT_WARD i))).filter (fun w => bit w 0)
  let l := (if s.regBits Reg.HLT_PARTNER 20 1 = 1 then [s.regBits Reg.HLT_PARTNER 0 12] else []) ++ wards.map (fun w => bits w 1 12) ++
    [s.steward 0, s.steward 1]
  l.eraseDups.filter (fun n => n != s.self % 4096)

/-- The health monitor begins: role, stewardship, peers, pairing (R678, R692, R700, R704). -/
def State.startHealth (s : State) : State :=
  let role := match s.regBits Reg.HLT_CFG 32 2 with
    | 1 => Role.spareTest
    | 2 => Role.shadow
    | _ => Role.active
  let peers := s.peerNodes.map s.newPeer
  { s with health := { s.health with role := role, tokens := s.expelMax, tokenAt := s.now, peers := peers } }.startPair

/-- Flags held from start that are enabled raise the time-event attention once (R785). -/
def State.startFlags (s : State) : State := if s.reg Reg.TIM_EVT &&& s.reg Reg.TIM_EVT_EN ≠ 0 then s.raise pf0 1 else s

/-- The device state first reads SERVE, unless an alarm has halted the tenants (R708 to R713, R743, R785). -/
def State.firstServe (s : State) : State :=
  let s := s.deriveAlias
  let ms := (s.time.hub - s.start.beganAt) / 1600000
  let s := { s with start := { s.start with phase := 6, served := true, servedAt := s.time.hub, startMs := min 65535 ms } }
  let s := (if s.start.haltTenants then s else (s.setDev .serve).redev).startPorts.startHealth.startFlags
  let s := s.liveVfs.foldl (fun (s : State) v => s.vfRelease v) s
  if s.regBits Reg.RPL_CFG 0 1 = 1 then s.recBegin true else s

/-- P4: everything the image sets is applied and checked (R708, R717, R721 to R726). -/
def State.endP4 (s : State) : State :=
  let r := s.p4 s.start.slot (s.header s.start.slot)
  if r.cause ≠ 0 then s.refuseSlot r.cause r.entry else r.st.firstServe

/-- START_PHASE_END (R708 to R728): the phase in progress ends. In P4 the first end is P5's, which runs alongside. -/
def execStartPhaseEnd (full : Nat) (s : State) : Res :=
  if !s.start.pwrOk ∨ s.start.failed ∨ s.start.restart = 4 then .next s
  else
    match s.start.phase with
    | 0 => .next s.endP0
    | 1 => .next s.endP1
    | 2 => .next (s.endP2 full)
    | 3 => .next s.endP3
    | 4 => .next (if s.start.p5done then s.endP4 else s.endP5)
    | _ => .next s

/-- TRAINING_STORE_WRITE (R727): the older copy takes the fresh record. -/
def execTrainingStoreWrite (s : State) : Res :=
  if s.start.served ∧ s.start.trainOwed ∧ s.regBits Reg.HUB_CFG 2 2 ≠ 2 ∧ s.time.hub ≤ s.start.servedAt + 16000000000 then
    .next { s with start := { s.start with trainOwed := false, trainCopy := s.start.trainCopy + 1 } }
  else .next s

/-! ### Restart (R729, R730) -/

/-- RESTART_ARM (R729). -/
def execRestartArm (s : State) : Res :=
  .next (s.bar2 Reg.HUB_CMD 4 1 (fun (s : State) =>
    if 2 ≤ s.start.restart then s
    else
      let at0 := stampTc (s.regs.get 0 Reg.HUB_RESTART_AT)
      let ms := decide (s.reg Reg.HUB_RESTART_AT = 0 ∨ at0 < s.now) || s.time.st == .freerun
      let t := if ms then s.now + s.regBits Reg.HUB_CFG 4 10 * 1966080 else at0
      ({ s with start := { s.start with restart := 1, restartAt := t } }.flag Reg.HUB_EVT 2).raiseAll 4))

/-- RESTART_CANCEL (R729). -/
def execRestartCancel (s : State) : Res :=
  .next (s.bar2 Reg.HUB_CMD 4 2 (fun (s : State) =>
    if s.start.restart = 1 then { s with start := { s.start with restart := 0 } } else s))

/-- RESTART_INSTANT (R730 step 1). -/
def execRestartInstant (s : State) : Res :=
  if s.start.restart ≠ 1 ∨ s.now < s.start.restartAt then .next s
  else
    let s := { s with start := { s.start with restart := 2 } }
    .next (((s.radio.cells.filter (fun (p : Nat × Cell) => p.2.en.st == .on)).map (·.1)).foldl (fun (s : State) n => s.stopCell n 0) s)

/-- RESTART_STOPPING (R730 step 2): the last cell is OFF. -/
def execRestartStopping (s : State) : Res :=
  if s.start.restart ≠ 2 ∨ s.radio.cells.any (fun (p : Nat × Cell) => p.2.en.st != .off) then .next s
  else
    let s := { s with start := { s.start with restart := 3, stoppingAt := s.now } }.setDev .stopping
    .next (s.liveVfs.foldl (fun (s : State) v => if (s.fn v).en.st = .stopping then s else s.vfStop v false) s)

/-- RESTART_RESET (R730 step 3): the last VF is OFF or 20 ms have passed, and no flash command is in progress. A device that has erased its
identity stays STOPPING (R743). -/
def execRestartReset (s : State) : Res :=
  if s.start.restart ≠ 3 ∨ 3 ≤ s.start.action ∨ s.start.flash.isSome ∨ (s.liveVfs ≠ [] ∧ s.now < s.start.stoppingAt + 20 * 1966080) then .next s
  else .next s.restarted

/-! ### Fuses and ownership (R745) -/

/-- A permanent command of `HUB_CMD`: ignored with REFUSED unless it is confirmed and its condition holds (R745). -/
def State.fuseCmd (s : State) (code confirm : Nat) (ok : State → Bool) (f : State → State) : State :=
  s.bar2 Reg.HUB_CMD 4 (code + confirm % 2 ^ 16 * 2 ^ 16) (fun (s : State) =>
    if confirm % 2 ^ 16 = 0x4B44 ∧ s.start.served ∧ ok s then f s else s.flag Reg.HUB_EVT 1)

/-- COMMIT_SVN (R745). -/
def execCommitSvn (confirm : Nat) (s : State) : Res :=
  .next (s.fuseCmd 3 confirm (fun _ => true)
    (fun (s : State) => { s with start := { s.start with svnMin := max s.start.svnMin s.start.imgSvn } }))

/-- TAKE_OWNER (R745): only while OWNER_SET is 0. -/
def execTakeOwner (confirm : Nat) (s : State) : Res :=
  .next (s.fuseCmd 4 confirm (fun (s : State) => !s.start.ownerSet)
    (fun (s : State) => { s with start := { s.start with ownerSet := true, ownerHash := s.start.imgOwner } }))

/-! ### The flash (R715) -/

/-- Offset and length of a flash command. -/
def State.flashOfs (s : State) : Nat := s.regBits Reg.HUB_FLASH_OFS 0 29
def State.flashLen (s : State) : Nat := s.regBits Reg.HUB_FLASH_LEN 0 28

/-- May a flash command act: after SERVE, within the slot not in use, none in progress (R715)? After a start that ended in ALARM no slot is in
use, and either may be rewritten (R717). -/
def State.flashFree (s : State) : Bool :=
  let inSlot (i : Nat) : Bool := decide (slotBase i ≤ s.flashOfs ∧ s.flashOfs + s.flashLen ≤ slotBase i + 2 ^ 27)
  s.start.flash.isNone && ((s.start.served && inSlot (1 - s.start.slot)) || (s.start.failed && (inSlot 0 || inSlot 1)))

/-- A flash command: refused with REFUSED, or begun with BUSY (R715). -/
def State.flashCmd (s : State) (code : Nat) (f : State → State) : State :=
  s.bar2 Reg.HUB_FLASH_CMD 4 code (fun (s : State) =>
    if s.flashFree then
      f ({ s with start := { s.start with flash := some (code, s.flashOfs, s.flashLen) } }.setReg Reg.HUB_FLASH_STAT 1)
    else s.flag Reg.HUB_FLASH_STAT 4)

/-- FLASH_ERASE (R715): every 64 KiB sector that the range touches. -/
def execFlashErase (s : State) : Res :=
  .next (s.flashCmd 1 (fun (s : State) =>
    let a := s.flashOfs / 65536 * 65536
    let n := if s.flashLen = 0 then 0 else ceilDiv (s.flashOfs + s.flashLen) 65536 * 65536 - a
    { s with mem := s.mem.clear (flashAt a) n, start := { s.start with flash := some (1, a, n) } }))

/-- Bytes programmed: a bit of the flash can only be cleared, so the stored complement gains bits. -/
def State.program (s : State) (o : Nat) (b : List Byte) : State :=
  let old := s.mem.rdBytes (flashAt o) b.length
  { s with mem := s.mem.wrBytes (flashAt o) ((List.zip old b).map (fun p => p.1 ||| ~~~p.2)) }

/-- FLASH_PROGRAM (R715): bytes that the DMA brings from host memory. -/
def execFlashProgram (b : List Byte) (s : State) : Res :=
  .next (s.flashCmd 2 (fun (s : State) =>
    let r := s.dmaIn pf0 (s.regBits Reg.HUB_FLASH_HOST 0 48) s.flashLen b
    r.2.program s.flashOfs r.1))

/-- FLASH_READ (R715). -/
def execFlashRead (s : State) : Res :=
  .next (s.flashCmd 3 (fun (s : State) => s.emit (.hostWrite pf0 (s.regBits Reg.HUB_FLASH_HOST 0 48) (s.flash s.flashOfs s.flashLen))))

/-- FLASH_DONE (R715): DONE, or ERROR, after which what was to be altered is undefined. -/
def execFlashDone (ok : Bool) (s : State) : Res :=
  if s.start.flash.isNone then .next s
  else
    let s := match ok, s.flashAlters with
      | false, some (o, n) => s.flashLost o n
      | _, _ => s
    .next ({ s with start := { s.start with flash := none } }.setReg Reg.HUB_FLASH_STAT (if ok then 2 else 8))

/-! ### Measurement in service (R731) -/

/-- SEC_MR_EXT (R731, R748): registers 12 to 15; other values are ignored. -/
def execSecMrExt (i : Nat) (s : State) : Res :=
  .next (s.bar2 Reg.SEC_MR_EXT 4 i (fun (s : State) =>
    if 12 ≤ i % 16 then s.mrExtend (i % 16) ((List.range 12).flatMap (fun k => leBytes 4 (s.reg (Reg.SEC_MR_EXT_DATA k)))) else s))

end Sys2Proof.Machine
end

