-- ==== Sys2Proof/Machine/Time.lean ====
section
/-! DEFINITION. The commands of the time unit: sources, holdover, steps, snapshots, the 1PPS output (R62 to R78, R101, R769, R784). -/
namespace Sys2Proof.Machine

/-- Signed ns in 1/64 Tc. -/
def sns64 (n : Int) : Int := n * 12582912 / 100000

/-- Distance from the nearest multiple of a second, 1/64 Tc. -/
def nearSecond (x : Int) : Int := let r := x % second64; if r < second64 / 2 then r else r - second64

/-- ±5 µs in 1/64 Tc (R63). -/
abbrev pulse64 : Int := 629145

/-- The active edge just taken, with the cable compensation, as an instant of GPS time by the counter, 1/64 Tc (R61, R63). -/
def State.edge64 (s : State) : Int := s.now64 - sns64 (signed 16 (s.regBits Reg.TIM_PPS_CFG 0 16)) - 64 * s.frameOfs

/-- An expected pulse was missing or invalid (R63). -/
def State.ppsBad (s : State) : State :=
  let x := s.srcSt 1
  let s := (s.setSrc 1 { x with run := 0, miss := x.miss + 1 }).timEvt 4
  if 2 ≤ x.miss ∧ x.qual then s.disqualify 1 else s

/-- PPS_PULSE (R62, R63). Before the first lock the counter expects a pulse one second after the last. -/
def execPpsPulse (s : State) : Res :=
  if s.replayed || !s.srcEnabled 1 then .next s
  else
    let e := s.edge64
    let ph : Option Int := if s.time.everLocked then some (nearSecond e) else s.time.ppsLast.map (fun l => nearSecond ((s.now : Int) * 64 - 64 * l))
    let valid := match ph with | none => false | some d => decide (-pulse64 ≤ d) && decide (d ≤ pulse64) && s.time.tod.isSome
    let sec : Nat := ((e + second64 / 2) / second64).toNat
    let ofs : Int := match s.time.tod with | none => 0 | some t => e - second64 * (t : Int)
    let first := !s.time.everLocked && s.time.ppsLast.isNone
    let s := { s with time := { s.time with tod := none, ppsLast := some s.now, expSec := some (sec + 1) } }
    if first then .next s
    else if !valid then .next s.ppsBad
    else
      let x := s.srcSt 1
      let s := s.setSrc 1 { x with run := x.run + 1, miss := 0, ofs := ofs }
      if x.qual then .next (s.steer 1 ofs) else if 4 ≤ x.run + 1 then .next (s.qualify 1) else .next s

/-- PPS_MISS (R63): no edge has come by 5 µs after the instant expected. -/
def execPpsMiss (s : State) : Res :=
  if s.replayed || !s.srcEnabled 1 then .next s
  else if s.time.everLocked then
    let k : Nat := ((s.edge64 - pulse64) / second64).toNat
    if (match s.time.expSec with | none => true | some m => decide (m ≤ k)) then
      .next ({ s with time := { s.time with expSec := some (k + 1), tod := none } }.ppsBad)
    else .next s
  else
    match s.time.ppsLast with
    | none => .next s
    | some l => if l + secondTc + usTc 5 ≤ s.now then .next ({ s with time := { s.time with tod := none } }.ppsBad) else .next s

/-- A time-of-day message that passes its own check: SYNC, CHECK, FLAGS[0] (R64, R65). -/
def todOk (b : List Byte) : Bool :=
  b.length == 16 && byteField b 0 2 == 0x4E4B && (crc16 (b.take 14)).toNat == byteField b 14 2 && (byteField b 3 1).testBit 0

/-- TOD_MESSAGE (R64, R65): it must come 100 ms to 900 ms after the preceding pulse and, once the counter is set, name the second that it
expects. A TYPE other than 1 is ignored. -/
def execTodMessage (b : List Byte) (s : State) : Res :=
  if s.replayed || !s.srcEnabled 1 || byteField b 2 1 != 1 then .next s
  else
    let sec := byteField b 4 6
    let timely := match s.time.ppsLast with
      | none => false
      | some l => decide (l + 196608000 ≤ s.now) && decide (s.now ≤ l + 1769472000)
    let named := !s.time.everLocked || decide ((sec : Int) = s.edge64 / second64 + 1)
    if todOk b && timely && named then
      let s := { s with time := { s.time with tod := some sec } }
      let s := s.setReg Reg.TIM_LEAP (byteField b 10 1)
      .next (if (byteField b 3 1).testBit 1 then s.timEvt 0x100 else s)
    else .next (s.timEvt 8)

/-! ### PTP and SyncE (R66 to R68) -/

def State.ptpPort (s : State) (p : Nat) : PtpPort := s.time.ptpPorts.get {} p

def State.setPtpPort (s : State) (p : Nat) (x : PtpPort) : State := { s with time := { s.time with ptpPorts := s.time.ptpPorts.set p x } }

/-- Is PTP enabled on a port (R106)? -/
def State.ptpOn (s : State) (p : Nat) : Bool := s.srcEnabled 2 && decide (s.regBits Reg.TIM_PTP_CFG (8 + p) 1 = 1)

/-- Frequency from SyncE follows the QL of the selected port (R68). -/
def State.synceFrom (s : State) : State :=
  let on := s.time.ptpSlave && decide ((s.ptpPort s.time.ptpPort).ql ≤ s.regBits Reg.TIM_PTP_CFG 24 4)
  if on = s.time.synce then s else { s with time := { s.time with synce := on } }.timEvt 0x10

/-- Port that the alternate BMCA selects: lowest rank, then lowest port, among those with a master (R66). -/
def State.bestPort (s : State) : Option Nat :=
  leastBy ((List.range 16).filter (fun p => s.ptpOn p && (s.ptpPort p).announced)) (fun p => (s.ptpPort p).rank)

/-- The slave port is chosen anew; the source starts over when the port changes or none is left (R62, R66, R784). -/
def State.selectPort (s : State) : State :=
  match s.bestPort with
  | none => if s.time.ptpSlave then { s with time := { s.time with ptpSlave := false } }.disqualify 2 else s
  | some p =>
    if s.time.ptpSlave ∧ s.time.ptpPort = p then s
    else (({ s with time := { s.time with ptpPort := p, ptpSlave := true } }).disqualify 2).synceFrom

/-- A master's TAI time as the counter's air time, 1/64 Tc (R61, R67). -/
def State.fromTai (s : State) (t : Int) : Int := t - 315964819 * second64 + 64 * s.frameOfs

/-- PTP_FRAME (R62, R66, R67). -/
def execPtpFrame (p : Nat) (m : PtpMsg) (s : State) : Res :=
  if 16 ≤ p then .fault .noSuchPart
  else if s.replayed || !s.ptpOn p then .next s
  else
    let x := s.ptpPort p
    let mine := s.time.ptpSlave && s.time.ptpPort == p
    match m with
    | .announce rank utc leap =>
      let s := (s.setPtpPort p { x with announced := true, rank := rank }).selectPort
      if s.time.ptpPort = p then
        let s := s.setReg Reg.TIM_LEAP (unsigned 32 ((utc : Int) - 19))
        .next (if leap then s.timEvt 0x100 else s)
      else .next s
    | .sync t1 =>
      let t1 := s.fromTai t1
      let t2 : Int := s.now64
      let ofs := t2 - t1 - x.delay
      let good := match x.last with | none => false | some (a, b) => decide (((t2 - b) - (t1 - a)).natAbs ≤ Config.ptpLock)
      let s := s.setPtpPort p { x with t1 := t1, t2 := t2, last := some (t1, t2) }
      if !mine then .next s
      else
        let k := s.srcSt 2
        let s := s.setSrc 2 { k with run := if good then k.run + 1 else 0, ofs := ofs }
        if k.qual then .next (s.steer 2 ofs) else if good && decide (16 ≤ k.run + 1) then .next (s.qualify 2) else .next s
    | .delayResp t4 => .next (s.setPtpPort p { x with delay := ((x.t2 - x.t1) + (s.fromTai t4 - x.t3)) / 2 })

/-- PTP_DELAY_REQ (R66): sent on the slave port. -/
def execPtpDelayReq (s : State) : Res :=
  let p := s.time.ptpPort
  if s.replayed || !s.ptpOn p || !s.time.ptpSlave then .next s
  else .next ((s.setPtpPort p { s.ptpPort p with t3 := s.now64 }).emit (.delayReq p))

/-- ESMC_FRAME (R68). -/
def execEsmcFrame (p ql : Nat) (s : State) : Res :=
  if 16 ≤ p then .fault .noSuchPart
  else if s.replayed || !s.ptpOn p then .next s
  else .next (s.setPtpPort p { s.ptpPort p with ql := ql }).synceFrom

/-- PTP_ANNOUNCE_TIMEOUT (R66, R784). -/
def execPtpAnnounceTimeout (p : Nat) (s : State) : Res :=
  if 16 ≤ p then .fault .noSuchPart
  else if s.replayed then .next s
  else .next (s.setPtpPort p { s.ptpPort p with announced := false, last := none }).selectPort

/-! ### Selection, holdover, steps (R62, R69, R73 to R78) -/

/-- 16 s in Tc (R62). -/
abbrev holdoffTc : Nat := 16 * secondTc

/-- SOURCE_HOLDOFF_EXPIRY (R62, R69): a higher-ranked source that has stayed qualified for 16 s is selected; a follower of SRC1 returns to SRC0
under the same hold-off. -/
def execSourceHoldoffExpiry (s : State) : Res :=
  if s.replayed then .next s
  else
    let higher := (s.ranked.takeWhile (fun i => i != s.time.src)).find? (fun i => (s.srcSt i).qual && decide ((s.srcSt i).since + holdoffTc ≤ s.now))
    match s.time.st, higher with
    | .locked, some i => .next ((s.timTo .locked i false).steer i (s.srcSt i).ofs)
    | _, _ =>
      match s.time.bcn0Since with
      | none => .next s
      | some t =>
        if s.time.bcn1 && decide (t + holdoffTc ≤ s.now) then
          .next ({ s with time := { s.time with bcn1 := false, bcn0Since := none, bcnLast := s.time.bcnLast0 } }.timEvt 0x20)
        else .next s

/-- Beacon period in Tc (R107). -/
def State.beaconTc (s : State) : Nat := usTc (s.regBits Reg.TIM_BCN_CFG 24 16)

/-- BEACON_SOURCE_SWITCH (R69): no beacon from SRC0 for 4 periods. -/
def execBeaconSourceSwitch (s : State) : Res :=
  if s.replayed || !s.srcEnabled 3 || s.time.bcn1 || decide (s.now < s.time.bcnLast + 4 * s.beaconTc) then .next s
  else .next ({ s with time := { s.time with bcn1 := true, bcn0Since := none, bcnLast := s.now } }.timEvt 0x20)

/-- HOLDOVER_LIMIT (R73, R74). -/
def execHoldoverLimit (s : State) : Res :=
  if !s.replayed && s.time.st == .holdover && decide (s.regBits Reg.TIM_HOLD 32 16 < s.holdTe) then .next (s.timTo .lost s.time.src false)
  else .next s

/-- SNAPSHOT (R101). -/
def execSnapshot (s : State) : Res :=
  .next (s.bar2 Reg.TIM_CMD 4 1 (fun (s : State) => s.setReg Reg.TIM_SNAP (tcStamp s.now).toNat))

/-- The counter is stepped to source `i`; comparators are compared again, and the sequencers take the entries that hold it (R77, R78, R119). -/
def State.stepTo (s : State) (i : Nat) : State :=
  let d := (s.srcSt i).ofs
  let s := s.setCounter (s.now64 - d)
  let s := ([1, 2, 3]).foldl (fun s j => let x := s.srcSt j; s.setSrc j { x with ofs := x.ofs - d }) s
  let s := s.setSrc i { s.srcSt i with disq := false, qual := true, since := s.now }
  let s := ({ s with time := { s.time with offset := 0 } }.timTo .locked i true).reevaluate
  (List.range 12).foldl (fun s g => (s.seqUpdate g).hardStopNow g) s

/-- RESTEP (R77, R101). -/
def execRestep (s : State) : Res :=
  .next (s.bar2 Reg.TIM_CMD 4 2 (fun (s : State) =>
    if s.replayed then s
    else
      match s.stepSrc with
      | none => s.timEvt 0x40
      | some i => s.stepTo i))

/-- REQUALIFY (R101): DISQ_OFS is cleared. -/
def execRequalify (s : State) : Res :=
  .next (s.bar2 Reg.TIM_CMD 4 3 (fun (s : State) => ([1, 2, 3]).foldl (fun (s : State) i => s.setSrc i { s.srcSt i with disq := false }) s))

/-- AUTO_STEP (R77). -/
def execAutoStep (s : State) : Res :=
  if s.replayed || s.regBits Reg.TIM_CFG 1 1 == 0 then .next s
  else
    match s.stepSrc with
    | none => .next s
    | some i => .next (s.stepTo i)

/-! ### Output (R769) -/

/-- The 16-byte message that names second `n` (R64, R769). -/
def State.todMsg (s : State) (n : Nat) : List Byte :=
  let flags := (if s.time.st = .locked then 1 else 0) + 2 * s.regBits Reg.TIM_EVT 8 1
  let b := leBytes 2 0x4E4B ++ leBytes 1 1 ++ leBytes 1 flags ++ leBytes 6 n ++ leBytes 1 (s.reg Reg.TIM_LEAP) ++ leBytes 1 15 ++ leBytes 2 0
  b ++ leBytes 2 (crc16 b).toNat

/-- PPS_OUT_PULSE (R61, R104, R769): the pulse marks a whole GPS second, with the advance of OUT_DELAY_NS; the message names the next. -/
def execPpsOutPulse (s : State) : Res :=
  let t : Int := s.now64 - 64 * s.frameOfs + sns64 (signed 16 (s.regBits Reg.TIM_PPS_CFG 16 16))
  let sec : Nat := (t / second64).toNat
  if !(s.time.st = .locked || s.time.st = .holdover) || decide (t < 0) || decide (128 ≤ t % second64) || s.time.ppsOutSec == some sec then .next s
  else .next ({ s with time := { s.time with ppsOutSec := some sec } }.emit (.pps sec (s.todMsg (sec + 1))))

end Sys2Proof.Machine
end

