-- ==== Sys2Proof/Machine/Trust.lean ====
section
/-! DEFINITION. The commands of attestation, the debug port and the security sensors (R732 to R734, R740 to R744, R772, R773). -/
namespace Sys2Proof.Machine

/-! ### SPDM (R733, R734; message codes of DMTF DSP0274, log entry 22) -/

/-- Requests are answered once an image has enabled a transport, and always before that (R733, R748). -/
def State.spdmOpen (s : State) : Bool :=
  s.start.pwrOk && (!s.start.served || s.regBits Reg.SEC_CFG 7 1 == 1 || s.regBits Reg.SEC_CFG 8 1 == 1)

def State.setSpdm (s : State) (n : Nat) : State := { s with start := { s.start with spdm := n } }

/-- An ERROR response with its code. -/
def State.spdmErr (s : State) (code : Nat) : State := s.emit (.spdm 0x7F (leBytes 1 code))

/-- A request that needs the agreement reached so far to be at least `n`; a device with its identity erased does not answer it (R743). -/
def State.spdmReq (s : State) (n : Nat) (f : State) : Res :=
  if !s.spdmOpen ∨ s.start.identErased then .next s else if s.start.spdm < n then .next (s.spdmErr 4) else .next f

/-- GET_VERSION (R733): SPDM 1.2; the exchange begins anew. -/
def execGetVersion (s : State) : Res := if !s.spdmOpen then .next s else .next ((s.setSpdm 1).emit (.spdm 4 (leBytes 2 0x1200)))

/-- GET_CAPABILITIES (R733): CERT_CAP, CHAL_CAP, MEAS_CAP with signature. -/
def execGetCapabilities (s : State) : Res := s.spdmReq 1 ((s.setSpdm (max 2 s.start.spdm)).emit (.spdm 0x61 (leBytes 4 0x16)))

/-- NEGOTIATE_ALGORITHMS (R733): SHA-384 and ECDSA P-384 among the requester's choices. -/
def execNegotiateAlgorithms (hash sig : Nat) (s : State) : Res :=
  s.spdmReq 2 (if hash.testBit 1 && sig.testBit 7 then (s.setSpdm 3).emit (.spdm 0x63 (leBytes 1 1 ++ leBytes 4 0x80 ++ leBytes 4 2)) else s.spdmErr 1)

/-- The certificate chain as it stands. -/
def State.chain (s : State) : List Byte := Config.certChain s.start.aliasMr

/-- GET_DIGESTS (R733): slot 0 only. -/
def execGetDigests (s : State) : Res := s.spdmReq 3 (s.emit (.spdm 1 (leBytes 1 1 ++ shaBytes (sha384 s.chain))))

/-- GET_CERTIFICATE (R733): a portion of the chain of slot 0, its length and what remains. -/
def execGetCertificate (slot ofs len : Nat) (s : State) : Res :=
  let p := (s.chain.drop ofs).take len
  s.spdmReq 3 (if slot ≠ 0 ∨ s.chain.length < ofs then s.spdmErr 1
    else s.emit (.spdm 2 (leBytes 2 p.length ++ leBytes 2 (s.chain.length - ofs - p.length) ++ p)))

/-- The bytes with the alias key's signature over them and what was asked (R732). -/
def State.signed (s : State) (code : Nat) (asked b : List Byte) : State :=
  { s with drawn := s.drawn + 1 }.emit (.spdm code (b ++ Config.aliasSign s.start.aliasMr (asked ++ b) s.drawn))

/-- CHALLENGE (R733): the chain's digest and a fresh nonce, signed together with the requester's nonce. -/
def execChallenge (slot : Nat) (nonce : BitVec 256) (s : State) : Res :=
  s.spdmReq 3 (if slot ≠ 0 then s.spdmErr 1
    else { s with drawn := s.drawn + 1 }.signed 3 (leBytes 32 nonce.toNat)
      (shaBytes (sha384 s.chain) ++ leBytes 32 (Config.dbgNonce s.drawn).toNat))

/-- Value of a measurement index (R734). -/
def State.measurement (s : State) (i : Nat) : Option (List Byte) :=
  if 1 ≤ i ∧ i ≤ 16 then some (shaBytes (s.start.mr.get 0 (i - 1)))
  else if i = 0x20 then some (Config.sessionPub s.start.sessionSeed)
  else if i = 0x21 then some Config.imagePub
  else if i = 0x22 then some (leBytes 8 (s.reg Reg.HUB_IDENT) ++ leBytes 8 (s.reg Reg.HUB_SERIAL))
  else none

/-- The measurement indices (R734). -/
def measIndices : List Nat := (List.range 16).map (· + 1) ++ [0x20, 0x21, 0x22]

/-- A measurement block: index, length, value. -/
def State.measBlock (s : State) (i : Nat) : List Byte :=
  match s.measurement i with
  | none => []
  | some v => leBytes 1 i ++ leBytes 2 v.length ++ v

/-- GET_MEASUREMENTS (R734): the number of indices, one of them, or all; signed with the requester's nonce when asked. -/
def execGetMeasurements (index : Nat) (signIt : Bool) (nonce : BitVec 256) (s : State) : Res :=
  let b : Option (List Byte) :=
    if index = 0 then some (leBytes 1 measIndices.length)
    else if index = 0xFF then some (leBytes 1 measIndices.length ++ measIndices.flatMap s.measBlock)
    else (s.measurement index).map (fun _ => leBytes 1 1 ++ s.measBlock index)
  s.spdmReq 3 (match b with
    | none => s.spdmErr 1
    | some b => if signIt then s.signed 0x60 (leBytes 32 nonce.toNat) b else s.emit (.spdm 0x60 b))

/-! ### The test access port (R740, R741, R773) -/

/-- An instruction of the port takes force; leaving EXTEST restarts the device from P0 (R712, R773). -/
def State.jtag (s : State) (i : JtagIr) : State :=
  let s := if s.start.ir = .extest ∧ i ≠ .extest then s.restarted else s
  { s with start := { s.start with ir := i } }

/-- IDCODE (R773). -/
def execIdcode (s : State) : Res := if !s.start.pwrOk then .next s else .next ((s.jtag .idcode).emit (.tdo 0x09640A01))

/-- BYPASS (R773). -/
def execBypass (s : State) : Res := if !s.start.pwrOk then .next s else .next (s.jtag .bypass)

/-- The boundary-scan chain takes `pins` and shifts out what it held (R773). -/
def State.scan (s : State) (pins : BitVec 64) : State :=
  { s with start := { s.start with chain := pins } }.emit (.tdo s.start.chain.toNat)

/-- SAMPLE_PRELOAD (R773). -/
def execSamplePreload (pins : BitVec 64) (s : State) : Res := if !s.start.pwrOk then .next s else .next ((s.jtag .sample).scan pins)

/-- EXTEST (R773): accepted only while PERST# is asserted. -/
def execExtest (pins : BitVec 64) (s : State) : Res :=
  if !s.start.pwrOk ∨ !s.start.perst then .next s else .next ((s.jtag .extest).scan pins)

/-- EXTEST_EXIT (R773): the device restarts from P0. -/
def execExtestExit (s : State) : Res := if s.start.ir ≠ .extest then .next s else .next (s.jtag .bypass)

/-- Owner keys in the headers of the flash whose hash the owner fuses hold (R740). -/
def State.ownerKeys (s : State) : List (List Byte) :=
  ([0, 1].map (fun i => hdrOwner (s.flash (slotBase i) 8192))).filter (fun k => s.start.ownerSet && sha384 k == s.start.ownerHash)

/-- Is a debug token accepted (R740)? -/
def State.tokenOk (s : State) (b : List Byte) : Bool :=
  b.length == 256 && byteField b 0 8 == s.reg Reg.HUB_SERIAL && byteField b 8 32 == s.start.nonce.toNat && decide (byteField b 40 1 < 4) &&
  !s.start.debugOff && s.ownerKeys.any (fun k => ecdsaOk k (sha384 (b.take 96)) ((b.drop 96).take 96))

/-- DBG_TOKEN (R740, R741): MR0, ERASE-SESSION and the scope; or the DEBUG alarm. Either way a fresh nonce. -/
def execDbgToken (b : List Byte) (s : State) : Res :=
  if !s.start.pwrOk then .next s
  else
    let s := s.jtag .token
    let ok := s.tokenOk b
    let s := { s with start := { s.start with nonce := Config.dbgNonce s.drawn }, drawn := s.drawn + 1 }
    if ok then
      let s := (s.mrExtend 0 (shaBytes (sha384 b))).takeAction 2
      .next { s with start := { s.start with debug := true, debugScope := byteField b 40 1 } }
    else .next (s.alarm 5)

/-! ### Sensors (R742 to R744, R772) -/

/-- SECURITY_ALARM (R742, R743): source `b` fires. -/
def execSecurityAlarm (b : Nat) (s : State) : Res :=
  if 7 ≤ b then .fault .noSuchPart else if !s.start.pwrOk then .next s else .next (s.alarm b)

/-- TAMPER_CHECK (R742, R772): TAMP_IN against the bit driven, of which the second miss in a row fires TLOOP; `next` is driven then. -/
def execTamperCheck (tampIn next : Bool) (s : State) : Res :=
  if !s.start.pwrOk then .next s
  else
    let miss := if tampIn = s.start.tampOut then 0 else s.start.tamperMiss + 1
    let t := { s with start := { s.start with tamperMiss := if 2 ≤ miss then 0 else miss, tampOut := next } }
    .next (if 2 ≤ miss then t.alarm 1 else t)

end Sys2Proof.Machine
end

