-- ==== Sys2Proof/Machine/Recorder.lean ====
section
/-! DEFINITION. The commands of the replay recorder: recording, replay and its injection, pause and resume, transfer of the log (R635 to R657). -/
namespace Sys2Proof.Machine

/-! ### RPL_CMD (R656) -/

/-- A command of `RPL_CMD`: ignored with REFUSED when its condition is not met (R656). -/
def State.rplCmd (s : State) (code : Nat) (ok : State → Bool) (f : State → State) : State :=
  s.bar2 Reg.RPL_CMD 4 code (fun (s : State) => if ok s then f s else s.rplEvt 0x40)

/-- Neither RECORDING nor REPLAYING (R656). -/
def State.rplFree (s : State) : Bool := s.rpl.st != .recording && s.rpl.st != .replaying

/-- REC_START (R656). -/
def execRecStart (s : State) : Res := .next (s.rplCmd 1 (fun (s : State) => s.rpl.st == .idle) (fun (s : State) => s.recBegin false))

/-- REC_STOP (R654, R656). -/
def execRecStop (s : State) : Res :=
  .next (s.rplCmd 2 (fun (s : State) => s.rpl.st == .recording)
    (fun (s : State) => let s := s.addRec 0x7F 0 0 []; { s with rpl := { s.rpl with st := .idle } }))

/-- MARK (R656). -/
def execMark (s : State) : Res :=
  .next (s.rplCmd 5 (fun (s : State) => s.rpl.st == .recording) (fun (s : State) => s.putRec 0x60 0 (s.regs.get 0 Reg.RPL_ARG) []))

/-- CLEAR (R656). -/
def execClearLog (s : State) : Res :=
  .next (s.rplCmd 0xA (fun (s : State) => s.rplFree) (fun (s : State) =>
    let r : Recorder := { s.rpl with st := .idle, log := [], tail := [], head := 0, nextSeq := 0, dropped := 0, wrapped := false }
    { s with rpl := { r with skipped := false, atStart := false, expect := [], halted := false, stopTaken := 0 } }))

/-! ### Replay (R649 to R653) -/

/-- May a replay begin (R649)? -/
def State.mayReplay (s : State) : Bool :=
  s.rpl.st == .idle && s.rpl.replayable && s.rpl.untouched &&
  (match s.rpl.log with
   | [] => false
   | r :: _ => bits r.aux 0 32 == s.regBits Reg.HUB_IDENT 0 32 && r.payload == shaBytes s.start.imgDigest)

/-- Was the replay stopped, and may it go on (R653, R656)? -/
def State.mayResume (s : State) : Bool := s.rpl.st == .stopped && !s.rpl.halted

/-- The OUTPUT records of the log, as the replay is to match them (R652). -/
def Recorder.outputs (r : Recorder) : List OutKey :=
  (r.log.filter (fun a => a.kind == 0x40)).map (fun a => { stamp := a.stamp, key := BitVec.ofNat 128 (leNat (a.payload.take 16)), digest := a.aux })

/-- The replay begins: the counter takes the START record's stamp and runs uncorrected, LOCKED with SRC 0 (R650). -/
def State.replayBegin (s : State) : State :=
  match s.rpl.log with
  | [] => s
  | r :: _ =>
    let s := s.setCounter (r.stamp * 64 + r.frac : Nat)
    let t : TimeUnit := { s.time with st := .locked, src := 0, freq := 0, slew := 0, everLocked := true }
    let k : Recorder := { s.rpl with st := .replaying, nextSeq := 1, expect := s.rpl.outputs, halted := false, stopTaken := 0, occur := [] }
    { s with time := t, rpl := k }

/-- REPLAY_START (R649, R650, R653). -/
def execReplayStart (s : State) : Res :=
  .next (s.rplCmd 3 (fun (s : State) => s.mayReplay || s.mayResume)
    (fun (s : State) => if s.mayResume then { s with rpl := { s.rpl with st := .replaying } } else s.replayBegin))

/-- REPLAY_STOP (R656). -/
def execReplayStop (s : State) : Res :=
  .next (s.rplCmd 4 (fun (s : State) => s.rpl.st == .replaying) (fun (s : State) => { s with rpl := { s.rpl with st := .stopped } }))

/-- `RPL_STOP_AT` in whole Tc, when it is nonzero and has not been taken (R653). -/
def State.stopAt (s : State) : Option Nat :=
  let t := stampTc (s.regs.get 0 Reg.RPL_STOP_AT)
  if s.reg Reg.RPL_STOP_AT = 0 ∨ t = s.rpl.stopTaken then none else some t

/-- STOP_AT_REACHED (R653). -/
def execStopAtReached (s : State) : Res :=
  match s.stopAt with
  | none => .next s
  | some t =>
    if s.rpl.st ≠ .replaying ∨ s.now < t then .next s
    else .next ({ s with rpl := { s.rpl with st := .stopped, stopTaken := t } }.rplEvt 8)

/-- OUTPUT_MISSING (R652): the first recorded output that is unmatched SLACK ms after its stamp. -/
def execOutputMissing (s : State) : Res :=
  if !s.replayed ∨ s.rpl.halted ∨ !s.outLogged then .next s
  else
    match s.rpl.expect.find? (fun k => decide (k.stamp + s.slackTc ≤ s.now)) with
    | none => .next s
    | some k => .next (s.diverge 3 k.key k.digest 0)

/-- LOG_GAP_WRITE (R645): one GAP record once there is room again. -/
def execLogGapWrite (s : State) : Res :=
  if s.rpl.st ≠ .recording ∨ s.rpl.dropped = 0 ∨ 2 ^ 26 < s.rpl.buffered + 32 then .next s
  else
    let s := s.addRec 0x50 0 (BitVec.ofNat 64 s.rpl.dropped) []
    .next { s with rpl := { s.rpl with dropped := 0 } }

/-! ### Injection (R650, R651) -/

/-- The state that a command's meaning gives, or the one before it where there is none. -/
def State.taken (s : State) (r : Res) : State :=
  match r with
  | .next t => t
  | .fault _ => s
  | .refused _ => s

/-- `HIF_FCTL` as a log repeats it (R624, R650). -/
def State.injFctl (s : State) (v : Nat) : Res :=
  let i := bits (BitVec.ofNat 32 v) 16 16
  let en := v % 2 == 1
  match v / 2 % 8 with
  | 1 => if en then execFctlVfEnable i s else execFctlVfDisable i s
  | 2 => if en then execFctlUnitEnable i s else execFctlUnitDisable i s
  | 3 => if en then execFctlFhPortEnable i s else execFctlFhPortDisable i s
  | 4 => if en then execFctlFabPortEnable i s else execFctlFabPortDisable i s
  | _ => .next s

/-- Commands of the hub's start and flash registers (R650, R715, R729, R745). -/
def State.injHub (s : State) (a v : Nat) : Res :=
  if a = Reg.HUB_CMD then
    (match v % 16 with
     | 1 => execRestartArm s
     | 2 => execRestartCancel s
     | 3 => execCommitSvn (v / 2 ^ 16) s
     | 4 => execTakeOwner (v / 2 ^ 16) s
     | _ => .next s)
  else
    match v % 4 with
    | 1 => execFlashErase s
    | 2 => execFlashProgram [] s
    | 3 => execFlashRead s
    | _ => .next s

/-- `TIM_CMD` as a log repeats it (R101). -/
def State.injTim (s : State) (v : Nat) : Res :=
  match v with
  | 1 => execSnapshot s
  | 2 => execRestep s
  | 3 => execRequalify s
  | _ => .next s

/-- `FAB_RATC_CMD` as a log repeats it. -/
def State.injRatc (s : State) (v : Nat) : Res :=
  match v with
  | 1 => execRatcInsert s
  | 2 => execRatcRemove s
  | 3 => execRatcRead s
  | _ => .next s

/-- `HLT_CMD` as a log repeats it. -/
def State.injHlt (s : State) (v : Nat) : Res :=
  match v with
  | 1 => execExpel s
  | 2 => execUnfence s
  | 3 => execShadowStart s
  | 4 => execShadowStop s
  | _ => .next s

/-- A command register written by PF0, as a log repeats it; none when the address is no command register. -/
def State.injCmd (s : State) (a v : Nat) : Option Res :=
  if a = Reg.HIF_FCTL then some (s.injFctl v)
  else if a = Reg.HUB_CMD ∨ a = Reg.HUB_FLASH_CMD then some (s.injHub a v)
  else if a = Reg.TIM_CMD then some (s.injTim v)
  else if a = Reg.TIM_GRP_ABORT then some (execTimGrpAbort (v % 256) s)
  else if a = Reg.FAB_RATC_CMD then some (s.injRatc v)
  else if a = Reg.HLT_CMD then some (s.injHlt v)
  else if a = Reg.HLT_LOG_ACK then some (execHltLogAck v s)
  else if a = Reg.MEM_LOG_ACK then some (execMemLogAck v s)
  else if a = Reg.SHP_HIST_CLR then some (if v % 2 = 1 then execShpHistClr s else .next s)
  else if a = Reg.SEC_MR_EXT then some (execSecMrExt v s)
  else ((List.range 12).find? (fun g => Reg.IBX_CS_ACK g == a)).map (fun g => execIbxCsAck g v s)

/-! ### Pause and resume (R635 to R639) -/

/-- The instance that `RPL_ARG` names: tenant and slot, when bit 31 is set (R657). -/
def State.argModel (s : State) : Option (Nat × Nat) :=
  let w := s.regs.get 0 Reg.RPL_ARG
  if bit w 31 then some (bits w 16 10, bits w 0 4) else none

def State.argCtx (s : State) : Nat := s.regBits Reg.RPL_ARG 0 16

/-- Outcome of a PAUSE or RESUME: 4 with the cause when it is refused (R657). -/
def State.pauseRefused (s : State) (cause : Nat) : State := (s.setReg Reg.RPL_PAUSE (4 + cause * 16)).rplEvt 0x40

/-- Does a context hold an armed list, take part in a launch group, or wait with a stamped command (R635)? -/
def State.armedCtx (s : State) (id : Nat) : Bool :=
  s.sched.armed.any (fun l => l.ctx == id) || s.sched.cmps.any (fun c => c.ctx == id) || s.sched.joins.any (fun p => p.2.ctx == id)

/-- A context is paused, or the pause refused (R635, R636). -/
def State.pauseOne (s : State) (id : Nat) : State :=
  match s.ctx? id with
  | none => s.pauseRefused 2
  | some x =>
    if x.radio then s.pauseRefused 1
    else if x.ending then s.pauseRefused 4
    else if x.paused || x.pausing then s.pauseRefused 5
    else if s.armedCtx id then s.pauseRefused 3
    else if x.resident then (s.pauseCtx id).setReg Reg.RPL_PAUSE 1
    else ((s.pauseCtx id).setReg Reg.RPL_PAUSE 2).rplEvt 0x20

/-- An instance is to pause at its next step boundary, or the pause is refused (R635, R639). -/
def State.pauseModel (s : State) (t n : Nat) : State :=
  match s.model t n with
  | none =>
    let leaving := s.sched.ctxs.any (fun (p : Nat × Ctx) => p.2.ending && p.2.slotOf == some (t, n))
    s.pauseRefused (if leaving then 4 else 2)
  | some m =>
    if m.paused || m.pausing then s.pauseRefused 5
    else if m.ctxs.any s.armedCtx then s.pauseRefused 3
    else (s.setModel t n { m with pausing := true }).setReg Reg.RPL_PAUSE 1

/-- What PAUSE does (R635, R636, R639). -/
def State.doPause (s : State) : State :=
  match s.argModel with
  | some (t, n) => s.pauseModel t n
  | none => s.pauseOne s.argCtx

/-- What RESUME does: the mark goes, or the pause that has not completed is cancelled (R638). -/
def State.doResume (s : State) : State :=
  match s.argModel with
  | some (t, n) =>
    (match s.model t n with
     | none => s.pauseRefused 2
     | some m => if m.paused || m.pausing then (s.resumeModel t n).setReg Reg.RPL_PAUSE 3 else s.pauseRefused 6)
  | none =>
    match s.ctx? s.argCtx with
    | none => s.pauseRefused 2
    | some x =>
      if x.paused || x.pausing then
        ((s.updCtx x.id (fun (y : Ctx) => { y with paused := false, pausing := false })).refresh x.id).setReg Reg.RPL_PAUSE 3
      else s.pauseRefused 6

/-- PAUSE (R635, R656). -/
def execPause (s : State) : Res := .next (s.rplCmd 6 (fun _ => true) State.doPause)

/-- RESUME (R638, R656). -/
def execRplResume (s : State) : Res := .next (s.rplCmd 7 (fun _ => true) State.doResume)

/-! ### Records injected (R644, R650, R651) -/

/-- A HOST_SUB record: the submission enters its queue. -/
def State.injSub (s : State) (r : LogRec) : State :=
  let f := r.source
  let q := bits r.aux 0 3
  let x := s.qp f q
  if !s.fnOn f ∨ !s.qpOn f q then s
  else (s.setQp f q { x with sq := x.sq ++ [bytesCmd r.payload], sqTail := (bits r.aux 3 12 + 1) % (x.sqSize + 1) }).refuseBad f q 4096

/-- A write of PF0's BAR2, as a log repeats it. Of the RPL_ block only RPL_ARG, PAUSE and RESUME act (R651). -/
def State.injBar2 (s : State) (a width v : Nat) : State :=
  if a / 2 ^ 20 = 0x12 then
    (if a = Reg.RPL_CMD then (if v = 6 then s.doPause else if v = 7 then s.doResume else s)
     else if a / 8 * 8 = Reg.RPL_ARG then s.setReg Reg.RPL_ARG (mergeHalf (s.reg Reg.RPL_ARG) v width (a % 8 == 4)) else s)
  else
    match s.injCmd a v with
    | some r => State.taken s r
    | none =>
      match regHit a width with
      | none => s
      | some (k, b, hi) => s.writeRow k b v width hi

/-- A HOST_WRITE record: a function page, an aperture, or PF0's BAR2 (R644). -/
def State.injWrite (s : State) (r : LogRec) : State :=
  let bar := bits r.aux 48 3
  let ofs := bits r.aux 0 48
  let n := r.payload.length
  if bar = 0 then (if s.fnOn r.source then s.writePageHalf r.source ofs (leNat r.payload) n else s)
  else if bar = 2 ∧ r.source = pf0 then s.injBar2 ofs n (leNat r.payload)
  else State.taken s (execApertureWrite r.source ofs r.payload s)

/-- A HOST_CTL record (R644). -/
def State.injCtl (s : State) (r : LogRec) : State :=
  match bits r.aux 0 8 with
  | 1 => State.taken s (execVfEnableSet s)
  | 2 => State.taken s (execVfEnableClear s)
  | 3 => State.taken s (execFlr r.source s)
  | 4 => State.taken s (execNumvfsWrite (bits r.aux 16 16) s)
  | _ => s

/-- A FAB_IN record: an inbound request (R644). -/
def State.injFab (s : State) (r : LogRec) : State :=
  let t := Txn.ofBytes r.payload
  match t.op with
  | 2 => s.inStore r.source t
  | 3 => (s.inbound r.source t).ringsIn
  | 7 => s.inGroup r.source t
  | _ => s.inbound r.source t

/-- The live request that a record's key names. -/
def State.keyReq (s : State) (r : LogRec) : Option Req := s.fab.reqs.find? (fun q => q.key.toNat == leNat (r.payload.take 16))

/-- A TIME record: its transition or step, with the recorder as source (R650). -/
def State.injTime (s : State) (r : LogRec) : State :=
  let st := match bits r.aux 0 3 with
    | 0 => TuState.freerun
    | 1 => .locked
    | 2 => .holdover
    | _ => .lost
  if bit r.aux 8 then
    let s := ((s.setCounter (stampTc (BitVec.ofNat 64 (byteField r.payload 0 8)) * 64 : Nat)).timTo st 0 true).reevaluate
    (List.range 12).foldl (fun (s : State) g => (s.seqUpdate g).hardStopNow g) s
  else s.timTo st 0 false

/-- A GAP or STOP record ends the replay (R653). -/
def State.replayEnds (s : State) (evt : Nat) : State := { s with rpl := { s.rpl with st := .replayEnd } }.rplEvt evt

/-- The effect of a record, none while it must wait for its request (R650, R651). -/
def State.injRec (s : State) (r : LogRec) : Option State :=
  match r.kind with
  | 0x02 => some (s.injSub r)
  | 0x04 => some (s.injWrite r)
  | 0x05 => some (s.injCtl r)
  | 0x10 => some (if s.fhOn r.source then (s.fhCount r.source 0 1).frameIn r.source r.payload else s)
  | 0x20 => some (s.injFab r)
  | 0x21 => (s.keyReq r).map (fun q => s.respIn q (Txn.ofBytes (r.payload.drop 16)))
  | 0x22 => (s.keyReq r).map (fun q => s.abandon q (bits r.aux 0 8))
  | 0x30 => some (s.injTime r)
  | 0x50 => some (s.replayEnds 2)
  | 0x7F => some (s.replayEnds 0x10)
  | _ => some s

/-- The next record, when it is due and stands before `RPL_STOP_AT` (R650, R653). -/
def State.dueRec (s : State) : Option LogRec :=
  match s.rpl.log.find? (fun r => r.seq == s.rpl.nextSeq) with
  | none => none
  | some r =>
    let stop := match s.stopAt with
      | none => false
      | some t => decide (t ≤ r.stamp)
    if stop || decide (s.now64 < r.stamp * 64 + r.frac) then none else some r

/-- RECORD_INJECT (R650, R651, R653): the next record enters. -/
def execRecordInject (s : State) : Res :=
  if s.rpl.st ≠ .replaying ∨ s.rpl.halted then .next s
  else
    match s.dueRec with
    | none => .next s
    | some r =>
      match { s with rpl := { s.rpl with inj := true } }.injRec r with
      | none => .next s
      | some t => .next { t with rpl := { t.rpl with inj := false, nextSeq := t.rpl.nextSeq + 1 } }

/-! ### Transfer of the log (R643, R656) -/

/-- The log's bytes. -/
def Recorder.bytes (r : Recorder) : List Byte := r.log.flatMap LogRec.bytes ++ r.tail

/-- Offset and length of a transfer: whole 64-byte units (R655). -/
def State.xferOfs (s : State) : Nat := s.regBits Reg.RPL_XFER_OFS 6 42 * 64
def State.xferLen (s : State) : Nat := s.regBits Reg.RPL_XFER_LEN 6 26 * 64
def State.xferHost (s : State) : Nat := s.regBits Reg.RPL_XFER_HOST 6 42 * 64

/-- EXPORT (R656): log bytes to the host. -/
def execExportLog (s : State) : Res :=
  .next (s.rplCmd 8 (fun (s : State) => s.rplFree && s.rpl.xfer == 0) (fun (s : State) =>
    let b := (s.rpl.bytes.drop s.xferOfs).take s.xferLen
    { s with out := s.out ++ [.hostWrite pf0 s.xferHost b], rpl := { s.rpl with xfer := 1 } }))

/-- The record at the head of bytes, and the rest; none when no whole record of R643 stands there. -/
def recAt (b : List Byte) : Option (LogRec × List Byte) :=
  let n := byteField b 12 4
  let st : Stamp := BitVec.ofNat 64 (byteField b 0 8)
  let r : LogRec := { stamp := stampTc st, frac := byteField b 8 1, kind := byteField b 9 1, source := byteField b 10 2, seq := byteField b 16 8,
                      aux := BitVec.ofNat 64 (byteField b 24 8), payload := (b.drop 32).take n }
  if b.length < 32 + ceilDiv n 32 * 32 ∨ 9216 < n ∨ r.kind = 0 ∨ !stampOk st ∨ 64 ≤ r.frac then none else some (r, b.drop r.size)

/-- The whole records at the head of bytes, and the bytes after them. -/
def recsOf (fuel : Nat) (b : List Byte) : List LogRec × List Byte :=
  match fuel with
  | 0 => ([], b)
  | fuel + 1 =>
    match recAt b with
    | none => ([], b)
    | some (r, t) => let k := recsOf fuel t; (r :: k.1, k.2)

/-- IMPORT (R656): bytes from host memory take their place in the log. -/
def execImportLog (b : List Byte) (s : State) : Res :=
  .next (s.rplCmd 9 (fun (s : State) => s.rpl.st == .idle && s.rpl.xfer == 0) (fun (s : State) =>
    let b := b.take s.xferLen
    let old := s.rpl.bytes
    let all := old.take s.xferOfs ++ List.replicate (s.xferOfs - old.length) 0 ++ b ++ old.drop (s.xferOfs + b.length)
    let k := recsOf (all.length / 32 + 1) all
    let at0 := match k.1 with
      | [] => false
      | r :: _ => bit r.aux 54
    let r : Recorder := { s.rpl with log := k.1, tail := k.2, head := all.length, nextSeq := k.1.length, xfer := 2 }
    { s with rpl := { r with dropped := 0, wrapped := false, skipped := false, atStart := at0, halted := false } }))

/-- XFER_DONE (R656, R657). -/
def execXferDone (s : State) : Res :=
  .next (if s.rpl.xfer = 0 then s else { s with rpl := { s.rpl with xfer := 0 } }.rplEvt 0x80)

end Sys2Proof.Machine
end

