-- ==== Sys2Proof/Machine/Vector.lean ====
section
/-! DEFINITION. The vector commands (R237 to R239, R271 to R276, R303, R304). -/
namespace Sys2Proof.Machine

/-! ### Payload (R271) -/

def vRows (c : Cmd) : Nat := cmdField c 32 2
def vElems (c : Cmd) : Nat := cmdField c 34 2
def vIfmt (c : Cmd) : Nat := bits c 288 2
def vOfmt (c : Cmd) : Nat := bits c 290 3
def vFunc (c : Cmd) : Nat := cmdField c 37 1
def vStoch (c : Cmd) : Bool := bit c 304
def vAuxRow (c : Cmd) : Bool := bit c 305
def vU8 (c : Cmd) : Bool := bit c 306
def vScalar (c : Cmd) : Nat := cmdField c 40 4

/-- Bytes of an input element; AUX and AUX2 operands have the input's format, binary32 with IFMT 3 (log entry 15). -/
def vInSize (c : Cmd) : Nat := if vIfmt c = 1 ∨ vIfmt c = 2 then 2 else 4

/-- Bytes of an output element. -/
def vOutSize (c : Cmd) : Nat := match vOfmt c with | 0 => 4 | 1 => 2 | 2 => 2 | _ => 1

/-- binary32 bits of an input element: exact. -/
def vWiden (c : Cmd) (b : Nat) : Nat :=
  match vIfmt c with
  | 1 => fmt32.ofFlt .conv (fmtB16.unpack b)
  | 2 => fmt32.ofFlt .conv (fmt16.unpack b)
  | _ => b

/-- `n` elements of `size` bytes each. -/
def splitElems (size n : Nat) (b : List Byte) : List Nat :=
  match n with
  | 0 => []
  | n + 1 => leNat (b.take size) :: splitElems size n (b.drop size)

/-- Element `k` of an operand, as binary32. -/
def vOperand (c : Cmd) (b : List Byte) (k : Nat) : Nat := vWiden c (byteField b (vInSize c * k) (vInSize c))

/-- Rounding of an operation on element `e` of row `r` (R228, R237, R274). -/
def vRnd (c : Cmd) (r e : Nat) : Rnd :=
  if vStoch c then .stoch (mixU (BitVec.ofNat 64 (cmdField c 48 8)) (cmdField c 44 4 * 2 ^ 32 + r * 2 ^ 16 + e)) else .conv

/-! ### binary32 operations: each rounds once (R237) -/

def vAdd (k : Rnd) (x y : Nat) : Nat := fmt32.ofFlt k ((fmt32.unpack x).add (fmt32.unpack y))
def vSub (k : Rnd) (x y : Nat) : Nat := fmt32.ofFlt k ((fmt32.unpack x).sub (fmt32.unpack y))
def vMul (k : Rnd) (x y : Nat) : Nat := fmt32.ofFlt k ((fmt32.unpack x).mul (fmt32.unpack y))
def vDiv (k : Rnd) (x y : Nat) : Nat := fmt32.ofFlt k ((fmt32.unpack x).div (fmt32.unpack y))

def isNan (x : Nat) : Bool := fmt32.unpack x == .nan
def isInf (x : Nat) : Bool := match fmt32.unpack x with | .inf _ => true | _ => false
def vLt (x y : Nat) : Bool := (fmt32.unpack x).lt (fmt32.unpack y)

/-- The larger or the smaller of two values; a free value where IEEE 754 leaves it open. -/
def vMax (large : Bool) (x y : Nat) : Nat :=
  if isNan x || isNan y || (!vLt x y && !vLt y x && x != y) then Config.vecMaxOpen large x y
  else if vLt x y == large then y else x

/-- 1.0 and −∞. -/
abbrev one32 : Nat := 0x3F800000
abbrev negInf32 : Nat := 0xFF800000

/-- A count as binary32, rounded convergently. -/
def natF32 (n : Nat) : Nat := fmt32.round .conv ⟨n, 1⟩

/-! ### Row sums and maxima (R273) -/

/-- Combination of the lane results in levels of pairs; a lane without elements passes the other on (log entry 15). -/
def lanePairs (f : Nat → Nat → Nat → Nat → Nat) (level k : Nat) (l : List (Option Nat)) : List (Option Nat) :=
  match l with
  | some a :: some b :: r => some (f level k a b) :: lanePairs f level (k + 1) r
  | some a :: none :: r => some a :: lanePairs f level (k + 1) r
  | none :: b :: r => b :: lanePairs f level (k + 1) r
  | l => l

/-- A row combined in the fixed order of R273: `lane e` combines element `e` into its lane, `tree` the lanes. -/
def rowFold (lane : Nat → Nat → Nat → Nat) (tree : Nat → Nat → Nat → Nat → Nat) (xs : List Nat) : Nat :=
  let idx := (List.range xs.length).zip xs
  let lanes : List (Option Nat) := (List.range 64).map (fun l =>
    (idx.filter (fun p => p.1 % 64 == l)).foldl (fun (a : Option Nat) p => match a with | none => some p.2 | some v => some (lane p.1 v p.2)) none)
  match lanePairs tree 5 0 (lanePairs tree 4 0 (lanePairs tree 3 0 (lanePairs tree 2 0 (lanePairs tree 1 0 (lanePairs tree 0 0 lanes))))) with
  | [some v] => v
  | _ => 0

def rowSum (c : Cmd) (r : Nat) (xs : List Nat) : Nat :=
  rowFold (fun e => vAdd (vRnd c r e)) (fun l k => vAdd (vRnd c r (Config.treeElem l k))) xs

def rowMax (xs : List Nat) : Nat := rowFold (fun _ => vMax true) (fun _ _ => vMax true) xs

/-- Lowest index of a maximum among indexed values with no NaN (R273). -/
def argmaxGo (best : Nat × Nat) (l : List (Nat × Nat)) : Nat :=
  match l with
  | [] => best.1
  | p :: r => argmaxGo (if vLt best.2 p.2 then p else best) r

def argmax (xs : List Nat) : Nat :=
  if xs.any isNan then Config.vecPick xs % xs.length
  else match (List.range xs.length).zip xs with
    | [] => 0
    | p :: r => argmaxGo p r

/-! ### What each opcode makes of a row -/

/-- A function on each element (R272). -/
def vmapElem (c : Cmd) (r e x : Nat) : Nat :=
  match vFunc c with
  | 0 => x
  | 1 => vMax true x 0
  | 7 => vDiv (vRnd c r e) one32 x
  | 8 => rsqrt32 (vRnd c r e) (fmt32.unpack x)
  | 9 => vMul (vRnd c r e) x (vScalar c)
  | k => Config.vecFn k x

/-- Each element of a row, with its index. -/
def mapRow (f : Nat → Nat → Nat) (xs : List Nat) : List Nat := ((List.range xs.length).zip xs).map (fun p => f p.1 p.2)

/-- Index of an AUX operand that has one value per element or per row (R271). -/
def auxIdx (c : Cmd) (r e : Nat) : Nat := if vAuxRow c then r else r * vElems c + e

def vbinElem (c : Cmd) (r e x y : Nat) : Nat :=
  match vFunc c with
  | 0 => vAdd (vRnd c r e) x y
  | 1 => vSub (vRnd c r e) x y
  | 2 => vMul (vRnd c r e) x y
  | 3 => vMax true x y
  | _ => vMax false x y

def vreduceRow (c : Cmd) (r : Nat) (xs : List Nat) : Nat :=
  match vFunc c with
  | 0 => rowSum c r xs
  | 1 => rowMax xs
  | 2 => argmax xs
  | _ => rowSum c r (mapRow (fun e x => vMul (vRnd c r e) x x) xs)

/-- exp of the vector unit. -/
def vExp (x : Nat) : Nat := Config.vecFn 4 x

/-- softmax (R272, R273): a masked element counts as −∞. -/
def softmaxRow (c : Cmd) (aux : List Byte) (r : Nat) (xs : List Nat) : List Nat :=
  let ts := mapRow (fun e x => if vFunc c = 1 ∧ byteField aux (auxIdx c r e) 1 = 1 then negInf32 else vMul (vRnd c r e) x (vScalar c)) xs
  let m := rowMax ts
  let es := mapRow (fun e t => vExp (vSub (vRnd c r e) t m)) ts
  let s := rowSum c r es
  mapRow (fun e y => vDiv (vRnd c r e) y s) es

/-- RMS and layer normalisation (R272): gamma of element `e`, or of the row; beta of element `e` (log entry 15). -/
def normRow (c : Cmd) (aux aux2 : List Byte) (r : Nat) (xs : List Nat) : List Nat :=
  let k := vRnd c r
  let n := natF32 xs.length
  let ds := if vFunc c = 0 then xs else
    let mu := vDiv (k 0) (rowSum c r xs) n
    mapRow (fun e x => vSub (k e) x mu) xs
  let v := vDiv (k 0) (rowSum c r (mapRow (fun e x => vMul (k e) x x) ds)) n
  let q := rsqrt32 (k 0) (fmt32.unpack (vAdd (k 0) v (vScalar c)))
  mapRow (fun e d =>
    let y := vMul (k e) (vMul (k e) d q) (vOperand c aux (if vAuxRow c then r else e))
    if vFunc c = 0 then y else vAdd (k e) y (vOperand c aux2 e)) ds

/-- Inserted among indexed values in descending order, after those that are not smaller. -/
def insDesc (p : Nat × Nat) (l : List (Nat × Nat)) : List (Nat × Nat) :=
  match l with
  | [] => [p]
  | q :: r => if vLt q.2 p.2 then p :: q :: r else q :: insDesc p r

/-- First index at which the running sum meets a test, and the sum there. -/
def nucleus (ok : Nat → Bool) (q i : Nat) (ws : List Nat) : Option (Nat × Nat) :=
  match ws with
  | [] => none
  | w :: r => let q := vAdd .conv q w
    if ok q then some (i, q) else nucleus ok q (i + 1) r

/-- The sampled index of a row (R275). -/
def sampleRow (seed : DWord) (k p t step : Nat) (xs : List Nat) : Nat :=
  let pos (x : Nat) : Bool := vLt 0 x
  if !(pos p && !vLt one32 p && !isNan p) || isNan t || vLt t 0 then 0xFFFFFFFF
  else if xs.any isNan then Config.vecPick xs % xs.length
  else if !pos t then argmax xs
  else
    let ys := mapRow (fun _ x => vDiv .conv x t) xs
    let kk := min (if k = 0 then 256 else k) (min 256 xs.length)
    let cs := (((List.range ys.length).zip ys).foldl (fun l q => insDesc q l) []).take kk
    let m := match cs with | [] => 0 | q :: _ => q.2
    let ws := cs.map (fun q => vExp (vSub .conv q.2 m))
    let s := ws.foldl (vAdd .conv) 0
    let ps := vMul .conv p s
    match nucleus (fun q => (fmt32.unpack q).ge (fmt32.unpack ps)) 0 0 ws with
    | none => Config.vecPick xs % xs.length
    | some (h, q) =>
      let u := mixU seed (step * 2 ^ 32)
      let target := vMul .conv (fmt32.round .conv ⟨u, 2 ^ 24⟩) q
      let j := match nucleus (fun r => vLt target r) 0 0 (ws.take (h + 1)) with | some (j, _) => j | none => h
      (cs.getD j (0, 0)).1

/-- VSAMPLE of row `r` with its seed and parameters (R275). -/
def vsampleRow (aux aux2 : List Byte) (r : Nat) (xs : List Nat) : Nat :=
  sampleRow (BitVec.ofNat 64 (byteField aux (8 * r) 8)) (byteField aux2 (16 * r) 2) (byteField aux2 (16 * r + 4) 4) (byteField aux2 (16 * r + 8) 4)
    (byteField aux2 (16 * r + 12) 4) xs

/-! ### Stores (R238, R272) -/

/-- An integer format sees a NaN as 0 and an infinity as beyond its limits (R238). -/
def vExact (x : Nat) : Val :=
  match fmt32.unpack x with
  | .nan => ⟨0, 1⟩
  | .inf n => if n then ⟨-(2 ^ 400 : Nat), 1⟩ else ⟨(2 ^ 400 : Nat), 1⟩
  | .fin _ v => v

/-- A row of results as stored, and its KBF8 exponent when that is chosen per row. `side` is a supplied side vector (R234, R236, R238). -/
def vStore (c : Cmd) (side : Option (List Byte)) (r : Nat) (ys : List Nat) : List Byte × Option Nat :=
  let one (f : Nat → Nat → List Byte) : List Byte := ((List.range ys.length).zip ys).foldr (fun p l => f p.1 p.2 ++ l) []
  match vOfmt c with
  | 0 => (one (fun _ y => leBytes 4 y), none)
  | 1 => (one (fun e y => leBytes 2 (fmtB16.ofFlt (vRnd c r e) (fmt32.unpack y))), none)
  | 2 => (one (fun e y => leBytes 2 (fmt16.ofFlt (vRnd c r e) (fmt32.unpack y))), none)
  | 3 => (one (fun e y => [toInt8 (vRnd c r e) (vU8 c) (vExact y)]), none)
  | _ =>
    match side with
    | some b => (one (fun e y => [BitVec.ofInt 8 (clampInt (-128) 127 (kbfMant (vRnd c r e) (vExact y) (byteField b e 1)))]), none)
    | none => let k := kbfRow (((List.range ys.length).zip ys).map (fun p => (vRnd c r p.1, vExact p.2)))
      (k.2, some k.1)

/-! ### Running a vector command -/

/-- What distinguishes the vector opcodes: activity code (R304), known FUNC values, cycles per row (R272), bytes read from AUX and AUX2, one
index or one value per row, and what a row becomes. -/
structure VOp where
  op : Nat
  act : Nat
  funcs : List Nat
  cyc : Cmd → Nat
  auxLen : Cmd → Nat
  aux2Len : Cmd → Nat
  perRow : Bool
  index : Cmd → Bool
  row : Cmd → List Byte → List Byte → Nat → List Nat → List Nat

/-- Results per row, and bytes that a row stores. -/
def VOp.outs (o : VOp) (c : Cmd) : Nat := if o.perRow then 1 else vElems c
def VOp.rowLen (o : VOp) (c : Cmd) : Nat := if o.index c then 4 else o.outs c * vOutSize c

/-- Does the command choose KBF8 exponents per row, whose side words follow the mantissas (log entry 15)? A VCONVERT that names AUX takes its
exponents from there. -/
def VOp.sides (o : VOp) (c : Cmd) : Bool := vOfmt c == 4 && !o.index c && !(o.op == 0x45 && cmdField c 24 4 != 0)

def VOp.total (o : VOp) (c : Cmd) : Nat := vRows c * o.rowLen c + (if o.sides c then 8 * vRows c else 0)

/-- Rows `r0` on of a command are computed and stored (R271 to R276, R303). -/
def State.vecRows (s : State) (x : Ctx) (c : Cmd) (cl : Nat) (o : VOp) (aux aux2 : List Byte) (r0 : Nat) (rows : List (List Nat)) : State :=
  let side := if vOfmt c = 4 ∧ !o.sides c ∧ !o.index c then some aux else none
  let dst := cmdField c 20 4
  ((List.range rows.length).zip rows).foldl (fun s p =>
    let r := r0 + p.1
    let ys := o.row c aux aux2 r p.2
    let finite := p.2.all (fun v => !isNan v && !isInf v)
    let s :=
      if o.index c then s.outStore x c (dst + 4 * r) (leBytes 4 (ys.headD 0))
      else
        let b := vStore c side r ys
        let s := s.outStore x c (dst + o.rowLen c * r) b.1
        match b.2 with
        | none => s
        | some e => s.outStore x c (dst + vRows c * o.rowLen c + 8 * r) (leBytes 8 e)
    let s := s.count64 (Reg.VEC_ELEMS cl) ys.length
    let s := (s.count64 (Reg.VEC_BUSY_CYC cl) (o.cyc c)).work x 1 (o.cyc c)
    let s := if o.op = 0x46 then s.count (Reg.VEC_SAMPLE_CNT cl) 1 else s
    if o.index c then s
    else (s.count (Reg.VEC_NAN_CNT cl) (ys.filter isNan).length).count (Reg.VEC_INF_CNT cl) (if finite then (ys.filter isInf).length else 0)) s

def State.vec (s : State) (cl : Nat) : VecUnit := s.mat.vecs.get {} cl

def State.setVec (s : State) (cl : Nat) (v : VecUnit) : State := { s with mat := { s.mat with vecs := s.mat.vecs.set cl v } }

/-- Status that refuses a vector command, 0 when it may run (R263, R271, R272, R276, R297). -/
def State.vecChk (s : State) (x : Ctx) (r : Running) (c : Cmd) (o : VOp) (a : Nat) : Nat :=
  if !o.funcs.contains (vFunc c) then 0x69
  else if vIfmt c = 3 ∧ ((s.array a).rows.any (fun l => l.length != vElems c) ∨
      (match (s.array a).stream with | some st => bits st.cmd 468 3 == 4 && bits st.cmd 449 9 != vElems c | none => false) = true) then 0x69
  else
    let k := s.readChk x [(poolRef (primary r c 16), if vIfmt c = 3 then 0 else vRows c * vElems c * vInSize c),
      (poolRef (cmdField c 24 4), o.auxLen c), (poolRef (cmdField c 28 4), o.aux2Len c)]
    if k ≠ 0 then k else s.outChk x c (cmdField c 20 4) (o.total c)

/-- A vector command runs: over memory all its rows; with IFMT 3 the rows that its array has ready, until it has taken ROWS (R276). -/
def State.vector (s : State) (cl : Nat) (o : VOp) : Res :=
  if 48 ≤ cl then .fault .noSuchPart
  else
    let u := uVec cl
    match (match s.cur u o.op with | some v => some v | none => s.curBusy u o.op) with
    | none => .next s
    | some (r, c, x) =>
      let a := 2 * cl + bits c 294 1
      let v := s.vec cl
      let k := s.vecChk x r c o a
      if k ≠ 0 then .next ((s.setVec cl {}).failList u k)
      else if s.outHeld x c then .next s
      else
        let f := s.fetch x [(poolRef (cmdField c 24 4), o.auxLen c), (poolRef (cmdField c 28 4), o.aux2Len c),
          (poolRef (primary r c 16), if vIfmt c = 3 then 0 else vRows c * vElems c * vInSize c)]
        if f.1 ≠ 0 then .next ((f.2.2.setVec cl {}).failList u f.1)
        else
          let aux := f.2.1.take (o.auxLen c)
          let rest := f.2.1.drop (o.auxLen c)
          let aux2 := rest.take (o.aux2Len c)
          let taken := (s.array a).rows.take (vRows c - v.done)
          let rows := if vIfmt c = 3 then taken
            else (List.range (vRows c)).map (fun i =>
              (splitElems (vInSize c) (vElems c) ((rest.drop (o.aux2Len c)).drop (i * vElems c * vInSize c))).map (vWiden c))
          let t := f.2.2
          let t := if vIfmt c = 3 then t.setArray a { t.array a with rows := (t.array a).rows.drop taken.length } else t
          let t := t.vecRows x c cl o aux aux2 v.done rows
          if v.done + rows.length < vRows c then
            .next ((t.setVec cl { act := o.act, done := v.done + rows.length }).setRun u (some { r with stage := .busy }))
          else .next ((t.setVec cl {}).finishCmd u (outHandle x c r.list.id (cmdField c 20 4) (o.total c) false false))

/-- 64-element groups of a row. -/
def vGroups (c : Cmd) : Nat := ceilDiv (vElems c) 64

/-- What VMAP computes. -/
def vmapOp : VOp :=
  { op := 0x40, act := 1, funcs := List.range 10, cyc := vGroups, auxLen := fun _ => 0, aux2Len := fun _ => 0, perRow := false,
    index := fun _ => false, row := fun c _ _ r xs => mapRow (vmapElem c r) xs }

/-- VMAP (R271, R272). -/
def execVmap (cl : Nat) (s : State) : Res := s.vector cl vmapOp

/-- What VBIN computes. -/
def vbinOp : VOp :=
  { op := 0x41, act := 1, funcs := List.range 5, cyc := vGroups,
    auxLen := fun c => vRows c * (if vAuxRow c then 1 else vElems c) * vInSize c, aux2Len := fun _ => 0, perRow := false,
    index := fun _ => false,
    row := fun c aux _ r xs => mapRow (fun e x => vbinElem c r e x (vOperand c aux (auxIdx c r e))) xs }

/-- VBIN (R271, R272). -/
def execVbin (cl : Nat) (s : State) : Res := s.vector cl vbinOp

/-- What VREDUCE computes. -/
def vreduceOp : VOp :=
  { op := 0x42, act := 3, funcs := List.range 4, cyc := fun c => vGroups c + 6, auxLen := fun _ => 0, aux2Len := fun _ => 0, perRow := true,
    index := fun c => vFunc c == 2, row := fun c _ _ r xs => [vreduceRow c r xs] }

/-- VREDUCE (R271 to R273). -/
def execVreduce (cl : Nat) (s : State) : Res := s.vector cl vreduceOp

/-- What VSOFTMAX computes. -/
def vsoftmaxOp : VOp :=
  { op := 0x43, act := 2, funcs := List.range 2, cyc := fun c => 2 * vGroups c + 6,
    auxLen := fun c => if vFunc c = 1 then vRows c * (if vAuxRow c then 1 else vElems c) else 0, aux2Len := fun _ => 0, perRow := false,
    index := fun _ => false, row := fun c aux _ r xs => softmaxRow c aux r xs }

/-- VSOFTMAX (R271 to R273). -/
def execVsoftmax (cl : Nat) (s : State) : Res := s.vector cl vsoftmaxOp

/-- What VNORM computes. -/
def vnormOp : VOp :=
  { op := 0x44, act := 2, funcs := List.range 2, cyc := fun c => 2 * vGroups c + 6,
    auxLen := fun c => (if vAuxRow c then vRows c else vElems c) * vInSize c,
    aux2Len := fun c => if vFunc c = 1 then vElems c * vInSize c else 0, perRow := false,
    index := fun _ => false, row := fun c aux aux2 r xs => normRow c aux aux2 r xs }

/-- VNORM (R271 to R273). -/
def execVnorm (cl : Nat) (s : State) : Res := s.vector cl vnormOp

/-- What VCONVERT computes. -/
def vconvertOp : VOp :=
  { op := 0x45, act := 5, funcs := [0], cyc := fun c => if vOfmt c = 4 ∧ cmdField c 24 4 = 0 then 2 * vGroups c else vGroups c,
    auxLen := fun c => if vOfmt c = 4 ∧ cmdField c 24 4 ≠ 0 then vElems c else 0, aux2Len := fun _ => 0, perRow := false,
    index := fun _ => false, row := fun _ _ _ _ xs => xs }

/-- VCONVERT (R238, R271, R272). -/
def execVconvert (cl : Nat) (s : State) : Res := s.vector cl vconvertOp

/-- What VSAMPLE computes. -/
def vsampleOp : VOp :=
  { op := 0x46, act := 4, funcs := [0], cyc := fun c => 2 * vGroups c + 512, auxLen := fun c => 8 * vRows c,
    aux2Len := fun c => 16 * vRows c, perRow := true, index := fun _ => true, row := fun _ aux aux2 r xs => [vsampleRow aux aux2 r xs] }

/-- VSAMPLE (R271, R275). -/
def execVsample (cl : Nat) (s : State) : Res := s.vector cl vsampleOp

/-- VNOP (R265): no effect but its place in the list. -/
def execVnop (cl : Nat) (s : State) : Res :=
  if 48 ≤ cl then .fault .noSuchPart
  else
    match s.cur (uVec cl) 0x47 with
    | none => .next s
    | some _ => .next (s.finishCmd (uVec cl) [])

end Sys2Proof.Machine
end

