-- ==== Sys2Proof/Machine/Dispatch.lean ====
section
/-! DEFINITION. The effect of a command on the package: one arm for each row of spec/opcode_table.json. -/
namespace Sys2Proof.Machine

def exec (i : Instr) (s : State) : Host.Outcome State Fault Refusal :=
  match i with
  | .ppsPulse => Sys2Proof.Machine.execPpsPulse s
  | .ppsMiss => Sys2Proof.Machine.execPpsMiss s
  | .todMessage bytes => Sys2Proof.Machine.execTodMessage bytes s
  | .ptpFrame port m => Sys2Proof.Machine.execPtpFrame port m s
  | .ptpDelayReq => Sys2Proof.Machine.execPtpDelayReq s
  | .esmcFrame port ql => Sys2Proof.Machine.execEsmcFrame port ql s
  | .sourceHoldoffExpiry => Sys2Proof.Machine.execSourceHoldoffExpiry s
  | .beaconSourceSwitch => Sys2Proof.Machine.execBeaconSourceSwitch s
  | .holdoverLimit => Sys2Proof.Machine.execHoldoverLimit s
  | .snapshot => Sys2Proof.Machine.execSnapshot s
  | .restep => Sys2Proof.Machine.execRestep s
  | .requalify => Sys2Proof.Machine.execRequalify s
  | .autoStep => Sys2Proof.Machine.execAutoStep s
  | .launchCounterCorrect => Sys2Proof.Machine.execLaunchCounterCorrect s
  | .comparatorMatch pt idx => Sys2Proof.Machine.execComparatorMatch pt idx s
  | .commitPoint grp => Sys2Proof.Machine.execCommitPoint grp s
  | .groupOrphan grp => Sys2Proof.Machine.execGroupOrphan grp s
  | .groupFree grp => Sys2Proof.Machine.execGroupFree grp s
  | .timGrpAbort grp => Sys2Proof.Machine.execTimGrpAbort grp s
  | .visibilityStampDue ctx q => Sys2Proof.Machine.execVisibilityStampDue ctx q s
  | .ppsOutPulse => Sys2Proof.Machine.execPpsOutPulse s
  | .bandwidthWindow => Sys2Proof.Machine.execBandwidthWindow s
  | .windowBoundary g => Sys2Proof.Machine.execWindowBoundary g s
  | .hardStop g => Sys2Proof.Machine.execHardStop g s
  | .grainStart u => Sys2Proof.Machine.execGrainStart u s
  | .grainOverrun u => Sys2Proof.Machine.execGrainOverrun u s
  | .radioOverrunEnd g => Sys2Proof.Machine.execRadioOverrunEnd g s
  | .eviction c => Sys2Proof.Machine.execEviction c s
  | .swapStart c => Sys2Proof.Machine.execSwapStart c s
  | .swapComplete c => Sys2Proof.Machine.execSwapComplete c s
  | .listStart ctx cls => Sys2Proof.Machine.execListStart ctx cls s
  | .listEnd u => Sys2Proof.Machine.execListEnd u s
  | .nop o => Sys2Proof.Machine.execNop o s
  | .listHdr u => Sys2Proof.Machine.execListHdr u s
  | .arm o => Sys2Proof.Machine.execArm o s
  | .groupCreate o => Sys2Proof.Machine.execGroupCreate o s
  | .groupJoin o => Sys2Proof.Machine.execGroupJoin o s
  | .notify o => Sys2Proof.Machine.execNotify o s
  | .cancel o => Sys2Proof.Machine.execCancel o s
  | .handlePut o => Sys2Proof.Machine.execHandlePut o s
  | .place o => Sys2Proof.Machine.execPlace o s
  | .promote o => Sys2Proof.Machine.execPromote o s
  | .evict o => Sys2Proof.Machine.execEvict o s
  | .pin o => Sys2Proof.Machine.execPin o s
  | .unpin o => Sys2Proof.Machine.execUnpin o s
  | .ctxCreate o => Sys2Proof.Machine.execCtxCreate o s
  | .ctxEnd o => Sys2Proof.Machine.execCtxEnd o s
  | .contextEnd ctx => Sys2Proof.Machine.execContextEnd ctx s
  | .load a => Sys2Proof.Machine.execLoad a s
  | .stream a => Sys2Proof.Machine.execStream a s
  | .spill a => Sys2Proof.Machine.execSpill a s
  | .restore a => Sys2Proof.Machine.execRestore a s
  | .weightFenceMet a => Sys2Proof.Machine.execWeightFenceMet a s
  | .ibxFreeze a => Sys2Proof.Machine.execIbxFreeze a s
  | .ibxOutputRow a => Sys2Proof.Machine.execIbxOutputRow a s
  | .checksumCompare a diff => Sys2Proof.Machine.execChecksumCompare a diff s
  | .ibxCsAck g n => Sys2Proof.Machine.execIbxCsAck g n s
  | .vmap c => Sys2Proof.Machine.execVmap c s
  | .vbin c => Sys2Proof.Machine.execVbin c s
  | .vreduce c => Sys2Proof.Machine.execVreduce c s
  | .vsoftmax c => Sys2Proof.Machine.execVsoftmax c s
  | .vnorm c => Sys2Proof.Machine.execVnorm c s
  | .vconvert c => Sys2Proof.Machine.execVconvert c s
  | .vsample c => Sys2Proof.Machine.execVsample c s
  | .vnop c => Sys2Proof.Machine.execVnop c s
  | .cimem k => Sys2Proof.Machine.execCimem k s
  | .cfill k => Sys2Proof.Machine.execCfill k s
  | .cdrain k => Sys2Proof.Machine.execCdrain k s
  | .crun k => Sys2Proof.Machine.execCrun k s
  | .chmLimit k => Sys2Proof.Machine.execChmLimit k s
  | .aopNop k => Sys2Proof.Machine.execAopNop k s
  | .cmac k => Sys2Proof.Machine.execCmac k s
  | .cmacj k => Sys2Proof.Machine.execCmacj k s
  | .cmsu k => Sys2Proof.Machine.execCmsu k s
  | .cmul k => Sys2Proof.Machine.execCmul k s
  | .cmulj k => Sys2Proof.Machine.execCmulj k s
  | .rcmac k => Sys2Proof.Machine.execRcmac k s
  | .rcmul k => Sys2Proof.Machine.execRcmul k s
  | .azero k => Sys2Proof.Machine.execAzero k s
  | .arnd k => Sys2Proof.Machine.execArnd k s
  | .vadd k => Sys2Proof.Machine.execVadd k s
  | .vsub k => Sys2Proof.Machine.execVsub k s
  | .vconj k => Sys2Proof.Machine.execVconj k s
  | .vmov k => Sys2Proof.Machine.execVmov k s
  | .vrot k => Sys2Proof.Machine.execVrot k s
  | .vbrev k => Sys2Proof.Machine.execVbrev k s
  | .halt k => Sys2Proof.Machine.execHalt k s
  | .loop k => Sys2Proof.Machine.execLoop k s
  | .br k => Sys2Proof.Machine.execBr k s
  | .bnz k => Sys2Proof.Machine.execBnz k s
  | .setp k => Sys2Proof.Machine.execSetp k s
  | .sets k => Sys2Proof.Machine.execSets k s
  | .adds k => Sys2Proof.Machine.execAdds k s
  | .setsh k => Sys2Proof.Machine.execSetsh k s
  | .ldpcDec g => Sys2Proof.Machine.execLdpcDec g s
  | .ldpcEnc g => Sys2Proof.Machine.execLdpcEnc g s
  | .polarDec g => Sys2Proof.Machine.execPolarDec g s
  | .polarEnc g => Sys2Proof.Machine.execPolarEnc g s
  | .copy c => Sys2Proof.Machine.execCopy c s
  | .xferNd c => Sys2Proof.Machine.execXferNd c s
  | .fill c => Sys2Proof.Machine.execFill c s
  | .toExact c => Sys2Proof.Machine.execToExact c s
  | .exactSum c => Sys2Proof.Machine.execExactSum c s
  | .fromExact c => Sys2Proof.Machine.execFromExact c s
  | .atomic c => Sys2Proof.Machine.execAtomic c s
  | .resume c => Sys2Proof.Machine.execResume c s
  | .handleWaitMet u => Sys2Proof.Machine.execHandleWaitMet u s
  | .handleRelease u => Sys2Proof.Machine.execHandleRelease u s
  | .handleVisible ctx q => Sys2Proof.Machine.execHandleVisible ctx q s
  | .serviceAck u => Sys2Proof.Machine.execServiceAck u s
  | .modelLoad o => Sys2Proof.Machine.execModelLoad o s
  | .mirrorAck t slot ok => Sys2Proof.Machine.execMirrorAck t slot ok s
  | .modelUnload o => Sys2Proof.Machine.execModelUnload o s
  | .seqSubmit o prompt => Sys2Proof.Machine.execSeqSubmit o prompt s
  | .seqCancel o => Sys2Proof.Machine.execSeqCancel o s
  | .stepBoundary t slot tokens lists => Sys2Proof.Machine.execStepBoundary t slot tokens lists s
  | .cellStart via msg => Sys2Proof.Machine.execCellStart via msg s
  | .cellOn n => Sys2Proof.Machine.execCellOn n s
  | .cellStop via msg => Sys2Proof.Machine.execCellStop via msg s
  | .cellOff n => Sys2Proof.Machine.execCellOff n s
  | .dlOrder via msg => Sys2Proof.Machine.execDlOrder via msg s
  | .tbLoad via msg => Sys2Proof.Machine.execTbLoad via msg s
  | .ulOrder via msg => Sys2Proof.Machine.execUlOrder via msg s
  | .softRelease via msg => Sys2Proof.Machine.execSoftRelease via msg s
  | .slotMark n => Sys2Proof.Machine.execSlotMark n s
  | .dlDeadline n => Sys2Proof.Machine.execDlDeadline n s
  | .radioListAdmit u len own => Sys2Proof.Machine.execRadioListAdmit u len own s
  | .ulReport n at0 results => Sys2Proof.Machine.execUlReport n at0 results s
  | .deadlineMiss n => Sys2Proof.Machine.execDeadlineMiss n s
  | .indicationRingRoom => Sys2Proof.Machine.execIndicationRingRoom s
  | .frameReceive port frame => Sys2Proof.Machine.execFrameReceive port frame s
  | .burstFft entry sym => Sys2Proof.Machine.execBurstFft entry sym s
  | .receiveWindowClose entry sym => Sys2Proof.Machine.execReceiveWindowClose entry sym s
  | .egressBuild n at0 sym => Sys2Proof.Machine.execEgressBuild n at0 sym s
  | .gateOpen q => Sys2Proof.Machine.execGateOpen q s
  | .gateCloseDrop q => Sys2Proof.Machine.execGateCloseDrop q s
  | .shaperSelect port => Sys2Proof.Machine.execShaperSelect port s
  | .shpHistSample => Sys2Proof.Machine.execShpHistSample s
  | .shpHistClr => Sys2Proof.Machine.execShpHistClr s
  | .fhLinkChange port link align => Sys2Proof.Machine.execFhLinkChange port link align s
  | .migrationStart page => Sys2Proof.Machine.execMigrationStart page s
  | .migrationLine page => Sys2Proof.Machine.execMigrationLine page s
  | .migrationSwitch page => Sys2Proof.Machine.execMigrationSwitch page s
  | .frameFree => Sys2Proof.Machine.execFrameFree s
  | .memoryRefresh d mere bank => Sys2Proof.Machine.execMemoryRefresh d mere bank s
  | .scrub d mere => Sys2Proof.Machine.execScrub d mere s
  | .memLogAck n => Sys2Proof.Machine.execMemLogAck n s
  | .flitReceive p bytes => Sys2Proof.Machine.execFlitReceive p bytes s
  | .nakReceive p seq => Sys2Proof.Machine.execNakReceive p seq s
  | .ackTimeout p => Sys2Proof.Machine.execAckTimeout p s
  | .linkLost p => Sys2Proof.Machine.execLinkLost p s
  | .linkTrained p => Sys2Proof.Machine.execLinkTrained p s
  | .lossOfSignal p => Sys2Proof.Machine.execLossOfSignal p s
  | .pathRetry p node => Sys2Proof.Machine.execPathRetry p node s
  | .pathOk p node => Sys2Proof.Machine.execPathOk p node s
  | .pathLost p node => Sys2Proof.Machine.execPathLost p node s
  | .pathRetryLapse p node => Sys2Proof.Machine.execPathRetryLapse p node s
  | .fabLoad p t => Sys2Proof.Machine.execFabLoad p t s
  | .fabStore p t => Sys2Proof.Machine.execFabStore p t s
  | .fabAtomic p t => Sys2Proof.Machine.execFabAtomic p t s
  | .fabTileWr p t => Sys2Proof.Machine.execFabTileWr p t s
  | .fabTileRd p t => Sys2Proof.Machine.execFabTileRd p t s
  | .fabHandle p t => Sys2Proof.Machine.execFabHandle p t s
  | .fabGroup p t => Sys2Proof.Machine.execFabGroup p t s
  | .fabBeacon p t => Sys2Proof.Machine.execFabBeacon p t s
  | .fabEchoReq p t => Sys2Proof.Machine.execFabEchoReq p t s
  | .fabEchoResp p t => Sys2Proof.Machine.execFabEchoResp p t s
  | .fabData p t => Sys2Proof.Machine.execFabData p t s
  | .fabAck p t => Sys2Proof.Machine.execFabAck p t s
  | .fabResult p t => Sys2Proof.Machine.execFabResult p t s
  | .fabNack p t => Sys2Proof.Machine.execFabNack p t s
  | .fabError p t => Sys2Proof.Machine.execFabError p t s
  | .requestTimeout tag => Sys2Proof.Machine.execRequestTimeout tag s
  | .nackBackoffEnd tag => Sys2Proof.Machine.execNackBackoffEnd tag s
  | .atomicUnknown tag => Sys2Proof.Machine.execAtomicUnknown tag s
  | .replyCacheFree => Sys2Proof.Machine.execReplyCacheFree s
  | .beaconSend => Sys2Proof.Machine.execBeaconSend s
  | .echoReqSend => Sys2Proof.Machine.execEchoReqSend s
  | .ratcInsert => Sys2Proof.Machine.execRatcInsert s
  | .ratcRemove => Sys2Proof.Machine.execRatcRemove s
  | .ratcRemoveDone => Sys2Proof.Machine.execRatcRemoveDone s
  | .ratcRead => Sys2Proof.Machine.execRatcRead s
  | .sqDoorbell fn q tail entries => Sys2Proof.Machine.execSqDoorbell fn q tail entries s
  | .cqDoorbell fn q head => Sys2Proof.Machine.execCqDoorbell fn q head s
  | .listSubmit o => Sys2Proof.Machine.execListSubmit o s
  | .hostCopy o bytes => Sys2Proof.Machine.execHostCopy o bytes s
  | .ssiSend o bytes => Sys2Proof.Machine.execSsiSend o bytes s
  | .accRead o => Sys2Proof.Machine.execAccRead o s
  | .recordWrite fn q => Sys2Proof.Machine.execRecordWrite fn q s
  | .attnHoldExpiry fn => Sys2Proof.Machine.execAttnHoldExpiry fn s
  | .attnClear fn mask => Sys2Proof.Machine.execAttnClear fn mask s
  | .msixFire fn q => Sys2Proof.Machine.execMsixFire fn q s
  | .msixUnmask fn vec => Sys2Proof.Machine.execMsixUnmask fn vec s
  | .queuePairEnable fn q => Sys2Proof.Machine.execQueuePairEnable fn q s
  | .queuePairDisable fn q => Sys2Proof.Machine.execQueuePairDisable fn q s
  | .queuePairOff fn q => Sys2Proof.Machine.execQueuePairOff fn q s
  | .fctlVfEnable vf => Sys2Proof.Machine.execFctlVfEnable vf s
  | .fctlVfDisable vf => Sys2Proof.Machine.execFctlVfDisable vf s
  | .fctlUnitEnable u => Sys2Proof.Machine.execFctlUnitEnable u s
  | .fctlUnitDisable u => Sys2Proof.Machine.execFctlUnitDisable u s
  | .fctlFhPortEnable p => Sys2Proof.Machine.execFctlFhPortEnable p s
  | .fctlFhPortDisable p => Sys2Proof.Machine.execFctlFhPortDisable p s
  | .fctlFabPortEnable p => Sys2Proof.Machine.execFctlFabPortEnable p s
  | .fctlFabPortDisable p => Sys2Proof.Machine.execFctlFabPortDisable p s
  | .vfEnableSet => Sys2Proof.Machine.execVfEnableSet s
  | .vfEnableClear => Sys2Proof.Machine.execVfEnableClear s
  | .numvfsWrite n => Sys2Proof.Machine.execNumvfsWrite n s
  | .flr fn => Sys2Proof.Machine.execFlr fn s
  | .vfStopComplete fn => Sys2Proof.Machine.execVfStopComplete fn s
  | .apertureRead fn ofs len => Sys2Proof.Machine.execApertureRead fn ofs len s
  | .apertureWrite fn ofs bytes => Sys2Proof.Machine.execApertureWrite fn ofs bytes s
  | .accountBoundary => Sys2Proof.Machine.execAccountBoundary s
  | .registerWrite r value => Sys2Proof.Machine.execRegisterWrite r value s
  | .rcCounterRead r => Sys2Proof.Machine.execRcCounterRead r s
  | .lowHalfRead r => Sys2Proof.Machine.execLowHalfRead r s
  | .recStart => Sys2Proof.Machine.execRecStart s
  | .recStop => Sys2Proof.Machine.execRecStop s
  | .replayStart => Sys2Proof.Machine.execReplayStart s
  | .replayStop => Sys2Proof.Machine.execReplayStop s
  | .mark => Sys2Proof.Machine.execMark s
  | .pause => Sys2Proof.Machine.execPause s
  | .rplResume => Sys2Proof.Machine.execRplResume s
  | .exportLog => Sys2Proof.Machine.execExportLog s
  | .importLog bytes => Sys2Proof.Machine.execImportLog bytes s
  | .clearLog => Sys2Proof.Machine.execClearLog s
  | .xferDone => Sys2Proof.Machine.execXferDone s
  | .recordInject => Sys2Proof.Machine.execRecordInject s
  | .outputMissing => Sys2Proof.Machine.execOutputMissing s
  | .stopAtReached => Sys2Proof.Machine.execStopAtReached s
  | .logGapWrite => Sys2Proof.Machine.execLogGapWrite s
  | .sentinelResult u digest known clean => Sys2Proof.Machine.execSentinelResult u digest known clean s
  | .unitShadowResult u0 u1 u2 d0 d1 d2 => Sys2Proof.Machine.execUnitShadowResult u0 u1 u2 d0 d1 d2 s
  | .healthSensorRead temps loads => Sys2Proof.Machine.execHealthSensorRead temps loads s
  | .heartbeatSend => Sys2Proof.Machine.execHeartbeatSend s
  | .heartbeatPeriodEnd => Sys2Proof.Machine.execHeartbeatPeriodEnd s
  | .takeoverUnmute n => Sys2Proof.Machine.execTakeoverUnmute n s
  | .expelRetry => Sys2Proof.Machine.execExpelRetry s
  | .stewardTokenRegain => Sys2Proof.Machine.execStewardTokenRegain s
  | .expelGrant => Sys2Proof.Machine.execExpelGrant s
  | .workHandover => Sys2Proof.Machine.execWorkHandover s
  | .spareLoad node => Sys2Proof.Machine.execSpareLoad node s
  | .stepShadowCompare t slot step mine theirs => Sys2Proof.Machine.execStepShadowCompare t slot step mine theirs s
  | .shadowRerunResult t slot step mine theirs => Sys2Proof.Machine.execShadowRerunResult t slot step mine theirs s
  | .spareTestDone => Sys2Proof.Machine.execSpareTestDone s
  | .expel => Sys2Proof.Machine.execExpel s
  | .unfence => Sys2Proof.Machine.execUnfence s
  | .shadowStart => Sys2Proof.Machine.execShadowStart s
  | .shadowStop => Sys2Proof.Machine.execShadowStop s
  | .hltLogAck n => Sys2Proof.Machine.execHltLogAck n s
  | .pwrOkAssert => Sys2Proof.Machine.execPwrOkAssert s
  | .startPhaseEnd full => Sys2Proof.Machine.execStartPhaseEnd full s
  | .trainingStoreWrite => Sys2Proof.Machine.execTrainingStoreWrite s
  | .perstAssert => Sys2Proof.Machine.execPerstAssert s
  | .perstDeassert => Sys2Proof.Machine.execPerstDeassert s
  | .pwrOkDeassert => Sys2Proof.Machine.execPwrOkDeassert s
  | .restartArm => Sys2Proof.Machine.execRestartArm s
  | .restartCancel => Sys2Proof.Machine.execRestartCancel s
  | .restartInstant => Sys2Proof.Machine.execRestartInstant s
  | .restartStopping => Sys2Proof.Machine.execRestartStopping s
  | .restartReset => Sys2Proof.Machine.execRestartReset s
  | .commitSvn confirm => Sys2Proof.Machine.execCommitSvn confirm s
  | .takeOwner confirm => Sys2Proof.Machine.execTakeOwner confirm s
  | .flashErase => Sys2Proof.Machine.execFlashErase s
  | .flashProgram bytes => Sys2Proof.Machine.execFlashProgram bytes s
  | .flashRead => Sys2Proof.Machine.execFlashRead s
  | .flashDone ok => Sys2Proof.Machine.execFlashDone ok s
  | .secMrExt idx => Sys2Proof.Machine.execSecMrExt idx s
  | .getVersion => Sys2Proof.Machine.execGetVersion s
  | .getCapabilities => Sys2Proof.Machine.execGetCapabilities s
  | .negotiateAlgorithms hash sig => Sys2Proof.Machine.execNegotiateAlgorithms hash sig s
  | .getDigests => Sys2Proof.Machine.execGetDigests s
  | .getCertificate slot ofs len => Sys2Proof.Machine.execGetCertificate slot ofs len s
  | .challenge slot nonce => Sys2Proof.Machine.execChallenge slot nonce s
  | .getMeasurements index signIt nonce => Sys2Proof.Machine.execGetMeasurements index signIt nonce s
  | .dbgToken bytes => Sys2Proof.Machine.execDbgToken bytes s
  | .idcode => Sys2Proof.Machine.execIdcode s
  | .bypass => Sys2Proof.Machine.execBypass s
  | .samplePreload pins => Sys2Proof.Machine.execSamplePreload pins s
  | .extest pins => Sys2Proof.Machine.execExtest pins s
  | .extestExit => Sys2Proof.Machine.execExtestExit s
  | .securityAlarm b => Sys2Proof.Machine.execSecurityAlarm b s
  | .tamperCheck tampIn next => Sys2Proof.Machine.execTamperCheck tampIn next s
  | .thermtrip => Sys2Proof.Machine.execThermtrip s
  | .thermalRevision temps => Sys2Proof.Machine.execThermalRevision temps s
  | .powerRevision p10 p100 => Sys2Proof.Machine.execPowerRevision p10 p100 s
  | .fastStep => Sys2Proof.Machine.execFastStep s
  | .signalOn p => Sys2Proof.Machine.execSignalOn p s
  | .ptpAnnounceTimeout port => Sys2Proof.Machine.execPtpAnnounceTimeout port s

end Sys2Proof.Machine
end

