-- ==== Sys2Proof/WellFormed.lean ====
section
/-! DEFINITION. The commands that name parts which the package has: every index below the count that the spec gives (R24). Whether the package
acts on a command depends on its state and is the meaning's business. -/
namespace Sys2Proof
open Machine

/-- Ibex arrays 0 to 95 (R24). -/
def isIbex (a : Nat) : Bool := decide (a < 96)

/-- Clusters 0 to 47, each with a vector unit and a move engine (R24). -/
def isCluster (c : Nat) : Bool := decide (c < 48)

/-- Chamois cores 0 to 191 (R24). -/
def isChamois (k : Nat) : Bool := decide (k < 192)

/-- Regions 0 to 11, each with a Kudu engine (R24). -/
def isRegion (g : Nat) : Bool := decide (g < 12)

/-- Radio cells 0 to 511 (R381). -/
def isCell (n : Nat) : Bool := decide (n < 512)

/-- Fronthaul ports 0 to 15 (R429). -/
def isFhPort (p : Nat) : Bool := decide (p < 16)

/-- Fabric ports, one of each plane (R523). -/
def isFabPort (p : Nat) : Bool := decide (p < 3)

/-- Queue pair `q` of function `f` (R590). -/
def isQueue (f q : Nat) : Bool := isFn f && decide (q < 8)

/-- An engine unit: not the hub running a service list. -/
def isEngine (u : Nat) : Bool := isUnit u && decide (u < 0x10000)

/-- Model slot `i` of tenant `t` (R310). -/
def isModelSlot (t i : Nat) : Bool := decide (t < 1024) && decide (i < 16)

/-- Does the command name parts that the package has? -/
def Instr.wellFormed (i : Instr) : Bool :=
  match i with
  | .ppsPulse => true
  | .ppsMiss => true
  | .todMessage _ => true
  | .ptpFrame p _ => isFhPort p
  | .ptpDelayReq => true
  | .esmcFrame p _ => isFhPort p
  | .sourceHoldoffExpiry => true
  | .beaconSourceSwitch => true
  | .holdoverLimit => true
  | .snapshot => true
  | .restep => true
  | .requalify => true
  | .autoStep => true
  | .launchCounterCorrect => true
  | .comparatorMatch p i => isCmp p i
  | .commitPoint g => decide (g < 256)
  | .groupOrphan g => decide (g < 256)
  | .groupFree g => decide (g < 256)
  | .timGrpAbort g => decide (g < 256)
  | .visibilityStampDue _ q => decide (q < 8)
  | .ppsOutPulse => true
  | .bandwidthWindow => true
  | .windowBoundary g => isRegion g
  | .hardStop g => isRegion g
  | .grainStart u => isUnit u
  | .grainOverrun u => isUnit u
  | .radioOverrunEnd g => isRegion g
  | .eviction c => isCluster c
  | .swapStart c => isCluster c
  | .swapComplete c => isCluster c
  | .listStart _ cls => decide (cls < 6)
  | .listEnd u => isUnit u
  | .nop _ => true
  | .listHdr u => isUnit u
  | .arm _ => true
  | .groupCreate _ => true
  | .groupJoin _ => true
  | .notify _ => true
  | .cancel _ => true
  | .handlePut _ => true
  | .place _ => true
  | .promote _ => true
  | .evict _ => true
  | .pin _ => true
  | .unpin _ => true
  | .ctxCreate _ => true
  | .ctxEnd _ => true
  | .contextEnd _ => true
  | .load a => isIbex a
  | .stream a => isIbex a
  | .spill a => isIbex a
  | .restore a => isIbex a
  | .weightFenceMet a => isIbex a
  | .ibxFreeze a => isIbex a
  | .ibxOutputRow a => isIbex a
  | .checksumCompare a _ => isIbex a
  | .ibxCsAck g _ => isRegion g
  | .vmap c => isCluster c
  | .vbin c => isCluster c
  | .vreduce c => isCluster c
  | .vsoftmax c => isCluster c
  | .vnorm c => isCluster c
  | .vconvert c => isCluster c
  | .vsample c => isCluster c
  | .vnop c => isCluster c
  | .cimem k => isChamois k
  | .cfill k => isChamois k
  | .cdrain k => isChamois k
  | .crun k => isChamois k
  | .chmLimit k => isChamois k
  | .aopNop k => isChamois k
  | .cmac k => isChamois k
  | .cmacj k => isChamois k
  | .cmsu k => isChamois k
  | .cmul k => isChamois k
  | .cmulj k => isChamois k
  | .rcmac k => isChamois k
  | .rcmul k => isChamois k
  | .azero k => isChamois k
  | .arnd k => isChamois k
  | .vadd k => isChamois k
  | .vsub k => isChamois k
  | .vconj k => isChamois k
  | .vmov k => isChamois k
  | .vrot k => isChamois k
  | .vbrev k => isChamois k
  | .halt k => isChamois k
  | .loop k => isChamois k
  | .br k => isChamois k
  | .bnz k => isChamois k
  | .setp k => isChamois k
  | .sets k => isChamois k
  | .adds k => isChamois k
  | .setsh k => isChamois k
  | .ldpcDec g => isRegion g
  | .ldpcEnc g => isRegion g
  | .polarDec g => isRegion g
  | .polarEnc g => isRegion g
  | .copy c => isCluster c
  | .xferNd c => isCluster c
  | .fill c => isCluster c
  | .toExact c => isCluster c
  | .exactSum c => isCluster c
  | .fromExact c => isCluster c
  | .atomic c => isCluster c
  | .resume c => isCluster c
  | .handleWaitMet u => isUnit u
  | .handleRelease u => isUnit u
  | .handleVisible _ q => decide (q < 8)
  | .serviceAck u => isUnit u
  | .modelLoad _ => true
  | .mirrorAck t i _ => isModelSlot t i
  | .modelUnload _ => true
  | .seqSubmit _ _ => true
  | .seqCancel _ => true
  | .stepBoundary t i _ _ => isModelSlot t i
  | .cellStart v _ => isVia v
  | .cellOn n => isCell n
  | .cellStop v _ => isVia v
  | .cellOff n => isCell n
  | .dlOrder v _ => isVia v
  | .tbLoad v _ => isVia v
  | .ulOrder v _ => isVia v
  | .softRelease v _ => isVia v
  | .slotMark n => isCell n
  | .dlDeadline n => isCell n
  | .radioListAdmit u _ _ => isEngine u
  | .ulReport n _ _ => isCell n
  | .deadlineMiss n => isCell n
  | .indicationRingRoom => true
  | .frameReceive p _ => isFhPort p
  | .burstFft e _ => decide (e < 8192)
  | .receiveWindowClose e _ => decide (e < 8192)
  | .egressBuild n _ y => isCell n && decide (y ≤ 14)
  | .gateOpen q => decide (q < 16384)
  | .gateCloseDrop q => decide (q < 16384)
  | .shaperSelect p => decide (p < 19)
  | .shpHistSample => true
  | .shpHistClr => true
  | .fhLinkChange p _ _ => isFhPort p
  | .migrationStart _ => true
  | .migrationLine _ => true
  | .migrationSwitch _ => true
  | .frameFree => true
  | .memoryRefresh d _ _ => decide (d < 4)
  | .scrub d _ => decide (d < 4)
  | .memLogAck _ => true
  | .flitReceive p _ => isFabPort p
  | .nakReceive p _ => isFabPort p
  | .ackTimeout p => isFabPort p
  | .linkLost p => isFabPort p
  | .linkTrained p => isFabPort p
  | .lossOfSignal p => isFabPort p
  | .pathRetry p _ => isFabPort p
  | .pathOk p _ => isFabPort p
  | .pathLost p _ => isFabPort p
  | .pathRetryLapse p _ => isFabPort p
  | .fabLoad p _ => decide (p < 4)
  | .fabStore p _ => decide (p < 4)
  | .fabAtomic p _ => decide (p < 4)
  | .fabTileWr p _ => decide (p < 4)
  | .fabTileRd p _ => decide (p < 4)
  | .fabHandle p _ => decide (p < 4)
  | .fabGroup p _ => decide (p < 4)
  | .fabBeacon p _ => isFabPort p
  | .fabEchoReq p _ => isFabPort p
  | .fabEchoResp p _ => isFabPort p
  | .fabData p _ => decide (p < 4)
  | .fabAck p _ => decide (p < 4)
  | .fabResult p _ => decide (p < 4)
  | .fabNack p _ => decide (p < 4)
  | .fabError p _ => decide (p < 4)
  | .requestTimeout _ => true
  | .nackBackoffEnd _ => true
  | .atomicUnknown _ => true
  | .replyCacheFree => true
  | .beaconSend => true
  | .echoReqSend => true
  | .ratcInsert => true
  | .ratcRemove => true
  | .ratcRemoveDone => true
  | .ratcRead => true
  | .sqDoorbell f q _ _ => isQueue f q
  | .cqDoorbell f q _ => isQueue f q
  | .listSubmit _ => true
  | .hostCopy _ _ => true
  | .ssiSend _ _ => true
  | .accRead _ => true
  | .recordWrite f q => isQueue f q
  | .attnHoldExpiry f => isFn f
  | .attnClear f _ => isFn f
  | .msixFire f q => isQueue f q
  | .msixUnmask f q => isQueue f q
  | .queuePairEnable f q => isQueue f q
  | .queuePairDisable f q => isQueue f q
  | .queuePairOff f q => isQueue f q
  | .fctlVfEnable v => decide (v < 1024)
  | .fctlVfDisable v => decide (v < 1024)
  | .fctlUnitEnable u => isEngine u
  | .fctlUnitDisable u => isEngine u
  | .fctlFhPortEnable p => isFhPort p
  | .fctlFhPortDisable p => isFhPort p
  | .fctlFabPortEnable p => isFabPort p
  | .fctlFabPortDisable p => isFabPort p
  | .vfEnableSet => true
  | .vfEnableClear => true
  | .numvfsWrite _ => true
  | .flr f => isFn f
  | .vfStopComplete v => decide (v < 1024)
  | .apertureRead f o n => isFn f && decide (o + n ≤ apSize f)
  | .apertureWrite f o b => isFn f && decide (o + b.length ≤ apSize f)
  | .accountBoundary => true
  | .registerWrite r _ => refOk r
  | .rcCounterRead r => refOk r
  | .lowHalfRead r => refOk r && r.width == 4
  | .recStart => true
  | .recStop => true
  | .replayStart => true
  | .replayStop => true
  | .mark => true
  | .pause => true
  | .rplResume => true
  | .exportLog => true
  | .importLog _ => true
  | .clearLog => true
  | .xferDone => true
  | .recordInject => true
  | .outputMissing => true
  | .stopAtReached => true
  | .logGapWrite => true
  | .sentinelResult u _ _ _ => isPart u
  | .unitShadowResult u v w _ _ _ => isPart u && isPart v && isPart w
  | .healthSensorRead ts ls => decide (ts.length = 17) && ls.all (fun x => isPart x.1 && decide (x.2 < 4))
  | .heartbeatSend => true
  | .heartbeatPeriodEnd => true
  | .takeoverUnmute n => isCell n
  | .expelRetry => true
  | .stewardTokenRegain => true
  | .expelGrant => true
  | .workHandover => true
  | .spareLoad n => decide (n < 4096)
  | .stepShadowCompare t i _ _ _ => isModelSlot t i
  | .shadowRerunResult t i _ _ _ => isModelSlot t i
  | .spareTestDone => true
  | .expel => true
  | .unfence => true
  | .shadowStart => true
  | .shadowStop => true
  | .hltLogAck _ => true
  | .pwrOkAssert => true
  | .startPhaseEnd _ => true
  | .trainingStoreWrite => true
  | .perstAssert => true
  | .perstDeassert => true
  | .pwrOkDeassert => true
  | .restartArm => true
  | .restartCancel => true
  | .restartInstant => true
  | .restartStopping => true
  | .restartReset => true
  | .commitSvn _ => true
  | .takeOwner _ => true
  | .flashErase => true
  | .flashProgram _ => true
  | .flashRead => true
  | .flashDone _ => true
  | .secMrExt _ => true
  | .getVersion => true
  | .getCapabilities => true
  | .negotiateAlgorithms _ _ => true
  | .getDigests => true
  | .getCertificate _ _ _ => true
  | .challenge _ _ => true
  | .getMeasurements _ _ _ => true
  | .dbgToken _ => true
  | .idcode => true
  | .bypass => true
  | .samplePreload _ => true
  | .extest _ => true
  | .extestExit => true
  | .securityAlarm b => decide (b < 7)
  | .tamperCheck _ _ => true
  | .thermtrip => true
  | .thermalRevision ts => decide (ts.length = 17)
  | .powerRevision _ _ => true
  | .fastStep => true
  | .signalOn p => isFabPort p
  | .ptpAnnounceTimeout p => isFhPort p

end Sys2Proof
end

