-- ==== Sys2Proof/Safety.lean ====
section
/-! DEFINITION. What counts as a safe run: what no command does to the package, and what every step keeps. -/
namespace Sys2Proof.Machine

/-- The fuses only burn (R731, R743, R745): SVN_MIN never falls, an owner once set stays with its hash, an identity once erased stays erased, and
no command changes REVOKE or DEBUG_OFF. -/
structure Burns (x y : Start) : Prop where
  svn : x.svnMin ≤ y.svnMin
  revoke : y.revoke = x.revoke
  debugOff : y.debugOff = x.debugOff
  ident : x.identErased = true → y.identErased = true
  owner : x.ownerSet = true → y.ownerSet = true ∧ y.ownerHash = x.ownerHash

/-- What every command leaves of a state: storage in canonical form, the queue of waiting commands, what has already left the package, the free
values already drawn, and the fuses. -/
structure Keeps (s t : State) : Prop where
  mem : s.mem.wf = true → t.mem.wf = true
  pending : t.pending = s.pending
  out : s.out <+: t.out
  drawn : s.drawn ≤ t.drawn
  fuses : Burns s.start t.start

/-- An answer that, when it is a next state, keeps these. -/
structure KeepsRes (s : State) (r : Res) : Prop where
  next : ∀ t, r = .next t → Keeps s t

/-- A command completes: it answers a next state, of which `P` holds. -/
def Gives (c : Instr) (s : State) (P : State → Prop) : Prop := ∃ t, exec c s = .next t ∧ P t

/-! ### What a command changes -/

/-- The parts of the state, as frames name them. -/
inductive Part where
  /-- The air-time counter, its sources and the hub clock. -/
  | time
  /-- Comparators, launch groups, joins, armed lists, the service queue, submission numbers and ended shard lists. -/
  | lists
  /-- Windows, swaps and bandwidth of the regions and clusters. -/
  | cyclic
  /-- Contexts. -/
  | ctxs
  /-- What the numbered units hold and run. -/
  | units
  /-- Functions with their queue pairs, attentions and pages. -/
  | fns
  /-- NumVFs, VF Enable and the target of `HIF_FCTL`. -/
  | vfs
  /-- Enables of the ports. -/
  | ports
  /-- Accounts. -/
  | acct
  /-- Ibex arrays and vector units. -/
  | mat
  /-- Model instances and sequences. -/
  | inf
  | chm
  | radio
  | front
  | tiers
  | fab
  /-- The recorder and its log. -/
  | rpl
  | health
  | start
  | power
  /-- Registers that hold a stored value. -/
  | regs
  /-- Latched high halves. -/
  | latch
  /-- Addressed storage. -/
  | mem
  /-- What has left the package. -/
  | out
  | drawn
  | pending
  deriving DecidableEq, Repr

/-- A part of one state is as in another. -/
def Part.same (p : Part) (s t : State) : Prop :=
  match p with
  | .time => t.time = s.time
  | .lists => (t.sched.cmps, t.sched.groups, t.sched.armed, t.sched.service, t.sched.seq, t.sched.joins, t.sched.ended) =
      (s.sched.cmps, s.sched.groups, s.sched.armed, s.sched.service, s.sched.seq, s.sched.joins, s.sched.ended)
  | .cyclic => (t.sched.regions, t.sched.clusters, t.sched.band, t.sched.tlb) = (s.sched.regions, s.sched.clusters, s.sched.band, s.sched.tlb)
  | .ctxs => t.sched.ctxs = s.sched.ctxs
  | .units => t.sched.units = s.sched.units
  | .fns => t.host.fns = s.host.fns
  | .vfs => (t.host.numVfs, t.host.vfEnable, t.host.fsel, t.host.frej) = (s.host.numVfs, s.host.vfEnable, s.host.fsel, s.host.frej)
  | .ports => t.host.ports = s.host.ports
  | .acct => t.host.acct = s.host.acct
  | .mat => t.mat = s.mat
  | .inf => t.inf = s.inf
  | .chm => t.chm = s.chm
  | .radio => t.radio = s.radio
  | .front => t.front = s.front
  | .tiers => t.tiers = s.tiers
  | .fab => t.fab = s.fab
  | .rpl => t.rpl = s.rpl
  | .health => t.health = s.health
  | .start => t.start = s.start
  | .power => t.power = s.power
  | .regs => t.regs = s.regs
  | .latch => t.latch = s.latch
  | .mem => t.mem = s.mem
  | .out => t.out = s.out
  | .drawn => t.drawn = s.drawn
  | .pending => t.pending = s.pending

/-- Every part outside a list is as it was. -/
structure Only (ps : List Part) (s t : State) : Prop where
  same : ∀ p, p ∉ ps → p.same s t

/-- Every part. -/
def allParts : List Part :=
  [.time, .lists, .cyclic, .ctxs, .units, .fns, .vfs, .ports, .acct, .mat, .inf, .chm, .radio, .front, .tiers, .fab, .rpl, .health, .start, .power,
   .regs, .latch, .mem, .out, .drawn, .pending]

/-- Every part but these. -/
def allBut (ps : List Part) : List Part := allParts.filter (fun p => !ps.contains p)

/-- What the recording of an input and an event change: the log, registers, and attentions and records of functions. -/
abbrev noted : List Part := [.fns, .rpl, .regs]

/-- What the end of a service command changes as well: its list and unit, messages to a launch group's members, records. -/
abbrev served : List Part := [.lists, .units, .fns, .front, .fab, .rpl, .regs, .out]

/-- What a message to the L2 changes as well: cells, health logs of their radio, transports. -/
abbrev radioNoted : List Part := [.fns, .radio, .front, .fab, .rpl, .health, .regs, .out]

/-- The parts that a command may change; all others stay as they are. -/
def partsOf (i : Instr) : List Part :=
  match i with
  | .ppsPulse | .ppsMiss | .ptpFrame .. | .sourceHoldoffExpiry | .fabEchoResp .. | .ptpAnnounceTimeout .. => noted ++ [.time, .start, .drawn]
  | .todMessage .. | .esmcFrame .. | .beaconSourceSwitch => [.time, .fns, .regs]
  | .ptpDelayReq | .ppsOutPulse => [.time, .out]
  | .holdoverLimit => noted ++ [.time, .start]
  | .snapshot | .ibxCsAck .. | .memLogAck .. | .ratcRead | .sqDoorbell .. | .attnClear .. | .queuePairEnable .. | .recStart | .recStop |
    .replayStop | .mark | .importLog .. | .clearLog | .xferDone | .outputMissing | .stopAtReached | .hltLogAck .. => noted
  | .restep | .autoStep => allBut [.vfs, .acct, .power, .latch, .drawn, .pending]
  | .requalify | .replayStart => noted ++ [.time]
  | .launchCounterCorrect | .fabBeacon .. => [.time]
  | .comparatorMatch .. => served ++ [.ctxs, .mat, .chm, .mem]
  | .commitPoint .. | .groupOrphan .. | .timGrpAbort .. | .nop .. | .listHdr .. | .groupJoin .. | .notify .. | .vnop .. | .serviceAck .. |
    .linkLost .. | .lossOfSignal .. | .pathLost .. | .fabGroup .. | .requestTimeout .. | .nackBackoffEnd .. | .atomicUnknown .. => served
  | .groupFree .. => [.lists]
  | .visibilityStampDue .. | .handleVisible .. => [.ctxs]
  | .bandwidthWindow => [.cyclic]
  | .windowBoundary .. | .radioOverrunEnd .. => allBut [.time, .vfs, .acct, .power, .latch, .drawn, .pending]
  | .hardStop .. => allBut [.time, .vfs, .acct, .power, .latch, .mem, .drawn, .pending]
  | .grainStart .. => [.ctxs, .units, .mat, .chm, .regs, .mem]
  | .grainOverrun .. => [.units, .fns, .regs]
  | .eviction .. => [.cyclic, .regs]
  | .swapStart .. => [.cyclic, .ctxs, .fns, .acct, .regs, .mem]
  | .swapComplete .. => allBut [.time, .vfs, .inf, .chm, .power, .latch, .drawn, .pending]
  | .listStart .. | .securityAlarm .. | .tamperCheck .. => allBut [.time, .cyclic, .vfs, .acct, .power, .latch, .drawn, .pending]
  | .listEnd .. | .cancel .. | .stepBoundary .. | .flr .. | .workHandover | .restartStopping =>
    allBut [.time, .cyclic, .vfs, .acct, .power, .latch, .mem, .drawn, .pending]
  | .arm .. | .groupCreate .. | .scrub .. => served ++ [.ports, .radio, .tiers, .health, .start]
  | .handlePut .. | .ctxEnd .. | .handleRelease .. => served ++ [.ctxs]
  | .place .. | .promote .. | .evict .. | .pin .. | .unpin .. => served ++ [.tiers, .mem]
  | .ctxCreate .. => served ++ [.ctxs, .tiers, .mem]
  | .contextEnd .. => [.lists, .ctxs, .fns, .mat, .tiers, .fab, .regs]
  | .load .. | .restore .. | .ibxOutputRow .. | .vmap .. | .vbin .. | .vreduce .. | .vsoftmax .. | .vnorm .. | .vconvert .. | .vsample .. =>
    allBut [.time, .ctxs, .vfs, .inf, .chm, .power, .latch, .drawn, .pending]
  | .stream .. => [.cyclic, .units, .acct, .mat, .regs]
  | .spill .. => served ++ [.cyclic, .acct, .mat, .tiers, .mem]
  | .weightFenceMet .. => [.units, .mat]
  | .ibxFreeze .. => [.acct, .mat, .regs]
  | .checksumCompare .. => allBut [.time, .cyclic, .ctxs, .vfs, .acct, .inf, .chm, .tiers, .power, .latch, .mem, .pending]
  | .cimem .. | .cfill .. | .ldpcDec .. | .ldpcEnc .. | .polarDec .. | .polarEnc .. | .toExact .. | .exactSum .. | .fromExact .. =>
    allBut [.time, .ctxs, .vfs, .mat, .inf, .chm, .power, .latch, .drawn, .pending]
  | .cdrain .. => allBut [.time, .ctxs, .vfs, .mat, .inf, .power, .latch, .drawn, .pending]
  | .crun .. => [.units, .chm, .regs]
  | .chmLimit .. => [.units, .acct, .chm, .regs]
  | .aopNop .. | .cmac .. | .cmacj .. | .cmsu .. | .cmul .. | .cmulj .. | .rcmac .. | .rcmul .. | .azero .. | .arnd .. | .vadd .. |
    .vsub .. | .vconj .. | .vmov .. | .vrot .. | .vbrev .. => allBut [.time, .cyclic, .ctxs, .vfs, .mat, .inf, .power, .latch, .pending]
  | .halt .. => served ++ [.acct, .chm]
  | .loop .. | .br .. | .bnz .. | .setp .. | .sets .. | .adds .. | .setsh .. =>
    allBut [.time, .cyclic, .ctxs, .vfs, .mat, .inf, .power, .latch, .mem, .drawn, .pending]
  | .copy .. => allBut [.time, .ctxs, .vfs, .mat, .chm, .power, .latch, .drawn, .pending]
  | .xferNd .. | .resume .. => allBut [.time, .vfs, .mat, .inf, .chm, .power, .latch, .mem, .drawn, .pending]
  | .fill .. => served ++ [.cyclic, .acct, .tiers, .mem]
  | .atomic .. => noted ++ [.cyclic, .units, .acct, .front, .fab, .out]
  | .handleWaitMet .. | .fabLoad .. | .fabStore .. | .fabAtomic .. | .fabTileWr .. | .fabTileRd .. | .fabHandle .. =>
    allBut [.time, .cyclic, .vfs, .mat, .inf, .chm, .power, .latch, .drawn, .pending]
  | .modelLoad .. => allBut [.time, .cyclic, .vfs, .acct, .mat, .chm, .power, .latch, .drawn, .pending]
  | .mirrorAck .. | .modelUnload .. => served ++ [.ctxs, .mat, .inf, .chm, .tiers]
  | .seqSubmit .. => served ++ [.inf, .tiers]
  | .seqCancel .. => served ++ [.inf]
  | .cellStart .. => radioNoted ++ [.ctxs, .mem]
  | .cellOn .. | .cellStop .. | .dlOrder .. | .tbLoad .. | .ulOrder .. | .softRelease .. | .slotMark .. | .dlDeadline .. | .ulReport .. |
    .deadlineMiss .. | .takeoverUnmute .. => radioNoted
  | .cellOff .. => radioNoted ++ [.lists, .ctxs, .mat, .tiers, .mem]
  | .radioListAdmit .. => allBut [.time, .cyclic, .vfs, .acct, .inf, .power, .latch, .drawn, .pending]
  | .indicationRingRoom => noted ++ [.radio, .front, .fab, .out]
  | .frameReceive .. => noted ++ [.ctxs, .front, .tiers, .mem]
  | .burstFft .. => [.ctxs, .front, .tiers, .mem]
  | .receiveWindowClose .. => [.ctxs, .radio, .front, .tiers, .mem]
  | .egressBuild .. | .gateCloseDrop .. => [.front, .regs]
  | .gateOpen .. | .shpHistSample => [.front]
  | .shaperSelect .. => noted ++ [.time, .front, .fab, .out]
  | .shpHistClr => noted ++ [.front]
  | .fhLinkChange .. => [.ports, .front]
  | .migrationStart .. | .frameFree => [.tiers]
  | .migrationLine .. => [.cyclic, .acct, .tiers, .regs, .mem]
  | .migrationSwitch .. => [.fns, .tiers, .regs, .mem]
  | .memoryRefresh .. => []
  | .flitReceive .. | .nakReceive .. | .ackTimeout .. => [.fab, .regs, .out]
  | .linkTrained .. => [.ports, .front, .fab, .out]
  | .pathRetry .. | .pathRetryLapse .. | .replyCacheFree | .signalOn .. => [.fab]
  | .pathOk .. | .fabEchoReq .. | .beaconSend | .echoReqSend => [.front, .fab, .out]
  | .fabData .. | .fabAck .. | .fabResult .. | .fabNack .. | .fabError .. => allBut [.time, .vfs, .mat, .chm, .power, .latch, .pending]
  | .ratcInsert | .ratcRemove => noted ++ [.fab]
  | .ratcRemoveDone => [.fab, .regs]
  | .cqDoorbell .. | .queuePairOff .. => [.fns]
  | .listSubmit .. => allBut [.time, .cyclic, .vfs, .acct, .mat, .inf, .chm, .power, .latch, .mem, .drawn, .pending]
  | .hostCopy .. => allBut [.time, .cyclic, .ctxs, .vfs, .mat, .inf, .chm, .power, .latch, .drawn, .pending]
  | .ssiSend .. => served ++ [.ctxs, .acct, .radio, .health, .mem]
  | .accRead .. => served ++ [.acct]
  | .recordWrite .. | .registerWrite .. => noted ++ [.inf, .out]
  | .attnHoldExpiry .. => [.fns, .regs]
  | .msixFire .. => [.fns, .out]
  | .msixUnmask .. | .exportLog => noted ++ [.out]
  | .queuePairDisable .. => noted ++ [.inf]
  | .fctlVfEnable .. | .vfEnableSet => noted ++ [.vfs]
  | .fctlVfDisable .. | .vfEnableClear | .numvfsWrite .. => allBut [.time, .cyclic, .acct, .power, .latch, .mem, .drawn, .pending]
  | .fctlUnitEnable .. => noted ++ [.units, .vfs, .health, .start]
  | .fctlUnitDisable .. => noted ++ [.units, .vfs]
  | .fctlFhPortEnable .. | .fctlFhPortDisable .. | .fctlFabPortEnable .. => noted ++ [.vfs, .ports]
  | .fctlFabPortDisable .. => served ++ [.vfs, .ports]
  | .vfStopComplete .. => noted ++ [.inf, .tiers]
  | .apertureRead .. => allBut [.time, .cyclic, .ctxs, .vfs, .mat, .inf, .chm, .power, .latch, .mem, .drawn, .pending]
  | .apertureWrite .. => noted ++ [.acct, .tiers, .mem]
  | .accountBoundary => [.acct, .power, .regs, .drawn]
  | .rcCounterRead .. | .lowHalfRead .. => [.fns, .regs, .latch, .out]
  | .pause | .rplResume => noted ++ [.ctxs, .inf]
  | .recordInject => allBut [.power, .latch, .pending]
  | .logGapWrite => [.rpl]
  | .sentinelResult .. | .unitShadowResult .. => served ++ [.ports, .radio, .health, .start]
  | .healthSensorRead .. => allBut [.time, .cyclic, .vfs, .acct, .mat, .inf, .chm, .tiers, .latch, .mem, .drawn, .pending]
  | .heartbeatSend => noted ++ [.front, .fab, .out]
  | .heartbeatPeriodEnd => radioNoted ++ [.inf, .start]
  | .expelRetry | .shadowRerunResult .. | .spareTestDone => noted ++ [.front, .fab, .health, .out]
  | .stewardTokenRegain => [.health]
  | .expelGrant | .expel => noted ++ [.front, .fab, .health, .start, .out]
  | .spareLoad .. => [.fns, .inf, .health, .regs]
  | .stepShadowCompare .. => [.fns, .health, .regs]
  | .unfence => noted ++ [.ctxs, .inf, .radio, .health, .start]
  | .shadowStart | .shadowStop => noted ++ [.health]
  | .pwrOkAssert | .perstAssert | .restartReset | .bypass | .extestExit => allBut [.out, .drawn, .pending]
  | .startPhaseEnd .. => allBut [.time, .cyclic, .vfs, .acct, .power, .latch, .pending]
  | .trainingStoreWrite | .perstDeassert => [.start]
  | .pwrOkDeassert => allBut [.out, .pending]
  | .restartArm | .restartCancel | .commitSvn .. | .takeOwner .. | .secMrExt .. => noted ++ [.start]
  | .restartInstant => radioNoted ++ [.start]
  | .flashErase | .flashProgram .. => noted ++ [.start, .mem]
  | .flashRead => noted ++ [.start, .out]
  | .flashDone .. => [.start, .regs, .mem, .drawn]
  | .getVersion | .getCapabilities | .negotiateAlgorithms .. => [.start, .out]
  | .getDigests | .getCertificate .. => [.out]
  | .challenge .. | .getMeasurements .. => [.out, .drawn]
  | .dbgToken .. => allBut [.pending]
  | .idcode | .samplePreload .. | .extest .. => allBut [.drawn, .pending]
  | .thermtrip => [.fab, .power]
  | .thermalRevision .. | .powerRevision .. => [.fns, .power, .regs]
  | .fastStep => allBut [.time, .cyclic, .vfs, .acct, .latch, .mem, .drawn, .pending]

/-- The storage is in canonical form, and every waiting command names parts that the package has. -/
structure State.Sound (s : State) : Prop where
  mem : s.mem.wf = true
  queue : s.pending.all Instr.wellFormed = true

/-- The registers that the recording of an input can change: its counters, its flags, and the counter of records dropped (R641, R653). -/
def logRegs : List Nat := [Reg.RPL_DROP_CNT, Reg.RPL_SKIP_CNT, Reg.RPL_EVT, Reg.HIF_QOFF_DROP]

/-! ### The next word of a signal core -/

/-- The next word of core `k`'s run is the bundle `b` with AOP `aop`, and it issues at cycle `t` without a fault (R357 to R368, R374). -/
structure Issues (s : State) (k aop : Nat) (x : Ctx) (run : CRun) (b : Bundle) (t : Nat) : Prop where
  core : k < 192
  word : ∃ r w, s.chmRun k = some (r, x, run, w) ∧ bit w 63 = false ∧ bundleOf w = b
  aop : b.aop = aop
  place : s.pcBad k x = false
  cycle : b.issueAt run = t
  before : run.within (t - 1) = true
  within : run.within t = true
  sound : s.bundleFault k x b = none
  clean : s.bundleBad k b = none

/-- The next word of core `k`'s run is the control instruction `w` with code `cop`, and it issues without a fault (R358, R361 to R363, R374). -/
structure Controls (s : State) (k cop : Nat) (x : Ctx) (run : CRun) (w : DWord) : Prop where
  core : k < 192
  word : ∃ r, s.chmRun k = some (r, x, run, w)
  kind : bit w 63 = true
  cop : bits w 58 5 = cop
  place : s.pcBad k x = false
  before : run.within (run.cyc - 1) = true
  within : run.within run.cyc = true
  legal : ctlIllegal (s.core k) w = false
  clean : s.chmBad (chmAt k 2 (8 * (s.core k).pc.toNat)) 8 = none

end Sys2Proof.Machine
end

