-- ==== Sys2Proof/Certificates/Slice0/Obligations.lean ====
section
/-! DEFINITION. The statements for the provers: one for each family of commands, and those about every command and every step. -/
open Sys2Proof Sys2Proof.Machine

/-- A step runs the command at the front of the queue. With a command at the front of the queue a step is exec of it on the state with the
rest of the queue; on an empty queue a step is a tick of the hub clock, which changes only the time unit and the drain of the recorder, and
nothing without supplies or after a thermal trip (the model's choice, log entry 1). (R87, R644, R756, R771) -/
def Obligations.StepRunsFront : Prop :=
  (∀ (s : State) (c : Instr) (r : List Instr), s.pending = c :: r → step s = exec c { s with pending := r }) ∧
  (∀ s : State, s.pending = [] → step s = .next s.tick ∧ Only [.time, .rpl] s s.tick ∧ ((s.start.pwrOk = false ∨ s.power.thermTrip = true) → s.tick = s))

/-- What reset leaves. After reset storage is empty and canonical, no command waits, nothing has left the package, start is at P0 without
supplies (log entry 6), the time unit is in FREERUN at zero, every score is 1,000, every measurement register zero, every ceiling 32, no
unit runs a list, no context exists, every VF and cell is OFF, the event registers read 0 and ARITH is 0xA11. (R22, R72, R663, R731, R747,
R760) -/
def Obligations.ResetState : Prop :=
  State.reset.Sound ∧ State.reset.pending = [] ∧ State.reset.mem = [] ∧ State.reset.out = [] ∧
  State.reset.start.dev = .start ∧ State.reset.start.phase = 0 ∧ State.reset.start.pwrOk = false ∧ State.reset.start.served = false ∧
  State.reset.time.st = .freerun ∧ State.reset.time.tc = 0 ∧ State.reset.rpl.st = .idle ∧ State.reset.rpl.log = [] ∧
  (∀ u b, State.reset.score u b = 1000) ∧ (∀ i, State.reset.start.mr.get 0 i = 0) ∧ (∀ d, State.reset.pCeil d = 32 ∧ State.reset.tCeil d = 32) ∧
  (∀ u, State.reset.run u = none) ∧ (∀ n, State.reset.ctx? n = none) ∧ (∀ f, f < 1024 → (State.reset.fn f).en.st = .off) ∧
  (∀ n, (State.reset.cell n).en.st = .off) ∧ State.reset.health.role = .active ∧
  State.reset.reg Reg.TIM_EVT = 0 ∧ State.reset.reg Reg.HLT_EVT = 0 ∧ State.reset.reg Reg.SEC_ALARM = 0 ∧ State.reset.reg Reg.RPL_EVT = 0 ∧
  State.reset.regBits Reg.HUB_IDENT 0 32 = 0xA11

/-- Every step keeps storage canonical, the queue well formed and the fuses burnt. For every state, if a step answers a next state: storage
in canonical form stays so, the queue loses its front command only, what has left the package stays a prefix, no free value is drawn twice,
SVN_MIN never falls, an owner once set and an identity once erased stay, REVOKE and DEBUG_OFF do not change; with storage canonical and
every waiting command well formed before, both hold after. (R731, R743, R745, R747) -/
def Obligations.StepKeepsSound : Prop :=
  ∀ s t : State, step s = .next t →
    (s.Sound → t.Sound) ∧ (s.mem.wf = true → t.mem.wf = true) ∧ t.pending = s.pending.tail ∧ s.out <+: t.out ∧ s.drawn ≤ t.drawn ∧ Burns s.start t.start

/-- What each command leaves unchanged. For every command and state, when exec answers a next state, every part of the state outside those
that partsOf names for the command is as it was. (How this manual binds, 7. NORMATIVE RULES) -/
def Obligations.FrameOfEveryCommand : Prop :=
  ∀ (c : Instr) (s t : State), exec c s = .next t → Only (partsOf c) s t

/-- Every command that names parts of the package completes. Every well-formed command answers a next state in every state, an ill-formed
one (it names a part that the package does not have) the fault noSuchPart; so every state with a sound queue has a next step. (R24, R381,
R429, R523, R590) -/
def Obligations.WellFormedCommandsAnswer : Prop :=
  (∀ (c : Instr) (s : State), (c.wellFormed = true → ∃ t, exec c s = .next t) ∧ (c.wellFormed = false → exec c s = .fault .noSuchPart)) ∧
  (∀ s : State, s.Sound → ∃ t, step s = .next t)

/-- Registers that register commands leave unchanged. Each of SNAPSHOT, REQUALIFY, the three log acknowledgements, SHP_HIST_CLR,
SHADOW_START, SHADOW_STOP, COMMIT_SVN, TAKE_OWNER, RESTART_CANCEL, SEC_MR_EXT, the flash commands ERASE, READ and FLASH_DONE, and
REPLAY_STOP leaves every register that holds a stored value as it was but the ones named for it and the recorder's own counters and flags.
(R101, R191, R475, R521, R656, R697, R706, R660, R729, R745, R715, R731) -/
def Obligations.RegisterFrames : Prop :=
  ∀ (s t : State) (a : Nat), a ∉ logRegs →
    (exec .snapshot s = .next t → a ≠ Reg.TIM_SNAP → t.regs.get 0 a = s.regs.get 0 a) ∧
    (exec .requalify s = .next t → t.regs.get 0 a = s.regs.get 0 a) ∧
    (∀ g n, exec (.ibxCsAck g n) s = .next t → a ≠ Reg.IBX_CS_TAIL g → a ≠ Reg.IBX_CS_COUNT g → t.regs.get 0 a = s.regs.get 0 a) ∧
    (∀ n, exec (.memLogAck n) s = .next t → a ≠ Reg.MEM_LOG_TAIL → a ≠ Reg.MEM_LOG_COUNT → t.regs.get 0 a = s.regs.get 0 a) ∧
    (∀ n, exec (.hltLogAck n) s = .next t → a ≠ Reg.HLT_LOG_TAIL → a ≠ Reg.HLT_LOG_COUNT → t.regs.get 0 a = s.regs.get 0 a) ∧
    (exec .shpHistClr s = .next t → t.regs.get 0 a = s.regs.get 0 a) ∧
    (exec .shadowStart s = .next t → a ≠ Reg.HLT_EVT → t.regs.get 0 a = s.regs.get 0 a) ∧
    (exec .shadowStop s = .next t → a ≠ Reg.HLT_EVT → t.regs.get 0 a = s.regs.get 0 a) ∧
    (∀ k, exec (.commitSvn k) s = .next t → a ≠ Reg.HUB_EVT → t.regs.get 0 a = s.regs.get 0 a) ∧
    (∀ k, exec (.takeOwner k) s = .next t → a ≠ Reg.HUB_EVT → t.regs.get 0 a = s.regs.get 0 a) ∧
    (exec .restartCancel s = .next t → t.regs.get 0 a = s.regs.get 0 a) ∧
    (∀ i, exec (.secMrExt i) s = .next t → t.regs.get 0 a = s.regs.get 0 a) ∧
    (exec .flashErase s = .next t → a ≠ Reg.HUB_FLASH_STAT → t.regs.get 0 a = s.regs.get 0 a) ∧
    (exec .flashRead s = .next t → a ≠ Reg.HUB_FLASH_STAT → t.regs.get 0 a = s.regs.get 0 a) ∧
    (∀ ok, exec (.flashDone ok) s = .next t → a ≠ Reg.HUB_FLASH_STAT → t.regs.get 0 a = s.regs.get 0 a) ∧
    (exec .replayStop s = .next t → t.regs.get 0 a = s.regs.get 0 a)

/-- Bytes of storage that stores leave unchanged. A run of bytes written, a range cleared or copied and spans stored change only the bytes
they name, which then hold what was written; LOAD and RESTORE change only the array's cells, SPILL, FILL and COPY only the bytes of their
destination. (R174, R178, R266, R278) -/
def Obligations.MemoryFrames : Prop :=
  (∀ (m : Mem) (a b n : Nat) (l : List Byte) (sp : List Span),
    (b < a ∨ a + l.length ≤ b → (m.wrBytes a l).rd b = m.rd b) ∧ (∀ i v, l[i]? = some v → (m.wrBytes a l).rd (a + i) = v) ∧
    (b < a ∨ a + n ≤ b → (m.clear a n).rd b = m.rd b) ∧ (a ≤ b → b < a + n → (m.clear a n).rd b = 0) ∧
    (∀ d, b < d ∨ d + n ≤ b → (m.copy a d n).rd b = m.rd b) ∧
    ((∀ p ∈ sp, b < p.1 ∨ p.1 + p.2 ≤ b) → (m.wrSpans sp l).rd b = m.rd b)) ∧
  (∀ (s t : State) (a y : Nat) (r : Running) (c : Cmd) (x : Ctx), exec (.load a) s = .next t → s.cur (uIbex a) 0x20 = some (r, c, x) → cmdField c 20 2 ≤ 256 →
    y < cellAt a 0 0 ∨ cellAt a 0 0 + 0x10100 ≤ y → t.mem.rd y = s.mem.rd y) ∧
  (∀ (s t : State) (a y : Nat), exec (.restore a) s = .next t → y < cellAt a 0 0 ∨ cellAt a 0 0 + 0x10000 ≤ y → t.mem.rd y = s.mem.rd y) ∧
  (∀ (s t : State) (a y : Nat) (r : Running) (c : Cmd) (x : Ctx), exec (.spill a) s = .next t → s.cur (uIbex a) 0x22 = some (r, c, x) → cDctx c = 0xFFFF →
    s.tiers.migs = [] → y < s.poolAddr x (cmdField c 16 4) ∨ s.poolAddr x (cmdField c 16 4) + 65536 ≤ y → t.mem.rd y = s.mem.rd y) ∧
  (∀ (s t : State) (cl y : Nat) (r : Running) (c : Cmd) (x : Ctx), exec (.fill cl) s = .next t → s.cur (uMov cl) 0xA2 = some (r, c, x) → s.tiers.migs = [] →
    (cmdField c 16 8 / 2 ^ 60 = 1 → cDctx c = 0xFFFF → y < s.poolAddr x (cmdField c 16 8 % 2 ^ 32) ∨ s.poolAddr x (cmdField c 16 8 % 2 ^ 32) + cmdField c 32 4 ≤ y →
      t.mem.rd y = s.mem.rd y) ∧
    (cmdField c 16 8 / 2 ^ 60 ≠ 1 → (∀ p ∈ s.placedSpans (cmdField c 16 8 % 2 ^ 48) (cmdField c 32 4), y < p.1 ∨ p.1 + p.2 ≤ y) → t.mem.rd y = s.mem.rd y)) ∧
  (∀ (s t : State) (cl y : Nat) (r : Running) (c : Cmd) (x : Ctx), exec (.copy cl) s = .next t → s.cur (uMov cl) 0xA0 = some (r, c, x) → s.tiers.migs = [] → r.list.own = false →
    s.tiers.weak = [] → s.tiers.bad = [] → s.tiers.poison = [] →
    (cmdField c 24 8 / 2 ^ 60 = 1 → cDctx c = 0xFFFF → y < s.poolAddr x (cmdField c 24 8 % 2 ^ 32) ∨ s.poolAddr x (cmdField c 24 8 % 2 ^ 32) + primaryLen r c 32 4 ≤ y →
      t.mem.rd y = s.mem.rd y) ∧
    (cmdField c 24 8 / 2 ^ 60 ≠ 1 → (∀ p ∈ s.placedSpans (cmdField c 24 8 % 2 ^ 48) (primaryLen r c 32 4), y < p.1 ∨ p.1 + p.2 ≤ y) → t.mem.rd y = s.mem.rd y))

/-- Commands of TIM_CMD. SNAPSHOT copies the counter into TIM_SNAP; RESTEP steps the counter to the source it selects, or flags that there
is none; REQUALIFY clears DISQ_OFS of each source; other values are ignored. (R101) -/
def Obligations.TimeCommands : Prop :=
  ∀ s : State, s.replayed = false →
    Gives .snapshot s (fun t => t.reg Reg.TIM_SNAP = (tcStamp s.now).toNat ∧ Only noted s t) ∧
    (∀ i, s.stepSrc = some i → Gives .restep s (fun t =>
      t.time.st = .locked ∧ t.time.src = i ∧ t.time.tc = (s.now64 - (s.srcSt i).ofs : Int).toNat / 64)) ∧
    (s.stepSrc = none → Gives .restep s (fun t => t.reg Reg.TIM_EVT = s.reg Reg.TIM_EVT ||| 0x40 ∧ Only noted s t)) ∧
    Gives .requalify s (fun t => t.time = { s.time with
      pps := { s.time.pps with disq := false }, ptp := { s.time.ptp with disq := false }, bcn := { s.time.bcn with disq := false } } ∧
      Only (noted ++ [.time]) s t) ∧
    (∀ v, v % 16 = 0 ∨ 3 < v % 16 → Gives (.registerWrite ⟨pf0, true, Reg.TIM_CMD, 4⟩ v) s (fun t => Only noted s t ∧ ∀ a, a ∉ logRegs → t.regs.get 0 a = s.regs.get 0 a))

/-- PPS pulses, missing pulses, time-of-day messages. Under the conditions on the state and operands that the Lean names, each completes
with the fields it names: PPS_PULSE, PPS_MISS, TOD_MESSAGE. (R62, R63, R64, R65) -/
def Obligations.PulsesAndMessages : Prop :=
  ∀ s : State, s.replayed = false →
    (s.srcEnabled 1 = true → Gives .ppsPulse s (fun t => t.time.tod = none ∧ t.time.ppsLast = some s.now)) ∧
    (∀ sec m, s.srcEnabled 1 = true → s.time.everLocked = true → s.time.tod = some sec → -pulse64 ≤ nearSecond s.edge64 → nearSecond s.edge64 ≤ pulse64 →
      s.time.pps.run = m → s.time.st = .locked → s.time.pps.disq = false → Gives .ppsPulse s (fun t =>
        t.time.pps.run = m + 1 ∧ t.time.pps.miss = 0 ∧ t.time.pps.qual = (s.time.pps.qual || decide (3 ≤ m)))) ∧
    (∀ k, s.srcEnabled 1 = true → s.time.everLocked = true → s.time.expSec = some k → (k : Int) * second64 + pulse64 ≤ s.edge64 → Gives .ppsMiss s (fun t =>
      t.time.pps.run = 0 ∧ t.time.pps.miss = s.time.pps.miss + 1 ∧ t.time.pps.qual = (s.time.pps.qual && decide (s.time.pps.miss < 2)) ∧
      t.reg Reg.TIM_EVT &&& 4 = 4)) ∧
    (∀ b l, s.srcEnabled 1 = true → byteField b 2 1 = 1 → todOk b = true → s.time.everLocked = false → s.time.ppsLast = some l → l + 196608000 ≤ s.now →
      s.now ≤ l + 1769472000 → Gives (.todMessage b) s (fun t => t.time.tod = some (byteField b 4 6) ∧ t.reg Reg.TIM_LEAP = byteField b 10 1)) ∧
    (∀ b, s.srcEnabled 1 = true → byteField b 2 1 = 1 → todOk b = false → Gives (.todMessage b) s (fun t =>
      t.time = s.time ∧ t.reg Reg.TIM_EVT = s.reg Reg.TIM_EVT ||| 8))

/-- PTP and SyncE, the choice of source, and the counter's outputs. Under the conditions on the state and operands that the Lean names, each
completes with the fields it names: PTP_FRAME, PTP_DELAY_REQ, ESMC_FRAME, PTP_ANNOUNCE_TIMEOUT, SOURCE_HOLDOFF_EXPIRY, BEACON_SOURCE_SWITCH,
HOLDOVER_LIMIT, AUTO_STEP, LAUNCH_COUNTER_CORRECT, PPS_OUT_PULSE. (R62, R66, R68, R69, R73, R77, R79, R61, R74, R104, R784, R67) -/
def Obligations.SourcesAndOutputs : Prop :=
  (
  ∀ (s : State) (p : Nat), s.replayed = false → p < 16 →
    (∀ rank utc leap, s.ptpOn p = true → Gives (.ptpFrame p (.announce rank utc leap)) s (fun t =>
      (t.ptpPort p).announced = true ∧ (t.ptpPort p).rank = rank ∧ t.time.ptpSlave = true ∧
      (t.time.ptpPort = p → t.reg Reg.TIM_LEAP = unsigned 32 ((utc : Int) - 19)))) ∧
    (∀ m, s.ptpOn p = true → Gives (.ptpFrame p (.sync m)) s (fun t =>
      (t.ptpPort p).t1 = s.fromTai m ∧ (t.ptpPort p).t2 = s.now64 ∧
      (s.time.ptpSlave = true → s.time.ptpPort = p → s.time.ptp.qual = true →
        t.time.ptp.ofs = (s.now64 : Int) - s.fromTai m - (s.ptpPort p).delay ∧
        (s.time.st = .locked → s.time.src = 2 → t.time.offset = t.time.ptp.ofs ∧ t.time.slew = -(t.time.ptp.ofs * 2 ^ 26))))) ∧
    (∀ m, s.ptpOn p = true → Gives (.ptpFrame p (.delayResp m)) s (fun t =>
      (t.ptpPort p).delay = (((s.ptpPort p).t2 - (s.ptpPort p).t1) + (s.fromTai m - (s.ptpPort p).t3)) / 2)) ∧
    (s.ptpOn p = true → s.time.ptpSlave = true → s.time.ptpPort = p → Gives .ptpDelayReq s (fun t =>
      (t.ptpPort p).t3 = s.now64 ∧ t.out = s.out ++ [.delayReq p])) ∧
    (∀ ql, s.ptpOn p = true → Gives (.esmcFrame p ql) s (fun t =>
      (t.ptpPort p).ql = ql ∧
      (s.time.ptpPort = p → t.time.synce = (s.time.ptpSlave && decide (ql ≤ s.regBits Reg.TIM_PTP_CFG 24 4))))) ∧
    Gives (.ptpAnnounceTimeout p) s (fun t => (t.ptpPort p).announced = false ∧ (t.ptpPort p).last = none)) ∧
  (
  ∀ s : State, s.replayed = false →
    (∀ i, s.time.st = .locked → (s.ranked.takeWhile (fun j => j != s.time.src)).find? (fun j => (s.srcSt j).qual && decide ((s.srcSt j).since + 16 * secondTc ≤ s.now)) = some i →
      Gives .sourceHoldoffExpiry s (fun t => t.time.st = .locked ∧ t.time.src = i ∧ t.time.offset = (s.srcSt i).ofs)) ∧
    (s.srcEnabled 3 = true → s.time.bcn1 = false → s.time.bcnLast + 4 * s.beaconTc ≤ s.now → Gives .beaconSourceSwitch s (fun t =>
      t.time.bcn1 = true ∧ t.time.bcnLast = s.now ∧ t.reg Reg.TIM_EVT = s.reg Reg.TIM_EVT ||| 0x20)) ∧
    (s.time.st = .holdover → s.regBits Reg.TIM_HOLD 32 16 < s.holdTe → Gives .holdoverLimit s (fun t =>
      t.time = { s.time with st := .lost } ∧ (s.start.dev = .serve → t.start.dev = .degraded))) ∧
    (∀ i, s.regBits Reg.TIM_CFG 1 1 = 1 → s.stepSrc = some i → Gives .autoStep s (fun t =>
      t.time.st = .locked ∧ t.time.src = i ∧ t.time.tc = (s.now64 - (s.srcSt i).ofs : Int).toNat / 64 ∧ t.time.offset = 0))) ∧
  (
  ∀ s : State,
    (s.time.correctedAt + 1024 ≤ s.now → Gives .launchCounterCorrect s (fun t =>
      t = { s with time := { s.time with drift := 0, correctedAt := s.now } })) ∧
    (∀ n : Nat, (s.time.st = .locked ∨ s.time.st = .holdover) →
      (s.now64 : Int) - 64 * s.frameOfs + sns64 (signed 16 (s.regBits Reg.TIM_PPS_CFG 16 16)) = second64 * n → s.time.ppsOutSec ≠ some n →
      Gives .ppsOutPulse s (fun t => t.out = s.out ++ [.pps n (s.todMsg (n + 1))] ∧ t.time = { s.time with ppsOutSec := some n })))

/-- A comparator matches. A comparator whose stamp lies ahead, or whose group is not committed, does nothing; one that matches launches its
command and goes free; a late one with LATE 2 ends its list LATE_LAUNCH. (R79, R82, R85, R91, R120) -/
def Obligations.ComparatorMatches : Prop :=
  ∀ (s : State) (pt idx : Nat) (k : Cmp), isCmp pt idx = true → s.cmp pt idx = some k →
    (s.localNow < stampTc k.stamp → Gives (.comparatorMatch pt idx) s (fun t => t = s)) ∧
    (∀ g, k.group = some g → ((s.group g).st = .arming ∨ (s.group g).st = .ready) → stampTc k.stamp ≤ s.localNow →
      Gives (.comparatorMatch pt idx) s (fun t => t = s)) ∧
    (∀ r c rest x, stampTc k.stamp ≤ s.localNow → (k.group = none ∨ ∃ g, k.group = some g ∧ (s.group g).st = .committed) →
      k.armed = false → k.waiting = false → s.run k.unit = some r → r.buf = c :: rest → s.ctx? r.list.ctx = some x →
      s.admits (x.cluster / 4) x = true → fenceUnmet s c k.unit = false → s.mcastUnmet c k.unit = false →
      Gives (.comparatorMatch pt idx) s (fun t => t.run k.unit = some { r with stage := afterLaunch c } ∧ t.cmp k.pt k.idx = none ∧
        ∀ g, k.group = some g → (t.group g).done = (s.group g).done + 1)) ∧
    (∀ r c rest x, stampTc k.stamp ≤ s.localNow → k.group = none → k.armed = false → k.waiting = false → k.late = 2 →
      s.run k.unit = some r → r.buf = c :: rest → s.ctx? r.list.ctx = some x → s.admits (x.cluster / 4) x = false →
      Gives (.comparatorMatch pt idx) s (fun t => t.run k.unit = some { r with ending := some 0x26, stage := .ready, out := [] } ∧
        t.cmp k.pt k.idx = none ∧ t.reg Reg.TIM_LATE_CNT = (s.reg Reg.TIM_LATE_CNT + 1) % 2 ^ 32))

/-- Launch groups, visible handles, bandwidth windows. Under the conditions on the state and operands that the Lean names, each completes
with the fields it names: COMMIT_POINT, GROUP_ORPHAN, GROUP_FREE, TIM_GRP_ABORT, HANDLE_VISIBLE, VISIBILITY_STAMP_DUE, BANDWIDTH_WINDOW.
(R90, R94, R97, R82, R35, R288, R91, R293, R289, R294) -/
def Obligations.GroupsAndHandles : Prop :=
  (
  ∀ (s : State) (g : Nat), g < 256 →
    ((s.group g).owner = true → ((s.group g).st = .arming ∨ (s.group g).st = .ready) → (s.group g).commitAt ≤ s.now →
      Gives (.commitPoint g) s (fun t => (t.group g).st = .aborted)) ∧
    ((s.group g).owner = false → ((s.group g).st = .arming ∨ (s.group g).st = .ready) → stampTc (s.group g).stamp ≤ s.now →
      Gives (.groupOrphan g) s (fun t => (t.group g).st = .orphaned)) ∧
    ((s.group g).st = .committed → (s.group g).count ≤ (s.group g).done → s.sched.cmps.any (fun c => c.group == some g) = false →
      ((s.group g).members.all (fun m => m.ready || m.gone) = true ∨ stampTc (s.group g).stamp + frameTc ≤ s.now) →
      Gives (.groupFree g) s (fun t => t = s.setGroup g {})) ∧
    (s.replayed = false → (s.group g).owner = true → ((s.group g).st = .arming ∨ (s.group g).st = .ready) →
      Gives (.timGrpAbort g) s (fun t => (t.group g).st = .aborted)) ∧
    (s.replayed = false → ((s.group g).owner = false ∨ (s.group g).st = .committed) →
      Gives (.timGrpAbort g) s (fun t => t.group g = s.group g))) ∧
  (
  ∀ (s : State) (ctx q : Nat) (x : Ctx) (h : Handle) (rest : List Handle), q < 8 → s.ctx? ctx = some x → x.id = ctx → x.hqueue q = h :: rest → h.visible = false →
    (h.visSet = false → Gives (.handleVisible ctx q) s (fun t => ∃ y, t.ctx? ctx = some y ∧ y.hqueue q = { h with visible := true } :: rest)) ∧
    (h.visSet = true → stampTc h.vis ≤ s.localNow → Gives (.visibilityStampDue ctx q) s (fun t =>
      ∃ y, t.ctx? ctx = some y ∧ y.hqueue q = { h with visible := true } :: rest)) ∧
    (h.visSet = true → s.localNow < stampTc h.vis → Gives (.handleVisible ctx q) s (fun t => t = s))) ∧
  (
  ∀ s : State, Gives .bandwidthWindow s (fun t => t = { s with sched := { s.sched with band := [] } } ∧
    ∀ g, t.sched.band.get {} g = { rd := 0, wr := 0, rm := 0, rdFull := false, wrFull := false, rmFull := false }))

/-- Window boundaries, hard stops, grains. Under the conditions on the state and operands that the Lean names, each completes with the
fields it names: WINDOW_BOUNDARY, HARD_STOP, GRAIN_START, GRAIN_OVERRUN, RADIO_OVERRUN_END. (R118, R126, R125, R129, R121, R763) -/
def Obligations.WindowsAndGrains : Prop :=
  (∀ (s : State) (g : Nat), g < 12 → s.cycCount g ≠ 0 → (s.region g).opened ≠ s.openedAt g s.localNow →
    Gives (.windowBoundary g) s (fun t => (t.region g).entry = (s.entryAt g s.localNow).getD (s.entryBefore g s.localNow) ∧
      (t.region g).gap = (s.entryAt g s.localNow).isNone ∧ (t.region g).cls = (s.inForce g s.localNow).1 ∧
      (t.region g).owner = (s.inForce g s.localNow).2 ∧ (t.region g).opened = s.openedAt g s.localNow)) ∧
  (∀ (s : State) (g c : Nat), g < 12 → s.nextClose g s.localNow = some c → hardStopOf c ≤ s.localNow → (s.region g).stopped ≠ c →
    Gives (.hardStop g) s (fun t => (t.region g).stopped = c ∧ (∀ u, s.busyUnits g false = [u] → s.health.quar = [] → s.inf.models = [] → t.run u = none))) ∧
  (∀ (s : State) (u : Nat) (x : Ctx) (l : ListRec), isUnit u = true → s.nextGrain u = some (x, l) → s.ctx? x.id = some x →
    (s.fits x l u = true → Gives (.grainStart u) s (fun t => ∃ r, t.run u = some r ∧ r.list = l ∧ r.idx = 0 ∧ r.start = s.now ∧
      r.scaled = s.scaledOf x l u ∧ r.ending = none)) ∧
    (x.cluster < 48 → s.fits x l u = false → Gives (.grainStart u) s (fun t =>
      t.reg (Reg.CYC_DEFER_CNT (x.cluster / 4)) = (s.reg (Reg.CYC_DEFER_CNT (x.cluster / 4)) + 1) % 2 ^ 32 ∧ t.run u = s.run u))) ∧
  (∀ (s : State) (u : Nat) (r : Running) (x : Ctx), isUnit u = true → s.run u = some r → s.ctx? r.list.ctx = some x → x.radio = false →
    x.cluster < 48 → r.overran = false → r.start + r.scaled < s.now → Gives (.grainOverrun u) s (fun t =>
      t.run u = some { r with overran := true } ∧
      t.reg (Reg.CYC_OVR_CNT (x.cluster / 4)) = (s.reg (Reg.CYC_OVR_CNT (x.cluster / 4)) + 1) % 2 ^ 32 ∧
      t.reg (Reg.CYC_EVT (x.cluster / 4)) = s.reg (Reg.CYC_EVT (x.cluster / 4)) ||| 2)) ∧
  (∀ (s : State) (g c : Nat), g < 12 → (s.region g).overrun = some c → s.busyUnits g true = [] →
    Gives (.radioOverrunEnd g) s (fun t => (t.region g).overrun = none))

/-- Evictions and swaps of contexts. Under the conditions on the state and operands that the Lean names, each completes with the fields it
names: EVICTION, SWAP_START, SWAP_COMPLETE. (R140, R142, R143, R144, R139) -/
def Obligations.EvictionsAndSwaps : Prop :=
  ∀ (s : State) (c : Nat), c < 48 →
    (∀ v i, (s.cluster c).swap = none → (s.cluster c).deferred = none → s.chooseIn c none = none → s.victim c = some v →
      s.chooseIn c (some v.id) = some i → Gives (.eviction c) s (fun t =>
        (t.cluster c).deferred = some { out := some v.id, inn := some i } ∧
        t.reg (Reg.CLU_EVICT_CNT c) = (s.reg (Reg.CLU_EVICT_CNT c) + 1) % 2 ^ 32)) ∧
    (∀ w o x, (s.cluster c).swap = none → s.swapDue c = some w → s.swapStands w = true → s.swapFits w c = true → s.unitIn (uMov c) = true →
      s.run (uMov c) = none → w.out = some o → s.ctx? o = some x → x.id = o → Gives (.swapStart c) s (fun t =>
        t.ctx? o = some { x with st := .swapOut } ∧ t.cluster c = { deferred := none, swap := some { w with byHub := false } })) ∧
    (∀ w i x, (s.cluster c).swap = none → s.swapDue c = some w → s.swapStands w = true → s.swapFits w c = true → s.unitIn (uMov c) = true →
      s.run (uMov c) = none → w.out = none → w.inn = some i → s.ctx? i = some x → x.id = i → (s.freeSlot c false none).isSome = true →
      (s.poolFit c x.footprint none).isSome = true → Gives (.swapStart c) s (fun t =>
        (∃ y, t.ctx? i = some y ∧ y.st = .swapIn ∧ y.cluster = c ∧ some y.slot = s.freeSlot c false none ∧ some y.poolBase = s.poolFit c x.footprint none) ∧
        t.cluster c = { deferred := none, swap := some { w with byHub := false } })) ∧
    (∀ w, (s.cluster c).swap = none → s.swapDue c = some w → s.swapStands w = true → s.swapFits w c = false → w.flagged = false →
      Gives (.swapStart c) s (fun t => (t.cluster c).deferred = some { w with flagged := true } ∧ (t.cluster c).swap = none ∧
        t.reg (Reg.CYC_EVT (c / 4)) = s.reg (Reg.CYC_EVT (c / 4)) ||| 0x10)) ∧
    (∀ w o x, (s.cluster c).swap = some w → w.out = some o → w.inn = none → s.ctx? o = some x → x.id = o → x.ending = false → x.pausing = false →
      s.fab.inq = [] → ((s.array (2 * x.cluster)).tag ≠ some o ∧ (s.array (2 * x.cluster + 1)).tag ≠ some o) →
      Gives (.swapComplete c) s (fun t => (t.cluster c).swap = none ∧
        (∃ y, t.ctx? o = some y ∧ (y.st = .swappedBlocked ∨ y.st = .swappedReady)) ∧
        t.mem = s.mem.copy (poolAt x.cluster (x.poolBase * 65536)) (saveAt o 0) (x.footprint * 65536))) ∧
    (∀ w i x, (s.cluster c).swap = some w → w.out = none → w.inn = some i → s.ctx? i = some x → x.id = i → x.ending = false → x.saved0 = none → x.saved1 = none →
      s.fab.inq = [] → x.cluster < 48 → Gives (.swapComplete c) s (fun t => (t.cluster c).swap = none ∧
        (∃ y, t.ctx? i = some y ∧ (y.st = .blocked ∨ y.st = .ready ∨ y.st = .running)) ∧
        t.mem = s.mem.copy (saveAt i 0) (poolAt x.cluster (x.poolBase * 65536)) (x.footprint * 65536) ∧
        t.reg (Reg.CLU_SWAPIN_CNT x.cluster) = (s.reg (Reg.CLU_SWAPIN_CNT x.cluster) + 1) % 2 ^ 32))

/-- Command lists start and end, contexts end. Under the conditions on the state and operands that the Lean names, each completes with the
fields it names: LIST_START, LIST_END, LIST_HDR, CONTEXT_END. (R250, R598, R253, R282, R252, R609, R254, R788, R787, R674, R256, R392) -/
def Obligations.ListsStartAndEnd : Prop :=
  (∀ (s : State) (ctx cls : Nat) (x : Ctx) (l : ListRec) (u : Nat), cls < 6 → s.ctx? ctx = some x → x.id = ctx → (x.radio = false ∨ cls = 0) →
    (x.queue.filter (fun k => k.cls == cls)).find? (fun k => s.unitRefused x cls k.unit) = none →
    (x.queue.filter (fun k => k.cls == cls)).find? (fun k => s.mayRun x k && (s.unitFor x k).isSome) = some l → s.unitFor x l = some u →
    s.fits x l u = true → Gives (.listStart ctx cls) s (fun t => ∃ r, t.run u = some r ∧ r.list = l ∧ r.idx = 0 ∧ r.start = s.now ∧ r.ending = none)) ∧
  (∀ (s : State) (ctx cls : Nat) (x : Ctx) (l : ListRec), cls < 6 → s.ctx? ctx = some x → x.id = ctx → x.resident = true → s.inf.models = [] →
    (x.queue.filter (fun k => k.cls == cls)).find? (fun k => s.unitRefused x cls k.unit) = some l →
    Gives (.listStart ctx cls) s (fun t => ∃ y, t.ctx? ctx = some y ∧ y.queue = x.queue.filter (fun k => k.seq != l.seq))) ∧
  (∀ (s : State) (u : Nat) (r : Running) (code f q slot gen ord : Nat), isUnit u = true → s.run u = some r → r.ending = some code →
    s.inf.models = [] → s.health.quar = [] → Gives (.listEnd u) s (fun t => t.run u = none ∧
      (r.list.report = .cq f q slot gen ord → r.list.own = false → r.list.lateCnt = 0 → s.qpOn f q = true →
        (t.qp f q).store = (s.qp f q).store ++
          [{ code := code, kind := 1, slot := slot, ref := r.list.id, gen := gen, ord := ord, aux := r.list.ctx,
             detail := BitVec.ofNat 128 (r.detail.toNat + (if code = 0 then r.list.count - 1 else r.idx) * 2 ^ 96) }]))) ∧
  (∀ (s : State) (u : Nat) (r : Running) (c : Cmd) (rest : List Cmd) (x : Ctx), isUnit u = true → s.run u = some r → r.idx = 0 → r.ending = none →
    r.buf = c :: rest → s.ctx? r.list.ctx = some x →
    (headerOk c = true → 2 ≤ r.list.count → Gives (.listHdr u) s (fun t => ∃ k, t.run u = some k ∧ k.idx = 1 ∧ k.list = r.list)) ∧
    (headerOk c = false → Gives (.listHdr u) s (fun t => t.run u = some { r with ending := some 0x60, stage := .ready, out := [] }))) ∧
  (∀ (s : State) (ctx : Nat) (x : Ctx), s.ctx? ctx = some x → x.id = ctx →
    (s.mayEnd x = true → Gives (.contextEnd ctx) s (fun t => t.ctx? ctx = none)) ∧
    (s.mayEnd x = false → Gives (.contextEnd ctx) s (fun t => t = s)))

/-- Handles taken and released, service commands acknowledged. Under the conditions on the state and operands that the Lean names, each
completes with the fields it names: HANDLE_WAIT_MET, HANDLE_RELEASE, SERVICE_ACK. (R287, R288, R258) -/
def Obligations.HandlesAndAcks : Prop :=
  ∀ (s : State) (u : Nat) (r : Running), isUnit u = true → s.run u = some r → r.ending = none →
    (∀ c rest x h l, r.buf = c :: rest → s.ctx? r.list.ctx = some x → x.id = r.list.ctx → r.stage = .onHandle → x.hqueue (cWaitq c) = h :: l → h.visible = true →
      (s.waiters x.id (cWaitq c)).any (fun v => decide (v < u)) = false → s.fab.inq = [] → Gives (.handleWaitMet u) s (fun t =>
        t.run u = some { r with taken := some h, handles := r.handles ++ [(cWaitq c, h)], stage := if cFence c then .onFence else .ready } ∧
        ∃ y, t.ctx? r.list.ctx = some y ∧ y.hqueue (cWaitq c) = l)) ∧
    (∀ ctx q h k rest x, r.out = (ctx, q, h) :: k :: rest → s.ctx? ctx = some x → x.id = ctx → x.st ≠ .swapOut → x.st ≠ .swapIn →
      (x.hqueue q).length < 32 → Gives (.handleRelease u) s (fun t => t.run u = some { r with out := k :: rest } ∧
        ∃ y, t.ctx? ctx = some y ∧ y.hqueue q = x.hqueue q ++ [{ h with visible := false }])) ∧
    (∀ ctx q h rest x, r.out = (ctx, q, h) :: rest → s.ctx? ctx = some x → (x.st = .swapOut ∨ x.st = .swapIn ∨ 32 ≤ (x.hqueue q).length) →
      Gives (.handleRelease u) s (fun t => t = s)) ∧
    (∀ x, s.ctx? r.list.ctx = some x → r.stage = .onService → s.sched.joins.any (fun j => j.2.unit == some u) = false → r.idx + 1 < r.list.count →
      Gives (.serviceAck u) s (fun t => ∃ k, t.run u = some k ∧ k.idx = r.idx + 1 ∧ k.list = r.list)) ∧
    (r.stage = .onService → s.sched.joins.any (fun j => j.2.unit == some u) = false → r.list.count ≤ r.idx + 1 →
      Gives (.serviceAck u) s (fun t => t.run u = some { r with ending := some 0, stage := .ready, buf := [] }))

/-- How service commands are taken, and the general ones. Under the conditions on the state and operands that the Lean names, each completes
with the fields it names: NOP, NOTIFY, CANCEL, HANDLE_PUT; with them, when a service command of a unit or of a submission queue is taken,
and what its end leaves. (R592, R282, R291, R58, R597, R292, R86, R598, R261, R288, R788) -/
def Obligations.ServiceCommands : Prop :=
  (
  (∀ (s : State) (u op k : Nat) (r : Running) (c : Cmd) (x : Ctx), s.cur u op = some (r, c, x) → (0x10000 ≤ u ∨ s.sched.service.length < 1024) →
    s.svc (.unit u) op k = some { cmd := c, ctx := some x, fn := if x.radio then pf0 else x.owner, rep := r.list.report, code := 0, st := s }) ∧
  (∀ (s : State) (fn q op k : Nat) (c : Cmd) (rest : List Cmd) (x : Ctx), (s.qp fn q).sq = c :: rest → cOp c = op → s.subReady fn q = true →
    s.health.role ≠ .expelled → s.subOk fn q c = true → k ≠ 0 → s.ctx? (cmdField c k 2) = some x → (fn = pf0 ∨ (x.radio = false ∧ x.owner = fn)) → x.ending = false →
    ∃ v, s.svc (.host fn q) op k = some v ∧ v.cmd = c ∧ v.ctx = some x ∧ v.code = 0 ∧ (v.st.qp fn q).sq = rest ∧
      (v.st.qp fn q).sqHead = ((s.qp fn q).sqHead + 1) % ((s.qp fn q).sqSize + 1) ∧
      v.rep = .cq fn q (s.qp fn q).sqHead (s.fn fn).gen (s.qp fn q).accepted) ∧
  (∀ (s : State) (u : Nat) (r : Running) (rep : Report) (code : Nat) (d : BitVec 128), s.run u = some r → r.ending = none →
    (code ≠ 0 → (s.svcEnd (.unit u) rep code d).run u = some { r with ending := some code, stage := .ready, out := [] }) ∧
    (u < 0x10000 → (s.svcEnd (.unit u) rep 0 d).run u = some { r with stage := .onService } ∧
      (s.svcEnd (.unit u) rep 0 d).sched.service = s.sched.service ++ [u])) ∧
  (∀ (s : State) (f q slot gen ord code : Nat) (d : BitVec 128), (s.qp f q).sq = [] → s.qpOn f q = true →
    ((s.svcEnd (.host f q) (.cq f q slot gen ord) code d).qp f q).store = (s.qp f q).store ++
      [{ code := code, kind := 0, slot := slot, ref := 0, detail := d, gen := gen, ord := ord }])) ∧
  (
  ∀ (s : State) (o : Origin) (v : Svc), v.code = 0 →
    (s.svc o 0x00 0 = some v → Gives (.nop o) s (fun t => t = v.st.svcEnd o v.rep 0 0)) ∧
    (∀ u r f q slot gen ord, o = .unit u → s.svc o 0x05 0 = some v → s.run u = some r → r.list.own = false → v.rep = .cq f q slot gen ord →
      Gives (.notify o) s (fun t => t = (v.st.post f q
        { code := 0, kind := 3, slot := 0xFFFF, ref := r.list.id, detail := BitVec.ofNat 128 (cmdField v.cmd 16 8), gen := gen, ord := ord,
          aux := r.list.ctx + r.idx * 2 ^ 16 }).svcEnd o v.rep 0 0)) ∧
    (∀ x, s.svc o 0x06 56 = some v → v.ctx = some x →
      (v.st.liveList x.id (BitVec.ofNat 64 (cmdField v.cmd 16 8)) = true → Gives (.cancel o) s (fun t =>
        t = (v.st.cancelList x.id (BitVec.ofNat 64 (cmdField v.cmd 16 8))).reapSteps.svcEnd o v.rep 0 0)) ∧
      (v.st.liveList x.id (BitVec.ofNat 64 (cmdField v.cmd 16 8)) = false → Gives (.cancel o) s (fun t => t = v.st.svcEnd o v.rep 0x66 0))) ∧
    (∀ x y h, s.svc o 0x07 56 = some v → v.ctx = some x → parseHandle (leBytes 32 (cmdField v.cmd 16 32)) = some h → v.st.dctxOk x (cDctx v.cmd) = true →
      (h.visSet = true → stampOk h.vis = true ∧ v.st.time.st ≠ .freerun) →
      v.st.ctx? (if cDctx v.cmd = 0xFFFF then x.id else cDctx v.cmd) = some y → y.st ≠ .swapOut → y.st ≠ .swapIn → (y.hqueue (cRelq v.cmd)).length < 32 →
      Gives (.handlePut o) s (fun t =>
        t = (v.st.setCtx (y.setHqueue (cRelq v.cmd) (y.hqueue (cRelq v.cmd) ++ [{ h with visible := false }]))).svcEnd o v.rep 0 0)))

/-- Armed lists and launch groups. Under the conditions on the state and operands that the Lean names, each completes with the fields it
names: ARM, GROUP_CREATE, GROUP_JOIN. (R83, R58, R94, R262, R86, R282, R89) -/
def Obligations.ArmsAndGroups : Prop :=
  (∀ (s : State) (o : Origin) (v : Svc) (x : Ctx), v.code = 0 → v.ctx = some x →
    (∀ y l a b, s.svc o 0x02 56 = some v → v.st.ctx? (cmdField v.cmd 24 2) = some y → armOk x y = true →
      v.st.admitList y (cmdField v.cmd 16 8) v.rep false = (0, some l, a) → l.cls = cmdField v.cmd 26 1 → l.unit = cmdField v.cmd 27 1 →
      a.armList y l v.cmd = b → Gives (.arm o) s (fun t => t = b.2.svcEnd o v.rep b.1 0)) ∧
    (∀ n sp rd nodes, s.svc o 0x03 56 = some v → n = cmdField v.cmd 22 1 → v.st.poolChk x (cmdField v.cmd 24 4) (2 * n) = 0 →
      sp = (if n = 0 then [] else [(v.st.poolAddr x (cmdField v.cmd 24 4), 2 * n)]) → v.st.readSpans sp x.asOwner = (false, rd) →
      nodes = (List.range n).map (fun i => byteField (rd.rdSpans sp) (2 * i) 2) → stampOk (cWord1 v.cmd) = true → rd.time.st ≠ .freerun →
      rd.groupFree (cGidx v.cmd) = true → cmdField v.cmd 20 2 ≤ 432 → nodes.contains (rd.self % 4096) = false → nodes.Nodup →
      Gives (.groupCreate o) s (fun t => t = (rd.setGroup (cGidx v.cmd)
        { st := .arming, owner := true, stamp := cWord1 v.cmd, lead := cmdField v.cmd 16 4, count := cmdField v.cmd 20 2, ctx := x.id,
          members := nodes.map (fun a => { idx := 0, node := a, joined := false, ready := false, gone := false }) }).svcEnd o v.rep 0 0)) ∧
    (s.svc o 0x04 56 = some v → v.st.groupFree (cGidx v.cmd) = true → cmdField v.cmd 20 2 ≤ 432 →
      (v.st.planeFor (cmdField v.cmd 16 2 + v.st.self / 4096 * 4096) 0).isSome = true → Gives (.groupJoin o) s (fun t =>
        ∃ j, t.sched.joins.find (cGidx v.cmd) = some j ∧ j.node = cmdField v.cmd 16 2 + v.st.self / 4096 * 4096 ∧ j.idx = cmdField v.cmd 18 1 ∧
          j.count = cmdField v.cmd 20 2 ∧ j.ctx = x.id ∧ j.report = v.rep))) ∧
  (∀ (s : State) (y : Ctx) (l : ListRec) (c : Cmd) (i : Nat), s.stampChk (cWord1 c) = 0 → cGroup c = false → y.resident = true →
    s.freeCmp (if l.cls = 4 then 48 + y.cluster / 4 else y.cluster) = some i →
    (s.armList y l c).1 = 0 ∧ (s.armList y l c).2.sched.armed = s.sched.armed ++ [l] ∧
    ∃ k, (s.armList y l c).2.sched.cmps = s.sched.cmps ++ [k] ∧ k.idx = i ∧ k.stamp = cWord1 c ∧ k.ctx = y.id ∧ k.list = l.id ∧ k.armed = true ∧
      k.late = cLate c ∧ k.waiting = decide (stampTc (cWord1 c) ≤ s.localNow))

/-- Placement directives. Under the conditions on the state and operands that the Lean names, each completes with the fields it names:
PLACE, PROMOTE, EVICT, PIN, UNPIN. (R495) -/
def Obligations.PageDirectives : Prop :=
  (∀ (s : State) (o : Origin) (v : Svc) (x : Ctx) (code : Nat) (a : State), v.code = 0 → v.ctx = some x →
    (∀ op, v.st.directive op (cmdField v.cmd 16 8) (cmdField v.cmd 24 4) (cmdField v.cmd 28 1) (cmdField v.cmd 29 1) (cmdField v.cmd 30 1 == 1)
        x.asOwner x.id (x.cluster / 4) = (code, a) →
      (op = dPlace → s.svc o 0x08 56 = some v → Gives (.place o) s (fun t => t = a.svcEnd o v.rep code 0)) ∧
      (op = dPromote → s.svc o 0x09 56 = some v → Gives (.promote o) s (fun t => t = a.svcEnd o v.rep code 0)) ∧
      (op = dEvict → s.svc o 0x0A 56 = some v → Gives (.evict o) s (fun t => t = a.svcEnd o v.rep code 0)) ∧
      (op = dPin → s.svc o 0x0B 56 = some v → Gives (.pin o) s (fun t => t = a.svcEnd o v.rep code 0)) ∧
      (op = dUnpin → s.svc o 0x0C 56 = some v → Gives (.unpin o) s (fun t => t = a.svcEnd o v.rep code 0)))) ∧
  (∀ (s : State) (p tier die tenant ctx region : Nat), p < 2 ^ 23 → tier = 1 ∨ tier = 2 → (s.page p).moving = false → (s.page p).large = false →
    (∀ d f, s.page p = {} → s.fitsQuota tenant 1 (if tier = 1 then 1 else 0) = true → s.fitsQuota tenant 2 (if tier = 2 then 1 else 0) = true →
      s.dieWith tier 1 false (if die ≠ 0xFF then die else region / 3) (die != 0xFF) = some d → s.pickFrame tier d false = some f →
      (s.directive dPlace (p * 65536) 1 tier die false tenant ctx region).1 = 0 ∧
      (s.directive dPlace (p * 65536) 1 tier die false tenant ctx region).2.page p = { tier := tier, die := d, frame := f, moving := true, owner := tenant } ∧
      (s.directive dPlace (p * 65536) 1 tier die false tenant ctx region).2.mem = s.mem.clear (frameAt tier d f 0) 65536) ∧
    ((s.page p).tier ≠ 0 → (s.page p).shared = false → (s.page p).owner = tenant → s.fitsQuota tenant 1 0 = true → s.fitsQuota tenant 2 0 = true →
      ((s.page p).pinned = false → (s.directive dPin (p * 65536) 1 tier die false tenant ctx region).1 = 0 ∧
        (s.directive dPin (p * 65536) 1 tier die false tenant ctx region).2 = s.setPage p { s.page p with pinned := true }) ∧
      ((s.page p).pinned = true → (s.directive dUnpin (p * 65536) 1 tier die false tenant ctx region).1 = 0 ∧
        (s.directive dUnpin (p * 65536) 1 tier die false tenant ctx region).2 = s.setPage p { s.page p with pinned := false }) ∧
      ((s.page p).pinned = true → (s.directive dEvict (p * 65536) 1 tier die false tenant ctx region) = (0xA6, s)) ∧
      ((s.page p).pinned = false → (s.directive dEvict (p * 65536) 1 2 die false tenant ctx region).1 = 0 ∧
        (s.directive dEvict (p * 65536) 1 2 die false tenant ctx region).2.page p = {}) ∧
      ((s.page p).pinned = false → (s.page p).tier = tier → (s.page p).die = die → die < 4 → (s.directive dPromote (p * 65536) 1 tier die false tenant ctx region) =
        (0, s.count Reg.MEM_NOOP_CNT 1))))

/-- Contexts are created and ended. Under the conditions on the state and operands that the Lean names, each completes with the fields it
names: CTX_CREATE, CTX_END; with what the creation of a context gives it. (R136, R282, R137, R565, R283) -/
def Obligations.ContextsMadeAndEnded : Prop :=
  (∀ (s : State) (o : Origin) (v : Svc) (a : State) (code id : Nat), v.code = 0 → s.svc o 0x0D 0 = some v →
    v.st.createCtx v.fn (cmdField v.cmd 16 2) (if cmdField v.cmd 18 1 = 0xFF then none else some (cmdField v.cmd 18 1)) none (cmdField v.cmd 19 1) none = (code, id, a) →
    Gives (.ctxCreate o) s (fun t => t = a.svcEnd o v.rep code (BitVec.ofNat 128 (if code = 0 then id else 0)))) ∧
  (∀ (s : State) (o : Origin) (v : Svc) (x : Ctx), v.code = 0 → s.svc o 0x0E 16 = some v → v.ctx = some x →
    Gives (.ctxEnd o) s (fun t => t.ctx? x.id = some { x with ending := true })) ∧
  (∀ (s : State) (n c need : Nat), s.fitsQuota n 2 (saveUnits c) = true →
    (∀ k, s.tenantRes n none < s.maxRes n →
      (List.range 48).find? (fun k => s.freeFor { newCtx s.newCtxId false n with footprint := c, need := need, gen := (s.fn n).gen } k none) = some k →
      (s.createCtx n c none none need none).1 = 0 ∧ (s.createCtx n c none none need none).2.1 = s.newCtxId ∧
      ∃ y, (s.createCtx n c none none need none).2.2.ctx? s.newCtxId = some y ∧ y.owner = n ∧ y.footprint = c ∧ y.cluster = k ∧ y.resident = true) ∧
    (s.maxRes n ≤ s.tenantRes n none → s.swappedCount < 4096 → s.tenantSwap n < s.maxSwap n →
      (s.createCtx n c none none need none).1 = 0 ∧ ∃ y, (s.createCtx n c none none need none).2.2.ctx? s.newCtxId = some y ∧ y.resident = false) ∧
    (s.maxRes n ≤ s.tenantRes n none → s.maxSwap n ≤ s.tenantSwap n →
      s.createCtx n c none none need none = (0x31, 0, s.count Reg.CLU_REFUSE_CNT 1)))

/-- Reads and stores of operands, activation blocks. Under the conditions on the state and operands that the Lean names, each completes with
the fields it names: LOAD, SPILL, RESTORE, WEIGHT_FENCE_MET; with what a read of operands and a store of a result do. (R174, R178, R166,
R176, R266, R290, R213, R787) -/
def Obligations.BlocksLoadAndSpill : Prop :=
  (
  (∀ (s : State) (x : Ctx) (l : List (Nat × Nat)), s.tiers.weak = [] → s.tiers.bad = [] → s.tiers.poison = [] →
    (s.readChk x l = 0 → (s.fetch x l).1 = 0 ∧ (s.fetch x l).2.1 = s.rdSpans (s.readSp x l) ∧ (s.fetch x l).2.2.mem = s.mem) ∧
    (s.readChk x l ≠ 0 → s.fetch x l = (s.readChk x l, [], s))) ∧
  (∀ (s : State) (x : Ctx) (c : Cmd) (o : Nat) (b : List Byte), s.tiers.migs = [] → cDctx c = 0xFFFF →
    (s.outStore x c o b).mem = s.mem.wrBytes (s.poolAddr x o) b) ∧
  (∀ (s : State) (x y : Ctx) (c : Cmd) (o : Nat) (b : List Byte), s.tiers.migs = [] → cDctx c ≠ 0xFFFF →
    (s.ctx? (cDctx c) = none → s.outStore x c o b = s) ∧
    (s.ctx? (cDctx c) = some y → (s.outStore x c o b).mem = s.mem.wrBytes (s.poolAddr y o) b)) ∧
  (∀ (m : Mem) (a b : Nat) (l : List Byte), (b < a ∨ a + l.length ≤ b → (m.wrBytes a l).rd b = m.rd b) ∧
    (∀ i v, l[i]? = some v → (m.wrBytes a l).rd (a + i) = v))) ∧
  (
  ∀ (s : State) (a : Nat) (r : Running) (c : Cmd) (x : Ctx), a < 96 →
    (∀ n kbf b u, s.cur (uIbex a) 0x20 = some (r, c, x) → n = cmdField c 20 2 → kbf = bit c (8 * 22 + 1) → primary r c 16 % 256 = 0 →
      s.fetch x [(poolRef (primary r c 16), 256 * n), (poolRef (primary r c 16 + 0x10000), if kbf then n else 0)] = (0, b, u) →
      Gives (.load a) s (fun t =>
        t.mem = ((u.mem.clear (cellAt a 0 0) 0x10100).wrBytes (cellAt a 0 0) (b.take (256 * n))).wrBytes (cellExpAt a 0) (b.drop (256 * n)) ∧
        (t.array a).fmt = { n := n, isSigned := kbf || bit c (8 * 22), kbf := kbf } ∧ (t.array a).tag = (if x.radio then none else some x.id) ∧
        (t.array a).loaded = some n)) ∧
    (s.cur (uIbex a) 0x20 = some (r, c, x) → primary r c 16 % 256 ≠ 0 → Gives (.load a) s (fun t =>
      t.run (uIbex a) = some { r with ending := some 0x42, stage := .ready, out := [] } ∧ t.mem = s.mem)) ∧
    (s.cur (uIbex a) 0x22 = some (r, c, x) → s.outChk x c (cmdField c 16 4) 65536 = 0 → s.outHeld x c = false → Gives (.spill a) s (fun t =>
      t.mem = (s.outStore x c (cmdField c 16 4) (s.mem.rdBytes (cellAt a 0 0) 65536)).mem ∧ (t.array a).loaded = none)) ∧
    (∀ b u, s.cur (uIbex a) 0x23 = some (r, c, x) → primary r c 16 % 256 = 0 → s.fetch x [(poolRef (primary r c 16), 65536)] = (0, b, u) →
      Gives (.restore a) s (fun t => t.mem = u.mem.wrBytes (cellAt a 0 0) b ∧ (t.array a).tag = (if x.radio then none else some x.id) ∧
        (t.array a).fmt = (s.array a).fmt)) ∧
    (∀ rest, s.run (uIbex a) = some r → r.buf = c :: rest → cOp c = 0x21 → cFence c = true → r.ending = none → r.idx ≠ 0 → (s.array a).stream = none →
      Gives (.weightFenceMet a) s (fun t => (t.array a).fifo = min (streamLen c) 16384 ∧
        (r.stage = .onFence → t.run (uIbex a) = some { r with stage := .ready }))))

/-- Weight streams, their rows and the checksum column. Under the conditions on the state and operands that the Lean names, each completes
with the fields it names: STREAM, IBX_FREEZE, IBX_OUTPUT_ROW, CHECKSUM_COMPARE, IBX_CS_ACK. (R158, R167, R172, R187, R191, R171, R169, R261,
R190, R267, R276, R269) -/
def Obligations.StreamsAndChecksums : Prop :=
  (
  ∀ (s : State) (a : Nat) (r : Running) (c : Cmd) (x : Ctx), a < 96 →
    (s.cur (uIbex a) 0x21 = some (r, c, x) → ctlMcast c = 0 → s.streamChk r x c = 0 → Gives (.stream a) s (fun t =>
      t.run (uIbex a) = some { r with stage := .busy } ∧ (t.array a).act = 2 ∧
      (t.array a).stream = some { cmd := c, addin := primary r c 32, total := s.rowsOf x c } ∧ (t.array a).planeAt = some s.now)) ∧
    (s.cur (uIbex a) 0x21 = some (r, c, x) → ctlMcast c = 0 → s.streamChk r x c ≠ 0 → Gives (.stream a) s (fun t =>
      t.run (uIbex a) = some { r with ending := some (s.streamChk r x c), stage := .ready, out := [] })) ∧
    (∀ b, s.cur (uIbex a) 0x21 = some (r, c, x) → a ∈ members a c → b ∈ members a c → s.cur (uIbex b) 0x21 = none →
      Gives (.stream a) s (fun t => t = s)) ∧
    Gives (.ibxFreeze a) s (fun t => ∀ b ∈ s.streamMates a, (t.array b).frozen = true) ∧
    (∀ st st' n u v b w, s.curBusy (uIbex a) 0x21 = some (r, c, x) → (s.array a).stream = some st → r.out = [] → s.outHeld x c = false →
      (ctlOfmt c = 4 → (s.array a).rows.length < 8) → (st.left ≠ 0 ∨ st.ofs ≠ streamLen c ∨ st.row = 0) → s.openGroup x st = some st' →
      n = rowBytes st'.kind st'.p → st'.ofs + n ≤ streamLen c →
      s.readSpans (s.readSp x [(streamRef c + st.ofs, st'.ofs - st.ofs + n)]) x.asOwner = (false, u) → b = u.streamRd x c st'.ofs n →
      w = { kind := st'.kind, p := st'.p, side := if st'.kind = 2 then byteField b 0 8 else 0, planes := if st'.kind = 2 then b.drop 8 else b } →
      (st'.kind = 2 → sideOk st'.p w.side = true) →
      (u.fetch x [(poolRef (st.addin + 1536 * st.row), if ctlAdd c then 6 * ctlN c else 0),
        (poolRef (cmdField c 36 4 + 2 * st.row), if ctlQ c then 2 else 0)]).1 = 0 →
      v = (u.fetch x [(poolRef (st.addin + 1536 * st.row), if ctlAdd c then 6 * ctlN c else 0),
        (poolRef (cmdField c 36 4 + 2 * st.row), if ctlQ c then 2 else 0)]).2.2 →
      Gives (.ibxOutputRow a) s (fun t => t.mem = (v.storeRow a x st' w).mem ∧
        ∃ f, (t.array a).unchecked = ((v.storeRow a x st' w).array a).unchecked ++ [f] ∧ f.o = st'.row ∧ f.p = st'.p ∧ f.kind = st'.kind)) ∧
    (∀ st, s.curBusy (uIbex a) 0x21 = some (r, c, x) → (s.array a).stream = some st → r.out = [] → s.outHeld x c = false →
      (ctlOfmt c = 4 → (s.array a).rows.length < 8) → (st.left ≠ 0 ∨ st.ofs ≠ streamLen c ∨ st.row = 0) → s.openGroup x st = none →
      Gives (.ibxOutputRow a) s (fun t => (t.array a).stream = none ∧ t.run (uIbex a) = some { r with ending := some 0x41, stage := .ready, out := [] }))) ∧
  (
  (∀ (s : State) (a : Nat) (f : FedRow) (rest : List FedRow), a < 96 → (s.array a).unchecked = f :: rest →
    Gives (.checksumCompare a 0) s (fun t => (t.array a).unchecked = rest ∧ t.mem = s.mem) ∧
    (∀ d : Int, d ≠ 0 → f.stop = false → Gives (.checksumCompare a d) s (fun t =>
      (t.array a).unchecked = rest ∧ (t.array a).lastBad = some (f.list, f.ctx, f.o + 1) ∧
      t.mat.csLog.find (512 * (a / 8) + s.reg (Reg.IBX_CS_HEAD (a / 8))) =
        some (s.csumEntry a f d ((s.array a).lastBad == some (f.list, f.ctx, f.o)))))) ∧
  (∀ (s : State) (g n : Nat), g < 12 → s.replayed = false → Gives (.ibxCsAck g n) s (fun t =>
    t.reg (Reg.IBX_CS_TAIL g) = (s.reg (Reg.IBX_CS_TAIL g) + min (n % 2 ^ 10) (s.reg (Reg.IBX_CS_COUNT g))) % 512 ∧
    t.reg (Reg.IBX_CS_COUNT g) = s.reg (Reg.IBX_CS_COUNT g) - min (n % 2 ^ 10) (s.reg (Reg.IBX_CS_COUNT g)))))

/-- Vector commands. Under the conditions on the state and operands that the Lean names, each completes with the fields it names: VMAP,
VBIN, VREDUCE, VSOFTMAX, VNORM, VCONVERT, VSAMPLE over memory and over an array's rows, VNOP; a command whose check fails ends its list with
the check's status. (R271, R238, R265, R272, R273, R275) -/
def Obligations.VectorCommands : Prop :=
  (∀ (s : State) (cl : Nat) (r : Running) (c : Cmd) (x : Ctx) (b : List Byte) (u : State), cl < 48 → (s.vec cl).done = 0 → vIfmt c ≠ 3 → s.outHeld x c = false →
    ∀ p ∈ [(Instr.vmap cl, vmapOp), (.vbin cl, vbinOp), (.vreduce cl, vreduceOp), (.vsoftmax cl, vsoftmaxOp), (.vnorm cl, vnormOp), (.vconvert cl, vconvertOp),
      (.vsample cl, vsampleOp)], s.cur (uVec cl) p.2.op = some (r, c, x) → s.vecChk x r c p.2 (2 * cl + bits c 294 1) = 0 →
      s.fetch x [(poolRef (cmdField c 24 4), p.2.auxLen c), (poolRef (cmdField c 28 4), p.2.aux2Len c), (poolRef (primary r c 16), vRows c * vElems c * vInSize c)] = (0, b, u) →
      Gives p.1 s (fun t =>
        t.mem = (u.vecRows x c cl p.2 (b.take (p.2.auxLen c)) ((b.drop (p.2.auxLen c)).take (p.2.aux2Len c)) 0 ((List.range (vRows c)).map (fun i =>
          (splitElems (vInSize c) (vElems c) (((b.drop (p.2.auxLen c)).drop (p.2.aux2Len c)).drop (i * vElems c * vInSize c))).map (vWiden c)))).mem ∧
        t.vec cl = {})) ∧
  (∀ (s : State) (cl a : Nat) (r : Running) (c : Cmd) (x : Ctx) (b : List Byte) (u : State), cl < 48 → a = 2 * cl + bits c 294 1 → (s.vec cl).done = 0 →
    vIfmt c = 3 → vRows c ≤ (s.array a).rows.length → s.outHeld x c = false →
    ∀ p ∈ [(Instr.vmap cl, vmapOp), (.vbin cl, vbinOp), (.vreduce cl, vreduceOp), (.vsoftmax cl, vsoftmaxOp), (.vnorm cl, vnormOp), (.vconvert cl, vconvertOp),
      (.vsample cl, vsampleOp)], s.cur (uVec cl) p.2.op = some (r, c, x) → s.vecChk x r c p.2 a = 0 →
      s.fetch x [(poolRef (cmdField c 24 4), p.2.auxLen c), (poolRef (cmdField c 28 4), p.2.aux2Len c), (poolRef (primary r c 16), 0)] = (0, b, u) →
      Gives p.1 s (fun t =>
        t.mem = ((u.setArray a { u.array a with rows := (u.array a).rows.drop (vRows c) }).vecRows x c cl p.2 (b.take (p.2.auxLen c))
          ((b.drop (p.2.auxLen c)).take (p.2.aux2Len c)) 0 ((s.array a).rows.take (vRows c))).mem ∧ t.vec cl = {})) ∧
  (∀ (s : State) (cl : Nat) (r : Running) (c : Cmd) (x : Ctx), cl < 48 →
    (∀ p ∈ [(Instr.vmap cl, vmapOp), (.vbin cl, vbinOp), (.vreduce cl, vreduceOp), (.vsoftmax cl, vsoftmaxOp), (.vnorm cl, vnormOp), (.vconvert cl, vconvertOp),
      (.vsample cl, vsampleOp)], s.cur (uVec cl) p.2.op = some (r, c, x) → s.vecChk x r c p.2 (2 * cl + bits c 294 1) ≠ 0 →
      Gives p.1 s (fun t => t.run (uVec cl) = some { r with ending := some (s.vecChk x r c p.2 (2 * cl + bits c 294 1)), stage := .ready, out := [] } ∧ t.mem = s.mem)) ∧
    (s.cur (uVec cl) 0x47 = some (r, c, x) → Gives (.vnop cl) s (fun t => t = s.advance (uVec cl)))) ∧
  (∀ (s : State) (x : Ctx) (c : Cmd) (cl : Nat) (o : VOp) (aux aux2 : List Byte) (r : Nat) (xs : List Nat), s.tiers.migs = [] → cDctx c = 0xFFFF →
    (o.index c = true → (s.vecRows x c cl o aux aux2 r [xs]).mem =
      s.mem.wrBytes (s.poolAddr x (cmdField c 20 4 + 4 * r)) (leBytes 4 ((o.row c aux aux2 r xs).headD 0))) ∧
    (o.index c = false → vOfmt c = 0 → (s.vecRows x c cl o aux aux2 r [xs]).mem =
      s.mem.wrBytes (s.poolAddr x (cmdField c 20 4 + o.rowLen c * r)) ((o.row c aux aux2 r xs).flatMap (fun y => leBytes 4 y))))

/-- Signal cores: transfers, runs and control instructions. Under the conditions on the state and operands that the Lean names, each
completes with the fields it names: CIMEM, CFILL, CDRAIN, CRUN, HALT, CHM_LIMIT, LOOP, BR, BNZ, SETP, SETS, ADDS, SETSH. (R372, R352, R374,
R361, R362, R363, R358, R375) -/
def Obligations.SignalRuns : Prop :=
  (
  ∀ (s : State) (k : Nat) (r : Running) (c : Cmd) (x : Ctx), k < 192 →
    (∀ b u, s.cur (uChm k) 0x60 = some (r, c, x) → primaryLen r c 24 4 % 8 = 0 → 8 * cmdField c 28 2 + primaryLen r c 24 4 ≤ s.chmLimit k 2 x.radio →
      s.fetch x [(primaryRef r c 16, primaryLen r c 24 4)] = (0, b, u) →
      Gives (.cimem k) s (fun t => t.mem = u.mem.wrBytes (chmAt k 2 (8 * cmdField c 28 2)) b)) ∧
    (∀ b u, s.cur (uChm k) 0x61 = some (r, c, x) → primaryLen r c 24 4 % 4 = 0 →
      cmdField c 28 4 % 2 ^ 17 + primaryLen r c 24 4 ≤ s.chmLimit k (cmdField c 28 4 / 2 ^ 17 % 2) x.radio →
      s.fetch x [(primaryRef r c 16, primaryLen r c 24 4)] = (0, b, u) →
      Gives (.cfill k) s (fun t => t.mem = u.mem.wrBytes (chmAt k (cmdField c 28 4 / 2 ^ 17 % 2) (cmdField c 28 4 % 2 ^ 17)) b)) ∧
    (s.cur (uChm k) 0x61 = some (r, c, x) → primaryLen r c 24 4 % 4 = 0 →
      s.chmLimit k (cmdField c 28 4 / 2 ^ 17 % 2) x.radio < cmdField c 28 4 % 2 ^ 17 + primaryLen r c 24 4 →
      Gives (.cfill k) s (fun t => t.run (uChm k) = some { r with ending := some 0x80, stage := .ready, out := [] } ∧ t.mem = s.mem)) ∧
    (s.cur (uChm k) 0x62 = some (r, c, x) →
      cmdField c 16 4 % 2 ^ 17 + cmdField c 20 4 ≤ s.chmLimit k (cmdField c 16 4 / 2 ^ 17 % 2) x.radio →
      s.dstChk x c (cmdField c 24 8) (cmdField c 20 4) = 0 → s.dstHeld x c (cmdField c 24 8) = false →
      s.chmBad (chmAt k (cmdField c 16 4 / 2 ^ 17 % 2) (cmdField c 16 4 % 2 ^ 17)) (cmdField c 20 4) = none →
      Gives (.cdrain k) s (fun t => t.mem = (s.dstStore x c (cmdField c 24 8)
        (s.mem.rdBytes (chmAt k (cmdField c 16 4 / 2 ^ 17 % 2) (cmdField c 16 4 % 2 ^ 17)) (cmdField c 20 4))).mem)) ∧
    (s.chmRun k = none → s.cur (uChm k) 0x63 = some (r, c, x) → 8 * cmdField c 16 2 < s.chmLimit k 2 x.radio → cmdField c 16 2 < 8192 →
      Gives (.crun k) s (fun t => t.run (uChm k) = some { r with stage := .busy } ∧ (t.core k).pc.toNat = cmdField c 16 2 ∧ (t.core k).act = 4 ∧
        (∀ i, i < 7 → ((t.core k).sreg i).toNat = cmdField c (36 + 4 * i) 4) ∧ (t.core k).sreg 7 = 0 ∧
        (t.core k).run = some { stoch := bit c (8 * 18), seed := BitVec.ofNat 64 (cmdField c 24 8), tag := cmdField c 32 4, limit := cmdField c 20 4 } ∧
        (t.core k).v = (s.core k).v ∧ (t.core k).a = (s.core k).a)) ∧
    (∀ run w, s.chmRun k = some (r, x, run, w) → bit w 63 = true → bits w 58 5 = 0 → s.pcBad k x = false → run.within (run.cyc - 1) = true → ctlIllegal (s.core k) w = false →
      Gives (.halt k) s (fun t => (t.core k).run = none ∧ (t.core k).act = 0 ∧ (t.core k).v = (s.core k).v ∧ t.mem = s.mem)) ∧
    (∀ run w, s.chmRun k = some (r, x, run, w) → run.limit ≠ 0 → run.limit < wordIssueAt run w →
      Gives (.chmLimit k) s (fun t => (t.core k).run = none ∧ t.run (uChm k) = some { r with ending := some 0x83, stage := .ready, out := [] } ∧
        t.reg (Reg.CHM_FAULT k) = packFields [(4, 4), (13, (s.core k).pc.toNat), (17, 0), (2, 0)]))) ∧
  (
  ∀ (s : State) (k : Nat) (x : Ctx) (run : CRun) (w : DWord) (c : Chm), c = s.core k →
    (Controls s k 1 x run w → bit w 16 = false →
      (bits w 0 16 ≠ 0 → Gives (.loop k) s (fun u => (u.core k).pc = BitVec.ofNat 13 (c.pc.toNat + 1) ∧
        (u.core k).loops = { start := c.pc.toNat + 1, stop := bits w 45 13, count := bits w 0 16 } :: c.loops)) ∧
      (bits w 0 16 = 0 → Gives (.loop k) s (fun u => (u.core k).pc = BitVec.ofNat 13 (bits w 45 13 + 1) ∧ (u.core k).loops = c.loops))) ∧
    (Controls s k 1 x run w → bit w 16 = true → c.sreg (bits w 17 3) ≠ 0 → Gives (.loop k) s (fun u => (u.core k).pc = BitVec.ofNat 13 (c.pc.toNat + 1) ∧
      (u.core k).loops = { start := c.pc.toNat + 1, stop := bits w 45 13, count := (c.sreg (bits w 17 3)).toNat } :: c.loops)) ∧
    (Controls s k 2 x run w → Gives (.br k) s (fun u => (u.core k).pc = BitVec.ofNat 13 (bits w 45 13) ∧
      ∃ r, (u.core k).run = some r ∧ r.cyc = run.cyc + 3)) ∧
    (Controls s k 3 x run w →
      (c.sreg (bits w 42 3) ≠ 0 → Gives (.bnz k) s (fun u => (u.core k).pc = BitVec.ofNat 13 (bits w 45 13))) ∧
      (c.sreg (bits w 42 3) = 0 → Gives (.bnz k) s (fun u => (u.core k).pc = BitVec.ofNat 13 (c.pc.toNat + 1) ∧ (u.core k).loops = c.loops))) ∧
    (∀ v, Controls s k 4 x run w → v = (if bit w 51 then (c.sreg (bits w 48 3)).toNat else bits w 0 32) → Gives (.setp k) s (fun u =>
      (bits w 52 3 = 0 → (u.core k).p.get {} (bits w 55 3) = { c.p.get {} (bits w 55 3) with base := BitVec.ofNat 18 v }) ∧
      (bits w 52 3 = 1 → (u.core k).p.get {} (bits w 55 3) = { c.p.get {} (bits w 55 3) with index := BitVec.ofNat 17 v }) ∧
      (bits w 52 3 = 2 → (u.core k).p.get {} (bits w 55 3) = { c.p.get {} (bits w 55 3) with step := BitVec.ofNat 18 v }) ∧
      (bits w 52 3 = 3 → (u.core k).p.get {} (bits w 55 3) = { c.p.get {} (bits w 55 3) with len := BitVec.ofNat 18 v }) ∧
      (bits w 52 3 = 4 → (u.core k).p.get {} (bits w 55 3) = { c.p.get {} (bits w 55 3) with mode := BitVec.ofNat 2 v }))) ∧
    (Controls s k 5 x run w → Gives (.sets k) s (fun u => (u.core k).sreg (bits w 55 3) = BitVec.ofNat 32 (bits w 0 32) ∧ u.mem = s.mem)) ∧
    (Controls s k 6 x run w → Gives (.adds k) s (fun u =>
      (u.core k).sreg (bits w 55 3) = c.sreg (bits w 55 3) + BitVec.ofNat 32 (bits w 0 32) ∧ (u.core k).v = c.v ∧ (u.core k).a = c.a)) ∧
    (Controls s k 7 x run w → Gives (.setsh k) s (fun u => (u.core k).sh = BitVec.ofNat 5 (bits w 0 5) ∧ (u.core k).s = c.s)))

/-- Signal cores: the arithmetic of a bundle. Under the conditions on the state and operands that the Lean names, each completes with the
fields it names: AOP NOP, CMAC, CMACJ, CMSU, CMUL, CMULJ, RCMAC, RCMUL, AZERO, ARND, VADD, VSUB, VCONJ, VMOV, VROT, VBREV, with the loads,
the store, the pointers and the program counter of the bundle. (R360, R347, R369) -/
def Obligations.SignalArithmetic : Prop :=
  (
  ∀ (s : State) (k : Nat) (x : Ctx) (run : CRun) (b : Bundle) (t : Nat) (c : Chm) (pairs : List (Word × Word)), c = s.core k →
    pairs = (c.vreg b.va).zip (c.vreg b.vb) →
    (Issues s k 0x01 x run b t → Gives (.cmac k) s (fun u =>
      (u.core k).areg (2 * (b.d % 4)) = ((c.areg (2 * (b.d % 4))).zip pairs).map (fun q => BitVec.ofInt 40 (accInt q.1 + (re q.2.1 * re q.2.2 - im q.2.1 * im q.2.2))) ∧
      (u.core k).areg (2 * (b.d % 4) + 1) = ((c.areg (2 * (b.d % 4) + 1)).zip pairs).map (fun q => BitVec.ofInt 40 (accInt q.1 + (re q.2.1 * im q.2.2 + im q.2.1 * re q.2.2))))) ∧
    (Issues s k 0x02 x run b t → Gives (.cmacj k) s (fun u =>
      (u.core k).areg (2 * (b.d % 4)) = ((c.areg (2 * (b.d % 4))).zip pairs).map (fun q => BitVec.ofInt 40 (accInt q.1 + (re q.2.1 * re q.2.2 + im q.2.1 * im q.2.2))) ∧
      (u.core k).areg (2 * (b.d % 4) + 1) = ((c.areg (2 * (b.d % 4) + 1)).zip pairs).map (fun q => BitVec.ofInt 40 (accInt q.1 + (im q.2.1 * re q.2.2 - re q.2.1 * im q.2.2))))) ∧
    (Issues s k 0x03 x run b t → Gives (.cmsu k) s (fun u =>
      (u.core k).areg (2 * (b.d % 4)) = ((c.areg (2 * (b.d % 4))).zip pairs).map (fun q => BitVec.ofInt 40 (accInt q.1 - (re q.2.1 * re q.2.2 - im q.2.1 * im q.2.2))) ∧
      (u.core k).areg (2 * (b.d % 4) + 1) = ((c.areg (2 * (b.d % 4) + 1)).zip pairs).map (fun q => BitVec.ofInt 40 (accInt q.1 - (re q.2.1 * im q.2.2 + im q.2.1 * re q.2.2))))) ∧
    (Issues s k 0x04 x run b t → Gives (.cmul k) s (fun u =>
      (u.core k).areg (2 * (b.d % 4)) = ((c.areg (2 * (b.d % 4))).zip pairs).map (fun q => BitVec.ofInt 40 (re q.2.1 * re q.2.2 - im q.2.1 * im q.2.2)) ∧
      (u.core k).areg (2 * (b.d % 4) + 1) = ((c.areg (2 * (b.d % 4) + 1)).zip pairs).map (fun q => BitVec.ofInt 40 (re q.2.1 * im q.2.2 + im q.2.1 * re q.2.2)))) ∧
    (Issues s k 0x05 x run b t → Gives (.cmulj k) s (fun u =>
      (u.core k).areg (2 * (b.d % 4)) = ((c.areg (2 * (b.d % 4))).zip pairs).map (fun q => BitVec.ofInt 40 (re q.2.1 * re q.2.2 + im q.2.1 * im q.2.2)) ∧
      (u.core k).areg (2 * (b.d % 4) + 1) = ((c.areg (2 * (b.d % 4) + 1)).zip pairs).map (fun q => BitVec.ofInt 40 (im q.2.1 * re q.2.2 - re q.2.1 * im q.2.2)))) ∧
    (Issues s k 0x06 x run b t → Gives (.rcmac k) s (fun u =>
      (u.core k).areg (2 * (b.d % 4)) = ((c.areg (2 * (b.d % 4))).zip pairs).map (fun q => BitVec.ofInt 40 (accInt q.1 + re q.2.1 * re q.2.2)) ∧
      (u.core k).areg (2 * (b.d % 4) + 1) = ((c.areg (2 * (b.d % 4) + 1)).zip pairs).map (fun q => BitVec.ofInt 40 (accInt q.1 + re q.2.1 * im q.2.2)) ∧
      (u.core k).areg (2 * (b.d % 4) + 2) = ((c.areg (2 * (b.d % 4) + 2)).zip pairs).map (fun q => BitVec.ofInt 40 (accInt q.1 + im q.2.1 * re q.2.2)) ∧
      (u.core k).areg (2 * (b.d % 4) + 3) = ((c.areg (2 * (b.d % 4) + 3)).zip pairs).map (fun q => BitVec.ofInt 40 (accInt q.1 + im q.2.1 * im q.2.2)))) ∧
    (Issues s k 0x07 x run b t → Gives (.rcmul k) s (fun u =>
      (u.core k).areg (2 * (b.d % 4)) = ((c.areg (2 * (b.d % 4))).zip pairs).map (fun q => BitVec.ofInt 40 (re q.2.1 * re q.2.2)) ∧
      (u.core k).areg (2 * (b.d % 4) + 1) = ((c.areg (2 * (b.d % 4) + 1)).zip pairs).map (fun q => BitVec.ofInt 40 (re q.2.1 * im q.2.2)) ∧
      (u.core k).areg (2 * (b.d % 4) + 2) = ((c.areg (2 * (b.d % 4) + 2)).zip pairs).map (fun q => BitVec.ofInt 40 (im q.2.1 * re q.2.2)) ∧
      (u.core k).areg (2 * (b.d % 4) + 3) = ((c.areg (2 * (b.d % 4) + 3)).zip pairs).map (fun q => BitVec.ofInt 40 (im q.2.1 * im q.2.2)))) ∧
    (Issues s k 0x08 x run b t → Gives (.azero k) s (fun u => (∀ e ∈ (u.core k).areg (2 * (b.d % 4)), e = 0) ∧ (∀ e ∈ (u.core k).areg (2 * (b.d % 4) + 1), e = 0) ∧
      (u.core k).areg (2 * (b.d % 4 + 1)) = c.areg (2 * (b.d % 4 + 1))))) ∧
  (
  ∀ (s : State) (k : Nat) (x : Ctx) (run : CRun) (b : Bundle) (t : Nat) (c : Chm), c = s.core k → (b.xen = true → b.xv ≠ b.d) → (b.yen = true → b.yv ≠ b.d) →
    (Issues s k 0x09 x run b t → Gives (.arnd k) s (fun u => (u.core k).vreg b.d = (c.roundPair run (b.va % 4)).1)) ∧
    (Issues s k 0x0A x run b t → Gives (.vadd k) s (fun u => (u.core k).vreg b.d =
        ((c.vreg b.va).zip (c.vreg b.vb)).map (fun p => mkElem (clampInt (-32768) 32767 (re p.1 + re p.2)) (clampInt (-32768) 32767 (im p.1 + im p.2))))) ∧
    (Issues s k 0x0B x run b t → Gives (.vsub k) s (fun u => (u.core k).vreg b.d =
        ((c.vreg b.va).zip (c.vreg b.vb)).map (fun p => mkElem (clampInt (-32768) 32767 (re p.1 - re p.2)) (clampInt (-32768) 32767 (im p.1 - im p.2))))) ∧
    (Issues s k 0x0C x run b t → Gives (.vconj k) s (fun u => (u.core k).vreg b.d =
        (c.vreg b.va).map (fun e => mkElem (re e) (clampInt (-32768) 32767 (-(im e)))))) ∧
    (Issues s k 0x0D x run b t → Gives (.vmov k) s (fun u => (u.core k).vreg b.d = c.vreg b.va)) ∧
    (Issues s k 0x0E x run b t → Gives (.vrot k) s (fun u => (u.core k).vreg b.d = (c.vreg b.va).drop 1 ++ [(c.vreg b.vb).headD 0])) ∧
    (Issues s k 0x0F x run b t → Gives (.vbrev k) s (fun u => ∀ l, l < 16 → ((u.core k).vreg b.d)[l]? = some ((c.vreg b.va).getD (revBits 4 l) 0)))) ∧
  (
  ∀ (s : State) (k aop : Nat) (x : Ctx) (run : CRun) (b : Bundle) (t : Nat) (c : Chm) (i : Instr), c = s.core k →
    (i, aop) ∈ [(Instr.aopNop k, 0), (.cmac k, 1), (.cmacj k, 2), (.cmsu k, 3), (.cmul k, 4), (.cmulj k, 5), (.rcmac k, 6), (.rcmul k, 7), (.azero k, 8), (.arnd k, 9),
      (.vadd k, 10), (.vsub k, 11), (.vconj k, 12), (.vmov k, 13), (.vrot k, 14), (.vbrev k, 15)] → Issues s k aop x run b t →
    Gives i s (fun u =>
      u.mem = (if b.sk = 0 then s.mem else ((List.range 16).zip (c.storeBytes run b).1).foldl (fun m p =>
        Mem.wrBytes m (chmAt k b.sb ((c.p.get {} b.sp).addr (if b.sk = 3 then 2 else 4) p.1)) p.2) s.mem) ∧
      (b.xen = true → (b.yen = true → b.yv ≠ b.xv) → (b.aop = 9 → b.d ≠ b.xv) →
        (u.core k).vreg b.xv = s.chmLoad k (c.p.get {} b.xp) 0 (decide (2 ≤ b.xu))) ∧
      (b.yen = true → (b.xen = true → b.xv ≠ b.yv) → (b.aop = 9 → b.d ≠ b.yv) →
        (u.core k).vreg b.yv = s.chmLoad k (c.p.get {} b.yp) 1 (decide (2 ≤ b.yu))) ∧
      (b.sk ≠ 0 → b.su = true → (u.core k).p.get {} b.sp = (c.p.get {} b.sp).next) ∧
      (c.loops = [] → (u.core k).pc = BitVec.ofNat 13 (c.pc.toNat + 1)) ∧
      (∀ l rest, c.loops = l :: rest → l.stop = c.pc.toNat → 1 < l.count → (u.core k).pc = BitVec.ofNat 13 l.start ∧
        (u.core k).loops = { l with count := l.count - 1 } :: rest) ∧
      (u.core k).s = c.s ∧ (u.core k).sh = c.sh ∧ (u.core k).run = some (run.after b t)))

/-- Coding engines. Under the conditions on the state and operands that the Lean names, each completes with the fields it names: LDPC_DEC,
LDPC_ENC, POLAR_DEC, POLAR_ENC (the codes of TS 38.212 are the model's, log entry 18). (R402, R404, R406, R408, R409) -/
def Obligations.CodingCommands : Prop :=
  ∀ (s : State) (g : Nat) (r : Running) (c : Cmd) (x : Ctx) (b : List Byte) (u : State), g < 12 → s.dstHeld x c (cmdField c 24 8) = false →
    (∀ k n, s.cur (uKud g) 0x81 = some (r, c, x) → k = ldpcOf c → n = k.kp - ldpcCrcLen k.crc → k.allowed = true →
      s.kudChk x c (ceilDiv n 8) (ceilDiv k.e 8) = 0 → s.fetch x [(cmdField c 16 8, ceilDiv n 8)] = (0, b, u) →
      Gives (.ldpcEnc g) s (fun t => t.mem = (u.dstStore x c (cmdField c 24 8) (bytesOfBits ((List.range k.e).map (fun j =>
        Config.ldpcCode k.bg k.zc (withCrc k.crc (bitsOf b n)) (k.pos (j % k.qm * (k.e / k.qm) + j / k.qm)))))).mem)) ∧
    (∀ k harq passed sp rd v, s.cur (uKud g) 0x80 = some (r, c, x) → k = ldpcOf c → harq = cmdField c 32 8 → k.allowed = true →
      (harq ≠ 0 → (s.harqAt x harq k.ncb).isSome = true ∧ s.placedChk (some x.asOwner) harq k.ncb true = 0) →
      s.kudChk x c k.e (resultOfs (cmdField c 24 8) (ceilDiv k.kp 8) + 8) = 0 →
      passed = (if harq ≠ 0 ∧ bit c 337 = true then (s.harqAt x harq k.ncb).bind (fun q => (s.harqOf q.1).passed.find q.2) else none) →
      (∀ syn d, passed = some (syn, d) → Gives (.ldpcDec g) s (fun t =>
        t = s.kudPut g r x c d (some (packFields [(6, 0), (1, syn.toNat), (1, 1), (1, 0), (1, 1)])) 0 (ceilDiv k.kp 512))) ∧
      (passed = none → (bit c 337 = false ∨ harq = 0) → s.fetch x [(cmdField c 16 8, k.e)] = (0, b, u) → u.readSpans [] x.asOwner = (false, u) →
        Gives (.ldpcDec g) s (fun t => t = u.ldpcDecode g r x c b [] (if harq = 0 then none else s.harqAt x harq k.ncb) false)) ∧
      (passed = none → bit c 337 = true → harq ≠ 0 → s.fetch x [(cmdField c 16 8, k.e)] = (0, b, u) → sp = u.placedSpans harq k.ncb →
        u.readSpans sp x.asOwner = (false, rd) → v = (rd.chargePlaced x harq k.p false).count64 (Reg.KUD_HARQ_RD_BYTES g) k.p →
        Gives (.ldpcDec g) s (fun t => t = v.ldpcDecode g r x c b (rd.rdSpans sp) (s.harqAt x harq k.ncb) true))) ∧
    (∀ n m e, s.cur (uKud g) 0x83 = some (r, c, x) → polarAllowed c = true → n = cmdField c 40 2 → e = cmdField c 44 4 →
      m = cmdField c 48 2 - polarCrcLen (bits c 336 2) → s.kudChk x c (ceilDiv m 8) (ceilDiv e 8) = 0 → s.fetch x [(cmdField c 16 8, ceilDiv m 8)] = (0, b, u) →
      Gives (.polarEnc g) s (fun t => t.mem = (u.dstStore x c (cmdField c 24 8) (bytesOfBits ((List.range e).map
        (Config.polarEnc n (cmdField c 48 2) e (cmdField c 42 1) (cmdField c 58 2) (bitsOf b m))))).mem)) ∧
    (∀ n k e d, s.cur (uKud g) 0x82 = some (r, c, x) → polarAllowed c = true → n = cmdField c 40 2 → k = cmdField c 48 2 → e = cmdField c 44 4 →
      s.kudChk x c e (resultOfs (cmdField c 24 8) (ceilDiv k 8) + 8) = 0 → s.fetch x [(cmdField c 16 8, e)] = (0, b, u) →
      d = Config.polarDec n k (cmdField c 42 1) (cmdField c 58 2) (b.map (fun v => softByte (llr v))) →
      Gives (.polarDec g) s (fun t => t = (if d.2.1 then u.count (Reg.KUD_POLAR_CNT g) 1 else (u.count (Reg.KUD_POLAR_CNT g) 1).count (Reg.KUD_POLAR_FAIL g) 1).kudPut g r x c
        (bytesOfBits (natBits d.1 k)) (some (packFields [(1, d.2.1.toNat), (3, d.2.2 % 8)])) (64 + n * n.log2 / 8 + 6 * k) (ceilDiv e 64 + ceilDiv k 512)))

/-- Copies and fills. Under the conditions on the state and operands that the Lean names, each completes with the fields it names: COPY,
FILL; with what a store to a destination changes. (R278, R291, R328, R513) -/
def Obligations.CopiesAndFills : Prop :=
  ∀ (s : State) (cl : Nat) (r : Running) (c : Cmd) (x : Ctx), cl < 48 →
    (∀ src n dst b u v, s.cur (uMov cl) 0xA0 = some (r, c, x) → src = primaryRef r c 16 → n = primaryLen r c 32 4 → dst = cmdField c 24 8 →
      (cmdField c 40 8 ≠ 0 → x.cut.contains (BitVec.ofNat 64 (cmdField c 40 8)) = false) → s.readChk x [(src, n)] = 0 → s.dstChk x c dst n = 0 →
      s.dstHeld x c dst = false → s.fetch x [(src, n)] = (0, b, u) →
      v = (match x.slotOf with | some k => if r.list.own = true ∧ dst / 2 ^ 60 = 0 then u.kvRequests k.1 k.2 else u | none => u) →
      Gives (.copy cl) s (fun t => t.mem = (v.dstStore x c dst b).mem)) ∧
    (s.cur (uMov cl) 0xA0 = some (r, c, x) → cmdField c 40 8 ≠ 0 → x.cut.contains (BitVec.ofNat 64 (cmdField c 40 8)) = true →
      Gives (.copy cl) s (fun t => t = (s.count (Reg.MOV_CANCEL_SKIP cl) 1).advance (uMov cl))) ∧
    (∀ dst n, s.cur (uMov cl) 0xA2 = some (r, c, x) → dst = cmdField c 16 8 → n = cmdField c 32 4 → s.dstChk x c dst n = 0 → s.dstHeld x c dst = false →
      Gives (.fill cl) s (fun t => t.mem = (s.dstStore x c dst ((List.range n).map (fun i => (leBytes 8 (cmdField c 48 8)).getD (i % 8) 0))).mem)) ∧
    (∀ dst n, s.cur (uMov cl) 0xA2 = some (r, c, x) → dst = cmdField c 16 8 → n = cmdField c 32 4 → s.dstChk x c dst n ≠ 0 →
      Gives (.fill cl) s (fun t => t.run (uMov cl) = some { r with ending := some (s.dstChk x c dst n), stage := .ready, out := [] } ∧ t.mem = s.mem)) ∧
    (∀ dst b, s.tiers.migs = [] → cDctx c = 0xFFFF → (s.dstStore x c dst b).mem = (if dst / 2 ^ 60 = 1 then s.mem.wrBytes (s.poolAddr x (dst % 2 ^ 32)) b
      else s.mem.wrSpans (s.placedSpans (dst % 2 ^ 48) b.length) b))

/-- Exact partials. Under the conditions on the state and operands that the Lean names, each completes with the fields it names: TO_EXACT,
EXACT_SUM, FROM_EXACT. (R242, R243, R245, R280, R281) -/
def Obligations.ExactPartials : Prop :=
  ∀ (s : State) (cl : Nat) (r : Running) (c : Cmd) (x : Ctx), cl < 48 →
    (∀ rows n rawLen qLen eLen reads b u qs es xs zs, s.cur (uMov cl) 0xA3 = some (r, c, x) → rows = cmdField c 40 2 → n = cmdField c 42 2 →
      rawLen = 1536 * (rows - 1) + 6 * n → qLen = (if (cmdField c 47 1).testBit 0 then 2 * rows else 0) → eLen = (if (cmdField c 47 1).testBit 1 then rows else 0) →
      reads = [(poolRef (primary r c 16), rawLen), (poolRef (cmdField c 20 4), qLen), (poolRef (cmdField c 24 4), eLen),
        (poolRef (cmdField c 28 4), if (cmdField c 47 1).testBit 2 then 256 else 0)] →
      s.readChk x reads = 0 → s.dstChk x c (cmdField c 32 8) (32 + 16 * (rows * n)) = 0 → s.dstHeld x c (cmdField c 32 8) = false → s.fetch x reads = (0, b, u) →
      qs = b.drop rawLen → es = qs.drop qLen → xs = es.drop eLen →
      zs = ((List.range rows).foldr (fun o l => (List.range n).map (fun j => (o, j)) ++ l) []).map (fun p =>
        toExactElem (signed 48 (byteField b (1536 * p.1 + 6 * p.2) 6)) (if (cmdField c 47 1).testBit 0 then byteField qs (2 * p.1) 2 else 0x8000)
          ((if (cmdField c 47 1).testBit 1 then (byteField es p.1 1 : Int) - 127 else 0) + (if (cmdField c 47 1).testBit 2 then (byteField xs p.2 1 : Int) - 127 else 0) +
            signed 8 (cmdField c 46 1) - 15) (signed 16 (cmdField c 44 2))) →
      (zs.any (fun z => z.isNone) = false → Gives (.toExact cl) s (fun t =>
        t.mem = (u.dstStore x c (cmdField c 32 8) (exactBytes (signed 16 (cmdField c 44 2)) 1 (zs.filterMap id))).mem)) ∧
      (zs.any (fun z => z.isNone) = true → Gives (.toExact cl) s (fun t => t.mem = s.mem))) ∧
    (∀ (a : Int) q p f z, toExactElem a q p f = some z ↔ 0 ≤ p - f ∧ p - f ≤ 48 ∧ z = a * q * (2 ^ (p - f).toNat : Nat)) ∧
    (∀ dst src y b1 b2 u1 u2 f e p1 p2 d1 d2 v1 v2, s.cur (uMov cl) 0xA4 = some (r, c, x) → dst = cmdField c 16 8 → src = primaryRef r c 24 →
      y = (if dst / 2 ^ 60 = 1 then (s.outCtx x c).getD x else x) → s.fetch y [(dst, 32)] = (0, b1, u1) → u1.fetch x [(src, 32)] = (0, b2, u2) →
      exactHeader b1 = some (f, e, p1) → exactHeader b2 = some (f, e, p2) → p1 + p2 ≤ 65536 → u2.dstChk x c dst (32 + 16 * e) = 0 → u2.dstHeld x c dst = false →
      u2.fetch y [(dst + 32, 16 * e)] = (0, d1, v1) → v1.fetch x [(src + 32, 16 * e)] = (0, d2, v2) →
      Gives (.exactSum cl) s (fun t => t.mem = (v2.dstStore x c dst (exactBytes f (p1 + p2)
        (((exactElems d1 e).zip (exactElems d2 e)).map (fun p => p.1 + p.2)))).mem)) ∧
    (∀ src dst b u pt e p d v, s.cur (uMov cl) 0xA5 = some (r, c, x) → src = primaryRef r c 16 → dst = cmdField c 24 8 → s.fetch x [(src, 32)] = (0, b, u) →
      exactHeader b = some (pt, e, p) → u.readChk x [(src + 32, 16 * e)] = 0 → u.dstHeld x c dst = false → u.fetch x [(src + 32, 16 * e)] = (0, d, v) →
      (cmdField c 32 1 = 4 → u.dstChk x c dst (4 * e) = 0 → Gives (.fromExact cl) s (fun t =>
        t.mem = (v.dstStore x c dst ((((List.range e).zip (exactElems d e)).map (fun q => ((if bit c (8 * 33) then
          Rnd.stoch (mixU (BitVec.ofNat 64 (cmdField c 40 8)) (cmdField c 36 4 * 2 ^ 32 + q.1)) else .conv), Val.dyad q.2 pt))).foldr
            (fun k l => leBytes 4 (fmt32.round k.1 k.2) ++ l) [])).mem)) ∧
      (cmdField c 32 1 = 0 → u.dstChk x c dst (1 * e) = 0 → Gives (.fromExact cl) s (fun t =>
        t.mem = (v.dstStore x c dst ((((List.range e).zip (exactElems d e)).map (fun q => ((if bit c (8 * 33) then
          Rnd.stoch (mixU (BitVec.ofNat 64 (cmdField c 40 8)) (cmdField c 36 4 * 2 ^ 32 + q.1)) else .conv), Val.dyad q.2 pt))).map
            (fun k => toInt8 k.1 (bit c (8 * 33 + 1)) k.2))).mem)) ∧
      ((cmdField c 32 1 = 2 ∨ cmdField c 32 1 = 3) → u.dstChk x c dst (2 * e) = 0 → Gives (.fromExact cl) s (fun t =>
        t.mem = (v.dstStore x c dst ((((List.range e).zip (exactElems d e)).map (fun q => ((if bit c (8 * 33) then
          Rnd.stoch (mixU (BitVec.ofNat 64 (cmdField c 40 8)) (cmdField c 36 4 * 2 ^ 32 + q.1)) else .conv), Val.dyad q.2 pt))).foldr
            (fun k l => leBytes 2 ((if cmdField c 32 1 = 2 then fmt16 else fmtB16).round k.1 k.2) ++ l) [])).mem)) ∧
      (∀ sideC rows, cmdField c 32 1 = 1 → u.dstChk x c dst (1 * e) = 0 → sideC = (if dst / 2 ^ 60 = 1 then c else putBits c 48 16 0xFFFF) →
        u.outChk x sideC (cmdField c 52 4) (8 * ceilDiv e (cmdField c 48 2)) = 0 →
        rows = (chunks (cmdField c 48 2) e (((List.range e).zip (exactElems d e)).map (fun q => ((if bit c (8 * 33) then
          Rnd.stoch (mixU (BitVec.ofNat 64 (cmdField c 40 8)) (cmdField c 36 4 * 2 ^ 32 + q.1)) else .conv), Val.dyad q.2 pt)))).map kbfRow →
        Gives (.fromExact cl) s (fun t => t.mem = ((v.outStore x sideC (cmdField c 52 4) (rows.foldr (fun k l => leBytes 8 k.1 ++ l) [])).dstStore x c dst
          (rows.foldr (fun k l => k.2 ++ l) [])).mem)))

/-- Transfers over the fabric that a unit begins. Under the conditions on the state and operands that the Lean names, each completes with
the fields it names: XFER_ND, RESUME, ATOMIC. (R279, R557, R566, R294, R558, R562, R563) -/
def Obligations.FabricCommands : Prop :=
  ∀ (s : State) (cl : Nat) (r : Running) (c : Cmd) (x : Ctx), cl < 48 →
    (∀ k, s.curBusy (uMov cl) 0xA1 = none → s.cur (uMov cl) 0xA1 = some (r, c, x) → k = bindSrc r c →
      (refLocal (xSrc k) ≠ refLocal (xDst k) → s.xferChk x k = 0 → (xOut k = false → s.dstHeld x k (xDst k) = false) →
        Gives (.xferNd cl) s (fun t => t = s.openXfer (uMov cl) r x k r.list.id r.idx 0)) ∧
      (refLocal (xSrc k) ≠ refLocal (xDst k) → s.xferChk x k ≠ 0 → Gives (.xferNd cl) s (fun t =>
        t.run (uMov cl) = some { r with ending := some (s.xferChk x k), stage := .ready, out := [] } ∧ t.out = s.out))) ∧
    (∀ f, s.curBusy (uMov cl) 0xA1 = some (r, c, x) → s.xferOn (uMov cl) = some f → Gives (.xferNd cl) s (fun t => t = s.pumpXfer f.id)) ∧
    (∀ k, s.curBusy (uMov cl) 0xA7 = none → s.cur (uMov cl) 0xA7 = some (r, c, x) →
      s.fab.recs.find? (fun k => k.ctx == x.id && k.list.toNat == cmdField c 16 8 && k.cmdIdx == cmdField c 24 2) = some k →
      (k.index = cmdField c 32 8 → s.xferChk x k.cmd = 0 → (xOut k.cmd = false → s.dstHeld x k.cmd (xDst k.cmd) = false) →
        Gives (.resume cl) s (fun t => t = s.openXfer (uMov cl) r x k.cmd k.list k.cmdIdx k.index)) ∧
      (k.index ≠ cmdField c 32 8 → Gives (.resume cl) s (fun t => t.run (uMov cl) = some { r with ending := some 0xB4, stage := .ready, out := [] }))) ∧
    (∀ m, s.cur (uMov cl) 0xA6 = some (r, c, x) → m = s.remote c (xSrc c) 0 → s.fabChk x = 0 → m.2.1 < 2 ^ 40 →
      (bit c (192 + 5) = true → s.outChk x c (cmdField c 48 4) 8 = 0) → s.trackRoom (x.cluster / 4) 1 = true → s.rmRoom (x.cluster / 4) 512 = true →
      Gives (.atomic cl) s (fun t => t.run (uMov cl) = some { r with stage := .busy } ∧
        t.fab.xfers = s.fab.xfers ++ [{ id := s.fab.nextX, unit := uMov cl, cmd := c, ctx := x.id, list := r.list.id, cmdIdx := r.idx, next := 0, index := 0 }] ∧
        t.fab.atoms = s.fab.atoms + 1 ∧
        ∃ q ∈ t.fab.reqs, q.tag = s.fab.nextTag ∧ q.txn.op = 3 ∧ q.txn.dest = m.1 ∧ q.txn.offset = m.2.1.toNat ∧ q.txn.aux = cmdField c 24 1 ∧
          q.txn.opfield = BitVec.ofNat 64 (s.self + s.fab.atoms * 65536) ∧ q.serves = .atomic s.fab.nextX))

/-- Model instances. Under the conditions on the state and operands that the Lean names, each completes with the fields it names:
MODEL_LOAD, MODEL_UNLOAD, MIRROR_ACK; with what the load of an image checks and makes. (R308, R680, R311, R338, R737, R739) -/
def Obligations.ModelCommands : Prop :=
  (∀ (s : State) (o : Origin) (v : Svc) (c : Cmd) (slot : Nat), v.code = 0 → v.cmd = c → inferWordsOk c = true → slot = cmdField c 32 1 → slot < 16 →
    (s.svc o 0x10 0 = some v → cmdField c 16 8 < 2 ^ 48 → cmdField c 33 1 = 0 → cmdField c 36 2 ≠ 0 → cmdField c 36 2 ≤ 16384 → zb c 38 26 = true →
      ((v.st.model v.fn slot).isSome = true → Gives (.modelLoad o) s (fun t => t = v.st.svcEnd o v.rep 0x75 0)) ∧
      (∀ b tr u r, v.st.model v.fn slot = none → v.st.readImage v.fn (cmdField c 16 8) (cmdField c 24 8) = (0, b, tr, u) → 128 ≤ cmdField c 24 8 →
        r = u.loadModel v.fn slot (cmdField c 16 8) (cmdField c 34 2) (cmdField c 36 2) b tr v.rep →
        (r.1 ≠ 0 → Gives (.modelLoad o) s (fun t => t = r.2.svcEnd o v.rep r.1 0)) ∧
        (∀ m, r.1 = 0 → r.2.model v.fn slot = some m → m.mirrorWait = none → Gives (.modelLoad o) s (fun t => t = r.2.svcEnd o v.rep 0 0)))) ∧
    (∀ m, s.svc o 0x11 0 = some v → cmdField c 33 1 < 2 → zb c 16 16 = true → zb c 34 30 = true →
      (v.st.modelReady v.fn slot = none → Gives (.modelUnload o) s (fun t => t = v.st.svcEnd o v.rep 0x76 0)) ∧
      (v.st.modelReady v.fn slot = some m → (v.st.seqsOf v.fn slot = [] ∨ cmdField c 33 1 = 1) →
        Gives (.modelUnload o) s (fun t => t = (v.st.dropModel v.fn slot 6 0).svcEnd o v.rep 0 0)) ∧
      (v.st.modelReady v.fn slot = some m → v.st.seqsOf v.fn slot ≠ [] → cmdField c 33 1 = 0 →
        Gives (.modelUnload o) s (fun t => t = v.st.svcEnd o v.rep 0x75 0)))) ∧
  (∀ (s : State) (t slot addr swap maxSeq : Nat) (b : List Byte) (rep : Report), modelHeadOk b = true → modelTablesOk b = true →
    (byteField b 7 1).testBit 1 = false → bit (s.regs.get 0 (Reg.SEC_TENANT t)) 6 = false →
    (byteField b 8 8 ≠ s.regBits Reg.HUB_IDENT 0 32 → (s.loadModel t slot addr swap maxSeq b none rep).1 = 0x71) ∧
    (byteField b 8 8 = s.regBits Reg.HUB_IDENT 0 32 → (s.permittedList t).length < byteField b 30 1 → (s.loadModel t slot addr swap maxSeq b none rep).1 = 0x74) ∧
    (∀ ids k, s.modelChk t slot swap b = 0 → s.makeShards t slot b = (0, ids, k) →
      (s.loadModel t slot addr swap maxSeq b none rep).1 = 0 ∧
      ∃ m, (s.loadModel t slot addr swap maxSeq b none rep).2.model t slot = some m ∧ m.ctxs = ids ∧ m.vocab = byteField b 16 4 ∧ m.maxCtx = byteField b 20 4 ∧
        m.maxCols = byteField b 24 2 ∧ m.shards = byteField b 28 2 ∧ m.kvTier = byteField b 31 1 ∧ m.kvPage = byteField b 32 4 ∧ m.swapCap = swap ∧
        m.maxSeq = maxSeq ∧ m.step = 0 ∧ m.inStep = false ∧ m.mirrorWait = (if bit (s.regs.get 0 (Reg.HLT_TENANT t)) 0 then some rep else none))) ∧
  (∀ (s : State) (t slot endc code : Nat), ((s.dropModel t slot endc code).model t slot) = none) ∧
  (∀ (s : State) (t slot : Nat) (m : Model) (rep : Report), t < 1024 → slot < 16 → s.model t slot = some m → m.mirrorWait = some rep →
    Gives (.mirrorAck t slot true) s (fun u => u = (s.setModel t slot { m with mirrorWait := none }).finishService none rep 0 0) ∧
    Gives (.mirrorAck t slot false) s (fun u => u = (m.ctxs.foldl (fun k c => k.dropCtx c) (s.dropModel t slot 6 0)).finishService none rep 0xD0 0))

/-- Sequences and step boundaries. Under the conditions on the state and operands that the Lean names, each completes with the fields it
names: SEQ_SUBMIT, SEQ_CANCEL, STEP_BOUNDARY; with the refusals of a submission, the ends of a sequence and the columns of its prompt.
(R312, R337, R319, R314, R340, R639) -/
def Obligations.SequenceCommands : Prop :=
  (∀ (s : State) (o : Origin) (v : Svc) (c : Cmd), v.code = 0 → v.cmd = c → inferWordsOk c = true →
    (∀ prompt, s.svc o 0x12 0 = some v →
      (v.st.seqRefusal v.fn c prompt ≠ 0 → Gives (.seqSubmit o prompt) s (fun t => t = v.st.svcEnd o v.rep (v.st.seqRefusal v.fn c prompt) 0)) ∧
      (v.st.seqRefusal v.fn c prompt = 0 → Gives (.seqSubmit o prompt) s (fun t => ∃ (q : Sequence) (u : State), u.inf.seqs = v.st.inf.seqs ++ [q] ∧ u.inf.models = v.st.inf.models ∧
        q.id = cmdField c 16 4 ∧ q.tenant = v.fn ∧ q.slot = cmdField c 20 1 ∧ q.st = .queued ∧ q.maxNew = cmdField c 22 2 ∧ q.promptLen = cmdField c 32 4 ∧
        q.topK = cmdField c 36 2 ∧ q.stop0 = cmdField c 56 4 ∧ q.stop1 = cmdField c 60 4 ∧ q.prompt = prompt.take (4 * cmdField c 32 4) ∧ q.made = 0 ∧
        q.since = v.st.now ∧ q.report = v.rep ∧ t = u.svcEnd o v.rep 0 (BitVec.ofNat 128 (cmdField c 16 4))))) ∧
    (s.svc o 0x13 0 = some v → zb c 21 43 = true → v.st.health.fenced = false →
      (∀ q, v.st.inf.seqs.find? (fun q => q.tenant == v.fn && q.id == cmdField c 16 4 && q.slot == cmdField c 20 1) = some q →
        Gives (.seqCancel o) s (fun t => t = (v.st.setSeq { q with cancelled := true }).svcEnd o v.rep 0 0)) ∧
      (v.st.inf.seqs.find? (fun q => q.tenant == v.fn && q.id == cmdField c 16 4 && q.slot == cmdField c 20 1) = none →
        Gives (.seqCancel o) s (fun t => t = v.st.svcEnd o v.rep 0x7B 0)))) ∧
  (∀ (s : State) (t slot : Nat) (m : Model) (tokens lists : List (Nat × Nat)), t < 1024 → slot < 16 → s.modelReady t slot = some m →
    (m.failed = true → Gives (.stepBoundary t slot tokens lists) s (fun u => u = (s.liveSeqs t slot).foldl (fun k q => k.endSeq q 5) s)) ∧
    (m.failed = false → m.paused = false → m.standby = false → (m.inStep = true → m.waiting = [] ∧ m.failing = false) →
      tokens.map (·.1) = (if m.inStep then (((s.kvRequests t slot).membersOf t slot).filter (·.draws)).map (·.id) else []) →
      tokens.all (fun p => decide (p.2 < m.vocab)) = true → lists.all (fun p => m.ctxs.contains p.1) = true →
      Gives (.stepBoundary t slot tokens lists) s (fun u => u = (s.boundary t slot m tokens).nextStep t slot lists))) ∧
  (∀ (q : Sequence) (m : Model) (tok : Nat), (q.made = q.maxNew → q.endOf m tok = 1) ∧
    (q.made ≠ q.maxNew → q.stopEn = true → (tok = q.stop0 ∨ tok = q.stop1) → q.endOf m tok = 2) ∧
    (q.made ≠ q.maxNew → q.stopEn = false → m.maxCtx ≤ q.promptLen + q.made → q.endOf m tok = 3) ∧
    (q.made ≠ q.maxNew → q.stopEn = false → q.promptLen + q.made < m.maxCtx → q.endOf m tok = 0)) ∧
  (∀ (s : State) (t slot : Nat) (c : Cmd) (prompt : List Byte) (m : Model), cmdField c 20 1 = slot → slot < 16 →
    (s.modelReady t slot = none → s.seqRefusal t c prompt = 0x76) ∧
    (s.modelReady t slot = some m → s.health.fenced = false → seqParamsOk m c prompt = false → s.seqRefusal t c prompt = 0x79) ∧
    (s.modelReady t slot = some m → s.health.fenced = false → seqParamsOk m c prompt = true → cmdField c 16 4 = 0 → s.seqRefusal t c prompt = 0x78) ∧
    (s.modelReady t slot = some m → s.health.fenced = false → seqParamsOk m c prompt = true → cmdField c 16 4 ≠ 0 →
      s.inf.seqs.any (fun q => q.tenant == t && q.id == cmdField c 16 4) = false → m.maxSeq ≤ (s.seqsOf t slot).length → s.seqRefusal t c prompt = 0x77)) ∧
  (∀ (chunk col free : Nat) (q : Sequence) (r : List Sequence), ∃ p rest, promptCols chunk col free (q :: r) = p :: rest ∧ p.col = col ∧
    p.cols = min (min chunk (q.promptLen - q.promptDone)) (free - r.length) ∧ rest = promptCols chunk (col + p.cols) (free - p.cols) r)

/-- Cells and uplink reports. Under the conditions on the state and operands that the Lean names, each completes with the fields it names:
CELL_START, CELL_STOP, CELL_ON, CELL_OFF, RADIO_LIST_ADMIT, UL_REPORT, DEADLINE_MISS, INDICATION_RING_ROOM. (R389, R390, R392, R412, R414,
R573, R607, R394, R418, R595, R683, R398) -/
def Obligations.CellsAndReports : Prop :=
  (
  (∀ (s : State) (via : Nat) (b : List Byte) (k : CellCfg), isVia via = true → s.cellCfg (mCell b) = some k → msgHdrOk b = true → msgSlotOk k.mu b = true → mCount b = 0 →
    (∀ q, (s.cell (mCell b)).seqIn = some q → mSeq b = (q + 1) % 2 ^ 32) →
    (mTy b = 0x01 → b.length = 32 → byteField b 24 1 ≤ 3 → zeroAt b 25 7 = true → (s.cell (mCell b)).en.st = .off → s.time.everLocked = true →
      s.capUsed k.region + k.cost ≤ s.capNow k.region → s.slotsFull k = false →
      Gives (.cellStart via b) s (fun t => (t.cell (mCell b)).en.st = .starting ∧ (t.cell (mCell b)).onFrame = ceilDiv s.now frameTc + 2 ∧
        (t.cell (mCell b)).profile = byteField b 24 1 ∧ (t.cell (mCell b)).via = via ∧ (t.cell (mCell b)).seqIn = some (mSeq b) ∧
        t.mem = (s.placedSpans k.harqBase k.harqLen).foldl (fun (m : Mem) (p : Span) => m.clear p.1 p.2) s.mem)) ∧
    (mTy b = 0x02 → b.length = 24 → (s.cell (mCell b)).en.st = .on →
      Gives (.cellStop via b) s (fun t => (t.cell (mCell b)).en.st = .stopping ∧ (t.cell (mCell b)).reason = 0 ∧
        (t.cell (mCell b)).stop = some (slotStart k.mu s.now + slotTc k.mu * ((if k.mu = 3 then 4 else 2) + 1)) ∧ t.mem = s.mem))) ∧
  (∀ (s : State) (n : Nat), n < 512 →
    ((s.cell n).en.st = .starting → (s.cell n).en.pend = false → (s.cell n).onFrame * frameTc ≤ s.now →
      Gives (.cellOn n) s (fun t => (t.cell n).en.st = .on ∧ (t.cell n).muted = s.isStandby n ∧ (t.cell n).marked = (s.cell n).first - 1)) ∧
    ((s.cell n).en.st = .starting → s.now < (s.cell n).onFrame * frameTc → Gives (.cellOn n) s (fun t => t = s)) ∧
    ((s.cell n).en.st = .stopping → (∀ e, (s.cell n).stop = some e → e ≤ s.now) → (s.cell n).slots.all (fun w => w.pend.isEmpty) = true →
      s.radio.waiting.any (fun m => m.cell == n) = false → (s.cell n).next = none →
      Gives (.cellOff n) s (fun t => (t.cell n).en = {} ∧ (t.cell n).slots = [] ∧ t.mem = s.mem ∧
        t.radio.harq = s.radio.harq.filter (fun (p : Nat × Harq) => p.1 / 65536 != n))))) ∧
  (
  (∀ (s : State) (u len : Nat) (x : Ctx) (l : ListRec), isUnit u = true → u < 0x10000 → s.nextRadio u = some (x, l) →
    (s.now + len < s.windowEnd (x.cluster / 4) → Gives (.radioListAdmit u len none) s (fun t => t = s.launchList x l u)) ∧
    (s.windowEnd (x.cluster / 4) ≤ s.now + len → Gives (.radioListAdmit u len none) s (fun t => t = s))) ∧
  (∀ (s : State) (n at0 : Nat) (rs : List UlResult), n < 512 → ((s.cell n).en.st = .on ∨ (s.cell n).en.st = .stopping) → rs.length ≤ 64 → rs ≠ [] →
    rs.all (fun r => (((s.cell n).slotAt at0).pendOf r).isSome && decide (r.body.length < 65000)) = true → (rs.map (fun r => (r.kind, r.handle))).Nodup →
    Gives (.ulReport n at0 rs) s (fun t => t = s.writeReport n ((s.cell n).slotAt at0) rs)) ∧
  (∀ (q : Pending) (r : UlResult), (ulEntry q r).take 2 = [BitVec.ofNat 8 r.kind, BitVec.ofNat 8 ((r.flags &&& (255 - lateBit r.kind)) + (if q.late then lateBit r.kind else 0))] ∧
    byteField (ulEntry q r) 4 4 = r.handle % 2 ^ 32 ∧ (r.body.length < 65000 → 3 ≤ r.body.length → byteField (ulEntry q r) 2 2 = (ulEntry q r).length)) ∧
  (∀ (s : State) (n : Nat) (w : SlotWork) (q : Pending) (k : CellCfg), n < 512 → (s.cell n).slots.find? (fun w => (w.overdue s.now).isSome) = some w →
    w.overdue s.now = some q → s.cellCfg n = some k →
    Gives (.deadlineMiss n) s (fun t => t = ((s.setSlot n { w with pend := w.pend.map (fun (p : Pending) =>
      if p.kind = q.kind ∧ p.handle = q.handle then { p with late := true } else p) }).count (Reg.KUD_LATE_CNT k.region) 1).faultNote n 0x0D 0x28 w.ulSeq q.handle (tcStamp w.at0))) ∧
  (∀ (s : State) (m : SsiMsg) (r : List SsiMsg) (t : State), s.radio.waiting = m :: r → s.ringWrite (s.cell m.cell).via m.bytes = some t →
    Gives .indicationRingRoom s (fun u => u.radio.waiting = r ∧ u.mem = t.mem ∧ u.out = t.out)) ∧
  (∀ (s : State) (m : SsiMsg), s.radio.waiting = [m] → s.ringWrite (s.cell m.cell).via m.bytes = none → Gives .indicationRingRoom s (fun u => u = s)))

/-- Slot orders. Under the conditions on the state and operands that the Lean names, each completes with the fields it names: DL_ORDER,
TB_LOAD, UL_ORDER, SOFT_RELEASE, SLOT_MARK, DL_DEADLINE. (R410, R411, R407, R418) -/
def Obligations.RadioOrders : Prop :=
  (∀ (s : State) (via : Nat) (b : List Byte) (k : CellCfg) (n at0 : Nat) (u : State), isVia via = true → n = mCell b → s.cellCfg n = some k →
    msgHdrOk b = true → msgSlotOk k.mu b = true → at0 = stampTc (mSlot b) → (s.cell n).en.st ≠ .off →
    (∀ q, (s.cell n).seqIn = some q → mSeq b = (q + 1) % 2 ^ 32) → u = s.setCell n { s.cell n with seqIn := some (mSeq b) } →
    (∀ p ps, mTy b = 0x20 → splitPdus (mCount b) (b.drop 24) = some ps → (u.cell n).takes at0 = true → at0 ≤ u.now + 16 * slotTc k.mu → u.now < dlDeadline k.mu at0 →
      ((u.cell n).slotAt at0).dl = none → p = u.takePdus b ps 0 [] [] [] (fun _ acc _ q => dlChk k acc q) →
      Gives (.dlOrder via b) s (fun t => ((t.cell n).slotAt at0).dl = some (p.1.map (p.2.fixBeam n)) ∧ ((t.cell n).slotAt at0).dlSeq = mSeq b ∧
        t = p.2.setSlot n { (u.cell n).slotAt at0 with dl := some (p.1.map (p.2.fixBeam n)), dlSeq := mSeq b })) ∧
    (∀ ps, mTy b = 0x20 → splitPdus (mCount b) (b.drop 24) = some ps → (u.cell n).takes at0 = true → at0 ≤ u.now + 16 * slotTc k.mu → dlDeadline k.mu at0 ≤ u.now →
      ((u.cell n).slotAt at0).dl = none →
      Gives (.dlOrder via b) s (fun t => t = (u.setSlot n { (u.cell n).slotAt at0 with dlRefused := true }).refuseMsg 0x02 b)) ∧
    (∀ h cw d, mTy b = 0x21 → splitBlocks (mCount b) (b.drop 24) = some [(h, cw, d)] → (u.cell n).takes at0 = true → at0 ≤ u.now + 16 * slotTc k.mu →
      u.now < dlDeadline k.mu at0 → ((u.cell n).slotAt at0).tbs.any (fun o => o.2.1 == h && o.2.2.1 == cw) = false →
      Gives (.tbLoad via b) s (fun t => ((t.cell n).slotAt at0).tbs = ((u.cell n).slotAt at0).tbs ++ [(mSeq b, h, cw, d)] ∧ t.mem = s.mem)) ∧
    (∀ p ps h, mTy b = 0x28 → splitPdus (mCount b) (b.drop 24) = some ps → (u.cell n).takes at0 = true → at0 ≤ u.now + 16 * slotTc k.mu → u.now < ulDeadline k.mu at0 →
      ((u.cell n).slotAt at0).ul = none → p = u.takePdus b ps 0 [] [] [] (fun a acc bad q => a.ulChk n k acc bad q) → h = p.2.takeHarqs n (p.1.flatMap (owes n k.mu at0)) →
      Gives (.ulOrder via b) s (fun t => ((t.cell n).slotAt at0).ul = some p.1 ∧ ((t.cell n).slotAt at0).ulSeq = mSeq b ∧ ((t.cell n).slotAt at0).pend = h.1)) ∧
    (mTy b = 0x29 → mCount b = 1 → b.length = 32 → byteField b 28 4 = 0 → (byteField b 24 4 + 1) * k.harqEntry ≤ k.harqLen → (s.cell n).en.st = .on →
      (s.cell n).slots.any (fun w => w.decodes (byteField b 24 4)) = false →
      Gives (.softRelease via b) s (fun t => t.radio.harq.find (65536 * n + byteField b 24 4) = none ∧ t.mem = s.mem))) ∧
  (∀ (s : State) (n : Nat) (k : CellCfg), n < 512 → s.cellCfg n = some k →
    (∀ u, (s.cell n).en.st = .on → (s.cell n).marked < slotStart k.mu s.now →
      u = s.setCell n { s.cell n with
        marked := slotStart k.mu s.now
        slots := (s.cell n).slots.filter (fun w => !(decide (w.at0 + 16 * slotTc k.mu ≤ slotStart k.mu s.now) && w.pend.isEmpty)) } →
      Gives (.slotMark n) s (fun t => t = u.tellL2 n 0xA0 0 (tcStamp (slotStart k.mu s.now))
        (leBytes 8 (tcStamp (slotStart k.mu s.now + slotTc k.mu * ((if k.mu = 3 then 4 else 2) + 1))).toNat ++
          leBytes 8 ((s.cell n).slotAt (slotStart k.mu s.now - slotTc k.mu)).done ++ leBytes 8 0))) ∧
    ((s.cell n).en.st = .on → slotStart k.mu s.now ≤ (s.cell n).marked → Gives (.slotMark n) s (fun t => t = s)) ∧
    (∀ w, (s.cell n).slots.find? (fun w => !w.dlClosed && decide (dlDeadline k.mu w.at0 ≤ s.now)) = some w →
      Gives (.dlDeadline n) s (fun t => t = s.closeDl n w ∧ ((t.cell n).slotAt w.at0).dlClosed = true ∧ ((t.cell n).slotAt w.at0).dl = w.dl)))

/-- Fronthaul intake. Under the conditions on the state and operands that the Lean names, each completes with the fields it names:
FRAME_RECEIVE, RECEIVE_WINDOW_CLOSE, BURST_FFT, FH_LINK_CHANGE. (R429, R459, R437, R430, R442, R439, R443, R444, R651) -/
def Obligations.FronthaulIntake : Prop :=
  (∀ (s : State) (p : Nat) (f : List Byte), p < 16 → s.fhOn p = true → 64 ≤ f.length → f.length ≤ 9216 → s.replayed = false →
    (leNat (f.drop (f.length - 4)) ≠ (crc32 (f.take (f.length - 4))).toNat → Gives (.frameReceive p f) s (fun t => t = s.count (Reg.FHL_CNT p 1) 1)) ∧
    (leNat (f.drop (f.length - 4)) = (crc32 (f.take (f.length - 4))).toNat →
      Gives (.frameReceive p f) s (fun t => t = ((s.count (Reg.FHL_CNT p 0) 1).logIn 3 0x10 p 0 (f.take (f.length - 4))).frameIn p (f.take (f.length - 4))))) ∧
  (∀ (s : State) (p : Nat) (f : List Byte), (s.l2Ok p f = false → s.frameIn p f = s.count (Reg.FHL_CNT p 2) 1) ∧
    (s.l2Ok p f = true → beField f (s.l2Len p - 2) 2 = 0xAEFE → ecpri (f.drop (s.l2Len p)) = none → s.frameIn p f = s.count (Reg.FHL_CNT p 3) 1) ∧
    (∀ id q b, s.l2Ok p f = true → beField f (s.l2Len p - 2) 2 = 0xAEFE → ecpri (f.drop (s.l2Len p)) = some (id, q, b) → s.eaxcOf p id = none →
      s.frameIn p f = s.count (Reg.FHL_CNT p 4) 1) ∧
    (∀ id q b e k, s.l2Ok p f = true → beField f (s.l2Len p - 2) 2 = 0xAEFE → ecpri (f.drop (s.l2Len p)) = some (id, q, b) → s.eaxcOf p id = some e →
      s.cellCfg e.cell = some k → e.kind ≠ 3 → s.front.seqIn.find e.idx = some ((q + 255) % 256) → q < 256 →
      s.frameIn p f = { s with front := { s.front with seqIn := s.front.seqIn.set e.idx q } }.uplane p e k b)) ∧
  (∀ (s : State) (p : Nat) (e : Eaxc) (k : CellCfg) (at0 sym : Nat) (x : Section) (ws : List Word) (sat : Nat), p < 16 → e.cluster < 48 → x.prbs = [(ws, sat)] →
    ((s.cell e.cell).ulLive at0 = false → s.cellFrame p e k at0 sym [x] = s.count (Reg.FHL_CNT p 5) 1) ∧
    ((s.cell e.cell).ulLive at0 = true → s.rxClose e.cell (symStart k.mu at0 sym) ≤ s.now → s.cellFrame p e k at0 sym [x] = s.count (Reg.FHL_CNT p 6) 1) ∧
    ((s.cell e.cell).ulLive at0 = true → s.now < s.rxClose e.cell (symStart k.mu at0 sym) → (s.rxOf e.idx at0 sym).got.contains x.first = true →
      s.cellFrame p e k at0 sym [x] = s.count (Reg.FHL_CNT p 7) 1) ∧
    ((s.cell e.cell).ulLive at0 = true → s.now < s.rxClose e.cell (symStart k.mu at0 sym) → (s.rxOf e.idx at0 sym).got.contains x.first = false →
      x.first < k.nrb → ws.length = 12 →
      (s.cellFrame p e k at0 sym [x]).mem = (s.ringWriteAt e ((e.row k at0 sym).1 + 48 * x.first) (wordBytes ws)).mem)) ∧
  (∀ (s : State) (i sym : Nat) (e : Eaxc) (k : CellCfg) (w : SlotWork), i < 8192 → e = s.eaxc i → s.cellCfg e.cell = some k → e.kind = 1 → e.dir = 0 → sym < 14 →
    (s.cell e.cell).slots.find? (fun w => w.ul.isSome && !(s.rxOf i w.at0 sym).released && decide (s.rxClose e.cell (symStart k.mu w.at0 sym) ≤ s.now)) = some w →
    Gives (.receiveWindowClose i sym) s (fun t => t = s.closeSym e k w sym ∧ t.mem = (((List.range k.nrb).filter (fun j => !(s.rxOf i w.at0 sym).got.contains j)).foldl
      (fun (a : State) j => a.ringWriteAt e ((e.row k w.at0 sym).1 + 48 * j) (List.replicate 48 0)) s).mem)) ∧
  (∀ (s : State) (i sym nfft cp : Nat) (e : Eaxc) (k : CellCfg) (u : Burst) (rest : List Burst) (bins : List Word), i < 8192 → e = s.eaxc i → s.cellCfg e.cell = some k → e.kind = 3 →
    (s.front.bst.get {} e.bst).bursts = u :: rest → u.next = sym → sym < 14 → (s.rxOf i u.at0 sym).released = false → nfft = s.nFft e.bst →
    cp = cpLen k.mu nfft u.at0 sym → bins = Config.bstFft nfft ((u.samples.drop (symSample k.mu nfft u.at0 sym + cp - cp / 4)).take nfft) →
    Gives (.burstFft i sym) s (fun t => t.mem = (s.ringWriteAt e (e.row k u.at0 sym).1
        (wordBytes ((List.range (12 * k.nrb)).map (fun j => bins.getD ((j + nfft - 6 * k.nrb % nfft) % nfft) 0)))).mem ∧
      (t.front.bst.get {} e.bst).bursts = (if sym = 13 then rest else { u with next := sym + 1 } :: rest))) ∧
  (∀ (s : State) (p : Nat) (link align : Bool), p < 16 →
    Gives (.fhLinkChange p link align) s (fun t => t.front.link.get (false, false) p = (link, align) ∧
      ((s.host.ports.get {} p).st ≠ .starting → t.host.ports = s.host.ports) ∧
      (link = true → (s.host.ports.get {} p).st = .starting → (s.host.ports.get {} p).pend = false → (t.host.ports.get {} p).st = .on)))

/-- Fronthaul egress and the shaper. Under the conditions on the state and operands that the Lean names, each completes with the fields it
names: EGRESS_BUILD, GATE_OPEN, GATE_CLOSE_DROP, SHAPER_SELECT, SHP_HIST_SAMPLE, SHP_HIST_CLR. (R445, R461, R450, R465, R467, R475, R449,
R463, R464) -/
def Obligations.FronthaulEgress : Prop :=
  (
  (∀ (s : State) (n at0 sym : Nat) (k : CellCfg), n < 512 → s.cellCfg n = some k → s.maySend n at0 = true →
    (∀ l all mine, sym < 14 → ((s.cell n).slotAt at0).dl = some l → ((s.cell n).slotAt at0).dlRefused = false → all = dlSections k (s.fhCell n 3 13 1 == 1) l →
      mine = all.filter (fun x => decide (x.sym ≤ sym) && decide (sym < x.sym + x.nSym)) →
      Gives (.egressBuild n at0 sym) s (fun t => t = (s.streams n 1).foldl (fun s e => mine.foldl (fun s x => s.uSection e k at0 sym x) (s.buildC k e at0 all)) s)) ∧
    (∀ l, ((s.cell n).slotAt at0).ul = some l → (s.streams n 0).all (fun e => e.kind == 1) = true →
      Gives (.egressBuild n at0 14) s (fun t => t = (s.streams n 0).foldl (fun s e => s.buildC k e at0 (ulSections k l)) s))) ∧
  (∀ (s : State) (n at0 sym : Nat) (k : CellCfg), n < 512 → sym ≤ 14 → s.cellCfg n = some k → s.maySend n at0 = false → Gives (.egressBuild n at0 sym) s (fun t => t = s)) ∧
  (∀ (s : State) (q : Nat) (p : Packet), (s.regBits (Reg.SHP_Q q) 18 16 * 1024 < (s.shpQ q).bytes + p.len ∨ 2 ^ 25 < s.shpBytes + p.len) →
    s.enqFh q p = (s.count (Reg.SHP_DROP_FULL (s.shpPort q)) 1).count (Reg.FHL_CNT (s.shpPort q) 14) 1)) ∧
  (
  (∀ (s : State) (q : Nat) (p : Packet) (r : List Packet), q < 16384 → (s.shpQ q).pkts = p :: r →
    ((s.shpQ q).active = false → p.open s.now = true →
      Gives (.gateOpen q) s (fun t => (t.shpQ q).active = true ∧ (t.shpQ q).pkts = p :: r ∧
        (t.shpQ q).tag = laterOf (s.front.v.get 0 (s.shpPort q)) (s.shpQ q).f + BitVec.ofNat 64 (ceilDiv (s.charged (s.shpPort q) p.len * 4096) (s.shpWeight q)))) ∧
    ((s.shpQ q).active = true → Gives (.gateOpen q) s (fun t => t = s)) ∧
    (∀ g c, p.gate = some (g, c) → c ≤ s.now → s.shpPort q < 16 →
      Gives (.gateCloseDrop q) s (fun t => (t.shpQ q).pkts = r ∧ (t.shpQ q).f = (s.shpQ q).f ∧ t.front.v = s.front.v ∧
        t.reg (Reg.SHP_DROP_GATE (s.shpPort q)) = (s.reg (Reg.SHP_DROP_GATE (s.shpPort q)) + 1) % 2 ^ 32)) ∧
    (∀ g c, p.gate = some (g, c) → s.now < c → Gives (.gateCloseDrop q) s (fun t => t = s))) ∧
  (∀ (s : State) (port q : Nat) (x : ShpQueue) (p : Packet) (r : List Packet), port < 19 → s.portUp port = true →
    leastBy (s.candidates port) (fun p => (p.2.tag - s.front.v.get 0 port + BitVec.ofNat 64 (2 ^ 63)).toNat) = some (q, x) → x.pkts = p :: r →
    Gives (.shaperSelect port) s (fun t => t.front.v.get 0 port = x.tag ∧ (t.shpQ q).f = x.tag ∧ (t.shpQ q).pkts = r ∧ t.mem = s.mem ∧
      (port < 16 → s.replayed = false → t.out.getLast? = some (.fh port (p.frame ++ leBytes 4 (crc32 p.frame).toNat))))) ∧
  (∀ (s : State) (port : Nat), port < 19 → s.candidates port = [] → Gives (.shaperSelect port) s (fun t => t = s)) ∧
  (∀ (s : State), (s.sampleAt ≤ s.front.sampled → Gives .shpHistSample s (fun t => t = s)) ∧
    (s.front.sampled < s.sampleAt → Gives .shpHistSample s (fun t => t.front.sampled = s.sampleAt ∧ t.regs = s.regs ∧ t.front.queues = s.front.queues))) ∧
  (∀ (s : State), s.replayed = false → Gives .shpHistClr s (fun t =>
    t.front.hist = s.front.hist.filter (fun (p : Nat × Nat) => p.1 / 32 != s.regBits Reg.SHP_HIST_SEL 0 14) ∧ t.front.queues = s.front.queues)))

/-- Migrations of pages and upkeep of memory. Under the conditions on the state and operands that the Lean names, each completes with the
fields it names: MIGRATION_START, MIGRATION_LINE, MIGRATION_SWITCH, FRAME_FREE, MEMORY_REFRESH, SCRUB, MEM_LOG_ACK. (R503, R498, R501, R502,
R489, R514, R521, R499, R191, R513, R506) -/
def Obligations.PagesAndUpkeep : Prop :=
  (
  (∀ (s : State) (page : Nat) (m : Migration), s.mig page = some m →
    (m.started = false → ((s.tiers.migs.filter (fun x => x.dir.region == m.dir.region)).filter (fun x => x.started)).length < 16 →
      (s.tiers.migs.filter (fun x => x.dir.region == m.dir.region)).find? (fun x => !x.started) = some m →
      Gives (.migrationStart page) s (fun t => t.mig page = some { m with started := true } ∧ t.mem = s.mem)) ∧
    (m.started = true → m.line < m.lines → s.migAdmitted m = true → (s.sched.band.get {} m.dir.region).wr + 64 ≤ s.share m.dir.region 1 →
      (m.fill = false → (s.sched.band.get {} m.dir.region).rd + 64 ≤ s.share m.dir.region 0) →
      Gives (.migrationLine page) s (fun t => t.mig page = some { m with line := m.line + 1 } ∧ t.tiers.pages = s.tiers.pages ∧
        t.mem = (if m.fill then s.mem else s.mem.copy (frameAt (s.page page).tier (s.page page).die (s.page page).frame (64 * m.line))
          (frameAt m.toTier m.toDie m.toFrame (64 * m.line)) 64))) ∧
    (m.started = true → m.line < m.lines → s.migAdmitted m = false → Gives (.migrationLine page) s (fun t => t = s)) ∧
    (m.lines ≤ m.line → m.fill = false → m.dir.large = false → (s.page page).shared = false → s.tiers.waiting = [] → m.toTier ≠ 0 →
      Gives (.migrationSwitch page) s (fun t => t.mig page = none ∧ t.mem = s.mem ∧
        t.page page = { s.page page with tier := m.toTier, die := m.toDie, frame := m.toFrame, moving := false } ∧
        t.tiers.old = s.tiers.old ++ [{ tier := (s.page page).tier, die := (s.page page).die, frame := (s.page page).frame, count := 1, at0 := s.time.hub }]))) ∧
  (∀ (s : State), Gives .frameFree s (fun t => t.tiers.old = s.tiers.old.filter (fun o => !decide (o.at0 + 64 ≤ s.time.hub)) ∧ t.mem = s.mem ∧ t.tiers.pages = s.tiers.pages))) ∧
  (
  (∀ (s : State) (d bank : Nat) (mere : Bool), d < 4 → Gives (.memoryRefresh d mere bank) s (fun t => t = s)) ∧
  (∀ (s : State) (d i k tier l : Nat) (mere : Bool), d < 4 → tier = (if mere then 2 else 1) → k = (if mere then 4 + d else d) → i = s.tiers.scrub.get 0 k →
    l = frameAt tier d 0 (64 * i) → s.tiers.poison.any (fun p => Span.hits (l, 64) p) = false → s.tiers.weak.any (fun p => Span.hits (l, 64) p) = false →
    s.tiers.bad.any (fun p => Span.hits (l, 64) p) = false →
    Gives (.scrub d mere) s (fun t => t.tiers.scrub.get 0 k = (i + 1) % (tierFrames tier * 1024) ∧ t.mem = s.mem ∧ t.tiers.poison = s.tiers.poison ∧
      t.reg (Reg.MEM_DIE_HUB_SLOTS d) = (s.reg (Reg.MEM_DIE_HUB_SLOTS d) + 1) % 2 ^ 64)) ∧
  (∀ (s : State) (l : Nat), (s.poisonLine l).tiers.poison = s.tiers.poison ++ [l] ∧ (s.poisonLine l).tiers.bad = s.tiers.bad.filter (fun k => k != l) ∧
    (s.poisonLine l).mem = s.mem) ∧
  (∀ (s : State) (l : Nat), (s.fixLine l).tiers.weak = s.tiers.weak.filter (fun k => k != l) ∧ (s.fixLine l).tiers.poison = s.tiers.poison ∧ (s.fixLine l).mem = s.mem) ∧
  (∀ (s : State) (n : Nat), s.replayed = false →
    Gives (.memLogAck n) s (fun t => t.reg Reg.MEM_LOG_COUNT = s.reg Reg.MEM_LOG_COUNT - min (n % 2 ^ 11) (s.reg Reg.MEM_LOG_COUNT) ∧
      t.reg Reg.MEM_LOG_TAIL = (s.reg Reg.MEM_LOG_TAIL + min (n % 2 ^ 11) (s.reg Reg.MEM_LOG_COUNT)) % 1024)))

/-- Links and paths of the fabric. Under the conditions on the state and operands that the Lean names, each completes with the fields it
names: FLIT_RECEIVE, NAK_RECEIVE, ACK_TIMEOUT, LINK_LOST, LOSS_OF_SIGNAL, LINK_TRAINED, PATH_RETRY, PATH_OK, PATH_LOST, PATH_RETRY_LAPSE.
(R526, R527, R529, R525, R528, R607, R551, R609, R553, R725) -/
def Obligations.LinksAndPaths : Prop :=
  (
  (∀ (s : State) (p : Nat) (b : List Byte), p < 3 → s.replayed = false → (s.port p).live = true → b.length = 256 →
    ((crc32 (b.take 252)).toNat ≠ byteField b 252 4 → (s.port p).naked = false →
      Gives (.flitReceive p b) s (fun t => (t.port p).naked = true ∧ (t.port p).rxSeq = (s.port p).rxSeq ∧ t.out = s.out ++ [.linkAck p (s.port p).rxSeq true] ∧
        t.reg (Reg.FAB_PORT_CRC p) = (s.reg (Reg.FAB_PORT_CRC p) + 1) % 2 ^ 32)) ∧
    ((crc32 (b.take 252)).toNat = byteField b 252 4 → (byteField b 2 2).testBit 12 = false → byteField b 0 2 % 4096 = (s.port p).rxSeq →
      byteField b 0 2 / 4096 ≠ 0 → (s.port p).held = [] →
      Gives (.flitReceive p b) s (fun t => (t.port p).rxSeq = ((s.port p).rxSeq + 1) % 4096 ∧ (t.port p).naked = false ∧ t.out = s.out ++ [.linkAck p (s.port p).rxSeq false])) ∧
    ((crc32 (b.take 252)).toNat = byteField b 252 4 → (byteField b 2 2).testBit 12 = false → byteField b 0 2 % 4096 ≠ (s.port p).rxSeq →
      byteField b 0 2 / 4096 ≠ 0 → (s.port p).held = [] → (s.port p).naked = false →
      Gives (.flitReceive p b) s (fun t => (t.port p).rxSeq = (s.port p).rxSeq ∧ (t.port p).naked = true ∧ t.out = s.out ++ [.linkAck p (s.port p).rxSeq true]))) ∧
  (∀ (s : State) (p seq : Nat) (f : Flit) (r : List Flit), p < 3 → s.replayed = false → seq < 4096 → (s.port p).link = .up → (s.port p).held = f :: r →
    indexOf (f :: r) (fun x => x.seq == (seq + 4095) % 4096) = none →
    (∀ i, indexOf (f :: r) (fun x => x.seq == seq) = some i →
      Gives (.nakReceive p seq) s (fun t => (t.port p).link = .replay ∧ (t.port p).held = f :: r ∧ t.reg (Reg.FAB_PORT_REPLAY p) = (s.reg (Reg.FAB_PORT_REPLAY p) + 1) % 2 ^ 32 ∧
        t.out = s.out ++ [.replay p (((f :: r).drop i).map (fun x => x.seq))])) ∧
    (f.seq = seq → (s.port p).ackAt + 525 ≤ s.time.hub →
      Gives (.ackTimeout p) s (fun t => (t.port p).link = .replay ∧ (t.port p).held = f :: r ∧ t.out = s.out ++ [.replay p ((f :: r).map (fun x => x.seq))])) ∧
    (s.time.hub < (s.port p).ackAt + 525 → Gives (.ackTimeout p) s (fun t => t = s))) ∧
  (∀ (s : State) (p : Nat), p < 3 → s.fab.reqs = [] →
    ((s.port p).live = true → (s.port p).held.any (fun f => decide (f.at0 + 2400 ≤ s.time.hub)) = true →
      Gives (.linkLost p) s (fun t => (t.port p).link = .train ∧ (t.port p).held = [] ∧ (t.port p).txSeq = 0 ∧ (t.port p).rxSeq = 0 ∧
        t.reg (Reg.FAB_PORT_LOST p) = (s.reg (Reg.FAB_PORT_LOST p) + 1) % 2 ^ 32)) ∧
    ((s.port p).link ≠ .down → Gives (.lossOfSignal p) s (fun t => (t.port p).link = .down ∧ (t.port p).held = [] ∧ t.mem = s.mem)) ∧
    ((s.port p).link = .train → s.start.served = true → (s.host.ports.get {} (16 + p)).st = .on →
      Gives (.linkTrained p) s (fun t => (t.port p).link = .up ∧ (t.port p).txSeq = 0 ∧ (t.port p).rxSeq = 0 ∧ (t.port p).held = [] ∧ (t.host.ports.get {} (16 + p)).st = .on)))) ∧
  (
  (∀ (s : State) (p node : Nat), p < 3 →
    Gives (.pathRetry p node) s (fun t => t.pathRetry p node = true ∧
      (∀ r ∈ s.fab.reqs, r.plane = p → r.txn.dest % 4096 = node → r.st = .sent → { r with st := .held, ran := r.ran + (s.now - r.since) } ∈ t.fab.reqs)) ∧
    (s.fab.reqs = [] → Gives (.pathOk p node) s (fun t => t.pathLost p node = false ∧ t.fab.paths = s.fab.paths.filter (fun n => !(n.plane == p && n.node == node)))) ∧
    (s.fab.reqs = [] → Gives (.pathLost p node) s (fun t => t.pathLost p node = true)) ∧
    (∀ r u, s.fab.reqs = [r] → r.plane = p → r.txn.dest % 4096 = node → r.st = .sent → r.txn.op ≠ 3 →
      u = { s with fab := { s.fab with paths := s.fab.paths.filter (fun (n : PathNote) => !(n.plane == p && n.node == node)) ++ [({ plane := p, node := node, lost := true, at0 := s.now } : PathNote)] } } →
      Gives (.pathLost p node) s (fun t => t = u.abandon r 0xB0)) ∧
    (s.fab.paths.any (fun n => n.plane == p && n.node == node && !n.lost && decide (n.at0 + usTc 2 ≤ s.now)) = true → (s.port p).link ≠ .replay →
      Gives (.pathRetryLapse p node) s (fun t => t.pathRetry p node = false))) ∧
  (∀ (s : State) (node p : Nat), p ∈ s.planes node ↔ p < 3 ∧ (s.port p).link = .up ∧ s.pathLost p node = false))

/-- Requests that other devices make. Under the conditions on the state and operands that the Lean names, each completes with the fields it
names: FAB_LOAD, FAB_STORE, FAB_ATOMIC, FAB_TILE_WR, FAB_TILE_RD, FAB_HANDLE, FAB_GROUP. (R544, R89, R548, R557, R545, R94, R679, R559,
R563, R572) -/
def Obligations.InboundRequests : Prop :=
  (∀ (s : State) (p : Nat) (t : Txn) (u : State) (es : List Ratc) (e : Ratc) (n : Nat), p < 4 → (p < 3 → (s.port p).live = true ∧ s.replayed = false) →
    t.dest = s.self → t.reqOk = true → s.fab.inq.length < 8192 →
    u = { (if p < 3 then s.logIn 4 0x20 p 0 (t.header ++ t.data) else s) with
      rpl := { (if p < 3 then s.logIn 4 0x20 p 0 (t.header ++ t.data) else s).rpl with inSeq := s.rpl.nextSeq } } →
    es = (u.ratcEntries t).getD [] → u.entryChk t es = (0, some e) → u.inWaits e t = false → n = (u.inSpans e t).foldl (fun k q => k + q.2) 0 →
    (∀ rd, (u.acct (ownerAcct e.owner) 13 n).readSpans (u.inSpans e t) e.owner = (false, rd) →
      (t.op = 1 → Gives (.fabLoad p t) s (fun x => x = rd.respond p t 0x81 0 (rd.rdSpans (u.inSpans e t)))) ∧
      (t.op = 5 → Gives (.fabTileRd p t) s (fun x => x = rd.respond p t 0x81 0 (rd.rdSpans (u.inSpans e t)))) ∧
      (∀ w m v, t.op = 3 → s.replyOf t.opfield = none → s.fab.replies.length < 65536 → s.atomicWaits t.opfield = false → t.flags % 2 = 0 → e.owner ≠ 0x401 →
        e.owner ≠ 0x400 → (List.range 16).all (fun i => !bit (s.regs.get 0 (Reg.FAB_SSI_IN i)) 0) = true →
        w = (if t.aux.testBit 4 then 8 else 4) → m = leNat (rd.rdSpans (u.inSpans e t)) →
        v = rd.wrSpans (u.inSpans e t) (leBytes w (atomicOp (t.aux % 16) w m (byteField t.data 0 8) (byteField t.data 8 8))) →
        Gives (.fabAtomic p t) s (fun x => x.mem = v.mem ∧ ∃ k ∈ x.fab.replies, k.id = t.opfield ∧ k.resp.op = (if t.aux.testBit 5 then 0x83 else 0x82) ∧
          k.resp.data = (if t.aux.testBit 5 then leBytes 8 m else []) ∧ k.at0 = s.now))) ∧
    (t.op = 2 → s.isMail t = false → Gives (.fabStore p t) s (fun x => x = ((u.acct (ownerAcct e.owner) 13 n).wrSpans (u.inSpans e t) t.data).respond p t 0x82 0 [])) ∧
    (t.op = 4 → Gives (.fabTileWr p t) s (fun x => x = ((u.acct (ownerAcct e.owner) 13 n).wrSpans (u.inSpans e t) t.data).respond p t 0x82 0 [])) ∧
    (∀ y, t.op = 6 → u.ctx? e.ctx = some y → y.id = e.ctx → Gives (.fabHandle p t) s (fun x => ∃ z h, x.ctx? e.ctx = some z ∧ z.hqueue (t.aux % 8) = y.hqueue (t.aux % 8) ++ [h] ∧
      h.base = e.target t t.offset ∧ h.len = t.handleLen ∧ h.visible = false ∧ x.mem = s.mem))) ∧
  (∀ (s : State) (p : Nat) (t : Txn), p < 4 → (p < 3 → (s.port p).live = true ∧ s.replayed = false) →
    (t.op = 1 → (t.dest ≠ s.self ∨ t.reqOk = false) →
      Gives (.fabLoad p t) s (fun x => x = ((s.count Reg.FAB_ROUTE_CNT 1).fabEvt 0x40).respond p t 0x85 0xB8 [])) ∧
    (t.op = 1 → t.dest = s.self → t.reqOk = true → 8192 ≤ s.fab.inq.length → Gives (.fabLoad p t) s (fun x => x = s.nack p t 0x10)) ∧
    (t.op = 7 → t.dest = s.self → t.reqOk = true → s.fab.inq.length < 8192 → p = 3 → byteField t.data 0 1 = gmJoin →
      (s.group (byteField t.data 1 1)).owner = true → (s.group (byteField t.data 1 1)).st = .arming →
      (s.group (byteField t.data 1 1)).members.any (fun m => m.node == t.src % 4096) = true →
      Gives (.fabGroup p t) s (fun x => (x.group (byteField t.data 1 1)).members =
        (s.group (byteField t.data 1 1)).members.map (fun m => if m.node = t.src % 4096 then { m with joined := true, idx := byteField t.data 2 1 } else m)))) ∧
  (∀ (op w m a b : Nat), op < 10 → (w = 4 ∨ w = 8) → m < 2 ^ (8 * w) → atomicOp op w m a b < 2 ^ (8 * w)) ∧
  (∀ (w m a b : Nat), (w = 4 ∨ w = 8) → m < 2 ^ (8 * w) → atomicOp 0 w m a b = (m + a) % 2 ^ (8 * w) ∧ atomicOp 8 w m a b = a % 2 ^ (8 * w) ∧
    (m = a → atomicOp 9 w m a b = b % 2 ^ (8 * w)) ∧ (m ≠ a % 2 ^ (8 * w) → atomicOp 9 w m a b = m))

/-- Responses to the device's own requests. Under the conditions on the state and operands that the Lean names, each completes with the
fields it names: FAB_DATA, FAB_ACK, FAB_RESULT, FAB_NACK, FAB_ERROR, REQUEST_TIMEOUT, NACK_BACKOFF_END, ATOMIC_UNKNOWN, REPLY_CACHE_FREE.
(R553, R557, R552, R560, R559, R558, R554) -/
def Obligations.FabricResponses : Prop :=
  (∀ (s : State) (p : Nat) (t : Txn) (r : Req) (u : State), p < 4 → (p < 3 → (s.port p).live = true ∧ s.replayed = false) → t.dest = s.self →
    s.fab.reqs.find? (fun r => r.tag == t.tag && r.fits t) = some r →
    u = (if p < 3 then s.logIn 4 0x21 p 0 (leBytes 16 r.key.toNat ++ t.header ++ t.data) else s) →
    (t.op = 0x81 → Gives (.fabData p t) s (fun x => x = u.reqDone r t)) ∧
    (t.op = 0x82 → Gives (.fabAck p t) s (fun x => x = u.reqDone r t)) ∧
    (t.op = 0x83 → Gives (.fabResult p t) s (fun x => x = u.reqDone r t)) ∧
    (t.op = 0x84 → r.nacks + 1 ≤ s.regBits Reg.FAB_CFG 24 7 → Gives (.fabNack p t) s (fun x => x.reg Reg.FAB_NACK_RX = (s.reg Reg.FAB_NACK_RX + 1) % 2 ^ 32 ∧
      ∃ q ∈ x.fab.reqs, q.tag = r.tag ∧ q.st = .backoff ∧ q.nacks = r.nacks + 1 ∧ s.now + nsTc (bits t.opfield 0 32) ≤ q.due)) ∧
    (t.op = 0x85 → ¬ (r.txn.op = 3 ∧ t.status = 0xBD) → Gives (.fabError p t) s (fun x => x = u.endReq r t.status)) ∧
    (t.op = 0x85 → r.txn.op = 3 → t.status = 0xBD → Gives (.fabError p t) s (fun x => x = ((u.count Reg.FAB_UNKNOWN_CNT 1).fabEvt 4).endReq r 0xB2))) ∧
  (∀ (s : State) (p : Nat) (t : Txn), p < 3 → (s.port p).live = true → s.replayed = false → t.op = 0x82 →
    s.fab.reqs.any (fun r => r.tag == t.tag) = false → Gives (.fabAck p t) s (fun x => x = s.count Reg.FAB_LATE_RESP 1)) ∧
  (∀ (s : State) (r : Req) (t : Txn) (k : Nat), r.serves = .hub k → (k < 1000 ∨ (1256 ≤ k ∧ k < 2000)) →
    (s.reqDone r t).fab.reqs = s.fab.reqs.filter (fun q => q.tag != r.tag)) ∧
  (∀ (s : State) (r : Req) (code k : Nat), r.serves = .hub k → k < 1000 → (s.endReq r code).fab.reqs = s.fab.reqs.filter (fun q => q.tag != r.tag)) ∧
  (∀ (s : State) (tag : Nat) (r : Req), s.req? tag = some r →
    (r.st = .sent → s.reqLimit r ≤ r.ran + (s.now - r.since) → s.replayed = false →
      (r.txn.op ≠ 3 → Gives (.requestTimeout tag) s (fun x => x = s.abandon r 0xB1)) ∧
      (r.txn.op = 3 → Gives (.requestTimeout tag) s (fun x => x = s.reissue r))) ∧
    (r.st = .backoff → r.due ≤ s.now → r.plane < 3 → (s.port r.plane).link = .up → s.pathLost r.plane (r.txn.dest % 4096) = false →
      Gives (.nackBackoffEnd tag) s (fun x => x = (s.setReq { r with st := if s.pathRetry r.plane (r.txn.dest % 4096) then .held else .sent, ran := 0, since := s.now }).queueFlits
        (s.reqQueue r.region r.plane) r.txn)) ∧
    (r.txn.op = 3 → r.first + usTc 2000 < s.now → Gives (.atomicUnknown tag) s (fun x => x = ((s.count Reg.FAB_UNKNOWN_CNT 1).fabEvt 4).endReq r 0xB2)) ∧
    (r.st = .sent → r.ran + (s.now - r.since) < s.reqLimit r → Gives (.requestTimeout tag) s (fun x => x = s))) ∧
  (∀ (s : State), Gives .replyCacheFree s (fun x => x.fab.replies = s.fab.replies.filter (fun r => decide (s.now < r.at0 + usTc 2000)) ∧ x.fab.reqs = s.fab.reqs))

/-- Time beacons and the RATC. Under the conditions on the state and operands that the Lean names, each completes with the fields it names:
FAB_BEACON, FAB_ECHO_REQ, FAB_ECHO_RESP, BEACON_SEND, ECHO_REQ_SEND, RATC_INSERT, RATC_REMOVE, RATC_READ, RATC_REMOVE_DONE. (R69, R568,
R570, R543, R569, R582, R725) -/
def Obligations.BeaconsAndRatc : Prop :=
  (
  (∀ (s : State) (p : Nat) (t : Txn), p < 3 → t.op = 8 → t.data.length = 16 → t.dest = s.self → s.replayed = false → s.srcEnabled 3 = true → (s.port p).live = true →
    (t.src % 4096 = s.beaconNode → Gives (.fabBeacon p t) s (fun x => x.time.bcnLast = s.now ∧ x.time.bcnRx.find p = some (stamp64 t.data 0, (s.now64 : Int)) ∧ x.time.tc = s.time.tc)) ∧
    (t.src % 4096 ≠ s.beaconNode → t.src % 4096 ≠ s.regBits Reg.TIM_BCN_CFG 0 12 → Gives (.fabBeacon p t) s (fun x => x = s))) ∧
  (∀ (s : State) (p : Nat) (t : Txn), p < 3 → t.op = 9 → t.data.length = 16 → t.dest = s.self → s.beaconSource = true → (s.port p).live = true → s.fab.followers.length < 4095 →
    Gives (.fabEchoReq p t) s (fun x => x.fab.followers.find (t.src % 4096) = some s.now ∧
      x = { s with fab := { s.fab with followers := s.fab.followers.set (t.src % 4096) s.now } }.queueFlits (s.bcnQueue p) { op := 0x89, len := 32, dest := t.src, src := s.self, job := 0xFFFFF, data := t.data.take 9 ++ List.replicate 7 0 ++ leBytes 8 (tcStamp s.now).toNat ++ leBytes 1 (s.now64 % 64) ++ List.replicate 7 0 })) ∧
  (∀ (s : State) (p : Nat) (t : Txn) (t0 r t1 : Int), p < 3 → t.op = 0x89 → t.data.length = 32 → t.dest = s.self → t.src % 4096 = s.beaconNode → s.replayed = false →
    t1 = stamp64 t.data 0 → s.time.bcnRx.find p = some (t0, r) → s.time.echoT1.find p = some t1 → s.time.bcnRx.any (fun q => decide (q.1 < p)) = false →
    Gives (.fabEchoResp p t) s (fun x => x = { s with time := { s.time with bcnRx := [], echoT1 := s.time.echoT1.del p } }.beaconOfs
      (r - (t0 + (((s.now64 : Int) - t1) - (((stampTc t.opfield * 64 + t.aux % 64 : Nat) : Int) - stamp64 t.data 16)) / 2 + signed 32 (s.regBits Reg.TIM_BCN_ASYM 0 32))))) ∧
  (∀ (s : State) (e : Int), s.time.bcn.qual = false → s.time.bcn.run + 1 < 8 →
    (s.time.st = .locked → e.natAbs ≤ ns64 32 → (s.beaconOfs e).time.bcn.run = s.time.bcn.run + 1 ∧ (s.beaconOfs e).time.bcn.ofs = e) ∧
    (s.time.st = .locked → ns64 32 < e.natAbs → (s.beaconOfs e).time.bcn.run = 0)) ∧
  (∀ (s : State), s.beaconSource = true → s.fab.followers = [] → s.beaconIdx s.now ≠ s.fab.beaconK →
    Gives .beaconSend s (fun x => x = { s with fab := { s.fab with beaconK := s.beaconIdx s.now } })) ∧
  (∀ (s : State) (p : Nat) (node : Nat), s.beaconSource = true → p < 3 → s.fab.followers = [(node, s.now)] → s.beaconIdx s.now ≠ s.fab.beaconK →
    [0, 1, 2].filter (fun k => (s.port k).link == .up) = [p] →
    Gives .beaconSend s (fun x => x = { s with fab := { s.fab with beaconK := s.beaconIdx s.now } }.queueFlits (s.bcnQueue p)
      { op := 8, len := 16, dest := node + s.self / 4096 * 4096, src := s.self, job := 0xFFFFF, data := List.replicate 16 0 })) ∧
  (∀ (s : State) (p half : Nat), s.srcEnabled 3 = true → s.replayed = false → half = s.regBits Reg.TIM_BCN_CFG 24 16 * 98304 / 100 → half ≤ s.now →
    s.beaconIdx (s.now - half) ≠ s.fab.echoK → p < 3 → [0, 1, 2].filter (fun k => (s.port k).link == .up) = [p] →
    Gives .echoReqSend s (fun x => x = { s with fab := { s.fab with echoK := s.beaconIdx (s.now - half) } }.queueFlits (s.bcnQueue p)
      { op := 9, len := 16, dest := s.beaconNode + s.self / 4096 * 4096, src := s.self, job := 0xFFFFF, data := List.replicate 16 0 }))) ∧
  (
  (∀ (s : State) (e : Ratc), s.replayed = false → e = s.staged →
    (∀ i, s.ratcAt e.job e.cls e.granule = none → ((List.range 8).map (fun w => 8 * ratcSet e.job e.cls e.granule + w)).find? (fun i =>
        match s.fab.ratc.find i with | none => true | some k => !k.valid) = some i →
      Gives .ratcInsert s (fun x => x.fab.ratc.find i = some { e with w0 := e.w0 ||| 1 } ∧ x.reg Reg.FAB_RATC_RESULT = (1 + i * 16) % 2 ^ 64)) ∧
    ((s.ratcAt e.job e.cls e.granule).isSome = true → Gives .ratcInsert s (fun x => x.fab = s.fab ∧ x.reg Reg.FAB_RATC_RESULT = 5)) ∧
    (s.ratcAt e.job e.cls e.granule = none → ((List.range 8).map (fun w => 8 * ratcSet e.job e.cls e.granule + w)).all (fun i =>
        match s.fab.ratc.find i with | none => false | some k => k.valid) = true → Gives .ratcInsert s (fun x => x.fab = s.fab ∧ x.reg Reg.FAB_RATC_RESULT = 3)) ∧
    (∀ i k, s.ratcAt e.job e.cls e.granule = some i → s.fab.ratc.find i = some k → k.owner ≠ 0x400 → k.owner ≠ 0x401 →
      Gives .ratcRemove s (fun x => x.fab.ratc.find i = none ∧ x.fab.removing = some (i, k) ∧ x.reg Reg.FAB_RATC_RESULT = i * 16 % 2 ^ 64)) ∧
    (∀ i k, s.ratcAt e.job e.cls e.granule = some i → s.fab.ratc.find i = some k → (k.owner = 0x400 ∨ k.owner = 0x401) →
      Gives .ratcRemove s (fun x => x.fab = s.fab ∧ x.reg Reg.FAB_RATC_RESULT = 9)) ∧
    (s.ratcAt e.job e.cls e.granule = none → Gives .ratcRemove s (fun x => x.fab = s.fab ∧ x.reg Reg.FAB_RATC_RESULT = 9)) ∧
    (∀ k, s.fab.ratc.find (s.regBits Reg.FAB_RATC_IDX 0 17) = some k → Gives .ratcRead s (fun x => x.reg Reg.FAB_RATC_W0 = k.w0.toNat ∧
      x.reg Reg.FAB_RATC_W1 = k.w1.toNat ∧ x.reg Reg.FAB_RATC_RESULT = 1 ∧ x.fab = s.fab))) ∧
  (∀ (s : State) (i : Nat) (k : Ratc), s.fab.removing = some (i, k) →
    (s.fab.inq.any (fun q => q.entries.contains k) = false →
      Gives .ratcRemoveDone s (fun x => x.fab.removing = none ∧ x.reg Reg.FAB_RATC_RESULT = s.reg Reg.FAB_RATC_RESULT ||| 1)) ∧
    (s.fab.inq.any (fun q => q.entries.contains k) = true → Gives .ratcRemoveDone s (fun x => x = s))) ∧
  (∀ (e : Ratc) (j c g : Nat), ratcSet j c g < 2 ^ 14 ∧ e.job < 2 ^ 20 ∧ e.granule < 2 ^ 19 ∧ e.owner < 2 ^ 11))

/-- Doorbells and completion records. Under the conditions on the state and operands that the Lean names, each completes with the fields it
names: SQ_DOORBELL, CQ_DOORBELL, RECORD_WRITE; with the 32 bytes of a record. (R590, R599, R591, R595, R613, R651) -/
def Obligations.QueueDoorbells : Prop :=
  (∀ (s : State) (f q i more : Nat) (entries : List Cmd) (x : QPair), isFn f = true → q < 8 → x = s.qp f q → s.replayed = false → s.fnOn f = true → s.qpOn f q = true → i < 4096 →
    (i ≤ x.sqSize → more = (i + (x.sqSize + 1) - x.sqTail) % (x.sqSize + 1) → entries.length = more →
      (x.sqTail + (x.sqSize + 1) - x.sqReported) % (x.sqSize + 1) + more < x.sqSize + 1 →
      Gives (.sqDoorbell f q i entries) s (fun t => t = (s.setQp f q { x with sqTail := i, sq := x.sq ++ entries }).refuseBad f q 4096)) ∧
    (x.sqSize < i → Gives (.sqDoorbell f q i entries) s (fun t => (t.fn f).dberr = min (2 ^ 16 - 1) ((s.fn f).dberr + 1) ∧ (t.qp f q).sqTail = x.sqTail)) ∧
    (i ≤ x.cqSize → (i + (x.cqSize + 1) - x.cqHead) % (x.cqSize + 1) ≤ (x.cqTail + (x.cqSize + 1) - x.cqHead) % (x.cqSize + 1) →
      Gives (.cqDoorbell f q i) s (fun t => (t.qp f q).cqHead = i ∧ (t.qp f q).cqTail = x.cqTail ∧ (t.qp f q).store = x.store ∧ t.mem = s.mem)) ∧
    (x.cqSize < i → Gives (.cqDoorbell f q i) s (fun t => (t.fn f).dberr = min (2 ^ 16 - 1) ((s.fn f).dberr + 1) ∧ (t.qp f q).cqHead = x.cqHead))) ∧
  (∀ (s : State) (f q : Nat) (r : Rec) (rest : List Rec), isFn f = true → q < 8 → s.qpOn f q = true → (s.qp f q).cqFree ≠ 0 → (s.qp f q).store = r :: rest →
    (r.gen = (s.fn f).gen → Gives (.recordWrite f q) s (fun t => t = (s.setQp f q { s.qp f q with store := rest }).putCq f q r)) ∧
    (r.gen ≠ (s.fn f).gen → Gives (.recordWrite f q) s (fun t => t = ((s.setQp f q { s.qp f q with store := rest }).count Reg.HIF_GEN_DROP 1).hifEvt 4))) ∧
  (∀ (s : State) (f q : Nat), isFn f = true → q < 8 → s.qpOn f q = true → (s.qp f q).cqFree = 0 → s.replayed = false → Gives (.recordWrite f q) s (fun t => t = s)) ∧
  (∀ (s : State) (f q : Nat) (r : Rec), r.kind = 4 → s.replayed = false →
    ((s.putCq f q r).qp f q).cqTail = (if (s.qp f q).cqTail = (s.qp f q).cqSize then 0 else (s.qp f q).cqTail + 1) ∧
    ((s.putCq f q r).qp f q).phase = (if (s.qp f q).cqTail = (s.qp f q).cqSize then !(s.qp f q).phase else (s.qp f q).phase) ∧
    (s.putCq f q r).out = s.out ++ [.hostWrite f ((s.qp f q).cqBase.toNat + 32 * (s.qp f q).cqTail) (r.bytes (s.statusWord f) (s.qp f q).phase (s.qp f q).sqHead)] ∧
    (s.putCq f q r).mem = s.mem) ∧
  (∀ (r : Rec) (w : BitVec 16) (ph : Bool) (head : Nat), (r.bytes w ph head).length = 32 ∧ byteField (r.bytes w ph head) 0 2 = w.toNat ∧ byteField (r.bytes w ph head) 8 8 = r.ref.toNat ∧
    byteField (r.bytes w ph head) 4 2 = head % 2 ^ 16 ∧ byteField (r.bytes w ph head) 16 16 = r.detail.toNat)

/-- Attentions, status records and MSI-X. Under the conditions on the state and operands that the Lean names, each completes with the fields
it names: ATTN_CLEAR, ATTN_HOLD_EXPIRY, MSIX_FIRE, MSIX_UNMASK. (R602, R603, R605, R606) -/
def Obligations.AttentionsAndVectors : Prop :=
  (∀ (s : State) (f mask : Nat) (u : State), isFn f = true → s.fnOn f = true → u = s.logIn 5 0x04 f (BitVec.ofNat 64 0x10) (leBytes 8 (mask % 256)) →
    Gives (.attnClear f mask) s (fun t => (t.fn f).attn = (u.fn f).attn &&& ~~~ BitVec.ofNat 8 mask ∧ (t.fn f).seq = (u.fn f).seq ∧ t.mem = s.mem)) ∧
  (∀ (s : State) (f t0 : Nat), isFn f = true → (s.fn f).lastStatus = some t0 →
    ((s.fn f).held = true → t0 + usTc (s.fn f).attnHold ≤ s.now → Gives (.attnHoldExpiry f) s (fun t => t = (s.setFn f { s.fn f with held := false }).statusNote f)) ∧
    ((s.fn f).held = false → Gives (.attnHoldExpiry f) s (fun t => t = s))) ∧
  (∀ (s : State) (f : Nat) (x : Fn), x = s.fn f → s.qpOn f x.attnCq = true → (∀ t0, x.lastStatus = some t0 → t0 + usTc x.attnHold ≤ s.now) →
    ((s.statusNote f).fn f).lastStatus = some s.now ∧ ((s.statusNote f).fn f).held = false ∧
    ((s.statusNote f).qp f x.attnCq).store = (s.qp f x.attnCq).store ++ [{ code := 0, kind := 4, slot := 0xFFFF, ref := 0, detail := BitVec.ofNat 128 x.attn.toNat, gen := x.gen }]) ∧
  (∀ (s : State) (f q : Nat), isFn f = true → q < 8 →
    (s.vecDue f q = true → (s.fn f).masked.getLsbD q = false → s.replayed = false →
      Gives (.msixFire f q) s (fun t => t.out = s.out ++ [.msix f q] ∧ (t.qp f q).since = 0 ∧ (t.qp f q).oldest = none ∧ (t.qp f q).fire = false)) ∧
    (s.vecDue f q = true → (s.fn f).masked.getLsbD q = true → Gives (.msixFire f q) s (fun t => t.out = s.out ∧ (t.fn f).pending = (s.fn f).pending ||| BitVec.ofNat 8 (2 ^ q))) ∧
    (s.vecDue f q = false → Gives (.msixFire f q) s (fun t => t = s)) ∧
    (∀ u, s.fnOn f = true → u = s.logIn 5 0x04 f (BitVec.ofNat 64 (0x200C + 16 * q)) (leBytes 4 0) → (u.fn f).pending.getLsbD q = true → u.replayed = false →
      Gives (.msixUnmask f q) s (fun t => (t.fn f).masked.getLsbD q = false ∧ (t.fn f).pending.getLsbD q = false ∧ t.out = u.out ++ [.msix f q])))

/-- Submissions of a host. Under the conditions on the state and operands that the Lean names, each completes with the fields it names:
LIST_SUBMIT, HOST_COPY, SSI_SEND, ACC_READ. (R249, R592, R595, R620, R594, R598) -/
def Obligations.HostSubmissions : Prop :=
  (∀ (s : State) (f q : Nat) (v : Svc) (x : Ctx), s.svc (.host f q) 0x14 24 = some v → v.code = 0 → v.ctx = some x →
    (∀ l a b, v.st.admitList x (cmdField v.cmd 16 8) v.rep false = (0, some l, a) → a.queueList x.id l = (0, b) →
      Gives (.listSubmit (.host f q)) s (fun t => t = b.refuseBad f q 4096)) ∧
    (∀ code l a, v.st.admitList x (cmdField v.cmd 16 8) v.rep false = (code, some l, a) → code ≠ 0 →
      Gives (.listSubmit (.host f q)) s (fun t => t = (a.refuseSubmit v.rep x.id code l.id).refuseBad f q 4096))) ∧
  (∀ (s : State) (f q : Nat) (c : Cmd) (rest : List Cmd) (v : Svc) (bytes : List Byte) (r : Nat × Nat × State), (s.qp f q).sq = c :: rest → cmdField c 24 8 / 2 ^ 60 ≠ 1 →
    s.svc (.host f q) 0x15 0 = some v → v.code = 0 → r = State.hostCopy { v with ctx := none } bytes →
    Gives (.hostCopy (.host f q) bytes) s (fun t => t = r.2.2.svcEnd (.host f q) v.rep r.1 (BitVec.ofNat 128 r.2.1))) ∧
  (∀ (v : Svc) (sp : List Span) (n : Nat) (bytes : List Byte), v.ctx = none → v.st.replayed = false → (cmdField v.cmd 36 1).testBit 0 = false →
    v.st.copySpans v.rep.sub.1 none (cmdField v.cmd 24 8) (cmdField v.cmd 32 4) true = (sp, 0) → n = sp.foldl (fun n p => n + p.2) 0 → bytes.length = n →
    (State.hostCopy v bytes).1 = 0 ∧ (State.hostCopy v bytes).2.1 = n ∧ (State.hostCopy v bytes).2.2.mem = (v.st.wrSpans sp bytes).mem) ∧
  (∀ (v : Svc) (sp : List Span) (code n : Nat) (bytes : List Byte), v.ctx = none → v.st.replayed = false → (cmdField v.cmd 36 1).testBit 0 = false →
    v.st.copySpans v.rep.sub.1 none (cmdField v.cmd 24 8) (cmdField v.cmd 32 4) true = (sp, code) → n = sp.foldl (fun n p => n + p.2) 0 → bytes.length < n →
    (State.hostCopy v bytes).1 = 0xC1 ∧ (State.hostCopy v bytes).2.1 = bytes.length) ∧
  (∀ (v : Svc) (sp : List Span) (code : Nat) (b bytes : List Byte) (u : State), v.ctx = none → (cmdField v.cmd 36 1).testBit 0 = true →
    v.st.copySpans v.rep.sub.1 none (cmdField v.cmd 24 8) (cmdField v.cmd 32 4) false = (sp, code) →
    v.st.copyRead (if v.rep.sub.1 = pf0 then 0x7FF else v.rep.sub.1) sp = (b, false, u) →
    (State.hostCopy v bytes).1 = code ∧ (State.hostCopy v bytes).2.1 = b.length ∧
    (State.hostCopy v bytes).2.2 = (u.countHost v.rep.sub.1 (cmdField v.cmd 24 8) b.length false).dmaOut v.rep (cmdField v.cmd 16 8) 0 (b.length / 4096 + 1) b) ∧
  (∀ (s : State) (o : Origin) (v : Svc) (bytes : List Byte) (len : Nat), v.code = 0 → s.svc o 0x16 0 = some v → len = cmdField v.cmd 24 4 → v.st.replayed = false →
    (24 ≤ len → len ≤ 1048576 → bytes.length = len → byteField bytes 4 4 = len → Gives (.ssiSend o bytes) s (fun t =>
      t = (((v.st.dmaIn pf0 (cmdField v.cmd 16 8) len bytes).2.acct 1536 14 len).ssiAccept v.rep.sub.2.1 bytes).svcEnd o v.rep 0 0)) ∧
    (len < 24 → Gives (.ssiSend o bytes) s (fun t => t = v.st.svcEnd o v.rep 0xC3 0))) ∧
  (∀ (s : State) (o : Origin) (v : Svc), v.code = 0 → s.svc o 0x17 0 = some v →
    (v.rep.sub.1 ≠ pf0 → Gives (.accRead o) s (fun t => t = ((v.st.acct (fnAcct v.rep.sub.1) 14 128).dmaOut v.rep (cmdField v.cmd 16 8) 0 1
      (v.st.acctBytes v.rep.sub.1)).svcEnd o v.rep 0 0)) ∧
    (∀ k, v.rep.sub.1 = pf0 → k = cmdField v.cmd 24 2 → k < 1536 → Gives (.accRead o) s (fun t => t = ((v.st.acct 1536 14 128).dmaOut v.rep (cmdField v.cmd 16 8) 0 1
      (v.st.acctBytes k)).svcEnd o v.rep 0 0)))

/-- States of queue pairs, functions, units and ports. Under the conditions on the state and operands that the Lean names, each completes
with the fields it names: QUEUE_PAIR_ENABLE, QUEUE_PAIR_DISABLE, QUEUE_PAIR_OFF and the eight commands of HIF_FCTL. (R607, R609, R676, R611)
-/
def Obligations.QueuePairsAndEnables : Prop :=
  (
  ∀ (s : State) (f q : Nat), isFn f = true → q < 8 →
    (∀ u, s.fnOn f = true → u = s.logIn 5 0x04 f (BitVec.ofNat 64 (0x110 + 0x40 * q)) (leBytes 8 ((s.qp f q).cfgWord true)) →
      ((u.qp f q).en.st = .off → u.qpValid f q = true → u.fnOn f = true → (u.start.dev = .serve ∨ u.start.dev = .degraded) →
        Gives (.queuePairEnable f q) s (fun t => t.qpOn f q = true ∧ (t.qp f q).err = false ∧ (t.qp f q).sqHead = 0 ∧ (t.qp f q).sqTail = 0 ∧ (t.qp f q).cqHead = 0 ∧
          (t.qp f q).cqTail = 0 ∧ (t.qp f q).phase = true ∧ (t.qp f q).store = [] ∧ t.mem = s.mem)) ∧
      ((u.qp f q).en.st = .off → u.qpValid f q = false → Gives (.queuePairEnable f q) s (fun t => (t.qp f q).en = {} ∧ (t.qp f q).err = true)) ∧
      ((u.qp f q).en.st = .stopping → Gives (.queuePairEnable f q) s (fun t => (t.qp f q).en = { st := .stopping, pend := true }))) ∧
    (∀ u, s.fnOn f = true → u = s.logIn 5 0x04 f (BitVec.ofNat 64 (0x110 + 0x40 * q)) (leBytes 8 ((s.qp f q).cfgWord false)) →
      ((u.qp f q).en.st = .on → Gives (.queuePairDisable f q) s (fun t => (t.qp f q).en = { st := .stopping } ∧ (t.qp f q).sq = [] ∧ (t.qp f q).store = [])) ∧
      ((u.qp f q).en.st = .stopping → Gives (.queuePairDisable f q) s (fun t => (t.qp f q).en = { st := .stopping, pend := false }))) ∧
    ((s.qp f q).en.st = .stopping → (s.qp f q).en.pend = false → Gives (.queuePairOff f q) s (fun t => t = s.setQp f q { s.qp f q with en := {} })) ∧
    ((s.qp f q).en.st = .stopping → (s.qp f q).en.pend = true → Gives (.queuePairOff f q) s (fun t => t = (s.setQp f q { s.qp f q with en := {} }).qpStart f q)) ∧
    ((s.qp f q).en.st ≠ .stopping → Gives (.queuePairOff f q) s (fun t => t = s))) ∧
  (
  ∀ (s : State) (k : Nat), s.replayed = false →
    (∀ u, u = s.logIn 5 0x04 pf0 (BitVec.ofNat 64 (Reg.HIF_FCTL + 2 * 2 ^ 48)) (leBytes 4 (1 + 1 * 2 + k * 2 ^ 16)) → k < 1024 →
      ((u.fn k).en.st = .off → k < u.regBits Reg.HIF_CFG 0 11 → u.start.served = true → u.start.haltTenants = false →
        Gives (.fctlVfEnable k) s (fun t => (t.fn k).en = { st := .on } ∧ (t.fn k).gen = (u.fn k).gen ∧ t.host.fsel = (1, k) ∧ t.host.frej = false)) ∧
      ((u.fn k).en.st = .stopping → Gives (.fctlVfEnable k) s (fun t => (t.fn k).en = { st := .stopping, pend := true }))) ∧
    (∀ u, u = s.logIn 5 0x04 pf0 (BitVec.ofNat 64 (Reg.HIF_FCTL + 2 * 2 ^ 48)) (leBytes 4 (0 + 1 * 2 + k * 2 ^ 16)) → k < 1024 →
      ((u.fn k).en.st = .on → Gives (.fctlVfDisable k) s (fun t => t = { u.vfStop k false with host := { (u.vfStop k false).host with fsel := (1, k), frej := false } })) ∧
      ((u.fn k).en.st = .off → Gives (.fctlVfDisable k) s (fun t => t.host.fns = u.host.fns ∧ t.host.fsel = (1, k)))) ∧
    (∀ u, u = s.logIn 5 0x04 pf0 (BitVec.ofNat 64 (Reg.HIF_FCTL + 2 * 2 ^ 48)) (leBytes 4 (1 + 2 * 2 + k * 2 ^ 16)) → isUnit k = true → k < 0x10000 →
      (u.unit k).en.st = .off → (u.health.quar.get {} k).kind = 0 → (u.health.quar.get {} k).image = false → u.scoreOk k = true →
        Gives (.fctlUnitEnable k) s (fun t => (t.unit k).en = { st := .on } ∧ (t.unit k).run = (u.unit k).run ∧ t.host.fsel = (2, k))) ∧
    (∀ u, u = s.logIn 5 0x04 pf0 (BitVec.ofNat 64 (Reg.HIF_FCTL + 2 * 2 ^ 48)) (leBytes 4 (0 + 2 * 2 + k * 2 ^ 16)) → isUnit k = true → k < 0x10000 →
      (u.unitHeld k = true → Gives (.fctlUnitDisable k) s (fun t => t = { u with host := { u.host with fsel := (2, k), frej := true } }.hifEvt 1)) ∧
      (u.unitHeld k = false → (u.unit k).en.st = .on → (u.unit k).run = none → Gives (.fctlUnitDisable k) s (fun t => (t.unit k).en = {} ∧ t.host.frej = false)) ∧
      (∀ r, u.unitHeld k = false → (u.unit k).en.st = .on → (u.unit k).run = some r →
        Gives (.fctlUnitDisable k) s (fun t => (t.unit k).en = { st := .stopping } ∧ t.run k = some r))) ∧
    (∀ u, u = s.logIn 5 0x04 pf0 (BitVec.ofNat 64 (Reg.HIF_FCTL + 2 * 2 ^ 48)) (leBytes 4 (1 + 3 * 2 + k * 2 ^ 16)) → k < 16 → (u.host.ports.get {} k).st = .off →
      Gives (.fctlFhPortEnable k) s (fun t => t.host.ports.get {} k = { st := if (u.front.link.get (false, false) k).1 then .on else .starting } ∧ t.host.fsel = (3, k))) ∧
    (∀ u, u = s.logIn 5 0x04 pf0 (BitVec.ofNat 64 (Reg.HIF_FCTL + 2 * 2 ^ 48)) (leBytes 4 (0 + 3 * 2 + k * 2 ^ 16)) → k < 16 →
      (u.fhHeld k = true → Gives (.fctlFhPortDisable k) s (fun t => t = { u with host := { u.host with fsel := (3, k), frej := true } }.hifEvt 1)) ∧
      (u.fhHeld k = false → (u.host.ports.get {} k).st = .on → Gives (.fctlFhPortDisable k) s (fun t => t.host.ports.get {} k = {} ∧ t.host.frej = false))) ∧
    (∀ u, u = s.logIn 5 0x04 pf0 (BitVec.ofNat 64 (Reg.HIF_FCTL + 2 * 2 ^ 48)) (leBytes 4 (1 + 4 * 2 + k * 2 ^ 16)) → k < 3 → (u.host.ports.get {} (16 + k)).st = .off →
      u.quarHard (0xD000 + k) = false → Gives (.fctlFabPortEnable k) s (fun t => t.host.ports.get {} (16 + k) = { st := .starting } ∧ t.host.fsel = (4, k))) ∧
    (∀ u, u = s.logIn 5 0x04 pf0 (BitVec.ofNat 64 (Reg.HIF_FCTL + 2 * 2 ^ 48)) (leBytes 4 (0 + 4 * 2 + k * 2 ^ 16)) → k < 3 → (u.host.ports.get {} (16 + k)).st = .on → u.fab.reqs = [] →
      Gives (.fctlFabPortDisable k) s (fun t => t.host.ports.get {} (16 + k) = {} ∧ (t.port k).link = .down ∧ (t.port k).held = [])))

/-- Virtual functions, apertures, accounts. Under the conditions on the state and operands that the Lean names, each completes with the
fields it names: VF_ENABLE_SET, VF_ENABLE_CLEAR, NUMVFS_WRITE, FLR, VF_STOP_COMPLETE, APERTURE_READ, APERTURE_WRITE, ACCOUNT_BOUNDARY.
(R586, R607, R588, R618, R611, R711, R610, R612, R641, R619, R614) -/
def Obligations.FunctionsAndApertures : Prop :=
  (
  (∀ (s u : State), u = s.logIn 5 0x05 pf0 (BitVec.ofNat 64 (1 + s.host.numVfs * 2 ^ 16)) [] →
    (u.host.vfEnable = false → Gives .vfEnableSet s (fun t => t = (List.range u.host.numVfs).foldl (fun (k : State) v => k.vfEnable v) { u with host := { u.host with vfEnable := true } })) ∧
    (u.host.vfEnable = true → Gives .vfEnableSet s (fun t => t = u))) ∧
  (∀ (s u : State), u = s.logIn 5 0x05 pf0 (BitVec.ofNat 64 (2 + s.host.numVfs * 2 ^ 16)) [] →
    (u.liveVfs = [] → Gives .vfEnableClear s (fun t => t.host.vfEnable = false ∧ t.host.fns = u.host.fns)) ∧
    (∀ v, u.liveVfs = [v] → (u.fn v).en.st = .on → Gives .vfEnableClear s (fun t => t = { u with host := { u.host with vfEnable := false } }.vfStop v false))) ∧
  (∀ (s : State) (n : Nat), (s.totalVfs < n → Gives (.numvfsWrite n) s (fun t => t = s)) ∧
    (n ≤ s.totalVfs → s.host.vfEnable = false → s.rpl.st ≠ .recording → Gives (.numvfsWrite n) s (fun t => t.host.numVfs = n ∧ t.host.fns = s.host.fns))) ∧
  (∀ (s u : State) (v : Nat), v < 1024 → u = s.logIn 5 0x05 v (BitVec.ofNat 64 (3 + s.host.numVfs * 2 ^ 16)) [] →
    ((u.fn v).en.st = .on → Gives (.flr v) s (fun t => t = ((u.vfStop v true).vfEnable v).hifEvt 2)) ∧
    ((u.fn v).en.st = .stopping → Gives (.flr v) s (fun t => (t.fn v).en = { st := .stopping, pend := true }))) ∧
  (∀ (s u : State), u = s.logIn 5 0x05 pf0 (BitVec.ofNat 64 (3 + s.host.numVfs * 2 ^ 16)) [] →
    Gives (.flr pf0) s (fun t => t = (List.range 8).foldl (fun (k : State) q => k.qpDisable pf0 q) u)) ∧
  (∀ (s : State) (v : Nat), v < 1024 → (s.fn v).en.st = .stopping → (s.fn v).en.pend = false →
    (s.vfDone v = true → Gives (.vfStopComplete v) s (fun t => t.fn v = { gen := (s.fn v).gen } ∧ t.mem = s.mem)) ∧
    (s.vfDone v = false → Gives (.vfStopComplete v) s (fun t => t = s))) ∧
  (∀ (s : State) (v : Nat), s.inf.models = [] → s.tenantCtxs v = [] → s.sched.ended = [] → ((s.vfStop v false).fn v).en = { st := .stopping } ∧
    ((s.vfStop v false).fn v).gen = ((s.fn v).gen + 1) % 256)) ∧
  (
  (∀ (s : State) (f ofs len : Nat), isFn f = true → ofs + len ≤ apSize f →
    (s.apSpans f (s.apAddr f ofs) len false = none → Gives (.apertureRead f ofs len) s (fun t => t.out = s.out ++ [.readData f (List.replicate len 0)] ∧
      (t.fn f).aperr = min (2 ^ 16 - 1) ((s.fn f).aperr + 1) ∧ t.mem = s.mem)) ∧
    (∀ sp u, s.apSpans f (s.apAddr f ofs) len false = some sp → s.readSpans sp (if f = pf0 then 0x7FF else f) = (false, u) →
      Gives (.apertureRead f ofs len) s (fun t => t.out = u.out ++ [.readData f (u.rdSpans sp)] ∧ t.mem = u.mem)) ∧
    (∀ sp u, s.apSpans f (s.apAddr f ofs) len false = some sp → s.readSpans sp (if f = pf0 then 0x7FF else f) = (true, u) →
      Gives (.apertureRead f ofs len) s (fun t => t.out = u.out ++ [.readPoison f] ∧ t.mem = u.mem))) ∧
  (∀ (s u : State) (f ofs : Nat) (b : List Byte), isFn f = true → ofs + b.length ≤ apSize f →
    u = s.logIn 5 0x04 f (BitVec.ofNat 64 (ofs + (if f = pf0 then 4 else 2) * 2 ^ 48)) b →
    (∀ sp, u.apSpans f (u.apAddr f ofs) b.length true = some sp → Gives (.apertureWrite f ofs b) s (fun t => t.mem = (u.wrSpans sp b).mem)) ∧
    (u.apSpans f (u.apAddr f ofs) b.length true = none → Gives (.apertureWrite f ofs b) s (fun t => t.mem = s.mem ∧
      (t.fn f).aperr = min (2 ^ 16 - 1) ((u.fn f).aperr + 1)))) ∧
  (∀ (s : State), (s.now / 1966080 = s.host.acct.lastMs → Gives .accountBoundary s (fun t => t = s)) ∧
    (s.now / 1966080 ≠ s.host.acct.lastMs → Gives .accountBoundary s (fun t => t.host.acct.lastMs = s.now / 1966080 ∧ t.host.acct.shown = t.host.acct.work ∧
      t.reg Reg.ACC_EPOCH = (s.reg Reg.ACC_EPOCH + 1) % 2 ^ 64 ∧ t.host.fns = s.host.fns ∧ t.mem = s.mem))))

/-- Writes and reads of registers. Under the conditions on the state and operands that the Lean names, each completes with the fields it
names: REGISTER_WRITE by the access of the register, RC_COUNTER_READ, LOW_HALF_READ. (R16, R21, R19, R18, R20, R589, R622) -/
def Obligations.RegisterAccesses : Prop :=
  (∀ (s u : State) (r : RegRef) (k : RegRow) (a v : Nat) (hi : Bool), r.bar2 = true → r.fn = pf0 → (r.width = 4 ∨ r.width = 8) → r.ofs % r.width = 0 →
    regHit r.ofs r.width = some (k, a, hi) → s.replayed = false → u = s.logIn 5 0x04 pf0 (BitVec.ofNat 64 (r.ofs + 2 * 2 ^ 48)) (leBytes r.width v) →
    (k.acc = .rw → Gives (.registerWrite r v) s (fun t => t = u.setReg a ((u.reg a &&& (2 ^ 64 - 1 - k.mask)) ||| (mergeHalf (u.reg a) v r.width hi &&& k.mask)))) ∧
    (k.acc = .rw1c → Gives (.registerWrite r v) s (fun t => t = u.setReg a (u.reg a &&& (2 ^ 64 - 1 - (mergeHalf 0 v r.width hi &&& k.mask))))) ∧
    ((k.acc = .ro ∨ k.acc = .wo ∨ k.acc = .rc ∨ k.acc = .lk) → Gives (.registerWrite r v) s (fun t => t = u))) ∧
  (∀ (s u : State) (f o v : Nat), isFn f = true → s.fnOn f = true → o % 8 = 0 → u = s.logIn 5 0x04 f (BitVec.ofNat 64 o) (leBytes 8 v) → v < 2 ^ 64 →
    (o = 0x18 → Gives (.registerWrite ⟨f, false, o, 8⟩ v) s (fun t => t.fn f = { u.fn f with attnCq := v % 8, attnHold := v / 8 % 2 ^ 10 })) ∧
    (o = 0x118 → Gives (.registerWrite ⟨f, false, o, 8⟩ v) s (fun t => t.qp f 0 = { u.qp f 0 with count := v % 2 ^ 8, time := v / 2 ^ 8 % 2 ^ 10 }))) ∧
  (∀ (s : State) (r : RegRef) (k : RegRow) (a : Nat) (hi : Bool), refOk r = true → r.bar2 = true → regHit r.ofs r.width = some (k, a, hi) →
    (k.acc = .rc → k.width = r.width → hi = false → Gives (.rcCounterRead r) s (fun t => t.out = s.out ++ [.readData r.fn (leBytes r.width (s.reg a))] ∧ t.reg a = 0 ∧ t.latch = s.latch)) ∧
    (k.acc ≠ .rc → k.width = 8 → r.width = 4 → r.ofs % 8 = 0 → Gives (.lowHalfRead r) s (fun t => t.out = s.out ++ [.readData r.fn (leBytes 4 (s.bar2View k a % 2 ^ 32))] ∧
      t.latch.find (2 ^ 32 * r.fn + a) = some (BitVec.ofNat 32 (s.bar2View k a / 2 ^ 32)) ∧ t.regs = s.regs)) ∧
    (∀ h, k.width = 8 → r.width = 4 → r.ofs % 8 = 4 → s.latch.find (2 ^ 32 * r.fn + a) = some h →
      Gives (.lowHalfRead r) s (fun t => t.out = s.out ++ [.readData r.fn (leBytes 4 h.toNat)] ∧ t.latch.find (2 ^ 32 * r.fn + a) = none ∧ t.regs = s.regs))) ∧
  (∀ (s : State) (r : RegRef), refOk r = true → r.bar2 = true → regHit r.ofs r.width = none →
    Gives (.rcCounterRead r) s (fun t => t = { s with out := s.out ++ [.readData r.fn (List.replicate r.width 0)] }))

/-- The recorder, pause and resume. Under the conditions on the state and operands that the Lean names, each completes with the fields it
names: REC_START, REC_STOP, MARK, CLEAR_LOG, EXPORT_LOG, IMPORT_LOG, XFER_DONE, LOG_GAP_WRITE, PAUSE, RESUME of RPL_CMD. (R656, R654, R635,
R638, R645, R657) -/
def Obligations.RecorderCommands : Prop :=
  (
  (∀ (s u : State), u = s.logIn 5 0x04 pf0 (BitVec.ofNat 64 (Reg.RPL_CMD + 2 * 2 ^ 48)) (leBytes 4 1) →
    (u.rpl.st = .idle → Gives .recStart s (fun t => t.rpl.st = .recording ∧ t.mem = s.mem ∧ ∃ r, t.rpl.log = [r] ∧ r.kind = 1 ∧ r.seq = 0 ∧ r.stamp = s.now ∧
      r.payload = shaBytes u.start.imgDigest ∧ bits r.aux 0 32 = u.regBits Reg.HUB_IDENT 0 32)) ∧
    (u.rpl.st ≠ .idle → Gives .recStart s (fun t => t = u.rplEvt 0x40))) ∧
  (∀ (s u : State), u = s.logIn 5 0x04 pf0 (BitVec.ofNat 64 (Reg.RPL_CMD + 2 * 2 ^ 48)) (leBytes 4 2) →
    (u.rpl.st = .recording → Gives .recStop s (fun t => t.rpl.st = .idle ∧ t.rpl.log.getLast?.map (fun r => r.kind) = some 0x7F)) ∧
    (u.rpl.st ≠ .recording → Gives .recStop s (fun t => t = u.rplEvt 0x40))) ∧
  (∀ (s u : State), u = s.logIn 5 0x04 pf0 (BitVec.ofNat 64 (Reg.RPL_CMD + 2 * 2 ^ 48)) (leBytes 4 5) →
    (u.rpl.st = .recording → Gives .mark s (fun t => t = u.putRec 0x60 0 (u.regs.get 0 Reg.RPL_ARG) [])) ∧
    (u.rpl.st ≠ .recording → Gives .mark s (fun t => t = u.rplEvt 0x40))) ∧
  (∀ (s u : State), u = s.logIn 5 0x04 pf0 (BitVec.ofNat 64 (Reg.RPL_CMD + 2 * 2 ^ 48)) (leBytes 4 0xA) → u.rplFree = true →
    Gives .clearLog s (fun t => t.rpl.st = .idle ∧ t.rpl.log = [] ∧ t.rpl.tail = [] ∧ t.rpl.head = 0 ∧ t.rpl.nextSeq = 0 ∧ t.mem = s.mem)) ∧
  (∀ (s u : State), u = s.logIn 5 0x04 pf0 (BitVec.ofNat 64 (Reg.RPL_CMD + 2 * 2 ^ 48)) (leBytes 4 8) →
    (u.rplFree = true → u.rpl.xfer = 0 → Gives .exportLog s (fun t => t.out = u.out ++ [.hostWrite pf0 u.xferHost ((u.rpl.bytes.drop u.xferOfs).take u.xferLen)] ∧
      t.rpl.log = u.rpl.log ∧ t.rpl.xfer = 1)) ∧
    (u.rplFree = false → Gives .exportLog s (fun t => t = u.rplEvt 0x40))) ∧
  (∀ (s u : State) (b : List Byte) (r : LogRec), u = s.logIn 5 0x04 pf0 (BitVec.ofNat 64 (Reg.RPL_CMD + 2 * 2 ^ 48)) (leBytes 4 9) → u.rpl.st = .idle → u.rpl.xfer = 0 →
    u.rpl.log = [] → u.rpl.tail = [] → u.xferOfs = 0 → recAt (b.take u.xferLen) = some (r, []) →
    Gives (.importLog b) s (fun t => t.rpl.log = [r] ∧ t.rpl.tail = [] ∧ t.rpl.nextSeq = 1 ∧ t.rpl.xfer = 2 ∧ t.rpl.st = .idle)) ∧
  (∀ (s : State), (s.rpl.xfer ≠ 0 → Gives .xferDone s (fun t => t = { s with rpl := { s.rpl with xfer := 0 } }.rplEvt 0x80)) ∧
    (s.rpl.xfer = 0 → Gives .xferDone s (fun t => t = s))) ∧
  (∀ (s : State), s.rpl.st = .recording → 0 < s.rpl.dropped → s.rpl.buffered + 32 ≤ 2 ^ 26 →
    Gives .logGapWrite s (fun t => t.rpl.dropped = 0 ∧ t.rpl.log.getLast?.map (fun r => (r.kind, r.aux)) = some (0x50, BitVec.ofNat 64 s.rpl.dropped)))) ∧
  (
  (∀ (s u : State), u = s.logIn 5 0x04 pf0 (BitVec.ofNat 64 (Reg.RPL_CMD + 2 * 2 ^ 48)) (leBytes 4 6) →
    (∀ x, u.argModel = none → u.ctx? u.argCtx = some x → x.id = u.argCtx → x.radio = false → x.ending = false → x.paused = false → x.pausing = false → u.armedCtx x.id = false → x.resident = true →
      Gives .pause s (fun t => t.ctx? x.id = some { x with pausing := true } ∧ t.reg Reg.RPL_PAUSE = 1)) ∧
    (∀ x, u.argModel = none → u.ctx? u.argCtx = some x → x.id = u.argCtx → x.radio = false → x.ending = false → x.paused = false → x.pausing = false → u.armedCtx x.id = false → x.resident = false →
      Gives .pause s (fun t => t.ctx? x.id = some { x with paused := true } ∧ t.reg Reg.RPL_PAUSE = 2)) ∧
    (∀ x, u.argModel = none → u.ctx? u.argCtx = some x → x.radio = true → Gives .pause s (fun t => t = (u.setReg Reg.RPL_PAUSE (4 + 1 * 16)).rplEvt 0x40)) ∧
    (u.argModel = none → u.ctx? u.argCtx = none → Gives .pause s (fun t => t = (u.setReg Reg.RPL_PAUSE (4 + 2 * 16)).rplEvt 0x40)) ∧
    (∀ k n m, u.argModel = some (k, n) → u.model k n = some m → m.paused = false → m.pausing = false → m.ctxs.any u.armedCtx = false →
      Gives .pause s (fun t => t.model k n = some { m with pausing := true } ∧ t.reg Reg.RPL_PAUSE = 1))) ∧
  (∀ (s u : State), u = s.logIn 5 0x04 pf0 (BitVec.ofNat 64 (Reg.RPL_CMD + 2 * 2 ^ 48)) (leBytes 4 7) →
    (∀ x, u.argModel = none → u.ctx? u.argCtx = some x → x.paused = true ∨ x.pausing = true →
      Gives .rplResume s (fun t => t = ((u.updCtx x.id (fun (y : Ctx) => { y with paused := false, pausing := false })).refresh x.id).setReg Reg.RPL_PAUSE 3)) ∧
    (∀ x, u.argModel = none → u.ctx? u.argCtx = some x → x.paused = false → x.pausing = false →
      Gives .rplResume s (fun t => t = (u.setReg Reg.RPL_PAUSE (4 + 6 * 16)).rplEvt 0x40))))

/-- Replay. Under the conditions on the state and operands that the Lean names, each completes with the fields it names: REPLAY_START,
REPLAY_STOP, STOP_AT_REACHED, OUTPUT_MISSING, RECORD_INJECT. (R649, R656, R650, R652, R653, R651) -/
def Obligations.ReplayCommands : Prop :=
  (∀ (s u : State) (r : LogRec) (rest : List LogRec), u = s.logIn 5 0x04 pf0 (BitVec.ofNat 64 (Reg.RPL_CMD + 2 * 2 ^ 48)) (leBytes 4 3) →
    (u.mayReplay = true → u.rpl.log = r :: rest → r.frac < 64 → Gives .replayStart s (fun t => t.rpl.st = .replaying ∧ t.rpl.nextSeq = 1 ∧ t.now = r.stamp ∧ t.time.st = .locked ∧ t.time.src = 0 ∧
      t.rpl.log = u.rpl.log)) ∧
    (u.mayReplay = false → u.mayResume = true → Gives .replayStart s (fun t => t = { u with rpl := { u.rpl with st := .replaying } })) ∧
    (u.mayReplay = false → u.mayResume = false → Gives .replayStart s (fun t => t = u.rplEvt 0x40))) ∧
  (∀ (s u : State), u = s.logIn 5 0x04 pf0 (BitVec.ofNat 64 (Reg.RPL_CMD + 2 * 2 ^ 48)) (leBytes 4 4) → u.rpl.st = .replaying →
    Gives .replayStop s (fun t => t = { u with rpl := { u.rpl with st := .stopped } })) ∧
  (∀ (s : State) (t0 : Nat), s.stopAt = some t0 → s.rpl.st = .replaying →
    (t0 ≤ s.now → Gives .stopAtReached s (fun t => t = { s with rpl := { s.rpl with st := .stopped, stopTaken := t0 } }.rplEvt 8)) ∧
    (s.now < t0 → Gives .stopAtReached s (fun t => t = s))) ∧
  (∀ (s : State) (k : OutKey), s.replayed = true → s.rpl.halted = false → s.outLogged = true → s.rpl.expect.find? (fun k => decide (k.stamp + s.slackTc ≤ s.now)) = some k →
    Gives .outputMissing s (fun t => t.rpl.st = .stopped ∧ t.rpl.halted = true ∧ t.reg Reg.RPL_DIV_KIND = 3 ∧ t.reg Reg.RPL_DIV_EXP = k.digest.toNat)) ∧
  (∀ (s i : State) (r : LogRec), s.rpl.st = .replaying → s.rpl.halted = false → s.dueRec = some r → i = { s with rpl := { s.rpl with inj := true } } →
    (∀ k, r.kind = 0x04 → bits r.aux 48 3 = 2 → r.source = pf0 → k = i.injBar2 (bits r.aux 0 48) r.payload.length (leNat r.payload) →
      Gives .recordInject s (fun t => t = { k with rpl := { k.rpl with inj := false, nextSeq := k.rpl.nextSeq + 1 } })) ∧
    (r.kind = 0x50 → Gives .recordInject s (fun t => t.rpl.st = .replayEnd ∧ t.mem = s.mem)) ∧
    (r.kind = 0x7F → Gives .recordInject s (fun t => t.rpl.st = .replayEnd ∧ t.mem = s.mem)) ∧
    (r.kind = 0x60 → Gives .recordInject s (fun t => t = { s with rpl := { s.rpl with inj := false, nextSeq := s.rpl.nextSeq + 1 } }))) ∧
  (∀ (s : State), s.rpl.st = .replaying → s.dueRec = none → Gives .recordInject s (fun t => t = s))

/-- Sentinel tests, unit shadows, temperature bins. Under the conditions on the state and operands that the Lean names, each completes with
the fields it names: SENTINEL_RESULT, UNIT_SHADOW_RESULT, HEALTH_SENSOR_READ. (R667, R671, R664, R670, R665, R674) -/
def Obligations.SentinelsAndBins : Prop :=
  (∀ (s : State) (u : Nat) (d : DWord), isPart u = true → u ∈ s.health.testing →
    Gives (.sentinelResult u d d true) s (fun t => t.score u (s.binOf u) = min 1000 (s.score u (s.binOf u) + s.regBits Reg.HLT_CFG 20 6) ∧
      t.health.passed.get 0 u = s.health.passed.get 0 u + 1 ∧ t.health.testing = s.health.testing.erase u ∧
      t.reg Reg.HLT_SENT_PASS = (s.reg Reg.HLT_SENT_PASS + 1) % 2 ^ 64)) ∧
  (∀ (s r : State) (u : Nat) (d known : DWord) (clean : Bool), isPart u = true → u ∈ s.health.testing → d ≠ known ∨ clean = false →
    r = { s with health := { s.health with testing := s.health.testing.erase u } } →
    Gives (.sentinelResult u d known clean) s (fun t => t = ((((r.count Reg.HLT_SENT_FAIL 1).deduct u 500).healthLog 4 u 0 0 d).hltEvt 4).settleUnit u)) ∧
  (∀ (s : State) (u : Nat) (d known : DWord) (clean : Bool), isPart u = true → u ∉ s.health.testing → Gives (.sentinelResult u d known clean) s (fun t => t = s)) ∧
  (∀ (s r : State) (u0 u1 u2 : Nat) (a b : DWord), isPart u0 = true → isPart u1 = true → isPart u2 = true → [u0, u1, u2] ∈ s.health.trios → a ≠ b →
    r = { s with health := { s.health with trios := s.health.trios.erase [u0, u1, u2] } } →
    Gives (.unitShadowResult u0 u1 u2 a a a) s (fun t => t = r) ∧
    Gives (.unitShadowResult u0 u1 u2 b a a) s (fun t => t = (r.shadowMiss u0 500 b).shadowFound) ∧
    Gives (.unitShadowResult u0 u1 u2 a b a) s (fun t => t = (r.shadowMiss u1 500 b).shadowFound) ∧
    Gives (.unitShadowResult u0 u1 u2 a a b) s (fun t => t = (r.shadowMiss u2 500 b).shadowFound) ∧
    (∀ c : DWord, c ≠ a → c ≠ b → Gives (.unitShadowResult u0 u1 u2 a b c) s (fun t =>
      t = (((r.shadowMiss u0 100 a).shadowMiss u1 100 b).shadowMiss u2 100 c).shadowFound))) ∧
  (∀ (s : State) (temps : List Int) (loads : List (Nat × Nat)), temps.length = 17 → loads.all (fun p => isPart p.1 && decide (p.2 < 4)) = true →
    Gives (.healthSensorRead temps loads) s (fun t => ∀ i, i < 17 → t.power.temp.get 0 i = temps.getD i 0) ∧
    (s.health.quar = [] → Gives (.healthSensorRead temps loads) s (fun t => (∀ i, i < 17 → t.health.tbin.get 0 i = tbinOf (temps.getD i 0)) ∧
      t.health.scores = s.health.scores ∧ t.mem = s.mem)))

/-- Heartbeats, takeover, expulsion, spares. Under the conditions on the state and operands that the Lean names, each completes with the
fields it names: HEARTBEAT_SEND, HEARTBEAT_PERIOD_END, TAKEOVER_UNMUTE, EXPEL_RETRY, STEWARD_TOKEN_REGAIN, EXPEL_GRANT, WORK_HANDOVER,
SPARE_LOAD, SPARE_TEST_DONE. (R679, R685, R689, R693, R692, R695, R696, R700, R678, R686) -/
def Obligations.BeatsAndExpulsion : Prop :=
  (
  (∀ (s : State) (n : Nat), s.beatTo = [n] → Gives .heartbeatSend s (fun t =>
    t = s.mail n 0 (s.regBits Reg.HLT_DOMAIN 0 8) s.health.role.code)) ∧
  (∀ (s p : State), p = { s with health := { s.health with peers := s.health.peers.map Peer.ended } }.partnerLost →
    (p.isolated = true → Gives .heartbeatPeriodEnd s (fun t => t.health.fenced = true)) ∧
    (p.isolated = false → p.health.fenced = true → Gives .heartbeatPeriodEnd s (fun t => t = p)) ∧
    (∀ w, p.isolated = false → p.health.fenced = false →
      p.health.peers.filter (fun x => x.isWard && !x.asked && x.lostAt.isNone && decide (p.hbMiss ≤ x.miss)) = [w] →
      (p.stewardNow = p.self % 4096 → Gives .heartbeatPeriodEnd s (fun t => t = p.wardLost w.node)) ∧
      (p.stewardNow ≠ p.self % 4096 → Gives .heartbeatPeriodEnd s (fun t => t = p.askSteward w)))) ∧
  (∀ p : Peer, (p.beat = true → p.ended = { p with beat := false, miss := 0 }) ∧ (p.beat = false → p.ended = { p with miss := p.miss + 1 })) ∧
  (∀ (s : State) (n at0 : Nat), n < 512 → s.health.unmuteAt.find n = some at0 →
    (at0 ≤ s.now → Gives (.takeoverUnmute n) s (fun t => (t.cell n).muted = false ∧ t.health.unmuteAt.find n = none ∧ t.health.taken = true)) ∧
    (s.now < at0 → Gives (.takeoverUnmute n) s (fun t => t = s)))) ∧
  (
  (∀ s : State, (s.health.expel = 1 → s.health.expelSent + 10 * secondTc ≤ s.now → Gives .expelRetry s (fun t => t = s.sendExpel s.health.expelCause)) ∧
    (s.health.expel ≠ 1 ∨ s.now < s.health.expelSent + 10 * secondTc → Gives .expelRetry s (fun t => t = s))) ∧
  (∀ s : State, s.isSteward = true → s.health.tokenAt + s.expelWin ≤ s.now → Gives .stewardTokenRegain s (fun t =>
    t.health = { s.health with tokens := min s.expelMax (s.health.tokens + 1), tokenAt := s.health.tokenAt + s.expelWin } ∧ Only [.health] s t)) ∧
  (∀ (s : State) (r : ExpelReq) (n : Nat), s.health.reqs.head? = some r → s.health.spares.head? = some n →
    (s.isSteward = true → 0 < s.health.tokens → Gives .expelGrant s (fun t => t.health.tokens = s.health.tokens - 1 ∧ t.health.reqs = s.health.reqs.drop 1 ∧
      t.health.spares = s.health.spares.drop 1 ∧ t.health.granted = s.health.granted ++ [r.node] ∧ t.mem = s.mem)) ∧
    (s.health.tokens = 0 → Gives .expelGrant s (fun t => t = s))) ∧
  (∀ s : State, s.health.reqs = [] ∨ s.health.spares = [] → Gives .expelGrant s (fun t => t = s)) ∧
  (∀ s : State, (s.health.role = .expelling → Gives .workHandover s (fun t => t.health.role = .expelled ∧ t.health.expel = 4 ∧ t.start.dev = .stopping)) ∧
    (s.health.role ≠ .expelling → Gives .workHandover s (fun t => t = s))) ∧
  (∀ (s : State) (n : Nat), n < 4096 →
    (s.health.role = .spareReady → s.health.serveFor = some n → Gives (.spareLoad n) s (fun t => t.health.role = .active ∧ t.health.serveFor = none ∧
      t.health.taken = true ∧ t.reg Reg.HLT_EVT = s.reg Reg.HLT_EVT ||| 0x200)) ∧
    (s.health.serveFor ≠ some n → Gives (.spareLoad n) s (fun t => t = s))) ∧
  (∀ s : State, s.health.role = .spareTest → s.testsDone = true → s.health.quar.any (fun p => s.quarHard p.1) = false →
    Gives .spareTestDone s (fun t => t.health.role = .spareReady ∧ t.mem = s.mem)))

/-- Step shadows. STEP_SHADOW_COMPARE counts a step that matches, admits the device at ADMIT_STEPS into the role of ADMIT_AS, and on a
mismatch keeps the step for a second run; SHADOW_RERUN_RESULT finds the shadow's own fault, the subject's wrong result, or two faults of the
shadow, and each of the shadow's own faults resets RUN. (R697, R698, R699, R701) -/
def Obligations.StepShadows : Prop :=
  (∀ (s : State) (tn slot step : Nat) (a b : DWord), tn < 1024 → slot < 16 → s.health.role = .shadow → s.health.rerun = none →
    (a = b → s.health.shRun + 1 < s.regBits Reg.HLT_SHADOW 12 16 → Gives (.stepShadowCompare tn slot step a b) s (fun t =>
      t = { s with health := { s.health with shRun := s.health.shRun + 1 } })) ∧
    (a = b → s.regBits Reg.HLT_SHADOW 12 16 ≤ s.health.shRun + 1 → Gives (.stepShadowCompare tn slot step a b) s (fun t =>
      t.health.role = (if s.regBits Reg.HLT_SHADOW 28 1 = 1 then .spareReady else .active) ∧ t.reg Reg.HLT_EVT = s.reg Reg.HLT_EVT ||| 0x200)) ∧
    (a ≠ b → Gives (.stepShadowCompare tn slot step a b) s (fun t => t.health = { s.health with
      shMiss := min 0xFFFF (s.health.shMiss + 1), rerun := some (slotKey tn slot, step, a) } ∧ t.reg Reg.HLT_EVT = s.reg Reg.HLT_EVT ||| 0x100))) ∧
  (∀ (s r : State) (tn slot step : Nat) (first a b : DWord), tn < 1024 → slot < 16 → s.health.rerun = some (slotKey tn slot, step, first) →
    r = { s with health := { s.health with rerun := none } } →
    (a = b → Gives (.shadowRerunResult tn slot step a b) s (fun t => t = r.shadowFault step ∧ t.health.shRun = 0)) ∧
    (a ≠ b → a = first → Gives (.shadowRerunResult tn slot step a b) s (fun t => t = r.wrongResult step)) ∧
    (a ≠ b → a ≠ first → Gives (.shadowRerunResult tn slot step a b) s (fun t => t = (r.shadowFault step).shadowFault step)))

/-- Commands of HLT_CMD and the health log. EXPEL, UNFENCE, SHADOW_START and SHADOW_STOP act when their condition is met, and are otherwise
ignored with HLT_EVT.REFUSED set; HLT_LOG_ACK takes entries off the log. (R706) -/
def Obligations.HealthCommands : Prop :=
  (∀ (s u : State), s.replayed = false → u = s.logIn 5 0x04 pf0 (BitVec.ofNat 64 (Reg.HLT_CMD + 2 * 2 ^ 48)) (leBytes 4 1) →
    (u.health.role = .active → Gives .expel s (fun t => t = u.requestExpel 5)) ∧ (u.health.role ≠ .active → Gives .expel s (fun t => t = u.hltEvt 0x400))) ∧
  (∀ (s u : State), s.replayed = false → u = s.logIn 5 0x04 pf0 (BitVec.ofNat 64 (Reg.HLT_CMD + 2 * 2 ^ 48)) (leBytes 4 2) →
    (u.health.fenced = true → u.beatHeard = true → Gives .unfence s (fun t => t = u.unfence ∧ t.health.fenced = false)) ∧
    (u.health.fenced = false ∨ u.beatHeard = false → Gives .unfence s (fun t => t = u.hltEvt 0x400))) ∧
  (∀ (s u : State), s.replayed = false → u = s.logIn 5 0x04 pf0 (BitVec.ofNat 64 (Reg.HLT_CMD + 2 * 2 ^ 48)) (leBytes 4 3) →
    (u.health.role = .active ∨ u.health.role = .spareReady → u.inf.models.any (fun p => p.2.mirrored) = false → u.mirroredCells = [] →
      Gives .shadowStart s (fun t => t.health = { u.health with roleBefore := u.health.role, role := .shadow, shRun := 0, rerun := none } ∧ Only (noted ++ [.health]) s t)) ∧
    ((u.health.role ≠ .active ∧ u.health.role ≠ .spareReady) ∨ u.inf.models.any (fun p => p.2.mirrored) = true ∨ u.mirroredCells ≠ [] → Gives .shadowStart s (fun t => t = u.hltEvt 0x400))) ∧
  (∀ (s u : State), s.replayed = false → u = s.logIn 5 0x04 pf0 (BitVec.ofNat 64 (Reg.HLT_CMD + 2 * 2 ^ 48)) (leBytes 4 4) →
    (u.health.role = .shadow → Gives .shadowStop s (fun t => t.health = { u.health with role := u.health.roleBefore, rerun := none } ∧ Only (noted ++ [.health]) s t)) ∧
    (u.health.role ≠ .shadow → Gives .shadowStop s (fun t => t = u.hltEvt 0x400))) ∧
  (∀ (s : State) (n : Nat), s.replayed = false →
    Gives (.hltLogAck n) s (fun t => t.reg Reg.HLT_LOG_COUNT = s.reg Reg.HLT_LOG_COUNT - min (n % 2 ^ 9) (s.reg Reg.HLT_LOG_COUNT) ∧
      t.reg Reg.HLT_LOG_TAIL = (s.reg Reg.HLT_LOG_TAIL + min (n % 2 ^ 9) (s.reg Reg.HLT_LOG_COUNT)) % 256))

/-- Supplies, PERST# and the phases of start. Under the conditions on the state and operands that the Lean names, each completes with the
fields it names: PWR_OK_ASSERT, PWR_OK_DEASSERT, PERST_ASSERT, PERST_DEASSERT, START_PHASE_END. (R708, R712, R711, R756, R728, R743, R759)
-/
def Obligations.SuppliesAndPhases : Prop :=
  (∀ s : State, (s.start.pwrOk = false → Gives .pwrOkAssert s (fun t => t.start.pwrOk = true ∧ t.start.phase = 0 ∧ t.start.perst = s.start.perst ∧
      t.start.svnMin = s.start.svnMin ∧ t.sched = State.reset.sched ∧ t.radio = State.reset.radio ∧ t.out = s.out ∧
      (∀ a, 2 ^ 46 ≤ a → t.mem.rd a = s.mem.rd a) ∧ (∀ a, a < 2 ^ 46 → t.mem.rd a = 0))) ∧
    (s.start.pwrOk = true → Gives .pwrOkAssert s (fun t => t = s)) ∧
    Gives .pwrOkDeassert s (fun t => t.start.pwrOk = false ∧ t.start.flash = none ∧ t.start.ownerHash = s.start.ownerHash ∧ t.host = State.reset.host ∧ t.out = s.out) ∧
    (s.flashAlters = none → Gives .pwrOkDeassert s (fun t => ∀ a, 2 ^ 46 ≤ a → t.mem.rd a = s.mem.rd a))) ∧
  (∀ (s r : State), s.start.perst = false → r = { s with start := { s.start with perst := true } } →
    (s.start.served = false → Gives .perstAssert s (fun t => t = r.resetEndpoint ∧ t.mem = s.mem ∧ t.host.fns = HostIf.reset.fns)) ∧
    (s.start.served = true → s.start.action < 3 → Gives .perstAssert s (fun t => t = r.restarted ∧ t.start.restart = 4 ∧ t.inf = State.reset.inf))) ∧
  (∀ s : State, (s.start.restart = 4 → Gives .perstDeassert s (fun t => t.start = { s.start with perst := false, restart := 0, beganAt := s.time.hub } ∧ Only [.start] s t)) ∧
    (s.start.restart ≠ 4 → Gives .perstDeassert s (fun t => t.start = { s.start with perst := false } ∧ Only [.start] s t))) ∧
  (∀ (s : State) (full : Nat), s.start.pwrOk = false ∨ s.start.failed = true ∨ s.start.restart = 4 → Gives (.startPhaseEnd full) s (fun t => t = s)) ∧
  (∀ (s : State) (full : Nat), s.start.pwrOk = true → s.start.failed = false → s.start.restart ≠ 4 →
    (s.start.phase = 0 → s.start.identErased = false → Gives (.startPhaseEnd full) s (fun t => t.start.phase = 1 ∧ t.start.sessionKey = true ∧ t.start.failed = false ∧
      t.start.mr.get 0 0 = sha384 (shaBytes (s.start.mr.get 0 0) ++ shaBytes (sha384 (leBytes 4 Config.romVersion ++ leBytes 4 s.fuseWord ++ shaBytes s.start.ownerHash))))) ∧
    (s.start.phase = 0 → s.start.identErased = true → Gives (.startPhaseEnd full) s (fun t => t.start.failed = true ∧ t.start.dev = .alarm ∧ t.start.sessionKey = false)) ∧
    (∀ r, s.start.phase = 1 → r = (s.readSlot 0).readSlot 1 → Gives (.startPhaseEnd full) s (fun t => match r.chooseSlot with
      | none => t.start.failed = true ∧ t.start.dev = .alarm
      | some i => t.start.slot = i ∧ t.start.phase = 2 ∧ t.start.mr.get 0 5 = sha384 (shaBytes (r.start.mr.get 0 5) ++ shaBytes (sha384 (r.header i))))) ∧
    (s.start.phase = 2 → Gives (.startPhaseEnd full) s (fun t => t.start.phase = 3 ∧ t.start.fullTrain = full % 16 ∧ Only [.start] s t)) ∧
    (∀ c, s.start.phase = 3 → c = s.p3Check s.start.slot (s.header s.start.slot) → Gives (.startPhaseEnd full) s (fun t =>
      if c = 0 then t.start.phase = 4 ∧ t.start.imgOwner = sha384 (hdrOwner (s.header s.start.slot)) ∧ Only [.start] s t else t = s.refuseSlot c 0)) ∧
    (s.start.phase = 4 → s.start.p5done = false → Gives (.startPhaseEnd full) s (fun t => t.start.p5done = true ∧ t.start.phase = 4 ∧
      (∀ c o, c < 48 → o < 2 ^ 23 → t.mem.rd (poolAt c o) = 0) ∧ (∀ p, p < 3 → (t.host.ports.get {} (16 + p)).st = .starting))) ∧
    (∀ r, s.start.phase = 4 → s.start.p5done = true → r = s.p4 s.start.slot (s.header s.start.slot) → Gives (.startPhaseEnd full) s (fun t =>
      t = if r.cause = 0 then r.st.firstServe else s.refuseSlot r.cause r.entry))) ∧
  (∀ (s : State) (c e : Nat), s.start.fallback = true ∨ (s.slotHdr (1 - s.start.slot)).valid = false →
    (s.refuseSlot c e).start.failed = true ∧ (s.refuseSlot c e).start.dev = .alarm ∧ (s.refuseSlot c e).start.cause = c)

/-- A restart is armed and withdrawn. RESTART_ARM sets the restart instant from HUB_RESTART_AT, or RESTART_MS ms ahead when that is 0, lies
before the counter, or the time unit is in FREERUN, and raises the restart-pending attention to PF0 and every VF that is ON; RESTART_CANCEL
before the instant withdraws it. (R729) -/
def Obligations.RestartArming : Prop :=
  (∀ (s u : State), s.replayed = false → u = s.logIn 5 0x04 pf0 (BitVec.ofNat 64 (Reg.HUB_CMD + 2 * 2 ^ 48)) (leBytes 4 1) →
    (u.start.restart < 2 → u.reg Reg.HUB_RESTART_AT = 0 ∨ stampTc (u.regs.get 0 Reg.HUB_RESTART_AT) < u.now ∨ u.time.st = .freerun →
      Gives .restartArm s (fun t => t.start.restart = 1 ∧ t.start.restartAt = u.now + u.regBits Reg.HUB_CFG 4 10 * 1966080 ∧
        t.reg Reg.HUB_EVT = u.reg Reg.HUB_EVT ||| 2 ∧ ∀ f ∈ u.onFns, (t.fn f).attn.getLsbD 4 = true)) ∧
    (u.start.restart < 2 → u.reg Reg.HUB_RESTART_AT ≠ 0 → u.now ≤ stampTc (u.regs.get 0 Reg.HUB_RESTART_AT) → u.time.st ≠ .freerun →
      Gives .restartArm s (fun t => t.start.restart = 1 ∧ t.start.restartAt = stampTc (u.regs.get 0 Reg.HUB_RESTART_AT) ∧
        t.reg Reg.HUB_EVT = u.reg Reg.HUB_EVT ||| 2 ∧ ∀ f ∈ u.onFns, (t.fn f).attn.getLsbD 4 = true)) ∧
    (2 ≤ u.start.restart → Gives .restartArm s (fun t => t = u))) ∧
  (∀ (s u : State), s.replayed = false → u = s.logIn 5 0x04 pf0 (BitVec.ofNat 64 (Reg.HUB_CMD + 2 * 2 ^ 48)) (leBytes 4 2) →
    (u.start.restart = 1 → Gives .restartCancel s (fun t => t = { u with start := { u.start with restart := 0 } })) ∧
    (u.start.restart ≠ 1 → Gives .restartCancel s (fun t => t = u)))

/-- Restarts, the training store, fuses, the flash, measurement in service. Under the conditions on the state and operands that the Lean
names, each completes with the fields it names: TRAINING_STORE_WRITE, RESTART_INSTANT, RESTART_STOPPING, RESTART_RESET, COMMIT_SVN,
TAKE_OWNER, FLASH_ERASE, FLASH_PROGRAM, FLASH_READ, FLASH_DONE, SEC_MR_EXT. (R727, R730, R745, R715, R731, R743, R748) -/
def Obligations.RestartsAndFlash : Prop :=
  (
  (∀ s : State, s.start.served = true → s.start.trainOwed = true → s.regBits Reg.HUB_CFG 2 2 ≠ 2 → s.time.hub ≤ s.start.servedAt + 16000000000 →
    Gives .trainingStoreWrite s (fun t => t.start = { s.start with trainOwed := false, trainCopy := s.start.trainCopy + 1 } ∧ Only [.start] s t)) ∧
  (∀ s : State, (s.start.restart = 1 → s.start.restartAt ≤ s.now → s.radio.cells = [] → Gives .restartInstant s (fun t =>
      t = { s with start := { s.start with restart := 2 } })) ∧
    (∀ n x, s.start.restart = 1 → s.start.restartAt ≤ s.now → s.radio.cells = [(n, x)] → x.en.st = .on → Gives .restartInstant s (fun t =>
      t = State.stopCell { s with start := { s.start with restart := 2 } } n 0)) ∧
    (s.start.restart ≠ 1 ∨ s.now < s.start.restartAt → Gives .restartInstant s (fun t => t = s)) ∧
    (s.start.restart = 2 → s.radio.cells.any (fun p => p.2.en.st != .off) = false → Gives .restartStopping s (fun t =>
      t.start.restart = 3 ∧ t.start.stoppingAt = s.now ∧ t.start.dev = .stopping)) ∧
    (s.start.restart = 2 → s.radio.cells.any (fun p => p.2.en.st != .off) = true → Gives .restartStopping s (fun t => t = s)) ∧
    (s.start.restart = 3 → s.start.action < 3 → s.start.flash = none → s.liveVfs = [] ∨ s.start.stoppingAt + 20 * 1966080 ≤ s.now →
      Gives .restartReset s (fun t => t = s.restarted ∧ t.sched = State.reset.sched ∧ t.start.svnMin = s.start.svnMin)) ∧
    (s.start.restart ≠ 3 ∨ s.start.flash ≠ none → Gives .restartReset s (fun t => t = s))) ∧
  (∀ (s u : State) (k : Nat), s.replayed = false → u = s.logIn 5 0x04 pf0 (BitVec.ofNat 64 (Reg.HUB_CMD + 2 * 2 ^ 48)) (leBytes 4 (3 + k % 2 ^ 16 * 2 ^ 16)) →
    (k % 2 ^ 16 = 0x4B44 → u.start.served = true → Gives (.commitSvn k) s (fun t => t = { u with start := { u.start with svnMin := max u.start.svnMin u.start.imgSvn } })) ∧
    (k % 2 ^ 16 ≠ 0x4B44 → Gives (.commitSvn k) s (fun t => t.reg Reg.HUB_EVT = u.reg Reg.HUB_EVT ||| 1 ∧ t.start = u.start))) ∧
  (∀ (s u : State) (k : Nat), s.replayed = false → u = s.logIn 5 0x04 pf0 (BitVec.ofNat 64 (Reg.HUB_CMD + 2 * 2 ^ 48)) (leBytes 4 (4 + k % 2 ^ 16 * 2 ^ 16)) →
    (k % 2 ^ 16 = 0x4B44 → u.start.served = true → u.start.ownerSet = false →
      Gives (.takeOwner k) s (fun t => t = { u with start := { u.start with ownerSet := true, ownerHash := u.start.imgOwner } })) ∧
    (k % 2 ^ 16 ≠ 0x4B44 ∨ u.start.ownerSet = true → Gives (.takeOwner k) s (fun t => t.reg Reg.HUB_EVT = u.reg Reg.HUB_EVT ||| 1 ∧ t.start = u.start)))) ∧
  (
  (∀ (s u : State), s.replayed = false → u = s.logIn 5 0x04 pf0 (BitVec.ofNat 64 (Reg.HUB_FLASH_CMD + 2 * 2 ^ 48)) (leBytes 4 1) →
    (u.flashFree = true → 0 < u.flashLen → Gives .flashErase s (fun t => t.start.flash.isSome = true ∧ t.reg Reg.HUB_FLASH_STAT = 1 ∧
      (∀ o, u.flashOfs ≤ o → o < u.flashOfs + u.flashLen → t.mem.rd (flashAt o) = 0) ∧
      (∀ a, a < flashAt (u.flashOfs / 65536 * 65536) ∨ flashAt (ceilDiv (u.flashOfs + u.flashLen) 65536 * 65536) ≤ a → t.mem.rd a = u.mem.rd a))) ∧
    (u.flashFree = false → Gives .flashErase s (fun t => t.reg Reg.HUB_FLASH_STAT = u.reg Reg.HUB_FLASH_STAT ||| 4 ∧ t.mem = s.mem ∧ t.start = u.start))) ∧
  (∀ (s u : State) (b : List Byte), s.replayed = false → u = s.logIn 5 0x04 pf0 (BitVec.ofNat 64 (Reg.HUB_FLASH_CMD + 2 * 2 ^ 48)) (leBytes 4 2) →
    (u.flashFree = true → b.length = u.flashLen → Gives (.flashProgram b) s (fun t => t.start.flash = some (2, u.flashOfs, u.flashLen) ∧
      t.reg Reg.HUB_FLASH_STAT = 1 ∧ t.mem = u.mem.wrBytes (flashAt u.flashOfs) ((List.zip (u.mem.rdBytes (flashAt u.flashOfs) b.length) b).map (fun p => p.1 ||| ~~~p.2)))) ∧
    (u.flashFree = false → Gives (.flashProgram b) s (fun t => t.reg Reg.HUB_FLASH_STAT = u.reg Reg.HUB_FLASH_STAT ||| 4 ∧ t.mem = s.mem ∧ t.start = u.start))) ∧
  (∀ (s u : State), s.replayed = false → u = s.logIn 5 0x04 pf0 (BitVec.ofNat 64 (Reg.HUB_FLASH_CMD + 2 * 2 ^ 48)) (leBytes 4 3) →
    (u.flashFree = true → Gives .flashRead s (fun t => t.out = u.out ++ [.hostWrite pf0 (u.regBits Reg.HUB_FLASH_HOST 0 48) (u.flash u.flashOfs u.flashLen)] ∧
      t.reg Reg.HUB_FLASH_STAT = 1 ∧ t.mem = s.mem)) ∧
    (u.flashFree = false → Gives .flashRead s (fun t => t.reg Reg.HUB_FLASH_STAT = u.reg Reg.HUB_FLASH_STAT ||| 4 ∧ t.mem = s.mem ∧ t.start = u.start))) ∧
  (∀ (s : State) (ok : Bool), (s.start.flash = none → Gives (.flashDone ok) s (fun t => t = s)) ∧
    (s.start.flash ≠ none → Gives (.flashDone ok) s (fun t => t.start.flash = none ∧ t.reg Reg.HUB_FLASH_STAT = (if ok then 2 else 8) ∧ (ok = true → t.mem = s.mem)))) ∧
  (∀ (s u : State) (i : Nat), s.replayed = false → u = s.logIn 5 0x04 pf0 (BitVec.ofNat 64 (Reg.SEC_MR_EXT + 2 * 2 ^ 48)) (leBytes 4 i) →
    (12 ≤ i % 16 → Gives (.secMrExt i) s (fun t => t.start.mr.get 0 (i % 16) = sha384 (shaBytes (u.start.mr.get 0 (i % 16)) ++
      (List.range 12).flatMap (fun k => leBytes 4 (u.reg (Reg.SEC_MR_EXT_DATA k)))) ∧ (∀ j, j ≠ i % 16 → t.start.mr.get 0 j = u.start.mr.get 0 j))) ∧
    (i % 16 < 12 → Gives (.secMrExt i) s (fun t => t = u))))

/-- Attestation, the debug port, security alarms. Under the conditions on the state and operands that the Lean names, each completes with
the fields it names: the seven SPDM requests, IDCODE, BYPASS, SAMPLE_PRELOAD, EXTEST, EXTEST_EXIT, DBG_TOKEN, SECURITY_ALARM, TAMPER_CHECK.
(R733, R734, R740, R773, R742, R741, R743, R772) -/
def Obligations.AttestationAndDebug : Prop :=
  (
  (∀ s : State, s.spdmOpen = true → Gives .getVersion s (fun t => t.start.spdm = 1 ∧ t.out = s.out ++ [.spdm 4 (leBytes 2 0x1200)])) ∧
  (∀ s : State, s.spdmOpen = true → s.start.identErased = false →
    (s.start.spdm = 0 → Gives .getCapabilities s (fun t => t = s.spdmErr 4)) ∧
    (1 ≤ s.start.spdm → Gives .getCapabilities s (fun t => t.start.spdm = max 2 s.start.spdm ∧ t.out = s.out ++ [.spdm 0x61 (leBytes 4 0x16)])) ∧
    (∀ hash sig : Nat, 2 ≤ s.start.spdm →
      (hash.testBit 1 = true → sig.testBit 7 = true → Gives (.negotiateAlgorithms hash sig) s (fun t => t.start.spdm = 3 ∧ t.out.length = s.out.length + 1)) ∧
      (hash.testBit 1 = false ∨ sig.testBit 7 = false → Gives (.negotiateAlgorithms hash sig) s (fun t => t = s.spdmErr 1))) ∧
    (3 ≤ s.start.spdm → Gives .getDigests s (fun t => t.out = s.out ++ [.spdm 1 (leBytes 1 1 ++ shaBytes (sha384 s.chain))] ∧ t.start = s.start)) ∧
    (∀ ofs len p, 3 ≤ s.start.spdm → ofs ≤ s.chain.length → p = (s.chain.drop ofs).take len → Gives (.getCertificate 0 ofs len) s (fun t =>
      t.out = s.out ++ [.spdm 2 (leBytes 2 p.length ++ leBytes 2 (s.chain.length - ofs - p.length) ++ p)] ∧ t.start = s.start)) ∧
    (∀ slot ofs len, 3 ≤ s.start.spdm → slot ≠ 0 ∨ s.chain.length < ofs → Gives (.getCertificate slot ofs len) s (fun t => t = s.spdmErr 1)) ∧
    (∀ nonce, 3 ≤ s.start.spdm → Gives (.challenge 0 nonce) s (fun t => t.out.length = s.out.length + 1 ∧ s.drawn < t.drawn ∧ t.start = s.start)) ∧
    (∀ slot nonce, 3 ≤ s.start.spdm → slot ≠ 0 → Gives (.challenge slot nonce) s (fun t => t = s.spdmErr 1)) ∧
    (∀ i nonce v, 3 ≤ s.start.spdm → i ≠ 0 → i ≠ 0xFF → s.measurement i = some v → Gives (.getMeasurements i false nonce) s (fun t =>
      t.out = s.out ++ [.spdm 0x60 (leBytes 1 1 ++ (leBytes 1 i ++ leBytes 2 v.length ++ v))] ∧ t.start = s.start)) ∧
    (∀ i nonce b, 3 ≤ s.start.spdm → i ≠ 0 → i ≠ 0xFF → s.measurement i = none → Gives (.getMeasurements i b nonce) s (fun t => t = s.spdmErr 1)))) ∧
  (
  (∀ s : State, s.start.pwrOk = true →
    Gives .idcode s (fun t => t.start.ir = .idcode ∧ t.out = s.out ++ [.tdo 0x09640A01]) ∧
    Gives .bypass s (fun t => t.start.ir = .bypass) ∧
    (∀ pins, Gives (.samplePreload pins) s (fun t => t.start.ir = .sample ∧ t.start.chain = pins)) ∧
    (∀ pins, s.start.ir ≠ .extest → Gives (.samplePreload pins) s (fun t => t.out = s.out ++ [.tdo s.start.chain.toNat])) ∧
    (∀ pins, s.start.perst = true → Gives (.extest pins) s (fun t => t.start.ir = .extest ∧ t.start.chain = pins ∧ t.out = s.out ++ [.tdo s.start.chain.toNat])) ∧
    (∀ pins, s.start.perst = false → Gives (.extest pins) s (fun t => t = s))) ∧
  (∀ s : State, (s.start.ir = .extest → Gives .extestExit s (fun t => t.start.ir = .bypass ∧ t.start.phase = 0 ∧ t.sched = State.reset.sched)) ∧
    (s.start.ir ≠ .extest → Gives .extestExit s (fun t => t = s))) ∧
  (∀ (s j : State) (b : List Byte), s.start.pwrOk = true → j = s.jtag .token →
    Gives (.dbgToken b) s (fun t => if j.tokenOk b then t.start.debug = true ∧ t.start.debugScope = byteField b 40 1 ∧ t.start.sessionKey = false
      else t = State.alarm { j with start := { j.start with nonce := Config.dbgNonce j.drawn }, drawn := j.drawn + 1 } 5)) ∧
  (∀ (s : State) (b : Nat), b < 7 → s.start.pwrOk = true → Gives (.securityAlarm b) s (fun t => t = s.alarm b ∧
    t.start.action = max s.start.action (s.regBits Reg.SEC_ALARM_ACT (2 * b) 2))) ∧
  (∀ (s : State) (b : Nat), (s.alarmLog b).reg Reg.SEC_ALARM = s.reg Reg.SEC_ALARM ||| 2 ^ b) ∧
  (∀ (s : State) (x next : Bool), s.start.pwrOk = true →
    (x = s.start.tampOut → Gives (.tamperCheck x next) s (fun t => t = { s with start := { s.start with tamperMiss := 0, tampOut := next } })) ∧
    (x ≠ s.start.tampOut → s.start.tamperMiss = 0 → Gives (.tamperCheck x next) s (fun t => t = { s with start := { s.start with tamperMiss := 1, tampOut := next } })) ∧
    (x ≠ s.start.tampOut → 1 ≤ s.start.tamperMiss → Gives (.tamperCheck x next) s (fun t =>
      t = State.alarm { s with start := { s.start with tamperMiss := 0, tampOut := next } } 1))))

/-- Thermal ceilings. A thermal revision lowers a die's ceiling by 1, not below 16, when the hottest of its sensors reads 100 °C or more,
raises it by 1, not above 32, at 97 °C or less, and leaves it unchanged between. (R761) -/
def Obligations.ThermalCeilings : Prop :=
  (∀ (s : State) (temps : List Int) (d : Nat), temps.length = 17 → d < 4 → Gives (.thermalRevision temps) s (fun t =>
    t.tCeil d = (if 800 ≤ dieTemp temps d then (if 16 < s.tCeil d then s.tCeil d - 1 else s.tCeil d)
      else if dieTemp temps d ≤ 776 ∧ s.tCeil d < 32 then s.tCeil d + 1 else s.tCeil d) ∧ t.power.p = s.power.p))

/-- The thermal trip, power ceilings, the fast step, signal on a lane. Under the conditions on the state and operands that the Lean names,
each completes with the fields it names: THERMTRIP, POWER_REVISION, FAST_STEP, SIGNAL_ON. (R771, R762, R764, R527, R765, R766) -/
def Obligations.PowerCeilings : Prop :=
  (∀ s : State, s.start.pwrOk = true → s.power.thermTrip = false → Gives .thermtrip s (fun t => t.power.thermTrip = true ∧ (∀ p, p < 3 → (t.port p).link = .down) ∧ t.mem = s.mem)) ∧
  (∀ (s b : State) (p10 p100 : Nat), b = State.powerBase { s with power := { s.power with ticks := s.power.ticks + 1 } } →
    (∀ d, s.plimit < p10 → b.lowerable = some d → Gives (.powerRevision p10 p100) s (fun t => t.pCeil d = b.pCeil d - 1 ∧ t.power.t = s.power.t ∧
      t.reg Reg.HUB_THR_CNT = (s.reg Reg.HUB_THR_CNT + 1) % 2 ^ 64)) ∧
    (s.plimit < p10 → b.lowerable = none → Gives (.powerRevision p10 p100) s (fun t => t.power.p = b.power.p ∧
      ((∃ d, d < 4 ∧ b.radioDie d = true ∧ b.held d = false ∧ t.held d = true) ∨ t.power.hold = b.power.hold))) ∧
    (∀ d, p10 ≤ s.plimit → s.power.ticks % 10 = 0 → p100 * 100 < s.plimit * 95 → (∀ e, b.held e = true → 4 ≤ e) → b.raisable = some d →
      Gives (.powerRevision p10 p100) s (fun t => t.pCeil d = b.pCeil d + 1)) ∧
    (p10 ≤ s.plimit → s.power.ticks % 10 ≠ 0 ∨ s.plimit * 95 ≤ p100 * 100 → Gives (.powerRevision p10 p100) s (fun t => t = b))) ∧
  (∀ s : State, (∀ h, s.power.fastAt = some h → s.time.hub < h + 16000 → Gives .fastStep s (fun t => t = s)) ∧
    (∀ d, (∀ h, s.power.fastAt = some h → h + 16000 ≤ s.time.hub) → d < 4 → (∀ e, e < 4 → s.radioDie e = false) → Gives .fastStep s (fun t =>
      t.pCeil d = (if 16 < s.pCeil d then max 16 (s.pCeil d - 4) else s.pCeil d) ∧ t.power.fastAt = some s.time.hub))) ∧
  (∀ (s : State) (p : Nat), p < 3 →
    ((s.port p).link = .down → (s.host.ports.get {} (16 + p)).st ≠ .off → Gives (.signalOn p) s (fun t => (t.port p).link = .train ∧ Only [.fab] s t)) ∧
    ((s.port p).link ≠ .down → Gives (.signalOn p) s (fun t => t = s)))
end

