-- ==== Sys2Proof/Laws/Mem.lean ====
section
/-! SUPPORT. The storage: what a read gives after a write, and that every operation keeps the canonical form. -/
namespace Sys2Proof.Machine

/-! ### Canonical form -/

theorem Mem.wfFrom_mono {lo hi : Nat} {m : Mem} (h : m.wfFrom hi = true) (hl : lo ≤ hi) : m.wfFrom lo = true := by
  cases m with
  | nil => rfl
  | cons c r =>
    obtain ⟨a, v⟩ := c
    simp only [Mem.wfFrom, Bool.and_eq_true, decide_eq_true_eq] at h ⊢
    exact ⟨⟨by omega, h.1.2⟩, h.2⟩

theorem Mem.wfFrom_put {lo : Nat} {m : Mem} {a : Nat} {v : Byte} (h : m.wfFrom lo = true) (ha : lo ≤ a) (hv : v ≠ 0) :
    (m.put a v).wfFrom lo = true := by
  induction m generalizing lo with
  | nil => simp only [Mem.put, Mem.wfFrom, Bool.and_eq_true, decide_eq_true_eq, and_true]; exact ⟨ha, by simpa using hv⟩
  | cons c r ih =>
    obtain ⟨b, w⟩ := c
    simp only [Mem.wfFrom, Bool.and_eq_true, decide_eq_true_eq] at h
    simp only [Mem.put]
    split
    · simp only [Mem.wfFrom, Bool.and_eq_true, decide_eq_true_eq]
      exact ⟨⟨ha, by simpa using hv⟩, ⟨by omega, h.1.2⟩, h.2⟩
    · split
      · subst_vars
        simp only [Mem.wfFrom, Bool.and_eq_true, decide_eq_true_eq]
        exact ⟨⟨h.1.1, by simpa using hv⟩, h.2⟩
      · simp only [Mem.wfFrom, Bool.and_eq_true, decide_eq_true_eq]
        exact ⟨h.1, ih h.2 (by omega)⟩

theorem Mem.wfFrom_filter {lo : Nat} {m : Mem} (p : Host.Cell → Bool) (h : m.wfFrom lo = true) : Mem.wfFrom lo (m.filter p) = true := by
  induction m generalizing lo with
  | nil => rfl
  | cons c r ih =>
    obtain ⟨b, w⟩ := c
    simp only [Mem.wfFrom, Bool.and_eq_true, decide_eq_true_eq] at h
    simp only [List.filter_cons]
    split
    · simp only [Mem.wfFrom, Bool.and_eq_true, decide_eq_true_eq]
      exact ⟨h.1, ih h.2⟩
    · exact Mem.wfFrom_mono (ih h.2) (by omega)

theorem Mem.wf_filter {m : Mem} (p : Host.Cell → Bool) (h : m.wf = true) : Mem.wf (m.filter p) = true := Mem.wfFrom_filter p h

theorem Mem.wf_clear {m : Mem} (a n : Nat) (h : m.wf = true) : (m.clear a n).wf = true := Mem.wf_filter _ h

theorem Mem.wf_wr {m : Mem} (a : Nat) (v : Byte) (h : m.wf = true) : (m.wr a v).wf = true := by
  unfold Mem.wr
  split
  · exact Mem.wf_clear _ _ h
  · exact Mem.wfFrom_put h (Nat.zero_le _) ‹_›

theorem Mem.wf_wrBytes {m : Mem} (a : Nat) (l : List Byte) (h : m.wf = true) : (m.wrBytes a l).wf = true := by
  induction l generalizing m a with
  | nil => exact h
  | cons b r ih => exact ih _ (Mem.wf_wr _ _ h)

theorem Mem.wf_foldl {α : Type} (f : Mem → α → Mem) (hf : ∀ m x, m.wf = true → (f m x).wf = true) (l : List α) (m : Mem)
    (h : m.wf = true) : (l.foldl f m).wf = true := by
  induction l generalizing m with
  | nil => exact h
  | cons x r ih => exact ih _ (hf _ _ h)

theorem Mem.wf_copy {m : Mem} (src dst n : Nat) (h : m.wf = true) : (m.copy src dst n).wf = true :=
  Mem.wf_foldl _ (fun _ _ hm => Mem.wf_wr _ _ hm) _ _ (Mem.wf_clear _ _ h)

/-! ### Reads after writes -/

theorem Mem.rd_put (m : Mem) (a b : Nat) (v : Byte) : (m.put a v).rd b = if b = a then v else m.rd b := by
  induction m with
  | nil => simp only [Mem.put, Mem.rd, eq_comm]
  | cons c r ih =>
    obtain ⟨k, w⟩ := c
    simp only [Mem.put]
    split
    · simp only [Mem.rd, @eq_comm _ a b]
    · split
      · subst_vars
        simp only [Mem.rd, @eq_comm _ k b]
        split <;> rfl
      · next hk hne =>
        simp only [Mem.rd, ih]
        by_cases hb : b = a
        · subst hb
          simp only [if_neg (fun h : k = b => hne h.symm), if_true]
        · rw [if_neg hb, if_neg hb]

theorem Mem.rd_of_lt {lo : Nat} {m : Mem} (h : m.wfFrom lo = true) {a : Nat} (ha : a < lo) : m.rd a = 0 := by
  induction m generalizing lo with
  | nil => rfl
  | cons c r ih =>
    obtain ⟨b, w⟩ := c
    simp only [Mem.wfFrom, Bool.and_eq_true, decide_eq_true_eq] at h
    have hb : b ≠ a := by omega
    simp only [Mem.rd, if_neg hb]
    exact ih h.2 (by omega)

theorem Mem.rd_clear (m : Mem) (a n b : Nat) : (m.clear a n).rd b = if a ≤ b ∧ b < a + n then 0 else m.rd b := by
  induction m with
  | nil => simp [Mem.clear, Mem.rd]
  | cons c r ih =>
    obtain ⟨k, w⟩ := c
    simp only [Mem.clear] at ih
    simp only [Mem.clear, List.filter_cons]
    split
    · next hk =>
      simp only [Bool.not_eq_true', Bool.and_eq_false_imp, decide_eq_true_eq, decide_eq_false_iff_not] at hk
      simp only [Mem.rd, ih]
      by_cases hb : k = b
      · subst hb
        simp only [if_true]
        split
        · next h => exact absurd h.2 (hk h.1)
        · rfl
      · simp only [if_neg hb]
    · next hk =>
      simp only [Bool.not_eq_true', Bool.and_eq_false_imp, decide_eq_true_eq, decide_eq_false_iff_not] at hk
      rw [ih]
      simp only [Mem.rd]
      by_cases hb : k = b
      · subst hb
        have : a ≤ k ∧ k < a + n := by
          by_cases h1 : a ≤ k
          · by_cases h2 : k < a + n
            · exact ⟨h1, h2⟩
            · exact absurd (fun _ => h2) hk
          · exact absurd (fun h => absurd h h1) hk
        simp [this]
      · simp only [if_neg hb]

theorem Mem.rd_wr (m : Mem) (a b : Nat) (v : Byte) : (m.wr a v).rd b = if b = a then v else m.rd b := by
  unfold Mem.wr
  split
  · rw [Mem.rd_clear]
    subst_vars
    by_cases h : b = a
    · subst h; simp
    · rw [if_neg (by omega), if_neg h]
  · exact Mem.rd_put _ _ _ _

/-- A byte outside the bytes written reads as before. -/
theorem Mem.rd_wrBytes_of_out (m : Mem) (a b : Nat) (l : List Byte) (h : b < a ∨ a + l.length ≤ b) : (m.wrBytes a l).rd b = m.rd b := by
  induction l generalizing m a with
  | nil => rfl
  | cons x r ih =>
    simp only [List.length_cons] at h
    rw [Mem.wrBytes, ih _ _ (by omega), Mem.rd_wr, if_neg (by omega)]

/-- A byte among the bytes written reads as written. -/
theorem Mem.rd_wrBytes_of_in (m : Mem) (a i : Nat) (l : List Byte) (h : i < l.length) : (m.wrBytes a l).rd (a + i) = l[i] := by
  induction l generalizing m a i with
  | nil => exact absurd h (Nat.not_lt_zero _)
  | cons x r ih =>
    cases i with
    | zero => rw [Mem.wrBytes, Mem.rd_wrBytes_of_out _ _ _ _ (by omega), Mem.rd_wr]; simp
    | succ i =>
      have := ih (m.wr a x) (a + 1) i (by simpa using h)
      rw [Mem.wrBytes, show a + (i + 1) = a + 1 + i by omega, this]
      rfl

end Sys2Proof.Machine
end

