-- ==== Sys2Proof/Laws/Stays.lean ====
section
/-! SUPPORT. The small lemmas about what every command keeps and which parts it changes: an update, a fold, a pair. -/
namespace Sys2Proof.Machine

theorem Burns.refl (x : Start) : Burns x x := ⟨Nat.le_refl _, rfl, rfl, id, fun h => ⟨h, rfl⟩⟩
theorem Burns.same {x y : Start} (h1 : y.svnMin = x.svnMin) (h2 : y.revoke = x.revoke) (h3 : y.debugOff = x.debugOff)
    (h4 : y.identErased = x.identErased) (h5 : y.ownerSet = x.ownerSet) (h6 : y.ownerHash = x.ownerHash) : Burns x y :=
  ⟨Nat.le_of_eq h1.symm, h2, h3, fun h => h4.trans h, fun h => ⟨h5.trans h, h6⟩⟩
theorem Burns.trans {x y z : Start} (h : Burns x y) (k : Burns y z) : Burns x z :=
  ⟨Nat.le_trans h.svn k.svn, k.revoke.trans h.revoke, k.debugOff.trans h.debugOff, fun i => k.ident (h.ident i),
    fun o => ⟨(k.owner (h.owner o).1).1, (k.owner (h.owner o).1).2.trans (h.owner o).2⟩⟩
theorem Keeps.refl (s : State) : Keeps s s := ⟨id, rfl, List.prefix_refl _, Nat.le_refl _, Burns.refl _⟩
theorem Keeps.trans {s t u : State} (h : Keeps s t) (k : Keeps t u) : Keeps s u :=
  ⟨fun m => k.mem (h.mem m), k.pending.trans h.pending, h.out.trans k.out, Nat.le_trans h.drawn k.drawn, h.fuses.trans k.fuses⟩
/-- A state put together from its parts. -/
def State.build (a : TimeUnit) (b : Sched) (c : HostIf) (d : Matrix) (e : Infer) (f : Tab Chm) (g : Radio) (i : Front) (j : Tiers) (k : Fabric) (l : Recorder)
    (n : Health) (x : Start) (p : Power) (r : Tab DWord) (q : Tab Word) (m : Mem) (o : List Output) (w : Nat) (z : List Instr) : State :=
  { time := a, sched := b, host := c, mat := d, inf := e, chm := f, radio := g, front := i, tiers := j, fab := k, rpl := l, health := n,
    start := x, power := p, regs := r, latch := q, mem := m, out := o, drawn := w, pending := z }
theorem State.mk_build (a : TimeUnit) (b : Sched) (c : HostIf) (d : Matrix) (e : Infer) (f : Tab Chm) (g : Radio) (i : Front) (j : Tiers) (k : Fabric)
    (l : Recorder) (n : Health) (x : Start) (p : Power) (r : Tab DWord) (q : Tab Word) (m : Mem) (o : List Output) (w : Nat) (z : List Instr) :
    State.mk a b c d e f g i j k l n x p r q m o w z = State.build a b c d e f g i j k l n x p r q m o w z := rfl
/-- A list of parts holds a part. -/
class Has (ps : List Part) (p : Part) : Prop where
  mem : p ∈ ps
theorem Has.head (p : Part) (ps : List Part) : Has (p :: ps) p := ⟨List.mem_cons_self⟩
theorem Has.tail (p q : Part) (ps : List Part) [h : Has ps p] : Has (q :: ps) p := ⟨List.mem_cons_of_mem _ h.mem⟩

theorem Only.refl (ps : List Part) (s : State) : Only ps s s := ⟨fun p _ => by cases p <;> rfl⟩
theorem Part.same_trans {p : Part} {s t u : State} (h : p.same s t) (k : p.same t u) : p.same s u := by cases p <;> exact Eq.trans k h
theorem Only.trans {ps : List Part} {s t u : State} (h : Only ps s t) (k : Only ps t u) : Only ps s u :=
  ⟨fun p hp => Part.same_trans (h.same p hp) (k.same p hp)⟩
theorem Only.mono {ps qs : List Part} {s t : State} (h : Only ps s t) (k : ∀ p, p ∈ ps → p ∈ qs) : Only qs s t :=
  ⟨fun p hp => h.same p (fun i => hp (k p i))⟩

/-- What every command keeps, and that it changes only these parts. -/
structure Stays (ps : List Part) (s t : State) : Prop where
  keeps : Keeps s t
  only : Only ps s t
theorem Stays.refl (ps : List Part) (s : State) : Stays ps s s := ⟨Keeps.refl s, Only.refl ps s⟩
theorem Stays.trans {ps : List Part} {s t u : State} (h : Stays ps s t) (k : Stays ps t u) : Stays ps s u :=
  ⟨h.keeps.trans k.keeps, h.only.trans k.only⟩
theorem Stays.upd {ps : List Part} {s t : State} {a b c d e f g i j k l n p r q m o w} {x : Start}
    (hu : ∀ v, v ∉ ps → Part.same v t (State.build a b c d e f g i j k l n x p r q m o w t.pending)) (h : Stays ps s t)
    (hm : t.mem.wf = true → Mem.wf m = true) (ho : t.out <+: o) (hd : t.drawn ≤ w) (hx : Burns t.start x) :
    Stays ps s (State.build a b c d e f g i j k l n x p r q m o w t.pending) := h.trans ⟨⟨hm, rfl, ho, hd, hx⟩, ⟨hu⟩⟩
/-- An answer that, when it is a next state, stays so. -/
structure StaysRes (ps : List Part) (s : State) (r : Res) : Prop where
  next : ∀ t, r = .next t → Stays ps s t
theorem Stays.foldl {α : Type} {ps : List Part} {s t : State} {f : State → α → State} {l : List α} (h : Stays ps s t)
    (hf : ∀ u x, Stays ps s u → Stays ps s (f u x)) : Stays ps s (l.foldl f t) := by
  induction l generalizing t with
  | nil => exact h
  | cons x r ih => exact ih (hf _ _ h)
theorem Stays.foldl2 {α β : Type} {ps : List Part} {s : State} {t : β × State} {f : β × State → α → β × State} {l : List α} (h : Stays ps s t.2)
    (hf : ∀ u x, Stays ps s u.2 → Stays ps s (f u x).2) : Stays ps s (l.foldl f t).2 := by
  induction l generalizing t with
  | nil => exact h
  | cons x r ih => exact ih (hf _ _ h)
theorem Stays.foldl1 {α β : Type} {ps : List Part} {s : State} {t : State × β} {f : State × β → α → State × β} {l : List α} (h : Stays ps s t.1)
    (hf : ∀ u x, Stays ps s u.1 → Stays ps s (f u x).1) : Stays ps s (l.foldl f t).1 := by
  induction l generalizing t with
  | nil => exact h
  | cons x r ih => exact ih (hf _ _ h)
theorem Stays.foldlLoad {α : Type} {ps : List Part} {s : State} {t : Load} {f : Load → α → Load} {l : List α} (h : Stays ps s t.st)
    (hf : ∀ u x, Stays ps s u.st → Stays ps s (f u x).st) : Stays ps s (l.foldl f t).st := by
  induction l generalizing t with
  | nil => exact h
  | cons x r ih => exact ih (hf _ _ h)
theorem Stays.foldl22 {α β γ : Type} {ps : List Part} {s : State} {t : β × γ × State} {f : β × γ × State → α → β × γ × State} {l : List α}
    (h : Stays ps s t.2.2) (hf : ∀ u x, Stays ps s u.2.2 → Stays ps s (f u x).2.2) : Stays ps s (l.foldl f t).2.2 := by
  induction l generalizing t with
  | nil => exact h
  | cons x r ih => exact ih (hf _ _ h)
theorem Stays.foldr {α : Type} {ps : List Part} {s t : State} {f : α → State → State} {l : List α} (h : Stays ps s t)
    (hf : ∀ u x, Stays ps s u → Stays ps s (f x u)) : Stays ps s (l.foldr f t) := by
  induction l with
  | nil => exact h
  | cons x r ih => exact hf _ _ ih
theorem Stays.of_pair {α : Type} {ps : List Part} {s t : State} {p : α × State} {a : α} (h : p = (a, t)) (hp : Stays ps s p.2) : Stays ps s t := by
  subst h; exact hp
theorem Stays.of_pair2 {α β : Type} {ps : List Part} {s t : State} {p : α × β × State} {a : α} {b : β} (h : p = (a, b, t)) (hp : Stays ps s p.2.2) :
    Stays ps s t := by subst h; exact hp
theorem Stays.of_pair3 {α β γ : Type} {ps : List Part} {s t : State} {p : α × β × γ × State} {a : α} {b : β} {c : γ} (h : p = (a, b, c, t))
    (hp : Stays ps s p.2.2.2) : Stays ps s t := by subst h; exact hp
theorem StaysRes.ofNext {ps : List Part} {s t : State} (h : Stays ps s t) : StaysRes ps s (.next t) := ⟨fun _ e => by cases e; exact h⟩
theorem StaysRes.ofFault {ps : List Part} {s : State} {f : Fault} : StaysRes ps s (.fault f) := ⟨fun _ e => by cases e⟩

/-- A service command's answer stays so. -/
def StaysSvc (ps : List Part) (s : State) (o : SvcOut) : Prop :=
  match o with
  | .done _ _ t => Stays ps s t
  | .hold => True
  | .later t => Stays ps s t
theorem StaysSvc.ofDone {ps : List Part} {s t : State} {c : Nat} {d : BitVec 128} (h : Stays ps s t) : StaysSvc ps s (.done c d t) := h
theorem StaysSvc.ofHold {ps : List Part} {s : State} : StaysSvc ps s .hold := trivial
theorem StaysSvc.ofLater {ps : List Part} {s t : State} (h : Stays ps s t) : StaysSvc ps s (.later t) := h
theorem Mem.wf_wrSpans {m : Mem} (l : List Span) (b : List Byte) (h : m.wf = true) : (m.wrSpans l b).wf = true := by
  induction l generalizing m b with
  | nil => exact h
  | cons p r ih => exact ih _ (Mem.wf_wrBytes _ _ h)
theorem Mem.wf_copyBlock {m : Mem} (src dst : Nat) (h : m.wf = true) : (copyBlock m src dst).wf = true := Mem.wf_copy _ _ _ h
theorem ite_some {α : Type} {c : Prop} [Decidable c] {a t : α} {x : Option α} (h : (if c then some a else x) = some t) : a = t ∨ x = some t := by
  split at h
  · exact .inl (Option.some.inj h)
  · exact .inr h

end Sys2Proof.Machine
end

