-- ==== Sys2Proof/Laws/StaysOps.lean ====
section
/-! SUPPORT. Each function of the shared operations keeps what every command keeps and changes only some parts: one lemma a function. -/
namespace Sys2Proof.Machine

variable {ps : List Part} {s0 : State}

theorem State.setReg_stays (a0 : State) (a1 : Nat) (a2 : Nat) (h0 : Stays ps s0 a0) [Has ps .regs] : Stays ps s0 (State.setReg a0 a1 a2) := by
  unfold State.setReg
  repeat' first
    | with_reducible assumption
    | intro _
    | (extract_lets +onlyGivenNames v; all_goals (try clear_value v))
    | with_reducible exact Burns.refl _
    | with_reducible exact Nat.le_refl _
    | with_reducible exact List.prefix_refl _
    | (rw [State.mk_build]; refine Stays.upd (fun p hp => by cases p <;> first | exact absurd Has.mem hp | rfl) ?_ ?_ ?_ ?_ ?_)

theorem State.count_stays (a0 : State) (a1 : Nat) (a2 : Nat) (h0 : Stays ps s0 a0) [Has ps .regs] : Stays ps s0 (State.count a0 a1 a2) := by
  unfold State.count
  repeat' first
    | with_reducible assumption
    | with_reducible apply State.setReg_stays

theorem State.dropReq_stays (a0 : State) (a1 : Nat) (h0 : Stays ps s0 a0) [Has ps .fab] : Stays ps s0 (State.dropReq a0 a1) := by
  unfold State.dropReq
  repeat' first
    | with_reducible assumption
    | intro _
    | (extract_lets +onlyGivenNames v; all_goals (try clear_value v))
    | with_reducible exact Burns.refl _
    | with_reducible exact Nat.le_refl _
    | with_reducible exact List.prefix_refl _
    | (rw [State.mk_build]; refine Stays.upd (fun p hp => by cases p <;> first | exact absurd Has.mem hp | rfl) ?_ ?_ ?_ ?_ ?_)

theorem State.dropXfer_stays (a0 : State) (a1 : Nat) (h0 : Stays ps s0 a0) [Has ps .fab] : Stays ps s0 (State.dropXfer a0 a1) := by
  unfold State.dropXfer
  repeat' first
    | with_reducible assumption
    | intro _
    | (extract_lets +onlyGivenNames v; all_goals (try clear_value v))
    | with_reducible exact Burns.refl _
    | with_reducible exact Nat.le_refl _
    | with_reducible exact List.prefix_refl _
    | (rw [State.mk_build]; refine Stays.upd (fun p hp => by cases p <;> first | exact absurd Has.mem hp | rfl) ?_ ?_ ?_ ?_ ?_)

theorem State.setUnit_stays (a0 : State) (a1 : Nat) (a2 : UnitSt) (h0 : Stays ps s0 a0) [Has ps .units] : Stays ps s0 (State.setUnit a0 a1 a2) := by
  unfold State.setUnit
  repeat' first
    | with_reducible assumption
    | intro _
    | (extract_lets +onlyGivenNames v
       first
         | (have hv : Sched := v; clear hv; unfold v; clear v)
         | skip
       all_goals (try clear_value v))
    | with_reducible exact Burns.refl _
    | with_reducible exact Nat.le_refl _
    | with_reducible exact List.prefix_refl _
    | (rw [State.mk_build]; refine Stays.upd (fun p hp => by cases p <;> first | exact absurd Has.mem hp | rfl) ?_ ?_ ?_ ?_ ?_)

theorem State.setRun_stays (a0 : State) (a1 : Nat) (a2 : Option Running) (h0 : Stays ps s0 a0) [Has ps .units] : Stays ps s0 (State.setRun a0 a1 a2) := by
  unfold State.setRun
  repeat' first
    | with_reducible assumption
    | with_reducible apply State.setUnit_stays

theorem State.failList_stays (a0 : State) (a1 : Nat) (a2 : Nat) (h0 : Stays ps s0 a0) [Has ps .units] : Stays ps s0 (State.failList a0 a1 a2) := by
  unfold State.failList
  repeat' first
    | with_reducible assumption
    | with_reducible apply State.setRun_stays
    | split

theorem State.keepRec_stays (a0 : State) (a1 : XferRec) (h0 : Stays ps s0 a0) [Has ps .fab] : Stays ps s0 (State.keepRec a0 a1) := by
  unfold State.keepRec
  repeat' first
    | with_reducible assumption
    | intro _
    | (extract_lets +onlyGivenNames v; all_goals (try clear_value v))
    | with_reducible exact Burns.refl _
    | with_reducible exact Nat.le_refl _
    | with_reducible exact List.prefix_refl _
    | (rw [State.mk_build]; refine Stays.upd (fun p hp => by cases p <;> first | exact absurd Has.mem hp | rfl) ?_ ?_ ?_ ?_ ?_)

theorem State.failListWith_stays (a0 : State) (a1 : Nat) (a2 : Nat) (a3 : BitVec 96) (h0 : Stays ps s0 a0) [Has ps .units] : Stays ps s0 (State.failListWith a0 a1 a2 a3) := by
  unfold State.failListWith
  repeat' first
    | with_reducible assumption
    | with_reducible apply State.setRun_stays
    | split

theorem State.settleXfer_stays (a0 : State) (a1 : Nat) (h0 : Stays ps s0 a0) [Has ps .units] [Has ps .fab] : Stays ps s0 (State.settleXfer a0 a1) := by
  unfold State.settleXfer
  repeat' first
    | with_reducible assumption
    | with_reducible apply State.dropXfer_stays
    | with_reducible apply State.failList_stays
    | with_reducible apply State.keepRec_stays
    | with_reducible apply State.failListWith_stays
    | (extract_lets +onlyGivenNames v; refine (fun (hv : Stays ps s0 v) => ?_) ?_; rotate_left; unfold v; rotate_right; all_goals (try clear_value v))
    | split

theorem State.setXfer_stays (a0 : State) (a1 : Xfer) (h0 : Stays ps s0 a0) [Has ps .fab] : Stays ps s0 (State.setXfer a0 a1) := by
  unfold State.setXfer
  repeat' first
    | with_reducible assumption
    | intro _
    | (extract_lets +onlyGivenNames v; all_goals (try clear_value v))
    | with_reducible exact Burns.refl _
    | with_reducible exact Nat.le_refl _
    | with_reducible exact List.prefix_refl _
    | (rw [State.mk_build]; refine Stays.upd (fun p hp => by cases p <;> first | exact absurd Has.mem hp | rfl) ?_ ?_ ?_ ?_ ?_)

theorem State.failXfer_stays (a0 : State) (a1 : Nat) (a2 : Nat) (a3 : Nat) (h0 : Stays ps s0 a0) [Has ps .units] [Has ps .fab] : Stays ps s0 (State.failXfer a0 a1 a2 a3) := by
  unfold State.failXfer
  repeat' first
    | with_reducible assumption
    | with_reducible apply State.settleXfer_stays
    | with_reducible apply State.setXfer_stays
    | split

theorem State.setGroup_stays (a0 : State) (a1 : Nat) (a2 : Group) (h0 : Stays ps s0 a0) [Has ps .lists] : Stays ps s0 (State.setGroup a0 a1 a2) := by
  unfold State.setGroup
  repeat' first
    | with_reducible assumption
    | intro _
    | (extract_lets +onlyGivenNames v
       first
         | (have hv : Sched := v; clear hv; unfold v; clear v)
         | skip
       all_goals (try clear_value v))
    | with_reducible exact Burns.refl _
    | with_reducible exact Nat.le_refl _
    | with_reducible exact List.prefix_refl _
    | (rw [State.mk_build]; refine Stays.upd (fun p hp => by cases p <;> first | exact absurd Has.mem hp | rfl) ?_ ?_ ?_ ?_ ?_)

theorem State.countRefuse_stays (a0 : State) (a1 : Nat) (h0 : Stays ps s0 a0) [Has ps .regs] : Stays ps s0 (State.countRefuse a0 a1) := by
  unfold State.countRefuse
  repeat' first
    | with_reducible assumption
    | with_reducible apply State.count_stays
    | split

theorem State.flag_stays (a0 : State) (a1 : Nat) (a2 : Nat) (h0 : Stays ps s0 a0) [Has ps .regs] : Stays ps s0 (State.flag a0 a1 a2) := by
  unfold State.flag
  repeat' first
    | with_reducible assumption
    | with_reducible apply State.setReg_stays

theorem State.setFn_stays (a0 : State) (a1 : Nat) (a2 : Fn) (h0 : Stays ps s0 a0) [Has ps .fns] : Stays ps s0 (State.setFn a0 a1 a2) := by
  unfold State.setFn
  repeat' first
    | with_reducible assumption
    | intro _
    | (extract_lets +onlyGivenNames v
       first
         | (have hv : HostIf := v; clear hv; unfold v; clear v)
         | skip
       all_goals (try clear_value v))
    | with_reducible exact Burns.refl _
    | with_reducible exact Nat.le_refl _
    | with_reducible exact List.prefix_refl _
    | (rw [State.mk_build]; refine Stays.upd (fun p hp => by cases p <;> first | exact absurd Has.mem hp | rfl) ?_ ?_ ?_ ?_ ?_)

theorem State.setQp_stays (a0 : State) (a1 : Nat) (a2 : Nat) (a3 : QPair) (h0 : Stays ps s0 a0) [Has ps .fns] : Stays ps s0 (State.setQp a0 a1 a2 a3) := by
  unfold State.setQp
  repeat' first
    | with_reducible assumption
    | with_reducible apply State.setFn_stays

theorem State.post_stays (a0 : State) (a1 : Nat) (a2 : Nat) (a3 : Rec) (h0 : Stays ps s0 a0) [Has ps .fns] [Has ps .regs] : Stays ps s0 (State.post a0 a1 a2 a3) := by
  unfold State.post
  repeat' first
    | with_reducible assumption
    | with_reducible apply State.setQp_stays
    | with_reducible apply State.count_stays
    | (extract_lets +onlyGivenNames v; all_goals (try clear_value v))
    | split

theorem State.statusNote_stays (a0 : State) (a1 : Nat) (h0 : Stays ps s0 a0) [Has ps .fns] [Has ps .regs] : Stays ps s0 (State.statusNote a0 a1) := by
  unfold State.statusNote
  repeat' first
    | with_reducible assumption
    | with_reducible apply State.setFn_stays
    | with_reducible apply State.post_stays
    | (extract_lets +onlyGivenNames v; all_goals (try clear_value v))
    | split

theorem State.raise_stays (a0 : State) (a1 : Nat) (a2 : Nat) (h0 : Stays ps s0 a0) [Has ps .fns] [Has ps .regs] : Stays ps s0 (State.raise a0 a1 a2) := by
  unfold State.raise
  repeat' first
    | with_reducible assumption
    | with_reducible apply State.statusNote_stays
    | with_reducible apply State.setFn_stays

theorem State.event_stays (a0 : State) (a1 : Nat) (a2 : Nat) (a3 : Nat) (a4 : Nat) (h0 : Stays ps s0 a0) [Has ps .fns] [Has ps .regs] : Stays ps s0 (State.event a0 a1 a2 a3 a4) := by
  unfold State.event
  repeat' first
    | with_reducible assumption
    | with_reducible apply State.flag_stays
    | with_reducible apply State.raise_stays
    | (extract_lets +onlyGivenNames v; refine (fun (hv : Stays ps s0 v) => ?_) ?_; rotate_left; unfold v; rotate_right; all_goals (try clear_value v))
    | split

theorem State.rplEvt_stays (a0 : State) (a1 : Nat) (h0 : Stays ps s0 a0) [Has ps .fns] [Has ps .regs] : Stays ps s0 (State.rplEvt a0 a1) := by
  unfold State.rplEvt
  repeat' first
    | with_reducible assumption
    | with_reducible apply State.event_stays

theorem State.addRec_stays (a0 : State) (a1 : Nat) (a2 : Nat) (a3 : DWord) (a4 : List Byte) (h0 : Stays ps s0 a0) [Has ps .rpl] : Stays ps s0 (State.addRec a0 a1 a2 a3 a4) := by
  unfold State.addRec
  repeat' first
    | with_reducible assumption
    | intro _
    | (extract_lets +onlyGivenNames v; all_goals (try clear_value v))
    | with_reducible exact Burns.refl _
    | with_reducible exact Nat.le_refl _
    | with_reducible exact List.prefix_refl _
    | (rw [State.mk_build]; refine Stays.upd (fun p hp => by cases p <;> first | exact absurd Has.mem hp | rfl) ?_ ?_ ?_ ?_ ?_)

theorem State.putRec_stays (a0 : State) (a1 : Nat) (a2 : Nat) (a3 : DWord) (a4 : List Byte) (h0 : Stays ps s0 a0) [Has ps .fns] [Has ps .rpl] [Has ps .regs] : Stays ps s0 (State.putRec a0 a1 a2 a3 a4) := by
  unfold State.putRec
  repeat' first
    | with_reducible assumption
    | intro _
    | with_reducible apply State.rplEvt_stays
    | with_reducible apply State.count_stays
    | with_reducible apply State.addRec_stays
    | (extract_lets +onlyGivenNames v
       first
         | (refine (fun (hv : Stays ps s0 v) => ?_) ?_; rotate_left; unfold v; rotate_right)
         | skip
       all_goals (try clear_value v))
    | with_reducible exact Burns.refl _
    | with_reducible exact Nat.le_refl _
    | with_reducible exact List.prefix_refl _
    | split
    | (rw [State.mk_build]; refine Stays.upd (fun p hp => by cases p <;> first | exact absurd Has.mem hp | rfl) ?_ ?_ ?_ ?_ ?_)

theorem State.diverge_stays (a0 : State) (a1 : Nat) (a2 : BitVec 128) (a3 : DWord) (a4 : DWord) (h0 : Stays ps s0 a0) [Has ps .fns] [Has ps .rpl] [Has ps .regs] : Stays ps s0 (State.diverge a0 a1 a2 a3 a4) := by
  unfold State.diverge
  repeat' first
    | with_reducible assumption
    | intro _
    | with_reducible apply State.setReg_stays
    | with_reducible apply State.rplEvt_stays
    | (extract_lets +onlyGivenNames v
       first
         | (refine (fun (hv : Stays ps s0 v) => ?_) ?_; rotate_left; unfold v; rotate_right)
         | skip
       all_goals (try clear_value v))
    | with_reducible exact Burns.refl _
    | with_reducible exact Nat.le_refl _
    | with_reducible exact List.prefix_refl _
    | split
    | (rw [State.mk_build]; refine Stays.upd (fun p hp => by cases p <;> first | exact absurd Has.mem hp | rfl) ?_ ?_ ?_ ?_ ?_)

theorem State.output_stays (a0 : State) (a1 : BitVec 128) (a2 : List Byte) (h0 : Stays ps s0 a0) [Has ps .fns] [Has ps .rpl] [Has ps .regs] : Stays ps s0 (State.output a0 a1 a2) := by
  unfold State.output
  repeat' first
    | with_reducible assumption
    | intro _
    | with_reducible apply State.putRec_stays
    | with_reducible apply State.diverge_stays
    | (extract_lets +onlyGivenNames v
       first
         | (refine (fun (hv : Stays ps s0 v) => ?_) ?_; rotate_left; unfold v; rotate_right)
         | skip
       all_goals (try clear_value v))
    | with_reducible exact Burns.refl _
    | with_reducible exact Nat.le_refl _
    | with_reducible exact List.prefix_refl _
    | split
    | (rw [State.mk_build]; refine Stays.upd (fun p hp => by cases p <;> first | exact absurd Has.mem hp | rfl) ?_ ?_ ?_ ?_ ?_)

theorem State.emit_stays (a0 : State) (a1 : Output) (h0 : Stays ps s0 a0) [Has ps .out] : Stays ps s0 (State.emit a0 a1) := by
  unfold State.emit
  repeat' first
    | with_reducible assumption
    | intro _
    | (extract_lets +onlyGivenNames v; all_goals (try clear_value v))
    | with_reducible exact Burns.refl _
    | with_reducible exact Nat.le_refl _
    | with_reducible exact List.prefix_append _ _
    | split
    | (rw [State.mk_build]; refine Stays.upd (fun p hp => by cases p <;> first | exact absurd Has.mem hp | rfl) ?_ ?_ ?_ ?_ ?_)

theorem State.setShpQ_stays (a0 : State) (a1 : Nat) (a2 : ShpQueue) (h0 : Stays ps s0 a0) [Has ps .front] : Stays ps s0 (State.setShpQ a0 a1 a2) := by
  unfold State.setShpQ
  repeat' first
    | with_reducible assumption
    | intro _
    | (extract_lets +onlyGivenNames v; all_goals (try clear_value v))
    | with_reducible exact Burns.refl _
    | with_reducible exact Nat.le_refl _
    | with_reducible exact List.prefix_refl _
    | (rw [State.mk_build]; refine Stays.upd (fun p hp => by cases p <;> first | exact absurd Has.mem hp | rfl) ?_ ?_ ?_ ?_ ?_)

theorem State.headTag_stays (a0 : State) (a1 : Nat) (a2 : Bool) (h0 : Stays ps s0 a0) [Has ps .front] : Stays ps s0 (State.headTag a0 a1 a2) := by
  unfold State.headTag
  repeat' first
    | with_reducible assumption
    | with_reducible apply State.setShpQ_stays
    | (extract_lets +onlyGivenNames v; all_goals (try clear_value v))
    | split

theorem State.enqueue_stays (a0 : State) (a1 : Nat) (a2 : Packet) (h0 : Stays ps s0 a0) [Has ps .front] : Stays ps s0 (State.enqueue a0 a1 a2) := by
  unfold State.enqueue
  repeat' first
    | with_reducible assumption
    | with_reducible apply State.setShpQ_stays
    | with_reducible apply State.headTag_stays
    | (extract_lets +onlyGivenNames v
       first
         | (refine (fun (hv : Stays ps s0 v) => ?_) ?_; rotate_left; unfold v; rotate_right)
         | skip
       all_goals (try clear_value v))
    | split

theorem State.queueFlits_stays (a0 : State) (a1 : Nat) (a2 : Txn) (h0 : Stays ps s0 a0) [Has ps .front] : Stays ps s0 (State.queueFlits a0 a1 a2) := by
  unfold State.queueFlits
  repeat' first
    | with_reducible assumption
    | intro _
    | with_reducible apply State.enqueue_stays
    | (extract_lets +onlyGivenNames v; all_goals (try clear_value v))
    | with_reducible apply Stays.foldl

theorem State.sendOn_stays (a0 : State) (a1 : Nat) (a2 : Nat) (a3 : Txn) (h0 : Stays ps s0 a0) [Has ps .front] [Has ps .out] : Stays ps s0 (State.sendOn a0 a1 a2 a3) := by
  unfold State.sendOn
  repeat' first
    | with_reducible assumption
    | with_reducible apply State.emit_stays
    | with_reducible apply State.queueFlits_stays
    | split

theorem State.issueReq_stays (a0 : State) (a1 : Nat) (a2 : Txn) (a3 : ReqFor) (a4 : BitVec 128) (h0 : Stays ps s0 a0) [Has ps .fns] [Has ps .front] [Has ps .fab] [Has ps .rpl] [Has ps .regs] [Has ps .out] : Stays ps s0 (State.issueReq a0 a1 a2 a3 a4) := by
  unfold State.issueReq
  repeat' first
    | with_reducible assumption
    | intro _
    | with_reducible apply State.output_stays
    | with_reducible apply State.sendOn_stays
    | (extract_lets +onlyGivenNames v
       first
         | (refine (fun (hv : Stays ps s0 v) => ?_) ?_; rotate_left; unfold v; rotate_right)
         | skip
       all_goals (try clear_value v))
    | with_reducible exact Burns.refl _
    | with_reducible exact Nat.le_refl _
    | with_reducible exact List.prefix_refl _
    | split
    | (rw [State.mk_build]; refine Stays.upd (fun p hp => by cases p <;> first | exact absurd Has.mem hp | rfl) ?_ ?_ ?_ ?_ ?_)

theorem State.sendGroup_stays (a0 : State) (a1 : Nat) (a2 : Nat) (a3 : Nat) (a4 : Nat) (a5 : Nat) (a6 : Stamp) (a7 : Nat) (h0 : Stays ps s0 a0) [Has ps .fns] [Has ps .front] [Has ps .fab] [Has ps .rpl] [Has ps .regs] [Has ps .out] : Stays ps s0 (State.sendGroup a0 a1 a2 a3 a4 a5 a6 a7) := by
  unfold State.sendGroup
  repeat' first
    | with_reducible assumption
    | with_reducible apply State.count_stays
    | with_reducible apply State.issueReq_stays
    | split

theorem State.tellMembers_stays (a0 : State) (a1 : Nat) (a2 : Nat) (h0 : Stays ps s0 a0) [Has ps .fns] [Has ps .front] [Has ps .fab] [Has ps .rpl] [Has ps .regs] [Has ps .out] : Stays ps s0 (State.tellMembers a0 a1 a2) := by
  unfold State.tellMembers
  repeat' first
    | with_reducible assumption
    | intro _
    | with_reducible apply State.sendGroup_stays
    | (extract_lets +onlyGivenNames v; all_goals (try clear_value v))
    | with_reducible apply Stays.foldl
    | split

theorem State.tryCommit_stays (a0 : State) (a1 : Nat) (h0 : Stays ps s0 a0) [Has ps .lists] [Has ps .fns] [Has ps .front] [Has ps .fab] [Has ps .rpl] [Has ps .regs] [Has ps .out] : Stays ps s0 (State.tryCommit a0 a1) := by
  unfold State.tryCommit
  repeat' first
    | with_reducible assumption
    | with_reducible apply State.tellMembers_stays
    | with_reducible apply State.setGroup_stays
    | (extract_lets +onlyGivenNames v; all_goals (try clear_value v))
    | split

theorem State.groupArm_stays (a0 : State) (a1 : Nat) (h0 : Stays ps s0 a0) [Has ps .lists] [Has ps .fns] [Has ps .front] [Has ps .fab] [Has ps .rpl] [Has ps .regs] [Has ps .out] : Stays ps s0 (State.groupArm a0 a1) := by
  unfold State.groupArm
  repeat' first
    | with_reducible assumption
    | with_reducible apply State.setGroup_stays
    | with_reducible apply State.tryCommit_stays
    | with_reducible apply State.sendGroup_stays
    | (extract_lets +onlyGivenNames v
       first
         | (refine (fun (hv : Stays ps s0 v) => ?_) ?_; rotate_left; unfold v; rotate_right)
         | skip
       all_goals (try clear_value v))
    | split

theorem State.enterCmd_stays (a0 : State) (a1 : Nat) (h0 : Stays ps s0 a0) [Has ps .lists] [Has ps .units] [Has ps .fns] [Has ps .front] [Has ps .fab] [Has ps .rpl] [Has ps .regs] [Has ps .out] : Stays ps s0 (State.enterCmd a0 a1) := by
  unfold State.enterCmd
  repeat' first
    | with_reducible assumption
    | intro _
    | with_reducible apply State.failList_stays
    | with_reducible apply State.countRefuse_stays
    | with_reducible apply State.setRun_stays
    | with_reducible apply State.count_stays
    | with_reducible apply State.groupArm_stays
    | (extract_lets +onlyGivenNames v
       first
         | (have hv : Sched := v; clear hv; unfold v; clear v)
         | skip
       all_goals (try clear_value v))
    | with_reducible exact Burns.refl _
    | with_reducible exact Nat.le_refl _
    | with_reducible exact List.prefix_refl _
    | split
    | (rw [State.mk_build]; refine Stays.upd (fun p hp => by cases p <;> first | exact absurd Has.mem hp | rfl) ?_ ?_ ?_ ?_ ?_)

theorem State.advance_stays (a0 : State) (a1 : Nat) (h0 : Stays ps s0 a0) [Has ps .lists] [Has ps .units] [Has ps .fns] [Has ps .front] [Has ps .fab] [Has ps .rpl] [Has ps .regs] [Has ps .out] : Stays ps s0 (State.advance a0 a1) := by
  unfold State.advance
  repeat' first
    | with_reducible assumption
    | with_reducible apply State.setRun_stays
    | with_reducible apply State.failList_stays
    | with_reducible apply State.enterCmd_stays
    | split

theorem State.finishService_stays (a0 : State) (a1 : Option Nat) (a2 : Report) (a3 : Nat) (a4 : BitVec 128) (h0 : Stays ps s0 a0) [Has ps .lists] [Has ps .units] [Has ps .fns] [Has ps .front] [Has ps .fab] [Has ps .rpl] [Has ps .regs] [Has ps .out] : Stays ps s0 (State.finishService a0 a1 a2 a3 a4) := by
  unfold State.finishService
  repeat' first
    | with_reducible assumption
    | with_reducible apply State.advance_stays
    | with_reducible apply State.failList_stays
    | with_reducible apply State.post_stays
    | split

theorem State.endJoin_stays (a0 : State) (a1 : Nat) (a2 : Nat) (h0 : Stays ps s0 a0) [Has ps .lists] [Has ps .units] [Has ps .fns] [Has ps .front] [Has ps .fab] [Has ps .rpl] [Has ps .regs] [Has ps .out] : Stays ps s0 (State.endJoin a0 a1 a2) := by
  unfold State.endJoin
  repeat' first
    | with_reducible assumption
    | intro _
    | with_reducible apply State.setGroup_stays
    | with_reducible apply State.finishService_stays
    | (extract_lets +onlyGivenNames v
       first
         | (have hv : Sched := v; clear hv; unfold v; clear v)
         | (refine (fun (hv : Stays ps s0 v) => ?_) ?_; rotate_left; unfold v; rotate_right)
         | skip
       all_goals (try clear_value v))
    | with_reducible exact Burns.refl _
    | with_reducible exact Nat.le_refl _
    | with_reducible exact List.prefix_refl _
    | split
    | (rw [State.mk_build]; refine Stays.upd (fun p hp => by cases p <;> first | exact absurd Has.mem hp | rfl) ?_ ?_ ?_ ?_ ?_)

theorem State.endReq_stays (a0 : State) (a1 : Req) (a2 : Nat) (h0 : Stays ps s0 a0) [Has ps .lists] [Has ps .units] [Has ps .fns] [Has ps .front] [Has ps .fab] [Has ps .rpl] [Has ps .regs] [Has ps .out] : Stays ps s0 (State.endReq a0 a1 a2) := by
  unfold State.endReq
  repeat' first
    | with_reducible assumption
    | with_reducible apply State.dropReq_stays
    | with_reducible apply State.failXfer_stays
    | with_reducible apply State.endJoin_stays
    | (extract_lets +onlyGivenNames v; refine (fun (hv : Stays ps s0 v) => ?_) ?_; rotate_left; unfold v; rotate_right; all_goals (try clear_value v))
    | split

theorem State.logIn_stays (a0 : State) (a1 : Nat) (a2 : Nat) (a3 : Nat) (a4 : DWord) (a5 : List Byte) (h0 : Stays ps s0 a0) [Has ps .fns] [Has ps .rpl] [Has ps .regs] : Stays ps s0 (State.logIn a0 a1 a2 a3 a4 a5) := by
  unfold State.logIn
  repeat' first
    | with_reducible assumption
    | intro _
    | with_reducible apply State.putRec_stays
    | with_reducible apply State.count_stays
    | (extract_lets +onlyGivenNames v; all_goals (try clear_value v))
    | with_reducible exact Burns.refl _
    | with_reducible exact Nat.le_refl _
    | with_reducible exact List.prefix_refl _
    | split
    | (rw [State.mk_build]; refine Stays.upd (fun p hp => by cases p <;> first | exact absurd Has.mem hp | rfl) ?_ ?_ ?_ ?_ ?_)

theorem State.abandon_stays (a0 : State) (a1 : Req) (a2 : Nat) (h0 : Stays ps s0 a0) [Has ps .lists] [Has ps .units] [Has ps .fns] [Has ps .front] [Has ps .fab] [Has ps .rpl] [Has ps .regs] [Has ps .out] : Stays ps s0 (State.abandon a0 a1 a2) := by
  unfold State.abandon
  repeat' first
    | with_reducible assumption
    | with_reducible apply State.count_stays
    | with_reducible apply State.endReq_stays
    | with_reducible apply State.logIn_stays
    | (extract_lets +onlyGivenNames v; all_goals (try clear_value v))
    | split

theorem State.groupDone_stays (a0 : State) (a1 : Option Nat) (h0 : Stays ps s0 a0) [Has ps .lists] : Stays ps s0 (State.groupDone a0 a1) := by
  unfold State.groupDone
  repeat' first
    | with_reducible assumption
    | with_reducible apply State.setGroup_stays
    | split

theorem State.dropCmp_stays (a0 : State) (a1 : Nat) (a2 : Nat) (h0 : Stays ps s0 a0) [Has ps .lists] : Stays ps s0 (State.dropCmp a0 a1 a2) := by
  unfold State.dropCmp
  repeat' first
    | with_reducible assumption
    | intro _
    | (extract_lets +onlyGivenNames v
       first
         | (have hv : Sched := v; clear hv; unfold v; clear v)
         | skip
       all_goals (try clear_value v))
    | with_reducible exact Burns.refl _
    | with_reducible exact Nat.le_refl _
    | with_reducible exact List.prefix_refl _
    | (rw [State.mk_build]; refine Stays.upd (fun p hp => by cases p <;> first | exact absurd Has.mem hp | rfl) ?_ ?_ ?_ ?_ ?_)

theorem State.listRecord_stays (a0 : State) (a1 : ListRec) (a2 : Nat) (a3 : Nat) (a4 : BitVec 96) (h0 : Stays ps s0 a0) [Has ps .lists] [Has ps .fns] [Has ps .regs] : Stays ps s0 (State.listRecord a0 a1 a2 a3 a4) := by
  unfold State.listRecord
  repeat' first
    | with_reducible assumption
    | intro _
    | with_reducible apply State.post_stays
    | (extract_lets +onlyGivenNames v
       first
         | (have hv : Sched := v; clear hv; unfold v; clear v)
         | skip
       all_goals (try clear_value v))
    | with_reducible exact Burns.refl _
    | with_reducible exact Nat.le_refl _
    | with_reducible exact List.prefix_refl _
    | split
    | (rw [State.mk_build]; refine Stays.upd (fun p hp => by cases p <;> first | exact absurd Has.mem hp | rfl) ?_ ?_ ?_ ?_ ?_)

theorem State.acct_stays (a0 : State) (a1 : Nat) (a2 : Nat) (a3 : Nat) (h0 : Stays ps s0 a0) [Has ps .acct] : Stays ps s0 (State.acct a0 a1 a2 a3) := by
  unfold State.acct
  repeat' first
    | with_reducible assumption
    | intro _
    | (extract_lets +onlyGivenNames v
       first
         | (have hv : HostIf := v; clear hv; unfold v; clear v)
         | skip
       all_goals (try clear_value v))
    | with_reducible exact Burns.refl _
    | with_reducible exact Nat.le_refl _
    | with_reducible exact List.prefix_refl _
    | (rw [State.mk_build]; refine Stays.upd (fun p hp => by cases p <;> first | exact absurd Has.mem hp | rfl) ?_ ?_ ?_ ?_ ?_)

theorem State.setPort_stays (a0 : State) (a1 : Nat) (a2 : FabPort) (h0 : Stays ps s0 a0) [Has ps .fab] : Stays ps s0 (State.setPort a0 a1 a2) := by
  unfold State.setPort
  repeat' first
    | with_reducible assumption
    | intro _
    | (extract_lets +onlyGivenNames v; all_goals (try clear_value v))
    | with_reducible exact Burns.refl _
    | with_reducible exact Nat.le_refl _
    | with_reducible exact List.prefix_refl _
    | (rw [State.mk_build]; refine Stays.upd (fun p hp => by cases p <;> first | exact absurd Has.mem hp | rfl) ?_ ?_ ?_ ?_ ?_)

theorem State.resumePaths_stays (a0 : State) (h0 : Stays ps s0 a0) [Has ps .fab] : Stays ps s0 (State.resumePaths a0) := by
  unfold State.resumePaths
  repeat' first
    | with_reducible assumption
    | intro _
    | (extract_lets +onlyGivenNames v; all_goals (try clear_value v))
    | with_reducible exact Burns.refl _
    | with_reducible exact Nat.le_refl _
    | with_reducible exact List.prefix_refl _
    | (rw [State.mk_build]; refine Stays.upd (fun p hp => by cases p <;> first | exact absurd Has.mem hp | rfl) ?_ ?_ ?_ ?_ ?_)

theorem State.setPage_stays (a0 : State) (a1 : Nat) (a2 : Page) (h0 : Stays ps s0 a0) [Has ps .tiers] : Stays ps s0 (State.setPage a0 a1 a2) := by
  unfold State.setPage
  repeat' first
    | with_reducible assumption
    | intro _
    | (extract_lets +onlyGivenNames v; all_goals (try clear_value v))
    | with_reducible exact Burns.refl _
    | with_reducible exact Nat.le_refl _
    | with_reducible exact List.prefix_refl _
    | split
    | (rw [State.mk_build]; refine Stays.upd (fun p hp => by cases p <;> first | exact absurd Has.mem hp | rfl) ?_ ?_ ?_ ?_ ?_)

theorem State.eachPart_stays (a0 : State) (a1 : Nat) (a2 : Nat) (a3 : Nat → Page → Page) (h0 : Stays ps s0 a0) [Has ps .tiers] : Stays ps s0 (State.eachPart a0 a1 a2 a3) := by
  unfold State.eachPart
  repeat' first
    | with_reducible assumption
    | intro _
    | with_reducible apply State.setPage_stays
    | with_reducible apply Stays.foldl

theorem State.memEvt_stays (a0 : State) (a1 : Nat) (h0 : Stays ps s0 a0) [Has ps .fns] [Has ps .regs] : Stays ps s0 (State.memEvt a0 a1) := by
  unfold State.memEvt
  repeat' first
    | with_reducible assumption
    | with_reducible apply State.event_stays

theorem State.chargeUnits_stays (a0 : State) (a1 : Nat) (a2 : Nat) (a3 : Nat) (h0 : Stays ps s0 a0) [Has ps .fns] [Has ps .tiers] [Has ps .regs] : Stays ps s0 (State.chargeUnits a0 a1 a2 a3) := by
  unfold State.chargeUnits
  repeat' first
    | with_reducible assumption
    | intro _
    | with_reducible apply State.raise_stays
    | with_reducible apply State.memEvt_stays
    | (extract_lets +onlyGivenNames v
       first
         | (refine (fun (hv : Stays ps s0 v) => ?_) ?_; rotate_left; unfold v; rotate_right)
         | skip
       all_goals (try clear_value v))
    | with_reducible exact Burns.refl _
    | with_reducible exact Nat.le_refl _
    | with_reducible exact List.prefix_refl _
    | split
    | (rw [State.mk_build]; refine Stays.upd (fun p hp => by cases p <;> first | exact absurd Has.mem hp | rfl) ?_ ?_ ?_ ?_ ?_)

theorem State.setClaim_stays (a0 : State) (a1 : Nat) (a2 : Claim) (h0 : Stays ps s0 a0) [Has ps .tiers] : Stays ps s0 (State.setClaim a0 a1 a2) := by
  unfold State.setClaim
  repeat' first
    | with_reducible assumption
    | intro _
    | (extract_lets +onlyGivenNames v; all_goals (try clear_value v))
    | with_reducible exact Burns.refl _
    | with_reducible exact Nat.le_refl _
    | with_reducible exact List.prefix_refl _
    | (rw [State.mk_build]; refine Stays.upd (fun p hp => by cases p <;> first | exact absurd Has.mem hp | rfl) ?_ ?_ ?_ ?_ ?_)

theorem State.leaveFrames_stays (a0 : State) (a1 : Nat) (a2 : Nat) (a3 : Nat) (a4 : Nat) (h0 : Stays ps s0 a0) [Has ps .tiers] : Stays ps s0 (State.leaveFrames a0 a1 a2 a3 a4) := by
  unfold State.leaveFrames
  repeat' first
    | with_reducible assumption
    | intro _
    | (extract_lets +onlyGivenNames v; all_goals (try clear_value v))
    | with_reducible exact Burns.refl _
    | with_reducible exact Nat.le_refl _
    | with_reducible exact List.prefix_refl _
    | (rw [State.mk_build]; refine Stays.upd (fun p hp => by cases p <;> first | exact absurd Has.mem hp | rfl) ?_ ?_ ?_ ?_ ?_)

theorem State.nameCopy_stays (a0 : State) (a1 : Claim) (h0 : Stays ps s0 a0) [Has ps .tiers] : Stays ps s0 (State.nameCopy a0 a1) := by
  unfold State.nameCopy
  repeat' first
    | with_reducible assumption
    | with_reducible apply State.eachPart_stays
    | (extract_lets +onlyGivenNames v; have hv : (_ → _) := v; clear hv; unfold v; clear v; all_goals (try clear_value v))
    | split

theorem State.settleClaim_stays (a0 : State) (a1 : Nat) (h0 : Stays ps s0 a0) [Has ps .tiers] : Stays ps s0 (State.settleClaim a0 a1) := by
  unfold State.settleClaim
  repeat' first
    | with_reducible assumption
    | intro _
    | with_reducible apply State.leaveFrames_stays
    | with_reducible apply State.setClaim_stays
    | with_reducible apply State.eachPart_stays
    | with_reducible apply State.nameCopy_stays
    | (extract_lets +onlyGivenNames v
       first
         | (have hv : (_ → _) := v; clear hv; unfold v; clear v)
         | (refine (fun (hv : Stays ps s0 v) => ?_) ?_; rotate_left; unfold v; rotate_right)
         | skip
       all_goals (try clear_value v))
    | with_reducible exact Burns.refl _
    | with_reducible exact Nat.le_refl _
    | with_reducible exact List.prefix_refl _
    | split
    | (rw [State.mk_build]; refine Stays.upd (fun p hp => by cases p <;> first | exact absurd Has.mem hp | rfl) ?_ ?_ ?_ ?_ ?_)

theorem State.releaseUnits_stays (a0 : State) (a1 : Nat) (a2 : Nat) (a3 : Nat) (h0 : Stays ps s0 a0) [Has ps .tiers] : Stays ps s0 (State.releaseUnits a0 a1 a2 a3) := by
  unfold State.releaseUnits
  repeat' first
    | with_reducible assumption
    | intro _
    | (extract_lets +onlyGivenNames v; all_goals (try clear_value v))
    | with_reducible exact Burns.refl _
    | with_reducible exact Nat.le_refl _
    | with_reducible exact List.prefix_refl _
    | split
    | (rw [State.mk_build]; refine Stays.upd (fun p hp => by cases p <;> first | exact absurd Has.mem hp | rfl) ?_ ?_ ?_ ?_ ?_)

theorem State.dropClaim_stays (a0 : State) (a1 : Nat) (a2 : Nat) (a3 : Nat) (h0 : Stays ps s0 a0) [Has ps .tiers] : Stays ps s0 (State.dropClaim a0 a1 a2 a3) := by
  unfold State.dropClaim
  repeat' first
    | with_reducible assumption
    | with_reducible apply State.settleClaim_stays
    | with_reducible apply State.releaseUnits_stays
    | with_reducible apply State.setClaim_stays
    | split

theorem State.takeFrames_stays (a0 : State) (a1 : Nat) (a2 : Nat) (a3 : Nat) (a4 : Nat) (h0 : Stays ps s0 a0) [Has ps .tiers] : Stays ps s0 (State.takeFrames a0 a1 a2 a3 a4) := by
  unfold State.takeFrames
  repeat' first
    | with_reducible assumption
    | intro _
    | (extract_lets +onlyGivenNames v; all_goals (try clear_value v))
    | with_reducible exact Burns.refl _
    | with_reducible exact Nat.le_refl _
    | with_reducible exact List.prefix_refl _
    | (rw [State.mk_build]; refine Stays.upd (fun p hp => by cases p <;> first | exact absurd Has.mem hp | rfl) ?_ ?_ ?_ ?_ ?_)

theorem State.actOn_stays (a0 : State) (a1 : Directive) (a2 : Nat) (h0 : Stays ps s0 a0) [Has ps .fns] [Has ps .tiers] [Has ps .regs] [Has ps .mem] : Stays ps s0 (State.actOn a0 a1 a2) := by
  unfold State.actOn
  repeat' first
    | with_reducible assumption
    | intro _
    | with_reducible apply State.count_stays
    | with_reducible apply State.eachPart_stays
    | with_reducible apply State.chargeUnits_stays
    | with_reducible apply State.setClaim_stays
    | with_reducible apply State.dropClaim_stays
    | with_reducible apply State.releaseUnits_stays
    | with_reducible apply State.leaveFrames_stays
    | with_reducible apply State.takeFrames_stays
    | (extract_lets +onlyGivenNames v
       first
         | (refine (fun (hv : Stays ps s0 v) => ?_) ?_; rotate_left; unfold v; rotate_right)
         | skip
       all_goals (try clear_value v))
    | with_reducible exact Burns.refl _
    | with_reducible exact Nat.le_refl _
    | with_reducible exact List.prefix_refl _
    | with_reducible apply Mem.wf_clear
    | split
    | (rw [State.mk_build]; refine Stays.upd (fun p hp => by cases p <;> first | exact absurd Has.mem hp | rfl) ?_ ?_ ?_ ?_ ?_)

theorem State.setSeq_stays (a0 : State) (a1 : Sequence) (h0 : Stays ps s0 a0) [Has ps .inf] : Stays ps s0 (State.setSeq a0 a1) := by
  unfold State.setSeq
  repeat' first
    | with_reducible assumption
    | intro _
    | (extract_lets +onlyGivenNames v; all_goals (try clear_value v))
    | with_reducible exact Burns.refl _
    | with_reducible exact Nat.le_refl _
    | with_reducible exact List.prefix_refl _
    | (rw [State.mk_build]; refine Stays.upd (fun p hp => by cases p <;> first | exact absurd Has.mem hp | rfl) ?_ ?_ ?_ ?_ ?_)

theorem State.putToken_stays (a0 : State) (a1 : Sequence) (a2 : Rec) (h0 : Stays ps s0 a0) [Has ps .inf] [Has ps .regs] : Stays ps s0 (State.putToken a0 a1 a2) := by
  unfold State.putToken
  repeat' first
    | with_reducible assumption
    | with_reducible apply State.setSeq_stays
    | with_reducible apply State.count_stays
    | split

theorem State.setModel_stays (a0 : State) (a1 : Nat) (a2 : Nat) (a3 : Model) (h0 : Stays ps s0 a0) [Has ps .inf] : Stays ps s0 (State.setModel a0 a1 a2 a3) := by
  unfold State.setModel
  repeat' first
    | with_reducible assumption
    | intro _
    | (extract_lets +onlyGivenNames v; all_goals (try clear_value v))
    | with_reducible exact Burns.refl _
    | with_reducible exact Nat.le_refl _
    | with_reducible exact List.prefix_refl _
    | (rw [State.mk_build]; refine Stays.upd (fun p hp => by cases p <;> first | exact absurd Has.mem hp | rfl) ?_ ?_ ?_ ?_ ?_)

theorem State.dropSeq_stays (a0 : State) (a1 : Sequence) (h0 : Stays ps s0 a0) [Has ps .inf] : Stays ps s0 (State.dropSeq a0 a1) := by
  unfold State.dropSeq
  repeat' first
    | with_reducible assumption
    | intro _
    | (extract_lets +onlyGivenNames v; all_goals (try clear_value v))
    | with_reducible exact Burns.refl _
    | with_reducible exact Nat.le_refl _
    | with_reducible exact List.prefix_refl _
    | (rw [State.mk_build]; refine Stays.upd (fun p hp => by cases p <;> first | exact absurd Has.mem hp | rfl) ?_ ?_ ?_ ?_ ?_)

theorem State.leaveSeq_stays (a0 : State) (a1 : Sequence) (h0 : Stays ps s0 a0) [Has ps .inf] [Has ps .tiers] : Stays ps s0 (State.leaveSeq a0 a1) := by
  unfold State.leaveSeq
  repeat' first
    | with_reducible assumption
    | with_reducible apply State.setModel_stays
    | with_reducible apply State.releaseUnits_stays
    | with_reducible apply State.dropSeq_stays
    | with_reducible apply State.setSeq_stays
    | (extract_lets +onlyGivenNames v
       first
         | (refine (fun (hv : Stays ps s0 v) => ?_) ?_; rotate_left; unfold v; rotate_right)
         | skip
       all_goals (try clear_value v))
    | split

theorem State.endSeqWith_stays (a0 : State) (a1 : Sequence) (a2 : Nat) (a3 : Nat) (h0 : Stays ps s0 a0) [Has ps .inf] [Has ps .tiers] [Has ps .regs] : Stays ps s0 (State.endSeqWith a0 a1 a2 a3) := by
  unfold State.endSeqWith
  repeat' first
    | with_reducible assumption
    | with_reducible apply State.putToken_stays
    | with_reducible apply State.leaveSeq_stays
    | (extract_lets +onlyGivenNames v
       first
         | (refine (fun (hv : Stays ps s0 v) => ?_) ?_; rotate_left; unfold v; rotate_right)
         | skip
       all_goals (try clear_value v))
    | split

theorem State.endSeq_stays (a0 : State) (a1 : Sequence) (a2 : Nat) (h0 : Stays ps s0 a0) [Has ps .inf] [Has ps .tiers] [Has ps .regs] : Stays ps s0 (State.endSeq a0 a1 a2) := by
  unfold State.endSeq
  repeat' first
    | with_reducible assumption
    | with_reducible apply State.endSeqWith_stays

theorem State.takePages_stays (a0 : State) (a1 : Model) (a2 : Sequence) (a3 : Nat) (h0 : Stays ps s0 a0) [Has ps .fns] [Has ps .inf] [Has ps .tiers] [Has ps .regs] : Stays ps s0 (State.takePages a0 a1 a2 a3) := by
  unfold State.takePages
  repeat' first
    | with_reducible assumption
    | with_reducible apply State.setSeq_stays
    | with_reducible apply State.chargeUnits_stays

theorem State.hubReq_stays (a0 : State) (a1 : Txn) (a2 : Nat) (h0 : Stays ps s0 a0) [Has ps .fns] [Has ps .front] [Has ps .fab] [Has ps .rpl] [Has ps .regs] [Has ps .out] : Stays ps s0 (State.hubReq a0 a1 a2) := by
  unfold State.hubReq
  repeat' first
    | with_reducible assumption
    | with_reducible apply State.count_stays
    | with_reducible apply State.issueReq_stays
    | split

theorem State.mail_stays (a0 : State) (a1 : Nat) (a2 : Nat) (a3 : Nat) (a4 : Nat) (h0 : Stays ps s0 a0) [Has ps .fns] [Has ps .front] [Has ps .fab] [Has ps .rpl] [Has ps .regs] [Has ps .out] : Stays ps s0 (State.mail a0 a1 a2 a3 a4) := by
  unfold State.mail
  repeat' first
    | with_reducible assumption
    | with_reducible apply State.hubReq_stays

theorem State.sendExpel_stays (a0 : State) (a1 : Nat) (h0 : Stays ps s0 a0) [Has ps .fns] [Has ps .front] [Has ps .fab] [Has ps .rpl] [Has ps .health] [Has ps .regs] [Has ps .out] : Stays ps s0 (State.sendExpel a0 a1) := by
  unfold State.sendExpel
  repeat' first
    | with_reducible assumption
    | intro _
    | with_reducible apply State.mail_stays
    | (extract_lets +onlyGivenNames v
       first
         | (refine (fun (hv : Stays ps s0 v) => ?_) ?_; rotate_left; unfold v; rotate_right)
         | skip
       all_goals (try clear_value v))
    | with_reducible exact Burns.refl _
    | with_reducible exact Nat.le_refl _
    | with_reducible exact List.prefix_refl _
    | split
    | (rw [State.mk_build]; refine Stays.upd (fun p hp => by cases p <;> first | exact absurd Has.mem hp | rfl) ?_ ?_ ?_ ?_ ?_)

theorem State.setDev_stays (a0 : State) (a1 : DevSt) (h0 : Stays ps s0 a0) [Has ps .fns] [Has ps .start] [Has ps .regs] : Stays ps s0 (State.setDev a0 a1) := by
  unfold State.setDev
  repeat' first
    | with_reducible assumption
    | intro _
    | with_reducible apply State.statusNote_stays
    | (extract_lets +onlyGivenNames v
       first
         | (have hv : Start := v; clear hv; unfold v; clear v)
         | skip
       all_goals (try clear_value v))
    | with_reducible apply Stays.foldl
    | with_reducible exact Nat.le_refl _
    | with_reducible exact List.prefix_refl _
    | exact Burns.same rfl rfl rfl rfl rfl rfl
    | split
    | (rw [State.mk_build]; refine Stays.upd (fun p hp => by cases p <;> first | exact absurd Has.mem hp | rfl) ?_ ?_ ?_ ?_ ?_)

theorem State.redev_stays (a0 : State) (h0 : Stays ps s0 a0) [Has ps .fns] [Has ps .start] [Has ps .regs] : Stays ps s0 (State.redev a0) := by
  unfold State.redev
  repeat' first
    | with_reducible assumption
    | with_reducible apply State.setDev_stays
    | split

theorem State.hltEvt_stays (a0 : State) (a1 : Nat) (h0 : Stays ps s0 a0) [Has ps .fns] [Has ps .regs] : Stays ps s0 (State.hltEvt a0 a1) := by
  unfold State.hltEvt
  repeat' first
    | with_reducible assumption
    | with_reducible apply State.event_stays

theorem State.healthLog_stays (a0 : State) (a1 : Nat) (a2 : Nat) (a3 : Nat) (a4 : Nat) (a5 : DWord) (h0 : Stays ps s0 a0) [Has ps .fns] [Has ps .health] [Has ps .regs] : Stays ps s0 (State.healthLog a0 a1 a2 a3 a4 a5) := by
  unfold State.healthLog
  extract_lets h bin w1 e hl v w
  have hv : Stays ps s0 v := by unfold v; rw [State.mk_build]; exact Stays.upd (fun p hp => by cases p <;> first | exact absurd Has.mem hp | rfl) h0 id (List.prefix_refl _) (Nat.le_refl _) (Burns.refl _)
  have hw : Stays ps s0 w := State.setReg_stays _ _ _ hv
  split
  · exact State.setReg_stays _ _ _ hw
  · exact State.hltEvt_stays _ _ (State.count_stays _ _ _ (State.setReg_stays _ _ _ hw))

theorem State.setExpel_stays (a0 : State) (a1 : Nat) (a2 : Nat) (a3 : Nat) (h0 : Stays ps s0 a0) [Has ps .fns] [Has ps .health] [Has ps .start] [Has ps .regs] : Stays ps s0 (State.setExpel a0 a1 a2 a3) := by
  unfold State.setExpel
  repeat' first
    | with_reducible assumption
    | intro _
    | with_reducible apply State.redev_stays
    | with_reducible apply State.hltEvt_stays
    | with_reducible apply State.healthLog_stays
    | (extract_lets +onlyGivenNames v; all_goals (try clear_value v))
    | with_reducible exact Burns.refl _
    | with_reducible exact Nat.le_refl _
    | with_reducible exact List.prefix_refl _
    | (rw [State.mk_build]; refine Stays.upd (fun p hp => by cases p <;> first | exact absurd Has.mem hp | rfl) ?_ ?_ ?_ ?_ ?_)

theorem State.requestExpel_stays (a0 : State) (a1 : Nat) (h0 : Stays ps s0 a0) [Has ps .fns] [Has ps .front] [Has ps .fab] [Has ps .rpl] [Has ps .health] [Has ps .start] [Has ps .regs] [Has ps .out] : Stays ps s0 (State.requestExpel a0 a1) := by
  unfold State.requestExpel
  repeat' first
    | with_reducible assumption
    | with_reducible apply State.sendExpel_stays
    | with_reducible apply State.setExpel_stays
    | split

theorem State.setCell_stays (a0 : State) (a1 : Nat) (a2 : Cell) (h0 : Stays ps s0 a0) [Has ps .radio] : Stays ps s0 (State.setCell a0 a1 a2) := by
  unfold State.setCell
  repeat' first
    | with_reducible assumption
    | intro _
    | (extract_lets +onlyGivenNames v; all_goals (try clear_value v))
    | with_reducible exact Burns.refl _
    | with_reducible exact Nat.le_refl _
    | with_reducible exact List.prefix_refl _
    | (rw [State.mk_build]; refine Stays.upd (fun p hp => by cases p <;> first | exact absurd Has.mem hp | rfl) ?_ ?_ ?_ ?_ ?_)

theorem State.tileOut_stays (a0 : State) (a1 : Nat) (a2 : Nat) (a3 : Nat) (a4 : Nat) (a5 : List Byte) (h0 : Stays ps s0 a0) [Has ps .fns] [Has ps .front] [Has ps .fab] [Has ps .rpl] [Has ps .regs] [Has ps .out] : Stays ps s0 (State.tileOut a0 a1 a2 a3 a4 a5) := by
  induction a4 generalizing a0 a1 a2 a3 a5 with
  | zero =>
    unfold State.tileOut
    repeat' first
      | with_reducible assumption
  | succ n ih =>
    unfold State.tileOut
    repeat' first
      | with_reducible assumption
      | with_reducible apply ih
      | with_reducible apply State.hubReq_stays
      | (extract_lets +onlyGivenNames v
         first
           | (refine (fun (hv : Stays ps s0 v) => ?_) ?_; rotate_left; unfold v; rotate_right)
           | skip
         all_goals (try clear_value v))
      | split

theorem State.ringWrite_stays (a0 : State) (a1 : Nat) (a2 : List Byte) (h0 : Stays ps s0 a0) (t : State) (h : (State.ringWrite a0 a1 a2) = some t) [Has ps .fns] [Has ps .front] [Has ps .fab] [Has ps .rpl] [Has ps .regs] [Has ps .out] : Stays ps s0 t := by
  revert t
  intro t h
  unfold State.ringWrite at h
  extract_lets +onlyGivenNames x at h
  split at h
  · split at h
    · injection h with h; subst h; exact h0
    · split at h
      · cases h
      · extract_lets +onlyGivenNames u w at h
        injection h with h; subst h
        exact State.post_stays _ _ _ _ (State.emit_stays _ _ (State.setQp_stays _ _ _ _ h0))
  · extract_lets +onlyGivenNames e out dest size tail pos pad at h
    split at h
    · cases h
    · extract_lets base v w fb at h
      injection h with h; subst h
      have hv : Stays ps s0 v := by
        unfold v
        split
        · exact h0
        · exact State.tileOut_stays _ _ _ _ _ _ h0
      rw [State.mk_build]
      exact Stays.upd (fun p hp => by cases p <;> first | exact absurd Has.mem hp | rfl) (State.tileOut_stays _ _ _ _ _ _ hv) id (List.prefix_refl _) (Nat.le_refl _) (Burns.refl _)

theorem State.readHead_stays (a0 : State) (a1 : Nat) (h0 : Stays ps s0 a0) [Has ps .fns] [Has ps .front] [Has ps .fab] [Has ps .rpl] [Has ps .regs] [Has ps .out] : Stays ps s0 (State.readHead a0 a1) := by
  unfold State.readHead
  repeat' first
    | with_reducible assumption
    | with_reducible apply State.hubReq_stays
    | (extract_lets +onlyGivenNames v; all_goals (try clear_value v))
    | split

theorem State.ssiOut_stays (a0 : State) (a1 : Nat) (a2 : List LateMark) (a3 : List Byte) (h0 : Stays ps s0 a0) [Has ps .fns] [Has ps .radio] [Has ps .front] [Has ps .fab] [Has ps .rpl] [Has ps .regs] [Has ps .out] : Stays ps s0 (State.ssiOut a0 a1 a2 a3) := by
  unfold State.ssiOut
  repeat' first
    | with_reducible assumption
    | intro _
    | with_reducible apply State.readHead_stays
    | (refine State.ringWrite_stays _ _ _ ?_ _ (by assumption))
    | (extract_lets +onlyGivenNames v
       first
         | (have hv : (_ → _) := v; clear hv; unfold v; clear v)
         | skip
       all_goals (try clear_value v))
    | with_reducible exact Burns.refl _
    | with_reducible exact Nat.le_refl _
    | with_reducible exact List.prefix_refl _
    | split
    | (rw [State.mk_build]; refine Stays.upd (fun p hp => by cases p <;> first | exact absurd Has.mem hp | rfl) ?_ ?_ ?_ ?_ ?_)

theorem State.indicate_stays (a0 : State) (a1 : Nat) (a2 : Nat) (a3 : List LateMark) (a4 : List Byte) (h0 : Stays ps s0 a0) [Has ps .fns] [Has ps .radio] [Has ps .front] [Has ps .fab] [Has ps .rpl] [Has ps .health] [Has ps .regs] [Has ps .out] : Stays ps s0 (State.indicate a0 a1 a2 a3 a4) := by
  unfold State.indicate
  repeat' first
    | with_reducible assumption
    | intro _
    | with_reducible apply State.ssiOut_stays
    | (extract_lets +onlyGivenNames v; all_goals (try clear_value v))
    | with_reducible exact Burns.refl _
    | with_reducible exact Nat.le_refl _
    | with_reducible exact List.prefix_refl _
    | split
    | (rw [State.mk_build]; refine Stays.upd (fun p hp => by cases p <;> first | exact absurd Has.mem hp | rfl) ?_ ?_ ?_ ?_ ?_)

theorem State.tellL2_stays (a0 : State) (a1 : Nat) (a2 : Nat) (a3 : Nat) (a4 : Stamp) (a5 : List Byte) (h0 : Stays ps s0 a0) [Has ps .fns] [Has ps .radio] [Has ps .front] [Has ps .fab] [Has ps .rpl] [Has ps .health] [Has ps .regs] [Has ps .out] : Stays ps s0 (State.tellL2 a0 a1 a2 a3 a4 a5) := by
  unfold State.tellL2
  repeat' first
    | with_reducible assumption
    | with_reducible apply State.setCell_stays
    | with_reducible apply State.indicate_stays
    | with_reducible apply State.output_stays

theorem State.cellNote_stays (a0 : State) (a1 : Nat) (a2 : Nat) (h0 : Stays ps s0 a0) [Has ps .fns] [Has ps .radio] [Has ps .front] [Has ps .fab] [Has ps .rpl] [Has ps .health] [Has ps .regs] [Has ps .out] : Stays ps s0 (State.cellNote a0 a1 a2) := by
  unfold State.cellNote
  repeat' first
    | with_reducible assumption
    | with_reducible apply State.tellL2_stays

theorem State.stopCell_stays (a0 : State) (a1 : Nat) (a2 : Nat) (h0 : Stays ps s0 a0) [Has ps .fns] [Has ps .radio] [Has ps .front] [Has ps .fab] [Has ps .rpl] [Has ps .health] [Has ps .regs] [Has ps .out] : Stays ps s0 (State.stopCell a0 a1 a2) := by
  unfold State.stopCell
  repeat' first
    | with_reducible assumption
    | with_reducible apply State.cellNote_stays
    | with_reducible apply State.setCell_stays
    | (extract_lets +onlyGivenNames v; all_goals (try clear_value v))
    | split

theorem State.fitCells_stays (a0 : State) (a1 : Nat) (h0 : Stays ps s0 a0) [Has ps .fns] [Has ps .radio] [Has ps .front] [Has ps .fab] [Has ps .rpl] [Has ps .health] [Has ps .regs] [Has ps .out] : Stays ps s0 (State.fitCells a0 a1) := by
  unfold State.fitCells
  repeat' first
    | with_reducible assumption
    | intro _
    | with_reducible apply State.stopCell_stays
    | (extract_lets +onlyGivenNames v
       first
         | (have hv : (_ → _) := v; clear hv; unfold v; clear v)
         | skip
       all_goals (try clear_value v))
    | with_reducible apply Stays.foldl1
    | split

theorem State.dropFlits_stays (a0 : State) (a1 : Nat) (h0 : Stays ps s0 a0) [Has ps .front] : Stays ps s0 (State.dropFlits a0 a1) := by
  unfold State.dropFlits
  repeat' first
    | with_reducible assumption
    | intro _
    | (extract_lets +onlyGivenNames v; all_goals (try clear_value v))
    | with_reducible exact Burns.refl _
    | with_reducible exact Nat.le_refl _
    | with_reducible exact List.prefix_refl _
    | (rw [State.mk_build]; refine Stays.upd (fun p hp => by cases p <;> first | exact absurd Has.mem hp | rfl) ?_ ?_ ?_ ?_ ?_)

theorem State.setReq_stays (a0 : State) (a1 : Req) (h0 : Stays ps s0 a0) [Has ps .fab] : Stays ps s0 (State.setReq a0 a1) := by
  unfold State.setReq
  repeat' first
    | with_reducible assumption
    | intro _
    | (extract_lets +onlyGivenNames v; all_goals (try clear_value v))
    | with_reducible exact Burns.refl _
    | with_reducible exact Nat.le_refl _
    | with_reducible exact List.prefix_refl _
    | (rw [State.mk_build]; refine Stays.upd (fun p hp => by cases p <;> first | exact absurd Has.mem hp | rfl) ?_ ?_ ?_ ?_ ?_)

theorem State.reissue_stays (a0 : State) (a1 : Req) (h0 : Stays ps s0 a0) [Has ps .front] [Has ps .fab] [Has ps .regs] [Has ps .out] : Stays ps s0 (State.reissue a0 a1) := by
  unfold State.reissue
  repeat' first
    | with_reducible assumption
    | with_reducible apply State.count_stays
    | with_reducible apply State.setReq_stays
    | with_reducible apply State.sendOn_stays
    | (extract_lets +onlyGivenNames v
       first
         | (refine (fun (hv : Stays ps s0 v) => ?_) ?_; rotate_left; unfold v; rotate_right)
         | skip
       all_goals (try clear_value v))
    | split

theorem State.giveUp_stays (a0 : State) (a1 : Req) (a2 : Nat) (h0 : Stays ps s0 a0) [Has ps .lists] [Has ps .units] [Has ps .fns] [Has ps .front] [Has ps .fab] [Has ps .rpl] [Has ps .regs] [Has ps .out] : Stays ps s0 (State.giveUp a0 a1 a2) := by
  unfold State.giveUp
  repeat' first
    | with_reducible assumption
    | with_reducible apply State.reissue_stays
    | with_reducible apply State.abandon_stays
    | split

theorem State.loseReqs_stays (a0 : State) (a1 : Req → Bool) (h0 : Stays ps s0 a0) [Has ps .lists] [Has ps .units] [Has ps .fns] [Has ps .front] [Has ps .fab] [Has ps .rpl] [Has ps .regs] [Has ps .out] : Stays ps s0 (State.loseReqs a0 a1) := by
  unfold State.loseReqs
  repeat' first
    | with_reducible assumption
    | intro _
    | with_reducible apply State.giveUp_stays
    | (extract_lets +onlyGivenNames v; all_goals (try clear_value v))
    | with_reducible apply Stays.foldl
    | split

theorem State.losePlane_stays (a0 : State) (a1 : Nat) (a2 : LinkSt) (h0 : Stays ps s0 a0) [Has ps .lists] [Has ps .units] [Has ps .fns] [Has ps .front] [Has ps .fab] [Has ps .rpl] [Has ps .regs] [Has ps .out] : Stays ps s0 (State.losePlane a0 a1 a2) := by
  unfold State.losePlane
  repeat' first
    | with_reducible assumption
    | with_reducible apply State.setPort_stays
    | with_reducible apply State.dropFlits_stays
    | with_reducible apply State.loseReqs_stays

theorem State.afterQuar_stays (a0 : State) (a1 : Nat) (h0 : Stays ps s0 a0) [Has ps .lists] [Has ps .units] [Has ps .fns] [Has ps .ports] [Has ps .radio] [Has ps .front] [Has ps .fab] [Has ps .rpl] [Has ps .health] [Has ps .start] [Has ps .regs] [Has ps .out] : Stays ps s0 (State.afterQuar a0 a1) := by
  unfold State.afterQuar
  repeat' first
    | with_reducible assumption
    | intro _
    | with_reducible apply State.redev_stays
    | with_reducible apply State.fitCells_stays
    | with_reducible apply State.losePlane_stays
    | with_reducible apply State.requestExpel_stays
    | (extract_lets +onlyGivenNames v
       first
         | (have hv : HostIf := v; clear hv; unfold v; clear v)
         | (refine (fun (hv : Stays ps s0 v) => ?_) ?_; rotate_left; unfold v; rotate_right)
         | skip
       all_goals (try clear_value v))
    | with_reducible exact Burns.refl _
    | with_reducible exact Nat.le_refl _
    | with_reducible exact List.prefix_refl _
    | split
    | (rw [State.mk_build]; refine Stays.upd (fun p hp => by cases p <;> first | exact absurd Has.mem hp | rfl) ?_ ?_ ?_ ?_ ?_)

theorem State.decideQuar_stays (a0 : State) (a1 : Nat) (h0 : Stays ps s0 a0) [Has ps .lists] [Has ps .units] [Has ps .fns] [Has ps .ports] [Has ps .radio] [Has ps .front] [Has ps .fab] [Has ps .rpl] [Has ps .health] [Has ps .start] [Has ps .regs] [Has ps .out] : Stays ps s0 (State.decideQuar a0 a1) := by
  unfold State.decideQuar
  repeat' first
    | with_reducible assumption
    | intro _
    | with_reducible apply State.requestExpel_stays
    | with_reducible apply State.afterQuar_stays
    | with_reducible apply State.hltEvt_stays
    | with_reducible apply State.healthLog_stays
    | (extract_lets +onlyGivenNames v
       first
         | (refine (fun (hv : Stays ps s0 v) => ?_) ?_; rotate_left; unfold v; rotate_right)
         | skip
       all_goals (try clear_value v))
    | with_reducible exact Burns.refl _
    | with_reducible exact Nat.le_refl _
    | with_reducible exact List.prefix_refl _
    | split
    | (rw [State.mk_build]; refine Stays.upd (fun p hp => by cases p <;> first | exact absurd Has.mem hp | rfl) ?_ ?_ ?_ ?_ ?_)

theorem State.deduct_stays (a0 : State) (a1 : Nat) (a2 : Nat) (h0 : Stays ps s0 a0) [Has ps .lists] [Has ps .units] [Has ps .fns] [Has ps .ports] [Has ps .radio] [Has ps .front] [Has ps .fab] [Has ps .rpl] [Has ps .health] [Has ps .start] [Has ps .regs] [Has ps .out] : Stays ps s0 (State.deduct a0 a1 a2) := by
  unfold State.deduct
  repeat' first
    | with_reducible assumption
    | intro _
    | with_reducible apply State.decideQuar_stays
    | (extract_lets +onlyGivenNames v
       first
         | (refine (fun (hv : Stays ps s0 v) => ?_) ?_; rotate_left; unfold v; rotate_right)
         | skip
       all_goals (try clear_value v))
    | with_reducible exact Burns.refl _
    | with_reducible exact Nat.le_refl _
    | with_reducible exact List.prefix_refl _
    | split
    | (rw [State.mk_build]; refine Stays.upd (fun p hp => by cases p <;> first | exact absurd Has.mem hp | rfl) ?_ ?_ ?_ ?_ ?_)

theorem State.corrected_stays (a0 : State) (a1 : Nat) (h0 : Stays ps s0 a0) [Has ps .lists] [Has ps .units] [Has ps .fns] [Has ps .ports] [Has ps .radio] [Has ps .front] [Has ps .fab] [Has ps .rpl] [Has ps .health] [Has ps .start] [Has ps .regs] [Has ps .out] : Stays ps s0 (State.corrected a0 a1) := by
  unfold State.corrected
  repeat' first
    | with_reducible assumption
    | intro _
    | with_reducible apply State.deduct_stays
    | with_reducible apply State.healthLog_stays
    | (extract_lets +onlyGivenNames v
       first
         | (refine (fun (hv : Stays ps s0 v) => ?_) ?_; rotate_left; unfold v; rotate_right)
         | skip
       all_goals (try clear_value v))
    | with_reducible exact Burns.refl _
    | with_reducible exact Nat.le_refl _
    | with_reducible exact List.prefix_refl _
    | split
    | (rw [State.mk_build]; refine Stays.upd (fun p hp => by cases p <;> first | exact absurd Has.mem hp | rfl) ?_ ?_ ?_ ?_ ?_)

theorem State.fixLine_stays (a0 : State) (a1 : Nat) (h0 : Stays ps s0 a0) [Has ps .lists] [Has ps .units] [Has ps .fns] [Has ps .ports] [Has ps .radio] [Has ps .front] [Has ps .tiers] [Has ps .fab] [Has ps .rpl] [Has ps .health] [Has ps .start] [Has ps .regs] [Has ps .out] : Stays ps s0 (State.fixLine a0 a1) := by
  unfold State.fixLine
  repeat' first
    | with_reducible assumption
    | intro _
    | with_reducible apply State.memEvt_stays
    | with_reducible apply State.count_stays
    | with_reducible apply State.corrected_stays
    | (extract_lets +onlyGivenNames v; all_goals (try clear_value v))
    | with_reducible exact Burns.refl _
    | with_reducible exact Nat.le_refl _
    | with_reducible exact List.prefix_refl _
    | split
    | (rw [State.mk_build]; refine Stays.upd (fun p hp => by cases p <;> first | exact absurd Has.mem hp | rfl) ?_ ?_ ?_ ?_ ?_)

theorem State.memLog_stays (a0 : State) (a1 : Nat) (a2 : Nat) (a3 : Nat) (a4 : Nat) (a5 : Nat) (a6 : Nat) (h0 : Stays ps s0 a0) [Has ps .fns] [Has ps .tiers] [Has ps .regs] : Stays ps s0 (State.memLog a0 a1 a2 a3 a4 a5 a6) := by
  unfold State.memLog
  extract_lets h e ti v w
  have hv : Stays ps s0 v := by unfold v; rw [State.mk_build]; exact Stays.upd (fun p hp => by cases p <;> first | exact absurd Has.mem hp | rfl) h0 id (List.prefix_refl _) (Nat.le_refl _) (Burns.refl _)
  have hw : Stays ps s0 w := State.setReg_stays _ _ _ hv
  split
  · exact State.setReg_stays _ _ _ hw
  · exact State.memEvt_stays _ _ (State.count_stays _ _ _ (State.setReg_stays _ _ _ hw))

theorem State.poisonLine_stays (a0 : State) (a1 : Nat) (h0 : Stays ps s0 a0) [Has ps .lists] [Has ps .units] [Has ps .fns] [Has ps .ports] [Has ps .radio] [Has ps .front] [Has ps .tiers] [Has ps .fab] [Has ps .rpl] [Has ps .health] [Has ps .start] [Has ps .regs] [Has ps .out] : Stays ps s0 (State.poisonLine a0 a1) := by
  unfold State.poisonLine
  repeat' first
    | with_reducible assumption
    | intro _
    | with_reducible apply State.memLog_stays
    | with_reducible apply State.count_stays
    | with_reducible apply State.memEvt_stays
    | with_reducible apply State.deduct_stays
    | with_reducible apply State.healthLog_stays
    | (extract_lets +onlyGivenNames v; all_goals (try clear_value v))
    | with_reducible exact Burns.refl _
    | with_reducible exact Nat.le_refl _
    | with_reducible exact List.prefix_refl _
    | split
    | (rw [State.mk_build]; refine Stays.upd (fun p hp => by cases p <;> first | exact absurd Has.mem hp | rfl) ?_ ?_ ?_ ?_ ?_)

theorem State.readSpans_stays (a0 : State) (a1 : List Span) (a2 : Nat) (h0 : Stays ps s0 a0) [Has ps .lists] [Has ps .units] [Has ps .fns] [Has ps .ports] [Has ps .radio] [Has ps .front] [Has ps .tiers] [Has ps .fab] [Has ps .rpl] [Has ps .health] [Has ps .start] [Has ps .regs] [Has ps .out] : Stays ps s0 (State.readSpans a0 a1 a2).2 := by
  unfold State.readSpans
  repeat' first
    | with_reducible assumption
    | intro _
    | with_reducible apply State.fixLine_stays
    | with_reducible apply State.poisonLine_stays
    | with_reducible apply State.memEvt_stays
    | with_reducible apply State.memLog_stays
    | (extract_lets +onlyGivenNames v; refine (fun (hv : Stays ps s0 v) => ?_) ?_; rotate_left; unfold v; rotate_right; all_goals (try clear_value v))
    | with_reducible apply Stays.foldl
    | split

theorem State.admitList_stays (a0 : State) (a1 : Ctx) (a2 : Nat) (a3 : Report) (a4 : Bool) (h0 : Stays ps s0 a0) [Has ps .lists] [Has ps .units] [Has ps .fns] [Has ps .ports] [Has ps .radio] [Has ps .front] [Has ps .tiers] [Has ps .fab] [Has ps .rpl] [Has ps .health] [Has ps .start] [Has ps .regs] [Has ps .out] : Stays ps s0 (State.admitList a0 a1 a2 a3 a4).2.2 := by
  unfold State.admitList
  repeat' first
    | with_reducible assumption
    | intro _
    | with_reducible apply State.readSpans_stays
    | (extract_lets +onlyGivenNames v
       first
         | (have hv : Sched := v; clear hv; unfold v; clear v)
         | (refine (fun (hv : Stays ps s0 v) => ?_) ?_; rotate_left; unfold v; rotate_right)
         | (refine (fun (hv : Stays ps s0 v.2) => ?_) ?_; rotate_left; unfold v; rotate_right)
         | skip
       all_goals (try clear_value v))
    | with_reducible exact Burns.refl _
    | with_reducible exact Nat.le_refl _
    | with_reducible exact List.prefix_refl _
    | split
    | (rw [State.mk_build]; refine Stays.upd (fun p hp => by cases p <;> first | exact absurd Has.mem hp | rfl) ?_ ?_ ?_ ?_ ?_)

theorem State.setCtx_stays (a0 : State) (a1 : Ctx) (h0 : Stays ps s0 a0) [Has ps .ctxs] : Stays ps s0 (State.setCtx a0 a1) := by
  unfold State.setCtx
  repeat' first
    | with_reducible assumption
    | intro _
    | (extract_lets +onlyGivenNames v
       first
         | (have hv : Sched := v; clear hv; unfold v; clear v)
         | skip
       all_goals (try clear_value v))
    | with_reducible exact Burns.refl _
    | with_reducible exact Nat.le_refl _
    | with_reducible exact List.prefix_refl _
    | (rw [State.mk_build]; refine Stays.upd (fun p hp => by cases p <;> first | exact absurd Has.mem hp | rfl) ?_ ?_ ?_ ?_ ?_)

theorem State.dropCmpsOf_stays (a0 : State) (a1 : Nat) (a2 : DWord) (h0 : Stays ps s0 a0) [Has ps .lists] : Stays ps s0 (State.dropCmpsOf a0 a1 a2) := by
  unfold State.dropCmpsOf
  repeat' first
    | with_reducible assumption
    | intro _
    | with_reducible apply State.groupDone_stays
    | with_reducible apply State.dropCmp_stays
    | (extract_lets +onlyGivenNames v; all_goals (try clear_value v))
    | with_reducible apply Stays.foldl

theorem State.dropUnitWork_stays (a0 : State) (a1 : Nat) (h0 : Stays ps s0 a0) [Has ps .mat] [Has ps .chm] [Has ps .fab] : Stays ps s0 (State.dropUnitWork a0 a1) := by
  unfold State.dropUnitWork
  repeat' first
    | with_reducible assumption
    | intro _
    | (extract_lets +onlyGivenNames v
       first
         | (refine (fun (hv : Stays ps s0 v) => ?_) ?_; rotate_left; unfold v; rotate_right)
         | skip
       all_goals (try clear_value v))
    | with_reducible exact Burns.refl _
    | with_reducible exact Nat.le_refl _
    | with_reducible exact List.prefix_refl _
    | split
    | (rw [State.mk_build]; refine Stays.upd (fun p hp => by cases p <;> first | exact absurd Has.mem hp | rfl) ?_ ?_ ?_ ?_ ?_)

theorem State.updCtx_stays (a0 : State) (a1 : Nat) (a2 : Ctx → Ctx) (h0 : Stays ps s0 a0) [Has ps .ctxs] : Stays ps s0 (State.updCtx a0 a1 a2) := by
  unfold State.updCtx
  repeat' first
    | with_reducible assumption
    | with_reducible apply State.setCtx_stays
    | split

theorem State.refresh_stays (a0 : State) (a1 : Nat) (h0 : Stays ps s0 a0) [Has ps .ctxs] : Stays ps s0 (State.refresh a0 a1) := by
  unfold State.refresh
  repeat' first
    | with_reducible assumption
    | with_reducible apply State.updCtx_stays

theorem State.cancelWith_stays (a0 : State) (a1 : Nat) (a2 : DWord) (a3 : Nat) (h0 : Stays ps s0 a0) [Has ps .lists] [Has ps .ctxs] [Has ps .units] [Has ps .fns] [Has ps .mat] [Has ps .chm] [Has ps .fab] [Has ps .regs] : Stays ps s0 (State.cancelWith a0 a1 a2 a3) := by
  unfold State.cancelWith
  repeat' first
    | with_reducible assumption
    | intro _
    | with_reducible apply State.setCtx_stays
    | with_reducible apply State.dropCmpsOf_stays
    | with_reducible apply State.listRecord_stays
    | with_reducible apply State.failList_stays
    | with_reducible apply State.dropUnitWork_stays
    | with_reducible apply State.refresh_stays
    | (extract_lets +onlyGivenNames v
       first
         | (have hv : Sched := v; clear hv; unfold v; clear v)
         | skip
       all_goals (try clear_value v))
    | with_reducible apply Stays.foldl
    | with_reducible exact Burns.refl _
    | with_reducible exact Nat.le_refl _
    | with_reducible exact List.prefix_refl _
    | split
    | (rw [State.mk_build]; refine Stays.upd (fun p hp => by cases p <;> first | exact absurd Has.mem hp | rfl) ?_ ?_ ?_ ?_ ?_)

theorem State.cancelList_stays (a0 : State) (a1 : Nat) (a2 : DWord) (h0 : Stays ps s0 a0) [Has ps .lists] [Has ps .ctxs] [Has ps .units] [Has ps .fns] [Has ps .mat] [Has ps .chm] [Has ps .fab] [Has ps .regs] : Stays ps s0 (State.cancelList a0 a1 a2) := by
  unfold State.cancelList
  repeat' first
    | with_reducible assumption
    | with_reducible apply State.cancelWith_stays

theorem State.seeEnd_stays (a0 : State) (a1 : Nat × DWord × Nat) (h0 : Stays ps s0 a0) [Has ps .lists] [Has ps .ctxs] [Has ps .units] [Has ps .fns] [Has ps .mat] [Has ps .inf] [Has ps .chm] [Has ps .fab] [Has ps .regs] : Stays ps s0 (State.seeEnd a0 a1) := by
  unfold State.seeEnd
  repeat' first
    | with_reducible assumption
    | intro _
    | with_reducible apply State.setModel_stays
    | with_reducible apply State.cancelList_stays
    | (extract_lets +onlyGivenNames v; all_goals (try clear_value v))
    | with_reducible apply Stays.foldl
    | split

theorem State.seeEnds_stays (a0 : State) (a1 : Nat) (h0 : Stays ps s0 a0) [Has ps .lists] [Has ps .ctxs] [Has ps .units] [Has ps .fns] [Has ps .mat] [Has ps .inf] [Has ps .chm] [Has ps .fab] [Has ps .regs] : Stays ps s0 (State.seeEnds a0 a1) := by
  induction a1 generalizing a0 with
  | zero =>
    unfold State.seeEnds
    repeat' first
      | with_reducible assumption
  | succ n ih =>
    unfold State.seeEnds
    repeat' first
      | with_reducible assumption
      | intro _
      | with_reducible apply ih
      | with_reducible apply State.seeEnd_stays
      | (extract_lets +onlyGivenNames v
         first
           | (have hv : Sched := v; clear hv; unfold v; clear v)
           | skip
         all_goals (try clear_value v))
      | with_reducible exact Burns.refl _
      | with_reducible exact Nat.le_refl _
      | with_reducible exact List.prefix_refl _
      | split
      | (rw [State.mk_build]; refine Stays.upd (fun p hp => by cases p <;> first | exact absurd Has.mem hp | rfl) ?_ ?_ ?_ ?_ ?_)

theorem State.failModel_stays (a0 : State) (a1 : Nat) (a2 : Nat) (h0 : Stays ps s0 a0) [Has ps .fns] [Has ps .inf] [Has ps .tiers] [Has ps .regs] : Stays ps s0 (State.failModel a0 a1 a2) := by
  unfold State.failModel
  repeat' first
    | with_reducible assumption
    | intro _
    | with_reducible apply State.setModel_stays
    | with_reducible apply State.endSeq_stays
    | with_reducible apply State.raise_stays
    | (extract_lets +onlyGivenNames v; all_goals (try clear_value v))
    | with_reducible apply Stays.foldl
    | split

theorem State.queueList_stays (a0 : State) (a1 : Nat) (a2 : ListRec) (h0 : Stays ps s0 a0) [Has ps .ctxs] : Stays ps s0 (State.queueList a0 a1 a2).2 := by
  unfold State.queueList
  repeat' first
    | with_reducible assumption
    | with_reducible apply State.refresh_stays
    | with_reducible apply State.setCtx_stays
    | split

theorem State.submitShard_stays (a0 : State) (a1 : Nat) (a2 : Nat) (a3 : Nat × Nat) (h0 : Stays ps s0 a0) [Has ps .lists] [Has ps .ctxs] [Has ps .units] [Has ps .fns] [Has ps .ports] [Has ps .inf] [Has ps .radio] [Has ps .front] [Has ps .tiers] [Has ps .fab] [Has ps .rpl] [Has ps .health] [Has ps .start] [Has ps .regs] [Has ps .out] : Stays ps s0 (State.submitShard a0 a1 a2 a3).2 := by
  unfold State.submitShard
  repeat' first
    | with_reducible assumption
    | with_reducible apply State.admitList_stays
    | with_reducible apply State.queueList_stays
    | with_reducible apply State.setModel_stays
    | (extract_lets +onlyGivenNames v
       first
         | (refine (fun (hv : Stays ps s0 v.2) => ?_) ?_; rotate_left; unfold v; rotate_right)
         | skip
       all_goals (try clear_value v))
    | split
    | refine Stays.of_pair2 (by assumption) ?_

theorem State.runStep_stays (a0 : State) (a1 : Nat) (a2 : Nat) (a3 : Nat) (h0 : Stays ps s0 a0) [Has ps .lists] [Has ps .ctxs] [Has ps .units] [Has ps .fns] [Has ps .ports] [Has ps .mat] [Has ps .inf] [Has ps .chm] [Has ps .radio] [Has ps .front] [Has ps .tiers] [Has ps .fab] [Has ps .rpl] [Has ps .health] [Has ps .start] [Has ps .regs] [Has ps .out] : Stays ps s0 (State.runStep a0 a1 a2 a3) := by
  induction a3 generalizing a0 a1 a2 with
  | zero =>
    unfold State.runStep
    repeat' first
      | with_reducible assumption
      | with_reducible apply State.failModel_stays
  | succ n ih =>
    unfold State.runStep
    repeat' first
      | with_reducible assumption
      | intro _
      | with_reducible apply ih
      | with_reducible apply State.setModel_stays
      | with_reducible apply State.submitShard_stays
      | with_reducible apply State.cancelList_stays
      | (extract_lets +onlyGivenNames v
         first
           | (refine (fun (hv : Stays ps s0 v) => ?_) ?_; rotate_left; unfold v; rotate_right)
           | (refine (fun (hv : Stays ps s0 v.2) => ?_) ?_; rotate_left; unfold v; rotate_right)
           | skip
         all_goals (try clear_value v))
      | with_reducible apply Stays.foldl
      | with_reducible apply Stays.foldl2
      | split

theorem State.reapSteps_stays (a0 : State) (h0 : Stays ps s0 a0) [Has ps .lists] [Has ps .ctxs] [Has ps .units] [Has ps .fns] [Has ps .ports] [Has ps .mat] [Has ps .inf] [Has ps .chm] [Has ps .radio] [Has ps .front] [Has ps .tiers] [Has ps .fab] [Has ps .rpl] [Has ps .health] [Has ps .start] [Has ps .regs] [Has ps .out] : Stays ps s0 (State.reapSteps a0) := by
  unfold State.reapSteps
  repeat' first
    | with_reducible assumption
    | intro _
    | with_reducible apply State.seeEnds_stays
    | with_reducible apply State.setModel_stays
    | with_reducible apply State.runStep_stays
    | (extract_lets +onlyGivenNames v; refine (fun (hv : Stays ps s0 v) => ?_) ?_; rotate_left; unfold v; rotate_right; all_goals (try clear_value v))
    | with_reducible apply Stays.foldl

theorem State.setArray_stays (a0 : State) (a1 : Nat) (a2 : Ibex) (h0 : Stays ps s0 a0) [Has ps .mat] : Stays ps s0 (State.setArray a0 a1 a2) := by
  unfold State.setArray
  repeat' first
    | with_reducible assumption
    | intro _
    | (extract_lets +onlyGivenNames v; all_goals (try clear_value v))
    | with_reducible exact Burns.refl _
    | with_reducible exact Nat.le_refl _
    | with_reducible exact List.prefix_refl _
    | (rw [State.mk_build]; refine Stays.upd (fun p hp => by cases p <;> first | exact absurd Has.mem hp | rfl) ?_ ?_ ?_ ?_ ?_)

theorem State.dropCtx_stays (a0 : State) (a1 : Nat) (h0 : Stays ps s0 a0) [Has ps .lists] [Has ps .ctxs] [Has ps .fns] [Has ps .mat] [Has ps .tiers] [Has ps .fab] [Has ps .regs] : Stays ps s0 (State.dropCtx a0 a1) := by
  unfold State.dropCtx
  repeat' first
    | with_reducible assumption
    | intro _
    | with_reducible apply State.listRecord_stays
    | with_reducible apply State.releaseUnits_stays
    | with_reducible apply State.setArray_stays
    | (extract_lets +onlyGivenNames v
       first
         | (have hv : Sched := v; clear hv; unfold v; clear v)
         | (refine (fun (hv : Stays ps s0 v) => ?_) ?_; rotate_left; unfold v; rotate_right)
         | skip
       all_goals (try clear_value v))
    | with_reducible apply Stays.foldl
    | with_reducible exact Burns.refl _
    | with_reducible exact Nat.le_refl _
    | with_reducible exact List.prefix_refl _
    | split
    | (rw [State.mk_build]; refine Stays.upd (fun p hp => by cases p <;> first | exact absurd Has.mem hp | rfl) ?_ ?_ ?_ ?_ ?_)

theorem State.faultNote_stays (a0 : State) (a1 : Nat) (a2 : Nat) (a3 : Nat) (a4 : Nat) (a5 : Nat) (a6 : Stamp) (h0 : Stays ps s0 a0) [Has ps .fns] [Has ps .radio] [Has ps .front] [Has ps .fab] [Has ps .rpl] [Has ps .health] [Has ps .regs] [Has ps .out] : Stays ps s0 (State.faultNote a0 a1 a2 a3 a4 a5 a6) := by
  unfold State.faultNote
  repeat' first
    | with_reducible assumption
    | with_reducible apply State.tellL2_stays

theorem State.raiseAll_stays (a0 : State) (a1 : Nat) (h0 : Stays ps s0 a0) [Has ps .fns] [Has ps .regs] : Stays ps s0 (State.raiseAll a0 a1) := by
  unfold State.raiseAll
  repeat' first
    | with_reducible assumption
    | intro _
    | with_reducible apply State.raise_stays
    | with_reducible apply Stays.foldl

theorem State.wrSpans_stays (a0 : State) (a1 : List Span) (a2 : List Byte) (h0 : Stays ps s0 a0) [Has ps .tiers] [Has ps .mem] : Stays ps s0 (State.wrSpans a0 a1 a2) := by
  unfold State.wrSpans
  extract_lets m n
  have hn : a0.mem.wf = true → Mem.wf n = true := fun h => by
    unfold n
    refine Mem.wf_foldl _ (fun _ g hm => ?_) _ _ (Mem.wf_wrSpans _ _ h)
    split
    · exact hm
    · refine Mem.wf_foldl _ (fun _ p hm => ?_) _ _ hm
      split
      · exact Mem.wf_copy _ _ _ hm
      · exact hm
  rw [State.mk_build]
  exact Stays.upd (fun p hp => by cases p <;> first | exact absurd Has.mem hp | rfl) h0 hn (List.prefix_refl _) (Nat.le_refl _) (Burns.refl _)

theorem State.applyReq_stays (a0 : State) (a1 : Ratc) (a2 : Txn) (h0 : Stays ps s0 a0) [Has ps .lists] [Has ps .ctxs] [Has ps .units] [Has ps .fns] [Has ps .ports] [Has ps .acct] [Has ps .radio] [Has ps .front] [Has ps .tiers] [Has ps .fab] [Has ps .rpl] [Has ps .health] [Has ps .start] [Has ps .regs] [Has ps .mem] [Has ps .out] : Stays ps s0 (State.applyReq a0 a1 a2).2.2.2 := by
  unfold State.applyReq
  repeat' first
    | with_reducible assumption
    | with_reducible apply State.acct_stays
    | with_reducible apply State.wrSpans_stays
    | with_reducible apply State.readSpans_stays
    | with_reducible apply State.setCtx_stays
    | (extract_lets +onlyGivenNames v
       first
         | (refine (fun (hv : Stays ps s0 v) => ?_) ?_; rotate_left; unfold v; rotate_right)
         | (refine (fun (hv : Stays ps s0 v.2) => ?_) ?_; rotate_left; unfold v; rotate_right)
         | skip
       all_goals (try clear_value v))
    | split

theorem State.setPeer_stays (a0 : State) (a1 : Peer) (h0 : Stays ps s0 a0) [Has ps .health] : Stays ps s0 (State.setPeer a0 a1) := by
  unfold State.setPeer
  repeat' first
    | with_reducible assumption
    | intro _
    | (extract_lets +onlyGivenNames v; all_goals (try clear_value v))
    | with_reducible exact Burns.refl _
    | with_reducible exact Nat.le_refl _
    | with_reducible exact List.prefix_refl _
    | (rw [State.mk_build]; refine Stays.upd (fun p hp => by cases p <;> first | exact absurd Has.mem hp | rfl) ?_ ?_ ?_ ?_ ?_)

theorem State.issueAtomic_stays (a0 : State) (a1 : Nat) (a2 : Nat) (a3 : Nat) (a4 : Nat) (a5 : Nat) (a6 : Nat) (a7 : DWord) (a8 : DWord) (a9 : ReqFor) (a10 : BitVec 128) (h0 : Stays ps s0 a0) [Has ps .fns] [Has ps .front] [Has ps .fab] [Has ps .rpl] [Has ps .regs] [Has ps .out] : Stays ps s0 (State.issueAtomic a0 a1 a2 a3 a4 a5 a6 a7 a8 a9 a10) := by
  unfold State.issueAtomic
  repeat' first
    | with_reducible assumption
    | intro _
    | with_reducible apply State.issueReq_stays
    | (extract_lets +onlyGivenNames v; all_goals (try clear_value v))
    | with_reducible exact Burns.refl _
    | with_reducible exact Nat.le_refl _
    | with_reducible exact List.prefix_refl _
    | (rw [State.mk_build]; refine Stays.upd (fun p hp => by cases p <;> first | exact absurd Has.mem hp | rfl) ?_ ?_ ?_ ?_ ?_)

theorem State.askSteward_stays (a0 : State) (a1 : Peer) (h0 : Stays ps s0 a0) [Has ps .fns] [Has ps .front] [Has ps .fab] [Has ps .rpl] [Has ps .health] [Has ps .regs] [Has ps .out] : Stays ps s0 (State.askSteward a0 a1) := by
  unfold State.askSteward
  repeat' first
    | with_reducible assumption
    | with_reducible apply State.setPeer_stays
    | with_reducible apply State.issueAtomic_stays
    | (extract_lets +onlyGivenNames v
       first
         | (refine (fun (hv : Stays ps s0 v) => ?_) ?_; rotate_left; unfold v; rotate_right)
         | skip
       all_goals (try clear_value v))
    | split

theorem State.wardLost_stays (a0 : State) (a1 : Nat) (h0 : Stays ps s0 a0) [Has ps .fns] [Has ps .inf] [Has ps .health] [Has ps .regs] : Stays ps s0 (State.wardLost a0 a1) := by
  unfold State.wardLost
  repeat' first
    | with_reducible assumption
    | intro _
    | with_reducible apply State.setPeer_stays
    | with_reducible apply State.hltEvt_stays
    | with_reducible apply State.healthLog_stays
    | with_reducible apply State.setModel_stays
    | (extract_lets +onlyGivenNames v
       first
         | (refine (fun (hv : Stays ps s0 v) => ?_) ?_; rotate_left; unfold v; rotate_right)
         | skip
       all_goals (try clear_value v))
    | with_reducible apply Stays.foldl
    | with_reducible exact Burns.refl _
    | with_reducible exact Nat.le_refl _
    | with_reducible exact List.prefix_refl _
    | split
    | (rw [State.mk_build]; refine Stays.upd (fun p hp => by cases p <;> first | exact absurd Has.mem hp | rfl) ?_ ?_ ?_ ?_ ?_)

theorem State.count64_stays (a0 : State) (a1 : Nat) (a2 : Nat) (h0 : Stays ps s0 a0) [Has ps .regs] : Stays ps s0 (State.count64 a0 a1 a2) := by
  unfold State.count64
  repeat' first
    | with_reducible assumption
    | with_reducible apply State.setReg_stays

theorem State.charge_stays (a0 : State) (a1 : Nat) (a2 : Nat) (a3 : Nat) (h0 : Stays ps s0 a0) [Has ps .cyclic] [Has ps .regs] : Stays ps s0 (State.charge a0 a1 a2 a3) := by
  unfold State.charge
  repeat' first
    | with_reducible assumption
    | intro _
    | with_reducible apply State.count64_stays
    | with_reducible apply State.count_stays
    | (extract_lets +onlyGivenNames v
       first
         | (have hv : Sched := v; clear hv; unfold v; clear v)
         | (refine (fun (hv : Stays ps s0 v) => ?_) ?_; rotate_left; unfold v; rotate_right)
         | skip
       all_goals (try clear_value v))
    | with_reducible exact Burns.refl _
    | with_reducible exact Nat.le_refl _
    | with_reducible exact List.prefix_refl _
    | split
    | (rw [State.mk_build]; refine Stays.upd (fun p hp => by cases p <;> first | exact absurd Has.mem hp | rfl) ?_ ?_ ?_ ?_ ?_)

theorem State.outStore_stays (a0 : State) (a1 : Ctx) (a2 : Cmd) (a3 : Nat) (a4 : List Byte) (h0 : Stays ps s0 a0) [Has ps .cyclic] [Has ps .tiers] [Has ps .regs] [Has ps .mem] : Stays ps s0 (State.outStore a0 a1 a2 a3 a4) := by
  unfold State.outStore
  repeat' first
    | with_reducible assumption
    | with_reducible apply State.charge_stays
    | with_reducible apply State.wrSpans_stays
    | (extract_lets +onlyGivenNames v; all_goals (try clear_value v))
    | split

theorem State.finishCmd_stays (a0 : State) (a1 : Nat) (a2 : List (Nat × Nat × Handle)) (h0 : Stays ps s0 a0) [Has ps .lists] [Has ps .units] [Has ps .fns] [Has ps .front] [Has ps .fab] [Has ps .rpl] [Has ps .regs] [Has ps .out] : Stays ps s0 (State.finishCmd a0 a1 a2) := by
  unfold State.finishCmd
  repeat' first
    | with_reducible assumption
    | with_reducible apply State.advance_stays
    | with_reducible apply State.setRun_stays
    | split

theorem State.skipIn_stays (a0 : State) (h0 : Stays ps s0 a0) [Has ps .regs] : Stays ps s0 (State.skipIn a0) := by
  unfold State.skipIn
  repeat' first
    | with_reducible assumption
    | with_reducible apply State.count_stays

theorem State.bar2_stays (a0 : State) (a1 : Nat) (a2 : Nat) (a3 : Nat) (a4 : State → State) (h0 : Stays ps s0 a0) (h4 : ∀ u, Stays ps s0 u → Stays ps s0 (a4 u)) [Has ps .fns] [Has ps .rpl] [Has ps .regs] : Stays ps s0 (State.bar2 a0 a1 a2 a3 a4) := by
  unfold State.bar2
  repeat' first
    | with_reducible assumption
    | with_reducible apply State.skipIn_stays
    | with_reducible apply State.logIn_stays
    | with_reducible apply h4
    | split

theorem State.setSrc_stays (a0 : State) (a1 : Nat) (a2 : SrcState) (h0 : Stays ps s0 a0) [Has ps .time] : Stays ps s0 (State.setSrc a0 a1 a2) := by
  unfold State.setSrc
  repeat' first
    | with_reducible assumption
    | intro _
    | (extract_lets +onlyGivenNames v; all_goals (try clear_value v))
    | with_reducible exact Burns.refl _
    | with_reducible exact Nat.le_refl _
    | with_reducible exact List.prefix_refl _
    | split
    | (rw [State.mk_build]; refine Stays.upd (fun p hp => by cases p <;> first | exact absurd Has.mem hp | rfl) ?_ ?_ ?_ ?_ ?_)

theorem State.steer_stays (a0 : State) (a1 : Nat) (a2 : Int) (h0 : Stays ps s0 a0) [Has ps .time] [Has ps .drawn] : Stays ps s0 (State.steer a0 a1 a2) := by
  unfold State.steer
  repeat' first
    | with_reducible assumption
    | intro _
    | (extract_lets +onlyGivenNames v; all_goals (try clear_value v))
    | with_reducible exact Burns.refl _
    | with_reducible exact Nat.le_succ _
    | with_reducible exact List.prefix_refl _
    | split
    | (rw [State.mk_build]; refine Stays.upd (fun p hp => by cases p <;> first | exact absurd Has.mem hp | rfl) ?_ ?_ ?_ ?_ ?_)

theorem State.setCounter_stays (a0 : State) (a1 : Int) (h0 : Stays ps s0 a0) [Has ps .time] : Stays ps s0 (State.setCounter a0 a1) := by
  unfold State.setCounter
  repeat' first
    | with_reducible assumption
    | intro _
    | (extract_lets +onlyGivenNames v; all_goals (try clear_value v))
    | with_reducible exact Burns.refl _
    | with_reducible exact Nat.le_refl _
    | with_reducible exact List.prefix_refl _
    | (rw [State.mk_build]; refine Stays.upd (fun p hp => by cases p <;> first | exact absurd Has.mem hp | rfl) ?_ ?_ ?_ ?_ ?_)

theorem State.timEvt_stays (a0 : State) (a1 : Nat) (h0 : Stays ps s0 a0) [Has ps .fns] [Has ps .regs] : Stays ps s0 (State.timEvt a0 a1) := by
  unfold State.timEvt
  repeat' first
    | with_reducible assumption
    | with_reducible apply State.event_stays

theorem State.timTo_stays (a0 : State) (a1 : TuState) (a2 : Nat) (a3 : Bool) (h0 : Stays ps s0 a0) [Has ps .time] [Has ps .fns] [Has ps .rpl] [Has ps .start] [Has ps .regs] : Stays ps s0 (State.timTo a0 a1 a2 a3) := by
  unfold State.timTo
  repeat' first
    | with_reducible assumption
    | intro _
    | with_reducible apply State.logIn_stays
    | with_reducible apply State.redev_stays
    | with_reducible apply State.timEvt_stays
    | (extract_lets +onlyGivenNames v; all_goals (try clear_value v))
    | with_reducible exact Burns.refl _
    | with_reducible exact Nat.le_refl _
    | with_reducible exact List.prefix_refl _
    | (rw [State.mk_build]; refine Stays.upd (fun p hp => by cases p <;> first | exact absurd Has.mem hp | rfl) ?_ ?_ ?_ ?_ ?_)

theorem State.qualify_stays (a0 : State) (a1 : Nat) (h0 : Stays ps s0 a0) [Has ps .time] [Has ps .fns] [Has ps .rpl] [Has ps .start] [Has ps .regs] [Has ps .drawn] : Stays ps s0 (State.qualify a0 a1) := by
  unfold State.qualify
  repeat' first
    | with_reducible assumption
    | intro _
    | with_reducible apply State.setSrc_stays
    | with_reducible apply State.setCounter_stays
    | with_reducible apply State.timTo_stays
    | with_reducible apply State.steer_stays
    | (extract_lets +onlyGivenNames v
       first
         | (refine (fun (hv : Stays ps s0 v) => ?_) ?_; rotate_left; unfold v; rotate_right)
         | skip
       all_goals (try clear_value v))
    | with_reducible exact Burns.refl _
    | with_reducible exact Nat.le_refl _
    | with_reducible exact List.prefix_refl _
    | split
    | (rw [State.mk_build]; refine Stays.upd (fun p hp => by cases p <;> first | exact absurd Has.mem hp | rfl) ?_ ?_ ?_ ?_ ?_)

theorem State.listSpare_stays (a0 : State) (a1 : Nat) (a2 : Nat) (h0 : Stays ps s0 a0) [Has ps .health] : Stays ps s0 (State.listSpare a0 a1 a2) := by
  unfold State.listSpare
  repeat' first
    | with_reducible assumption
    | intro _
    | (extract_lets +onlyGivenNames v; all_goals (try clear_value v))
    | with_reducible exact Burns.refl _
    | with_reducible exact Nat.le_refl _
    | with_reducible exact List.prefix_refl _
    | split
    | (rw [State.mk_build]; refine Stays.upd (fun p hp => by cases p <;> first | exact absurd Has.mem hp | rfl) ?_ ?_ ?_ ?_ ?_)

theorem State.markBeat_stays (a0 : State) (a1 : Nat) (h0 : Stays ps s0 a0) [Has ps .health] : Stays ps s0 (State.markBeat a0 a1) := by
  unfold State.markBeat
  repeat' first
    | with_reducible assumption
    | intro _
    | (extract_lets +onlyGivenNames v; all_goals (try clear_value v))
    | with_reducible exact Burns.refl _
    | with_reducible exact Nat.le_refl _
    | with_reducible exact List.prefix_refl _
    | (rw [State.mk_build]; refine Stays.upd (fun p hp => by cases p <;> first | exact absurd Has.mem hp | rfl) ?_ ?_ ?_ ?_ ?_)

theorem State.beatFrom_stays (a0 : State) (a1 : Nat) (a2 : Nat) (a3 : Nat) (h0 : Stays ps s0 a0) [Has ps .fns] [Has ps .health] [Has ps .start] [Has ps .regs] : Stays ps s0 (State.beatFrom a0 a1 a2 a3) := by
  unfold State.beatFrom
  repeat' first
    | with_reducible assumption
    | intro _
    | with_reducible apply State.listSpare_stays
    | with_reducible apply State.markBeat_stays
    | with_reducible apply State.redev_stays
    | with_reducible apply State.hltEvt_stays
    | (extract_lets +onlyGivenNames v
       first
         | (refine (fun (hv : Stays ps s0 v) => ?_) ?_; rotate_left; unfold v; rotate_right)
         | skip
       all_goals (try clear_value v))
    | with_reducible exact Burns.refl _
    | with_reducible exact Nat.le_refl _
    | with_reducible exact List.prefix_refl _
    | split
    | (rw [State.mk_build]; refine Stays.upd (fun p hp => by cases p <;> first | exact absurd Has.mem hp | rfl) ?_ ?_ ?_ ?_ ?_)

theorem State.translate_stays (a0 : State) (a1 : Nat) (a2 : Nat) (h0 : Stays ps s0 a0) [Has ps .cyclic] [Has ps .regs] : Stays ps s0 (State.translate a0 a1 a2) := by
  unfold State.translate
  repeat' first
    | with_reducible assumption
    | intro _
    | with_reducible apply State.charge_stays
    | (extract_lets +onlyGivenNames v
       first
         | (have hv : Sched := v; clear hv; unfold v; clear v)
         | (refine (fun (hv : Stays ps s0 v) => ?_) ?_; rotate_left; unfold v; rotate_right)
         | skip
       all_goals (try clear_value v))
    | with_reducible exact Burns.refl _
    | with_reducible exact Nat.le_refl _
    | with_reducible exact List.prefix_refl _
    | split
    | (rw [State.mk_build]; refine Stays.upd (fun p hp => by cases p <;> first | exact absurd Has.mem hp | rfl) ?_ ?_ ?_ ?_ ?_)

theorem State.chargePlaced_stays (a0 : State) (a1 : Ctx) (a2 : Nat) (a3 : Nat) (a4 : Bool) (h0 : Stays ps s0 a0) [Has ps .cyclic] [Has ps .acct] [Has ps .regs] : Stays ps s0 (State.chargePlaced a0 a1 a2 a3 a4) := by
  unfold State.chargePlaced
  repeat' first
    | with_reducible assumption
    | with_reducible apply State.acct_stays
    | with_reducible apply State.charge_stays
    | with_reducible apply State.translate_stays
    | with_reducible apply Stays.foldl
    | intro _

theorem State.chargeRef_stays (a0 : State) (a1 : Ctx) (a2 : Nat) (a3 : Nat) (a4 : Bool) (h0 : Stays ps s0 a0) [Has ps .cyclic] [Has ps .acct] [Has ps .regs] : Stays ps s0 (State.chargeRef a0 a1 a2 a3 a4) := by
  unfold State.chargeRef
  repeat' first
    | with_reducible assumption
    | with_reducible apply State.chargePlaced_stays
    | split

theorem State.kvRequests_stays (a0 : State) (a1 : Nat) (a2 : Nat) (h0 : Stays ps s0 a0) [Has ps .fns] [Has ps .inf] [Has ps .tiers] [Has ps .regs] : Stays ps s0 (State.kvRequests a0 a1 a2) := by
  unfold State.kvRequests
  repeat' first
    | with_reducible assumption
    | intro _
    | with_reducible apply State.takePages_stays
    | with_reducible apply State.setSeq_stays
    | (extract_lets +onlyGivenNames v; all_goals (try clear_value v))
    | with_reducible apply Stays.foldl
    | split

theorem State.reloadBlock_stays (a0 : State) (a1 : Nat) (a2 : Nat) (h0 : Stays ps s0 a0) [Has ps .ctxs] [Has ps .mat] [Has ps .mem] : Stays ps s0 (State.reloadBlock a0 a1 a2) := by
  unfold State.reloadBlock
  repeat' first
    | with_reducible assumption
    | intro _
    | with_reducible apply State.setCtx_stays
    | with_reducible apply State.setArray_stays
    | (extract_lets +onlyGivenNames v
       first
         | (refine (fun (hv : Stays ps s0 v) => ?_) ?_; rotate_left; unfold v; rotate_right)
         | skip
       all_goals (try clear_value v))
    | with_reducible apply Mem.wf_copyBlock
    | with_reducible exact Burns.refl _
    | with_reducible exact Nat.le_refl _
    | with_reducible exact List.prefix_refl _
    | split
    | (rw [State.mk_build]; refine Stays.upd (fun p hp => by cases p <;> first | exact absurd Has.mem hp | rfl) ?_ ?_ ?_ ?_ ?_)

theorem State.saveBlock_stays (a0 : State) (a1 : Nat) (h0 : Stays ps s0 a0) [Has ps .ctxs] [Has ps .mat] [Has ps .mem] : Stays ps s0 (State.saveBlock a0 a1) := by
  unfold State.saveBlock
  repeat' first
    | with_reducible assumption
    | intro _
    | with_reducible apply State.updCtx_stays
    | with_reducible apply State.setArray_stays
    | (extract_lets +onlyGivenNames v; all_goals (try clear_value v))
    | with_reducible apply Mem.wf_copyBlock
    | with_reducible exact Burns.refl _
    | with_reducible exact Nat.le_refl _
    | with_reducible exact List.prefix_refl _
    | split
    | (rw [State.mk_build]; refine Stays.upd (fun p hp => by cases p <;> first | exact absurd Has.mem hp | rfl) ?_ ?_ ?_ ?_ ?_)

theorem State.bringBlock_stays (a0 : State) (a1 : Nat) (a2 : Nat) (h0 : Stays ps s0 a0) [Has ps .ctxs] [Has ps .mat] [Has ps .mem] : Stays ps s0 (State.bringBlock a0 a1 a2) := by
  unfold State.bringBlock
  repeat' first
    | with_reducible assumption
    | with_reducible apply State.reloadBlock_stays
    | with_reducible apply State.saveBlock_stays
    | (extract_lets +onlyGivenNames v; all_goals (try clear_value v))
    | split

theorem State.setCluster_stays (a0 : State) (a1 : Nat) (a2 : Cluster) (h0 : Stays ps s0 a0) [Has ps .cyclic] : Stays ps s0 (State.setCluster a0 a1 a2) := by
  unfold State.setCluster
  repeat' first
    | with_reducible assumption
    | intro _
    | (extract_lets +onlyGivenNames v
       first
         | (have hv : Sched := v; clear hv; unfold v; clear v)
         | skip
       all_goals (try clear_value v))
    | with_reducible exact Burns.refl _
    | with_reducible exact Nat.le_refl _
    | with_reducible exact List.prefix_refl _
    | (rw [State.mk_build]; refine Stays.upd (fun p hp => by cases p <;> first | exact absurd Has.mem hp | rfl) ?_ ?_ ?_ ?_ ?_)

theorem State.seat_stays (a0 : State) (a1 : Ctx) (a2 : Nat) (a3 : Option Nat) (a4 : CtxState) (h0 : Stays ps s0 a0) [Has ps .ctxs] [Has ps .mem] : Stays ps s0 (State.seat a0 a1 a2 a3 a4) := by
  unfold State.seat
  repeat' first
    | with_reducible assumption
    | intro _
    | with_reducible apply State.setCtx_stays
    | (extract_lets +onlyGivenNames v
       first
         | (refine (fun (hv : Stays ps s0 v) => ?_) ?_; rotate_left; unfold v; rotate_right)
         | skip
       all_goals (try clear_value v))
    | with_reducible exact Burns.refl _
    | with_reducible exact Nat.le_refl _
    | with_reducible exact List.prefix_refl _
    | with_reducible apply Mem.wf_clear
    | split
    | (rw [State.mk_build]; refine Stays.upd (fun p hp => by cases p <;> first | exact absurd Has.mem hp | rfl) ?_ ?_ ?_ ?_ ?_)

theorem State.work_stays (a0 : State) (a1 : Ctx) (a2 : Nat) (a3 : Nat) (h0 : Stays ps s0 a0) [Has ps .acct] : Stays ps s0 (State.work a0 a1 a2 a3) := by
  unfold State.work
  repeat' first
    | with_reducible assumption
    | with_reducible apply State.acct_stays

theorem State.chmClear_stays (a0 : State) (a1 : Ctx) (a2 : Nat) (h0 : Stays ps s0 a0) [Has ps .chm] [Has ps .regs] [Has ps .mem] : Stays ps s0 (State.chmClear a0 a1 a2) := by
  unfold State.chmClear
  repeat' first
    | with_reducible assumption
    | intro _
    | with_reducible apply State.count64_stays
    | (extract_lets +onlyGivenNames v; all_goals (try clear_value v))
    | with_reducible apply Mem.wf_foldl
    | with_reducible exact Burns.refl _
    | with_reducible exact Nat.le_refl _
    | with_reducible exact List.prefix_refl _
    | with_reducible apply Mem.wf_clear
    | split
    | (rw [State.mk_build]; refine Stays.upd (fun p hp => by cases p <;> first | exact absurd Has.mem hp | rfl) ?_ ?_ ?_ ?_ ?_)

theorem State.fetch_stays (a0 : State) (a1 : Ctx) (a2 : List (Nat × Nat)) (h0 : Stays ps s0 a0) [Has ps .lists] [Has ps .cyclic] [Has ps .units] [Has ps .fns] [Has ps .ports] [Has ps .acct] [Has ps .radio] [Has ps .front] [Has ps .tiers] [Has ps .fab] [Has ps .rpl] [Has ps .health] [Has ps .start] [Has ps .regs] [Has ps .out] : Stays ps s0 (State.fetch a0 a1 a2).2.2 := by
  unfold State.fetch
  repeat' first
    | with_reducible assumption
    | intro _
    | with_reducible apply State.readSpans_stays
    | with_reducible apply State.chargeRef_stays
    | (extract_lets +onlyGivenNames v
       first
         | (refine (fun (hv : Stays ps s0 v.2) => ?_) ?_; rotate_left; unfold v; rotate_right)
         | skip
       all_goals (try clear_value v))
    | with_reducible apply Stays.foldl
    | split

theorem State.createCtx_stays (a0 : State) (a1 : Nat) (a2 : Nat) (a3 : Option Nat) (a4 : Option Nat) (a5 : Nat) (a6 : Option Nat) (h0 : Stays ps s0 a0) [Has ps .ctxs] [Has ps .fns] [Has ps .tiers] [Has ps .regs] [Has ps .mem] : Stays ps s0 (State.createCtx a0 a1 a2 a3 a4 a5 a6).2.2 := by
  unfold State.createCtx
  repeat' first
    | with_reducible assumption
    | intro _
    | with_reducible apply State.count_stays
    | with_reducible apply State.chargeUnits_stays
    | with_reducible apply State.refresh_stays
    | with_reducible apply State.seat_stays
    | with_reducible apply State.setCtx_stays
    | (extract_lets +onlyGivenNames v
       first
         | (have hv : (_ → _) := v; clear hv; unfold v; clear v)
         | (refine (fun (hv : Stays ps s0 v) => ?_) ?_; rotate_left; unfold v; rotate_right)
         | skip
       all_goals (try clear_value v))
    | with_reducible exact Burns.refl _
    | with_reducible exact Nat.le_refl _
    | with_reducible exact List.prefix_refl _
    | with_reducible apply Mem.wf_clear
    | split
    | (rw [State.mk_build]; refine Stays.upd (fun p hp => by cases p <;> first | exact absurd Has.mem hp | rfl) ?_ ?_ ?_ ?_ ?_)

theorem State.cycEvt_stays (a0 : State) (a1 : Nat) (a2 : Nat) (h0 : Stays ps s0 a0) [Has ps .fns] [Has ps .regs] : Stays ps s0 (State.cycEvt a0 a1 a2) := by
  unfold State.cycEvt
  repeat' first
    | with_reducible assumption
    | with_reducible apply State.event_stays

theorem State.deferGo_stays (a0 : State) (a1 : Nat) (a2 : Nat) (h0 : Stays ps s0 a0) [Has ps .fns] [Has ps .tiers] [Has ps .regs] [Has ps .mem] : Stays ps s0 (State.deferGo a0 a1 a2) := by
  induction a2 generalizing a0 a1 with
  | zero =>
    unfold State.deferGo
    repeat' first
      | with_reducible assumption
  | succ n ih =>
    unfold State.deferGo
    repeat' first
      | with_reducible assumption
      | intro _
      | with_reducible apply ih
      | with_reducible apply State.raise_stays
      | with_reducible apply State.memEvt_stays
      | with_reducible apply State.memLog_stays
      | with_reducible apply State.actOn_stays
      | (extract_lets +onlyGivenNames v; all_goals (try clear_value v))
      | with_reducible exact Burns.refl _
      | with_reducible exact Nat.le_refl _
      | with_reducible exact List.prefix_refl _
      | split
      | (rw [State.mk_build]; refine Stays.upd (fun p hp => by cases p <;> first | exact absurd Has.mem hp | rfl) ?_ ?_ ?_ ?_ ?_)

theorem State.deferEval_stays (a0 : State) (a1 : Nat) (h0 : Stays ps s0 a0) [Has ps .fns] [Has ps .tiers] [Has ps .regs] [Has ps .mem] : Stays ps s0 (State.deferEval a0 a1) := by
  unfold State.deferEval
  repeat' first
    | with_reducible assumption
    | with_reducible apply State.deferGo_stays

theorem State.deferSwap_stays (a0 : State) (a1 : Nat) (a2 : Swap) (h0 : Stays ps s0 a0) [Has ps .cyclic] [Has ps .fns] [Has ps .regs] : Stays ps s0 (State.deferSwap a0 a1 a2) := by
  unfold State.deferSwap
  repeat' first
    | with_reducible assumption
    | with_reducible apply State.setCluster_stays
    | with_reducible apply State.cycEvt_stays
    | (extract_lets +onlyGivenNames v
       first
         | (refine (fun (hv : Stays ps s0 v) => ?_) ?_; rotate_left; unfold v; rotate_right)
         | skip
       all_goals (try clear_value v))
    | split

theorem State.directive_stays (a0 : State) (a1 : Nat) (a2 : Nat) (a3 : Nat) (a4 : Nat) (a5 : Nat) (a6 : Bool) (a7 : Nat) (a8 : Nat) (a9 : Nat) (h0 : Stays ps s0 a0) [Has ps .fns] [Has ps .tiers] [Has ps .regs] [Has ps .mem] : Stays ps s0 (State.directive a0 a1 a2 a3 a4 a5 a6 a7 a8 a9).2 := by
  unfold State.directive
  repeat' first
    | with_reducible assumption
    | intro _
    | with_reducible apply State.chargeUnits_stays
    | with_reducible apply State.setClaim_stays
    | with_reducible apply State.count_stays
    | with_reducible apply State.actOn_stays
    | (extract_lets +onlyGivenNames v
       first
         | (have hv : (_ → _) := v; clear hv; unfold v; clear v)
         | skip
       all_goals (try clear_value v))
    | with_reducible apply Stays.foldl
    | with_reducible exact Burns.refl _
    | with_reducible exact Nat.le_refl _
    | with_reducible exact List.prefix_refl _
    | split
    | (rw [State.mk_build]; refine Stays.upd (fun p hp => by cases p <;> first | exact absurd Has.mem hp | rfl) ?_ ?_ ?_ ?_ ?_)

theorem State.disqualify_stays (a0 : State) (a1 : Nat) (h0 : Stays ps s0 a0) [Has ps .time] [Has ps .fns] [Has ps .rpl] [Has ps .start] [Has ps .regs] [Has ps .drawn] : Stays ps s0 (State.disqualify a0 a1) := by
  unfold State.disqualify
  repeat' first
    | with_reducible assumption
    | intro _
    | with_reducible apply State.setSrc_stays
    | with_reducible apply State.steer_stays
    | with_reducible apply State.timTo_stays
    | (extract_lets +onlyGivenNames v
       first
         | (refine (fun (hv : Stays ps s0 v) => ?_) ?_; rotate_left; unfold v; rotate_right)
         | skip
       all_goals (try clear_value v))
    | with_reducible exact Burns.refl _
    | with_reducible exact Nat.le_refl _
    | with_reducible exact List.prefix_refl _
    | split
    | (rw [State.mk_build]; refine Stays.upd (fun p hp => by cases p <;> first | exact absurd Has.mem hp | rfl) ?_ ?_ ?_ ?_ ?_)

theorem State.occur_stays (a0 : State) (a1 : Nat) (h0 : Stays ps s0 a0) [Has ps .rpl] : Stays ps s0 (State.occur a0 a1).2 := by
  unfold State.occur
  repeat' first
    | with_reducible assumption
    | intro _
    | (extract_lets +onlyGivenNames v; all_goals (try clear_value v))
    | with_reducible exact Burns.refl _
    | with_reducible exact Nat.le_refl _
    | with_reducible exact List.prefix_refl _
    | (rw [State.mk_build]; refine Stays.upd (fun p hp => by cases p <;> first | exact absurd Has.mem hp | rfl) ?_ ?_ ?_ ?_ ?_)

theorem State.replayReads_stays (a0 : State) (a1 : Nat) (a2 : Nat) (a3 : Nat) (a4 : Nat) (h0 : Stays ps s0 a0) [Has ps .fns] [Has ps .rpl] [Has ps .regs] : Stays ps s0 (State.replayReads a0 a1 a2 a3 a4).2 := by
  induction a4 generalizing a0 a1 a2 a3 with
  | zero =>
    unfold State.replayReads
    repeat' first
      | with_reducible assumption
  | succ n ih =>
    unfold State.replayReads
    repeat' first
      | with_reducible assumption
      | with_reducible apply ih
      | with_reducible apply State.occur_stays
      | with_reducible apply State.diverge_stays
      | (extract_lets +onlyGivenNames v
         first
           | (refine (fun (hv : Stays ps s0 v.2) => ?_) ?_; rotate_left; unfold v; rotate_right)
           | skip
         all_goals (try clear_value v))
      | split

theorem State.logReads_stays (a0 : State) (a1 : Nat) (a2 : Nat) (a3 : Nat) (a4 : List Byte) (h0 : Stays ps s0 a0) [Has ps .fns] [Has ps .rpl] [Has ps .regs] : Stays ps s0 (State.logReads a0 a1 a2 a3 a4) := by
  induction a3 generalizing a0 a1 a2 a4 with
  | zero =>
    unfold State.logReads
    repeat' first
      | with_reducible assumption
  | succ n ih =>
    unfold State.logReads
    repeat' first
      | with_reducible assumption
      | with_reducible apply ih
      | with_reducible apply State.logIn_stays
      | split

theorem State.dmaIn_stays (a0 : State) (a1 : Nat) (a2 : Nat) (a3 : Nat) (a4 : List Byte) (h0 : Stays ps s0 a0) [Has ps .fns] [Has ps .rpl] [Has ps .regs] : Stays ps s0 (State.dmaIn a0 a1 a2 a3 a4).2 := by
  unfold State.dmaIn
  repeat' first
    | with_reducible assumption
    | with_reducible apply State.replayReads_stays
    | with_reducible apply State.logReads_stays
    | split

theorem State.hifEvt_stays (a0 : State) (a1 : Nat) (h0 : Stays ps s0 a0) [Has ps .fns] [Has ps .regs] : Stays ps s0 (State.hifEvt a0 a1) := by
  unfold State.hifEvt
  repeat' first
    | with_reducible assumption
    | with_reducible apply State.event_stays

theorem State.pauseCtx_stays (a0 : State) (a1 : Nat) (h0 : Stays ps s0 a0) [Has ps .ctxs] : Stays ps s0 (State.pauseCtx a0 a1) := by
  unfold State.pauseCtx
  repeat' first
    | with_reducible assumption
    | with_reducible apply State.updCtx_stays

theorem State.resumeModel_stays (a0 : State) (a1 : Nat) (a2 : Nat) (h0 : Stays ps s0 a0) [Has ps .ctxs] [Has ps .inf] : Stays ps s0 (State.resumeModel a0 a1 a2) := by
  unfold State.resumeModel
  repeat' first
    | with_reducible assumption
    | intro _
    | with_reducible apply State.setModel_stays
    | with_reducible apply State.refresh_stays
    | with_reducible apply State.updCtx_stays
    | (extract_lets +onlyGivenNames v; refine (fun (hv : Stays ps s0 v) => ?_) ?_; rotate_left; unfold v; rotate_right; all_goals (try clear_value v))
    | with_reducible apply Stays.foldl
    | split

theorem State.fabEvt_stays (a0 : State) (a1 : Nat) (h0 : Stays ps s0 a0) [Has ps .fns] [Has ps .regs] : Stays ps s0 (State.fabEvt a0 a1) := by
  unfold State.fabEvt
  repeat' first
    | with_reducible assumption
    | with_reducible apply State.event_stays

theorem State.ratcFault_stays (a0 : State) (h0 : Stays ps s0 a0) [Has ps .fns] [Has ps .regs] : Stays ps s0 (State.ratcFault a0) := by
  unfold State.ratcFault
  repeat' first
    | with_reducible assumption
    | with_reducible apply State.fabEvt_stays
    | with_reducible apply State.count_stays

theorem State.respond_stays (a0 : State) (a1 : Nat) (a2 : Txn) (a3 : Nat) (a4 : Nat) (a5 : List Byte) (h0 : Stays ps s0 a0) [Has ps .fns] [Has ps .front] [Has ps .rpl] [Has ps .regs] [Has ps .out] : Stays ps s0 (State.respond a0 a1 a2 a3 a4 a5) := by
  unfold State.respond
  repeat' first
    | with_reducible assumption
    | with_reducible apply State.sendOn_stays
    | with_reducible apply State.output_stays

theorem State.serveReq_stays (a0 : State) (a1 : Nat) (a2 : Nat) (a3 : Txn) (a4 : List Ratc) (h0 : Stays ps s0 a0) [Has ps .lists] [Has ps .ctxs] [Has ps .units] [Has ps .fns] [Has ps .ports] [Has ps .acct] [Has ps .radio] [Has ps .front] [Has ps .tiers] [Has ps .fab] [Has ps .rpl] [Has ps .health] [Has ps .start] [Has ps .regs] [Has ps .mem] [Has ps .out] : Stays ps s0 (State.serveReq a0 a1 a2 a3 a4) := by
  unfold State.serveReq
  repeat' first
    | with_reducible assumption
    | intro _
    | with_reducible apply State.ratcFault_stays
    | with_reducible apply State.respond_stays
    | with_reducible apply State.applyReq_stays
    | (extract_lets +onlyGivenNames v
       first
         | (have hv : (_ → _) := v; clear hv; unfold v; clear v)
         | (refine (fun (hv : Stays ps s0 v) => ?_) ?_; rotate_left; unfold v; rotate_right)
         | skip
       all_goals (try clear_value v))
    | with_reducible exact Burns.refl _
    | with_reducible exact Nat.le_refl _
    | with_reducible exact List.prefix_refl _
    | split
    | (rw [State.mk_build]; refine Stays.upd (fun p hp => by cases p <;> first | exact absurd Has.mem hp | rfl) ?_ ?_ ?_ ?_ ?_)

theorem State.drainIn_stays (a0 : State) (h0 : Stays ps s0 a0) [Has ps .lists] [Has ps .ctxs] [Has ps .units] [Has ps .fns] [Has ps .ports] [Has ps .acct] [Has ps .radio] [Has ps .front] [Has ps .tiers] [Has ps .fab] [Has ps .rpl] [Has ps .health] [Has ps .start] [Has ps .regs] [Has ps .mem] [Has ps .out] : Stays ps s0 (State.drainIn a0) := by
  unfold State.drainIn
  repeat' first
    | with_reducible assumption
    | intro _
    | with_reducible apply State.serveReq_stays
    | (extract_lets +onlyGivenNames v; all_goals (try clear_value v))
    | with_reducible apply Stays.foldl
    | with_reducible exact Burns.refl _
    | with_reducible exact Nat.le_refl _
    | with_reducible exact List.prefix_refl _
    | split
    | (rw [State.mk_build]; refine Stays.upd (fun p hp => by cases p <;> first | exact absurd Has.mem hp | rfl) ?_ ?_ ?_ ?_ ?_)

theorem State.dstStore_stays (a0 : State) (a1 : Ctx) (a2 : Cmd) (a3 : Nat) (a4 : List Byte) (h0 : Stays ps s0 a0) [Has ps .cyclic] [Has ps .acct] [Has ps .tiers] [Has ps .regs] [Has ps .mem] : Stays ps s0 (State.dstStore a0 a1 a2 a3 a4) := by
  unfold State.dstStore
  repeat' first
    | with_reducible assumption
    | with_reducible apply State.outStore_stays
    | with_reducible apply State.wrSpans_stays
    | with_reducible apply State.chargePlaced_stays
    | split

theorem State.settleUnit_stays (a0 : State) (a1 : Nat) (h0 : Stays ps s0 a0) [Has ps .units] : Stays ps s0 (State.settleUnit a0 a1) := by
  unfold State.settleUnit
  repeat' first
    | with_reducible assumption
    | with_reducible apply State.setUnit_stays
    | (extract_lets +onlyGivenNames v
       first
         | (have hv : (_ → _) := v; clear hv; unfold v; clear v)
         | skip
       all_goals (try clear_value v))
    | split

theorem State.freeUnit_stays (a0 : State) (a1 : Nat) (h0 : Stays ps s0 a0) [Has ps .lists] [Has ps .ctxs] [Has ps .units] [Has ps .mat] [Has ps .chm] [Has ps .fab] [Has ps .health] : Stays ps s0 (State.freeUnit a0 a1) := by
  unfold State.freeUnit
  repeat' first
    | with_reducible assumption
    | intro _
    | with_reducible apply State.dropCmpsOf_stays
    | with_reducible apply State.dropUnitWork_stays
    | with_reducible apply State.setRun_stays
    | with_reducible apply State.refresh_stays
    | with_reducible apply State.settleUnit_stays
    | (extract_lets +onlyGivenNames v
       first
         | (have hv : Sched := v; clear hv; unfold v; clear v)
         | skip
       all_goals (try clear_value v))
    | with_reducible exact Burns.refl _
    | with_reducible exact Nat.le_refl _
    | with_reducible exact List.prefix_refl _
    | split
    | (rw [State.mk_build]; refine Stays.upd (fun p hp => by cases p <;> first | exact absurd Has.mem hp | rfl) ?_ ?_ ?_ ?_ ?_)

theorem State.endList_stays (a0 : State) (a1 : Nat) (h0 : Stays ps s0 a0) [Has ps .lists] [Has ps .ctxs] [Has ps .units] [Has ps .fns] [Has ps .mat] [Has ps .chm] [Has ps .fab] [Has ps .health] [Has ps .regs] : Stays ps s0 (State.endList a0 a1) := by
  unfold State.endList
  repeat' first
    | with_reducible assumption
    | with_reducible apply State.listRecord_stays
    | with_reducible apply State.freeUnit_stays
    | (extract_lets +onlyGivenNames v; all_goals (try clear_value v))
    | split

theorem State.recBegin_stays (a0 : State) (a1 : Bool) (h0 : Stays ps s0 a0) [Has ps .rpl] : Stays ps s0 (State.recBegin a0 a1) := by
  unfold State.recBegin
  repeat' first
    | with_reducible assumption
    | intro _
    | with_reducible apply State.addRec_stays
    | (extract_lets +onlyGivenNames v; all_goals (try clear_value v))
    | with_reducible exact Burns.refl _
    | with_reducible exact Nat.le_refl _
    | with_reducible exact List.prefix_refl _
    | (rw [State.mk_build]; refine Stays.upd (fun p hp => by cases p <;> first | exact absurd Has.mem hp | rfl) ?_ ?_ ?_ ?_ ?_)

theorem State.expelNow_stays (a0 : State) (a1 : Nat) (a2 : Nat) (a3 : Nat) (h0 : Stays ps s0 a0) [Has ps .fns] [Has ps .health] [Has ps .start] [Has ps .regs] : Stays ps s0 (State.expelNow a0 a1 a2 a3) := by
  unfold State.expelNow
  repeat' first
    | with_reducible assumption
    | intro _
    | with_reducible apply State.setExpel_stays
    | (extract_lets +onlyGivenNames v
       first
         | (refine (fun (hv : Stays ps s0 v) => ?_) ?_; rotate_left; unfold v; rotate_right)
         | skip
       all_goals (try clear_value v))
    | with_reducible exact Burns.refl _
    | with_reducible exact Nat.le_refl _
    | with_reducible exact List.prefix_refl _
    | (rw [State.mk_build]; refine Stays.upd (fun p hp => by cases p <;> first | exact absurd Has.mem hp | rfl) ?_ ?_ ?_ ?_ ?_)

theorem State.quarSettled_stays (a0 : State) (a1 : State) (a2 : Nat) (h0 : Stays ps s0 a0) (h1 : Stays ps s0 a1) [Has ps .lists] [Has ps .units] [Has ps .fns] [Has ps .ports] [Has ps .radio] [Has ps .front] [Has ps .fab] [Has ps .rpl] [Has ps .health] [Has ps .start] [Has ps .regs] [Has ps .out] : Stays ps s0 (State.quarSettled a0 a1 a2) := by
  unfold State.quarSettled
  repeat' first
    | with_reducible assumption
    | with_reducible apply State.afterQuar_stays
    | split

theorem State.stopGrain_stays (a0 : State) (a1 : Nat) (a2 : Bool) (h0 : Stays ps s0 a0) [Has ps .lists] [Has ps .ctxs] [Has ps .units] [Has ps .fns] [Has ps .mat] [Has ps .chm] [Has ps .fab] [Has ps .health] [Has ps .regs] : Stays ps s0 (State.stopGrain a0 a1 a2) := by
  unfold State.stopGrain
  repeat' first
    | with_reducible assumption
    | with_reducible apply State.cycEvt_stays
    | with_reducible apply State.endList_stays
    | with_reducible apply State.failList_stays
    | with_reducible apply State.setCtx_stays
    | with_reducible apply State.freeUnit_stays
    | (extract_lets +onlyGivenNames v
       first
         | (refine (fun (hv : Stays ps s0 v) => ?_) ?_; rotate_left; unfold v; rotate_right)
         | skip
       all_goals (try clear_value v))
    | split

theorem State.thrEvt_stays (a0 : State) (a1 : Nat) (h0 : Stays ps s0 a0) [Has ps .fns] [Has ps .regs] : Stays ps s0 (State.thrEvt a0 a1) := by
  unfold State.thrEvt
  repeat' first
    | with_reducible assumption
    | with_reducible apply State.event_stays

theorem State.muteCell_stays (a0 : State) (a1 : Nat) (a2 : Bool) (h0 : Stays ps s0 a0) [Has ps .radio] : Stays ps s0 (State.muteCell a0 a1 a2) := by
  unfold State.muteCell
  repeat' first
    | with_reducible assumption
    | with_reducible apply State.setCell_stays

theorem State.fence_stays (a0 : State) (h0 : Stays ps s0 a0) [Has ps .fns] [Has ps .inf] [Has ps .radio] [Has ps .health] [Has ps .start] [Has ps .regs] : Stays ps s0 (State.fence a0) := by
  unfold State.fence
  repeat' first
    | with_reducible assumption
    | intro _
    | with_reducible apply State.muteCell_stays
    | with_reducible apply State.redev_stays
    | with_reducible apply State.hltEvt_stays
    | with_reducible apply State.healthLog_stays
    | (extract_lets +onlyGivenNames v
       first
         | (refine (fun (hv : Stays ps s0 v) => ?_) ?_; rotate_left; unfold v; rotate_right)
         | skip
       all_goals (try clear_value v))
    | with_reducible apply Stays.foldl
    | with_reducible exact Burns.refl _
    | with_reducible exact Nat.le_refl _
    | with_reducible exact List.prefix_refl _
    | split
    | (rw [State.mk_build]; refine Stays.upd (fun p hp => by cases p <;> first | exact absurd Has.mem hp | rfl) ?_ ?_ ?_ ?_ ?_)

theorem State.forceExpel_stays (a0 : State) (a1 : Nat) (h0 : Stays ps s0 a0) [Has ps .fns] [Has ps .front] [Has ps .fab] [Has ps .rpl] [Has ps .health] [Has ps .regs] [Has ps .out] : Stays ps s0 (State.forceExpel a0 a1) := by
  unfold State.forceExpel
  repeat' first
    | with_reducible assumption
    | intro _
    | with_reducible apply State.mail_stays
    | (extract_lets +onlyGivenNames v
       first
         | (refine (fun (hv : Stays ps s0 v) => ?_) ?_; rotate_left; unfold v; rotate_right)
         | skip
       all_goals (try clear_value v))
    | with_reducible exact Burns.refl _
    | with_reducible exact Nat.le_refl _
    | with_reducible exact List.prefix_refl _
    | split
    | (rw [State.mk_build]; refine Stays.upd (fun p hp => by cases p <;> first | exact absurd Has.mem hp | rfl) ?_ ?_ ?_ ?_ ?_)

theorem State.giveFrames_stays (a0 : State) (a1 : Nat) (a2 : Nat) (a3 : Nat) (a4 : Nat) (h0 : Stays ps s0 a0) [Has ps .tiers] : Stays ps s0 (State.giveFrames a0 a1 a2 a3 a4) := by
  unfold State.giveFrames
  repeat' first
    | with_reducible assumption
    | intro _
    | (extract_lets +onlyGivenNames v; all_goals (try clear_value v))
    | with_reducible exact Burns.refl _
    | with_reducible exact Nat.le_refl _
    | with_reducible exact List.prefix_refl _
    | (rw [State.mk_build]; refine Stays.upd (fun p hp => by cases p <;> first | exact absurd Has.mem hp | rfl) ?_ ?_ ?_ ?_ ?_)

theorem State.holdPaths_stays (a0 : State) (h0 : Stays ps s0 a0) [Has ps .fab] : Stays ps s0 (State.holdPaths a0) := by
  unfold State.holdPaths
  repeat' first
    | with_reducible assumption
    | intro _
    | (extract_lets +onlyGivenNames v; all_goals (try clear_value v))
    | with_reducible exact Burns.refl _
    | with_reducible exact Nat.le_refl _
    | with_reducible exact List.prefix_refl _
    | (rw [State.mk_build]; refine Stays.upd (fun p hp => by cases p <;> first | exact absurd Has.mem hp | rfl) ?_ ?_ ?_ ?_ ?_)

theorem State.setRegion_stays (a0 : State) (a1 : Nat) (a2 : Region) (h0 : Stays ps s0 a0) [Has ps .cyclic] : Stays ps s0 (State.setRegion a0 a1 a2) := by
  unfold State.setRegion
  repeat' first
    | with_reducible assumption
    | intro _
    | (extract_lets +onlyGivenNames v
       first
         | (have hv : Sched := v; clear hv; unfold v; clear v)
         | skip
       all_goals (try clear_value v))
    | with_reducible exact Burns.refl _
    | with_reducible exact Nat.le_refl _
    | with_reducible exact List.prefix_refl _
    | (rw [State.mk_build]; refine Stays.upd (fun p hp => by cases p <;> first | exact absurd Has.mem hp | rfl) ?_ ?_ ?_ ?_ ?_)

theorem State.stewardAnswer_stays (a0 : State) (a1 : Nat) (a2 : Nat) (h0 : Stays ps s0 a0) [Has ps .fns] [Has ps .inf] [Has ps .health] [Has ps .regs] : Stays ps s0 (State.stewardAnswer a0 a1 a2) := by
  unfold State.stewardAnswer
  repeat' first
    | with_reducible assumption
    | with_reducible apply State.wardLost_stays
    | with_reducible apply State.setPeer_stays
    | split

theorem State.nack_stays (a0 : State) (a1 : Nat) (a2 : Txn) (a3 : Nat) (h0 : Stays ps s0 a0) [Has ps .fns] [Has ps .front] [Has ps .regs] [Has ps .out] : Stays ps s0 (State.nack a0 a1 a2 a3) := by
  unfold State.nack
  repeat' first
    | with_reducible assumption
    | with_reducible apply State.sendOn_stays
    | with_reducible apply State.fabEvt_stays
    | with_reducible apply State.count_stays

theorem State.mailIn_stays (a0 : State) (a1 : Nat) (a2 : List Byte) (h0 : Stays ps s0 a0) [Has ps .fns] [Has ps .front] [Has ps .fab] [Has ps .rpl] [Has ps .health] [Has ps .start] [Has ps .regs] [Has ps .out] : Stays ps s0 (State.mailIn a0 a1 a2) := by
  unfold State.mailIn
  repeat' first
    | with_reducible assumption
    | intro _
    | with_reducible apply State.beatFrom_stays
    | with_reducible apply State.expelNow_stays
    | with_reducible apply State.healthLog_stays
    | with_reducible apply State.forceExpel_stays
    | (extract_lets +onlyGivenNames v; all_goals (try clear_value v))
    | with_reducible exact Burns.refl _
    | with_reducible exact Nat.le_refl _
    | with_reducible exact List.prefix_refl _
    | split
    | (rw [State.mk_build]; refine Stays.upd (fun p hp => by cases p <;> first | exact absurd Has.mem hp | rfl) ?_ ?_ ?_ ?_ ?_)

theorem State.inbound_stays (a0 : State) (a1 : Nat) (a2 : Txn) (h0 : Stays ps s0 a0) [Has ps .lists] [Has ps .ctxs] [Has ps .units] [Has ps .fns] [Has ps .ports] [Has ps .acct] [Has ps .radio] [Has ps .front] [Has ps .tiers] [Has ps .fab] [Has ps .rpl] [Has ps .health] [Has ps .start] [Has ps .regs] [Has ps .mem] [Has ps .out] : Stays ps s0 (State.inbound a0 a1 a2) := by
  unfold State.inbound
  repeat' first
    | with_reducible assumption
    | intro _
    | with_reducible apply State.respond_stays
    | with_reducible apply State.fabEvt_stays
    | with_reducible apply State.count_stays
    | with_reducible apply State.nack_stays
    | with_reducible apply State.logIn_stays
    | with_reducible apply State.serveReq_stays
    | (extract_lets +onlyGivenNames v
       first
         | (have hv : (_ → _) := v; clear hv; unfold v; clear v)
         | (refine (fun (hv : Stays ps s0 v) => ?_) ?_; rotate_left; unfold v; rotate_right)
         | (refine (fun (hv : Stays ps s0 v.2) => ?_) ?_; rotate_left; unfold v; rotate_right)
         | skip
       all_goals (try clear_value v))
    | with_reducible exact Burns.refl _
    | with_reducible exact Nat.le_refl _
    | with_reducible exact List.prefix_refl _
    | split
    | (rw [State.mk_build]; refine Stays.upd (fun p hp => by cases p <;> first | exact absurd Has.mem hp | rfl) ?_ ?_ ?_ ?_ ?_)

theorem State.reevaluate_stays (a0 : State) (h0 : Stays ps s0 a0) [Has ps .lists] [Has ps .regs] : Stays ps s0 (State.reevaluate a0) := by
  unfold State.reevaluate
  repeat' first
    | with_reducible assumption
    | intro _
    | with_reducible apply State.count_stays
    | (extract_lets +onlyGivenNames v
       first
         | (have hv : Sched := v; clear hv; unfold v; clear v)
         | skip
       all_goals (try clear_value v))
    | with_reducible exact Burns.refl _
    | with_reducible exact Nat.le_refl _
    | with_reducible exact List.prefix_refl _
    | (rw [State.mk_build]; refine Stays.upd (fun p hp => by cases p <;> first | exact absurd Has.mem hp | rfl) ?_ ?_ ?_ ?_ ?_)

theorem State.spillRegion_stays (a0 : State) (a1 : Nat) (h0 : Stays ps s0 a0) [Has ps .cyclic] [Has ps .mat] [Has ps .mem] : Stays ps s0 (State.spillRegion a0 a1) := by
  unfold State.spillRegion
  repeat' first
    | with_reducible assumption
    | intro _
    | with_reducible apply State.setArray_stays
    | with_reducible apply State.setRegion_stays
    | (extract_lets +onlyGivenNames v; all_goals (try clear_value v))
    | with_reducible apply Stays.foldl
    | with_reducible exact Burns.refl _
    | with_reducible exact Nat.le_refl _
    | with_reducible exact List.prefix_refl _
    | with_reducible apply Mem.wf_copy
    | (rw [State.mk_build]; refine Stays.upd (fun p hp => by cases p <;> first | exact absurd Has.mem hp | rfl) ?_ ?_ ?_ ?_ ?_)

theorem State.restoreRegion_stays (a0 : State) (a1 : Nat) (h0 : Stays ps s0 a0) [Has ps .cyclic] [Has ps .mat] [Has ps .mem] : Stays ps s0 (State.restoreRegion a0 a1) := by
  unfold State.restoreRegion
  repeat' first
    | with_reducible assumption
    | intro _
    | with_reducible apply State.setArray_stays
    | with_reducible apply State.setRegion_stays
    | (extract_lets +onlyGivenNames v; all_goals (try clear_value v))
    | with_reducible apply Stays.foldl
    | with_reducible exact Burns.refl _
    | with_reducible exact Nat.le_refl _
    | with_reducible exact List.prefix_refl _
    | with_reducible apply Mem.wf_copy
    | (rw [State.mk_build]; refine Stays.upd (fun p hp => by cases p <;> first | exact absurd Has.mem hp | rfl) ?_ ?_ ?_ ?_ ?_)

theorem State.unfence_stays (a0 : State) (h0 : Stays ps s0 a0) [Has ps .ctxs] [Has ps .fns] [Has ps .inf] [Has ps .radio] [Has ps .health] [Has ps .start] [Has ps .regs] : Stays ps s0 (State.unfence a0) := by
  unfold State.unfence
  repeat' first
    | with_reducible assumption
    | intro _
    | with_reducible apply State.muteCell_stays
    | with_reducible apply State.redev_stays
    | with_reducible apply State.resumeModel_stays
    | (extract_lets +onlyGivenNames v; all_goals (try clear_value v))
    | with_reducible apply Stays.foldl
    | with_reducible exact Burns.refl _
    | with_reducible exact Nat.le_refl _
    | with_reducible exact List.prefix_refl _
    | (rw [State.mk_build]; refine Stays.upd (fun p hp => by cases p <;> first | exact absurd Has.mem hp | rfl) ?_ ?_ ?_ ?_ ?_)

theorem State.noteLate_stays (a0 : State) (a1 : Nat) (a2 : Nat) (h0 : Stays ps s0 a0) [Has ps .units] : Stays ps s0 (State.noteLate a0 a1 a2) := by
  unfold State.noteLate
  repeat' first
    | with_reducible assumption
    | with_reducible apply State.setRun_stays
    | split

theorem State.startList_stays (a0 : State) (a1 : Ctx) (a2 : ListRec) (a3 : Nat) (a4 : Nat) (h0 : Stays ps s0 a0) [Has ps .ctxs] [Has ps .units] [Has ps .chm] [Has ps .regs] [Has ps .mem] : Stays ps s0 (State.startList a0 a1 a2 a3 a4) := by
  unfold State.startList
  repeat' first
    | with_reducible assumption
    | with_reducible apply State.setCtx_stays
    | with_reducible apply State.chmClear_stays
    | with_reducible apply State.refresh_stays
    | with_reducible apply State.setRun_stays
    | (extract_lets +onlyGivenNames v; all_goals (try clear_value v))
    | split

theorem State.movePoison_stays (a0 : State) (a1 : Nat) (a2 : Nat) (a3 : Nat) (h0 : Stays ps s0 a0) [Has ps .tiers] : Stays ps s0 (State.movePoison a0 a1 a2 a3) := by
  unfold State.movePoison
  repeat' first
    | with_reducible assumption
    | intro _
    | (extract_lets +onlyGivenNames v; all_goals (try clear_value v))
    | with_reducible exact Burns.refl _
    | with_reducible exact Nat.le_refl _
    | with_reducible exact List.prefix_refl _
    | (rw [State.mk_build]; refine Stays.upd (fun p hp => by cases p <;> first | exact absurd Has.mem hp | rfl) ?_ ?_ ?_ ?_ ?_)

theorem State.pauseSeen_stays (a0 : State) (a1 : Ctx) (h0 : Stays ps s0 a0) [Has ps .fns] [Has ps .regs] : Stays ps s0 (State.pauseSeen a0 a1) := by
  unfold State.pauseSeen
  repeat' first
    | with_reducible assumption
    | with_reducible apply State.rplEvt_stays
    | with_reducible apply State.setReg_stays
    | split

theorem State.poisonRead_stays (a0 : State) (a1 : Nat) (h0 : Stays ps s0 a0) [Has ps .fns] [Has ps .tiers] [Has ps .regs] : Stays ps s0 (State.poisonRead a0 a1) := by
  unfold State.poisonRead
  repeat' first
    | with_reducible assumption
    | with_reducible apply State.memEvt_stays
    | with_reducible apply State.memLog_stays

theorem State.pushFlit_stays (a0 : State) (a1 : Nat) (h0 : Stays ps s0 a0) [Has ps .fab] [Has ps .regs] : Stays ps s0 (State.pushFlit a0 a1) := by
  unfold State.pushFlit
  repeat' first
    | with_reducible assumption
    | with_reducible apply State.count64_stays
    | with_reducible apply State.setPort_stays

theorem State.sensed_stays (a0 : State) (a1 : List Int) (h0 : Stays ps s0 a0) [Has ps .power] : Stays ps s0 (State.sensed a0 a1) := by
  unfold State.sensed
  repeat' first
    | with_reducible assumption
    | intro _
    | (extract_lets +onlyGivenNames v; all_goals (try clear_value v))
    | with_reducible exact Burns.refl _
    | with_reducible exact Nat.le_refl _
    | with_reducible exact List.prefix_refl _
    | (rw [State.mk_build]; refine Stays.upd (fun p hp => by cases p <;> first | exact absurd Has.mem hp | rfl) ?_ ?_ ?_ ?_ ?_)

theorem State.submitDone_stays (a0 : State) (a1 : Nat) (a2 : Nat) (a3 : Nat) (a4 : Nat) (a5 : Nat) (a6 : BitVec 128) (h0 : Stays ps s0 a0) [Has ps .fns] [Has ps .regs] : Stays ps s0 (State.submitDone a0 a1 a2 a3 a4 a5 a6) := by
  unfold State.submitDone
  repeat' first
    | with_reducible assumption
    | with_reducible apply State.post_stays

theorem State.swapIn_stays (a0 : State) (a1 : Nat) (h0 : Stays ps s0 a0) [Has ps .ctxs] [Has ps .mat] [Has ps .tiers] [Has ps .regs] [Has ps .mem] : Stays ps s0 (State.swapIn a0 a1) := by
  unfold State.swapIn
  repeat' first
    | with_reducible assumption
    | intro _
    | with_reducible apply State.movePoison_stays
    | with_reducible apply State.updCtx_stays
    | with_reducible apply State.reloadBlock_stays
    | with_reducible apply State.refresh_stays
    | with_reducible apply State.count_stays
    | (extract_lets +onlyGivenNames v; all_goals (try clear_value v))
    | with_reducible apply Stays.foldl
    | with_reducible exact Burns.refl _
    | with_reducible exact Nat.le_refl _
    | with_reducible exact List.prefix_refl _
    | with_reducible apply Mem.wf_copy
    | split
    | (rw [State.mk_build]; refine Stays.upd (fun p hp => by cases p <;> first | exact absurd Has.mem hp | rfl) ?_ ?_ ?_ ?_ ?_)

theorem State.swapOut_stays (a0 : State) (a1 : Nat) (h0 : Stays ps s0 a0) [Has ps .ctxs] [Has ps .fns] [Has ps .mat] [Has ps .tiers] [Has ps .regs] [Has ps .mem] : Stays ps s0 (State.swapOut a0 a1) := by
  unfold State.swapOut
  repeat' first
    | with_reducible assumption
    | intro _
    | with_reducible apply State.movePoison_stays
    | with_reducible apply State.saveBlock_stays
    | with_reducible apply State.updCtx_stays
    | with_reducible apply State.refresh_stays
    | with_reducible apply State.pauseSeen_stays
    | (extract_lets +onlyGivenNames v; all_goals (try clear_value v))
    | with_reducible apply Stays.foldl
    | with_reducible exact Burns.refl _
    | with_reducible exact Nat.le_refl _
    | with_reducible exact List.prefix_refl _
    | with_reducible apply Mem.wf_copy
    | split
    | (rw [State.mk_build]; refine Stays.upd (fun p hp => by cases p <;> first | exact absurd Has.mem hp | rfl) ?_ ?_ ?_ ?_ ?_)

theorem State.tick_stays (a0 : State) (h0 : Stays ps s0 a0) [Has ps .time] [Has ps .rpl] : Stays ps s0 (State.tick a0) := by
  unfold State.tick
  repeat' first
    | with_reducible assumption
    | intro _
    | (extract_lets +onlyGivenNames v; all_goals (try clear_value v))
    | with_reducible exact Burns.refl _
    | with_reducible exact Nat.le_refl _
    | with_reducible exact List.prefix_refl _
    | split
    | (rw [State.mk_build]; refine Stays.upd (fun p hp => by cases p <;> first | exact absurd Has.mem hp | rfl) ?_ ?_ ?_ ?_ ?_)

end Sys2Proof.Machine
end

