-- ==== Sys2Proof/Laws/State.lean ====
section
/-! SUPPORT. What each shared operation leaves as it is, one lemma a field. -/
namespace Sys2Proof.Machine

theorem Has.of {ps : List Part} {p : Part} (h : ps.contains p = true) : Has ps p := ⟨by simpa using h⟩

theorem Only.sched {ps : List Part} {s t : State} (h : Only ps s t) (h1 : Part.lists ∉ ps) (h2 : Part.cyclic ∉ ps) (h3 : Part.ctxs ∉ ps)
    (h4 : Part.units ∉ ps) : t.sched = s.sched := by
  have a := h.same .lists h1
  have b := h.same .cyclic h2
  have c := h.same .ctxs h3
  have d := h.same .units h4
  simp only [Part.same, Prod.mk.injEq] at a b c d
  generalize t.sched = x at *
  generalize s.sched = y at *
  cases x; cases y
  simp_all

theorem Only.host {ps : List Part} {s t : State} (h : Only ps s t) (h1 : Part.fns ∉ ps) (h2 : Part.vfs ∉ ps) (h3 : Part.ports ∉ ps)
    (h4 : Part.acct ∉ ps) : t.host = s.host := by
  have a := h.same .fns h1
  have b := h.same .vfs h2
  have c := h.same .ports h3
  have d := h.same .acct h4
  simp only [Part.same, Prod.mk.injEq] at a b c d
  generalize t.host = x at *
  generalize s.host = y at *
  cases x; cases y
  simp_all

@[simp] theorem State.setReg_time (s : State) (a1 : Nat) (a2 : Nat) : (State.setReg s a1 a2).time = s.time := rfl
@[simp] theorem State.setReg_sched (s : State) (a1 : Nat) (a2 : Nat) : (State.setReg s a1 a2).sched = s.sched := rfl
@[simp] theorem State.setReg_host (s : State) (a1 : Nat) (a2 : Nat) : (State.setReg s a1 a2).host = s.host := rfl
@[simp] theorem State.setReg_mat (s : State) (a1 : Nat) (a2 : Nat) : (State.setReg s a1 a2).mat = s.mat := rfl
@[simp] theorem State.setReg_inf (s : State) (a1 : Nat) (a2 : Nat) : (State.setReg s a1 a2).inf = s.inf := rfl
@[simp] theorem State.setReg_chm (s : State) (a1 : Nat) (a2 : Nat) : (State.setReg s a1 a2).chm = s.chm := rfl
@[simp] theorem State.setReg_radio (s : State) (a1 : Nat) (a2 : Nat) : (State.setReg s a1 a2).radio = s.radio := rfl
@[simp] theorem State.setReg_front (s : State) (a1 : Nat) (a2 : Nat) : (State.setReg s a1 a2).front = s.front := rfl
@[simp] theorem State.setReg_tiers (s : State) (a1 : Nat) (a2 : Nat) : (State.setReg s a1 a2).tiers = s.tiers := rfl
@[simp] theorem State.setReg_fab (s : State) (a1 : Nat) (a2 : Nat) : (State.setReg s a1 a2).fab = s.fab := rfl
@[simp] theorem State.setReg_rpl (s : State) (a1 : Nat) (a2 : Nat) : (State.setReg s a1 a2).rpl = s.rpl := rfl
@[simp] theorem State.setReg_health (s : State) (a1 : Nat) (a2 : Nat) : (State.setReg s a1 a2).health = s.health := rfl
@[simp] theorem State.setReg_start (s : State) (a1 : Nat) (a2 : Nat) : (State.setReg s a1 a2).start = s.start := rfl
@[simp] theorem State.setReg_power (s : State) (a1 : Nat) (a2 : Nat) : (State.setReg s a1 a2).power = s.power := rfl
@[simp] theorem State.setReg_latch (s : State) (a1 : Nat) (a2 : Nat) : (State.setReg s a1 a2).latch = s.latch := rfl
@[simp] theorem State.setReg_mem (s : State) (a1 : Nat) (a2 : Nat) : (State.setReg s a1 a2).mem = s.mem := rfl
@[simp] theorem State.setReg_out (s : State) (a1 : Nat) (a2 : Nat) : (State.setReg s a1 a2).out = s.out := rfl
@[simp] theorem State.setReg_drawn (s : State) (a1 : Nat) (a2 : Nat) : (State.setReg s a1 a2).drawn = s.drawn := rfl
@[simp] theorem State.setReg_pending (s : State) (a1 : Nat) (a2 : Nat) : (State.setReg s a1 a2).pending = s.pending := rfl

@[simp] theorem State.count_time (s : State) (a1 : Nat) (a2 : Nat) : (State.count s a1 a2).time = s.time := rfl
@[simp] theorem State.count_sched (s : State) (a1 : Nat) (a2 : Nat) : (State.count s a1 a2).sched = s.sched := rfl
@[simp] theorem State.count_host (s : State) (a1 : Nat) (a2 : Nat) : (State.count s a1 a2).host = s.host := rfl
@[simp] theorem State.count_mat (s : State) (a1 : Nat) (a2 : Nat) : (State.count s a1 a2).mat = s.mat := rfl
@[simp] theorem State.count_inf (s : State) (a1 : Nat) (a2 : Nat) : (State.count s a1 a2).inf = s.inf := rfl
@[simp] theorem State.count_chm (s : State) (a1 : Nat) (a2 : Nat) : (State.count s a1 a2).chm = s.chm := rfl
@[simp] theorem State.count_radio (s : State) (a1 : Nat) (a2 : Nat) : (State.count s a1 a2).radio = s.radio := rfl
@[simp] theorem State.count_front (s : State) (a1 : Nat) (a2 : Nat) : (State.count s a1 a2).front = s.front := rfl
@[simp] theorem State.count_tiers (s : State) (a1 : Nat) (a2 : Nat) : (State.count s a1 a2).tiers = s.tiers := rfl
@[simp] theorem State.count_fab (s : State) (a1 : Nat) (a2 : Nat) : (State.count s a1 a2).fab = s.fab := rfl
@[simp] theorem State.count_rpl (s : State) (a1 : Nat) (a2 : Nat) : (State.count s a1 a2).rpl = s.rpl := rfl
@[simp] theorem State.count_health (s : State) (a1 : Nat) (a2 : Nat) : (State.count s a1 a2).health = s.health := rfl
@[simp] theorem State.count_start (s : State) (a1 : Nat) (a2 : Nat) : (State.count s a1 a2).start = s.start := rfl
@[simp] theorem State.count_power (s : State) (a1 : Nat) (a2 : Nat) : (State.count s a1 a2).power = s.power := rfl
@[simp] theorem State.count_latch (s : State) (a1 : Nat) (a2 : Nat) : (State.count s a1 a2).latch = s.latch := rfl
@[simp] theorem State.count_mem (s : State) (a1 : Nat) (a2 : Nat) : (State.count s a1 a2).mem = s.mem := rfl
@[simp] theorem State.count_out (s : State) (a1 : Nat) (a2 : Nat) : (State.count s a1 a2).out = s.out := rfl
@[simp] theorem State.count_drawn (s : State) (a1 : Nat) (a2 : Nat) : (State.count s a1 a2).drawn = s.drawn := rfl
@[simp] theorem State.count_pending (s : State) (a1 : Nat) (a2 : Nat) : (State.count s a1 a2).pending = s.pending := rfl

@[simp] theorem State.count64_time (s : State) (a1 : Nat) (a2 : Nat) : (State.count64 s a1 a2).time = s.time := rfl
@[simp] theorem State.count64_sched (s : State) (a1 : Nat) (a2 : Nat) : (State.count64 s a1 a2).sched = s.sched := rfl
@[simp] theorem State.count64_host (s : State) (a1 : Nat) (a2 : Nat) : (State.count64 s a1 a2).host = s.host := rfl
@[simp] theorem State.count64_mat (s : State) (a1 : Nat) (a2 : Nat) : (State.count64 s a1 a2).mat = s.mat := rfl
@[simp] theorem State.count64_inf (s : State) (a1 : Nat) (a2 : Nat) : (State.count64 s a1 a2).inf = s.inf := rfl
@[simp] theorem State.count64_chm (s : State) (a1 : Nat) (a2 : Nat) : (State.count64 s a1 a2).chm = s.chm := rfl
@[simp] theorem State.count64_radio (s : State) (a1 : Nat) (a2 : Nat) : (State.count64 s a1 a2).radio = s.radio := rfl
@[simp] theorem State.count64_front (s : State) (a1 : Nat) (a2 : Nat) : (State.count64 s a1 a2).front = s.front := rfl
@[simp] theorem State.count64_tiers (s : State) (a1 : Nat) (a2 : Nat) : (State.count64 s a1 a2).tiers = s.tiers := rfl
@[simp] theorem State.count64_fab (s : State) (a1 : Nat) (a2 : Nat) : (State.count64 s a1 a2).fab = s.fab := rfl
@[simp] theorem State.count64_rpl (s : State) (a1 : Nat) (a2 : Nat) : (State.count64 s a1 a2).rpl = s.rpl := rfl
@[simp] theorem State.count64_health (s : State) (a1 : Nat) (a2 : Nat) : (State.count64 s a1 a2).health = s.health := rfl
@[simp] theorem State.count64_start (s : State) (a1 : Nat) (a2 : Nat) : (State.count64 s a1 a2).start = s.start := rfl
@[simp] theorem State.count64_power (s : State) (a1 : Nat) (a2 : Nat) : (State.count64 s a1 a2).power = s.power := rfl
@[simp] theorem State.count64_latch (s : State) (a1 : Nat) (a2 : Nat) : (State.count64 s a1 a2).latch = s.latch := rfl
@[simp] theorem State.count64_mem (s : State) (a1 : Nat) (a2 : Nat) : (State.count64 s a1 a2).mem = s.mem := rfl
@[simp] theorem State.count64_out (s : State) (a1 : Nat) (a2 : Nat) : (State.count64 s a1 a2).out = s.out := rfl
@[simp] theorem State.count64_drawn (s : State) (a1 : Nat) (a2 : Nat) : (State.count64 s a1 a2).drawn = s.drawn := rfl
@[simp] theorem State.count64_pending (s : State) (a1 : Nat) (a2 : Nat) : (State.count64 s a1 a2).pending = s.pending := rfl

@[simp] theorem State.flag_time (s : State) (a1 : Nat) (a2 : Nat) : (State.flag s a1 a2).time = s.time := rfl
@[simp] theorem State.flag_sched (s : State) (a1 : Nat) (a2 : Nat) : (State.flag s a1 a2).sched = s.sched := rfl
@[simp] theorem State.flag_host (s : State) (a1 : Nat) (a2 : Nat) : (State.flag s a1 a2).host = s.host := rfl
@[simp] theorem State.flag_mat (s : State) (a1 : Nat) (a2 : Nat) : (State.flag s a1 a2).mat = s.mat := rfl
@[simp] theorem State.flag_inf (s : State) (a1 : Nat) (a2 : Nat) : (State.flag s a1 a2).inf = s.inf := rfl
@[simp] theorem State.flag_chm (s : State) (a1 : Nat) (a2 : Nat) : (State.flag s a1 a2).chm = s.chm := rfl
@[simp] theorem State.flag_radio (s : State) (a1 : Nat) (a2 : Nat) : (State.flag s a1 a2).radio = s.radio := rfl
@[simp] theorem State.flag_front (s : State) (a1 : Nat) (a2 : Nat) : (State.flag s a1 a2).front = s.front := rfl
@[simp] theorem State.flag_tiers (s : State) (a1 : Nat) (a2 : Nat) : (State.flag s a1 a2).tiers = s.tiers := rfl
@[simp] theorem State.flag_fab (s : State) (a1 : Nat) (a2 : Nat) : (State.flag s a1 a2).fab = s.fab := rfl
@[simp] theorem State.flag_rpl (s : State) (a1 : Nat) (a2 : Nat) : (State.flag s a1 a2).rpl = s.rpl := rfl
@[simp] theorem State.flag_health (s : State) (a1 : Nat) (a2 : Nat) : (State.flag s a1 a2).health = s.health := rfl
@[simp] theorem State.flag_start (s : State) (a1 : Nat) (a2 : Nat) : (State.flag s a1 a2).start = s.start := rfl
@[simp] theorem State.flag_power (s : State) (a1 : Nat) (a2 : Nat) : (State.flag s a1 a2).power = s.power := rfl
@[simp] theorem State.flag_latch (s : State) (a1 : Nat) (a2 : Nat) : (State.flag s a1 a2).latch = s.latch := rfl
@[simp] theorem State.flag_mem (s : State) (a1 : Nat) (a2 : Nat) : (State.flag s a1 a2).mem = s.mem := rfl
@[simp] theorem State.flag_out (s : State) (a1 : Nat) (a2 : Nat) : (State.flag s a1 a2).out = s.out := rfl
@[simp] theorem State.flag_drawn (s : State) (a1 : Nat) (a2 : Nat) : (State.flag s a1 a2).drawn = s.drawn := rfl
@[simp] theorem State.flag_pending (s : State) (a1 : Nat) (a2 : Nat) : (State.flag s a1 a2).pending = s.pending := rfl

@[simp] theorem State.setFn_time (s : State) (a1 : Nat) (a2 : Fn) : (State.setFn s a1 a2).time = s.time := rfl
@[simp] theorem State.setFn_sched (s : State) (a1 : Nat) (a2 : Fn) : (State.setFn s a1 a2).sched = s.sched := rfl
@[simp] theorem State.setFn_mat (s : State) (a1 : Nat) (a2 : Fn) : (State.setFn s a1 a2).mat = s.mat := rfl
@[simp] theorem State.setFn_inf (s : State) (a1 : Nat) (a2 : Fn) : (State.setFn s a1 a2).inf = s.inf := rfl
@[simp] theorem State.setFn_chm (s : State) (a1 : Nat) (a2 : Fn) : (State.setFn s a1 a2).chm = s.chm := rfl
@[simp] theorem State.setFn_radio (s : State) (a1 : Nat) (a2 : Fn) : (State.setFn s a1 a2).radio = s.radio := rfl
@[simp] theorem State.setFn_front (s : State) (a1 : Nat) (a2 : Fn) : (State.setFn s a1 a2).front = s.front := rfl
@[simp] theorem State.setFn_tiers (s : State) (a1 : Nat) (a2 : Fn) : (State.setFn s a1 a2).tiers = s.tiers := rfl
@[simp] theorem State.setFn_fab (s : State) (a1 : Nat) (a2 : Fn) : (State.setFn s a1 a2).fab = s.fab := rfl
@[simp] theorem State.setFn_rpl (s : State) (a1 : Nat) (a2 : Fn) : (State.setFn s a1 a2).rpl = s.rpl := rfl
@[simp] theorem State.setFn_health (s : State) (a1 : Nat) (a2 : Fn) : (State.setFn s a1 a2).health = s.health := rfl
@[simp] theorem State.setFn_start (s : State) (a1 : Nat) (a2 : Fn) : (State.setFn s a1 a2).start = s.start := rfl
@[simp] theorem State.setFn_power (s : State) (a1 : Nat) (a2 : Fn) : (State.setFn s a1 a2).power = s.power := rfl
@[simp] theorem State.setFn_regs (s : State) (a1 : Nat) (a2 : Fn) : (State.setFn s a1 a2).regs = s.regs := rfl
@[simp] theorem State.setFn_latch (s : State) (a1 : Nat) (a2 : Fn) : (State.setFn s a1 a2).latch = s.latch := rfl
@[simp] theorem State.setFn_mem (s : State) (a1 : Nat) (a2 : Fn) : (State.setFn s a1 a2).mem = s.mem := rfl
@[simp] theorem State.setFn_out (s : State) (a1 : Nat) (a2 : Fn) : (State.setFn s a1 a2).out = s.out := rfl
@[simp] theorem State.setFn_drawn (s : State) (a1 : Nat) (a2 : Fn) : (State.setFn s a1 a2).drawn = s.drawn := rfl
@[simp] theorem State.setFn_pending (s : State) (a1 : Nat) (a2 : Fn) : (State.setFn s a1 a2).pending = s.pending := rfl

@[simp] theorem State.setQp_time (s : State) (a1 : Nat) (a2 : Nat) (a3 : QPair) : (State.setQp s a1 a2 a3).time = s.time := rfl
@[simp] theorem State.setQp_sched (s : State) (a1 : Nat) (a2 : Nat) (a3 : QPair) : (State.setQp s a1 a2 a3).sched = s.sched := rfl
@[simp] theorem State.setQp_mat (s : State) (a1 : Nat) (a2 : Nat) (a3 : QPair) : (State.setQp s a1 a2 a3).mat = s.mat := rfl
@[simp] theorem State.setQp_inf (s : State) (a1 : Nat) (a2 : Nat) (a3 : QPair) : (State.setQp s a1 a2 a3).inf = s.inf := rfl
@[simp] theorem State.setQp_chm (s : State) (a1 : Nat) (a2 : Nat) (a3 : QPair) : (State.setQp s a1 a2 a3).chm = s.chm := rfl
@[simp] theorem State.setQp_radio (s : State) (a1 : Nat) (a2 : Nat) (a3 : QPair) : (State.setQp s a1 a2 a3).radio = s.radio := rfl
@[simp] theorem State.setQp_front (s : State) (a1 : Nat) (a2 : Nat) (a3 : QPair) : (State.setQp s a1 a2 a3).front = s.front := rfl
@[simp] theorem State.setQp_tiers (s : State) (a1 : Nat) (a2 : Nat) (a3 : QPair) : (State.setQp s a1 a2 a3).tiers = s.tiers := rfl
@[simp] theorem State.setQp_fab (s : State) (a1 : Nat) (a2 : Nat) (a3 : QPair) : (State.setQp s a1 a2 a3).fab = s.fab := rfl
@[simp] theorem State.setQp_rpl (s : State) (a1 : Nat) (a2 : Nat) (a3 : QPair) : (State.setQp s a1 a2 a3).rpl = s.rpl := rfl
@[simp] theorem State.setQp_health (s : State) (a1 : Nat) (a2 : Nat) (a3 : QPair) : (State.setQp s a1 a2 a3).health = s.health := rfl
@[simp] theorem State.setQp_start (s : State) (a1 : Nat) (a2 : Nat) (a3 : QPair) : (State.setQp s a1 a2 a3).start = s.start := rfl
@[simp] theorem State.setQp_power (s : State) (a1 : Nat) (a2 : Nat) (a3 : QPair) : (State.setQp s a1 a2 a3).power = s.power := rfl
@[simp] theorem State.setQp_regs (s : State) (a1 : Nat) (a2 : Nat) (a3 : QPair) : (State.setQp s a1 a2 a3).regs = s.regs := rfl
@[simp] theorem State.setQp_latch (s : State) (a1 : Nat) (a2 : Nat) (a3 : QPair) : (State.setQp s a1 a2 a3).latch = s.latch := rfl
@[simp] theorem State.setQp_mem (s : State) (a1 : Nat) (a2 : Nat) (a3 : QPair) : (State.setQp s a1 a2 a3).mem = s.mem := rfl
@[simp] theorem State.setQp_out (s : State) (a1 : Nat) (a2 : Nat) (a3 : QPair) : (State.setQp s a1 a2 a3).out = s.out := rfl
@[simp] theorem State.setQp_drawn (s : State) (a1 : Nat) (a2 : Nat) (a3 : QPair) : (State.setQp s a1 a2 a3).drawn = s.drawn := rfl
@[simp] theorem State.setQp_pending (s : State) (a1 : Nat) (a2 : Nat) (a3 : QPair) : (State.setQp s a1 a2 a3).pending = s.pending := rfl

@[simp] theorem State.acct_time (s : State) (a1 : Nat) (a2 : Nat) (a3 : Nat) : (State.acct s a1 a2 a3).time = s.time := rfl
@[simp] theorem State.acct_sched (s : State) (a1 : Nat) (a2 : Nat) (a3 : Nat) : (State.acct s a1 a2 a3).sched = s.sched := rfl
@[simp] theorem State.acct_mat (s : State) (a1 : Nat) (a2 : Nat) (a3 : Nat) : (State.acct s a1 a2 a3).mat = s.mat := rfl
@[simp] theorem State.acct_inf (s : State) (a1 : Nat) (a2 : Nat) (a3 : Nat) : (State.acct s a1 a2 a3).inf = s.inf := rfl
@[simp] theorem State.acct_chm (s : State) (a1 : Nat) (a2 : Nat) (a3 : Nat) : (State.acct s a1 a2 a3).chm = s.chm := rfl
@[simp] theorem State.acct_radio (s : State) (a1 : Nat) (a2 : Nat) (a3 : Nat) : (State.acct s a1 a2 a3).radio = s.radio := rfl
@[simp] theorem State.acct_front (s : State) (a1 : Nat) (a2 : Nat) (a3 : Nat) : (State.acct s a1 a2 a3).front = s.front := rfl
@[simp] theorem State.acct_tiers (s : State) (a1 : Nat) (a2 : Nat) (a3 : Nat) : (State.acct s a1 a2 a3).tiers = s.tiers := rfl
@[simp] theorem State.acct_fab (s : State) (a1 : Nat) (a2 : Nat) (a3 : Nat) : (State.acct s a1 a2 a3).fab = s.fab := rfl
@[simp] theorem State.acct_rpl (s : State) (a1 : Nat) (a2 : Nat) (a3 : Nat) : (State.acct s a1 a2 a3).rpl = s.rpl := rfl
@[simp] theorem State.acct_health (s : State) (a1 : Nat) (a2 : Nat) (a3 : Nat) : (State.acct s a1 a2 a3).health = s.health := rfl
@[simp] theorem State.acct_start (s : State) (a1 : Nat) (a2 : Nat) (a3 : Nat) : (State.acct s a1 a2 a3).start = s.start := rfl
@[simp] theorem State.acct_power (s : State) (a1 : Nat) (a2 : Nat) (a3 : Nat) : (State.acct s a1 a2 a3).power = s.power := rfl
@[simp] theorem State.acct_regs (s : State) (a1 : Nat) (a2 : Nat) (a3 : Nat) : (State.acct s a1 a2 a3).regs = s.regs := rfl
@[simp] theorem State.acct_latch (s : State) (a1 : Nat) (a2 : Nat) (a3 : Nat) : (State.acct s a1 a2 a3).latch = s.latch := rfl
@[simp] theorem State.acct_mem (s : State) (a1 : Nat) (a2 : Nat) (a3 : Nat) : (State.acct s a1 a2 a3).mem = s.mem := rfl
@[simp] theorem State.acct_out (s : State) (a1 : Nat) (a2 : Nat) (a3 : Nat) : (State.acct s a1 a2 a3).out = s.out := rfl
@[simp] theorem State.acct_drawn (s : State) (a1 : Nat) (a2 : Nat) (a3 : Nat) : (State.acct s a1 a2 a3).drawn = s.drawn := rfl
@[simp] theorem State.acct_pending (s : State) (a1 : Nat) (a2 : Nat) (a3 : Nat) : (State.acct s a1 a2 a3).pending = s.pending := rfl

@[simp] theorem State.setUnit_time (s : State) (a1 : Nat) (a2 : UnitSt) : (State.setUnit s a1 a2).time = s.time := rfl
@[simp] theorem State.setUnit_host (s : State) (a1 : Nat) (a2 : UnitSt) : (State.setUnit s a1 a2).host = s.host := rfl
@[simp] theorem State.setUnit_mat (s : State) (a1 : Nat) (a2 : UnitSt) : (State.setUnit s a1 a2).mat = s.mat := rfl
@[simp] theorem State.setUnit_inf (s : State) (a1 : Nat) (a2 : UnitSt) : (State.setUnit s a1 a2).inf = s.inf := rfl
@[simp] theorem State.setUnit_chm (s : State) (a1 : Nat) (a2 : UnitSt) : (State.setUnit s a1 a2).chm = s.chm := rfl
@[simp] theorem State.setUnit_radio (s : State) (a1 : Nat) (a2 : UnitSt) : (State.setUnit s a1 a2).radio = s.radio := rfl
@[simp] theorem State.setUnit_front (s : State) (a1 : Nat) (a2 : UnitSt) : (State.setUnit s a1 a2).front = s.front := rfl
@[simp] theorem State.setUnit_tiers (s : State) (a1 : Nat) (a2 : UnitSt) : (State.setUnit s a1 a2).tiers = s.tiers := rfl
@[simp] theorem State.setUnit_fab (s : State) (a1 : Nat) (a2 : UnitSt) : (State.setUnit s a1 a2).fab = s.fab := rfl
@[simp] theorem State.setUnit_rpl (s : State) (a1 : Nat) (a2 : UnitSt) : (State.setUnit s a1 a2).rpl = s.rpl := rfl
@[simp] theorem State.setUnit_health (s : State) (a1 : Nat) (a2 : UnitSt) : (State.setUnit s a1 a2).health = s.health := rfl
@[simp] theorem State.setUnit_start (s : State) (a1 : Nat) (a2 : UnitSt) : (State.setUnit s a1 a2).start = s.start := rfl
@[simp] theorem State.setUnit_power (s : State) (a1 : Nat) (a2 : UnitSt) : (State.setUnit s a1 a2).power = s.power := rfl
@[simp] theorem State.setUnit_regs (s : State) (a1 : Nat) (a2 : UnitSt) : (State.setUnit s a1 a2).regs = s.regs := rfl
@[simp] theorem State.setUnit_latch (s : State) (a1 : Nat) (a2 : UnitSt) : (State.setUnit s a1 a2).latch = s.latch := rfl
@[simp] theorem State.setUnit_mem (s : State) (a1 : Nat) (a2 : UnitSt) : (State.setUnit s a1 a2).mem = s.mem := rfl
@[simp] theorem State.setUnit_out (s : State) (a1 : Nat) (a2 : UnitSt) : (State.setUnit s a1 a2).out = s.out := rfl
@[simp] theorem State.setUnit_drawn (s : State) (a1 : Nat) (a2 : UnitSt) : (State.setUnit s a1 a2).drawn = s.drawn := rfl
@[simp] theorem State.setUnit_pending (s : State) (a1 : Nat) (a2 : UnitSt) : (State.setUnit s a1 a2).pending = s.pending := rfl

@[simp] theorem State.setRun_time (s : State) (a1 : Nat) (a2 : Option Running) : (State.setRun s a1 a2).time = s.time := rfl
@[simp] theorem State.setRun_host (s : State) (a1 : Nat) (a2 : Option Running) : (State.setRun s a1 a2).host = s.host := rfl
@[simp] theorem State.setRun_mat (s : State) (a1 : Nat) (a2 : Option Running) : (State.setRun s a1 a2).mat = s.mat := rfl
@[simp] theorem State.setRun_inf (s : State) (a1 : Nat) (a2 : Option Running) : (State.setRun s a1 a2).inf = s.inf := rfl
@[simp] theorem State.setRun_chm (s : State) (a1 : Nat) (a2 : Option Running) : (State.setRun s a1 a2).chm = s.chm := rfl
@[simp] theorem State.setRun_radio (s : State) (a1 : Nat) (a2 : Option Running) : (State.setRun s a1 a2).radio = s.radio := rfl
@[simp] theorem State.setRun_front (s : State) (a1 : Nat) (a2 : Option Running) : (State.setRun s a1 a2).front = s.front := rfl
@[simp] theorem State.setRun_tiers (s : State) (a1 : Nat) (a2 : Option Running) : (State.setRun s a1 a2).tiers = s.tiers := rfl
@[simp] theorem State.setRun_fab (s : State) (a1 : Nat) (a2 : Option Running) : (State.setRun s a1 a2).fab = s.fab := rfl
@[simp] theorem State.setRun_rpl (s : State) (a1 : Nat) (a2 : Option Running) : (State.setRun s a1 a2).rpl = s.rpl := rfl
@[simp] theorem State.setRun_health (s : State) (a1 : Nat) (a2 : Option Running) : (State.setRun s a1 a2).health = s.health := rfl
@[simp] theorem State.setRun_start (s : State) (a1 : Nat) (a2 : Option Running) : (State.setRun s a1 a2).start = s.start := rfl
@[simp] theorem State.setRun_power (s : State) (a1 : Nat) (a2 : Option Running) : (State.setRun s a1 a2).power = s.power := rfl
@[simp] theorem State.setRun_regs (s : State) (a1 : Nat) (a2 : Option Running) : (State.setRun s a1 a2).regs = s.regs := rfl
@[simp] theorem State.setRun_latch (s : State) (a1 : Nat) (a2 : Option Running) : (State.setRun s a1 a2).latch = s.latch := rfl
@[simp] theorem State.setRun_mem (s : State) (a1 : Nat) (a2 : Option Running) : (State.setRun s a1 a2).mem = s.mem := rfl
@[simp] theorem State.setRun_out (s : State) (a1 : Nat) (a2 : Option Running) : (State.setRun s a1 a2).out = s.out := rfl
@[simp] theorem State.setRun_drawn (s : State) (a1 : Nat) (a2 : Option Running) : (State.setRun s a1 a2).drawn = s.drawn := rfl
@[simp] theorem State.setRun_pending (s : State) (a1 : Nat) (a2 : Option Running) : (State.setRun s a1 a2).pending = s.pending := rfl

theorem State.emit_only (s : State) (a1 : Output) : Only [.out] s (State.emit s a1) := by
  have : Has [.out] .out := Has.of rfl
  exact (State.emit_stays _ _ (Stays.refl _ _)).only
@[simp] theorem State.emit_time (s : State) (a1 : Output) : (State.emit s a1).time = s.time := (State.emit_only _ _).same .time (by decide)
@[simp] theorem State.emit_sched (s : State) (a1 : Output) : (State.emit s a1).sched = s.sched := (State.emit_only _ _).sched (by decide) (by decide) (by decide) (by decide)
@[simp] theorem State.emit_host (s : State) (a1 : Output) : (State.emit s a1).host = s.host := (State.emit_only _ _).host (by decide) (by decide) (by decide) (by decide)
@[simp] theorem State.emit_mat (s : State) (a1 : Output) : (State.emit s a1).mat = s.mat := (State.emit_only _ _).same .mat (by decide)
@[simp] theorem State.emit_inf (s : State) (a1 : Output) : (State.emit s a1).inf = s.inf := (State.emit_only _ _).same .inf (by decide)
@[simp] theorem State.emit_chm (s : State) (a1 : Output) : (State.emit s a1).chm = s.chm := (State.emit_only _ _).same .chm (by decide)
@[simp] theorem State.emit_radio (s : State) (a1 : Output) : (State.emit s a1).radio = s.radio := (State.emit_only _ _).same .radio (by decide)
@[simp] theorem State.emit_front (s : State) (a1 : Output) : (State.emit s a1).front = s.front := (State.emit_only _ _).same .front (by decide)
@[simp] theorem State.emit_tiers (s : State) (a1 : Output) : (State.emit s a1).tiers = s.tiers := (State.emit_only _ _).same .tiers (by decide)
@[simp] theorem State.emit_fab (s : State) (a1 : Output) : (State.emit s a1).fab = s.fab := (State.emit_only _ _).same .fab (by decide)
@[simp] theorem State.emit_rpl (s : State) (a1 : Output) : (State.emit s a1).rpl = s.rpl := (State.emit_only _ _).same .rpl (by decide)
@[simp] theorem State.emit_health (s : State) (a1 : Output) : (State.emit s a1).health = s.health := (State.emit_only _ _).same .health (by decide)
@[simp] theorem State.emit_start (s : State) (a1 : Output) : (State.emit s a1).start = s.start := (State.emit_only _ _).same .start (by decide)
@[simp] theorem State.emit_power (s : State) (a1 : Output) : (State.emit s a1).power = s.power := (State.emit_only _ _).same .power (by decide)
@[simp] theorem State.emit_regs (s : State) (a1 : Output) : (State.emit s a1).regs = s.regs := (State.emit_only _ _).same .regs (by decide)
@[simp] theorem State.emit_latch (s : State) (a1 : Output) : (State.emit s a1).latch = s.latch := (State.emit_only _ _).same .latch (by decide)
@[simp] theorem State.emit_mem (s : State) (a1 : Output) : (State.emit s a1).mem = s.mem := (State.emit_only _ _).same .mem (by decide)
@[simp] theorem State.emit_drawn (s : State) (a1 : Output) : (State.emit s a1).drawn = s.drawn := (State.emit_only _ _).same .drawn (by decide)
@[simp] theorem State.emit_pending (s : State) (a1 : Output) : (State.emit s a1).pending = s.pending := (State.emit_only _ _).same .pending (by decide)

theorem State.post_only (s : State) (a1 : Nat) (a2 : Nat) (a3 : Rec) : Only [.fns, .regs] s (State.post s a1 a2 a3) := by
  have : Has [.fns, .regs] .fns := Has.of rfl
  have : Has [.fns, .regs] .regs := Has.of rfl
  exact (State.post_stays _ _ _ _ (Stays.refl _ _)).only
@[simp] theorem State.post_time (s : State) (a1 : Nat) (a2 : Nat) (a3 : Rec) : (State.post s a1 a2 a3).time = s.time := (State.post_only _ _ _ _).same .time (by decide)
@[simp] theorem State.post_sched (s : State) (a1 : Nat) (a2 : Nat) (a3 : Rec) : (State.post s a1 a2 a3).sched = s.sched := (State.post_only _ _ _ _).sched (by decide) (by decide) (by decide) (by decide)
@[simp] theorem State.post_acct (s : State) (a1 : Nat) (a2 : Nat) (a3 : Rec) : (State.post s a1 a2 a3).host.acct = s.host.acct := (State.post_only _ _ _ _).same .acct (by decide)
@[simp] theorem State.post_ports (s : State) (a1 : Nat) (a2 : Nat) (a3 : Rec) : (State.post s a1 a2 a3).host.ports = s.host.ports := (State.post_only _ _ _ _).same .ports (by decide)
@[simp] theorem State.post_numVfs (s : State) (a1 : Nat) (a2 : Nat) (a3 : Rec) : (State.post s a1 a2 a3).host.numVfs = s.host.numVfs := congrArg Prod.fst ((State.post_only _ _ _ _).same .vfs (by decide))
@[simp] theorem State.post_mat (s : State) (a1 : Nat) (a2 : Nat) (a3 : Rec) : (State.post s a1 a2 a3).mat = s.mat := (State.post_only _ _ _ _).same .mat (by decide)
@[simp] theorem State.post_inf (s : State) (a1 : Nat) (a2 : Nat) (a3 : Rec) : (State.post s a1 a2 a3).inf = s.inf := (State.post_only _ _ _ _).same .inf (by decide)
@[simp] theorem State.post_chm (s : State) (a1 : Nat) (a2 : Nat) (a3 : Rec) : (State.post s a1 a2 a3).chm = s.chm := (State.post_only _ _ _ _).same .chm (by decide)
@[simp] theorem State.post_radio (s : State) (a1 : Nat) (a2 : Nat) (a3 : Rec) : (State.post s a1 a2 a3).radio = s.radio := (State.post_only _ _ _ _).same .radio (by decide)
@[simp] theorem State.post_front (s : State) (a1 : Nat) (a2 : Nat) (a3 : Rec) : (State.post s a1 a2 a3).front = s.front := (State.post_only _ _ _ _).same .front (by decide)
@[simp] theorem State.post_tiers (s : State) (a1 : Nat) (a2 : Nat) (a3 : Rec) : (State.post s a1 a2 a3).tiers = s.tiers := (State.post_only _ _ _ _).same .tiers (by decide)
@[simp] theorem State.post_fab (s : State) (a1 : Nat) (a2 : Nat) (a3 : Rec) : (State.post s a1 a2 a3).fab = s.fab := (State.post_only _ _ _ _).same .fab (by decide)
@[simp] theorem State.post_rpl (s : State) (a1 : Nat) (a2 : Nat) (a3 : Rec) : (State.post s a1 a2 a3).rpl = s.rpl := (State.post_only _ _ _ _).same .rpl (by decide)
@[simp] theorem State.post_health (s : State) (a1 : Nat) (a2 : Nat) (a3 : Rec) : (State.post s a1 a2 a3).health = s.health := (State.post_only _ _ _ _).same .health (by decide)
@[simp] theorem State.post_start (s : State) (a1 : Nat) (a2 : Nat) (a3 : Rec) : (State.post s a1 a2 a3).start = s.start := (State.post_only _ _ _ _).same .start (by decide)
@[simp] theorem State.post_power (s : State) (a1 : Nat) (a2 : Nat) (a3 : Rec) : (State.post s a1 a2 a3).power = s.power := (State.post_only _ _ _ _).same .power (by decide)
@[simp] theorem State.post_latch (s : State) (a1 : Nat) (a2 : Nat) (a3 : Rec) : (State.post s a1 a2 a3).latch = s.latch := (State.post_only _ _ _ _).same .latch (by decide)
@[simp] theorem State.post_mem (s : State) (a1 : Nat) (a2 : Nat) (a3 : Rec) : (State.post s a1 a2 a3).mem = s.mem := (State.post_only _ _ _ _).same .mem (by decide)
@[simp] theorem State.post_out (s : State) (a1 : Nat) (a2 : Nat) (a3 : Rec) : (State.post s a1 a2 a3).out = s.out := (State.post_only _ _ _ _).same .out (by decide)
@[simp] theorem State.post_drawn (s : State) (a1 : Nat) (a2 : Nat) (a3 : Rec) : (State.post s a1 a2 a3).drawn = s.drawn := (State.post_only _ _ _ _).same .drawn (by decide)
@[simp] theorem State.post_pending (s : State) (a1 : Nat) (a2 : Nat) (a3 : Rec) : (State.post s a1 a2 a3).pending = s.pending := (State.post_only _ _ _ _).same .pending (by decide)

theorem State.statusNote_only (s : State) (a1 : Nat) : Only [.fns, .regs] s (State.statusNote s a1) := by
  have : Has [.fns, .regs] .fns := Has.of rfl
  have : Has [.fns, .regs] .regs := Has.of rfl
  exact (State.statusNote_stays _ _ (Stays.refl _ _)).only
@[simp] theorem State.statusNote_time (s : State) (a1 : Nat) : (State.statusNote s a1).time = s.time := (State.statusNote_only _ _).same .time (by decide)
@[simp] theorem State.statusNote_sched (s : State) (a1 : Nat) : (State.statusNote s a1).sched = s.sched := (State.statusNote_only _ _).sched (by decide) (by decide) (by decide) (by decide)
@[simp] theorem State.statusNote_acct (s : State) (a1 : Nat) : (State.statusNote s a1).host.acct = s.host.acct := (State.statusNote_only _ _).same .acct (by decide)
@[simp] theorem State.statusNote_ports (s : State) (a1 : Nat) : (State.statusNote s a1).host.ports = s.host.ports := (State.statusNote_only _ _).same .ports (by decide)
@[simp] theorem State.statusNote_numVfs (s : State) (a1 : Nat) : (State.statusNote s a1).host.numVfs = s.host.numVfs := congrArg Prod.fst ((State.statusNote_only _ _).same .vfs (by decide))
@[simp] theorem State.statusNote_mat (s : State) (a1 : Nat) : (State.statusNote s a1).mat = s.mat := (State.statusNote_only _ _).same .mat (by decide)
@[simp] theorem State.statusNote_inf (s : State) (a1 : Nat) : (State.statusNote s a1).inf = s.inf := (State.statusNote_only _ _).same .inf (by decide)
@[simp] theorem State.statusNote_chm (s : State) (a1 : Nat) : (State.statusNote s a1).chm = s.chm := (State.statusNote_only _ _).same .chm (by decide)
@[simp] theorem State.statusNote_radio (s : State) (a1 : Nat) : (State.statusNote s a1).radio = s.radio := (State.statusNote_only _ _).same .radio (by decide)
@[simp] theorem State.statusNote_front (s : State) (a1 : Nat) : (State.statusNote s a1).front = s.front := (State.statusNote_only _ _).same .front (by decide)
@[simp] theorem State.statusNote_tiers (s : State) (a1 : Nat) : (State.statusNote s a1).tiers = s.tiers := (State.statusNote_only _ _).same .tiers (by decide)
@[simp] theorem State.statusNote_fab (s : State) (a1 : Nat) : (State.statusNote s a1).fab = s.fab := (State.statusNote_only _ _).same .fab (by decide)
@[simp] theorem State.statusNote_rpl (s : State) (a1 : Nat) : (State.statusNote s a1).rpl = s.rpl := (State.statusNote_only _ _).same .rpl (by decide)
@[simp] theorem State.statusNote_health (s : State) (a1 : Nat) : (State.statusNote s a1).health = s.health := (State.statusNote_only _ _).same .health (by decide)
@[simp] theorem State.statusNote_start (s : State) (a1 : Nat) : (State.statusNote s a1).start = s.start := (State.statusNote_only _ _).same .start (by decide)
@[simp] theorem State.statusNote_power (s : State) (a1 : Nat) : (State.statusNote s a1).power = s.power := (State.statusNote_only _ _).same .power (by decide)
@[simp] theorem State.statusNote_latch (s : State) (a1 : Nat) : (State.statusNote s a1).latch = s.latch := (State.statusNote_only _ _).same .latch (by decide)
@[simp] theorem State.statusNote_mem (s : State) (a1 : Nat) : (State.statusNote s a1).mem = s.mem := (State.statusNote_only _ _).same .mem (by decide)
@[simp] theorem State.statusNote_out (s : State) (a1 : Nat) : (State.statusNote s a1).out = s.out := (State.statusNote_only _ _).same .out (by decide)
@[simp] theorem State.statusNote_drawn (s : State) (a1 : Nat) : (State.statusNote s a1).drawn = s.drawn := (State.statusNote_only _ _).same .drawn (by decide)
@[simp] theorem State.statusNote_pending (s : State) (a1 : Nat) : (State.statusNote s a1).pending = s.pending := (State.statusNote_only _ _).same .pending (by decide)

theorem State.raise_only (s : State) (a1 : Nat) (a2 : Nat) : Only [.fns, .regs] s (State.raise s a1 a2) := by
  have : Has [.fns, .regs] .fns := Has.of rfl
  have : Has [.fns, .regs] .regs := Has.of rfl
  exact (State.raise_stays _ _ _ (Stays.refl _ _)).only
@[simp] theorem State.raise_time (s : State) (a1 : Nat) (a2 : Nat) : (State.raise s a1 a2).time = s.time := (State.raise_only _ _ _).same .time (by decide)
@[simp] theorem State.raise_sched (s : State) (a1 : Nat) (a2 : Nat) : (State.raise s a1 a2).sched = s.sched := (State.raise_only _ _ _).sched (by decide) (by decide) (by decide) (by decide)
@[simp] theorem State.raise_acct (s : State) (a1 : Nat) (a2 : Nat) : (State.raise s a1 a2).host.acct = s.host.acct := (State.raise_only _ _ _).same .acct (by decide)
@[simp] theorem State.raise_ports (s : State) (a1 : Nat) (a2 : Nat) : (State.raise s a1 a2).host.ports = s.host.ports := (State.raise_only _ _ _).same .ports (by decide)
@[simp] theorem State.raise_numVfs (s : State) (a1 : Nat) (a2 : Nat) : (State.raise s a1 a2).host.numVfs = s.host.numVfs := congrArg Prod.fst ((State.raise_only _ _ _).same .vfs (by decide))
@[simp] theorem State.raise_mat (s : State) (a1 : Nat) (a2 : Nat) : (State.raise s a1 a2).mat = s.mat := (State.raise_only _ _ _).same .mat (by decide)
@[simp] theorem State.raise_inf (s : State) (a1 : Nat) (a2 : Nat) : (State.raise s a1 a2).inf = s.inf := (State.raise_only _ _ _).same .inf (by decide)
@[simp] theorem State.raise_chm (s : State) (a1 : Nat) (a2 : Nat) : (State.raise s a1 a2).chm = s.chm := (State.raise_only _ _ _).same .chm (by decide)
@[simp] theorem State.raise_radio (s : State) (a1 : Nat) (a2 : Nat) : (State.raise s a1 a2).radio = s.radio := (State.raise_only _ _ _).same .radio (by decide)
@[simp] theorem State.raise_front (s : State) (a1 : Nat) (a2 : Nat) : (State.raise s a1 a2).front = s.front := (State.raise_only _ _ _).same .front (by decide)
@[simp] theorem State.raise_tiers (s : State) (a1 : Nat) (a2 : Nat) : (State.raise s a1 a2).tiers = s.tiers := (State.raise_only _ _ _).same .tiers (by decide)
@[simp] theorem State.raise_fab (s : State) (a1 : Nat) (a2 : Nat) : (State.raise s a1 a2).fab = s.fab := (State.raise_only _ _ _).same .fab (by decide)
@[simp] theorem State.raise_rpl (s : State) (a1 : Nat) (a2 : Nat) : (State.raise s a1 a2).rpl = s.rpl := (State.raise_only _ _ _).same .rpl (by decide)
@[simp] theorem State.raise_health (s : State) (a1 : Nat) (a2 : Nat) : (State.raise s a1 a2).health = s.health := (State.raise_only _ _ _).same .health (by decide)
@[simp] theorem State.raise_start (s : State) (a1 : Nat) (a2 : Nat) : (State.raise s a1 a2).start = s.start := (State.raise_only _ _ _).same .start (by decide)
@[simp] theorem State.raise_power (s : State) (a1 : Nat) (a2 : Nat) : (State.raise s a1 a2).power = s.power := (State.raise_only _ _ _).same .power (by decide)
@[simp] theorem State.raise_latch (s : State) (a1 : Nat) (a2 : Nat) : (State.raise s a1 a2).latch = s.latch := (State.raise_only _ _ _).same .latch (by decide)
@[simp] theorem State.raise_mem (s : State) (a1 : Nat) (a2 : Nat) : (State.raise s a1 a2).mem = s.mem := (State.raise_only _ _ _).same .mem (by decide)
@[simp] theorem State.raise_out (s : State) (a1 : Nat) (a2 : Nat) : (State.raise s a1 a2).out = s.out := (State.raise_only _ _ _).same .out (by decide)
@[simp] theorem State.raise_drawn (s : State) (a1 : Nat) (a2 : Nat) : (State.raise s a1 a2).drawn = s.drawn := (State.raise_only _ _ _).same .drawn (by decide)
@[simp] theorem State.raise_pending (s : State) (a1 : Nat) (a2 : Nat) : (State.raise s a1 a2).pending = s.pending := (State.raise_only _ _ _).same .pending (by decide)

theorem State.raiseAll_only (s : State) (a1 : Nat) : Only [.fns, .regs] s (State.raiseAll s a1) := by
  have : Has [.fns, .regs] .fns := Has.of rfl
  have : Has [.fns, .regs] .regs := Has.of rfl
  exact (State.raiseAll_stays _ _ (Stays.refl _ _)).only
@[simp] theorem State.raiseAll_time (s : State) (a1 : Nat) : (State.raiseAll s a1).time = s.time := (State.raiseAll_only _ _).same .time (by decide)
@[simp] theorem State.raiseAll_sched (s : State) (a1 : Nat) : (State.raiseAll s a1).sched = s.sched := (State.raiseAll_only _ _).sched (by decide) (by decide) (by decide) (by decide)
@[simp] theorem State.raiseAll_acct (s : State) (a1 : Nat) : (State.raiseAll s a1).host.acct = s.host.acct := (State.raiseAll_only _ _).same .acct (by decide)
@[simp] theorem State.raiseAll_ports (s : State) (a1 : Nat) : (State.raiseAll s a1).host.ports = s.host.ports := (State.raiseAll_only _ _).same .ports (by decide)
@[simp] theorem State.raiseAll_numVfs (s : State) (a1 : Nat) : (State.raiseAll s a1).host.numVfs = s.host.numVfs := congrArg Prod.fst ((State.raiseAll_only _ _).same .vfs (by decide))
@[simp] theorem State.raiseAll_mat (s : State) (a1 : Nat) : (State.raiseAll s a1).mat = s.mat := (State.raiseAll_only _ _).same .mat (by decide)
@[simp] theorem State.raiseAll_inf (s : State) (a1 : Nat) : (State.raiseAll s a1).inf = s.inf := (State.raiseAll_only _ _).same .inf (by decide)
@[simp] theorem State.raiseAll_chm (s : State) (a1 : Nat) : (State.raiseAll s a1).chm = s.chm := (State.raiseAll_only _ _).same .chm (by decide)
@[simp] theorem State.raiseAll_radio (s : State) (a1 : Nat) : (State.raiseAll s a1).radio = s.radio := (State.raiseAll_only _ _).same .radio (by decide)
@[simp] theorem State.raiseAll_front (s : State) (a1 : Nat) : (State.raiseAll s a1).front = s.front := (State.raiseAll_only _ _).same .front (by decide)
@[simp] theorem State.raiseAll_tiers (s : State) (a1 : Nat) : (State.raiseAll s a1).tiers = s.tiers := (State.raiseAll_only _ _).same .tiers (by decide)
@[simp] theorem State.raiseAll_fab (s : State) (a1 : Nat) : (State.raiseAll s a1).fab = s.fab := (State.raiseAll_only _ _).same .fab (by decide)
@[simp] theorem State.raiseAll_rpl (s : State) (a1 : Nat) : (State.raiseAll s a1).rpl = s.rpl := (State.raiseAll_only _ _).same .rpl (by decide)
@[simp] theorem State.raiseAll_health (s : State) (a1 : Nat) : (State.raiseAll s a1).health = s.health := (State.raiseAll_only _ _).same .health (by decide)
@[simp] theorem State.raiseAll_start (s : State) (a1 : Nat) : (State.raiseAll s a1).start = s.start := (State.raiseAll_only _ _).same .start (by decide)
@[simp] theorem State.raiseAll_power (s : State) (a1 : Nat) : (State.raiseAll s a1).power = s.power := (State.raiseAll_only _ _).same .power (by decide)
@[simp] theorem State.raiseAll_latch (s : State) (a1 : Nat) : (State.raiseAll s a1).latch = s.latch := (State.raiseAll_only _ _).same .latch (by decide)
@[simp] theorem State.raiseAll_mem (s : State) (a1 : Nat) : (State.raiseAll s a1).mem = s.mem := (State.raiseAll_only _ _).same .mem (by decide)
@[simp] theorem State.raiseAll_out (s : State) (a1 : Nat) : (State.raiseAll s a1).out = s.out := (State.raiseAll_only _ _).same .out (by decide)
@[simp] theorem State.raiseAll_drawn (s : State) (a1 : Nat) : (State.raiseAll s a1).drawn = s.drawn := (State.raiseAll_only _ _).same .drawn (by decide)
@[simp] theorem State.raiseAll_pending (s : State) (a1 : Nat) : (State.raiseAll s a1).pending = s.pending := (State.raiseAll_only _ _).same .pending (by decide)

theorem State.event_only (s : State) (a1 : Nat) (a2 : Nat) (a3 : Nat) (a4 : Nat) : Only [.fns, .regs] s (State.event s a1 a2 a3 a4) := by
  have : Has [.fns, .regs] .fns := Has.of rfl
  have : Has [.fns, .regs] .regs := Has.of rfl
  exact (State.event_stays _ _ _ _ _ (Stays.refl _ _)).only
@[simp] theorem State.event_time (s : State) (a1 : Nat) (a2 : Nat) (a3 : Nat) (a4 : Nat) : (State.event s a1 a2 a3 a4).time = s.time := (State.event_only _ _ _ _ _).same .time (by decide)
@[simp] theorem State.event_sched (s : State) (a1 : Nat) (a2 : Nat) (a3 : Nat) (a4 : Nat) : (State.event s a1 a2 a3 a4).sched = s.sched := (State.event_only _ _ _ _ _).sched (by decide) (by decide) (by decide) (by decide)
@[simp] theorem State.event_acct (s : State) (a1 : Nat) (a2 : Nat) (a3 : Nat) (a4 : Nat) : (State.event s a1 a2 a3 a4).host.acct = s.host.acct := (State.event_only _ _ _ _ _).same .acct (by decide)
@[simp] theorem State.event_ports (s : State) (a1 : Nat) (a2 : Nat) (a3 : Nat) (a4 : Nat) : (State.event s a1 a2 a3 a4).host.ports = s.host.ports := (State.event_only _ _ _ _ _).same .ports (by decide)
@[simp] theorem State.event_numVfs (s : State) (a1 : Nat) (a2 : Nat) (a3 : Nat) (a4 : Nat) : (State.event s a1 a2 a3 a4).host.numVfs = s.host.numVfs := congrArg Prod.fst ((State.event_only _ _ _ _ _).same .vfs (by decide))
@[simp] theorem State.event_mat (s : State) (a1 : Nat) (a2 : Nat) (a3 : Nat) (a4 : Nat) : (State.event s a1 a2 a3 a4).mat = s.mat := (State.event_only _ _ _ _ _).same .mat (by decide)
@[simp] theorem State.event_inf (s : State) (a1 : Nat) (a2 : Nat) (a3 : Nat) (a4 : Nat) : (State.event s a1 a2 a3 a4).inf = s.inf := (State.event_only _ _ _ _ _).same .inf (by decide)
@[simp] theorem State.event_chm (s : State) (a1 : Nat) (a2 : Nat) (a3 : Nat) (a4 : Nat) : (State.event s a1 a2 a3 a4).chm = s.chm := (State.event_only _ _ _ _ _).same .chm (by decide)
@[simp] theorem State.event_radio (s : State) (a1 : Nat) (a2 : Nat) (a3 : Nat) (a4 : Nat) : (State.event s a1 a2 a3 a4).radio = s.radio := (State.event_only _ _ _ _ _).same .radio (by decide)
@[simp] theorem State.event_front (s : State) (a1 : Nat) (a2 : Nat) (a3 : Nat) (a4 : Nat) : (State.event s a1 a2 a3 a4).front = s.front := (State.event_only _ _ _ _ _).same .front (by decide)
@[simp] theorem State.event_tiers (s : State) (a1 : Nat) (a2 : Nat) (a3 : Nat) (a4 : Nat) : (State.event s a1 a2 a3 a4).tiers = s.tiers := (State.event_only _ _ _ _ _).same .tiers (by decide)
@[simp] theorem State.event_fab (s : State) (a1 : Nat) (a2 : Nat) (a3 : Nat) (a4 : Nat) : (State.event s a1 a2 a3 a4).fab = s.fab := (State.event_only _ _ _ _ _).same .fab (by decide)
@[simp] theorem State.event_rpl (s : State) (a1 : Nat) (a2 : Nat) (a3 : Nat) (a4 : Nat) : (State.event s a1 a2 a3 a4).rpl = s.rpl := (State.event_only _ _ _ _ _).same .rpl (by decide)
@[simp] theorem State.event_health (s : State) (a1 : Nat) (a2 : Nat) (a3 : Nat) (a4 : Nat) : (State.event s a1 a2 a3 a4).health = s.health := (State.event_only _ _ _ _ _).same .health (by decide)
@[simp] theorem State.event_start (s : State) (a1 : Nat) (a2 : Nat) (a3 : Nat) (a4 : Nat) : (State.event s a1 a2 a3 a4).start = s.start := (State.event_only _ _ _ _ _).same .start (by decide)
@[simp] theorem State.event_power (s : State) (a1 : Nat) (a2 : Nat) (a3 : Nat) (a4 : Nat) : (State.event s a1 a2 a3 a4).power = s.power := (State.event_only _ _ _ _ _).same .power (by decide)
@[simp] theorem State.event_latch (s : State) (a1 : Nat) (a2 : Nat) (a3 : Nat) (a4 : Nat) : (State.event s a1 a2 a3 a4).latch = s.latch := (State.event_only _ _ _ _ _).same .latch (by decide)
@[simp] theorem State.event_mem (s : State) (a1 : Nat) (a2 : Nat) (a3 : Nat) (a4 : Nat) : (State.event s a1 a2 a3 a4).mem = s.mem := (State.event_only _ _ _ _ _).same .mem (by decide)
@[simp] theorem State.event_out (s : State) (a1 : Nat) (a2 : Nat) (a3 : Nat) (a4 : Nat) : (State.event s a1 a2 a3 a4).out = s.out := (State.event_only _ _ _ _ _).same .out (by decide)
@[simp] theorem State.event_drawn (s : State) (a1 : Nat) (a2 : Nat) (a3 : Nat) (a4 : Nat) : (State.event s a1 a2 a3 a4).drawn = s.drawn := (State.event_only _ _ _ _ _).same .drawn (by decide)
@[simp] theorem State.event_pending (s : State) (a1 : Nat) (a2 : Nat) (a3 : Nat) (a4 : Nat) : (State.event s a1 a2 a3 a4).pending = s.pending := (State.event_only _ _ _ _ _).same .pending (by decide)

theorem State.timEvt_only (s : State) (a1 : Nat) : Only [.fns, .regs] s (State.timEvt s a1) := by
  have : Has [.fns, .regs] .fns := Has.of rfl
  have : Has [.fns, .regs] .regs := Has.of rfl
  exact (State.timEvt_stays _ _ (Stays.refl _ _)).only
@[simp] theorem State.timEvt_time (s : State) (a1 : Nat) : (State.timEvt s a1).time = s.time := (State.timEvt_only _ _).same .time (by decide)
@[simp] theorem State.timEvt_sched (s : State) (a1 : Nat) : (State.timEvt s a1).sched = s.sched := (State.timEvt_only _ _).sched (by decide) (by decide) (by decide) (by decide)
@[simp] theorem State.timEvt_acct (s : State) (a1 : Nat) : (State.timEvt s a1).host.acct = s.host.acct := (State.timEvt_only _ _).same .acct (by decide)
@[simp] theorem State.timEvt_ports (s : State) (a1 : Nat) : (State.timEvt s a1).host.ports = s.host.ports := (State.timEvt_only _ _).same .ports (by decide)
@[simp] theorem State.timEvt_numVfs (s : State) (a1 : Nat) : (State.timEvt s a1).host.numVfs = s.host.numVfs := congrArg Prod.fst ((State.timEvt_only _ _).same .vfs (by decide))
@[simp] theorem State.timEvt_mat (s : State) (a1 : Nat) : (State.timEvt s a1).mat = s.mat := (State.timEvt_only _ _).same .mat (by decide)
@[simp] theorem State.timEvt_inf (s : State) (a1 : Nat) : (State.timEvt s a1).inf = s.inf := (State.timEvt_only _ _).same .inf (by decide)
@[simp] theorem State.timEvt_chm (s : State) (a1 : Nat) : (State.timEvt s a1).chm = s.chm := (State.timEvt_only _ _).same .chm (by decide)
@[simp] theorem State.timEvt_radio (s : State) (a1 : Nat) : (State.timEvt s a1).radio = s.radio := (State.timEvt_only _ _).same .radio (by decide)
@[simp] theorem State.timEvt_front (s : State) (a1 : Nat) : (State.timEvt s a1).front = s.front := (State.timEvt_only _ _).same .front (by decide)
@[simp] theorem State.timEvt_tiers (s : State) (a1 : Nat) : (State.timEvt s a1).tiers = s.tiers := (State.timEvt_only _ _).same .tiers (by decide)
@[simp] theorem State.timEvt_fab (s : State) (a1 : Nat) : (State.timEvt s a1).fab = s.fab := (State.timEvt_only _ _).same .fab (by decide)
@[simp] theorem State.timEvt_rpl (s : State) (a1 : Nat) : (State.timEvt s a1).rpl = s.rpl := (State.timEvt_only _ _).same .rpl (by decide)
@[simp] theorem State.timEvt_health (s : State) (a1 : Nat) : (State.timEvt s a1).health = s.health := (State.timEvt_only _ _).same .health (by decide)
@[simp] theorem State.timEvt_start (s : State) (a1 : Nat) : (State.timEvt s a1).start = s.start := (State.timEvt_only _ _).same .start (by decide)
@[simp] theorem State.timEvt_power (s : State) (a1 : Nat) : (State.timEvt s a1).power = s.power := (State.timEvt_only _ _).same .power (by decide)
@[simp] theorem State.timEvt_latch (s : State) (a1 : Nat) : (State.timEvt s a1).latch = s.latch := (State.timEvt_only _ _).same .latch (by decide)
@[simp] theorem State.timEvt_mem (s : State) (a1 : Nat) : (State.timEvt s a1).mem = s.mem := (State.timEvt_only _ _).same .mem (by decide)
@[simp] theorem State.timEvt_out (s : State) (a1 : Nat) : (State.timEvt s a1).out = s.out := (State.timEvt_only _ _).same .out (by decide)
@[simp] theorem State.timEvt_drawn (s : State) (a1 : Nat) : (State.timEvt s a1).drawn = s.drawn := (State.timEvt_only _ _).same .drawn (by decide)
@[simp] theorem State.timEvt_pending (s : State) (a1 : Nat) : (State.timEvt s a1).pending = s.pending := (State.timEvt_only _ _).same .pending (by decide)

theorem State.cycEvt_only (s : State) (a1 : Nat) (a2 : Nat) : Only [.fns, .regs] s (State.cycEvt s a1 a2) := by
  have : Has [.fns, .regs] .fns := Has.of rfl
  have : Has [.fns, .regs] .regs := Has.of rfl
  exact (State.cycEvt_stays _ _ _ (Stays.refl _ _)).only
@[simp] theorem State.cycEvt_time (s : State) (a1 : Nat) (a2 : Nat) : (State.cycEvt s a1 a2).time = s.time := (State.cycEvt_only _ _ _).same .time (by decide)
@[simp] theorem State.cycEvt_sched (s : State) (a1 : Nat) (a2 : Nat) : (State.cycEvt s a1 a2).sched = s.sched := (State.cycEvt_only _ _ _).sched (by decide) (by decide) (by decide) (by decide)
@[simp] theorem State.cycEvt_acct (s : State) (a1 : Nat) (a2 : Nat) : (State.cycEvt s a1 a2).host.acct = s.host.acct := (State.cycEvt_only _ _ _).same .acct (by decide)
@[simp] theorem State.cycEvt_ports (s : State) (a1 : Nat) (a2 : Nat) : (State.cycEvt s a1 a2).host.ports = s.host.ports := (State.cycEvt_only _ _ _).same .ports (by decide)
@[simp] theorem State.cycEvt_numVfs (s : State) (a1 : Nat) (a2 : Nat) : (State.cycEvt s a1 a2).host.numVfs = s.host.numVfs := congrArg Prod.fst ((State.cycEvt_only _ _ _).same .vfs (by decide))
@[simp] theorem State.cycEvt_mat (s : State) (a1 : Nat) (a2 : Nat) : (State.cycEvt s a1 a2).mat = s.mat := (State.cycEvt_only _ _ _).same .mat (by decide)
@[simp] theorem State.cycEvt_inf (s : State) (a1 : Nat) (a2 : Nat) : (State.cycEvt s a1 a2).inf = s.inf := (State.cycEvt_only _ _ _).same .inf (by decide)
@[simp] theorem State.cycEvt_chm (s : State) (a1 : Nat) (a2 : Nat) : (State.cycEvt s a1 a2).chm = s.chm := (State.cycEvt_only _ _ _).same .chm (by decide)
@[simp] theorem State.cycEvt_radio (s : State) (a1 : Nat) (a2 : Nat) : (State.cycEvt s a1 a2).radio = s.radio := (State.cycEvt_only _ _ _).same .radio (by decide)
@[simp] theorem State.cycEvt_front (s : State) (a1 : Nat) (a2 : Nat) : (State.cycEvt s a1 a2).front = s.front := (State.cycEvt_only _ _ _).same .front (by decide)
@[simp] theorem State.cycEvt_tiers (s : State) (a1 : Nat) (a2 : Nat) : (State.cycEvt s a1 a2).tiers = s.tiers := (State.cycEvt_only _ _ _).same .tiers (by decide)
@[simp] theorem State.cycEvt_fab (s : State) (a1 : Nat) (a2 : Nat) : (State.cycEvt s a1 a2).fab = s.fab := (State.cycEvt_only _ _ _).same .fab (by decide)
@[simp] theorem State.cycEvt_rpl (s : State) (a1 : Nat) (a2 : Nat) : (State.cycEvt s a1 a2).rpl = s.rpl := (State.cycEvt_only _ _ _).same .rpl (by decide)
@[simp] theorem State.cycEvt_health (s : State) (a1 : Nat) (a2 : Nat) : (State.cycEvt s a1 a2).health = s.health := (State.cycEvt_only _ _ _).same .health (by decide)
@[simp] theorem State.cycEvt_start (s : State) (a1 : Nat) (a2 : Nat) : (State.cycEvt s a1 a2).start = s.start := (State.cycEvt_only _ _ _).same .start (by decide)
@[simp] theorem State.cycEvt_power (s : State) (a1 : Nat) (a2 : Nat) : (State.cycEvt s a1 a2).power = s.power := (State.cycEvt_only _ _ _).same .power (by decide)
@[simp] theorem State.cycEvt_latch (s : State) (a1 : Nat) (a2 : Nat) : (State.cycEvt s a1 a2).latch = s.latch := (State.cycEvt_only _ _ _).same .latch (by decide)
@[simp] theorem State.cycEvt_mem (s : State) (a1 : Nat) (a2 : Nat) : (State.cycEvt s a1 a2).mem = s.mem := (State.cycEvt_only _ _ _).same .mem (by decide)
@[simp] theorem State.cycEvt_out (s : State) (a1 : Nat) (a2 : Nat) : (State.cycEvt s a1 a2).out = s.out := (State.cycEvt_only _ _ _).same .out (by decide)
@[simp] theorem State.cycEvt_drawn (s : State) (a1 : Nat) (a2 : Nat) : (State.cycEvt s a1 a2).drawn = s.drawn := (State.cycEvt_only _ _ _).same .drawn (by decide)
@[simp] theorem State.cycEvt_pending (s : State) (a1 : Nat) (a2 : Nat) : (State.cycEvt s a1 a2).pending = s.pending := (State.cycEvt_only _ _ _).same .pending (by decide)

theorem State.memEvt_only (s : State) (a1 : Nat) : Only [.fns, .regs] s (State.memEvt s a1) := by
  have : Has [.fns, .regs] .fns := Has.of rfl
  have : Has [.fns, .regs] .regs := Has.of rfl
  exact (State.memEvt_stays _ _ (Stays.refl _ _)).only
@[simp] theorem State.memEvt_time (s : State) (a1 : Nat) : (State.memEvt s a1).time = s.time := (State.memEvt_only _ _).same .time (by decide)
@[simp] theorem State.memEvt_sched (s : State) (a1 : Nat) : (State.memEvt s a1).sched = s.sched := (State.memEvt_only _ _).sched (by decide) (by decide) (by decide) (by decide)
@[simp] theorem State.memEvt_acct (s : State) (a1 : Nat) : (State.memEvt s a1).host.acct = s.host.acct := (State.memEvt_only _ _).same .acct (by decide)
@[simp] theorem State.memEvt_ports (s : State) (a1 : Nat) : (State.memEvt s a1).host.ports = s.host.ports := (State.memEvt_only _ _).same .ports (by decide)
@[simp] theorem State.memEvt_numVfs (s : State) (a1 : Nat) : (State.memEvt s a1).host.numVfs = s.host.numVfs := congrArg Prod.fst ((State.memEvt_only _ _).same .vfs (by decide))
@[simp] theorem State.memEvt_mat (s : State) (a1 : Nat) : (State.memEvt s a1).mat = s.mat := (State.memEvt_only _ _).same .mat (by decide)
@[simp] theorem State.memEvt_inf (s : State) (a1 : Nat) : (State.memEvt s a1).inf = s.inf := (State.memEvt_only _ _).same .inf (by decide)
@[simp] theorem State.memEvt_chm (s : State) (a1 : Nat) : (State.memEvt s a1).chm = s.chm := (State.memEvt_only _ _).same .chm (by decide)
@[simp] theorem State.memEvt_radio (s : State) (a1 : Nat) : (State.memEvt s a1).radio = s.radio := (State.memEvt_only _ _).same .radio (by decide)
@[simp] theorem State.memEvt_front (s : State) (a1 : Nat) : (State.memEvt s a1).front = s.front := (State.memEvt_only _ _).same .front (by decide)
@[simp] theorem State.memEvt_tiers (s : State) (a1 : Nat) : (State.memEvt s a1).tiers = s.tiers := (State.memEvt_only _ _).same .tiers (by decide)
@[simp] theorem State.memEvt_fab (s : State) (a1 : Nat) : (State.memEvt s a1).fab = s.fab := (State.memEvt_only _ _).same .fab (by decide)
@[simp] theorem State.memEvt_rpl (s : State) (a1 : Nat) : (State.memEvt s a1).rpl = s.rpl := (State.memEvt_only _ _).same .rpl (by decide)
@[simp] theorem State.memEvt_health (s : State) (a1 : Nat) : (State.memEvt s a1).health = s.health := (State.memEvt_only _ _).same .health (by decide)
@[simp] theorem State.memEvt_start (s : State) (a1 : Nat) : (State.memEvt s a1).start = s.start := (State.memEvt_only _ _).same .start (by decide)
@[simp] theorem State.memEvt_power (s : State) (a1 : Nat) : (State.memEvt s a1).power = s.power := (State.memEvt_only _ _).same .power (by decide)
@[simp] theorem State.memEvt_latch (s : State) (a1 : Nat) : (State.memEvt s a1).latch = s.latch := (State.memEvt_only _ _).same .latch (by decide)
@[simp] theorem State.memEvt_mem (s : State) (a1 : Nat) : (State.memEvt s a1).mem = s.mem := (State.memEvt_only _ _).same .mem (by decide)
@[simp] theorem State.memEvt_out (s : State) (a1 : Nat) : (State.memEvt s a1).out = s.out := (State.memEvt_only _ _).same .out (by decide)
@[simp] theorem State.memEvt_drawn (s : State) (a1 : Nat) : (State.memEvt s a1).drawn = s.drawn := (State.memEvt_only _ _).same .drawn (by decide)
@[simp] theorem State.memEvt_pending (s : State) (a1 : Nat) : (State.memEvt s a1).pending = s.pending := (State.memEvt_only _ _).same .pending (by decide)

theorem State.fabEvt_only (s : State) (a1 : Nat) : Only [.fns, .regs] s (State.fabEvt s a1) := by
  have : Has [.fns, .regs] .fns := Has.of rfl
  have : Has [.fns, .regs] .regs := Has.of rfl
  exact (State.fabEvt_stays _ _ (Stays.refl _ _)).only
@[simp] theorem State.fabEvt_time (s : State) (a1 : Nat) : (State.fabEvt s a1).time = s.time := (State.fabEvt_only _ _).same .time (by decide)
@[simp] theorem State.fabEvt_sched (s : State) (a1 : Nat) : (State.fabEvt s a1).sched = s.sched := (State.fabEvt_only _ _).sched (by decide) (by decide) (by decide) (by decide)
@[simp] theorem State.fabEvt_acct (s : State) (a1 : Nat) : (State.fabEvt s a1).host.acct = s.host.acct := (State.fabEvt_only _ _).same .acct (by decide)
@[simp] theorem State.fabEvt_ports (s : State) (a1 : Nat) : (State.fabEvt s a1).host.ports = s.host.ports := (State.fabEvt_only _ _).same .ports (by decide)
@[simp] theorem State.fabEvt_numVfs (s : State) (a1 : Nat) : (State.fabEvt s a1).host.numVfs = s.host.numVfs := congrArg Prod.fst ((State.fabEvt_only _ _).same .vfs (by decide))
@[simp] theorem State.fabEvt_mat (s : State) (a1 : Nat) : (State.fabEvt s a1).mat = s.mat := (State.fabEvt_only _ _).same .mat (by decide)
@[simp] theorem State.fabEvt_inf (s : State) (a1 : Nat) : (State.fabEvt s a1).inf = s.inf := (State.fabEvt_only _ _).same .inf (by decide)
@[simp] theorem State.fabEvt_chm (s : State) (a1 : Nat) : (State.fabEvt s a1).chm = s.chm := (State.fabEvt_only _ _).same .chm (by decide)
@[simp] theorem State.fabEvt_radio (s : State) (a1 : Nat) : (State.fabEvt s a1).radio = s.radio := (State.fabEvt_only _ _).same .radio (by decide)
@[simp] theorem State.fabEvt_front (s : State) (a1 : Nat) : (State.fabEvt s a1).front = s.front := (State.fabEvt_only _ _).same .front (by decide)
@[simp] theorem State.fabEvt_tiers (s : State) (a1 : Nat) : (State.fabEvt s a1).tiers = s.tiers := (State.fabEvt_only _ _).same .tiers (by decide)
@[simp] theorem State.fabEvt_fab (s : State) (a1 : Nat) : (State.fabEvt s a1).fab = s.fab := (State.fabEvt_only _ _).same .fab (by decide)
@[simp] theorem State.fabEvt_rpl (s : State) (a1 : Nat) : (State.fabEvt s a1).rpl = s.rpl := (State.fabEvt_only _ _).same .rpl (by decide)
@[simp] theorem State.fabEvt_health (s : State) (a1 : Nat) : (State.fabEvt s a1).health = s.health := (State.fabEvt_only _ _).same .health (by decide)
@[simp] theorem State.fabEvt_start (s : State) (a1 : Nat) : (State.fabEvt s a1).start = s.start := (State.fabEvt_only _ _).same .start (by decide)
@[simp] theorem State.fabEvt_power (s : State) (a1 : Nat) : (State.fabEvt s a1).power = s.power := (State.fabEvt_only _ _).same .power (by decide)
@[simp] theorem State.fabEvt_latch (s : State) (a1 : Nat) : (State.fabEvt s a1).latch = s.latch := (State.fabEvt_only _ _).same .latch (by decide)
@[simp] theorem State.fabEvt_mem (s : State) (a1 : Nat) : (State.fabEvt s a1).mem = s.mem := (State.fabEvt_only _ _).same .mem (by decide)
@[simp] theorem State.fabEvt_out (s : State) (a1 : Nat) : (State.fabEvt s a1).out = s.out := (State.fabEvt_only _ _).same .out (by decide)
@[simp] theorem State.fabEvt_drawn (s : State) (a1 : Nat) : (State.fabEvt s a1).drawn = s.drawn := (State.fabEvt_only _ _).same .drawn (by decide)
@[simp] theorem State.fabEvt_pending (s : State) (a1 : Nat) : (State.fabEvt s a1).pending = s.pending := (State.fabEvt_only _ _).same .pending (by decide)

theorem State.hifEvt_only (s : State) (a1 : Nat) : Only [.fns, .regs] s (State.hifEvt s a1) := by
  have : Has [.fns, .regs] .fns := Has.of rfl
  have : Has [.fns, .regs] .regs := Has.of rfl
  exact (State.hifEvt_stays _ _ (Stays.refl _ _)).only
@[simp] theorem State.hifEvt_time (s : State) (a1 : Nat) : (State.hifEvt s a1).time = s.time := (State.hifEvt_only _ _).same .time (by decide)
@[simp] theorem State.hifEvt_sched (s : State) (a1 : Nat) : (State.hifEvt s a1).sched = s.sched := (State.hifEvt_only _ _).sched (by decide) (by decide) (by decide) (by decide)
@[simp] theorem State.hifEvt_acct (s : State) (a1 : Nat) : (State.hifEvt s a1).host.acct = s.host.acct := (State.hifEvt_only _ _).same .acct (by decide)
@[simp] theorem State.hifEvt_ports (s : State) (a1 : Nat) : (State.hifEvt s a1).host.ports = s.host.ports := (State.hifEvt_only _ _).same .ports (by decide)
@[simp] theorem State.hifEvt_numVfs (s : State) (a1 : Nat) : (State.hifEvt s a1).host.numVfs = s.host.numVfs := congrArg Prod.fst ((State.hifEvt_only _ _).same .vfs (by decide))
@[simp] theorem State.hifEvt_mat (s : State) (a1 : Nat) : (State.hifEvt s a1).mat = s.mat := (State.hifEvt_only _ _).same .mat (by decide)
@[simp] theorem State.hifEvt_inf (s : State) (a1 : Nat) : (State.hifEvt s a1).inf = s.inf := (State.hifEvt_only _ _).same .inf (by decide)
@[simp] theorem State.hifEvt_chm (s : State) (a1 : Nat) : (State.hifEvt s a1).chm = s.chm := (State.hifEvt_only _ _).same .chm (by decide)
@[simp] theorem State.hifEvt_radio (s : State) (a1 : Nat) : (State.hifEvt s a1).radio = s.radio := (State.hifEvt_only _ _).same .radio (by decide)
@[simp] theorem State.hifEvt_front (s : State) (a1 : Nat) : (State.hifEvt s a1).front = s.front := (State.hifEvt_only _ _).same .front (by decide)
@[simp] theorem State.hifEvt_tiers (s : State) (a1 : Nat) : (State.hifEvt s a1).tiers = s.tiers := (State.hifEvt_only _ _).same .tiers (by decide)
@[simp] theorem State.hifEvt_fab (s : State) (a1 : Nat) : (State.hifEvt s a1).fab = s.fab := (State.hifEvt_only _ _).same .fab (by decide)
@[simp] theorem State.hifEvt_rpl (s : State) (a1 : Nat) : (State.hifEvt s a1).rpl = s.rpl := (State.hifEvt_only _ _).same .rpl (by decide)
@[simp] theorem State.hifEvt_health (s : State) (a1 : Nat) : (State.hifEvt s a1).health = s.health := (State.hifEvt_only _ _).same .health (by decide)
@[simp] theorem State.hifEvt_start (s : State) (a1 : Nat) : (State.hifEvt s a1).start = s.start := (State.hifEvt_only _ _).same .start (by decide)
@[simp] theorem State.hifEvt_power (s : State) (a1 : Nat) : (State.hifEvt s a1).power = s.power := (State.hifEvt_only _ _).same .power (by decide)
@[simp] theorem State.hifEvt_latch (s : State) (a1 : Nat) : (State.hifEvt s a1).latch = s.latch := (State.hifEvt_only _ _).same .latch (by decide)
@[simp] theorem State.hifEvt_mem (s : State) (a1 : Nat) : (State.hifEvt s a1).mem = s.mem := (State.hifEvt_only _ _).same .mem (by decide)
@[simp] theorem State.hifEvt_out (s : State) (a1 : Nat) : (State.hifEvt s a1).out = s.out := (State.hifEvt_only _ _).same .out (by decide)
@[simp] theorem State.hifEvt_drawn (s : State) (a1 : Nat) : (State.hifEvt s a1).drawn = s.drawn := (State.hifEvt_only _ _).same .drawn (by decide)
@[simp] theorem State.hifEvt_pending (s : State) (a1 : Nat) : (State.hifEvt s a1).pending = s.pending := (State.hifEvt_only _ _).same .pending (by decide)

theorem State.rplEvt_only (s : State) (a1 : Nat) : Only [.fns, .regs] s (State.rplEvt s a1) := by
  have : Has [.fns, .regs] .fns := Has.of rfl
  have : Has [.fns, .regs] .regs := Has.of rfl
  exact (State.rplEvt_stays _ _ (Stays.refl _ _)).only
@[simp] theorem State.rplEvt_time (s : State) (a1 : Nat) : (State.rplEvt s a1).time = s.time := (State.rplEvt_only _ _).same .time (by decide)
@[simp] theorem State.rplEvt_sched (s : State) (a1 : Nat) : (State.rplEvt s a1).sched = s.sched := (State.rplEvt_only _ _).sched (by decide) (by decide) (by decide) (by decide)
@[simp] theorem State.rplEvt_acct (s : State) (a1 : Nat) : (State.rplEvt s a1).host.acct = s.host.acct := (State.rplEvt_only _ _).same .acct (by decide)
@[simp] theorem State.rplEvt_ports (s : State) (a1 : Nat) : (State.rplEvt s a1).host.ports = s.host.ports := (State.rplEvt_only _ _).same .ports (by decide)
@[simp] theorem State.rplEvt_numVfs (s : State) (a1 : Nat) : (State.rplEvt s a1).host.numVfs = s.host.numVfs := congrArg Prod.fst ((State.rplEvt_only _ _).same .vfs (by decide))
@[simp] theorem State.rplEvt_mat (s : State) (a1 : Nat) : (State.rplEvt s a1).mat = s.mat := (State.rplEvt_only _ _).same .mat (by decide)
@[simp] theorem State.rplEvt_inf (s : State) (a1 : Nat) : (State.rplEvt s a1).inf = s.inf := (State.rplEvt_only _ _).same .inf (by decide)
@[simp] theorem State.rplEvt_chm (s : State) (a1 : Nat) : (State.rplEvt s a1).chm = s.chm := (State.rplEvt_only _ _).same .chm (by decide)
@[simp] theorem State.rplEvt_radio (s : State) (a1 : Nat) : (State.rplEvt s a1).radio = s.radio := (State.rplEvt_only _ _).same .radio (by decide)
@[simp] theorem State.rplEvt_front (s : State) (a1 : Nat) : (State.rplEvt s a1).front = s.front := (State.rplEvt_only _ _).same .front (by decide)
@[simp] theorem State.rplEvt_tiers (s : State) (a1 : Nat) : (State.rplEvt s a1).tiers = s.tiers := (State.rplEvt_only _ _).same .tiers (by decide)
@[simp] theorem State.rplEvt_fab (s : State) (a1 : Nat) : (State.rplEvt s a1).fab = s.fab := (State.rplEvt_only _ _).same .fab (by decide)
@[simp] theorem State.rplEvt_rpl (s : State) (a1 : Nat) : (State.rplEvt s a1).rpl = s.rpl := (State.rplEvt_only _ _).same .rpl (by decide)
@[simp] theorem State.rplEvt_health (s : State) (a1 : Nat) : (State.rplEvt s a1).health = s.health := (State.rplEvt_only _ _).same .health (by decide)
@[simp] theorem State.rplEvt_start (s : State) (a1 : Nat) : (State.rplEvt s a1).start = s.start := (State.rplEvt_only _ _).same .start (by decide)
@[simp] theorem State.rplEvt_power (s : State) (a1 : Nat) : (State.rplEvt s a1).power = s.power := (State.rplEvt_only _ _).same .power (by decide)
@[simp] theorem State.rplEvt_latch (s : State) (a1 : Nat) : (State.rplEvt s a1).latch = s.latch := (State.rplEvt_only _ _).same .latch (by decide)
@[simp] theorem State.rplEvt_mem (s : State) (a1 : Nat) : (State.rplEvt s a1).mem = s.mem := (State.rplEvt_only _ _).same .mem (by decide)
@[simp] theorem State.rplEvt_out (s : State) (a1 : Nat) : (State.rplEvt s a1).out = s.out := (State.rplEvt_only _ _).same .out (by decide)
@[simp] theorem State.rplEvt_drawn (s : State) (a1 : Nat) : (State.rplEvt s a1).drawn = s.drawn := (State.rplEvt_only _ _).same .drawn (by decide)
@[simp] theorem State.rplEvt_pending (s : State) (a1 : Nat) : (State.rplEvt s a1).pending = s.pending := (State.rplEvt_only _ _).same .pending (by decide)

theorem State.hltEvt_only (s : State) (a1 : Nat) : Only [.fns, .regs] s (State.hltEvt s a1) := by
  have : Has [.fns, .regs] .fns := Has.of rfl
  have : Has [.fns, .regs] .regs := Has.of rfl
  exact (State.hltEvt_stays _ _ (Stays.refl _ _)).only
@[simp] theorem State.hltEvt_time (s : State) (a1 : Nat) : (State.hltEvt s a1).time = s.time := (State.hltEvt_only _ _).same .time (by decide)
@[simp] theorem State.hltEvt_sched (s : State) (a1 : Nat) : (State.hltEvt s a1).sched = s.sched := (State.hltEvt_only _ _).sched (by decide) (by decide) (by decide) (by decide)
@[simp] theorem State.hltEvt_acct (s : State) (a1 : Nat) : (State.hltEvt s a1).host.acct = s.host.acct := (State.hltEvt_only _ _).same .acct (by decide)
@[simp] theorem State.hltEvt_ports (s : State) (a1 : Nat) : (State.hltEvt s a1).host.ports = s.host.ports := (State.hltEvt_only _ _).same .ports (by decide)
@[simp] theorem State.hltEvt_numVfs (s : State) (a1 : Nat) : (State.hltEvt s a1).host.numVfs = s.host.numVfs := congrArg Prod.fst ((State.hltEvt_only _ _).same .vfs (by decide))
@[simp] theorem State.hltEvt_mat (s : State) (a1 : Nat) : (State.hltEvt s a1).mat = s.mat := (State.hltEvt_only _ _).same .mat (by decide)
@[simp] theorem State.hltEvt_inf (s : State) (a1 : Nat) : (State.hltEvt s a1).inf = s.inf := (State.hltEvt_only _ _).same .inf (by decide)
@[simp] theorem State.hltEvt_chm (s : State) (a1 : Nat) : (State.hltEvt s a1).chm = s.chm := (State.hltEvt_only _ _).same .chm (by decide)
@[simp] theorem State.hltEvt_radio (s : State) (a1 : Nat) : (State.hltEvt s a1).radio = s.radio := (State.hltEvt_only _ _).same .radio (by decide)
@[simp] theorem State.hltEvt_front (s : State) (a1 : Nat) : (State.hltEvt s a1).front = s.front := (State.hltEvt_only _ _).same .front (by decide)
@[simp] theorem State.hltEvt_tiers (s : State) (a1 : Nat) : (State.hltEvt s a1).tiers = s.tiers := (State.hltEvt_only _ _).same .tiers (by decide)
@[simp] theorem State.hltEvt_fab (s : State) (a1 : Nat) : (State.hltEvt s a1).fab = s.fab := (State.hltEvt_only _ _).same .fab (by decide)
@[simp] theorem State.hltEvt_rpl (s : State) (a1 : Nat) : (State.hltEvt s a1).rpl = s.rpl := (State.hltEvt_only _ _).same .rpl (by decide)
@[simp] theorem State.hltEvt_health (s : State) (a1 : Nat) : (State.hltEvt s a1).health = s.health := (State.hltEvt_only _ _).same .health (by decide)
@[simp] theorem State.hltEvt_start (s : State) (a1 : Nat) : (State.hltEvt s a1).start = s.start := (State.hltEvt_only _ _).same .start (by decide)
@[simp] theorem State.hltEvt_power (s : State) (a1 : Nat) : (State.hltEvt s a1).power = s.power := (State.hltEvt_only _ _).same .power (by decide)
@[simp] theorem State.hltEvt_latch (s : State) (a1 : Nat) : (State.hltEvt s a1).latch = s.latch := (State.hltEvt_only _ _).same .latch (by decide)
@[simp] theorem State.hltEvt_mem (s : State) (a1 : Nat) : (State.hltEvt s a1).mem = s.mem := (State.hltEvt_only _ _).same .mem (by decide)
@[simp] theorem State.hltEvt_out (s : State) (a1 : Nat) : (State.hltEvt s a1).out = s.out := (State.hltEvt_only _ _).same .out (by decide)
@[simp] theorem State.hltEvt_drawn (s : State) (a1 : Nat) : (State.hltEvt s a1).drawn = s.drawn := (State.hltEvt_only _ _).same .drawn (by decide)
@[simp] theorem State.hltEvt_pending (s : State) (a1 : Nat) : (State.hltEvt s a1).pending = s.pending := (State.hltEvt_only _ _).same .pending (by decide)

theorem State.thrEvt_only (s : State) (a1 : Nat) : Only [.fns, .regs] s (State.thrEvt s a1) := by
  have : Has [.fns, .regs] .fns := Has.of rfl
  have : Has [.fns, .regs] .regs := Has.of rfl
  exact (State.thrEvt_stays _ _ (Stays.refl _ _)).only
@[simp] theorem State.thrEvt_time (s : State) (a1 : Nat) : (State.thrEvt s a1).time = s.time := (State.thrEvt_only _ _).same .time (by decide)
@[simp] theorem State.thrEvt_sched (s : State) (a1 : Nat) : (State.thrEvt s a1).sched = s.sched := (State.thrEvt_only _ _).sched (by decide) (by decide) (by decide) (by decide)
@[simp] theorem State.thrEvt_acct (s : State) (a1 : Nat) : (State.thrEvt s a1).host.acct = s.host.acct := (State.thrEvt_only _ _).same .acct (by decide)
@[simp] theorem State.thrEvt_ports (s : State) (a1 : Nat) : (State.thrEvt s a1).host.ports = s.host.ports := (State.thrEvt_only _ _).same .ports (by decide)
@[simp] theorem State.thrEvt_numVfs (s : State) (a1 : Nat) : (State.thrEvt s a1).host.numVfs = s.host.numVfs := congrArg Prod.fst ((State.thrEvt_only _ _).same .vfs (by decide))
@[simp] theorem State.thrEvt_mat (s : State) (a1 : Nat) : (State.thrEvt s a1).mat = s.mat := (State.thrEvt_only _ _).same .mat (by decide)
@[simp] theorem State.thrEvt_inf (s : State) (a1 : Nat) : (State.thrEvt s a1).inf = s.inf := (State.thrEvt_only _ _).same .inf (by decide)
@[simp] theorem State.thrEvt_chm (s : State) (a1 : Nat) : (State.thrEvt s a1).chm = s.chm := (State.thrEvt_only _ _).same .chm (by decide)
@[simp] theorem State.thrEvt_radio (s : State) (a1 : Nat) : (State.thrEvt s a1).radio = s.radio := (State.thrEvt_only _ _).same .radio (by decide)
@[simp] theorem State.thrEvt_front (s : State) (a1 : Nat) : (State.thrEvt s a1).front = s.front := (State.thrEvt_only _ _).same .front (by decide)
@[simp] theorem State.thrEvt_tiers (s : State) (a1 : Nat) : (State.thrEvt s a1).tiers = s.tiers := (State.thrEvt_only _ _).same .tiers (by decide)
@[simp] theorem State.thrEvt_fab (s : State) (a1 : Nat) : (State.thrEvt s a1).fab = s.fab := (State.thrEvt_only _ _).same .fab (by decide)
@[simp] theorem State.thrEvt_rpl (s : State) (a1 : Nat) : (State.thrEvt s a1).rpl = s.rpl := (State.thrEvt_only _ _).same .rpl (by decide)
@[simp] theorem State.thrEvt_health (s : State) (a1 : Nat) : (State.thrEvt s a1).health = s.health := (State.thrEvt_only _ _).same .health (by decide)
@[simp] theorem State.thrEvt_start (s : State) (a1 : Nat) : (State.thrEvt s a1).start = s.start := (State.thrEvt_only _ _).same .start (by decide)
@[simp] theorem State.thrEvt_power (s : State) (a1 : Nat) : (State.thrEvt s a1).power = s.power := (State.thrEvt_only _ _).same .power (by decide)
@[simp] theorem State.thrEvt_latch (s : State) (a1 : Nat) : (State.thrEvt s a1).latch = s.latch := (State.thrEvt_only _ _).same .latch (by decide)
@[simp] theorem State.thrEvt_mem (s : State) (a1 : Nat) : (State.thrEvt s a1).mem = s.mem := (State.thrEvt_only _ _).same .mem (by decide)
@[simp] theorem State.thrEvt_out (s : State) (a1 : Nat) : (State.thrEvt s a1).out = s.out := (State.thrEvt_only _ _).same .out (by decide)
@[simp] theorem State.thrEvt_drawn (s : State) (a1 : Nat) : (State.thrEvt s a1).drawn = s.drawn := (State.thrEvt_only _ _).same .drawn (by decide)
@[simp] theorem State.thrEvt_pending (s : State) (a1 : Nat) : (State.thrEvt s a1).pending = s.pending := (State.thrEvt_only _ _).same .pending (by decide)

theorem State.submitDone_only (s : State) (a1 : Nat) (a2 : Nat) (a3 : Nat) (a4 : Nat) (a5 : Nat) (a6 : BitVec 128) : Only [.fns, .regs] s (State.submitDone s a1 a2 a3 a4 a5 a6) := by
  have : Has [.fns, .regs] .fns := Has.of rfl
  have : Has [.fns, .regs] .regs := Has.of rfl
  exact (State.submitDone_stays _ _ _ _ _ _ _ (Stays.refl _ _)).only
@[simp] theorem State.submitDone_time (s : State) (a1 : Nat) (a2 : Nat) (a3 : Nat) (a4 : Nat) (a5 : Nat) (a6 : BitVec 128) : (State.submitDone s a1 a2 a3 a4 a5 a6).time = s.time := (State.submitDone_only _ _ _ _ _ _ _).same .time (by decide)
@[simp] theorem State.submitDone_sched (s : State) (a1 : Nat) (a2 : Nat) (a3 : Nat) (a4 : Nat) (a5 : Nat) (a6 : BitVec 128) : (State.submitDone s a1 a2 a3 a4 a5 a6).sched = s.sched := (State.submitDone_only _ _ _ _ _ _ _).sched (by decide) (by decide) (by decide) (by decide)
@[simp] theorem State.submitDone_acct (s : State) (a1 : Nat) (a2 : Nat) (a3 : Nat) (a4 : Nat) (a5 : Nat) (a6 : BitVec 128) : (State.submitDone s a1 a2 a3 a4 a5 a6).host.acct = s.host.acct := (State.submitDone_only _ _ _ _ _ _ _).same .acct (by decide)
@[simp] theorem State.submitDone_ports (s : State) (a1 : Nat) (a2 : Nat) (a3 : Nat) (a4 : Nat) (a5 : Nat) (a6 : BitVec 128) : (State.submitDone s a1 a2 a3 a4 a5 a6).host.ports = s.host.ports := (State.submitDone_only _ _ _ _ _ _ _).same .ports (by decide)
@[simp] theorem State.submitDone_numVfs (s : State) (a1 : Nat) (a2 : Nat) (a3 : Nat) (a4 : Nat) (a5 : Nat) (a6 : BitVec 128) : (State.submitDone s a1 a2 a3 a4 a5 a6).host.numVfs = s.host.numVfs := congrArg Prod.fst ((State.submitDone_only _ _ _ _ _ _ _).same .vfs (by decide))
@[simp] theorem State.submitDone_mat (s : State) (a1 : Nat) (a2 : Nat) (a3 : Nat) (a4 : Nat) (a5 : Nat) (a6 : BitVec 128) : (State.submitDone s a1 a2 a3 a4 a5 a6).mat = s.mat := (State.submitDone_only _ _ _ _ _ _ _).same .mat (by decide)
@[simp] theorem State.submitDone_inf (s : State) (a1 : Nat) (a2 : Nat) (a3 : Nat) (a4 : Nat) (a5 : Nat) (a6 : BitVec 128) : (State.submitDone s a1 a2 a3 a4 a5 a6).inf = s.inf := (State.submitDone_only _ _ _ _ _ _ _).same .inf (by decide)
@[simp] theorem State.submitDone_chm (s : State) (a1 : Nat) (a2 : Nat) (a3 : Nat) (a4 : Nat) (a5 : Nat) (a6 : BitVec 128) : (State.submitDone s a1 a2 a3 a4 a5 a6).chm = s.chm := (State.submitDone_only _ _ _ _ _ _ _).same .chm (by decide)
@[simp] theorem State.submitDone_radio (s : State) (a1 : Nat) (a2 : Nat) (a3 : Nat) (a4 : Nat) (a5 : Nat) (a6 : BitVec 128) : (State.submitDone s a1 a2 a3 a4 a5 a6).radio = s.radio := (State.submitDone_only _ _ _ _ _ _ _).same .radio (by decide)
@[simp] theorem State.submitDone_front (s : State) (a1 : Nat) (a2 : Nat) (a3 : Nat) (a4 : Nat) (a5 : Nat) (a6 : BitVec 128) : (State.submitDone s a1 a2 a3 a4 a5 a6).front = s.front := (State.submitDone_only _ _ _ _ _ _ _).same .front (by decide)
@[simp] theorem State.submitDone_tiers (s : State) (a1 : Nat) (a2 : Nat) (a3 : Nat) (a4 : Nat) (a5 : Nat) (a6 : BitVec 128) : (State.submitDone s a1 a2 a3 a4 a5 a6).tiers = s.tiers := (State.submitDone_only _ _ _ _ _ _ _).same .tiers (by decide)
@[simp] theorem State.submitDone_fab (s : State) (a1 : Nat) (a2 : Nat) (a3 : Nat) (a4 : Nat) (a5 : Nat) (a6 : BitVec 128) : (State.submitDone s a1 a2 a3 a4 a5 a6).fab = s.fab := (State.submitDone_only _ _ _ _ _ _ _).same .fab (by decide)
@[simp] theorem State.submitDone_rpl (s : State) (a1 : Nat) (a2 : Nat) (a3 : Nat) (a4 : Nat) (a5 : Nat) (a6 : BitVec 128) : (State.submitDone s a1 a2 a3 a4 a5 a6).rpl = s.rpl := (State.submitDone_only _ _ _ _ _ _ _).same .rpl (by decide)
@[simp] theorem State.submitDone_health (s : State) (a1 : Nat) (a2 : Nat) (a3 : Nat) (a4 : Nat) (a5 : Nat) (a6 : BitVec 128) : (State.submitDone s a1 a2 a3 a4 a5 a6).health = s.health := (State.submitDone_only _ _ _ _ _ _ _).same .health (by decide)
@[simp] theorem State.submitDone_start (s : State) (a1 : Nat) (a2 : Nat) (a3 : Nat) (a4 : Nat) (a5 : Nat) (a6 : BitVec 128) : (State.submitDone s a1 a2 a3 a4 a5 a6).start = s.start := (State.submitDone_only _ _ _ _ _ _ _).same .start (by decide)
@[simp] theorem State.submitDone_power (s : State) (a1 : Nat) (a2 : Nat) (a3 : Nat) (a4 : Nat) (a5 : Nat) (a6 : BitVec 128) : (State.submitDone s a1 a2 a3 a4 a5 a6).power = s.power := (State.submitDone_only _ _ _ _ _ _ _).same .power (by decide)
@[simp] theorem State.submitDone_latch (s : State) (a1 : Nat) (a2 : Nat) (a3 : Nat) (a4 : Nat) (a5 : Nat) (a6 : BitVec 128) : (State.submitDone s a1 a2 a3 a4 a5 a6).latch = s.latch := (State.submitDone_only _ _ _ _ _ _ _).same .latch (by decide)
@[simp] theorem State.submitDone_mem (s : State) (a1 : Nat) (a2 : Nat) (a3 : Nat) (a4 : Nat) (a5 : Nat) (a6 : BitVec 128) : (State.submitDone s a1 a2 a3 a4 a5 a6).mem = s.mem := (State.submitDone_only _ _ _ _ _ _ _).same .mem (by decide)
@[simp] theorem State.submitDone_out (s : State) (a1 : Nat) (a2 : Nat) (a3 : Nat) (a4 : Nat) (a5 : Nat) (a6 : BitVec 128) : (State.submitDone s a1 a2 a3 a4 a5 a6).out = s.out := (State.submitDone_only _ _ _ _ _ _ _).same .out (by decide)
@[simp] theorem State.submitDone_drawn (s : State) (a1 : Nat) (a2 : Nat) (a3 : Nat) (a4 : Nat) (a5 : Nat) (a6 : BitVec 128) : (State.submitDone s a1 a2 a3 a4 a5 a6).drawn = s.drawn := (State.submitDone_only _ _ _ _ _ _ _).same .drawn (by decide)
@[simp] theorem State.submitDone_pending (s : State) (a1 : Nat) (a2 : Nat) (a3 : Nat) (a4 : Nat) (a5 : Nat) (a6 : BitVec 128) : (State.submitDone s a1 a2 a3 a4 a5 a6).pending = s.pending := (State.submitDone_only _ _ _ _ _ _ _).same .pending (by decide)

theorem State.setDev_only (s : State) (a1 : DevSt) : Only [.fns, .start, .regs] s (State.setDev s a1) := by
  have : Has [.fns, .start, .regs] .fns := Has.of rfl
  have : Has [.fns, .start, .regs] .start := Has.of rfl
  have : Has [.fns, .start, .regs] .regs := Has.of rfl
  exact (State.setDev_stays _ _ (Stays.refl _ _)).only
@[simp] theorem State.setDev_time (s : State) (a1 : DevSt) : (State.setDev s a1).time = s.time := (State.setDev_only _ _).same .time (by decide)
@[simp] theorem State.setDev_sched (s : State) (a1 : DevSt) : (State.setDev s a1).sched = s.sched := (State.setDev_only _ _).sched (by decide) (by decide) (by decide) (by decide)
@[simp] theorem State.setDev_acct (s : State) (a1 : DevSt) : (State.setDev s a1).host.acct = s.host.acct := (State.setDev_only _ _).same .acct (by decide)
@[simp] theorem State.setDev_ports (s : State) (a1 : DevSt) : (State.setDev s a1).host.ports = s.host.ports := (State.setDev_only _ _).same .ports (by decide)
@[simp] theorem State.setDev_numVfs (s : State) (a1 : DevSt) : (State.setDev s a1).host.numVfs = s.host.numVfs := congrArg Prod.fst ((State.setDev_only _ _).same .vfs (by decide))
@[simp] theorem State.setDev_mat (s : State) (a1 : DevSt) : (State.setDev s a1).mat = s.mat := (State.setDev_only _ _).same .mat (by decide)
@[simp] theorem State.setDev_inf (s : State) (a1 : DevSt) : (State.setDev s a1).inf = s.inf := (State.setDev_only _ _).same .inf (by decide)
@[simp] theorem State.setDev_chm (s : State) (a1 : DevSt) : (State.setDev s a1).chm = s.chm := (State.setDev_only _ _).same .chm (by decide)
@[simp] theorem State.setDev_radio (s : State) (a1 : DevSt) : (State.setDev s a1).radio = s.radio := (State.setDev_only _ _).same .radio (by decide)
@[simp] theorem State.setDev_front (s : State) (a1 : DevSt) : (State.setDev s a1).front = s.front := (State.setDev_only _ _).same .front (by decide)
@[simp] theorem State.setDev_tiers (s : State) (a1 : DevSt) : (State.setDev s a1).tiers = s.tiers := (State.setDev_only _ _).same .tiers (by decide)
@[simp] theorem State.setDev_fab (s : State) (a1 : DevSt) : (State.setDev s a1).fab = s.fab := (State.setDev_only _ _).same .fab (by decide)
@[simp] theorem State.setDev_rpl (s : State) (a1 : DevSt) : (State.setDev s a1).rpl = s.rpl := (State.setDev_only _ _).same .rpl (by decide)
@[simp] theorem State.setDev_health (s : State) (a1 : DevSt) : (State.setDev s a1).health = s.health := (State.setDev_only _ _).same .health (by decide)
@[simp] theorem State.setDev_power (s : State) (a1 : DevSt) : (State.setDev s a1).power = s.power := (State.setDev_only _ _).same .power (by decide)
@[simp] theorem State.setDev_latch (s : State) (a1 : DevSt) : (State.setDev s a1).latch = s.latch := (State.setDev_only _ _).same .latch (by decide)
@[simp] theorem State.setDev_mem (s : State) (a1 : DevSt) : (State.setDev s a1).mem = s.mem := (State.setDev_only _ _).same .mem (by decide)
@[simp] theorem State.setDev_out (s : State) (a1 : DevSt) : (State.setDev s a1).out = s.out := (State.setDev_only _ _).same .out (by decide)
@[simp] theorem State.setDev_drawn (s : State) (a1 : DevSt) : (State.setDev s a1).drawn = s.drawn := (State.setDev_only _ _).same .drawn (by decide)
@[simp] theorem State.setDev_pending (s : State) (a1 : DevSt) : (State.setDev s a1).pending = s.pending := (State.setDev_only _ _).same .pending (by decide)

theorem State.redev_only (s : State) : Only [.fns, .start, .regs] s (State.redev s) := by
  have : Has [.fns, .start, .regs] .fns := Has.of rfl
  have : Has [.fns, .start, .regs] .start := Has.of rfl
  have : Has [.fns, .start, .regs] .regs := Has.of rfl
  exact (State.redev_stays _ (Stays.refl _ _)).only
@[simp] theorem State.redev_time (s : State) : (State.redev s).time = s.time := (State.redev_only _).same .time (by decide)
@[simp] theorem State.redev_sched (s : State) : (State.redev s).sched = s.sched := (State.redev_only _).sched (by decide) (by decide) (by decide) (by decide)
@[simp] theorem State.redev_acct (s : State) : (State.redev s).host.acct = s.host.acct := (State.redev_only _).same .acct (by decide)
@[simp] theorem State.redev_ports (s : State) : (State.redev s).host.ports = s.host.ports := (State.redev_only _).same .ports (by decide)
@[simp] theorem State.redev_numVfs (s : State) : (State.redev s).host.numVfs = s.host.numVfs := congrArg Prod.fst ((State.redev_only _).same .vfs (by decide))
@[simp] theorem State.redev_mat (s : State) : (State.redev s).mat = s.mat := (State.redev_only _).same .mat (by decide)
@[simp] theorem State.redev_inf (s : State) : (State.redev s).inf = s.inf := (State.redev_only _).same .inf (by decide)
@[simp] theorem State.redev_chm (s : State) : (State.redev s).chm = s.chm := (State.redev_only _).same .chm (by decide)
@[simp] theorem State.redev_radio (s : State) : (State.redev s).radio = s.radio := (State.redev_only _).same .radio (by decide)
@[simp] theorem State.redev_front (s : State) : (State.redev s).front = s.front := (State.redev_only _).same .front (by decide)
@[simp] theorem State.redev_tiers (s : State) : (State.redev s).tiers = s.tiers := (State.redev_only _).same .tiers (by decide)
@[simp] theorem State.redev_fab (s : State) : (State.redev s).fab = s.fab := (State.redev_only _).same .fab (by decide)
@[simp] theorem State.redev_rpl (s : State) : (State.redev s).rpl = s.rpl := (State.redev_only _).same .rpl (by decide)
@[simp] theorem State.redev_health (s : State) : (State.redev s).health = s.health := (State.redev_only _).same .health (by decide)
@[simp] theorem State.redev_power (s : State) : (State.redev s).power = s.power := (State.redev_only _).same .power (by decide)
@[simp] theorem State.redev_latch (s : State) : (State.redev s).latch = s.latch := (State.redev_only _).same .latch (by decide)
@[simp] theorem State.redev_mem (s : State) : (State.redev s).mem = s.mem := (State.redev_only _).same .mem (by decide)
@[simp] theorem State.redev_out (s : State) : (State.redev s).out = s.out := (State.redev_only _).same .out (by decide)
@[simp] theorem State.redev_drawn (s : State) : (State.redev s).drawn = s.drawn := (State.redev_only _).same .drawn (by decide)
@[simp] theorem State.redev_pending (s : State) : (State.redev s).pending = s.pending := (State.redev_only _).same .pending (by decide)

@[simp] theorem State.addRec_time (s : State) (a1 : Nat) (a2 : Nat) (a3 : DWord) (a4 : List Byte) : (State.addRec s a1 a2 a3 a4).time = s.time := rfl
@[simp] theorem State.addRec_sched (s : State) (a1 : Nat) (a2 : Nat) (a3 : DWord) (a4 : List Byte) : (State.addRec s a1 a2 a3 a4).sched = s.sched := rfl
@[simp] theorem State.addRec_host (s : State) (a1 : Nat) (a2 : Nat) (a3 : DWord) (a4 : List Byte) : (State.addRec s a1 a2 a3 a4).host = s.host := rfl
@[simp] theorem State.addRec_mat (s : State) (a1 : Nat) (a2 : Nat) (a3 : DWord) (a4 : List Byte) : (State.addRec s a1 a2 a3 a4).mat = s.mat := rfl
@[simp] theorem State.addRec_inf (s : State) (a1 : Nat) (a2 : Nat) (a3 : DWord) (a4 : List Byte) : (State.addRec s a1 a2 a3 a4).inf = s.inf := rfl
@[simp] theorem State.addRec_chm (s : State) (a1 : Nat) (a2 : Nat) (a3 : DWord) (a4 : List Byte) : (State.addRec s a1 a2 a3 a4).chm = s.chm := rfl
@[simp] theorem State.addRec_radio (s : State) (a1 : Nat) (a2 : Nat) (a3 : DWord) (a4 : List Byte) : (State.addRec s a1 a2 a3 a4).radio = s.radio := rfl
@[simp] theorem State.addRec_front (s : State) (a1 : Nat) (a2 : Nat) (a3 : DWord) (a4 : List Byte) : (State.addRec s a1 a2 a3 a4).front = s.front := rfl
@[simp] theorem State.addRec_tiers (s : State) (a1 : Nat) (a2 : Nat) (a3 : DWord) (a4 : List Byte) : (State.addRec s a1 a2 a3 a4).tiers = s.tiers := rfl
@[simp] theorem State.addRec_fab (s : State) (a1 : Nat) (a2 : Nat) (a3 : DWord) (a4 : List Byte) : (State.addRec s a1 a2 a3 a4).fab = s.fab := rfl
@[simp] theorem State.addRec_health (s : State) (a1 : Nat) (a2 : Nat) (a3 : DWord) (a4 : List Byte) : (State.addRec s a1 a2 a3 a4).health = s.health := rfl
@[simp] theorem State.addRec_start (s : State) (a1 : Nat) (a2 : Nat) (a3 : DWord) (a4 : List Byte) : (State.addRec s a1 a2 a3 a4).start = s.start := rfl
@[simp] theorem State.addRec_power (s : State) (a1 : Nat) (a2 : Nat) (a3 : DWord) (a4 : List Byte) : (State.addRec s a1 a2 a3 a4).power = s.power := rfl
@[simp] theorem State.addRec_regs (s : State) (a1 : Nat) (a2 : Nat) (a3 : DWord) (a4 : List Byte) : (State.addRec s a1 a2 a3 a4).regs = s.regs := rfl
@[simp] theorem State.addRec_latch (s : State) (a1 : Nat) (a2 : Nat) (a3 : DWord) (a4 : List Byte) : (State.addRec s a1 a2 a3 a4).latch = s.latch := rfl
@[simp] theorem State.addRec_mem (s : State) (a1 : Nat) (a2 : Nat) (a3 : DWord) (a4 : List Byte) : (State.addRec s a1 a2 a3 a4).mem = s.mem := rfl
@[simp] theorem State.addRec_out (s : State) (a1 : Nat) (a2 : Nat) (a3 : DWord) (a4 : List Byte) : (State.addRec s a1 a2 a3 a4).out = s.out := rfl
@[simp] theorem State.addRec_drawn (s : State) (a1 : Nat) (a2 : Nat) (a3 : DWord) (a4 : List Byte) : (State.addRec s a1 a2 a3 a4).drawn = s.drawn := rfl
@[simp] theorem State.addRec_pending (s : State) (a1 : Nat) (a2 : Nat) (a3 : DWord) (a4 : List Byte) : (State.addRec s a1 a2 a3 a4).pending = s.pending := rfl

theorem State.putRec_only (s : State) (a1 : Nat) (a2 : Nat) (a3 : DWord) (a4 : List Byte) : Only [.fns, .rpl, .regs] s (State.putRec s a1 a2 a3 a4) := by
  have : Has [.fns, .rpl, .regs] .fns := Has.of rfl
  have : Has [.fns, .rpl, .regs] .rpl := Has.of rfl
  have : Has [.fns, .rpl, .regs] .regs := Has.of rfl
  exact (State.putRec_stays _ _ _ _ _ (Stays.refl _ _)).only
@[simp] theorem State.putRec_time (s : State) (a1 : Nat) (a2 : Nat) (a3 : DWord) (a4 : List Byte) : (State.putRec s a1 a2 a3 a4).time = s.time := (State.putRec_only _ _ _ _ _).same .time (by decide)
@[simp] theorem State.putRec_sched (s : State) (a1 : Nat) (a2 : Nat) (a3 : DWord) (a4 : List Byte) : (State.putRec s a1 a2 a3 a4).sched = s.sched := (State.putRec_only _ _ _ _ _).sched (by decide) (by decide) (by decide) (by decide)
@[simp] theorem State.putRec_acct (s : State) (a1 : Nat) (a2 : Nat) (a3 : DWord) (a4 : List Byte) : (State.putRec s a1 a2 a3 a4).host.acct = s.host.acct := (State.putRec_only _ _ _ _ _).same .acct (by decide)
@[simp] theorem State.putRec_ports (s : State) (a1 : Nat) (a2 : Nat) (a3 : DWord) (a4 : List Byte) : (State.putRec s a1 a2 a3 a4).host.ports = s.host.ports := (State.putRec_only _ _ _ _ _).same .ports (by decide)
@[simp] theorem State.putRec_numVfs (s : State) (a1 : Nat) (a2 : Nat) (a3 : DWord) (a4 : List Byte) : (State.putRec s a1 a2 a3 a4).host.numVfs = s.host.numVfs := congrArg Prod.fst ((State.putRec_only _ _ _ _ _).same .vfs (by decide))
@[simp] theorem State.putRec_mat (s : State) (a1 : Nat) (a2 : Nat) (a3 : DWord) (a4 : List Byte) : (State.putRec s a1 a2 a3 a4).mat = s.mat := (State.putRec_only _ _ _ _ _).same .mat (by decide)
@[simp] theorem State.putRec_inf (s : State) (a1 : Nat) (a2 : Nat) (a3 : DWord) (a4 : List Byte) : (State.putRec s a1 a2 a3 a4).inf = s.inf := (State.putRec_only _ _ _ _ _).same .inf (by decide)
@[simp] theorem State.putRec_chm (s : State) (a1 : Nat) (a2 : Nat) (a3 : DWord) (a4 : List Byte) : (State.putRec s a1 a2 a3 a4).chm = s.chm := (State.putRec_only _ _ _ _ _).same .chm (by decide)
@[simp] theorem State.putRec_radio (s : State) (a1 : Nat) (a2 : Nat) (a3 : DWord) (a4 : List Byte) : (State.putRec s a1 a2 a3 a4).radio = s.radio := (State.putRec_only _ _ _ _ _).same .radio (by decide)
@[simp] theorem State.putRec_front (s : State) (a1 : Nat) (a2 : Nat) (a3 : DWord) (a4 : List Byte) : (State.putRec s a1 a2 a3 a4).front = s.front := (State.putRec_only _ _ _ _ _).same .front (by decide)
@[simp] theorem State.putRec_tiers (s : State) (a1 : Nat) (a2 : Nat) (a3 : DWord) (a4 : List Byte) : (State.putRec s a1 a2 a3 a4).tiers = s.tiers := (State.putRec_only _ _ _ _ _).same .tiers (by decide)
@[simp] theorem State.putRec_fab (s : State) (a1 : Nat) (a2 : Nat) (a3 : DWord) (a4 : List Byte) : (State.putRec s a1 a2 a3 a4).fab = s.fab := (State.putRec_only _ _ _ _ _).same .fab (by decide)
@[simp] theorem State.putRec_health (s : State) (a1 : Nat) (a2 : Nat) (a3 : DWord) (a4 : List Byte) : (State.putRec s a1 a2 a3 a4).health = s.health := (State.putRec_only _ _ _ _ _).same .health (by decide)
@[simp] theorem State.putRec_start (s : State) (a1 : Nat) (a2 : Nat) (a3 : DWord) (a4 : List Byte) : (State.putRec s a1 a2 a3 a4).start = s.start := (State.putRec_only _ _ _ _ _).same .start (by decide)
@[simp] theorem State.putRec_power (s : State) (a1 : Nat) (a2 : Nat) (a3 : DWord) (a4 : List Byte) : (State.putRec s a1 a2 a3 a4).power = s.power := (State.putRec_only _ _ _ _ _).same .power (by decide)
@[simp] theorem State.putRec_latch (s : State) (a1 : Nat) (a2 : Nat) (a3 : DWord) (a4 : List Byte) : (State.putRec s a1 a2 a3 a4).latch = s.latch := (State.putRec_only _ _ _ _ _).same .latch (by decide)
@[simp] theorem State.putRec_mem (s : State) (a1 : Nat) (a2 : Nat) (a3 : DWord) (a4 : List Byte) : (State.putRec s a1 a2 a3 a4).mem = s.mem := (State.putRec_only _ _ _ _ _).same .mem (by decide)
@[simp] theorem State.putRec_out (s : State) (a1 : Nat) (a2 : Nat) (a3 : DWord) (a4 : List Byte) : (State.putRec s a1 a2 a3 a4).out = s.out := (State.putRec_only _ _ _ _ _).same .out (by decide)
@[simp] theorem State.putRec_drawn (s : State) (a1 : Nat) (a2 : Nat) (a3 : DWord) (a4 : List Byte) : (State.putRec s a1 a2 a3 a4).drawn = s.drawn := (State.putRec_only _ _ _ _ _).same .drawn (by decide)
@[simp] theorem State.putRec_pending (s : State) (a1 : Nat) (a2 : Nat) (a3 : DWord) (a4 : List Byte) : (State.putRec s a1 a2 a3 a4).pending = s.pending := (State.putRec_only _ _ _ _ _).same .pending (by decide)

theorem State.logIn_only (s : State) (a1 : Nat) (a2 : Nat) (a3 : Nat) (a4 : DWord) (a5 : List Byte) : Only [.fns, .rpl, .regs] s (State.logIn s a1 a2 a3 a4 a5) := by
  have : Has [.fns, .rpl, .regs] .fns := Has.of rfl
  have : Has [.fns, .rpl, .regs] .rpl := Has.of rfl
  have : Has [.fns, .rpl, .regs] .regs := Has.of rfl
  exact (State.logIn_stays _ _ _ _ _ _ (Stays.refl _ _)).only
@[simp] theorem State.logIn_time (s : State) (a1 : Nat) (a2 : Nat) (a3 : Nat) (a4 : DWord) (a5 : List Byte) : (State.logIn s a1 a2 a3 a4 a5).time = s.time := (State.logIn_only _ _ _ _ _ _).same .time (by decide)
@[simp] theorem State.logIn_sched (s : State) (a1 : Nat) (a2 : Nat) (a3 : Nat) (a4 : DWord) (a5 : List Byte) : (State.logIn s a1 a2 a3 a4 a5).sched = s.sched := (State.logIn_only _ _ _ _ _ _).sched (by decide) (by decide) (by decide) (by decide)
@[simp] theorem State.logIn_acct (s : State) (a1 : Nat) (a2 : Nat) (a3 : Nat) (a4 : DWord) (a5 : List Byte) : (State.logIn s a1 a2 a3 a4 a5).host.acct = s.host.acct := (State.logIn_only _ _ _ _ _ _).same .acct (by decide)
@[simp] theorem State.logIn_ports (s : State) (a1 : Nat) (a2 : Nat) (a3 : Nat) (a4 : DWord) (a5 : List Byte) : (State.logIn s a1 a2 a3 a4 a5).host.ports = s.host.ports := (State.logIn_only _ _ _ _ _ _).same .ports (by decide)
@[simp] theorem State.logIn_numVfs (s : State) (a1 : Nat) (a2 : Nat) (a3 : Nat) (a4 : DWord) (a5 : List Byte) : (State.logIn s a1 a2 a3 a4 a5).host.numVfs = s.host.numVfs := congrArg Prod.fst ((State.logIn_only _ _ _ _ _ _).same .vfs (by decide))
@[simp] theorem State.logIn_mat (s : State) (a1 : Nat) (a2 : Nat) (a3 : Nat) (a4 : DWord) (a5 : List Byte) : (State.logIn s a1 a2 a3 a4 a5).mat = s.mat := (State.logIn_only _ _ _ _ _ _).same .mat (by decide)
@[simp] theorem State.logIn_inf (s : State) (a1 : Nat) (a2 : Nat) (a3 : Nat) (a4 : DWord) (a5 : List Byte) : (State.logIn s a1 a2 a3 a4 a5).inf = s.inf := (State.logIn_only _ _ _ _ _ _).same .inf (by decide)
@[simp] theorem State.logIn_chm (s : State) (a1 : Nat) (a2 : Nat) (a3 : Nat) (a4 : DWord) (a5 : List Byte) : (State.logIn s a1 a2 a3 a4 a5).chm = s.chm := (State.logIn_only _ _ _ _ _ _).same .chm (by decide)
@[simp] theorem State.logIn_radio (s : State) (a1 : Nat) (a2 : Nat) (a3 : Nat) (a4 : DWord) (a5 : List Byte) : (State.logIn s a1 a2 a3 a4 a5).radio = s.radio := (State.logIn_only _ _ _ _ _ _).same .radio (by decide)
@[simp] theorem State.logIn_front (s : State) (a1 : Nat) (a2 : Nat) (a3 : Nat) (a4 : DWord) (a5 : List Byte) : (State.logIn s a1 a2 a3 a4 a5).front = s.front := (State.logIn_only _ _ _ _ _ _).same .front (by decide)
@[simp] theorem State.logIn_tiers (s : State) (a1 : Nat) (a2 : Nat) (a3 : Nat) (a4 : DWord) (a5 : List Byte) : (State.logIn s a1 a2 a3 a4 a5).tiers = s.tiers := (State.logIn_only _ _ _ _ _ _).same .tiers (by decide)
@[simp] theorem State.logIn_fab (s : State) (a1 : Nat) (a2 : Nat) (a3 : Nat) (a4 : DWord) (a5 : List Byte) : (State.logIn s a1 a2 a3 a4 a5).fab = s.fab := (State.logIn_only _ _ _ _ _ _).same .fab (by decide)
@[simp] theorem State.logIn_health (s : State) (a1 : Nat) (a2 : Nat) (a3 : Nat) (a4 : DWord) (a5 : List Byte) : (State.logIn s a1 a2 a3 a4 a5).health = s.health := (State.logIn_only _ _ _ _ _ _).same .health (by decide)
@[simp] theorem State.logIn_start (s : State) (a1 : Nat) (a2 : Nat) (a3 : Nat) (a4 : DWord) (a5 : List Byte) : (State.logIn s a1 a2 a3 a4 a5).start = s.start := (State.logIn_only _ _ _ _ _ _).same .start (by decide)
@[simp] theorem State.logIn_power (s : State) (a1 : Nat) (a2 : Nat) (a3 : Nat) (a4 : DWord) (a5 : List Byte) : (State.logIn s a1 a2 a3 a4 a5).power = s.power := (State.logIn_only _ _ _ _ _ _).same .power (by decide)
@[simp] theorem State.logIn_latch (s : State) (a1 : Nat) (a2 : Nat) (a3 : Nat) (a4 : DWord) (a5 : List Byte) : (State.logIn s a1 a2 a3 a4 a5).latch = s.latch := (State.logIn_only _ _ _ _ _ _).same .latch (by decide)
@[simp] theorem State.logIn_mem (s : State) (a1 : Nat) (a2 : Nat) (a3 : Nat) (a4 : DWord) (a5 : List Byte) : (State.logIn s a1 a2 a3 a4 a5).mem = s.mem := (State.logIn_only _ _ _ _ _ _).same .mem (by decide)
@[simp] theorem State.logIn_out (s : State) (a1 : Nat) (a2 : Nat) (a3 : Nat) (a4 : DWord) (a5 : List Byte) : (State.logIn s a1 a2 a3 a4 a5).out = s.out := (State.logIn_only _ _ _ _ _ _).same .out (by decide)
@[simp] theorem State.logIn_drawn (s : State) (a1 : Nat) (a2 : Nat) (a3 : Nat) (a4 : DWord) (a5 : List Byte) : (State.logIn s a1 a2 a3 a4 a5).drawn = s.drawn := (State.logIn_only _ _ _ _ _ _).same .drawn (by decide)
@[simp] theorem State.logIn_pending (s : State) (a1 : Nat) (a2 : Nat) (a3 : Nat) (a4 : DWord) (a5 : List Byte) : (State.logIn s a1 a2 a3 a4 a5).pending = s.pending := (State.logIn_only _ _ _ _ _ _).same .pending (by decide)

@[simp] theorem State.skipIn_time (s : State) : (State.skipIn s).time = s.time := rfl
@[simp] theorem State.skipIn_sched (s : State) : (State.skipIn s).sched = s.sched := rfl
@[simp] theorem State.skipIn_host (s : State) : (State.skipIn s).host = s.host := rfl
@[simp] theorem State.skipIn_mat (s : State) : (State.skipIn s).mat = s.mat := rfl
@[simp] theorem State.skipIn_inf (s : State) : (State.skipIn s).inf = s.inf := rfl
@[simp] theorem State.skipIn_chm (s : State) : (State.skipIn s).chm = s.chm := rfl
@[simp] theorem State.skipIn_radio (s : State) : (State.skipIn s).radio = s.radio := rfl
@[simp] theorem State.skipIn_front (s : State) : (State.skipIn s).front = s.front := rfl
@[simp] theorem State.skipIn_tiers (s : State) : (State.skipIn s).tiers = s.tiers := rfl
@[simp] theorem State.skipIn_fab (s : State) : (State.skipIn s).fab = s.fab := rfl
@[simp] theorem State.skipIn_rpl (s : State) : (State.skipIn s).rpl = s.rpl := rfl
@[simp] theorem State.skipIn_health (s : State) : (State.skipIn s).health = s.health := rfl
@[simp] theorem State.skipIn_start (s : State) : (State.skipIn s).start = s.start := rfl
@[simp] theorem State.skipIn_power (s : State) : (State.skipIn s).power = s.power := rfl
@[simp] theorem State.skipIn_latch (s : State) : (State.skipIn s).latch = s.latch := rfl
@[simp] theorem State.skipIn_mem (s : State) : (State.skipIn s).mem = s.mem := rfl
@[simp] theorem State.skipIn_out (s : State) : (State.skipIn s).out = s.out := rfl
@[simp] theorem State.skipIn_drawn (s : State) : (State.skipIn s).drawn = s.drawn := rfl
@[simp] theorem State.skipIn_pending (s : State) : (State.skipIn s).pending = s.pending := rfl

theorem State.diverge_only (s : State) (a1 : Nat) (a2 : BitVec 128) (a3 : DWord) (a4 : DWord) : Only [.fns, .rpl, .regs] s (State.diverge s a1 a2 a3 a4) := by
  have : Has [.fns, .rpl, .regs] .fns := Has.of rfl
  have : Has [.fns, .rpl, .regs] .rpl := Has.of rfl
  have : Has [.fns, .rpl, .regs] .regs := Has.of rfl
  exact (State.diverge_stays _ _ _ _ _ (Stays.refl _ _)).only
@[simp] theorem State.diverge_time (s : State) (a1 : Nat) (a2 : BitVec 128) (a3 : DWord) (a4 : DWord) : (State.diverge s a1 a2 a3 a4).time = s.time := (State.diverge_only _ _ _ _ _).same .time (by decide)
@[simp] theorem State.diverge_sched (s : State) (a1 : Nat) (a2 : BitVec 128) (a3 : DWord) (a4 : DWord) : (State.diverge s a1 a2 a3 a4).sched = s.sched := (State.diverge_only _ _ _ _ _).sched (by decide) (by decide) (by decide) (by decide)
@[simp] theorem State.diverge_acct (s : State) (a1 : Nat) (a2 : BitVec 128) (a3 : DWord) (a4 : DWord) : (State.diverge s a1 a2 a3 a4).host.acct = s.host.acct := (State.diverge_only _ _ _ _ _).same .acct (by decide)
@[simp] theorem State.diverge_ports (s : State) (a1 : Nat) (a2 : BitVec 128) (a3 : DWord) (a4 : DWord) : (State.diverge s a1 a2 a3 a4).host.ports = s.host.ports := (State.diverge_only _ _ _ _ _).same .ports (by decide)
@[simp] theorem State.diverge_numVfs (s : State) (a1 : Nat) (a2 : BitVec 128) (a3 : DWord) (a4 : DWord) : (State.diverge s a1 a2 a3 a4).host.numVfs = s.host.numVfs := congrArg Prod.fst ((State.diverge_only _ _ _ _ _).same .vfs (by decide))
@[simp] theorem State.diverge_mat (s : State) (a1 : Nat) (a2 : BitVec 128) (a3 : DWord) (a4 : DWord) : (State.diverge s a1 a2 a3 a4).mat = s.mat := (State.diverge_only _ _ _ _ _).same .mat (by decide)
@[simp] theorem State.diverge_inf (s : State) (a1 : Nat) (a2 : BitVec 128) (a3 : DWord) (a4 : DWord) : (State.diverge s a1 a2 a3 a4).inf = s.inf := (State.diverge_only _ _ _ _ _).same .inf (by decide)
@[simp] theorem State.diverge_chm (s : State) (a1 : Nat) (a2 : BitVec 128) (a3 : DWord) (a4 : DWord) : (State.diverge s a1 a2 a3 a4).chm = s.chm := (State.diverge_only _ _ _ _ _).same .chm (by decide)
@[simp] theorem State.diverge_radio (s : State) (a1 : Nat) (a2 : BitVec 128) (a3 : DWord) (a4 : DWord) : (State.diverge s a1 a2 a3 a4).radio = s.radio := (State.diverge_only _ _ _ _ _).same .radio (by decide)
@[simp] theorem State.diverge_front (s : State) (a1 : Nat) (a2 : BitVec 128) (a3 : DWord) (a4 : DWord) : (State.diverge s a1 a2 a3 a4).front = s.front := (State.diverge_only _ _ _ _ _).same .front (by decide)
@[simp] theorem State.diverge_tiers (s : State) (a1 : Nat) (a2 : BitVec 128) (a3 : DWord) (a4 : DWord) : (State.diverge s a1 a2 a3 a4).tiers = s.tiers := (State.diverge_only _ _ _ _ _).same .tiers (by decide)
@[simp] theorem State.diverge_fab (s : State) (a1 : Nat) (a2 : BitVec 128) (a3 : DWord) (a4 : DWord) : (State.diverge s a1 a2 a3 a4).fab = s.fab := (State.diverge_only _ _ _ _ _).same .fab (by decide)
@[simp] theorem State.diverge_health (s : State) (a1 : Nat) (a2 : BitVec 128) (a3 : DWord) (a4 : DWord) : (State.diverge s a1 a2 a3 a4).health = s.health := (State.diverge_only _ _ _ _ _).same .health (by decide)
@[simp] theorem State.diverge_start (s : State) (a1 : Nat) (a2 : BitVec 128) (a3 : DWord) (a4 : DWord) : (State.diverge s a1 a2 a3 a4).start = s.start := (State.diverge_only _ _ _ _ _).same .start (by decide)
@[simp] theorem State.diverge_power (s : State) (a1 : Nat) (a2 : BitVec 128) (a3 : DWord) (a4 : DWord) : (State.diverge s a1 a2 a3 a4).power = s.power := (State.diverge_only _ _ _ _ _).same .power (by decide)
@[simp] theorem State.diverge_latch (s : State) (a1 : Nat) (a2 : BitVec 128) (a3 : DWord) (a4 : DWord) : (State.diverge s a1 a2 a3 a4).latch = s.latch := (State.diverge_only _ _ _ _ _).same .latch (by decide)
@[simp] theorem State.diverge_mem (s : State) (a1 : Nat) (a2 : BitVec 128) (a3 : DWord) (a4 : DWord) : (State.diverge s a1 a2 a3 a4).mem = s.mem := (State.diverge_only _ _ _ _ _).same .mem (by decide)
@[simp] theorem State.diverge_out (s : State) (a1 : Nat) (a2 : BitVec 128) (a3 : DWord) (a4 : DWord) : (State.diverge s a1 a2 a3 a4).out = s.out := (State.diverge_only _ _ _ _ _).same .out (by decide)
@[simp] theorem State.diverge_drawn (s : State) (a1 : Nat) (a2 : BitVec 128) (a3 : DWord) (a4 : DWord) : (State.diverge s a1 a2 a3 a4).drawn = s.drawn := (State.diverge_only _ _ _ _ _).same .drawn (by decide)
@[simp] theorem State.diverge_pending (s : State) (a1 : Nat) (a2 : BitVec 128) (a3 : DWord) (a4 : DWord) : (State.diverge s a1 a2 a3 a4).pending = s.pending := (State.diverge_only _ _ _ _ _).same .pending (by decide)

theorem State.output_only (s : State) (a1 : BitVec 128) (a2 : List Byte) : Only [.fns, .rpl, .regs] s (State.output s a1 a2) := by
  have : Has [.fns, .rpl, .regs] .fns := Has.of rfl
  have : Has [.fns, .rpl, .regs] .rpl := Has.of rfl
  have : Has [.fns, .rpl, .regs] .regs := Has.of rfl
  exact (State.output_stays _ _ _ (Stays.refl _ _)).only
@[simp] theorem State.output_time (s : State) (a1 : BitVec 128) (a2 : List Byte) : (State.output s a1 a2).time = s.time := (State.output_only _ _ _).same .time (by decide)
@[simp] theorem State.output_sched (s : State) (a1 : BitVec 128) (a2 : List Byte) : (State.output s a1 a2).sched = s.sched := (State.output_only _ _ _).sched (by decide) (by decide) (by decide) (by decide)
@[simp] theorem State.output_acct (s : State) (a1 : BitVec 128) (a2 : List Byte) : (State.output s a1 a2).host.acct = s.host.acct := (State.output_only _ _ _).same .acct (by decide)
@[simp] theorem State.output_ports (s : State) (a1 : BitVec 128) (a2 : List Byte) : (State.output s a1 a2).host.ports = s.host.ports := (State.output_only _ _ _).same .ports (by decide)
@[simp] theorem State.output_numVfs (s : State) (a1 : BitVec 128) (a2 : List Byte) : (State.output s a1 a2).host.numVfs = s.host.numVfs := congrArg Prod.fst ((State.output_only _ _ _).same .vfs (by decide))
@[simp] theorem State.output_mat (s : State) (a1 : BitVec 128) (a2 : List Byte) : (State.output s a1 a2).mat = s.mat := (State.output_only _ _ _).same .mat (by decide)
@[simp] theorem State.output_inf (s : State) (a1 : BitVec 128) (a2 : List Byte) : (State.output s a1 a2).inf = s.inf := (State.output_only _ _ _).same .inf (by decide)
@[simp] theorem State.output_chm (s : State) (a1 : BitVec 128) (a2 : List Byte) : (State.output s a1 a2).chm = s.chm := (State.output_only _ _ _).same .chm (by decide)
@[simp] theorem State.output_radio (s : State) (a1 : BitVec 128) (a2 : List Byte) : (State.output s a1 a2).radio = s.radio := (State.output_only _ _ _).same .radio (by decide)
@[simp] theorem State.output_front (s : State) (a1 : BitVec 128) (a2 : List Byte) : (State.output s a1 a2).front = s.front := (State.output_only _ _ _).same .front (by decide)
@[simp] theorem State.output_tiers (s : State) (a1 : BitVec 128) (a2 : List Byte) : (State.output s a1 a2).tiers = s.tiers := (State.output_only _ _ _).same .tiers (by decide)
@[simp] theorem State.output_fab (s : State) (a1 : BitVec 128) (a2 : List Byte) : (State.output s a1 a2).fab = s.fab := (State.output_only _ _ _).same .fab (by decide)
@[simp] theorem State.output_health (s : State) (a1 : BitVec 128) (a2 : List Byte) : (State.output s a1 a2).health = s.health := (State.output_only _ _ _).same .health (by decide)
@[simp] theorem State.output_start (s : State) (a1 : BitVec 128) (a2 : List Byte) : (State.output s a1 a2).start = s.start := (State.output_only _ _ _).same .start (by decide)
@[simp] theorem State.output_power (s : State) (a1 : BitVec 128) (a2 : List Byte) : (State.output s a1 a2).power = s.power := (State.output_only _ _ _).same .power (by decide)
@[simp] theorem State.output_latch (s : State) (a1 : BitVec 128) (a2 : List Byte) : (State.output s a1 a2).latch = s.latch := (State.output_only _ _ _).same .latch (by decide)
@[simp] theorem State.output_mem (s : State) (a1 : BitVec 128) (a2 : List Byte) : (State.output s a1 a2).mem = s.mem := (State.output_only _ _ _).same .mem (by decide)
@[simp] theorem State.output_out (s : State) (a1 : BitVec 128) (a2 : List Byte) : (State.output s a1 a2).out = s.out := (State.output_only _ _ _).same .out (by decide)
@[simp] theorem State.output_drawn (s : State) (a1 : BitVec 128) (a2 : List Byte) : (State.output s a1 a2).drawn = s.drawn := (State.output_only _ _ _).same .drawn (by decide)
@[simp] theorem State.output_pending (s : State) (a1 : BitVec 128) (a2 : List Byte) : (State.output s a1 a2).pending = s.pending := (State.output_only _ _ _).same .pending (by decide)

end Sys2Proof.Machine
end

