-- ==== Sys2Proof/Laws/Tab.lean ====
section
/-! SUPPORT. What a table holds after a number is set or taken out. -/
namespace Sys2Proof

variable {α : Type}

@[simp] theorem Tab.find_nil (k : Nat) : Tab.find ([] : Tab α) k = none := rfl

@[simp] theorem Tab.find_set_self (t : Tab α) (k : Nat) (v : α) : (t.set k v).find k = some v := by
  induction t with
  | nil => simp [Tab.set, Tab.find]
  | cons p r ih =>
    unfold Tab.set
    split
    · simp [Tab.find]
    · split
      · simp [Tab.find]
      next h => simp [Tab.find, Ne.symm h, ih]

theorem Tab.find_set_ne (t : Tab α) {k j : Nat} (v : α) (h : j ≠ k) : (t.set k v).find j = t.find j := by
  induction t with
  | nil => simp [Tab.set, Tab.find, Ne.symm h]
  | cons p r ih =>
    unfold Tab.set
    split
    · simp [Tab.find, Ne.symm h]
    · split
      next hk => subst hk; simp [Tab.find, Ne.symm h]
      · simp [Tab.find, ih]

@[simp] theorem Tab.get_set_self (t : Tab α) (d : α) (k : Nat) (v : α) : (t.set k v).get d k = v := by simp [Tab.get]

theorem Tab.get_set_ne (t : Tab α) (d : α) {k j : Nat} (v : α) (h : j ≠ k) : (t.set k v).get d j = t.get d j := by
  simp [Tab.get, Tab.find_set_ne _ _ h]

theorem Tab.find_del_self (t : Tab α) (k : Nat) : (t.del k).find k = none := by
  induction t with
  | nil => rfl
  | cons p r ih =>
    by_cases h : p.1 = k
    · simpa [Tab.del, h] using ih
    · simpa [Tab.del, h, Tab.find] using ih

theorem Tab.find_del_ne (t : Tab α) {k j : Nat} (h : j ≠ k) : (t.del k).find j = t.find j := by
  induction t with
  | nil => rfl
  | cons p r ih =>
    by_cases hp : p.1 = k
    · subst hp; simpa [Tab.del, Tab.find, Ne.symm h] using ih
    · simp only [Tab.del, List.filter_cons, bne_iff_ne, ne_eq, hp, not_false_eq_true, if_true, Tab.find]
      split
      · rfl
      · exact ih

end Sys2Proof
end

