-- ==== Sys2Proof/Laws/Regs.lean ====
section
/-! SUPPORT. Which registers the shared operations write. -/
namespace Sys2Proof.Machine

theorem State.reg_lt (s : State) (a : Nat) : s.reg a < 2 ^ 64 := (s.regs.get 0 a).isLt

theorem State.setReg_get (s : State) (a v : Nat) : (s.setReg a v).regs.get 0 a = BitVec.ofNat 64 v := by simp [State.setReg]

theorem State.setReg_get_ne (s : State) {a b : Nat} (v : Nat) (h : b ≠ a) : (s.setReg a v).regs.get 0 b = s.regs.get 0 b := by
  simp [State.setReg, Tab.get_set_ne _ _ _ h]

theorem State.setReg_reg (s : State) (a v : Nat) : (s.setReg a v).reg a = v % 2 ^ 64 := by
  rw [State.reg, State.setReg_get, BitVec.toNat_ofNat]

theorem State.setReg_reg_ne (s : State) {a b : Nat} (v : Nat) (h : b ≠ a) : (s.setReg a v).reg b = s.reg b := by
  rw [State.reg, State.setReg_get_ne _ _ h]; rfl

theorem State.count_get_ne (s : State) {a b : Nat} (n : Nat) (h : b ≠ a) : (s.count a n).regs.get 0 b = s.regs.get 0 b :=
  State.setReg_get_ne _ _ h

theorem State.count_reg (s : State) (a n : Nat) : (s.count a n).reg a = (s.reg a + n) % 2 ^ 32 := by
  rw [State.count, State.setReg_reg, Nat.mod_eq_of_lt (Nat.lt_of_lt_of_le (Nat.mod_lt _ (by decide)) (by decide))]

theorem State.flag_get_ne (s : State) {a b : Nat} (m : Nat) (h : b ≠ a) : (s.flag a m).regs.get 0 b = s.regs.get 0 b :=
  State.setReg_get_ne _ _ h

theorem State.flag_reg (s : State) (a : Nat) {m : Nat} (h : m < 2 ^ 64) : (s.flag a m).reg a = s.reg a ||| m := by
  rw [State.flag, State.setReg_reg, Nat.mod_eq_of_lt (Nat.or_lt_two_pow (s.reg_lt a) h)]

theorem State.post_get_ne (s : State) (f q : Nat) (r : Rec) {b : Nat} (h : b ≠ Reg.HIF_QOFF_DROP) : (s.post f q r).regs.get 0 b = s.regs.get 0 b := by
  unfold State.post
  split
  · rfl
  · exact State.count_get_ne _ _ h

theorem State.statusNote_get_ne (s : State) (f : Nat) {b : Nat} (h : b ≠ Reg.HIF_QOFF_DROP) : (s.statusNote f).regs.get 0 b = s.regs.get 0 b := by
  unfold State.statusNote
  extract_lets x
  split
  · rfl
  · split
    · split
      · rfl
      · exact State.post_get_ne _ _ _ _ h
    · exact State.post_get_ne _ _ _ _ h

theorem State.raise_get_ne (s : State) (f n : Nat) {b : Nat} (h : b ≠ Reg.HIF_QOFF_DROP) : (s.raise f n).regs.get 0 b = s.regs.get 0 b :=
  State.statusNote_get_ne _ _ h

theorem State.event_get_ne (s : State) (evt en m n : Nat) {b : Nat} (h : b ≠ evt) (k : b ≠ Reg.HIF_QOFF_DROP) :
    (s.event evt en m n).regs.get 0 b = s.regs.get 0 b := by
  unfold State.event
  extract_lets t
  split
  · rw [State.raise_get_ne _ _ _ k]; exact State.flag_get_ne _ _ h
  · exact State.flag_get_ne _ _ h

/-- An event sets its flags, whether or not an attention follows. -/
theorem State.event_reg (s : State) {evt : Nat} (en : Nat) {m : Nat} (n : Nat) (h : evt ≠ Reg.HIF_QOFF_DROP) (k : m < 2 ^ 64) :
    (s.event evt en m n).reg evt = s.reg evt ||| m := by
  unfold State.event
  extract_lets t
  split
  · rw [State.reg, State.raise_get_ne _ _ _ h]; exact State.flag_reg _ _ k
  · exact State.flag_reg _ _ k

theorem State.putRec_get_ne (s : State) (kind source : Nat) (aux : DWord) (b : List Byte) {a : Nat} (h : a ∉ logRegs) :
    (s.putRec kind source aux b).regs.get 0 a = s.regs.get 0 a := by
  simp only [logRegs, List.mem_cons, List.not_mem_nil, or_false, not_or] at h
  unfold State.putRec
  extract_lets size
  split
  · rw [State.rplEvt, State.event_get_ne _ _ _ _ _ h.2.2.1 h.2.2.2, State.count_get_ne _ _ h.1]
  · split
    · exact State.event_get_ne _ _ _ _ _ h.2.2.1 h.2.2.2
    · rfl

theorem State.logIn_get_ne (s : State) (cls kind source : Nat) (aux : DWord) (b : List Byte) {a : Nat} (h : a ∉ logRegs) :
    (s.logIn cls kind source aux b).regs.get 0 a = s.regs.get 0 a := by
  unfold State.logIn
  split
  · split
    · exact State.putRec_get_ne _ _ _ _ _ h
    · simp only [logRegs, List.mem_cons, List.not_mem_nil, or_false, not_or] at h
      exact State.count_get_ne _ _ h.2.1
  · rfl

theorem State.logIn_reg_ne (s : State) (cls kind source : Nat) (aux : DWord) (b : List Byte) {a : Nat} (h : a ∉ logRegs) :
    (s.logIn cls kind source aux b).reg a = s.reg a := by rw [State.reg, State.logIn_get_ne _ _ _ _ _ _ h]; rfl

theorem State.putRec_replayed (s : State) (kind source : Nat) (aux : DWord) (b : List Byte) (h : s.replayed = false) :
    (s.putRec kind source aux b).replayed = false := by
  unfold State.putRec
  extract_lets size
  split
  · simpa [State.replayed, State.rplEvt] using h
  · split
    · simp [State.replayed, State.rplEvt]
    · simpa [State.replayed, State.addRec] using h

theorem State.logIn_replayed (s : State) (cls kind source : Nat) (aux : DWord) (b : List Byte) (h : s.replayed = false) :
    (s.logIn cls kind source aux b).replayed = false := by
  unfold State.logIn
  split
  · split
    · exact State.putRec_replayed _ _ _ _ _ h
    · simpa [State.replayed] using h
  · exact h

/-- Where a host's write to BAR2 acts, it acts on the state with the write logged. -/
theorem State.bar2_eq (s : State) (a width v : Nat) (f : State → State) (h : s.replayed = false) :
    s.bar2 a width v f = f (s.logIn 5 0x04 pf0 (BitVec.ofNat 64 (a + 2 * 2 ^ 48)) (leBytes width v)) := by simp [State.bar2, h]

end Sys2Proof.Machine
end

