-- ==== Sys2Proof/Laws/StaysRun.lean ====
section
/-! SUPPORT. Each function of launches, time, the service commands and the units keeps what every command keeps and changes only some parts: one lemma a function. -/
namespace Sys2Proof.Machine

variable {ps : List Part} {s0 : State}

theorem State.groupFail_stays (a0 : State) (a1 : Nat) (a2 : Nat) (h0 : Stays ps s0 a0) [Has ps .lists] [Has ps .units] [Has ps .fns] [Has ps .regs] : Stays ps s0 (State.groupFail a0 a1 a2) := by
  unfold State.groupFail
  repeat' first
    | with_reducible assumption
    | intro _
    | with_reducible apply State.groupDone_stays
    | with_reducible apply State.dropCmp_stays
    | with_reducible apply State.listRecord_stays
    | with_reducible apply State.failList_stays
    | (extract_lets +onlyGivenNames v
       first
         | (have hv : Sched := v; clear hv; unfold v; clear v)
         | (refine (fun (hv : Stays ps s0 v) => ?_) ?_; rotate_left; unfold v; rotate_right)
         | skip
       all_goals (try clear_value v))
    | with_reducible apply Stays.foldl
    | with_reducible exact Burns.refl _
    | with_reducible exact Nat.le_refl _
    | with_reducible exact List.prefix_refl _
    | split
    | (rw [State.mk_build]; refine Stays.upd (fun p hp => by cases p <;> first | exact absurd Has.mem hp | rfl) ?_ ?_ ?_ ?_ ?_)

theorem State.abortGroup_stays (a0 : State) (a1 : Nat) (h0 : Stays ps s0 a0) [Has ps .lists] [Has ps .units] [Has ps .fns] [Has ps .front] [Has ps .fab] [Has ps .rpl] [Has ps .regs] [Has ps .out] : Stays ps s0 (State.abortGroup a0 a1) := by
  unfold State.abortGroup
  repeat' first
    | with_reducible assumption
    | intro _
    | with_reducible apply State.tellMembers_stays
    | with_reducible apply State.groupFail_stays
    | (extract_lets +onlyGivenNames v
       first
         | (have hv : Sched := v; clear hv; unfold v; clear v)
         | skip
       all_goals (try clear_value v))
    | with_reducible exact Burns.refl _
    | with_reducible exact Nat.le_refl _
    | with_reducible exact List.prefix_refl _
    | (rw [State.mk_build]; refine Stays.upd (fun p hp => by cases p <;> first | exact absurd Has.mem hp | rfl) ?_ ?_ ?_ ?_ ?_)

theorem State.armList_stays (a0 : State) (a1 : Ctx) (a2 : ListRec) (a3 : Cmd) (h0 : Stays ps s0 a0) [Has ps .lists] [Has ps .fns] [Has ps .front] [Has ps .fab] [Has ps .rpl] [Has ps .regs] [Has ps .out] : Stays ps s0 (State.armList a0 a1 a2 a3).2 := by
  unfold State.armList
  repeat' first
    | with_reducible assumption
    | intro _
    | with_reducible apply State.countRefuse_stays
    | with_reducible apply State.count_stays
    | with_reducible apply State.groupArm_stays
    | (extract_lets +onlyGivenNames v
       first
         | (have hv : Sched := v; clear hv; unfold v; clear v)
         | (refine (fun (hv : Stays ps s0 v) => ?_) ?_; rotate_left; unfold v; rotate_right)
         | skip
       all_goals (try clear_value v))
    | with_reducible exact Burns.refl _
    | with_reducible exact Nat.le_refl _
    | with_reducible exact List.prefix_refl _
    | split
    | (rw [State.mk_build]; refine Stays.upd (fun p hp => by cases p <;> first | exact absurd Has.mem hp | rfl) ?_ ?_ ?_ ?_ ?_)

theorem State.atomicBack_stays (a0 : State) (a1 : Nat) (a2 : Option DWord) (h0 : Stays ps s0 a0) [Has ps .lists] [Has ps .cyclic] [Has ps .units] [Has ps .fns] [Has ps .front] [Has ps .tiers] [Has ps .fab] [Has ps .rpl] [Has ps .regs] [Has ps .mem] [Has ps .out] : Stays ps s0 (State.atomicBack a0 a1 a2) := by
  unfold State.atomicBack
  repeat' first
    | with_reducible assumption
    | with_reducible apply State.dropXfer_stays
    | with_reducible apply State.outStore_stays
    | with_reducible apply State.finishCmd_stays
    | (extract_lets +onlyGivenNames v
       first
         | (refine (fun (hv : Stays ps s0 v) => ?_) ?_; rotate_left; unfold v; rotate_right)
         | skip
       all_goals (try clear_value v))
    | split

theorem State.beginStream_stays (a0 : State) (a1 : Nat) (a2 : Bool) (a3 : Running) (a4 : Cmd) (a5 : Ctx) (h0 : Stays ps s0 a0) [Has ps .cyclic] [Has ps .units] [Has ps .acct] [Has ps .mat] [Has ps .regs] : Stays ps s0 (State.beginStream a0 a1 a2 a3 a4 a5) := by
  unfold State.beginStream
  repeat' first
    | with_reducible assumption
    | with_reducible apply State.failList_stays
    | with_reducible apply State.count_stays
    | with_reducible apply State.chargeRef_stays
    | with_reducible apply State.setArray_stays
    | with_reducible apply State.setRun_stays
    | (extract_lets +onlyGivenNames v
       first
         | (refine (fun (hv : Stays ps s0 v) => ?_) ?_; rotate_left; unfold v; rotate_right)
         | skip
       all_goals (try clear_value v))
    | split

theorem State.bringIn_stays (a0 : State) (a1 : Nat) (a2 : Nat) (a3 : Swap) (h0 : Stays ps s0 a0) [Has ps .cyclic] [Has ps .ctxs] [Has ps .acct] [Has ps .regs] [Has ps .mem] : Stays ps s0 (State.bringIn a0 a1 a2 a3) := by
  unfold State.bringIn
  repeat' first
    | with_reducible assumption
    | with_reducible apply State.setCluster_stays
    | with_reducible apply State.acct_stays
    | with_reducible apply State.charge_stays
    | with_reducible apply State.seat_stays
    | (extract_lets +onlyGivenNames v
       first
         | (refine (fun (hv : Stays ps s0 v) => ?_) ?_; rotate_left; unfold v; rotate_right)
         | skip
       all_goals (try clear_value v))
    | split

theorem State.setCore_stays (a0 : State) (a1 : Nat) (a2 : Chm) (h0 : Stays ps s0 a0) [Has ps .chm] : Stays ps s0 (State.setCore a0 a1 a2) := by
  unfold State.setCore
  repeat' first
    | with_reducible assumption
    | intro _
    | (extract_lets +onlyGivenNames v; all_goals (try clear_value v))
    | with_reducible exact Burns.refl _
    | with_reducible exact Nat.le_refl _
    | with_reducible exact List.prefix_refl _
    | (rw [State.mk_build]; refine Stays.upd (fun p hp => by cases p <;> first | exact absurd Has.mem hp | rfl) ?_ ?_ ?_ ?_ ?_)

theorem State.chmFault_stays (a0 : State) (a1 : Nat) (a2 : Nat) (a3 : Nat) (a4 : Nat) (a5 : Nat) (h0 : Stays ps s0 a0) [Has ps .units] [Has ps .chm] [Has ps .regs] : Stays ps s0 (State.chmFault a0 a1 a2 a3 a4 a5) := by
  unfold State.chmFault
  repeat' first
    | with_reducible assumption
    | with_reducible apply State.setReg_stays
    | with_reducible apply State.failList_stays
    | with_reducible apply State.setCore_stays

theorem State.chmUe_stays (a0 : State) (a1 : Nat) (a2 : Nat) (h0 : Stays ps s0 a0) [Has ps .lists] [Has ps .units] [Has ps .fns] [Has ps .ports] [Has ps .chm] [Has ps .radio] [Has ps .front] [Has ps .tiers] [Has ps .fab] [Has ps .rpl] [Has ps .health] [Has ps .start] [Has ps .regs] [Has ps .out] : Stays ps s0 (State.chmUe a0 a1 a2) := by
  unfold State.chmUe
  repeat' first
    | with_reducible assumption
    | intro _
    | with_reducible apply State.setCore_stays
    | with_reducible apply State.failList_stays
    | with_reducible apply State.healthLog_stays
    | with_reducible apply State.deduct_stays
    | (extract_lets +onlyGivenNames v; all_goals (try clear_value v))
    | with_reducible exact Burns.refl _
    | with_reducible exact Nat.le_refl _
    | with_reducible exact List.prefix_refl _
    | (rw [State.mk_build]; refine Stays.upd (fun p hp => by cases p <;> first | exact absurd Has.mem hp | rfl) ?_ ?_ ?_ ?_ ?_)

theorem State.chmCycles_stays (a0 : State) (a1 : Nat) (a2 : Ctx) (a3 : CRun) (a4 : Nat) (a5 : Nat) (h0 : Stays ps s0 a0) [Has ps .acct] [Has ps .regs] : Stays ps s0 (State.chmCycles a0 a1 a2 a3 a4 a5) := by
  unfold State.chmCycles
  repeat' first
    | with_reducible assumption
    | with_reducible apply State.count64_stays
    | with_reducible apply State.work_stays
    | with_reducible apply State.setReg_stays

theorem State.doBundle_stays (a0 : State) (a1 : Nat) (a2 : Ctx) (a3 : CRun) (a4 : Bundle) (a5 : Nat) (h0 : Stays ps s0 a0) [Has ps .acct] [Has ps .chm] [Has ps .regs] [Has ps .mem] [Has ps .drawn] : Stays ps s0 (State.doBundle a0 a1 a2 a3 a4 a5) := by
  unfold State.doBundle
  repeat' first
    | with_reducible assumption
    | intro _
    | with_reducible apply State.chmCycles_stays
    | with_reducible apply State.count64_stays
    | with_reducible apply State.count_stays
    | with_reducible apply State.setCore_stays
    | (extract_lets +onlyGivenNames v; all_goals (try clear_value v))
    | with_reducible apply Mem.wf_foldl
    | with_reducible exact Burns.refl _
    | with_reducible exact Nat.le_refl _
    | with_reducible exact Nat.le_succ _
    | with_reducible exact List.prefix_refl _
    | with_reducible apply Mem.wf_wrBytes
    | split
    | solve_by_elim
    | (rw [State.mk_build]; refine Stays.upd (fun p hp => by cases p <;> first | exact absurd Has.mem hp | rfl) ?_ ?_ ?_ ?_ ?_)

theorem State.bundle_stays (a0 : State) (a1 : Nat) (a2 : Nat) (h0 : Stays ps s0 a0) [Has ps .lists] [Has ps .units] [Has ps .fns] [Has ps .ports] [Has ps .acct] [Has ps .chm] [Has ps .radio] [Has ps .front] [Has ps .tiers] [Has ps .fab] [Has ps .rpl] [Has ps .health] [Has ps .start] [Has ps .regs] [Has ps .mem] [Has ps .out] [Has ps .drawn] : StaysRes ps s0 (State.bundle a0 a1 a2) := by
  unfold State.bundle
  repeat' first
    | with_reducible assumption
    | with_reducible exact StaysRes.ofFault
    | with_reducible apply StaysRes.ofNext
    | with_reducible apply State.chmFault_stays
    | with_reducible apply State.chmUe_stays
    | with_reducible apply State.doBundle_stays
    | (extract_lets +onlyGivenNames v; all_goals (try clear_value v))
    | split

theorem State.putHandle_stays (a0 : State) (a1 : Nat) (a2 : Nat) (a3 : Handle) (h0 : Stays ps s0 a0) (t : State) (h : (State.putHandle a0 a1 a2 a3) = some t) [Has ps .ctxs] : Stays ps s0 t := by
  revert t
  intro t h
  unfold State.putHandle at h
  split at h
  · injection h with h; subst h; exact h0
  · split at h
    · cases h
    · injection h with h; subst h; exact State.setCtx_stays _ _ h0

theorem State.checkPassed_stays (a0 : State) (a1 : Nat) (a2 : FedRow) (h0 : Stays ps s0 a0) [Has ps .lists] [Has ps .units] [Has ps .fns] [Has ps .mat] [Has ps .front] [Has ps .fab] [Has ps .rpl] [Has ps .regs] [Has ps .out] : Stays ps s0 (State.checkPassed a0 a1 a2) := by
  unfold State.checkPassed
  repeat' first
    | with_reducible assumption
    | with_reducible apply State.finishCmd_stays
    | with_reducible apply State.setArray_stays
    | with_reducible apply State.setRun_stays
    | (extract_lets +onlyGivenNames v; all_goals (try clear_value v))
    | split

theorem State.chmFill_stays (a0 : State) (a1 : Nat) (a2 : Running) (a3 : Ctx) (a4 : Cmd) (a5 : Nat) (a6 : Nat) (a7 : Nat) (h0 : Stays ps s0 a0) [Has ps .lists] [Has ps .cyclic] [Has ps .units] [Has ps .fns] [Has ps .ports] [Has ps .acct] [Has ps .radio] [Has ps .front] [Has ps .tiers] [Has ps .fab] [Has ps .rpl] [Has ps .health] [Has ps .start] [Has ps .regs] [Has ps .mem] [Has ps .out] : Stays ps s0 (State.chmFill a0 a1 a2 a3 a4 a5 a6 a7) := by
  unfold State.chmFill
  extract_lets +onlyGivenNames src
  split
  · exact State.failList_stays _ _ _ h0
  · extract_lets +onlyGivenNames f
    have hf : Stays ps s0 f.2.2 := State.fetch_stays _ _ _ h0
    split
    · exact State.failList_stays _ _ _ hf
    · extract_lets y t
      have hy : Stays ps s0 y := hf
      have ht : Stays ps s0 t := by
        unfold t
        rw [State.mk_build]
        exact Stays.upd (fun p hp => by cases p <;> first | exact absurd Has.mem hp | rfl) (t := y) hy (fun h => Mem.wf_wrBytes _ _ h) (List.prefix_refl _) (Nat.le_refl _) (Burns.refl _)
      exact State.finishCmd_stays _ _ _ (State.work_stays _ _ _ _ (State.count64_stays _ _ _ ht))

theorem State.control_stays (a0 : State) (a1 : Nat) (a2 : Nat) (a3 : Chm → DWord → Chm × Nat) (h0 : Stays ps s0 a0) [Has ps .lists] [Has ps .units] [Has ps .fns] [Has ps .ports] [Has ps .acct] [Has ps .chm] [Has ps .radio] [Has ps .front] [Has ps .tiers] [Has ps .fab] [Has ps .rpl] [Has ps .health] [Has ps .start] [Has ps .regs] [Has ps .out] : StaysRes ps s0 (State.control a0 a1 a2 a3) := by
  unfold State.control
  repeat' first
    | with_reducible assumption
    | with_reducible exact StaysRes.ofFault
    | with_reducible apply StaysRes.ofNext
    | with_reducible apply State.chmFault_stays
    | with_reducible apply State.chmUe_stays
    | with_reducible apply State.setCore_stays
    | with_reducible apply State.chmCycles_stays
    | (extract_lets +onlyGivenNames v; all_goals (try clear_value v))
    | split

theorem State.csumPush_stays (a0 : State) (a1 : Nat) (a2 : LogEntry) (h0 : Stays ps s0 a0) [Has ps .mat] [Has ps .regs] [Has ps .drawn] : Stays ps s0 (State.csumPush a0 a1 a2) := by
  unfold State.csumPush
  extract_lets h ma v w x
  have hv : Stays ps s0 v := by
    unfold v; rw [State.mk_build]; exact Stays.upd (fun p hp => by cases p <;> first | exact absurd Has.mem hp | rfl) h0 id (List.prefix_refl _) (Nat.le_succ _) (Burns.refl _)
  have hw : Stays ps s0 w := State.setReg_stays _ _ _ hv
  have hx : Stays ps s0 x := by
    unfold x
    split
    · exact State.setReg_stays _ _ _ hw
    · exact State.count_stays _ _ _ (State.setReg_stays _ _ _ hw)
  exact State.setReg_stays _ _ _ hx

theorem State.csumLog_stays (a0 : State) (a1 : Nat) (a2 : FedRow) (a3 : Int) (h0 : Stays ps s0 a0) [Has ps .lists] [Has ps .units] [Has ps .fns] [Has ps .ports] [Has ps .mat] [Has ps .radio] [Has ps .front] [Has ps .fab] [Has ps .rpl] [Has ps .health] [Has ps .start] [Has ps .regs] [Has ps .out] [Has ps .drawn] : Stays ps s0 (State.csumLog a0 a1 a2 a3) := by
  unfold State.csumLog
  extract_lets rpt v ib w x y
  have hv : Stays ps s0 v := State.count_stays _ _ _ (State.csumPush_stays _ _ _ h0)
  have hw : Stays ps s0 w := State.setArray_stays _ _ _ hv
  have hx : Stays ps s0 x := by
    unfold x
    split
    · exact State.raise_stays _ _ _ hw
    · exact hw
  exact State.healthLog_stays _ _ _ _ _ _ (State.deduct_stays _ _ _ hx)

theorem State.setHarq_stays (a0 : State) (a1 : Nat) (a2 : Harq) (h0 : Stays ps s0 a0) [Has ps .radio] : Stays ps s0 (State.setHarq a0 a1 a2) := by
  unfold State.setHarq
  repeat' first
    | with_reducible assumption
    | intro _
    | (extract_lets +onlyGivenNames v; all_goals (try clear_value v))
    | with_reducible exact Burns.refl _
    | with_reducible exact Nat.le_refl _
    | with_reducible exact List.prefix_refl _
    | (rw [State.mk_build]; refine Stays.upd (fun p hp => by cases p <;> first | exact absurd Has.mem hp | rfl) ?_ ?_ ?_ ?_ ?_)

theorem State.sendReq_stays (a0 : State) (a1 : Ctx) (a2 : Txn) (a3 : ReqFor) (a4 : BitVec 128) (h0 : Stays ps s0 a0) [Has ps .cyclic] [Has ps .fns] [Has ps .acct] [Has ps .front] [Has ps .fab] [Has ps .rpl] [Has ps .regs] [Has ps .out] : Stays ps s0 (State.sendReq a0 a1 a2 a3 a4) := by
  unfold State.sendReq
  repeat' first
    | with_reducible assumption
    | with_reducible apply State.issueReq_stays
    | with_reducible apply State.acct_stays
    | with_reducible apply State.charge_stays

theorem State.sendHandle_stays (a0 : State) (a1 : Ctx) (a2 : Xfer) (a3 : Nat) (a4 : Nat) (h0 : Stays ps s0 a0) (t : State) (h : (State.sendHandle a0 a1 a2 a3 a4) = some t) [Has ps .cyclic] [Has ps .units] [Has ps .fns] [Has ps .acct] [Has ps .front] [Has ps .fab] [Has ps .rpl] [Has ps .regs] [Has ps .out] : Stays ps s0 t := by
  revert t
  intro t h
  unfold State.sendHandle at h
  extract_lets c m hd tx at h
  split at h
  · cases h
  · split at h
    · injection h with h; subst h; exact State.failXfer_stays _ _ _ _ (State.count_stays _ _ _ h0)
    · injection h with h; subst h; exact State.sendReq_stays _ _ _ _ _ (State.setXfer_stays _ _ h0)

theorem State.deliver_stays (a0 : State) (a1 : Ctx) (a2 : Nat) (a3 : Nat) (a4 : Nat) (h0 : Stays ps s0 a0) [Has ps .lists] [Has ps .cyclic] [Has ps .ctxs] [Has ps .units] [Has ps .fns] [Has ps .acct] [Has ps .front] [Has ps .fab] [Has ps .rpl] [Has ps .regs] [Has ps .out] : Stays ps s0 (State.deliver a0 a1 a2 a3 a4) := by
  induction a4 generalizing a0 a1 a2 a3 with
  | zero =>
    unfold State.deliver
    repeat' first
      | with_reducible assumption
  | succ n ih =>
    unfold State.deliver
    repeat' first
      | with_reducible assumption
      | intro _
      | with_reducible apply ih
      | with_reducible apply State.setXfer_stays
      | with_reducible apply State.dropXfer_stays
      | with_reducible apply State.finishCmd_stays
      | with_reducible apply State.setCtx_stays
      | (refine State.sendHandle_stays _ _ _ _ _ ?_ _ (by assumption))
      | (extract_lets +onlyGivenNames v
         first
           | (have hv : (_ → _) := v; clear hv; unfold v; clear v)
           | (refine (fun (hv : Stays ps s0 v) => ?_) ?_; rotate_left; unfold v; rotate_right)
           | skip
         all_goals (try clear_value v))
      | with_reducible exact Burns.refl _
      | with_reducible exact Nat.le_refl _
      | with_reducible exact List.prefix_refl _
      | split
      | (rw [State.mk_build]; refine Stays.upd (fun p hp => by cases p <;> first | exact absurd Has.mem hp | rfl) ?_ ?_ ?_ ?_ ?_)

theorem State.disarm_stays (a0 : State) (a1 : Cmp) (h0 : Stays ps s0 a0) [Has ps .lists] : Stays ps s0 (State.disarm a0 a1) := by
  unfold State.disarm
  repeat' first
    | with_reducible assumption
    | intro _
    | with_reducible apply State.groupDone_stays
    | with_reducible apply State.dropCmp_stays
    | (extract_lets +onlyGivenNames v
       first
         | (have hv : Sched := v; clear hv; unfold v; clear v)
         | (refine (fun (hv : Stays ps s0 v) => ?_) ?_; rotate_left; unfold v; rotate_right)
         | skip
       all_goals (try clear_value v))
    | with_reducible exact Burns.refl _
    | with_reducible exact Nat.le_refl _
    | with_reducible exact List.prefix_refl _
    | (rw [State.mk_build]; refine Stays.upd (fun p hp => by cases p <;> first | exact absurd Has.mem hp | rfl) ?_ ?_ ?_ ?_ ?_)

theorem State.dropTests_stays (a0 : State) (a1 : Nat) (h0 : Stays ps s0 a0) [Has ps .health] : Stays ps s0 (State.dropTests a0 a1) := by
  unfold State.dropTests
  repeat' first
    | with_reducible assumption
    | intro _
    | (extract_lets +onlyGivenNames v
       first
         | (have hv : (_ → _) := v; clear hv; unfold v; clear v)
         | skip
       all_goals (try clear_value v))
    | with_reducible exact Burns.refl _
    | with_reducible exact Nat.le_refl _
    | with_reducible exact List.prefix_refl _
    | (rw [State.mk_build]; refine Stays.upd (fun p hp => by cases p <;> first | exact absurd Has.mem hp | rfl) ?_ ?_ ?_ ?_ ?_)

theorem State.endIfDue_stays (a0 : State) (a1 : Nat) (h0 : Stays ps s0 a0) [Has ps .lists] [Has ps .ctxs] [Has ps .fns] [Has ps .mat] [Has ps .tiers] [Has ps .fab] [Has ps .regs] : Stays ps s0 (State.endIfDue a0 a1) := by
  unfold State.endIfDue
  repeat' first
    | with_reducible assumption
    | with_reducible apply State.dropCtx_stays
    | split

theorem State.issueTile_stays (a0 : State) (a1 : Ctx) (a2 : Xfer) (a3 : Nat) (h0 : Stays ps s0 a0) (t : State) (h : (State.issueTile a0 a1 a2 a3) = some t) [Has ps .lists] [Has ps .cyclic] [Has ps .units] [Has ps .fns] [Has ps .ports] [Has ps .acct] [Has ps .radio] [Has ps .front] [Has ps .tiers] [Has ps .fab] [Has ps .rpl] [Has ps .health] [Has ps .start] [Has ps .regs] [Has ps .out] : Stays ps s0 t := by
  revert t
  intro t h
  unfold State.issueTile at h
  extract_lets c g tl peer at h
  split at h
  · injection h with h; subst h; exact State.failXfer_stays _ _ _ _ h0
  · extract_lets fe tx v at h
    have hf : Stays ps s0 fe.2.2 := by
      unfold fe
      split
      · exact State.fetch_stays _ _ _ h0
      · exact h0
    split at h
    · injection h with h; subst h; exact State.failXfer_stays _ _ _ _ hf
    · split at h
      · cases h
      · split at h
        · cases h
        · split at h
          · injection h with h; subst h
            exact State.failXfer_stays _ _ _ _ (State.count_stays _ _ _ h0)
          · injection h with h; subst h
            exact Stays.foldl (State.setXfer_stays _ _ hf) (fun u x hu => State.sendReq_stays _ _ _ _ _ hu)

theorem State.rmWait_stays (a0 : State) (a1 : Nat) (h0 : Stays ps s0 a0) [Has ps .cyclic] [Has ps .regs] : Stays ps s0 (State.rmWait a0 a1) := by
  unfold State.rmWait
  repeat' first
    | with_reducible assumption
    | intro _
    | with_reducible apply State.count_stays
    | (extract_lets +onlyGivenNames v
       first
         | (have hv : Sched := v; clear hv; unfold v; clear v)
         | skip
       all_goals (try clear_value v))
    | with_reducible exact Burns.refl _
    | with_reducible exact Nat.le_refl _
    | with_reducible exact List.prefix_refl _
    | split
    | (rw [State.mk_build]; refine Stays.upd (fun p hp => by cases p <;> first | exact absurd Has.mem hp | rfl) ?_ ?_ ?_ ?_ ?_)

theorem State.issueTiles_stays (a0 : State) (a1 : Ctx) (a2 : Nat) (a3 : Nat) (a4 : Nat) (h0 : Stays ps s0 a0) [Has ps .lists] [Has ps .cyclic] [Has ps .units] [Has ps .fns] [Has ps .ports] [Has ps .acct] [Has ps .radio] [Has ps .front] [Has ps .tiers] [Has ps .fab] [Has ps .rpl] [Has ps .health] [Has ps .start] [Has ps .regs] [Has ps .out] : Stays ps s0 (State.issueTiles a0 a1 a2 a3 a4) := by
  induction a4 generalizing a0 a1 a2 a3 with
  | zero =>
    unfold State.issueTiles
    repeat' first
      | with_reducible assumption
  | succ n ih =>
    unfold State.issueTiles
    repeat' first
      | with_reducible assumption
      | with_reducible apply ih
      | with_reducible apply State.rmWait_stays
      | (refine State.issueTile_stays _ _ _ _ ?_ _ (by assumption))
      | split

theorem State.pumpXfer_stays (a0 : State) (a1 : Nat) (h0 : Stays ps s0 a0) [Has ps .lists] [Has ps .cyclic] [Has ps .ctxs] [Has ps .units] [Has ps .fns] [Has ps .ports] [Has ps .acct] [Has ps .radio] [Has ps .front] [Has ps .tiers] [Has ps .fab] [Has ps .rpl] [Has ps .health] [Has ps .start] [Has ps .regs] [Has ps .out] : Stays ps s0 (State.pumpXfer a0 a1) := by
  unfold State.pumpXfer
  repeat' first
    | with_reducible assumption
    | with_reducible apply State.settleXfer_stays
    | with_reducible apply State.failXfer_stays
    | with_reducible apply State.issueTiles_stays
    | with_reducible apply State.deliver_stays
    | split

theorem State.handleBack_stays (a0 : State) (a1 : Nat) (a2 : Nat) (h0 : Stays ps s0 a0) [Has ps .lists] [Has ps .cyclic] [Has ps .ctxs] [Has ps .units] [Has ps .fns] [Has ps .ports] [Has ps .acct] [Has ps .radio] [Has ps .front] [Has ps .tiers] [Has ps .fab] [Has ps .rpl] [Has ps .health] [Has ps .start] [Has ps .regs] [Has ps .out] : Stays ps s0 (State.handleBack a0 a1 a2) := by
  unfold State.handleBack
  repeat' first
    | with_reducible assumption
    | with_reducible apply State.pumpXfer_stays
    | with_reducible apply State.setXfer_stays
    | split

theorem State.stopRegion_stays (a0 : State) (a1 : Nat) (a2 : Nat) (h0 : Stays ps s0 a0) [Has ps .lists] [Has ps .cyclic] [Has ps .ctxs] [Has ps .units] [Has ps .fns] [Has ps .ports] [Has ps .mat] [Has ps .inf] [Has ps .chm] [Has ps .radio] [Has ps .front] [Has ps .tiers] [Has ps .fab] [Has ps .rpl] [Has ps .health] [Has ps .start] [Has ps .regs] [Has ps .out] : Stays ps s0 (State.stopRegion a0 a1 a2) := by
  unfold State.stopRegion
  repeat' first
    | with_reducible assumption
    | intro _
    | with_reducible apply State.dropTests_stays
    | with_reducible apply State.reapSteps_stays
    | with_reducible apply State.quarSettled_stays
    | with_reducible apply State.stopGrain_stays
    | with_reducible apply State.setRegion_stays
    | with_reducible apply State.cycEvt_stays
    | with_reducible apply State.count_stays
    | (extract_lets +onlyGivenNames v
       first
         | (refine (fun (hv : Stays ps s0 v) => ?_) ?_; rotate_left; unfold v; rotate_right)
         | skip
       all_goals (try clear_value v))
    | with_reducible apply Stays.foldl
    | split

theorem State.hardStopNow_stays (a0 : State) (a1 : Nat) (h0 : Stays ps s0 a0) [Has ps .lists] [Has ps .cyclic] [Has ps .ctxs] [Has ps .units] [Has ps .fns] [Has ps .ports] [Has ps .mat] [Has ps .inf] [Has ps .chm] [Has ps .radio] [Has ps .front] [Has ps .tiers] [Has ps .fab] [Has ps .rpl] [Has ps .health] [Has ps .start] [Has ps .regs] [Has ps .out] : Stays ps s0 (State.hardStopNow a0 a1) := by
  unfold State.hardStopNow
  repeat' first
    | with_reducible assumption
    | with_reducible apply State.stopRegion_stays
    | split

theorem execSnapshot_stays (a0 : State) (h0 : Stays ps s0 a0) [Has ps .fns] [Has ps .rpl] [Has ps .regs] : StaysRes ps s0 (execSnapshot a0) := by
  unfold execSnapshot
  repeat' first
    | with_reducible assumption
    | intro _
    | with_reducible apply StaysRes.ofNext
    | with_reducible apply State.bar2_stays
    | with_reducible apply State.setReg_stays

theorem State.markBlocked_stays (a0 : State) (a1 : Region) (a2 : Nat) (a3 : Nat) (h0 : Stays ps s0 a0) [Has ps .cyclic] [Has ps .ctxs] : Stays ps s0 (State.markBlocked a0 a1 a2 a3) := by
  unfold State.markBlocked
  repeat' first
    | with_reducible assumption
    | intro _
    | with_reducible apply State.setCtx_stays
    | (extract_lets +onlyGivenNames v; all_goals (try clear_value v))
    | with_reducible apply Stays.foldl
    | split

theorem State.startTests_stays (a0 : State) (a1 : Nat) (a2 : Nat) (a3 : Nat) (h0 : Stays ps s0 a0) [Has ps .health] : Stays ps s0 (State.startTests a0 a1 a2 a3) := by
  unfold State.startTests
  repeat' first
    | with_reducible assumption
    | intro _
    | (extract_lets +onlyGivenNames v; all_goals (try clear_value v))
    | with_reducible apply Stays.foldl
    | with_reducible exact Burns.refl _
    | with_reducible exact Nat.le_refl _
    | with_reducible exact List.prefix_refl _
    | split
    | (rw [State.mk_build]; refine Stays.upd (fun p hp => by cases p <;> first | exact absurd Has.mem hp | rfl) ?_ ?_ ?_ ?_ ?_)

theorem State.openWindow_stays (a0 : State) (a1 : Nat) (h0 : Stays ps s0 a0) [Has ps .cyclic] [Has ps .ctxs] [Has ps .fns] [Has ps .mat] [Has ps .health] [Has ps .regs] [Has ps .mem] : Stays ps s0 (State.openWindow a0 a1) := by
  unfold State.openWindow
  repeat' first
    | with_reducible assumption
    | intro _
    | with_reducible apply State.spillRegion_stays
    | with_reducible apply State.restoreRegion_stays
    | with_reducible apply State.startTests_stays
    | with_reducible apply State.refresh_stays
    | with_reducible apply State.deferSwap_stays
    | (extract_lets +onlyGivenNames v
       first
         | (refine (fun (hv : Stays ps s0 v) => ?_) ?_; rotate_left; unfold v; rotate_right)
         | skip
       all_goals (try clear_value v))
    | with_reducible apply Stays.foldl
    | split

theorem State.seqUpdate_stays (a0 : State) (a1 : Nat) (h0 : Stays ps s0 a0) [Has ps .lists] [Has ps .cyclic] [Has ps .ctxs] [Has ps .units] [Has ps .fns] [Has ps .ports] [Has ps .mat] [Has ps .inf] [Has ps .chm] [Has ps .radio] [Has ps .front] [Has ps .tiers] [Has ps .fab] [Has ps .rpl] [Has ps .health] [Has ps .start] [Has ps .regs] [Has ps .mem] [Has ps .out] : Stays ps s0 (State.seqUpdate a0 a1) := by
  unfold State.seqUpdate
  repeat' first
    | with_reducible assumption
    | with_reducible apply State.stopRegion_stays
    | with_reducible apply State.dropTests_stays
    | with_reducible apply State.setRegion_stays
    | with_reducible apply State.markBlocked_stays
    | with_reducible apply State.openWindow_stays
    | (extract_lets +onlyGivenNames v
       first
         | (refine (fun (hv : Stays ps s0 v) => ?_) ?_; rotate_left; unfold v; rotate_right)
         | skip
       all_goals (try clear_value v))
    | split

theorem State.stepTo_stays (a0 : State) (a1 : Nat) (h0 : Stays ps s0 a0) [Has ps .time] [Has ps .lists] [Has ps .cyclic] [Has ps .ctxs] [Has ps .units] [Has ps .fns] [Has ps .ports] [Has ps .mat] [Has ps .inf] [Has ps .chm] [Has ps .radio] [Has ps .front] [Has ps .tiers] [Has ps .fab] [Has ps .rpl] [Has ps .health] [Has ps .start] [Has ps .regs] [Has ps .mem] [Has ps .out] : Stays ps s0 (State.stepTo a0 a1) := by
  unfold State.stepTo
  repeat' first
    | with_reducible assumption
    | intro _
    | with_reducible apply State.setCounter_stays
    | with_reducible apply State.setSrc_stays
    | with_reducible apply State.reevaluate_stays
    | with_reducible apply State.timTo_stays
    | with_reducible apply State.hardStopNow_stays
    | with_reducible apply State.seqUpdate_stays
    | (extract_lets +onlyGivenNames v
       first
         | (refine (fun (hv : Stays ps s0 v) => ?_) ?_; rotate_left; unfold v; rotate_right)
         | skip
       all_goals (try clear_value v))
    | with_reducible apply Stays.foldl
    | with_reducible exact Burns.refl _
    | with_reducible exact Nat.le_refl _
    | with_reducible exact List.prefix_refl _
    | (rw [State.mk_build]; refine Stays.upd (fun p hp => by cases p <;> first | exact absurd Has.mem hp | rfl) ?_ ?_ ?_ ?_ ?_)

theorem execRestep_stays (a0 : State) (h0 : Stays ps s0 a0) [Has ps .time] [Has ps .lists] [Has ps .cyclic] [Has ps .ctxs] [Has ps .units] [Has ps .fns] [Has ps .ports] [Has ps .mat] [Has ps .inf] [Has ps .chm] [Has ps .radio] [Has ps .front] [Has ps .tiers] [Has ps .fab] [Has ps .rpl] [Has ps .health] [Has ps .start] [Has ps .regs] [Has ps .mem] [Has ps .out] : StaysRes ps s0 (execRestep a0) := by
  unfold execRestep
  repeat' first
    | with_reducible assumption
    | intro _
    | with_reducible apply StaysRes.ofNext
    | with_reducible apply State.bar2_stays
    | with_reducible apply State.timEvt_stays
    | with_reducible apply State.stepTo_stays
    | (extract_lets +onlyGivenNames v; all_goals (try clear_value v))
    | split

theorem execRequalify_stays (a0 : State) (h0 : Stays ps s0 a0) [Has ps .time] [Has ps .fns] [Has ps .rpl] [Has ps .regs] : StaysRes ps s0 (execRequalify a0) := by
  unfold execRequalify
  repeat' first
    | with_reducible assumption
    | intro _
    | with_reducible apply StaysRes.ofNext
    | with_reducible apply State.bar2_stays
    | with_reducible apply State.setSrc_stays
    | (extract_lets +onlyGivenNames v; all_goals (try clear_value v))
    | with_reducible apply Stays.foldl

theorem execTimGrpAbort_stays (a0 : Nat) (a1 : State) (h1 : Stays ps s0 a1) [Has ps .lists] [Has ps .units] [Has ps .fns] [Has ps .front] [Has ps .fab] [Has ps .rpl] [Has ps .regs] [Has ps .out] : StaysRes ps s0 (execTimGrpAbort a0 a1) := by
  unfold execTimGrpAbort
  repeat' first
    | with_reducible assumption
    | intro _
    | with_reducible exact StaysRes.ofFault
    | with_reducible apply StaysRes.ofNext
    | with_reducible apply State.bar2_stays
    | with_reducible apply State.abortGroup_stays
    | (extract_lets +onlyGivenNames v; all_goals (try clear_value v))
    | split

theorem execIbxCsAck_stays (a0 : Nat) (a1 : Nat) (a2 : State) (h2 : Stays ps s0 a2) [Has ps .fns] [Has ps .rpl] [Has ps .regs] : StaysRes ps s0 (execIbxCsAck a0 a1 a2) := by
  unfold execIbxCsAck
  repeat' first
    | with_reducible assumption
    | intro _
    | with_reducible exact StaysRes.ofFault
    | with_reducible apply StaysRes.ofNext
    | with_reducible apply State.bar2_stays
    | with_reducible apply State.setReg_stays
    | split

theorem State.popSub_stays (a0 : State) (a1 : Nat) (a2 : Nat) (h0 : Stays ps s0 a0) [Has ps .fns] [Has ps .rpl] [Has ps .regs] : Stays ps s0 (State.popSub a0 a1 a2).2 := by
  unfold State.popSub
  repeat' first
    | with_reducible assumption
    | with_reducible apply State.logIn_stays
    | with_reducible apply State.setQp_stays

theorem State.refuseBad_stays (a0 : State) (a1 : Nat) (a2 : Nat) (a3 : Nat) (h0 : Stays ps s0 a0) [Has ps .fns] [Has ps .rpl] [Has ps .regs] : Stays ps s0 (State.refuseBad a0 a1 a2 a3) := by
  induction a3 generalizing a0 a1 a2 with
  | zero =>
    unfold State.refuseBad
    repeat' first
      | with_reducible assumption
  | succ n ih =>
    unfold State.refuseBad
    repeat' first
      | with_reducible assumption
      | with_reducible apply ih
      | with_reducible apply State.popSub_stays
      | with_reducible apply State.post_stays
      | (extract_lets +onlyGivenNames v; refine (fun (hv : Stays ps s0 v.2) => ?_) ?_; rotate_left; unfold v; rotate_right; all_goals (try clear_value v))
      | split

theorem State.tileBack_stays (a0 : State) (a1 : Nat) (a2 : Nat) (a3 : Txn) (a4 : List Byte) (h0 : Stays ps s0 a0) [Has ps .lists] [Has ps .cyclic] [Has ps .ctxs] [Has ps .units] [Has ps .fns] [Has ps .ports] [Has ps .acct] [Has ps .radio] [Has ps .front] [Has ps .tiers] [Has ps .fab] [Has ps .rpl] [Has ps .health] [Has ps .start] [Has ps .regs] [Has ps .mem] [Has ps .out] : Stays ps s0 (State.tileBack a0 a1 a2 a3 a4) := by
  unfold State.tileBack
  repeat' first
    | with_reducible assumption
    | intro _
    | with_reducible apply State.settleXfer_stays
    | with_reducible apply State.dstStore_stays
    | with_reducible apply State.count64_stays
    | with_reducible apply State.failXfer_stays
    | with_reducible apply State.pumpXfer_stays
    | with_reducible apply State.setXfer_stays
    | (extract_lets +onlyGivenNames v
       first
         | (refine (fun (hv : Stays ps s0 v) => ?_) ?_; rotate_left; unfold v; rotate_right)
         | skip
       all_goals (try clear_value v))
    | with_reducible apply Stays.foldl1
    | split

theorem State.kudPut_stays (a0 : State) (a1 : Nat) (a2 : Running) (a3 : Ctx) (a4 : Cmd) (a5 : List Byte) (a6 : Option Nat) (a7 : Nat) (a8 : Nat) (h0 : Stays ps s0 a0) [Has ps .lists] [Has ps .cyclic] [Has ps .units] [Has ps .fns] [Has ps .acct] [Has ps .front] [Has ps .tiers] [Has ps .fab] [Has ps .rpl] [Has ps .regs] [Has ps .mem] [Has ps .out] : Stays ps s0 (State.kudPut a0 a1 a2 a3 a4 a5 a6 a7 a8) := by
  unfold State.kudPut
  repeat' first
    | with_reducible assumption
    | with_reducible apply State.dstStore_stays
    | with_reducible apply State.work_stays
    | with_reducible apply State.count64_stays
    | with_reducible apply State.finishCmd_stays
    | (extract_lets +onlyGivenNames v; all_goals (try clear_value v))
    | split

theorem State.markLate_stays (a0 : State) (a1 : Cmp) (h0 : Stays ps s0 a0) [Has ps .lists] [Has ps .regs] : Stays ps s0 (State.markLate a0 a1) := by
  unfold State.markLate
  repeat' first
    | with_reducible assumption
    | intro _
    | with_reducible apply State.count_stays
    | (extract_lets +onlyGivenNames v
       first
         | (have hv : Sched := v; clear hv; unfold v; clear v)
         | (refine (fun (hv : Stays ps s0 v) => ?_) ?_; rotate_left; unfold v; rotate_right)
         | skip
       all_goals (try clear_value v))
    | with_reducible exact Burns.refl _
    | with_reducible exact Nat.le_refl _
    | with_reducible exact List.prefix_refl _
    | split
    | (rw [State.mk_build]; refine Stays.upd (fun p hp => by cases p <;> first | exact absurd Has.mem hp | rfl) ?_ ?_ ?_ ?_ ?_)

theorem State.launchCmd_stays (a0 : State) (a1 : Cmp) (a2 : Bool) (h0 : Stays ps s0 a0) [Has ps .lists] [Has ps .units] : Stays ps s0 (State.launchCmd a0 a1 a2) := by
  unfold State.launchCmd
  repeat' first
    | with_reducible assumption
    | with_reducible apply State.groupDone_stays
    | with_reducible apply State.dropCmp_stays
    | with_reducible apply State.noteLate_stays
    | with_reducible apply State.setRun_stays
    | (extract_lets +onlyGivenNames v; refine (fun (hv : Stays ps s0 v) => ?_) ?_; rotate_left; unfold v; rotate_right; all_goals (try clear_value v))
    | split

theorem State.lateCmd_stays (a0 : State) (a1 : Cmp) (a2 : Bool) (h0 : Stays ps s0 a0) [Has ps .lists] [Has ps .units] [Has ps .fns] [Has ps .front] [Has ps .fab] [Has ps .rpl] [Has ps .regs] [Has ps .out] : Stays ps s0 (State.lateCmd a0 a1 a2) := by
  unfold State.lateCmd
  repeat' first
    | with_reducible assumption
    | with_reducible apply State.markLate_stays
    | with_reducible apply State.launchCmd_stays
    | with_reducible apply State.advance_stays
    | with_reducible apply State.noteLate_stays
    | with_reducible apply State.groupDone_stays
    | with_reducible apply State.dropCmp_stays
    | with_reducible apply State.failList_stays
    | (extract_lets +onlyGivenNames v; refine (fun (hv : Stays ps s0 v) => ?_) ?_; rotate_left; unfold v; rotate_right; all_goals (try clear_value v))
    | split

theorem State.launchList_stays (a0 : State) (a1 : Ctx) (a2 : ListRec) (a3 : Nat) (h0 : Stays ps s0 a0) [Has ps .ctxs] [Has ps .units] [Has ps .mat] [Has ps .chm] [Has ps .regs] [Has ps .mem] : Stays ps s0 (State.launchList a0 a1 a2 a3) := by
  unfold State.launchList
  repeat' first
    | with_reducible assumption
    | with_reducible apply State.bringBlock_stays
    | with_reducible apply State.startList_stays
    | (extract_lets +onlyGivenNames v
       first
         | (refine (fun (hv : Stays ps s0 v) => ?_) ?_; rotate_left; unfold v; rotate_right)
         | skip
       all_goals (try clear_value v))
    | split

theorem State.ldpcDecode_stays (a0 : State) (a1 : Nat) (a2 : Running) (a3 : Ctx) (a4 : Cmd) (a5 : List Byte) (a6 : List Byte) (a7 : Option (Nat × Nat)) (a8 : Bool) (h0 : Stays ps s0 a0) [Has ps .lists] [Has ps .cyclic] [Has ps .units] [Has ps .fns] [Has ps .acct] [Has ps .radio] [Has ps .front] [Has ps .tiers] [Has ps .fab] [Has ps .rpl] [Has ps .regs] [Has ps .mem] [Has ps .out] : Stays ps s0 (State.ldpcDecode a0 a1 a2 a3 a4 a5 a6 a7 a8) := by
  unfold State.ldpcDecode
  repeat' first
    | with_reducible assumption
    | with_reducible apply State.setHarq_stays
    | with_reducible apply State.count64_stays
    | with_reducible apply State.wrSpans_stays
    | with_reducible apply State.chargePlaced_stays
    | with_reducible apply State.count_stays
    | with_reducible apply State.kudPut_stays
    | (extract_lets +onlyGivenNames v; all_goals (try clear_value v))
    | split

theorem State.matchList_stays (a0 : State) (a1 : Cmp) (h0 : Stays ps s0 a0) [Has ps .lists] [Has ps .ctxs] [Has ps .units] [Has ps .fns] [Has ps .mat] [Has ps .chm] [Has ps .regs] [Has ps .mem] : Stays ps s0 (State.matchList a0 a1) := by
  unfold State.matchList
  repeat' first
    | with_reducible assumption
    | with_reducible apply State.listRecord_stays
    | with_reducible apply State.disarm_stays
    | with_reducible apply State.launchList_stays
    | with_reducible apply State.markLate_stays
    | with_reducible apply State.dropCmp_stays
    | (extract_lets +onlyGivenNames v
       first
         | (refine (fun (hv : Stays ps s0 v) => ?_) ?_; rotate_left; unfold v; rotate_right)
         | skip
       all_goals (try clear_value v))
    | split

theorem State.movePut_stays (a0 : State) (a1 : Nat) (a2 : Running) (a3 : Ctx) (a4 : Cmd) (a5 : Nat) (a6 : Nat) (a7 : DWord) (a8 : List Byte) (h0 : Stays ps s0 a0) [Has ps .lists] [Has ps .cyclic] [Has ps .units] [Has ps .fns] [Has ps .acct] [Has ps .front] [Has ps .tiers] [Has ps .fab] [Has ps .rpl] [Has ps .regs] [Has ps .mem] [Has ps .out] : Stays ps s0 (State.movePut a0 a1 a2 a3 a4 a5 a6 a7 a8) := by
  unfold State.movePut
  repeat' first
    | with_reducible assumption
    | with_reducible apply State.dstStore_stays
    | with_reducible apply State.work_stays
    | with_reducible apply State.count64_stays
    | with_reducible apply State.finishCmd_stays

theorem State.openXfer_stays (a0 : State) (a1 : Nat) (a2 : Running) (a3 : Ctx) (a4 : Cmd) (a5 : DWord) (a6 : Nat) (a7 : Nat) (h0 : Stays ps s0 a0) [Has ps .lists] [Has ps .cyclic] [Has ps .ctxs] [Has ps .units] [Has ps .fns] [Has ps .ports] [Has ps .acct] [Has ps .radio] [Has ps .front] [Has ps .tiers] [Has ps .fab] [Has ps .rpl] [Has ps .health] [Has ps .start] [Has ps .regs] [Has ps .out] : Stays ps s0 (State.openXfer a0 a1 a2 a3 a4 a5 a6 a7) := by
  unfold State.openXfer
  repeat' first
    | with_reducible assumption
    | intro _
    | with_reducible apply State.pumpXfer_stays
    | with_reducible apply State.setRun_stays
    | (extract_lets +onlyGivenNames v; all_goals (try clear_value v))
    | with_reducible exact Burns.refl _
    | with_reducible exact Nat.le_refl _
    | with_reducible exact List.prefix_refl _
    | (rw [State.mk_build]; refine Stays.upd (fun p hp => by cases p <;> first | exact absurd Has.mem hp | rfl) ?_ ?_ ?_ ?_ ?_)

theorem State.pageCmd_stays (a0 : Svc) (a1 : Nat) (h0 : Stays ps s0 a0.st) [Has ps .fns] [Has ps .tiers] [Has ps .regs] [Has ps .mem] : StaysSvc ps s0 (State.pageCmd a0 a1) := by
  unfold State.pageCmd
  repeat' first
    | with_reducible assumption
    | with_reducible apply StaysSvc.ofDone
    | with_reducible apply State.directive_stays
    | (extract_lets +onlyGivenNames v; all_goals (try clear_value v))
    | split

theorem State.ppsBad_stays (a0 : State) (h0 : Stays ps s0 a0) [Has ps .time] [Has ps .fns] [Has ps .rpl] [Has ps .start] [Has ps .regs] [Has ps .drawn] : Stays ps s0 (State.ppsBad a0) := by
  unfold State.ppsBad
  repeat' first
    | with_reducible assumption
    | with_reducible apply State.timEvt_stays
    | with_reducible apply State.setSrc_stays
    | with_reducible apply State.disqualify_stays
    | (extract_lets +onlyGivenNames v
       first
         | (refine (fun (hv : Stays ps s0 v) => ?_) ?_; rotate_left; unfold v; rotate_right)
         | skip
       all_goals (try clear_value v))
    | split

theorem State.refuseList_stays (a0 : State) (a1 : Ctx) (a2 : ListRec) (a3 : Nat) (h0 : Stays ps s0 a0) [Has ps .lists] [Has ps .ctxs] [Has ps .fns] [Has ps .regs] : Stays ps s0 (State.refuseList a0 a1 a2 a3) := by
  unfold State.refuseList
  repeat' first
    | with_reducible assumption
    | with_reducible apply State.listRecord_stays
    | with_reducible apply State.setCtx_stays

theorem State.rowDone_stays (a0 : State) (a1 : Nat) (a2 : Running) (a3 : Ctx) (a4 : Stream) (a5 : WRow) (h0 : Stays ps s0 a0) [Has ps .lists] [Has ps .units] [Has ps .fns] [Has ps .acct] [Has ps .mat] [Has ps .front] [Has ps .fab] [Has ps .rpl] [Has ps .regs] [Has ps .out] : Stays ps s0 (State.rowDone a0 a1 a2 a3 a4 a5) := by
  unfold State.rowDone
  repeat' first
    | with_reducible assumption
    | with_reducible apply State.setArray_stays
    | with_reducible apply State.work_stays
    | with_reducible apply State.count64_stays
    | with_reducible apply State.count_stays
    | with_reducible apply State.finishCmd_stays
    | with_reducible apply State.setRun_stays
    | (extract_lets +onlyGivenNames v
       first
         | (refine (fun (hv : Stays ps s0 v) => ?_) ?_; rotate_left; unfold v; rotate_right)
         | skip
       all_goals (try clear_value v))
    | split

theorem State.synceFrom_stays (a0 : State) (h0 : Stays ps s0 a0) [Has ps .time] [Has ps .fns] [Has ps .regs] : Stays ps s0 (State.synceFrom a0) := by
  unfold State.synceFrom
  repeat' first
    | with_reducible assumption
    | intro _
    | with_reducible apply State.timEvt_stays
    | (extract_lets +onlyGivenNames v; all_goals (try clear_value v))
    | with_reducible exact Burns.refl _
    | with_reducible exact Nat.le_refl _
    | with_reducible exact List.prefix_refl _
    | split
    | (rw [State.mk_build]; refine Stays.upd (fun p hp => by cases p <;> first | exact absurd Has.mem hp | rfl) ?_ ?_ ?_ ?_ ?_)

theorem State.selectPort_stays (a0 : State) (h0 : Stays ps s0 a0) [Has ps .time] [Has ps .fns] [Has ps .rpl] [Has ps .start] [Has ps .regs] [Has ps .drawn] : Stays ps s0 (State.selectPort a0) := by
  unfold State.selectPort
  repeat' first
    | with_reducible assumption
    | intro _
    | with_reducible apply State.disqualify_stays
    | with_reducible apply State.synceFrom_stays
    | (extract_lets +onlyGivenNames v; all_goals (try clear_value v))
    | with_reducible exact Burns.refl _
    | with_reducible exact Nat.le_refl _
    | with_reducible exact List.prefix_refl _
    | split
    | (rw [State.mk_build]; refine Stays.upd (fun p hp => by cases p <;> first | exact absurd Has.mem hp | rfl) ?_ ?_ ?_ ?_ ?_)

theorem State.svc_stays (a0 : State) (a1 : Origin) (a2 : Nat) (a3 : Nat) (h0 : Stays ps s0 a0) (v : Svc) (h : (State.svc a0 a1 a2 a3) = some v) [Has ps .fns] [Has ps .rpl] [Has ps .regs] : Stays ps s0 v.st := by
  revert v
  intro v h
  unfold State.svc at h
  split at h
  · split at h
    · cases h
    · split at h
      · cases h
      · injection h with h; subst h; exact h0
  · split at h
    · cases h
    · split at h
      · cases h
      · injection h with h; subst h; exact State.popSub_stays _ _ _ h0

theorem State.toHub_stays (a0 : State) (a1 : Nat) (h0 : Stays ps s0 a0) [Has ps .lists] [Has ps .units] : Stays ps s0 (State.toHub a0 a1) := by
  unfold State.toHub
  repeat' first
    | with_reducible assumption
    | intro _
    | with_reducible apply State.setRun_stays
    | (extract_lets +onlyGivenNames v
       first
         | (have hv : Sched := v; clear hv; unfold v; clear v)
         | (refine (fun (hv : Stays ps s0 v) => ?_) ?_; rotate_left; unfold v; rotate_right)
         | skip
       all_goals (try clear_value v))
    | with_reducible exact Burns.refl _
    | with_reducible exact Nat.le_refl _
    | with_reducible exact List.prefix_refl _
    | split
    | (rw [State.mk_build]; refine Stays.upd (fun p hp => by cases p <;> first | exact absurd Has.mem hp | rfl) ?_ ?_ ?_ ?_ ?_)

theorem State.svcEnd_stays (a0 : State) (a1 : Origin) (a2 : Report) (a3 : Nat) (a4 : BitVec 128) (h0 : Stays ps s0 a0) [Has ps .lists] [Has ps .units] [Has ps .fns] [Has ps .front] [Has ps .fab] [Has ps .rpl] [Has ps .regs] [Has ps .out] : Stays ps s0 (State.svcEnd a0 a1 a2 a3 a4) := by
  unfold State.svcEnd
  repeat' first
    | with_reducible assumption
    | with_reducible apply State.failList_stays
    | with_reducible apply State.advance_stays
    | with_reducible apply State.toHub_stays
    | with_reducible apply State.refuseBad_stays
    | with_reducible apply State.finishService_stays
    | split

theorem State.service_stays (a0 : State) (a1 : Origin) (a2 : Nat) (a3 : Nat) (a4 : Svc → SvcOut) (h0 : Stays ps s0 a0) (h4 : ∀ v, Stays ps s0 v.st → StaysSvc ps s0 (a4 v)) [Has ps .lists] [Has ps .units] [Has ps .fns] [Has ps .front] [Has ps .fab] [Has ps .rpl] [Has ps .regs] [Has ps .out] : StaysRes ps s0 (State.service a0 a1 a2 a3 a4) := by
  unfold State.service
  split
  · exact StaysRes.ofNext h0
  next v hv =>
    have hk := State.svc_stays _ _ _ _ h0 _ hv
    split
    · exact StaysRes.ofNext (State.svcEnd_stays _ _ _ _ _ hk)
    · have hf := h4 v hk
      split
      · exact StaysRes.ofNext h0
      next he => rw [he] at hf; exact StaysRes.ofNext (State.svcEnd_stays _ _ _ _ _ hf)
      next he =>
        rw [he] at hf
        refine StaysRes.ofNext ?_
        split
        · exact State.toHub_stays _ _ hf
        · exact State.refuseBad_stays _ _ _ _ hf

theorem State.setPtpPort_stays (a0 : State) (a1 : Nat) (a2 : PtpPort) (h0 : Stays ps s0 a0) [Has ps .time] : Stays ps s0 (State.setPtpPort a0 a1 a2) := by
  unfold State.setPtpPort
  repeat' first
    | with_reducible assumption
    | intro _
    | (extract_lets +onlyGivenNames v; all_goals (try clear_value v))
    | with_reducible exact Burns.refl _
    | with_reducible exact Nat.le_refl _
    | with_reducible exact List.prefix_refl _
    | (rw [State.mk_build]; refine Stays.upd (fun p hp => by cases p <;> first | exact absurd Has.mem hp | rfl) ?_ ?_ ?_ ?_ ?_)

theorem State.setVec_stays (a0 : State) (a1 : Nat) (a2 : VecUnit) (h0 : Stays ps s0 a0) [Has ps .mat] : Stays ps s0 (State.setVec a0 a1 a2) := by
  unfold State.setVec
  repeat' first
    | with_reducible assumption
    | intro _
    | (extract_lets +onlyGivenNames v; all_goals (try clear_value v))
    | with_reducible exact Burns.refl _
    | with_reducible exact Nat.le_refl _
    | with_reducible exact List.prefix_refl _
    | (rw [State.mk_build]; refine Stays.upd (fun p hp => by cases p <;> first | exact absurd Has.mem hp | rfl) ?_ ?_ ?_ ?_ ?_)

theorem State.showHandle_stays (a0 : State) (a1 : Nat) (a2 : Nat) (a3 : Bool) (h0 : Stays ps s0 a0) [Has ps .ctxs] : Stays ps s0 (State.showHandle a0 a1 a2 a3) := by
  unfold State.showHandle
  repeat' first
    | with_reducible assumption
    | with_reducible apply State.refresh_stays
    | with_reducible apply State.setCtx_stays
    | (extract_lets +onlyGivenNames v; all_goals (try clear_value v))
    | split

theorem State.stopStream_stays (a0 : State) (a1 : Nat) (a2 : Nat) (h0 : Stays ps s0 a0) [Has ps .units] [Has ps .mat] : Stays ps s0 (State.stopStream a0 a1 a2) := by
  unfold State.stopStream
  repeat' first
    | with_reducible assumption
    | with_reducible apply State.failList_stays
    | with_reducible apply State.setArray_stays

theorem State.storeRow_stays (a0 : State) (a1 : Nat) (a2 : Ctx) (a3 : Stream) (a4 : WRow) (h0 : Stays ps s0 a0) [Has ps .cyclic] [Has ps .mat] [Has ps .tiers] [Has ps .regs] [Has ps .mem] : Stays ps s0 (State.storeRow a0 a1 a2 a3 a4) := by
  unfold State.storeRow
  repeat' first
    | with_reducible assumption
    | intro _
    | with_reducible apply State.outStore_stays
    | with_reducible apply State.setArray_stays
    | (extract_lets +onlyGivenNames v
       first
         | (refine (fun (hv : Stays ps s0 v) => ?_) ?_; rotate_left; unfold v; rotate_right)
         | skip
       all_goals (try clear_value v))
    | with_reducible apply Stays.foldl
    | split

theorem State.vecRows_stays (a0 : State) (a1 : Ctx) (a2 : Cmd) (a3 : Nat) (a4 : VOp) (a5 : List Byte) (a6 : List Byte) (a7 : Nat) (a8 : List (List Nat)) (h0 : Stays ps s0 a0) [Has ps .cyclic] [Has ps .acct] [Has ps .tiers] [Has ps .regs] [Has ps .mem] : Stays ps s0 (State.vecRows a0 a1 a2 a3 a4 a5 a6 a7 a8) := by
  unfold State.vecRows
  repeat' first
    | with_reducible assumption
    | intro _
    | with_reducible apply State.outStore_stays
    | with_reducible apply State.count64_stays
    | with_reducible apply State.work_stays
    | with_reducible apply State.count_stays
    | (extract_lets +onlyGivenNames v
       first
         | (refine (fun (hv : Stays ps s0 v) => ?_) ?_; rotate_left; unfold v; rotate_right)
         | skip
       all_goals (try clear_value v))
    | with_reducible apply Stays.foldl
    | split

theorem State.vector_stays (a0 : State) (a1 : Nat) (a2 : VOp) (h0 : Stays ps s0 a0) [Has ps .lists] [Has ps .cyclic] [Has ps .units] [Has ps .fns] [Has ps .ports] [Has ps .acct] [Has ps .mat] [Has ps .radio] [Has ps .front] [Has ps .tiers] [Has ps .fab] [Has ps .rpl] [Has ps .health] [Has ps .start] [Has ps .regs] [Has ps .mem] [Has ps .out] : StaysRes ps s0 (State.vector a0 a1 a2) := by
  unfold State.vector
  repeat' first
    | with_reducible assumption
    | with_reducible exact StaysRes.ofFault
    | with_reducible apply StaysRes.ofNext
    | with_reducible apply State.failList_stays
    | with_reducible apply State.setVec_stays
    | with_reducible apply State.fetch_stays
    | with_reducible apply State.setArray_stays
    | with_reducible apply State.vecRows_stays
    | with_reducible apply State.setRun_stays
    | with_reducible apply State.finishCmd_stays
    | (extract_lets +onlyGivenNames v
       first
         | (refine (fun (hv : Stays ps s0 v) => ?_) ?_; rotate_left; unfold v; rotate_right)
         | (refine (fun (hv : Stays ps s0 v.2.2) => ?_) ?_; rotate_left; unfold v; rotate_right)
         | skip
       all_goals (try clear_value v))
    | split

theorem execAdds_stays (a0 : Nat) (a1 : State) (h1 : Stays ps s0 a1) [Has ps .lists] [Has ps .units] [Has ps .fns] [Has ps .ports] [Has ps .acct] [Has ps .chm] [Has ps .radio] [Has ps .front] [Has ps .tiers] [Has ps .fab] [Has ps .rpl] [Has ps .health] [Has ps .start] [Has ps .regs] [Has ps .out] : StaysRes ps s0 (execAdds a0 a1) := by
  unfold execAdds
  repeat' first
    | with_reducible assumption
    | with_reducible apply State.control_stays

theorem execAopNop_stays (a0 : Nat) (a1 : State) (h1 : Stays ps s0 a1) [Has ps .lists] [Has ps .units] [Has ps .fns] [Has ps .ports] [Has ps .acct] [Has ps .chm] [Has ps .radio] [Has ps .front] [Has ps .tiers] [Has ps .fab] [Has ps .rpl] [Has ps .health] [Has ps .start] [Has ps .regs] [Has ps .mem] [Has ps .out] [Has ps .drawn] : StaysRes ps s0 (execAopNop a0 a1) := by
  unfold execAopNop
  repeat' first
    | with_reducible assumption
    | with_reducible apply State.bundle_stays

theorem execArm_stays (a0 : Origin) (a1 : State) (h1 : Stays ps s0 a1) [Has ps .lists] [Has ps .units] [Has ps .fns] [Has ps .ports] [Has ps .radio] [Has ps .front] [Has ps .tiers] [Has ps .fab] [Has ps .rpl] [Has ps .health] [Has ps .start] [Has ps .regs] [Has ps .out] : StaysRes ps s0 (execArm a0 a1) := by
  unfold execArm
  repeat' first
    | with_reducible assumption
    | intro _
    | with_reducible apply StaysSvc.ofDone
    | with_reducible apply State.service_stays
    | with_reducible apply State.admitList_stays
    | with_reducible apply State.armList_stays
    | (extract_lets +onlyGivenNames v
       first
         | (refine (fun (hv : Stays ps s0 v.2) => ?_) ?_; rotate_left; unfold v; rotate_right)
         | skip
       all_goals (try clear_value v))
    | split
    | refine Stays.of_pair2 (by assumption) ?_

theorem execArnd_stays (a0 : Nat) (a1 : State) (h1 : Stays ps s0 a1) [Has ps .lists] [Has ps .units] [Has ps .fns] [Has ps .ports] [Has ps .acct] [Has ps .chm] [Has ps .radio] [Has ps .front] [Has ps .tiers] [Has ps .fab] [Has ps .rpl] [Has ps .health] [Has ps .start] [Has ps .regs] [Has ps .mem] [Has ps .out] [Has ps .drawn] : StaysRes ps s0 (execArnd a0 a1) := by
  unfold execArnd
  repeat' first
    | with_reducible assumption
    | with_reducible apply State.bundle_stays

theorem execAtomic_stays (a0 : Nat) (a1 : State) (h1 : Stays ps s0 a1) [Has ps .cyclic] [Has ps .units] [Has ps .fns] [Has ps .acct] [Has ps .front] [Has ps .fab] [Has ps .rpl] [Has ps .regs] [Has ps .out] : StaysRes ps s0 (execAtomic a0 a1) := by
  unfold execAtomic
  repeat' first
    | with_reducible assumption
    | intro _
    | with_reducible exact StaysRes.ofFault
    | with_reducible apply StaysRes.ofNext
    | with_reducible apply State.failList_stays
    | with_reducible apply State.rmWait_stays
    | with_reducible apply State.acct_stays
    | with_reducible apply State.charge_stays
    | with_reducible apply State.issueAtomic_stays
    | with_reducible apply State.setRun_stays
    | (extract_lets +onlyGivenNames v
       first
         | (refine (fun (hv : Stays ps s0 v) => ?_) ?_; rotate_left; unfold v; rotate_right)
         | skip
       all_goals (try clear_value v))
    | with_reducible exact Burns.refl _
    | with_reducible exact Nat.le_refl _
    | with_reducible exact List.prefix_refl _
    | split
    | (rw [State.mk_build]; refine Stays.upd (fun p hp => by cases p <;> first | exact absurd Has.mem hp | rfl) ?_ ?_ ?_ ?_ ?_)

theorem execAutoStep_stays (a0 : State) (h0 : Stays ps s0 a0) [Has ps .time] [Has ps .lists] [Has ps .cyclic] [Has ps .ctxs] [Has ps .units] [Has ps .fns] [Has ps .ports] [Has ps .mat] [Has ps .inf] [Has ps .chm] [Has ps .radio] [Has ps .front] [Has ps .tiers] [Has ps .fab] [Has ps .rpl] [Has ps .health] [Has ps .start] [Has ps .regs] [Has ps .mem] [Has ps .out] : StaysRes ps s0 (execAutoStep a0) := by
  unfold execAutoStep
  repeat' first
    | with_reducible assumption
    | with_reducible apply StaysRes.ofNext
    | with_reducible apply State.stepTo_stays
    | split

theorem execAzero_stays (a0 : Nat) (a1 : State) (h1 : Stays ps s0 a1) [Has ps .lists] [Has ps .units] [Has ps .fns] [Has ps .ports] [Has ps .acct] [Has ps .chm] [Has ps .radio] [Has ps .front] [Has ps .tiers] [Has ps .fab] [Has ps .rpl] [Has ps .health] [Has ps .start] [Has ps .regs] [Has ps .mem] [Has ps .out] [Has ps .drawn] : StaysRes ps s0 (execAzero a0 a1) := by
  unfold execAzero
  repeat' first
    | with_reducible assumption
    | with_reducible apply State.bundle_stays

theorem execBandwidthWindow_stays (a0 : State) (h0 : Stays ps s0 a0) [Has ps .cyclic] : StaysRes ps s0 (execBandwidthWindow a0) := by
  unfold execBandwidthWindow
  repeat' first
    | with_reducible assumption
    | intro _
    | with_reducible apply StaysRes.ofNext
    | (extract_lets +onlyGivenNames v
       first
         | (have hv : Sched := v; clear hv; unfold v; clear v)
         | skip
       all_goals (try clear_value v))
    | with_reducible exact Burns.refl _
    | with_reducible exact Nat.le_refl _
    | with_reducible exact List.prefix_refl _
    | (rw [State.mk_build]; refine Stays.upd (fun p hp => by cases p <;> first | exact absurd Has.mem hp | rfl) ?_ ?_ ?_ ?_ ?_)

theorem execBeaconSourceSwitch_stays (a0 : State) (h0 : Stays ps s0 a0) [Has ps .time] [Has ps .fns] [Has ps .regs] : StaysRes ps s0 (execBeaconSourceSwitch a0) := by
  unfold execBeaconSourceSwitch
  repeat' first
    | with_reducible assumption
    | intro _
    | with_reducible apply StaysRes.ofNext
    | with_reducible apply State.timEvt_stays
    | (extract_lets +onlyGivenNames v; all_goals (try clear_value v))
    | with_reducible exact Burns.refl _
    | with_reducible exact Nat.le_refl _
    | with_reducible exact List.prefix_refl _
    | split
    | (rw [State.mk_build]; refine Stays.upd (fun p hp => by cases p <;> first | exact absurd Has.mem hp | rfl) ?_ ?_ ?_ ?_ ?_)

theorem execBnz_stays (a0 : Nat) (a1 : State) (h1 : Stays ps s0 a1) [Has ps .lists] [Has ps .units] [Has ps .fns] [Has ps .ports] [Has ps .acct] [Has ps .chm] [Has ps .radio] [Has ps .front] [Has ps .tiers] [Has ps .fab] [Has ps .rpl] [Has ps .health] [Has ps .start] [Has ps .regs] [Has ps .out] : StaysRes ps s0 (execBnz a0 a1) := by
  unfold execBnz
  repeat' first
    | with_reducible assumption
    | with_reducible apply State.control_stays

theorem execBr_stays (a0 : Nat) (a1 : State) (h1 : Stays ps s0 a1) [Has ps .lists] [Has ps .units] [Has ps .fns] [Has ps .ports] [Has ps .acct] [Has ps .chm] [Has ps .radio] [Has ps .front] [Has ps .tiers] [Has ps .fab] [Has ps .rpl] [Has ps .health] [Has ps .start] [Has ps .regs] [Has ps .out] : StaysRes ps s0 (execBr a0 a1) := by
  unfold execBr
  repeat' first
    | with_reducible assumption
    | with_reducible apply State.control_stays

theorem execCancel_stays (a0 : Origin) (a1 : State) (h1 : Stays ps s0 a1) [Has ps .lists] [Has ps .ctxs] [Has ps .units] [Has ps .fns] [Has ps .ports] [Has ps .mat] [Has ps .inf] [Has ps .chm] [Has ps .radio] [Has ps .front] [Has ps .tiers] [Has ps .fab] [Has ps .rpl] [Has ps .health] [Has ps .start] [Has ps .regs] [Has ps .out] : StaysRes ps s0 (execCancel a0 a1) := by
  unfold execCancel
  repeat' first
    | with_reducible assumption
    | intro _
    | with_reducible apply StaysSvc.ofDone
    | with_reducible apply State.service_stays
    | with_reducible apply State.reapSteps_stays
    | with_reducible apply State.cancelList_stays
    | (extract_lets +onlyGivenNames v; all_goals (try clear_value v))
    | split

theorem execCdrain_stays (a0 : Nat) (a1 : State) (h1 : Stays ps s0 a1) [Has ps .lists] [Has ps .cyclic] [Has ps .units] [Has ps .fns] [Has ps .ports] [Has ps .acct] [Has ps .chm] [Has ps .radio] [Has ps .front] [Has ps .tiers] [Has ps .fab] [Has ps .rpl] [Has ps .health] [Has ps .start] [Has ps .regs] [Has ps .mem] [Has ps .out] : StaysRes ps s0 (execCdrain a0 a1) := by
  unfold execCdrain
  repeat' first
    | with_reducible assumption
    | with_reducible exact StaysRes.ofFault
    | with_reducible apply StaysRes.ofNext
    | with_reducible apply State.failList_stays
    | with_reducible apply State.chmUe_stays
    | with_reducible apply State.dstStore_stays
    | with_reducible apply State.finishCmd_stays
    | with_reducible apply State.work_stays
    | with_reducible apply State.count64_stays
    | (extract_lets +onlyGivenNames v
       first
         | (refine (fun (hv : Stays ps s0 v) => ?_) ?_; rotate_left; unfold v; rotate_right)
         | skip
       all_goals (try clear_value v))
    | split

theorem execCfill_stays (a0 : Nat) (a1 : State) (h1 : Stays ps s0 a1) [Has ps .lists] [Has ps .cyclic] [Has ps .units] [Has ps .fns] [Has ps .ports] [Has ps .acct] [Has ps .radio] [Has ps .front] [Has ps .tiers] [Has ps .fab] [Has ps .rpl] [Has ps .health] [Has ps .start] [Has ps .regs] [Has ps .mem] [Has ps .out] : StaysRes ps s0 (execCfill a0 a1) := by
  unfold execCfill
  repeat' first
    | with_reducible assumption
    | with_reducible exact StaysRes.ofFault
    | with_reducible apply StaysRes.ofNext
    | with_reducible apply State.failList_stays
    | with_reducible apply State.chmFill_stays
    | (extract_lets +onlyGivenNames v; all_goals (try clear_value v))
    | split

theorem execChecksumCompare_stays (a0 : Nat) (a1 : Int) (a2 : State) (h2 : Stays ps s0 a2) [Has ps .lists] [Has ps .units] [Has ps .fns] [Has ps .ports] [Has ps .mat] [Has ps .radio] [Has ps .front] [Has ps .fab] [Has ps .rpl] [Has ps .health] [Has ps .start] [Has ps .regs] [Has ps .out] [Has ps .drawn] : StaysRes ps s0 (execChecksumCompare a0 a1 a2) := by
  unfold execChecksumCompare
  repeat' first
    | with_reducible assumption
    | with_reducible exact StaysRes.ofFault
    | with_reducible apply StaysRes.ofNext
    | with_reducible apply State.setArray_stays
    | with_reducible apply State.checkPassed_stays
    | with_reducible apply State.csumLog_stays
    | with_reducible apply State.stopStream_stays
    | (extract_lets +onlyGivenNames v
       first
         | (refine (fun (hv : Stays ps s0 v) => ?_) ?_; rotate_left; unfold v; rotate_right)
         | skip
       all_goals (try clear_value v))
    | split

theorem execChmLimit_stays (a0 : Nat) (a1 : State) (h1 : Stays ps s0 a1) [Has ps .units] [Has ps .acct] [Has ps .chm] [Has ps .regs] : StaysRes ps s0 (execChmLimit a0 a1) := by
  unfold execChmLimit
  repeat' first
    | with_reducible assumption
    | with_reducible exact StaysRes.ofFault
    | with_reducible apply StaysRes.ofNext
    | with_reducible apply State.work_stays
    | with_reducible apply State.count64_stays
    | with_reducible apply State.chmFault_stays
    | (extract_lets +onlyGivenNames v
       first
         | (refine (fun (hv : Stays ps s0 v) => ?_) ?_; rotate_left; unfold v; rotate_right)
         | skip
       all_goals (try clear_value v))
    | split

theorem execCimem_stays (a0 : Nat) (a1 : State) (h1 : Stays ps s0 a1) [Has ps .lists] [Has ps .cyclic] [Has ps .units] [Has ps .fns] [Has ps .ports] [Has ps .acct] [Has ps .radio] [Has ps .front] [Has ps .tiers] [Has ps .fab] [Has ps .rpl] [Has ps .health] [Has ps .start] [Has ps .regs] [Has ps .mem] [Has ps .out] : StaysRes ps s0 (execCimem a0 a1) := by
  unfold execCimem
  repeat' first
    | with_reducible assumption
    | with_reducible exact StaysRes.ofFault
    | with_reducible apply StaysRes.ofNext
    | with_reducible apply State.failList_stays
    | with_reducible apply State.chmFill_stays
    | (extract_lets +onlyGivenNames v; all_goals (try clear_value v))
    | split

theorem execCmac_stays (a0 : Nat) (a1 : State) (h1 : Stays ps s0 a1) [Has ps .lists] [Has ps .units] [Has ps .fns] [Has ps .ports] [Has ps .acct] [Has ps .chm] [Has ps .radio] [Has ps .front] [Has ps .tiers] [Has ps .fab] [Has ps .rpl] [Has ps .health] [Has ps .start] [Has ps .regs] [Has ps .mem] [Has ps .out] [Has ps .drawn] : StaysRes ps s0 (execCmac a0 a1) := by
  unfold execCmac
  repeat' first
    | with_reducible assumption
    | with_reducible apply State.bundle_stays

theorem execCmacj_stays (a0 : Nat) (a1 : State) (h1 : Stays ps s0 a1) [Has ps .lists] [Has ps .units] [Has ps .fns] [Has ps .ports] [Has ps .acct] [Has ps .chm] [Has ps .radio] [Has ps .front] [Has ps .tiers] [Has ps .fab] [Has ps .rpl] [Has ps .health] [Has ps .start] [Has ps .regs] [Has ps .mem] [Has ps .out] [Has ps .drawn] : StaysRes ps s0 (execCmacj a0 a1) := by
  unfold execCmacj
  repeat' first
    | with_reducible assumption
    | with_reducible apply State.bundle_stays

theorem execCmsu_stays (a0 : Nat) (a1 : State) (h1 : Stays ps s0 a1) [Has ps .lists] [Has ps .units] [Has ps .fns] [Has ps .ports] [Has ps .acct] [Has ps .chm] [Has ps .radio] [Has ps .front] [Has ps .tiers] [Has ps .fab] [Has ps .rpl] [Has ps .health] [Has ps .start] [Has ps .regs] [Has ps .mem] [Has ps .out] [Has ps .drawn] : StaysRes ps s0 (execCmsu a0 a1) := by
  unfold execCmsu
  repeat' first
    | with_reducible assumption
    | with_reducible apply State.bundle_stays

theorem execCmul_stays (a0 : Nat) (a1 : State) (h1 : Stays ps s0 a1) [Has ps .lists] [Has ps .units] [Has ps .fns] [Has ps .ports] [Has ps .acct] [Has ps .chm] [Has ps .radio] [Has ps .front] [Has ps .tiers] [Has ps .fab] [Has ps .rpl] [Has ps .health] [Has ps .start] [Has ps .regs] [Has ps .mem] [Has ps .out] [Has ps .drawn] : StaysRes ps s0 (execCmul a0 a1) := by
  unfold execCmul
  repeat' first
    | with_reducible assumption
    | with_reducible apply State.bundle_stays

theorem execCmulj_stays (a0 : Nat) (a1 : State) (h1 : Stays ps s0 a1) [Has ps .lists] [Has ps .units] [Has ps .fns] [Has ps .ports] [Has ps .acct] [Has ps .chm] [Has ps .radio] [Has ps .front] [Has ps .tiers] [Has ps .fab] [Has ps .rpl] [Has ps .health] [Has ps .start] [Has ps .regs] [Has ps .mem] [Has ps .out] [Has ps .drawn] : StaysRes ps s0 (execCmulj a0 a1) := by
  unfold execCmulj
  repeat' first
    | with_reducible assumption
    | with_reducible apply State.bundle_stays

theorem execCommitPoint_stays (a0 : Nat) (a1 : State) (h1 : Stays ps s0 a1) [Has ps .lists] [Has ps .units] [Has ps .fns] [Has ps .front] [Has ps .fab] [Has ps .rpl] [Has ps .regs] [Has ps .out] : StaysRes ps s0 (execCommitPoint a0 a1) := by
  unfold execCommitPoint
  repeat' first
    | with_reducible assumption
    | with_reducible exact StaysRes.ofFault
    | with_reducible apply StaysRes.ofNext
    | with_reducible apply State.abortGroup_stays
    | (extract_lets +onlyGivenNames v; all_goals (try clear_value v))
    | split

theorem execComparatorMatch_stays (a0 : Nat) (a1 : Nat) (a2 : State) (h2 : Stays ps s0 a2) [Has ps .lists] [Has ps .ctxs] [Has ps .units] [Has ps .fns] [Has ps .mat] [Has ps .chm] [Has ps .front] [Has ps .fab] [Has ps .rpl] [Has ps .regs] [Has ps .mem] [Has ps .out] : StaysRes ps s0 (execComparatorMatch a0 a1 a2) := by
  unfold execComparatorMatch
  repeat' first
    | with_reducible assumption
    | with_reducible exact StaysRes.ofFault
    | with_reducible apply StaysRes.ofNext
    | with_reducible apply State.matchList_stays
    | with_reducible apply State.dropCmp_stays
    | with_reducible apply State.lateCmd_stays
    | with_reducible apply State.launchCmd_stays
    | with_reducible apply State.groupFail_stays
    | (extract_lets +onlyGivenNames v; all_goals (try clear_value v))
    | split

theorem execContextEnd_stays (a0 : Nat) (a1 : State) (h1 : Stays ps s0 a1) [Has ps .lists] [Has ps .ctxs] [Has ps .fns] [Has ps .mat] [Has ps .tiers] [Has ps .fab] [Has ps .regs] : StaysRes ps s0 (execContextEnd a0 a1) := by
  unfold execContextEnd
  repeat' first
    | with_reducible assumption
    | with_reducible apply StaysRes.ofNext
    | with_reducible apply State.dropCtx_stays
    | (extract_lets +onlyGivenNames v; all_goals (try clear_value v))
    | split

theorem execCopy_stays (a0 : Nat) (a1 : State) (h1 : Stays ps s0 a1) [Has ps .lists] [Has ps .cyclic] [Has ps .units] [Has ps .fns] [Has ps .ports] [Has ps .acct] [Has ps .inf] [Has ps .radio] [Has ps .front] [Has ps .tiers] [Has ps .fab] [Has ps .rpl] [Has ps .health] [Has ps .start] [Has ps .regs] [Has ps .mem] [Has ps .out] : StaysRes ps s0 (execCopy a0 a1) := by
  unfold execCopy
  repeat' first
    | with_reducible assumption
    | with_reducible exact StaysRes.ofFault
    | with_reducible apply StaysRes.ofNext
    | with_reducible apply State.finishCmd_stays
    | with_reducible apply State.count_stays
    | with_reducible apply State.failList_stays
    | with_reducible apply State.fetch_stays
    | with_reducible apply State.kvRequests_stays
    | with_reducible apply State.movePut_stays
    | (extract_lets +onlyGivenNames v
       first
         | (refine (fun (hv : Stays ps s0 v) => ?_) ?_; rotate_left; unfold v; rotate_right)
         | (refine (fun (hv : Stays ps s0 v.2.2) => ?_) ?_; rotate_left; unfold v; rotate_right)
         | skip
       all_goals (try clear_value v))
    | split

theorem execCrun_stays (a0 : Nat) (a1 : State) (h1 : Stays ps s0 a1) [Has ps .units] [Has ps .chm] [Has ps .regs] : StaysRes ps s0 (execCrun a0 a1) := by
  unfold execCrun
  repeat' first
    | with_reducible assumption
    | with_reducible exact StaysRes.ofFault
    | with_reducible apply StaysRes.ofNext
    | with_reducible apply State.chmFault_stays
    | with_reducible apply State.setRun_stays
    | with_reducible apply State.setCore_stays
    | (extract_lets +onlyGivenNames v
       first
         | (refine (fun (hv : Stays ps s0 v) => ?_) ?_; rotate_left; unfold v; rotate_right)
         | skip
       all_goals (try clear_value v))
    | split

theorem execCtxCreate_stays (a0 : Origin) (a1 : State) (h1 : Stays ps s0 a1) [Has ps .lists] [Has ps .ctxs] [Has ps .units] [Has ps .fns] [Has ps .front] [Has ps .tiers] [Has ps .fab] [Has ps .rpl] [Has ps .regs] [Has ps .mem] [Has ps .out] : StaysRes ps s0 (execCtxCreate a0 a1) := by
  unfold execCtxCreate
  repeat' first
    | with_reducible assumption
    | intro _
    | with_reducible apply StaysSvc.ofDone
    | with_reducible apply State.service_stays
    | with_reducible apply State.createCtx_stays

theorem execCtxEnd_stays (a0 : Origin) (a1 : State) (h1 : Stays ps s0 a1) [Has ps .lists] [Has ps .ctxs] [Has ps .units] [Has ps .fns] [Has ps .front] [Has ps .fab] [Has ps .rpl] [Has ps .regs] [Has ps .out] : StaysRes ps s0 (execCtxEnd a0 a1) := by
  unfold execCtxEnd
  repeat' first
    | with_reducible assumption
    | intro _
    | with_reducible apply StaysSvc.ofDone
    | with_reducible apply State.service_stays
    | with_reducible apply State.setCtx_stays
    | (extract_lets +onlyGivenNames v; all_goals (try clear_value v))
    | with_reducible exact Burns.refl _
    | with_reducible exact Nat.le_refl _
    | with_reducible exact List.prefix_refl _
    | split
    | (rw [State.mk_build]; refine Stays.upd (fun p hp => by cases p <;> first | exact absurd Has.mem hp | rfl) ?_ ?_ ?_ ?_ ?_)

theorem execEsmcFrame_stays (a0 : Nat) (a1 : Nat) (a2 : State) (h2 : Stays ps s0 a2) [Has ps .time] [Has ps .fns] [Has ps .regs] : StaysRes ps s0 (execEsmcFrame a0 a1 a2) := by
  unfold execEsmcFrame
  repeat' first
    | with_reducible assumption
    | with_reducible exact StaysRes.ofFault
    | with_reducible apply StaysRes.ofNext
    | with_reducible apply State.synceFrom_stays
    | with_reducible apply State.setPtpPort_stays
    | (extract_lets +onlyGivenNames v; all_goals (try clear_value v))
    | split

theorem execEvict_stays (a0 : Origin) (a1 : State) (h1 : Stays ps s0 a1) [Has ps .lists] [Has ps .units] [Has ps .fns] [Has ps .front] [Has ps .tiers] [Has ps .fab] [Has ps .rpl] [Has ps .regs] [Has ps .mem] [Has ps .out] : StaysRes ps s0 (execEvict a0 a1) := by
  unfold execEvict
  repeat' first
    | with_reducible assumption
    | intro _
    | with_reducible apply State.service_stays
    | with_reducible apply State.pageCmd_stays

theorem execEviction_stays (a0 : Nat) (a1 : State) (h1 : Stays ps s0 a1) [Has ps .cyclic] [Has ps .regs] : StaysRes ps s0 (execEviction a0 a1) := by
  unfold execEviction
  repeat' first
    | with_reducible assumption
    | with_reducible exact StaysRes.ofFault
    | with_reducible apply StaysRes.ofNext
    | with_reducible apply State.count_stays
    | with_reducible apply State.setCluster_stays
    | (extract_lets +onlyGivenNames v; all_goals (try clear_value v))
    | split

theorem execExactSum_stays (a0 : Nat) (a1 : State) (h1 : Stays ps s0 a1) [Has ps .lists] [Has ps .cyclic] [Has ps .units] [Has ps .fns] [Has ps .ports] [Has ps .acct] [Has ps .radio] [Has ps .front] [Has ps .tiers] [Has ps .fab] [Has ps .rpl] [Has ps .health] [Has ps .start] [Has ps .regs] [Has ps .mem] [Has ps .out] : StaysRes ps s0 (execExactSum a0 a1) := by
  unfold execExactSum
  repeat' first
    | with_reducible assumption
    | with_reducible exact StaysRes.ofFault
    | with_reducible apply StaysRes.ofNext
    | with_reducible apply State.fetch_stays
    | with_reducible apply State.failList_stays
    | with_reducible apply State.movePut_stays
    | (extract_lets +onlyGivenNames v
       first
         | (refine (fun (hv : Stays ps s0 v) => ?_) ?_; rotate_left; unfold v; rotate_right)
         | (refine (fun (hv : Stays ps s0 v.2.2) => ?_) ?_; rotate_left; unfold v; rotate_right)
         | skip
       all_goals (try clear_value v))
    | split

theorem execFill_stays (a0 : Nat) (a1 : State) (h1 : Stays ps s0 a1) [Has ps .lists] [Has ps .cyclic] [Has ps .units] [Has ps .fns] [Has ps .acct] [Has ps .front] [Has ps .tiers] [Has ps .fab] [Has ps .rpl] [Has ps .regs] [Has ps .mem] [Has ps .out] : StaysRes ps s0 (execFill a0 a1) := by
  unfold execFill
  repeat' first
    | with_reducible assumption
    | with_reducible exact StaysRes.ofFault
    | with_reducible apply StaysRes.ofNext
    | with_reducible apply State.failList_stays
    | with_reducible apply State.movePut_stays
    | (extract_lets +onlyGivenNames v; all_goals (try clear_value v))
    | split

theorem execFromExact_stays (a0 : Nat) (a1 : State) (h1 : Stays ps s0 a1) [Has ps .lists] [Has ps .cyclic] [Has ps .units] [Has ps .fns] [Has ps .ports] [Has ps .acct] [Has ps .radio] [Has ps .front] [Has ps .tiers] [Has ps .fab] [Has ps .rpl] [Has ps .health] [Has ps .start] [Has ps .regs] [Has ps .mem] [Has ps .out] : StaysRes ps s0 (execFromExact a0 a1) := by
  unfold execFromExact
  repeat' first
    | with_reducible assumption
    | with_reducible exact StaysRes.ofFault
    | with_reducible apply StaysRes.ofNext
    | with_reducible apply State.fetch_stays
    | with_reducible apply State.failList_stays
    | with_reducible apply State.movePut_stays
    | with_reducible apply State.outStore_stays
    | (extract_lets +onlyGivenNames v
       first
         | (have hv : (_ → _) := v; clear hv; unfold v; clear v)
         | (refine (fun (hv : Stays ps s0 v) => ?_) ?_; rotate_left; unfold v; rotate_right)
         | (refine (fun (hv : Stays ps s0 v.2.2) => ?_) ?_; rotate_left; unfold v; rotate_right)
         | skip
       all_goals (try clear_value v))
    | split

theorem execGrainOverrun_stays (a0 : Nat) (a1 : State) (h1 : Stays ps s0 a1) [Has ps .units] [Has ps .fns] [Has ps .regs] : StaysRes ps s0 (execGrainOverrun a0 a1) := by
  unfold execGrainOverrun
  repeat' first
    | with_reducible assumption
    | with_reducible exact StaysRes.ofFault
    | with_reducible apply StaysRes.ofNext
    | with_reducible apply State.cycEvt_stays
    | with_reducible apply State.count_stays
    | with_reducible apply State.setRun_stays
    | split

theorem execGrainStart_stays (a0 : Nat) (a1 : State) (h1 : Stays ps s0 a1) [Has ps .ctxs] [Has ps .units] [Has ps .mat] [Has ps .chm] [Has ps .regs] [Has ps .mem] : StaysRes ps s0 (execGrainStart a0 a1) := by
  unfold execGrainStart
  repeat' first
    | with_reducible assumption
    | with_reducible exact StaysRes.ofFault
    | with_reducible apply StaysRes.ofNext
    | with_reducible apply State.launchList_stays
    | with_reducible apply State.refresh_stays
    | with_reducible apply State.count_stays
    | split

theorem execGroupCreate_stays (a0 : Origin) (a1 : State) (h1 : Stays ps s0 a1) [Has ps .lists] [Has ps .units] [Has ps .fns] [Has ps .ports] [Has ps .radio] [Has ps .front] [Has ps .tiers] [Has ps .fab] [Has ps .rpl] [Has ps .health] [Has ps .start] [Has ps .regs] [Has ps .out] : StaysRes ps s0 (execGroupCreate a0 a1) := by
  unfold execGroupCreate
  repeat' first
    | with_reducible assumption
    | intro _
    | with_reducible apply StaysSvc.ofDone
    | with_reducible apply State.service_stays
    | with_reducible apply State.readSpans_stays
    | with_reducible apply State.countRefuse_stays
    | with_reducible apply State.setGroup_stays
    | (extract_lets +onlyGivenNames v
       first
         | (refine (fun (hv : Stays ps s0 v.2) => ?_) ?_; rotate_left; unfold v; rotate_right)
         | skip
       all_goals (try clear_value v))
    | split

theorem execGroupFree_stays (a0 : Nat) (a1 : State) (h1 : Stays ps s0 a1) [Has ps .lists] : StaysRes ps s0 (execGroupFree a0 a1) := by
  unfold execGroupFree
  repeat' first
    | with_reducible assumption
    | with_reducible exact StaysRes.ofFault
    | with_reducible apply StaysRes.ofNext
    | with_reducible apply State.setGroup_stays
    | (extract_lets +onlyGivenNames v; all_goals (try clear_value v))
    | split

theorem execGroupJoin_stays (a0 : Origin) (a1 : State) (h1 : Stays ps s0 a1) [Has ps .lists] [Has ps .units] [Has ps .fns] [Has ps .front] [Has ps .fab] [Has ps .rpl] [Has ps .regs] [Has ps .out] : StaysRes ps s0 (execGroupJoin a0 a1) := by
  unfold execGroupJoin
  refine State.service_stays _ _ _ _ _ h1 (fun v hv => ?_)
  have key : ∀ j : Tab Join, Stays ps s0 { v.st with sched := { v.st.sched with joins := j } } := fun j => by
    have h := hv
    generalize v.st = u at h ⊢
    rw [State.mk_build]
    exact Stays.upd (fun p hp => by cases p <;> first | exact absurd Has.mem hp | rfl) h id (List.prefix_refl _) (Nat.le_refl _) (Burns.refl _)
  dsimp only
  split
  · exact hv
  · split
    · exact hv
    · split
      · exact hv
      · split
        · exact State.count_stays _ _ _ hv
        · exact State.sendGroup_stays _ _ _ _ _ _ _ _ (key _)

theorem execGroupOrphan_stays (a0 : Nat) (a1 : State) (h1 : Stays ps s0 a1) [Has ps .lists] [Has ps .units] [Has ps .fns] [Has ps .front] [Has ps .fab] [Has ps .rpl] [Has ps .regs] [Has ps .out] : StaysRes ps s0 (execGroupOrphan a0 a1) := by
  unfold execGroupOrphan
  repeat' first
    | with_reducible assumption
    | with_reducible exact StaysRes.ofFault
    | with_reducible apply StaysRes.ofNext
    | with_reducible apply State.sendGroup_stays
    | with_reducible apply State.groupFail_stays
    | with_reducible apply State.setGroup_stays
    | (extract_lets +onlyGivenNames v; all_goals (try clear_value v))
    | split

theorem execHalt_stays (a0 : Nat) (a1 : State) (h1 : Stays ps s0 a1) [Has ps .lists] [Has ps .units] [Has ps .fns] [Has ps .acct] [Has ps .chm] [Has ps .front] [Has ps .fab] [Has ps .rpl] [Has ps .regs] [Has ps .out] : StaysRes ps s0 (execHalt a0 a1) := by
  unfold execHalt
  repeat' first
    | with_reducible assumption
    | with_reducible exact StaysRes.ofFault
    | with_reducible apply StaysRes.ofNext
    | with_reducible apply State.chmFault_stays
    | with_reducible apply State.finishCmd_stays
    | with_reducible apply State.setCore_stays
    | with_reducible apply State.chmCycles_stays
    | (extract_lets +onlyGivenNames v; all_goals (try clear_value v))
    | split

theorem execHandlePut_stays (a0 : Origin) (a1 : State) (h1 : Stays ps s0 a1) [Has ps .lists] [Has ps .ctxs] [Has ps .units] [Has ps .fns] [Has ps .front] [Has ps .fab] [Has ps .rpl] [Has ps .regs] [Has ps .out] : StaysRes ps s0 (execHandlePut a0 a1) := by
  unfold execHandlePut
  repeat' first
    | with_reducible assumption
    | intro _
    | with_reducible exact StaysSvc.ofHold
    | with_reducible apply StaysSvc.ofDone
    | with_reducible apply State.service_stays
    | with_reducible apply State.countRefuse_stays
    | (refine State.putHandle_stays _ _ _ _ ?_ _ (by assumption))
    | (extract_lets +onlyGivenNames v; all_goals (try clear_value v))
    | split

theorem execHandleRelease_stays (a0 : Nat) (a1 : State) (h1 : Stays ps s0 a1) [Has ps .lists] [Has ps .ctxs] [Has ps .units] [Has ps .fns] [Has ps .front] [Has ps .fab] [Has ps .rpl] [Has ps .regs] [Has ps .out] : StaysRes ps s0 (execHandleRelease a0 a1) := by
  unfold execHandleRelease
  repeat' first
    | with_reducible assumption
    | with_reducible exact StaysRes.ofFault
    | with_reducible apply StaysRes.ofNext
    | with_reducible apply State.setRun_stays
    | with_reducible apply State.advance_stays
    | (refine State.putHandle_stays _ _ _ _ ?_ _ (by assumption))
    | (extract_lets +onlyGivenNames v; all_goals (try clear_value v))
    | split

theorem execHandleVisible_stays (a0 : Nat) (a1 : Nat) (a2 : State) (h2 : Stays ps s0 a2) [Has ps .ctxs] : StaysRes ps s0 (execHandleVisible a0 a1 a2) := by
  unfold execHandleVisible
  repeat' first
    | with_reducible assumption
    | with_reducible exact StaysRes.ofFault
    | with_reducible apply StaysRes.ofNext
    | with_reducible apply State.showHandle_stays
    | split

theorem execHandleWaitMet_stays (a0 : Nat) (a1 : State) (h1 : Stays ps s0 a1) [Has ps .lists] [Has ps .ctxs] [Has ps .units] [Has ps .fns] [Has ps .ports] [Has ps .acct] [Has ps .radio] [Has ps .front] [Has ps .tiers] [Has ps .fab] [Has ps .rpl] [Has ps .health] [Has ps .start] [Has ps .regs] [Has ps .mem] [Has ps .out] : StaysRes ps s0 (execHandleWaitMet a0 a1) := by
  unfold execHandleWaitMet
  repeat' first
    | with_reducible assumption
    | with_reducible exact StaysRes.ofFault
    | with_reducible apply StaysRes.ofNext
    | with_reducible apply State.drainIn_stays
    | with_reducible apply State.setRun_stays
    | with_reducible apply State.setCtx_stays
    | (extract_lets +onlyGivenNames v; all_goals (try clear_value v))
    | split

theorem execHardStop_stays (a0 : Nat) (a1 : State) (h1 : Stays ps s0 a1) [Has ps .lists] [Has ps .cyclic] [Has ps .ctxs] [Has ps .units] [Has ps .fns] [Has ps .ports] [Has ps .mat] [Has ps .inf] [Has ps .chm] [Has ps .radio] [Has ps .front] [Has ps .tiers] [Has ps .fab] [Has ps .rpl] [Has ps .health] [Has ps .start] [Has ps .regs] [Has ps .out] : StaysRes ps s0 (execHardStop a0 a1) := by
  unfold execHardStop
  repeat' first
    | with_reducible assumption
    | with_reducible exact StaysRes.ofFault
    | with_reducible apply StaysRes.ofNext
    | with_reducible apply State.hardStopNow_stays
    | split

theorem execHoldoverLimit_stays (a0 : State) (h0 : Stays ps s0 a0) [Has ps .time] [Has ps .fns] [Has ps .rpl] [Has ps .start] [Has ps .regs] : StaysRes ps s0 (execHoldoverLimit a0) := by
  unfold execHoldoverLimit
  repeat' first
    | with_reducible assumption
    | with_reducible apply StaysRes.ofNext
    | with_reducible apply State.timTo_stays
    | split

theorem execIbxFreeze_stays (a0 : Nat) (a1 : State) (h1 : Stays ps s0 a1) [Has ps .acct] [Has ps .mat] [Has ps .regs] : StaysRes ps s0 (execIbxFreeze a0 a1) := by
  unfold execIbxFreeze
  repeat' first
    | with_reducible assumption
    | intro _
    | with_reducible exact StaysRes.ofFault
    | with_reducible apply StaysRes.ofNext
    | with_reducible apply State.count_stays
    | with_reducible apply State.setArray_stays
    | with_reducible apply State.work_stays
    | (extract_lets +onlyGivenNames v
       first
         | (refine (fun (hv : Stays ps s0 v) => ?_) ?_; rotate_left; unfold v; rotate_right)
         | skip
       all_goals (try clear_value v))
    | with_reducible apply Stays.foldl
    | split

theorem execIbxOutputRow_stays (a0 : Nat) (a1 : State) (h1 : Stays ps s0 a1) [Has ps .lists] [Has ps .cyclic] [Has ps .units] [Has ps .fns] [Has ps .ports] [Has ps .acct] [Has ps .mat] [Has ps .radio] [Has ps .front] [Has ps .tiers] [Has ps .fab] [Has ps .rpl] [Has ps .health] [Has ps .start] [Has ps .regs] [Has ps .mem] [Has ps .out] : StaysRes ps s0 (execIbxOutputRow a0 a1) := by
  unfold execIbxOutputRow
  repeat' first
    | with_reducible assumption
    | with_reducible exact StaysRes.ofFault
    | with_reducible apply StaysRes.ofNext
    | with_reducible apply State.stopStream_stays
    | with_reducible apply State.readSpans_stays
    | with_reducible apply State.fetch_stays
    | with_reducible apply State.rowDone_stays
    | with_reducible apply State.storeRow_stays
    | (extract_lets +onlyGivenNames v
       first
         | (refine (fun (hv : Stays ps s0 v) => ?_) ?_; rotate_left; unfold v; rotate_right)
         | (refine (fun (hv : Stays ps s0 v.2) => ?_) ?_; rotate_left; unfold v; rotate_right)
         | (refine (fun (hv : Stays ps s0 v.2.2) => ?_) ?_; rotate_left; unfold v; rotate_right)
         | skip
       all_goals (try clear_value v))
    | split

theorem execLaunchCounterCorrect_stays (a0 : State) (h0 : Stays ps s0 a0) [Has ps .time] : StaysRes ps s0 (execLaunchCounterCorrect a0) := by
  unfold execLaunchCounterCorrect
  repeat' first
    | with_reducible assumption
    | intro _
    | with_reducible apply StaysRes.ofNext
    | (extract_lets +onlyGivenNames v; all_goals (try clear_value v))
    | with_reducible exact Burns.refl _
    | with_reducible exact Nat.le_refl _
    | with_reducible exact List.prefix_refl _
    | split
    | (rw [State.mk_build]; refine Stays.upd (fun p hp => by cases p <;> first | exact absurd Has.mem hp | rfl) ?_ ?_ ?_ ?_ ?_)

theorem execLdpcDec_stays (a0 : Nat) (a1 : State) (h1 : Stays ps s0 a1) [Has ps .lists] [Has ps .cyclic] [Has ps .units] [Has ps .fns] [Has ps .ports] [Has ps .acct] [Has ps .radio] [Has ps .front] [Has ps .tiers] [Has ps .fab] [Has ps .rpl] [Has ps .health] [Has ps .start] [Has ps .regs] [Has ps .mem] [Has ps .out] : StaysRes ps s0 (execLdpcDec a0 a1) := by
  unfold execLdpcDec
  repeat' first
    | with_reducible assumption
    | with_reducible exact StaysRes.ofFault
    | with_reducible apply StaysRes.ofNext
    | with_reducible apply State.failList_stays
    | with_reducible apply State.kudPut_stays
    | with_reducible apply State.fetch_stays
    | with_reducible apply State.readSpans_stays
    | with_reducible apply State.count64_stays
    | with_reducible apply State.chargePlaced_stays
    | with_reducible apply State.ldpcDecode_stays
    | (extract_lets +onlyGivenNames v
       first
         | (refine (fun (hv : Stays ps s0 v) => ?_) ?_; rotate_left; unfold v; rotate_right)
         | (refine (fun (hv : Stays ps s0 v.2) => ?_) ?_; rotate_left; unfold v; rotate_right)
         | (refine (fun (hv : Stays ps s0 v.2.2) => ?_) ?_; rotate_left; unfold v; rotate_right)
         | skip
       all_goals (try clear_value v))
    | split

theorem execLdpcEnc_stays (a0 : Nat) (a1 : State) (h1 : Stays ps s0 a1) [Has ps .lists] [Has ps .cyclic] [Has ps .units] [Has ps .fns] [Has ps .ports] [Has ps .acct] [Has ps .radio] [Has ps .front] [Has ps .tiers] [Has ps .fab] [Has ps .rpl] [Has ps .health] [Has ps .start] [Has ps .regs] [Has ps .mem] [Has ps .out] : StaysRes ps s0 (execLdpcEnc a0 a1) := by
  unfold execLdpcEnc
  repeat' first
    | with_reducible assumption
    | with_reducible exact StaysRes.ofFault
    | with_reducible apply StaysRes.ofNext
    | with_reducible apply State.failList_stays
    | with_reducible apply State.fetch_stays
    | with_reducible apply State.kudPut_stays
    | (extract_lets +onlyGivenNames v
       first
         | (refine (fun (hv : Stays ps s0 v.2.2) => ?_) ?_; rotate_left; unfold v; rotate_right)
         | skip
       all_goals (try clear_value v))
    | split

theorem execListHdr_stays (a0 : Nat) (a1 : State) (h1 : Stays ps s0 a1) [Has ps .lists] [Has ps .units] [Has ps .fns] [Has ps .front] [Has ps .fab] [Has ps .rpl] [Has ps .regs] [Has ps .out] : StaysRes ps s0 (execListHdr a0 a1) := by
  unfold execListHdr
  repeat' first
    | with_reducible assumption
    | with_reducible exact StaysRes.ofFault
    | with_reducible apply StaysRes.ofNext
    | with_reducible apply State.enterCmd_stays
    | with_reducible apply State.advance_stays
    | with_reducible apply State.failList_stays
    | (extract_lets +onlyGivenNames v; all_goals (try clear_value v))
    | split

theorem execListStart_stays (a0 : Nat) (a1 : Nat) (a2 : State) (h2 : Stays ps s0 a2) [Has ps .lists] [Has ps .ctxs] [Has ps .units] [Has ps .fns] [Has ps .ports] [Has ps .mat] [Has ps .inf] [Has ps .chm] [Has ps .radio] [Has ps .front] [Has ps .tiers] [Has ps .fab] [Has ps .rpl] [Has ps .health] [Has ps .start] [Has ps .regs] [Has ps .mem] [Has ps .out] : StaysRes ps s0 (execListStart a0 a1 a2) := by
  unfold execListStart
  repeat' first
    | with_reducible assumption
    | with_reducible exact StaysRes.ofFault
    | with_reducible apply StaysRes.ofNext
    | with_reducible apply State.reapSteps_stays
    | with_reducible apply State.refresh_stays
    | with_reducible apply State.refuseList_stays
    | with_reducible apply State.launchList_stays
    | (extract_lets +onlyGivenNames v; all_goals (try clear_value v))
    | split

theorem execLoad_stays (a0 : Nat) (a1 : State) (h1 : Stays ps s0 a1) [Has ps .lists] [Has ps .cyclic] [Has ps .units] [Has ps .fns] [Has ps .ports] [Has ps .acct] [Has ps .mat] [Has ps .radio] [Has ps .front] [Has ps .tiers] [Has ps .fab] [Has ps .rpl] [Has ps .health] [Has ps .start] [Has ps .regs] [Has ps .mem] [Has ps .out] : StaysRes ps s0 (execLoad a0 a1) := by
  unfold execLoad
  repeat' first
    | with_reducible assumption
    | intro _
    | with_reducible exact StaysRes.ofFault
    | with_reducible apply StaysRes.ofNext
    | with_reducible apply State.failList_stays
    | with_reducible apply State.fetch_stays
    | with_reducible apply State.setArray_stays
    | with_reducible apply State.work_stays
    | with_reducible apply State.count64_stays
    | with_reducible apply State.finishCmd_stays
    | (extract_lets +onlyGivenNames v
       first
         | (have hv : Mem := v; clear hv; unfold v; clear v)
         | (refine (fun (hv : Stays ps s0 v) => ?_) ?_; rotate_left; unfold v; rotate_right)
         | (refine (fun (hv : Stays ps s0 v.2.2) => ?_) ?_; rotate_left; unfold v; rotate_right)
         | skip
       all_goals (try clear_value v))
    | with_reducible exact Burns.refl _
    | with_reducible exact Nat.le_refl _
    | with_reducible exact List.prefix_refl _
    | with_reducible apply Mem.wf_clear
    | with_reducible apply Mem.wf_wrBytes
    | split
    | (rw [State.mk_build]; refine Stays.upd (fun p hp => by cases p <;> first | exact absurd Has.mem hp | rfl) ?_ ?_ ?_ ?_ ?_)

theorem execLoop_stays (a0 : Nat) (a1 : State) (h1 : Stays ps s0 a1) [Has ps .lists] [Has ps .units] [Has ps .fns] [Has ps .ports] [Has ps .acct] [Has ps .chm] [Has ps .radio] [Has ps .front] [Has ps .tiers] [Has ps .fab] [Has ps .rpl] [Has ps .health] [Has ps .start] [Has ps .regs] [Has ps .out] : StaysRes ps s0 (execLoop a0 a1) := by
  unfold execLoop
  repeat' first
    | with_reducible assumption
    | with_reducible apply State.control_stays

theorem execNop_stays (a0 : Origin) (a1 : State) (h1 : Stays ps s0 a1) [Has ps .lists] [Has ps .units] [Has ps .fns] [Has ps .front] [Has ps .fab] [Has ps .rpl] [Has ps .regs] [Has ps .out] : StaysRes ps s0 (execNop a0 a1) := by
  unfold execNop
  repeat' first
    | with_reducible assumption
    | intro _
    | with_reducible apply StaysSvc.ofDone
    | with_reducible apply State.service_stays

theorem execNotify_stays (a0 : Origin) (a1 : State) (h1 : Stays ps s0 a1) [Has ps .lists] [Has ps .units] [Has ps .fns] [Has ps .front] [Has ps .fab] [Has ps .rpl] [Has ps .regs] [Has ps .out] : StaysRes ps s0 (execNotify a0 a1) := by
  unfold execNotify
  repeat' first
    | with_reducible assumption
    | intro _
    | with_reducible apply StaysSvc.ofDone
    | with_reducible apply State.service_stays
    | with_reducible apply State.post_stays
    | (extract_lets +onlyGivenNames v; all_goals (try clear_value v))
    | split

theorem execPin_stays (a0 : Origin) (a1 : State) (h1 : Stays ps s0 a1) [Has ps .lists] [Has ps .units] [Has ps .fns] [Has ps .front] [Has ps .tiers] [Has ps .fab] [Has ps .rpl] [Has ps .regs] [Has ps .mem] [Has ps .out] : StaysRes ps s0 (execPin a0 a1) := by
  unfold execPin
  repeat' first
    | with_reducible assumption
    | intro _
    | with_reducible apply State.service_stays
    | with_reducible apply State.pageCmd_stays

theorem execPlace_stays (a0 : Origin) (a1 : State) (h1 : Stays ps s0 a1) [Has ps .lists] [Has ps .units] [Has ps .fns] [Has ps .front] [Has ps .tiers] [Has ps .fab] [Has ps .rpl] [Has ps .regs] [Has ps .mem] [Has ps .out] : StaysRes ps s0 (execPlace a0 a1) := by
  unfold execPlace
  repeat' first
    | with_reducible assumption
    | intro _
    | with_reducible apply State.service_stays
    | with_reducible apply State.pageCmd_stays

theorem execPolarDec_stays (a0 : Nat) (a1 : State) (h1 : Stays ps s0 a1) [Has ps .lists] [Has ps .cyclic] [Has ps .units] [Has ps .fns] [Has ps .ports] [Has ps .acct] [Has ps .radio] [Has ps .front] [Has ps .tiers] [Has ps .fab] [Has ps .rpl] [Has ps .health] [Has ps .start] [Has ps .regs] [Has ps .mem] [Has ps .out] : StaysRes ps s0 (execPolarDec a0 a1) := by
  unfold execPolarDec
  repeat' first
    | with_reducible assumption
    | with_reducible exact StaysRes.ofFault
    | with_reducible apply StaysRes.ofNext
    | with_reducible apply State.failList_stays
    | with_reducible apply State.fetch_stays
    | with_reducible apply State.count_stays
    | with_reducible apply State.kudPut_stays
    | (extract_lets +onlyGivenNames v
       first
         | (refine (fun (hv : Stays ps s0 v) => ?_) ?_; rotate_left; unfold v; rotate_right)
         | (refine (fun (hv : Stays ps s0 v.2.2) => ?_) ?_; rotate_left; unfold v; rotate_right)
         | skip
       all_goals (try clear_value v))
    | split

theorem execPolarEnc_stays (a0 : Nat) (a1 : State) (h1 : Stays ps s0 a1) [Has ps .lists] [Has ps .cyclic] [Has ps .units] [Has ps .fns] [Has ps .ports] [Has ps .acct] [Has ps .radio] [Has ps .front] [Has ps .tiers] [Has ps .fab] [Has ps .rpl] [Has ps .health] [Has ps .start] [Has ps .regs] [Has ps .mem] [Has ps .out] : StaysRes ps s0 (execPolarEnc a0 a1) := by
  unfold execPolarEnc
  repeat' first
    | with_reducible assumption
    | with_reducible exact StaysRes.ofFault
    | with_reducible apply StaysRes.ofNext
    | with_reducible apply State.failList_stays
    | with_reducible apply State.fetch_stays
    | with_reducible apply State.kudPut_stays
    | (extract_lets +onlyGivenNames v
       first
         | (refine (fun (hv : Stays ps s0 v.2.2) => ?_) ?_; rotate_left; unfold v; rotate_right)
         | skip
       all_goals (try clear_value v))
    | split

theorem execPpsMiss_stays (a0 : State) (h0 : Stays ps s0 a0) [Has ps .time] [Has ps .fns] [Has ps .rpl] [Has ps .start] [Has ps .regs] [Has ps .drawn] : StaysRes ps s0 (execPpsMiss a0) := by
  unfold execPpsMiss
  repeat' first
    | with_reducible assumption
    | intro _
    | with_reducible apply StaysRes.ofNext
    | with_reducible apply State.ppsBad_stays
    | (extract_lets +onlyGivenNames v; all_goals (try clear_value v))
    | with_reducible exact Burns.refl _
    | with_reducible exact Nat.le_refl _
    | with_reducible exact List.prefix_refl _
    | split
    | (rw [State.mk_build]; refine Stays.upd (fun p hp => by cases p <;> first | exact absurd Has.mem hp | rfl) ?_ ?_ ?_ ?_ ?_)

theorem execPpsOutPulse_stays (a0 : State) (h0 : Stays ps s0 a0) [Has ps .time] [Has ps .out] : StaysRes ps s0 (execPpsOutPulse a0) := by
  unfold execPpsOutPulse
  repeat' first
    | with_reducible assumption
    | intro _
    | with_reducible apply StaysRes.ofNext
    | with_reducible apply State.emit_stays
    | (extract_lets +onlyGivenNames v; all_goals (try clear_value v))
    | with_reducible exact Burns.refl _
    | with_reducible exact Nat.le_refl _
    | with_reducible exact List.prefix_refl _
    | split
    | (rw [State.mk_build]; refine Stays.upd (fun p hp => by cases p <;> first | exact absurd Has.mem hp | rfl) ?_ ?_ ?_ ?_ ?_)

theorem execPpsPulse_stays (a0 : State) (h0 : Stays ps s0 a0) [Has ps .time] [Has ps .fns] [Has ps .rpl] [Has ps .start] [Has ps .regs] [Has ps .drawn] : StaysRes ps s0 (execPpsPulse a0) := by
  unfold execPpsPulse
  repeat' first
    | with_reducible assumption
    | intro _
    | with_reducible apply StaysRes.ofNext
    | with_reducible apply State.ppsBad_stays
    | with_reducible apply State.setSrc_stays
    | with_reducible apply State.steer_stays
    | with_reducible apply State.qualify_stays
    | (extract_lets +onlyGivenNames v
       first
         | (refine (fun (hv : Stays ps s0 v) => ?_) ?_; rotate_left; unfold v; rotate_right)
         | skip
       all_goals (try clear_value v))
    | with_reducible exact Burns.refl _
    | with_reducible exact Nat.le_refl _
    | with_reducible exact List.prefix_refl _
    | split
    | (rw [State.mk_build]; refine Stays.upd (fun p hp => by cases p <;> first | exact absurd Has.mem hp | rfl) ?_ ?_ ?_ ?_ ?_)

theorem execPromote_stays (a0 : Origin) (a1 : State) (h1 : Stays ps s0 a1) [Has ps .lists] [Has ps .units] [Has ps .fns] [Has ps .front] [Has ps .tiers] [Has ps .fab] [Has ps .rpl] [Has ps .regs] [Has ps .mem] [Has ps .out] : StaysRes ps s0 (execPromote a0 a1) := by
  unfold execPromote
  repeat' first
    | with_reducible assumption
    | intro _
    | with_reducible apply State.service_stays
    | with_reducible apply State.pageCmd_stays

theorem execPtpAnnounceTimeout_stays (a0 : Nat) (a1 : State) (h1 : Stays ps s0 a1) [Has ps .time] [Has ps .fns] [Has ps .rpl] [Has ps .start] [Has ps .regs] [Has ps .drawn] : StaysRes ps s0 (execPtpAnnounceTimeout a0 a1) := by
  unfold execPtpAnnounceTimeout
  repeat' first
    | with_reducible assumption
    | with_reducible exact StaysRes.ofFault
    | with_reducible apply StaysRes.ofNext
    | with_reducible apply State.selectPort_stays
    | with_reducible apply State.setPtpPort_stays
    | (extract_lets +onlyGivenNames v; all_goals (try clear_value v))
    | split

theorem execPtpDelayReq_stays (a0 : State) (h0 : Stays ps s0 a0) [Has ps .time] [Has ps .out] : StaysRes ps s0 (execPtpDelayReq a0) := by
  unfold execPtpDelayReq
  repeat' first
    | with_reducible assumption
    | with_reducible apply StaysRes.ofNext
    | with_reducible apply State.emit_stays
    | with_reducible apply State.setPtpPort_stays
    | (extract_lets +onlyGivenNames v; all_goals (try clear_value v))
    | split

theorem execPtpFrame_stays (a0 : Nat) (a1 : PtpMsg) (a2 : State) (h2 : Stays ps s0 a2) [Has ps .time] [Has ps .fns] [Has ps .rpl] [Has ps .start] [Has ps .regs] [Has ps .drawn] : StaysRes ps s0 (execPtpFrame a0 a1 a2) := by
  unfold execPtpFrame
  repeat' first
    | with_reducible assumption
    | with_reducible exact StaysRes.ofFault
    | with_reducible apply StaysRes.ofNext
    | with_reducible apply State.selectPort_stays
    | with_reducible apply State.setPtpPort_stays
    | with_reducible apply State.setReg_stays
    | with_reducible apply State.timEvt_stays
    | with_reducible apply State.setSrc_stays
    | with_reducible apply State.steer_stays
    | with_reducible apply State.qualify_stays
    | (extract_lets +onlyGivenNames v
       first
         | (refine (fun (hv : Stays ps s0 v) => ?_) ?_; rotate_left; unfold v; rotate_right)
         | skip
       all_goals (try clear_value v))
    | split

theorem execRadioOverrunEnd_stays (a0 : Nat) (a1 : State) (h1 : Stays ps s0 a1) [Has ps .lists] [Has ps .cyclic] [Has ps .ctxs] [Has ps .units] [Has ps .fns] [Has ps .ports] [Has ps .mat] [Has ps .inf] [Has ps .chm] [Has ps .radio] [Has ps .front] [Has ps .tiers] [Has ps .fab] [Has ps .rpl] [Has ps .health] [Has ps .start] [Has ps .regs] [Has ps .mem] [Has ps .out] : StaysRes ps s0 (execRadioOverrunEnd a0 a1) := by
  unfold execRadioOverrunEnd
  repeat' first
    | with_reducible assumption
    | with_reducible exact StaysRes.ofFault
    | with_reducible apply StaysRes.ofNext
    | with_reducible apply State.cycEvt_stays
    | with_reducible apply State.count_stays
    | with_reducible apply State.seqUpdate_stays
    | with_reducible apply State.openWindow_stays
    | with_reducible apply State.setRegion_stays
    | (extract_lets +onlyGivenNames v
       first
         | (refine (fun (hv : Stays ps s0 v) => ?_) ?_; rotate_left; unfold v; rotate_right)
         | skip
       all_goals (try clear_value v))
    | split

theorem execRcmac_stays (a0 : Nat) (a1 : State) (h1 : Stays ps s0 a1) [Has ps .lists] [Has ps .units] [Has ps .fns] [Has ps .ports] [Has ps .acct] [Has ps .chm] [Has ps .radio] [Has ps .front] [Has ps .tiers] [Has ps .fab] [Has ps .rpl] [Has ps .health] [Has ps .start] [Has ps .regs] [Has ps .mem] [Has ps .out] [Has ps .drawn] : StaysRes ps s0 (execRcmac a0 a1) := by
  unfold execRcmac
  repeat' first
    | with_reducible assumption
    | with_reducible apply State.bundle_stays

theorem execRcmul_stays (a0 : Nat) (a1 : State) (h1 : Stays ps s0 a1) [Has ps .lists] [Has ps .units] [Has ps .fns] [Has ps .ports] [Has ps .acct] [Has ps .chm] [Has ps .radio] [Has ps .front] [Has ps .tiers] [Has ps .fab] [Has ps .rpl] [Has ps .health] [Has ps .start] [Has ps .regs] [Has ps .mem] [Has ps .out] [Has ps .drawn] : StaysRes ps s0 (execRcmul a0 a1) := by
  unfold execRcmul
  repeat' first
    | with_reducible assumption
    | with_reducible apply State.bundle_stays

theorem execRestore_stays (a0 : Nat) (a1 : State) (h1 : Stays ps s0 a1) [Has ps .lists] [Has ps .cyclic] [Has ps .units] [Has ps .fns] [Has ps .ports] [Has ps .acct] [Has ps .mat] [Has ps .radio] [Has ps .front] [Has ps .tiers] [Has ps .fab] [Has ps .rpl] [Has ps .health] [Has ps .start] [Has ps .regs] [Has ps .mem] [Has ps .out] : StaysRes ps s0 (execRestore a0 a1) := by
  unfold execRestore
  repeat' first
    | with_reducible assumption
    | intro _
    | with_reducible exact StaysRes.ofFault
    | with_reducible apply StaysRes.ofNext
    | with_reducible apply State.failList_stays
    | with_reducible apply State.fetch_stays
    | with_reducible apply State.setArray_stays
    | with_reducible apply State.work_stays
    | with_reducible apply State.count64_stays
    | with_reducible apply State.finishCmd_stays
    | (extract_lets +onlyGivenNames v
       first
         | (refine (fun (hv : Stays ps s0 v) => ?_) ?_; rotate_left; unfold v; rotate_right)
         | (refine (fun (hv : Stays ps s0 v.2.2) => ?_) ?_; rotate_left; unfold v; rotate_right)
         | skip
       all_goals (try clear_value v))
    | with_reducible exact Burns.refl _
    | with_reducible exact Nat.le_refl _
    | with_reducible exact List.prefix_refl _
    | with_reducible apply Mem.wf_wrBytes
    | split
    | (rw [State.mk_build]; refine Stays.upd (fun p hp => by cases p <;> first | exact absurd Has.mem hp | rfl) ?_ ?_ ?_ ?_ ?_)

theorem execResume_stays (a0 : Nat) (a1 : State) (h1 : Stays ps s0 a1) [Has ps .lists] [Has ps .cyclic] [Has ps .ctxs] [Has ps .units] [Has ps .fns] [Has ps .ports] [Has ps .acct] [Has ps .radio] [Has ps .front] [Has ps .tiers] [Has ps .fab] [Has ps .rpl] [Has ps .health] [Has ps .start] [Has ps .regs] [Has ps .out] : StaysRes ps s0 (execResume a0 a1) := by
  unfold execResume
  repeat' first
    | with_reducible assumption
    | with_reducible exact StaysRes.ofFault
    | with_reducible apply StaysRes.ofNext
    | with_reducible apply State.pumpXfer_stays
    | with_reducible apply State.failList_stays
    | with_reducible apply State.openXfer_stays
    | (extract_lets +onlyGivenNames v; all_goals (try clear_value v))
    | split

theorem execServiceAck_stays (a0 : Nat) (a1 : State) (h1 : Stays ps s0 a1) [Has ps .lists] [Has ps .units] [Has ps .fns] [Has ps .front] [Has ps .fab] [Has ps .rpl] [Has ps .regs] [Has ps .out] : StaysRes ps s0 (execServiceAck a0 a1) := by
  unfold execServiceAck
  repeat' first
    | with_reducible assumption
    | intro _
    | with_reducible exact StaysRes.ofFault
    | with_reducible apply StaysRes.ofNext
    | with_reducible apply State.advance_stays
    | (extract_lets +onlyGivenNames v
       first
         | (have hv : Sched := v; clear hv; unfold v; clear v)
         | skip
       all_goals (try clear_value v))
    | with_reducible exact Burns.refl _
    | with_reducible exact Nat.le_refl _
    | with_reducible exact List.prefix_refl _
    | split
    | (rw [State.mk_build]; refine Stays.upd (fun p hp => by cases p <;> first | exact absurd Has.mem hp | rfl) ?_ ?_ ?_ ?_ ?_)

theorem execSetp_stays (a0 : Nat) (a1 : State) (h1 : Stays ps s0 a1) [Has ps .lists] [Has ps .units] [Has ps .fns] [Has ps .ports] [Has ps .acct] [Has ps .chm] [Has ps .radio] [Has ps .front] [Has ps .tiers] [Has ps .fab] [Has ps .rpl] [Has ps .health] [Has ps .start] [Has ps .regs] [Has ps .out] : StaysRes ps s0 (execSetp a0 a1) := by
  unfold execSetp
  repeat' first
    | with_reducible assumption
    | with_reducible apply State.control_stays

theorem execSets_stays (a0 : Nat) (a1 : State) (h1 : Stays ps s0 a1) [Has ps .lists] [Has ps .units] [Has ps .fns] [Has ps .ports] [Has ps .acct] [Has ps .chm] [Has ps .radio] [Has ps .front] [Has ps .tiers] [Has ps .fab] [Has ps .rpl] [Has ps .health] [Has ps .start] [Has ps .regs] [Has ps .out] : StaysRes ps s0 (execSets a0 a1) := by
  unfold execSets
  repeat' first
    | with_reducible assumption
    | with_reducible apply State.control_stays

theorem execSetsh_stays (a0 : Nat) (a1 : State) (h1 : Stays ps s0 a1) [Has ps .lists] [Has ps .units] [Has ps .fns] [Has ps .ports] [Has ps .acct] [Has ps .chm] [Has ps .radio] [Has ps .front] [Has ps .tiers] [Has ps .fab] [Has ps .rpl] [Has ps .health] [Has ps .start] [Has ps .regs] [Has ps .out] : StaysRes ps s0 (execSetsh a0 a1) := by
  unfold execSetsh
  repeat' first
    | with_reducible assumption
    | with_reducible apply State.control_stays

theorem execSourceHoldoffExpiry_stays (a0 : State) (h0 : Stays ps s0 a0) [Has ps .time] [Has ps .fns] [Has ps .rpl] [Has ps .start] [Has ps .regs] [Has ps .drawn] : StaysRes ps s0 (execSourceHoldoffExpiry a0) := by
  unfold execSourceHoldoffExpiry
  repeat' first
    | with_reducible assumption
    | intro _
    | with_reducible apply StaysRes.ofNext
    | with_reducible apply State.steer_stays
    | with_reducible apply State.timTo_stays
    | with_reducible apply State.timEvt_stays
    | (extract_lets +onlyGivenNames v; all_goals (try clear_value v))
    | with_reducible exact Burns.refl _
    | with_reducible exact Nat.le_refl _
    | with_reducible exact List.prefix_refl _
    | split
    | (rw [State.mk_build]; refine Stays.upd (fun p hp => by cases p <;> first | exact absurd Has.mem hp | rfl) ?_ ?_ ?_ ?_ ?_)

theorem execSpill_stays (a0 : Nat) (a1 : State) (h1 : Stays ps s0 a1) [Has ps .lists] [Has ps .cyclic] [Has ps .units] [Has ps .fns] [Has ps .acct] [Has ps .mat] [Has ps .front] [Has ps .tiers] [Has ps .fab] [Has ps .rpl] [Has ps .regs] [Has ps .mem] [Has ps .out] : StaysRes ps s0 (execSpill a0 a1) := by
  unfold execSpill
  repeat' first
    | with_reducible assumption
    | with_reducible exact StaysRes.ofFault
    | with_reducible apply StaysRes.ofNext
    | with_reducible apply State.failList_stays
    | with_reducible apply State.outStore_stays
    | with_reducible apply State.count64_stays
    | with_reducible apply State.setArray_stays
    | with_reducible apply State.finishCmd_stays
    | with_reducible apply State.work_stays
    | (extract_lets +onlyGivenNames v
       first
         | (refine (fun (hv : Stays ps s0 v) => ?_) ?_; rotate_left; unfold v; rotate_right)
         | skip
       all_goals (try clear_value v))
    | split

theorem execStream_stays (a0 : Nat) (a1 : State) (h1 : Stays ps s0 a1) [Has ps .cyclic] [Has ps .units] [Has ps .acct] [Has ps .mat] [Has ps .regs] : StaysRes ps s0 (execStream a0 a1) := by
  unfold execStream
  repeat' first
    | with_reducible assumption
    | intro _
    | with_reducible exact StaysRes.ofFault
    | with_reducible apply StaysRes.ofNext
    | with_reducible apply State.failList_stays
    | with_reducible apply State.beginStream_stays
    | (extract_lets +onlyGivenNames v; all_goals (try clear_value v))
    | with_reducible apply Stays.foldl
    | split

theorem execSwapComplete_stays (a0 : Nat) (a1 : State) (h1 : Stays ps s0 a1) [Has ps .lists] [Has ps .cyclic] [Has ps .ctxs] [Has ps .units] [Has ps .fns] [Has ps .ports] [Has ps .acct] [Has ps .mat] [Has ps .radio] [Has ps .front] [Has ps .tiers] [Has ps .fab] [Has ps .rpl] [Has ps .health] [Has ps .start] [Has ps .regs] [Has ps .mem] [Has ps .out] : StaysRes ps s0 (execSwapComplete a0 a1) := by
  unfold execSwapComplete
  repeat' first
    | with_reducible assumption
    | with_reducible exact StaysRes.ofFault
    | with_reducible apply StaysRes.ofNext
    | with_reducible apply State.endIfDue_stays
    | with_reducible apply State.swapOut_stays
    | with_reducible apply State.drainIn_stays
    | with_reducible apply State.setCluster_stays
    | with_reducible apply State.bringIn_stays
    | with_reducible apply State.swapIn_stays
    | (extract_lets +onlyGivenNames v
       first
         | (refine (fun (hv : Stays ps s0 v) => ?_) ?_; rotate_left; unfold v; rotate_right)
         | skip
       all_goals (try clear_value v))
    | split

theorem execSwapStart_stays (a0 : Nat) (a1 : State) (h1 : Stays ps s0 a1) [Has ps .cyclic] [Has ps .ctxs] [Has ps .fns] [Has ps .acct] [Has ps .regs] [Has ps .mem] : StaysRes ps s0 (execSwapStart a0 a1) := by
  unfold execSwapStart
  repeat' first
    | with_reducible assumption
    | with_reducible exact StaysRes.ofFault
    | with_reducible apply StaysRes.ofNext
    | with_reducible apply State.setCluster_stays
    | with_reducible apply State.deferSwap_stays
    | with_reducible apply State.updCtx_stays
    | with_reducible apply State.acct_stays
    | with_reducible apply State.charge_stays
    | with_reducible apply State.bringIn_stays
    | (extract_lets +onlyGivenNames v
       first
         | (refine (fun (hv : Stays ps s0 v) => ?_) ?_; rotate_left; unfold v; rotate_right)
         | skip
       all_goals (try clear_value v))
    | split

theorem execToExact_stays (a0 : Nat) (a1 : State) (h1 : Stays ps s0 a1) [Has ps .lists] [Has ps .cyclic] [Has ps .units] [Has ps .fns] [Has ps .ports] [Has ps .acct] [Has ps .radio] [Has ps .front] [Has ps .tiers] [Has ps .fab] [Has ps .rpl] [Has ps .health] [Has ps .start] [Has ps .regs] [Has ps .mem] [Has ps .out] : StaysRes ps s0 (execToExact a0 a1) := by
  unfold execToExact
  repeat' first
    | with_reducible assumption
    | with_reducible exact StaysRes.ofFault
    | with_reducible apply StaysRes.ofNext
    | with_reducible apply State.failList_stays
    | with_reducible apply State.fetch_stays
    | with_reducible apply State.movePut_stays
    | (extract_lets +onlyGivenNames v
       first
         | (refine (fun (hv : Stays ps s0 v.2.2) => ?_) ?_; rotate_left; unfold v; rotate_right)
         | skip
       all_goals (try clear_value v))
    | split

theorem execTodMessage_stays (a0 : List Byte) (a1 : State) (h1 : Stays ps s0 a1) [Has ps .time] [Has ps .fns] [Has ps .regs] : StaysRes ps s0 (execTodMessage a0 a1) := by
  unfold execTodMessage
  repeat' first
    | with_reducible assumption
    | intro _
    | with_reducible apply StaysRes.ofNext
    | with_reducible apply State.setReg_stays
    | with_reducible apply State.timEvt_stays
    | (extract_lets +onlyGivenNames v
       first
         | (refine (fun (hv : Stays ps s0 v) => ?_) ?_; rotate_left; unfold v; rotate_right)
         | skip
       all_goals (try clear_value v))
    | with_reducible exact Burns.refl _
    | with_reducible exact Nat.le_refl _
    | with_reducible exact List.prefix_refl _
    | split
    | (rw [State.mk_build]; refine Stays.upd (fun p hp => by cases p <;> first | exact absurd Has.mem hp | rfl) ?_ ?_ ?_ ?_ ?_)

theorem execUnpin_stays (a0 : Origin) (a1 : State) (h1 : Stays ps s0 a1) [Has ps .lists] [Has ps .units] [Has ps .fns] [Has ps .front] [Has ps .tiers] [Has ps .fab] [Has ps .rpl] [Has ps .regs] [Has ps .mem] [Has ps .out] : StaysRes ps s0 (execUnpin a0 a1) := by
  unfold execUnpin
  repeat' first
    | with_reducible assumption
    | intro _
    | with_reducible apply State.service_stays
    | with_reducible apply State.pageCmd_stays

theorem execVadd_stays (a0 : Nat) (a1 : State) (h1 : Stays ps s0 a1) [Has ps .lists] [Has ps .units] [Has ps .fns] [Has ps .ports] [Has ps .acct] [Has ps .chm] [Has ps .radio] [Has ps .front] [Has ps .tiers] [Has ps .fab] [Has ps .rpl] [Has ps .health] [Has ps .start] [Has ps .regs] [Has ps .mem] [Has ps .out] [Has ps .drawn] : StaysRes ps s0 (execVadd a0 a1) := by
  unfold execVadd
  repeat' first
    | with_reducible assumption
    | with_reducible apply State.bundle_stays

theorem execVbin_stays (a0 : Nat) (a1 : State) (h1 : Stays ps s0 a1) [Has ps .lists] [Has ps .cyclic] [Has ps .units] [Has ps .fns] [Has ps .ports] [Has ps .acct] [Has ps .mat] [Has ps .radio] [Has ps .front] [Has ps .tiers] [Has ps .fab] [Has ps .rpl] [Has ps .health] [Has ps .start] [Has ps .regs] [Has ps .mem] [Has ps .out] : StaysRes ps s0 (execVbin a0 a1) := by
  unfold execVbin
  repeat' first
    | with_reducible assumption
    | with_reducible apply State.vector_stays

theorem execVbrev_stays (a0 : Nat) (a1 : State) (h1 : Stays ps s0 a1) [Has ps .lists] [Has ps .units] [Has ps .fns] [Has ps .ports] [Has ps .acct] [Has ps .chm] [Has ps .radio] [Has ps .front] [Has ps .tiers] [Has ps .fab] [Has ps .rpl] [Has ps .health] [Has ps .start] [Has ps .regs] [Has ps .mem] [Has ps .out] [Has ps .drawn] : StaysRes ps s0 (execVbrev a0 a1) := by
  unfold execVbrev
  repeat' first
    | with_reducible assumption
    | with_reducible apply State.bundle_stays

theorem execVconj_stays (a0 : Nat) (a1 : State) (h1 : Stays ps s0 a1) [Has ps .lists] [Has ps .units] [Has ps .fns] [Has ps .ports] [Has ps .acct] [Has ps .chm] [Has ps .radio] [Has ps .front] [Has ps .tiers] [Has ps .fab] [Has ps .rpl] [Has ps .health] [Has ps .start] [Has ps .regs] [Has ps .mem] [Has ps .out] [Has ps .drawn] : StaysRes ps s0 (execVconj a0 a1) := by
  unfold execVconj
  repeat' first
    | with_reducible assumption
    | with_reducible apply State.bundle_stays

theorem execVconvert_stays (a0 : Nat) (a1 : State) (h1 : Stays ps s0 a1) [Has ps .lists] [Has ps .cyclic] [Has ps .units] [Has ps .fns] [Has ps .ports] [Has ps .acct] [Has ps .mat] [Has ps .radio] [Has ps .front] [Has ps .tiers] [Has ps .fab] [Has ps .rpl] [Has ps .health] [Has ps .start] [Has ps .regs] [Has ps .mem] [Has ps .out] : StaysRes ps s0 (execVconvert a0 a1) := by
  unfold execVconvert
  repeat' first
    | with_reducible assumption
    | with_reducible apply State.vector_stays

theorem execVisibilityStampDue_stays (a0 : Nat) (a1 : Nat) (a2 : State) (h2 : Stays ps s0 a2) [Has ps .ctxs] : StaysRes ps s0 (execVisibilityStampDue a0 a1 a2) := by
  unfold execVisibilityStampDue
  repeat' first
    | with_reducible assumption
    | with_reducible exact StaysRes.ofFault
    | with_reducible apply StaysRes.ofNext
    | with_reducible apply State.showHandle_stays
    | split

theorem execVmap_stays (a0 : Nat) (a1 : State) (h1 : Stays ps s0 a1) [Has ps .lists] [Has ps .cyclic] [Has ps .units] [Has ps .fns] [Has ps .ports] [Has ps .acct] [Has ps .mat] [Has ps .radio] [Has ps .front] [Has ps .tiers] [Has ps .fab] [Has ps .rpl] [Has ps .health] [Has ps .start] [Has ps .regs] [Has ps .mem] [Has ps .out] : StaysRes ps s0 (execVmap a0 a1) := by
  unfold execVmap
  repeat' first
    | with_reducible assumption
    | with_reducible apply State.vector_stays

theorem execVmov_stays (a0 : Nat) (a1 : State) (h1 : Stays ps s0 a1) [Has ps .lists] [Has ps .units] [Has ps .fns] [Has ps .ports] [Has ps .acct] [Has ps .chm] [Has ps .radio] [Has ps .front] [Has ps .tiers] [Has ps .fab] [Has ps .rpl] [Has ps .health] [Has ps .start] [Has ps .regs] [Has ps .mem] [Has ps .out] [Has ps .drawn] : StaysRes ps s0 (execVmov a0 a1) := by
  unfold execVmov
  repeat' first
    | with_reducible assumption
    | with_reducible apply State.bundle_stays

theorem execVnop_stays (a0 : Nat) (a1 : State) (h1 : Stays ps s0 a1) [Has ps .lists] [Has ps .units] [Has ps .fns] [Has ps .front] [Has ps .fab] [Has ps .rpl] [Has ps .regs] [Has ps .out] : StaysRes ps s0 (execVnop a0 a1) := by
  unfold execVnop
  repeat' first
    | with_reducible assumption
    | with_reducible exact StaysRes.ofFault
    | with_reducible apply StaysRes.ofNext
    | with_reducible apply State.finishCmd_stays
    | split

theorem execVnorm_stays (a0 : Nat) (a1 : State) (h1 : Stays ps s0 a1) [Has ps .lists] [Has ps .cyclic] [Has ps .units] [Has ps .fns] [Has ps .ports] [Has ps .acct] [Has ps .mat] [Has ps .radio] [Has ps .front] [Has ps .tiers] [Has ps .fab] [Has ps .rpl] [Has ps .health] [Has ps .start] [Has ps .regs] [Has ps .mem] [Has ps .out] : StaysRes ps s0 (execVnorm a0 a1) := by
  unfold execVnorm
  repeat' first
    | with_reducible assumption
    | with_reducible apply State.vector_stays

theorem execVreduce_stays (a0 : Nat) (a1 : State) (h1 : Stays ps s0 a1) [Has ps .lists] [Has ps .cyclic] [Has ps .units] [Has ps .fns] [Has ps .ports] [Has ps .acct] [Has ps .mat] [Has ps .radio] [Has ps .front] [Has ps .tiers] [Has ps .fab] [Has ps .rpl] [Has ps .health] [Has ps .start] [Has ps .regs] [Has ps .mem] [Has ps .out] : StaysRes ps s0 (execVreduce a0 a1) := by
  unfold execVreduce
  repeat' first
    | with_reducible assumption
    | with_reducible apply State.vector_stays

theorem execVrot_stays (a0 : Nat) (a1 : State) (h1 : Stays ps s0 a1) [Has ps .lists] [Has ps .units] [Has ps .fns] [Has ps .ports] [Has ps .acct] [Has ps .chm] [Has ps .radio] [Has ps .front] [Has ps .tiers] [Has ps .fab] [Has ps .rpl] [Has ps .health] [Has ps .start] [Has ps .regs] [Has ps .mem] [Has ps .out] [Has ps .drawn] : StaysRes ps s0 (execVrot a0 a1) := by
  unfold execVrot
  repeat' first
    | with_reducible assumption
    | with_reducible apply State.bundle_stays

theorem execVsample_stays (a0 : Nat) (a1 : State) (h1 : Stays ps s0 a1) [Has ps .lists] [Has ps .cyclic] [Has ps .units] [Has ps .fns] [Has ps .ports] [Has ps .acct] [Has ps .mat] [Has ps .radio] [Has ps .front] [Has ps .tiers] [Has ps .fab] [Has ps .rpl] [Has ps .health] [Has ps .start] [Has ps .regs] [Has ps .mem] [Has ps .out] : StaysRes ps s0 (execVsample a0 a1) := by
  unfold execVsample
  repeat' first
    | with_reducible assumption
    | with_reducible apply State.vector_stays

theorem execVsoftmax_stays (a0 : Nat) (a1 : State) (h1 : Stays ps s0 a1) [Has ps .lists] [Has ps .cyclic] [Has ps .units] [Has ps .fns] [Has ps .ports] [Has ps .acct] [Has ps .mat] [Has ps .radio] [Has ps .front] [Has ps .tiers] [Has ps .fab] [Has ps .rpl] [Has ps .health] [Has ps .start] [Has ps .regs] [Has ps .mem] [Has ps .out] : StaysRes ps s0 (execVsoftmax a0 a1) := by
  unfold execVsoftmax
  repeat' first
    | with_reducible assumption
    | with_reducible apply State.vector_stays

theorem execVsub_stays (a0 : Nat) (a1 : State) (h1 : Stays ps s0 a1) [Has ps .lists] [Has ps .units] [Has ps .fns] [Has ps .ports] [Has ps .acct] [Has ps .chm] [Has ps .radio] [Has ps .front] [Has ps .tiers] [Has ps .fab] [Has ps .rpl] [Has ps .health] [Has ps .start] [Has ps .regs] [Has ps .mem] [Has ps .out] [Has ps .drawn] : StaysRes ps s0 (execVsub a0 a1) := by
  unfold execVsub
  repeat' first
    | with_reducible assumption
    | with_reducible apply State.bundle_stays

theorem execWeightFenceMet_stays (a0 : Nat) (a1 : State) (h1 : Stays ps s0 a1) [Has ps .units] [Has ps .mat] : StaysRes ps s0 (execWeightFenceMet a0 a1) := by
  unfold execWeightFenceMet
  repeat' first
    | with_reducible assumption
    | with_reducible exact StaysRes.ofFault
    | with_reducible apply StaysRes.ofNext
    | with_reducible apply State.setArray_stays
    | with_reducible apply State.setRun_stays
    | (extract_lets +onlyGivenNames v
       first
         | (refine (fun (hv : Stays ps s0 v) => ?_) ?_; rotate_left; unfold v; rotate_right)
         | skip
       all_goals (try clear_value v))
    | split

theorem execWindowBoundary_stays (a0 : Nat) (a1 : State) (h1 : Stays ps s0 a1) [Has ps .lists] [Has ps .cyclic] [Has ps .ctxs] [Has ps .units] [Has ps .fns] [Has ps .ports] [Has ps .mat] [Has ps .inf] [Has ps .chm] [Has ps .radio] [Has ps .front] [Has ps .tiers] [Has ps .fab] [Has ps .rpl] [Has ps .health] [Has ps .start] [Has ps .regs] [Has ps .mem] [Has ps .out] : StaysRes ps s0 (execWindowBoundary a0 a1) := by
  unfold execWindowBoundary
  repeat' first
    | with_reducible assumption
    | with_reducible exact StaysRes.ofFault
    | with_reducible apply StaysRes.ofNext
    | with_reducible apply State.seqUpdate_stays
    | split

theorem execXferNd_stays (a0 : Nat) (a1 : State) (h1 : Stays ps s0 a1) [Has ps .lists] [Has ps .cyclic] [Has ps .ctxs] [Has ps .units] [Has ps .fns] [Has ps .ports] [Has ps .acct] [Has ps .radio] [Has ps .front] [Has ps .tiers] [Has ps .fab] [Has ps .rpl] [Has ps .health] [Has ps .start] [Has ps .regs] [Has ps .out] : StaysRes ps s0 (execXferNd a0 a1) := by
  unfold execXferNd
  repeat' first
    | with_reducible assumption
    | with_reducible exact StaysRes.ofFault
    | with_reducible apply StaysRes.ofNext
    | with_reducible apply State.pumpXfer_stays
    | with_reducible apply State.failList_stays
    | with_reducible apply State.openXfer_stays
    | (extract_lets +onlyGivenNames v; all_goals (try clear_value v))
    | split

end Sys2Proof.Machine
end

