-- ==== Sys2Proof/Laws/StaysFront.lean ====
section
/-! SUPPORT. Each function of inference, radio and fronthaul keeps what every command keeps and changes only some parts: one lemma a function. -/
namespace Sys2Proof.Machine

variable {ps : List Part} {s0 : State}

theorem State.joinSeq_stays (a0 : State) (a1 : Nat) (a2 : Nat) (a3 : Sequence) (h0 : Stays ps s0 a0) [Has ps .inf] : Stays ps s0 (State.joinSeq a0 a1 a2 a3) := by
  unfold State.joinSeq
  repeat' first
    | with_reducible assumption
    | with_reducible apply State.setSeq_stays
    | with_reducible apply State.setModel_stays
    | split

theorem State.admissions_stays (a0 : State) (a1 : Nat) (a2 : Nat) (a3 : Nat) (h0 : Stays ps s0 a0) [Has ps .fns] [Has ps .inf] [Has ps .tiers] [Has ps .regs] : Stays ps s0 (State.admissions a0 a1 a2 a3) := by
  induction a3 generalizing a0 a1 a2 with
  | zero =>
    unfold State.admissions
    repeat' first
      | with_reducible assumption
  | succ n ih =>
    unfold State.admissions
    repeat' first
      | with_reducible assumption
      | with_reducible apply ih
      | with_reducible apply State.endSeq_stays
      | with_reducible apply State.setModel_stays
      | with_reducible apply State.takePages_stays
      | with_reducible apply State.joinSeq_stays
      | (extract_lets +onlyGivenNames v; refine (fun (hv : Stays ps s0 v) => ?_) ?_; rotate_left; unfold v; rotate_right; all_goals (try clear_value v))
      | split

theorem State.dropModel_stays (a0 : State) (a1 : Nat) (a2 : Nat) (a3 : Nat) (a4 : Nat) (h0 : Stays ps s0 a0) [Has ps .lists] [Has ps .ctxs] [Has ps .units] [Has ps .fns] [Has ps .mat] [Has ps .inf] [Has ps .chm] [Has ps .tiers] [Has ps .fab] [Has ps .regs] : Stays ps s0 (State.dropModel a0 a1 a2 a3 a4) := by
  unfold State.dropModel
  repeat' first
    | with_reducible assumption
    | intro _
    | with_reducible apply State.endSeqWith_stays
    | with_reducible apply State.cancelList_stays
    | with_reducible apply State.updCtx_stays
    | with_reducible apply State.releaseUnits_stays
    | with_reducible apply State.setModel_stays
    | (extract_lets +onlyGivenNames v
       first
         | (refine (fun (hv : Stays ps s0 v) => ?_) ?_; rotate_left; unfold v; rotate_right)
         | skip
       all_goals (try clear_value v))
    | with_reducible apply Stays.foldl
    | with_reducible exact Burns.refl _
    | with_reducible exact Nat.le_refl _
    | with_reducible exact List.prefix_refl _
    | split
    | (rw [State.mk_build]; refine Stays.upd (fun p hp => by cases p <;> first | exact absurd Has.mem hp | rfl) ?_ ?_ ?_ ?_ ?_)

theorem State.dropHarq_stays (a0 : State) (a1 : Nat) (h0 : Stays ps s0 a0) [Has ps .radio] : Stays ps s0 (State.dropHarq a0 a1) := by
  unfold State.dropHarq
  repeat' first
    | with_reducible assumption
    | intro _
    | (extract_lets +onlyGivenNames v; all_goals (try clear_value v))
    | with_reducible exact Burns.refl _
    | with_reducible exact Nat.le_refl _
    | with_reducible exact List.prefix_refl _
    | (rw [State.mk_build]; refine Stays.upd (fun p hp => by cases p <;> first | exact absurd Has.mem hp | rfl) ?_ ?_ ?_ ?_ ?_)

theorem State.makeRadioCtxs_stays (a0 : State) (a1 : Nat) (a2 : CellCfg) (h0 : Stays ps s0 a0) [Has ps .ctxs] : Stays ps s0 (State.makeRadioCtxs a0 a1 a2) := by
  unfold State.makeRadioCtxs
  repeat' first
    | with_reducible assumption
    | intro _
    | with_reducible apply State.setCtx_stays
    | with_reducible apply Stays.foldl

theorem State.startCell_stays (a0 : State) (a1 : Nat) (a2 : CellCfg) (a3 : Nat) (h0 : Stays ps s0 a0) [Has ps .ctxs] [Has ps .fns] [Has ps .radio] [Has ps .front] [Has ps .fab] [Has ps .rpl] [Has ps .health] [Has ps .regs] [Has ps .mem] [Has ps .out] : Stays ps s0 (State.startCell a0 a1 a2 a3).2 := by
  unfold State.startCell
  repeat' first
    | with_reducible assumption
    | intro _
    | with_reducible apply State.dropHarq_stays
    | with_reducible apply State.makeRadioCtxs_stays
    | with_reducible apply State.setCell_stays
    | with_reducible apply State.cellNote_stays
    | (extract_lets +onlyGivenNames v
       first
         | (refine (fun (hv : Stays ps s0 v) => ?_) ?_; rotate_left; unfold v; rotate_right)
         | skip
       all_goals (try clear_value v))
    | with_reducible apply Mem.wf_foldl
    | with_reducible exact Burns.refl _
    | with_reducible exact Nat.le_refl _
    | with_reducible exact List.prefix_refl _
    | with_reducible apply Mem.wf_clear
    | split
    | (rw [State.mk_build]; refine Stays.upd (fun p hp => by cases p <;> first | exact absurd Has.mem hp | rfl) ?_ ?_ ?_ ?_ ?_)

theorem State.cellGone_stays (a0 : State) (a1 : Nat) (h0 : Stays ps s0 a0) [Has ps .lists] [Has ps .ctxs] [Has ps .fns] [Has ps .mat] [Has ps .radio] [Has ps .front] [Has ps .tiers] [Has ps .fab] [Has ps .rpl] [Has ps .health] [Has ps .regs] [Has ps .mem] [Has ps .out] : Stays ps s0 (State.cellGone a0 a1) := by
  unfold State.cellGone
  repeat' first
    | with_reducible assumption
    | intro _
    | with_reducible apply State.updCtx_stays
    | with_reducible apply State.dropCtx_stays
    | with_reducible apply State.setCell_stays
    | with_reducible apply State.dropHarq_stays
    | with_reducible apply State.cellNote_stays
    | with_reducible apply State.startCell_stays
    | with_reducible apply State.faultNote_stays
    | (extract_lets +onlyGivenNames v
       first
         | (refine (fun (hv : Stays ps s0 v) => ?_) ?_; rotate_left; unfold v; rotate_right)
         | (refine (fun (hv : Stays ps s0 v.2) => ?_) ?_; rotate_left; unfold v; rotate_right)
         | skip
       all_goals (try clear_value v))
    | with_reducible apply Stays.foldl
    | split

theorem State.assignColumns_stays (a0 : State) (a1 : Nat) (a2 : Nat) (a3 : Model) (h0 : Stays ps s0 a0) [Has ps .inf] : Stays ps s0 (State.assignColumns a0 a1 a2 a3) := by
  unfold State.assignColumns
  repeat' first
    | with_reducible assumption
    | intro _
    | with_reducible apply State.setSeq_stays
    | (extract_lets +onlyGivenNames v; all_goals (try clear_value v))
    | with_reducible apply Stays.foldl

theorem State.endMoves_stays (a0 : State) (a1 : Nat) (a2 : Nat) (a3 : Model) (h0 : Stays ps s0 a0) [Has ps .inf] [Has ps .tiers] : Stays ps s0 (State.endMoves a0 a1 a2 a3) := by
  unfold State.endMoves
  repeat' first
    | with_reducible assumption
    | intro _
    | with_reducible apply State.setSeq_stays
    | with_reducible apply State.releaseUnits_stays
    | with_reducible apply Stays.foldl

theorem State.writeToken_stays (a0 : State) (a1 : Model) (a2 : Sequence) (a3 : Nat) (h0 : Stays ps s0 a0) [Has ps .inf] [Has ps .regs] : Stays ps s0 (State.writeToken a0 a1 a2 a3) := by
  unfold State.writeToken
  repeat' first
    | with_reducible assumption
    | with_reducible apply State.putToken_stays
    | with_reducible apply State.setSeq_stays
    | (extract_lets +onlyGivenNames v; all_goals (try clear_value v))
    | split

theorem State.writeRecords_stays (a0 : State) (a1 : Model) (a2 : List Sequence) (a3 : List (Nat × Nat)) (h0 : Stays ps s0 a0) [Has ps .inf] [Has ps .regs] : Stays ps s0 (State.writeRecords a0 a1 a2 a3) := by
  unfold State.writeRecords
  repeat' first
    | with_reducible assumption
    | intro _
    | with_reducible apply State.writeToken_stays
    | with_reducible apply State.setSeq_stays
    | (extract_lets +onlyGivenNames v; all_goals (try clear_value v))
    | with_reducible apply Stays.foldl
    | split

theorem State.rejoins_stays (a0 : State) (a1 : Nat) (a2 : Nat) (a3 : Nat) (h0 : Stays ps s0 a0) [Has ps .inf] : Stays ps s0 (State.rejoins a0 a1 a2 a3) := by
  unfold State.rejoins
  repeat' first
    | with_reducible assumption
    | intro _
    | with_reducible apply State.joinSeq_stays
    | (extract_lets +onlyGivenNames v; all_goals (try clear_value v))
    | with_reducible apply Stays.foldl
    | split

theorem State.holds_stays (a0 : State) (a1 : Nat) (a2 : Nat) (h0 : Stays ps s0 a0) [Has ps .inf] : Stays ps s0 (State.holds a0 a1 a2) := by
  unfold State.holds
  repeat' first
    | with_reducible assumption
    | intro _
    | with_reducible apply State.setSeq_stays
    | with_reducible apply Stays.foldl

theorem State.swapStalled_stays (a0 : State) (a1 : Nat) (a2 : Nat) (h0 : Stays ps s0 a0) [Has ps .inf] : Stays ps s0 (State.swapStalled a0 a1 a2) := by
  unfold State.swapStalled
  repeat' first
    | with_reducible assumption
    | intro _
    | with_reducible apply State.setSeq_stays
    | with_reducible apply State.setModel_stays
    | (extract_lets +onlyGivenNames v; all_goals (try clear_value v))
    | with_reducible apply Stays.foldl
    | split

theorem State.leaves_stays (a0 : State) (a1 : Nat) (a2 : Nat) (h0 : Stays ps s0 a0) [Has ps .inf] [Has ps .tiers] [Has ps .regs] : Stays ps s0 (State.leaves a0 a1 a2) := by
  unfold State.leaves
  repeat' first
    | with_reducible assumption
    | intro _
    | with_reducible apply State.leaveSeq_stays
    | with_reducible apply State.endSeq_stays
    | (extract_lets +onlyGivenNames v
       first
         | (refine (fun (hv : Stays ps s0 v) => ?_) ?_; rotate_left; unfold v; rotate_right)
         | skip
       all_goals (try clear_value v))
    | with_reducible apply Stays.foldl
    | split

theorem State.boundary_stays (a0 : State) (a1 : Nat) (a2 : Nat) (a3 : Model) (a4 : List (Nat × Nat)) (h0 : Stays ps s0 a0) [Has ps .fns] [Has ps .inf] [Has ps .tiers] [Has ps .regs] : Stays ps s0 (State.boundary a0 a1 a2 a3 a4) := by
  unfold State.boundary
  repeat' first
    | with_reducible assumption
    | with_reducible apply State.kvRequests_stays
    | with_reducible apply State.endMoves_stays
    | with_reducible apply State.writeRecords_stays
    | with_reducible apply State.rejoins_stays
    | with_reducible apply State.holds_stays
    | with_reducible apply State.swapStalled_stays
    | with_reducible apply State.leaves_stays
    | with_reducible apply State.admissions_stays
    | with_reducible apply State.assignColumns_stays

theorem State.bstCount_stays (a0 : State) (a1 : Nat) (a2 : Nat) (h0 : Stays ps s0 a0) [Has ps .regs] : Stays ps s0 (State.bstCount a0 a1 a2) := by
  unfold State.bstCount
  repeat' first
    | with_reducible assumption
    | with_reducible apply State.count_stays

theorem State.nextSeq_stays (a0 : State) (a1 : Nat) (h0 : Stays ps s0 a0) [Has ps .front] : Stays ps s0 (State.nextSeq a0 a1).2 := by
  unfold State.nextSeq
  repeat' first
    | with_reducible assumption
    | intro _
    | (extract_lets +onlyGivenNames v; all_goals (try clear_value v))
    | with_reducible exact Burns.refl _
    | with_reducible exact Nat.le_refl _
    | with_reducible exact List.prefix_refl _
    | (rw [State.mk_build]; refine Stays.upd (fun p hp => by cases p <;> first | exact absurd Has.mem hp | rfl) ?_ ?_ ?_ ?_ ?_)

theorem State.fhCount_stays (a0 : State) (a1 : Nat) (a2 : Nat) (a3 : Nat) (h0 : Stays ps s0 a0) [Has ps .regs] : Stays ps s0 (State.fhCount a0 a1 a2 a3) := by
  unfold State.fhCount
  repeat' first
    | with_reducible assumption
    | with_reducible apply State.count_stays

theorem State.enqFh_stays (a0 : State) (a1 : Nat) (a2 : Packet) (h0 : Stays ps s0 a0) [Has ps .front] [Has ps .regs] : Stays ps s0 (State.enqFh a0 a1 a2) := by
  unfold State.enqFh
  repeat' first
    | with_reducible assumption
    | with_reducible apply State.fhCount_stays
    | with_reducible apply State.count_stays
    | with_reducible apply State.setShpQ_stays
    | with_reducible apply State.headTag_stays
    | (extract_lets +onlyGivenNames v
       first
         | (refine (fun (hv : Stays ps s0 v) => ?_) ?_; rotate_left; unfold v; rotate_right)
         | skip
       all_goals (try clear_value v))
    | split

theorem State.buildC_stays (a0 : State) (a1 : CellCfg) (a2 : Eaxc) (a3 : Nat) (a4 : List TxSection) (h0 : Stays ps s0 a0) [Has ps .front] [Has ps .regs] : Stays ps s0 (State.buildC a0 a1 a2 a3 a4) := by
  unfold State.buildC
  repeat' first
    | with_reducible assumption
    | intro _
    | with_reducible apply State.nextSeq_stays
    | with_reducible apply State.enqFh_stays
    | (extract_lets +onlyGivenNames v
       first
         | (refine (fun (hv : Stays ps s0 v) => ?_) ?_; rotate_left; unfold v; rotate_right)
         | (refine (fun (hv : Stays ps s0 v.2) => ?_) ?_; rotate_left; unfold v; rotate_right)
         | skip
       all_goals (try clear_value v))
    | with_reducible exact Burns.refl _
    | with_reducible exact Nat.le_refl _
    | with_reducible exact List.prefix_refl _
    | split
    | (rw [State.mk_build]; refine Stays.upd (fun p hp => by cases p <;> first | exact absurd Has.mem hp | rfl) ?_ ?_ ?_ ?_ ?_)

theorem State.buildPrachC_stays (a0 : State) (a1 : CellCfg) (a2 : Eaxc) (a3 : Nat) (a4 : Pdu) (h0 : Stays ps s0 a0) [Has ps .front] [Has ps .regs] : Stays ps s0 (State.buildPrachC a0 a1 a2 a3 a4) := by
  unfold State.buildPrachC
  repeat' first
    | with_reducible assumption
    | intro _
    | with_reducible apply State.nextSeq_stays
    | with_reducible apply State.enqFh_stays
    | (extract_lets +onlyGivenNames v
       first
         | (refine (fun (hv : Stays ps s0 v) => ?_) ?_; rotate_left; unfold v; rotate_right)
         | (refine (fun (hv : Stays ps s0 v.2) => ?_) ?_; rotate_left; unfold v; rotate_right)
         | skip
       all_goals (try clear_value v))
    | with_reducible exact Burns.refl _
    | with_reducible exact Nat.le_refl _
    | with_reducible exact List.prefix_refl _
    | split
    | (rw [State.mk_build]; refine Stays.upd (fun p hp => by cases p <;> first | exact absurd Has.mem hp | rfl) ?_ ?_ ?_ ?_ ?_)

theorem State.takeBurst_stays (a0 : State) (a1 : Nat) (a2 : CellCfg) (a3 : Nat) (a4 : Nat) (a5 : Nat) (a6 : Option Nat) (h0 : Stays ps s0 a0) [Has ps .front] [Has ps .regs] : Stays ps s0 (State.takeBurst a0 a1 a2 a3 a4 a5 a6) := by
  unfold State.takeBurst
  repeat' first
    | with_reducible assumption
    | intro _
    | with_reducible apply State.bstCount_stays
    | with_reducible apply State.setReg_stays
    | (extract_lets +onlyGivenNames v
       first
         | (have hv : (_ → _) := v; clear hv; unfold v; clear v)
         | (refine (fun (hv : Stays ps s0 v) => ?_) ?_; rotate_left; unfold v; rotate_right)
         | skip
       all_goals (try clear_value v))
    | with_reducible exact Burns.refl _
    | with_reducible exact Nat.le_refl _
    | with_reducible exact List.prefix_refl _
    | split
    | (rw [State.mk_build]; refine Stays.upd (fun p hp => by cases p <;> first | exact absurd Has.mem hp | rfl) ?_ ?_ ?_ ?_ ?_)

theorem State.scanOnce_stays (a0 : State) (a1 : Nat) (a2 : CellCfg) (h0 : Stays ps s0 a0) (t : State) (h : (State.scanOnce a0 a1 a2) = some t) [Has ps .front] [Has ps .regs] : Stays ps s0 t := by
  revert t
  intro t h
  unfold State.scanOnce at h
  extract_lets +onlyGivenNames x m tol word at h
  split at h
  · cases h
  · extract_lets +onlyGivenNames d at h
    generalize findWord (d.take 256) word tol 161 64 = o at h
    cases o with
    | none =>
      dsimp only at h
      split at h
      · cases h
      · injection h with h; subst h
        refine State.bstCount_stays _ _ _ ?_
        show Stays ps s0 (State.mk _ _ _ _ _ _ _ _ _ _ _ _ _ _ _ _ _ _ _ _)
        rw [State.mk_build]
        exact Stays.upd (fun p hp => by cases p <;> first | exact absurd Has.mem hp | rfl) h0 id (List.prefix_refl _) (Nat.le_refl _) (Burns.refl _)
    | some p =>
      dsimp only at h
      generalize findWord d _ tol 129 _ = o2 at h
      cases o2 with
      | some q => injection h with h; subst h; exact State.takeBurst_stays _ _ _ _ _ _ _ h0
      | none =>
        dsimp only at h
        split at h
        · cases h
        · injection h with h; subst h; exact State.takeBurst_stays _ _ _ _ _ _ _ h0

theorem State.scanBurst_stays (a0 : State) (a1 : Nat) (a2 : CellCfg) (a3 : Nat) (h0 : Stays ps s0 a0) [Has ps .front] [Has ps .regs] : Stays ps s0 (State.scanBurst a0 a1 a2 a3) := by
  induction a3 generalizing a0 a1 a2 with
  | zero =>
    unfold State.scanBurst
    repeat' first
      | with_reducible assumption
  | succ n ih =>
    unfold State.scanBurst
    repeat' first
      | with_reducible assumption
      | with_reducible apply ih
      | (refine State.scanOnce_stays _ _ _ ?_ _ (by assumption))
      | split

theorem State.burstFrame_stays (a0 : State) (a1 : Eaxc) (a2 : CellCfg) (a3 : Bool) (a4 : List Byte) (h0 : Stays ps s0 a0) [Has ps .front] [Has ps .regs] : Stays ps s0 (State.burstFrame a0 a1 a2 a3 a4) := by
  unfold State.burstFrame
  repeat' first
    | with_reducible assumption
    | intro _
    | with_reducible apply State.bstCount_stays
    | with_reducible apply State.scanBurst_stays
    | (extract_lets +onlyGivenNames v
       first
         | (refine (fun (hv : Stays ps s0 v) => ?_) ?_; rotate_left; unfold v; rotate_right)
         | skip
       all_goals (try clear_value v))
    | with_reducible exact Burns.refl _
    | with_reducible exact Nat.le_refl _
    | with_reducible exact List.prefix_refl _
    | split
    | (rw [State.mk_build]; refine Stays.upd (fun p hp => by cases p <;> first | exact absurd Has.mem hp | rfl) ?_ ?_ ?_ ?_ ?_)

theorem State.ringWriteAt_stays (a0 : State) (a1 : Eaxc) (a2 : Nat) (a3 : List Byte) (h0 : Stays ps s0 a0) [Has ps .tiers] [Has ps .mem] : Stays ps s0 (State.ringWriteAt a0 a1 a2 a3) := by
  unfold State.ringWriteAt
  repeat' first
    | with_reducible assumption
    | with_reducible apply State.wrSpans_stays

theorem State.writeSection_stays (a0 : State) (a1 : Nat) (a2 : Eaxc) (a3 : Nat) (a4 : Nat) (a5 : Nat) (a6 : List (List Word × Nat)) (h0 : Stays ps s0 a0) [Has ps .tiers] [Has ps .regs] [Has ps .mem] : Stays ps s0 (State.writeSection a0 a1 a2 a3 a4 a5 a6) := by
  induction a6 generalizing a0 a1 a2 a3 a4 a5 with
  | nil =>
    unfold State.writeSection
    repeat' first
      | with_reducible assumption
  | cons x r ih =>
    unfold State.writeSection
    repeat' first
      | with_reducible assumption
      | with_reducible apply ih
      | with_reducible apply State.ringWriteAt_stays
      | with_reducible apply State.fhCount_stays

theorem State.countTimely_stays (a0 : State) (a1 : Nat) (a2 : Nat) (a3 : Nat) (h0 : Stays ps s0 a0) [Has ps .regs] : Stays ps s0 (State.countTimely a0 a1 a2 a3) := by
  unfold State.countTimely
  repeat' first
    | with_reducible assumption
    | with_reducible apply State.fhCount_stays

theorem State.setRx_stays (a0 : State) (a1 : RxSym) (h0 : Stays ps s0 a0) [Has ps .front] : Stays ps s0 (State.setRx a0 a1) := by
  unfold State.setRx
  repeat' first
    | with_reducible assumption
    | intro _
    | (extract_lets +onlyGivenNames v; all_goals (try clear_value v))
    | with_reducible exact Burns.refl _
    | with_reducible exact Nat.le_refl _
    | with_reducible exact List.prefix_refl _
    | (rw [State.mk_build]; refine Stays.upd (fun p hp => by cases p <;> first | exact absurd Has.mem hp | rfl) ?_ ?_ ?_ ?_ ?_)

theorem State.releaseRow_stays (a0 : State) (a1 : Eaxc) (a2 : RxSym) (a3 : Nat × Nat) (h0 : Stays ps s0 a0) [Has ps .ctxs] [Has ps .front] : Stays ps s0 (State.releaseRow a0 a1 a2 a3) := by
  unfold State.releaseRow
  repeat' first
    | with_reducible assumption
    | with_reducible apply State.setRx_stays
    | (refine State.putHandle_stays _ _ _ _ ?_ _ (by assumption))
    | split

theorem State.cellFrame_stays (a0 : State) (a1 : Nat) (a2 : Eaxc) (a3 : CellCfg) (a4 : Nat) (a5 : Nat) (a6 : List Section) (h0 : Stays ps s0 a0) [Has ps .ctxs] [Has ps .front] [Has ps .tiers] [Has ps .regs] [Has ps .mem] : Stays ps s0 (State.cellFrame a0 a1 a2 a3 a4 a5 a6) := by
  unfold State.cellFrame
  repeat' first
    | with_reducible assumption
    | intro _
    | with_reducible apply State.fhCount_stays
    | with_reducible apply State.writeSection_stays
    | with_reducible apply State.countTimely_stays
    | with_reducible apply State.releaseRow_stays
    | with_reducible apply State.setRx_stays
    | (extract_lets +onlyGivenNames v
       first
         | (refine (fun (hv : Stays ps s0 v) => ?_) ?_; rotate_left; unfold v; rotate_right)
         | skip
       all_goals (try clear_value v))
    | with_reducible apply Stays.foldl
    | split

theorem State.cellVia_stays (a0 : State) (a1 : Nat) (a2 : Nat) (h0 : Stays ps s0 a0) [Has ps .radio] : Stays ps s0 (State.cellVia a0 a1 a2) := by
  unfold State.cellVia
  repeat' first
    | with_reducible assumption
    | with_reducible apply State.setCell_stays
    | (extract_lets +onlyGivenNames v; all_goals (try clear_value v))
    | split

theorem State.clearHist_stays (a0 : State) (a1 : Nat) (h0 : Stays ps s0 a0) [Has ps .front] : Stays ps s0 (State.clearHist a0 a1) := by
  unfold State.clearHist
  repeat' first
    | with_reducible assumption
    | intro _
    | (extract_lets +onlyGivenNames v; all_goals (try clear_value v))
    | with_reducible exact Burns.refl _
    | with_reducible exact Nat.le_refl _
    | with_reducible exact List.prefix_refl _
    | (rw [State.mk_build]; refine Stays.upd (fun p hp => by cases p <;> first | exact absurd Has.mem hp | rfl) ?_ ?_ ?_ ?_ ?_)

theorem State.setSlot_stays (a0 : State) (a1 : Nat) (a2 : SlotWork) (h0 : Stays ps s0 a0) [Has ps .radio] : Stays ps s0 (State.setSlot a0 a1 a2) := by
  unfold State.setSlot
  repeat' first
    | with_reducible assumption
    | with_reducible apply State.setCell_stays

theorem State.closeDl_stays (a0 : State) (a1 : Nat) (a2 : SlotWork) (h0 : Stays ps s0 a0) [Has ps .fns] [Has ps .radio] [Has ps .front] [Has ps .fab] [Has ps .rpl] [Has ps .health] [Has ps .regs] [Has ps .out] : Stays ps s0 (State.closeDl a0 a1 a2) := by
  unfold State.closeDl
  repeat' first
    | with_reducible assumption
    | intro _
    | with_reducible apply State.faultNote_stays
    | with_reducible apply State.setSlot_stays
    | (extract_lets +onlyGivenNames v; all_goals (try clear_value v))
    | with_reducible apply Stays.foldl

theorem State.closeOcc_stays (a0 : State) (a1 : Eaxc) (a2 : CellCfg) (a3 : SlotWork) (a4 : Nat) (a5 : Bool) (h0 : Stays ps s0 a0) [Has ps .ctxs] [Has ps .front] [Has ps .tiers] [Has ps .mem] : Stays ps s0 (State.closeOcc a0 a1 a2 a3 a4 a5) := by
  unfold State.closeOcc
  repeat' first
    | with_reducible assumption
    | intro _
    | with_reducible apply State.ringWriteAt_stays
    | with_reducible apply State.releaseRow_stays
    | (extract_lets +onlyGivenNames v; all_goals (try clear_value v))
    | with_reducible apply Stays.foldl

theorem State.closeSym_stays (a0 : State) (a1 : Eaxc) (a2 : CellCfg) (a3 : SlotWork) (a4 : Nat) (h0 : Stays ps s0 a0) [Has ps .ctxs] [Has ps .radio] [Has ps .front] [Has ps .tiers] [Has ps .mem] : Stays ps s0 (State.closeSym a0 a1 a2 a3 a4) := by
  unfold State.closeSym
  repeat' first
    | with_reducible assumption
    | intro _
    | with_reducible apply State.ringWriteAt_stays
    | with_reducible apply State.setSlot_stays
    | with_reducible apply State.releaseRow_stays
    | (extract_lets +onlyGivenNames v; all_goals (try clear_value v))
    | with_reducible apply Stays.foldl
    | split

theorem State.takeHarq_stays (a0 : State) (a1 : Nat) (a2 : Pending) (h0 : Stays ps s0 a0) [Has ps .radio] : Stays ps s0 (State.takeHarq a0 a1 a2).2 := by
  unfold State.takeHarq
  repeat' first
    | with_reducible assumption
    | with_reducible apply State.setHarq_stays
    | (extract_lets +onlyGivenNames v; all_goals (try clear_value v))
    | split

theorem State.takeHarqs_stays (a0 : State) (a1 : Nat) (a2 : List Pending) (h0 : Stays ps s0 a0) [Has ps .radio] : Stays ps s0 (State.takeHarqs a0 a1 a2).2 := by
  induction a2 generalizing a0 a1 with
  | nil =>
    unfold State.takeHarqs
    repeat' first
      | with_reducible assumption
  | cons x r ih =>
    unfold State.takeHarqs
    repeat' first
      | with_reducible assumption
      | with_reducible apply ih
      | with_reducible apply State.takeHarq_stays

theorem State.decodeDone_stays (a0 : State) (a1 : Nat) (a2 : Nat) (a3 : Pending) (h0 : Stays ps s0 a0) [Has ps .radio] : Stays ps s0 (State.decodeDone a0 a1 a2 a3) := by
  unfold State.decodeDone
  repeat' first
    | with_reducible assumption
    | intro _
    | with_reducible apply State.setHarq_stays
    | with_reducible apply State.takeHarqs_stays
    | with_reducible apply State.setSlot_stays
    | (extract_lets +onlyGivenNames v
       first
         | (have hv : (_ → _) := v; clear hv; unfold v; clear v)
         | (refine (fun (hv : Stays ps s0 v) => ?_) ?_; rotate_left; unfold v; rotate_right)
         | skip
       all_goals (try clear_value v))
    | with_reducible exact Burns.refl _
    | with_reducible exact Nat.le_refl _
    | with_reducible exact List.prefix_refl _
    | split
    | (rw [State.mk_build]; refine Stays.upd (fun p hp => by cases p <;> first | exact absurd Has.mem hp | rfl) ?_ ?_ ?_ ?_ ?_)

theorem State.prachFrame_stays (a0 : State) (a1 : Nat) (a2 : Eaxc) (a3 : CellCfg) (a4 : Nat) (a5 : List Section) (h0 : Stays ps s0 a0) [Has ps .ctxs] [Has ps .front] [Has ps .tiers] [Has ps .regs] [Has ps .mem] : Stays ps s0 (State.prachFrame a0 a1 a2 a3 a4 a5) := by
  unfold State.prachFrame
  repeat' first
    | with_reducible assumption
    | intro _
    | with_reducible apply State.fhCount_stays
    | with_reducible apply State.countTimely_stays
    | with_reducible apply State.writeSection_stays
    | with_reducible apply State.releaseRow_stays
    | with_reducible apply State.setRx_stays
    | (extract_lets +onlyGivenNames v
       first
         | (have hv : (_ → _) := v; clear hv; unfold v; clear v)
         | (refine (fun (hv : Stays ps s0 v) => ?_) ?_; rotate_left; unfold v; rotate_right)
         | skip
       all_goals (try clear_value v))
    | with_reducible apply Stays.foldl
    | split

theorem State.uplane_stays (a0 : State) (a1 : Nat) (a2 : Eaxc) (a3 : CellCfg) (a4 : List Byte) (h0 : Stays ps s0 a0) [Has ps .ctxs] [Has ps .front] [Has ps .tiers] [Has ps .regs] [Has ps .mem] : Stays ps s0 (State.uplane a0 a1 a2 a3 a4) := by
  unfold State.uplane
  repeat' first
    | with_reducible assumption
    | with_reducible apply State.fhCount_stays
    | with_reducible apply State.prachFrame_stays
    | with_reducible apply State.cellFrame_stays
    | (extract_lets +onlyGivenNames v; all_goals (try clear_value v))
    | split

theorem State.frameIn_stays (a0 : State) (a1 : Nat) (a2 : List Byte) (h0 : Stays ps s0 a0) [Has ps .ctxs] [Has ps .front] [Has ps .tiers] [Has ps .regs] [Has ps .mem] : Stays ps s0 (State.frameIn a0 a1 a2) := by
  unfold State.frameIn
  split
  · exact State.fhCount_stays _ _ _ _ h0
  split
  · exact h0
  split
  · exact State.fhCount_stays _ _ _ _ h0
  split
  · exact State.fhCount_stays _ _ _ _ h0
  extract_lets +onlyGivenNames gap z v w
  have hv : Stays ps s0 v := by
    unfold v; rw [State.mk_build]; exact Stays.upd (fun p hp => by cases p <;> first | exact absurd Has.mem hp | rfl) h0 id (List.prefix_refl _) (Nat.le_refl _) (Burns.refl _)
  have hw : Stays ps s0 w := by
    unfold w
    split
    · exact State.fhCount_stays _ _ _ _ hv
    · exact hv
  clear_value w
  split
  · exact State.fhCount_stays _ _ _ _ hw
  split
  · exact State.burstFrame_stays _ _ _ _ _ hw
  · exact State.uplane_stays _ _ _ _ _ hw

theorem execShpHistClr_stays (a0 : State) (h0 : Stays ps s0 a0) [Has ps .fns] [Has ps .front] [Has ps .rpl] [Has ps .regs] : StaysRes ps s0 (execShpHistClr a0) := by
  unfold execShpHistClr
  repeat' first
    | with_reducible assumption
    | intro _
    | with_reducible apply StaysRes.ofNext
    | with_reducible apply State.bar2_stays
    | with_reducible apply State.clearHist_stays

theorem State.refuseMsg_stays (a0 : State) (a1 : Nat) (a2 : List Byte) (h0 : Stays ps s0 a0) [Has ps .fns] [Has ps .radio] [Has ps .front] [Has ps .fab] [Has ps .rpl] [Has ps .health] [Has ps .regs] [Has ps .out] : Stays ps s0 (State.refuseMsg a0 a1 a2) := by
  unfold State.refuseMsg
  repeat' first
    | with_reducible assumption
    | with_reducible apply State.faultNote_stays

theorem State.message_stays (a0 : State) (a1 : Nat) (a2 : List Byte) (a3 : CellCfg → Bool) (a4 : CellCfg → State → State) (h0 : Stays ps s0 a0) (h4 : ∀ k u, Stays ps s0 u → Stays ps s0 (a4 k u)) [Has ps .fns] [Has ps .radio] [Has ps .front] [Has ps .fab] [Has ps .rpl] [Has ps .health] [Has ps .regs] [Has ps .out] : Stays ps s0 (State.message a0 a1 a2 a3 a4) := by
  unfold State.message
  repeat' first
    | with_reducible assumption
    | with_reducible apply State.cellVia_stays
    | with_reducible apply State.refuseMsg_stays
    | with_reducible apply State.setCell_stays
    | with_reducible apply h4
    | (extract_lets +onlyGivenNames v
       first
         | (refine (fun (hv : Stays ps s0 v) => ?_) ?_; rotate_left; unfold v; rotate_right)
         | skip
       all_goals (try clear_value v))
    | split

theorem State.ssiCellStart_stays (a0 : State) (a1 : Nat) (a2 : List Byte) (h0 : Stays ps s0 a0) [Has ps .ctxs] [Has ps .fns] [Has ps .radio] [Has ps .front] [Has ps .fab] [Has ps .rpl] [Has ps .health] [Has ps .regs] [Has ps .mem] [Has ps .out] : Stays ps s0 (State.ssiCellStart a0 a1 a2) := by
  unfold State.ssiCellStart
  repeat' first
    | with_reducible assumption
    | intro _
    | with_reducible apply State.message_stays
    | with_reducible apply State.startCell_stays
    | with_reducible apply State.setCell_stays
    | with_reducible apply State.refuseMsg_stays
    | (extract_lets +onlyGivenNames v
       first
         | (refine (fun (hv : Stays ps s0 v.2) => ?_) ?_; rotate_left; unfold v; rotate_right)
         | skip
       all_goals (try clear_value v))
    | split

theorem State.ssiCellStop_stays (a0 : State) (a1 : Nat) (a2 : List Byte) (h0 : Stays ps s0 a0) [Has ps .fns] [Has ps .radio] [Has ps .front] [Has ps .fab] [Has ps .rpl] [Has ps .health] [Has ps .regs] [Has ps .out] : Stays ps s0 (State.ssiCellStop a0 a1 a2) := by
  unfold State.ssiCellStop
  repeat' first
    | with_reducible assumption
    | intro _
    | with_reducible apply State.message_stays
    | with_reducible apply State.stopCell_stays
    | with_reducible apply State.refuseMsg_stays
    | (extract_lets +onlyGivenNames v; all_goals (try clear_value v))
    | split

theorem State.refusePdu_stays (a0 : State) (a1 : Nat) (a2 : List Byte) (a3 : Nat) (h0 : Stays ps s0 a0) [Has ps .fns] [Has ps .radio] [Has ps .front] [Has ps .fab] [Has ps .rpl] [Has ps .health] [Has ps .regs] [Has ps .out] : Stays ps s0 (State.refusePdu a0 a1 a2 a3) := by
  unfold State.refusePdu
  repeat' first
    | with_reducible assumption
    | with_reducible apply State.faultNote_stays

theorem State.takePdus_stays (a0 : State) (a1 : List Byte) (a2 : List (List Byte)) (a3 : Nat) (a4 : List (List Byte)) (a5 : List (List Byte)) (a6 : List Pdu) (a7 : State → List (List Byte) → List (List Byte) → List Byte → Nat) (h0 : Stays ps s0 a0) [Has ps .fns] [Has ps .radio] [Has ps .front] [Has ps .fab] [Has ps .rpl] [Has ps .health] [Has ps .regs] [Has ps .out] : Stays ps s0 (State.takePdus a0 a1 a2 a3 a4 a5 a6 a7).2 := by
  induction a2 generalizing a0 a1 a3 a4 a5 a6 with
  | nil =>
    unfold State.takePdus
    repeat' first
      | with_reducible assumption
  | cons x r ih =>
    unfold State.takePdus
    repeat' first
      | with_reducible assumption
      | with_reducible apply ih
      | with_reducible apply State.refusePdu_stays
      | (extract_lets +onlyGivenNames v; all_goals (try clear_value v))
      | split

theorem State.ssiDlOrder_stays (a0 : State) (a1 : Nat) (a2 : List Byte) (h0 : Stays ps s0 a0) [Has ps .fns] [Has ps .radio] [Has ps .front] [Has ps .fab] [Has ps .rpl] [Has ps .health] [Has ps .regs] [Has ps .out] : Stays ps s0 (State.ssiDlOrder a0 a1 a2) := by
  unfold State.ssiDlOrder
  repeat' first
    | with_reducible assumption
    | intro _
    | with_reducible apply State.message_stays
    | with_reducible apply State.refuseMsg_stays
    | with_reducible apply State.setSlot_stays
    | with_reducible apply State.takePdus_stays
    | (extract_lets +onlyGivenNames v
       first
         | (refine (fun (hv : Stays ps s0 v.2) => ?_) ?_; rotate_left; unfold v; rotate_right)
         | skip
       all_goals (try clear_value v))
    | split

theorem State.ssiTbLoad_stays (a0 : State) (a1 : Nat) (a2 : List Byte) (h0 : Stays ps s0 a0) [Has ps .fns] [Has ps .radio] [Has ps .front] [Has ps .fab] [Has ps .rpl] [Has ps .health] [Has ps .regs] [Has ps .out] : Stays ps s0 (State.ssiTbLoad a0 a1 a2) := by
  unfold State.ssiTbLoad
  repeat' first
    | with_reducible assumption
    | intro _
    | with_reducible apply State.message_stays
    | with_reducible apply State.refuseMsg_stays
    | with_reducible apply State.refusePdu_stays
    | with_reducible apply State.setSlot_stays
    | (extract_lets +onlyGivenNames v; all_goals (try clear_value v))
    | with_reducible apply Stays.foldl
    | split

theorem State.ssiUlOrder_stays (a0 : State) (a1 : Nat) (a2 : List Byte) (h0 : Stays ps s0 a0) [Has ps .fns] [Has ps .radio] [Has ps .front] [Has ps .fab] [Has ps .rpl] [Has ps .health] [Has ps .regs] [Has ps .out] : Stays ps s0 (State.ssiUlOrder a0 a1 a2) := by
  unfold State.ssiUlOrder
  repeat' first
    | with_reducible assumption
    | intro _
    | with_reducible apply State.message_stays
    | with_reducible apply State.refuseMsg_stays
    | with_reducible apply State.setSlot_stays
    | with_reducible apply State.takePdus_stays
    | with_reducible apply State.takeHarqs_stays
    | (extract_lets +onlyGivenNames v
       first
         | (refine (fun (hv : Stays ps s0 v.2) => ?_) ?_; rotate_left; unfold v; rotate_right)
         | skip
       all_goals (try clear_value v))
    | split

theorem State.releaseHarq_stays (a0 : State) (a1 : Nat) (a2 : Nat) (h0 : Stays ps s0 a0) [Has ps .radio] : Stays ps s0 (State.releaseHarq a0 a1 a2) := by
  unfold State.releaseHarq
  repeat' first
    | with_reducible assumption
    | intro _
    | with_reducible apply State.setCell_stays
    | (extract_lets +onlyGivenNames v; all_goals (try clear_value v))
    | with_reducible exact Burns.refl _
    | with_reducible exact Nat.le_refl _
    | with_reducible exact List.prefix_refl _
    | split
    | (rw [State.mk_build]; refine Stays.upd (fun p hp => by cases p <;> first | exact absurd Has.mem hp | rfl) ?_ ?_ ?_ ?_ ?_)

theorem State.ssiSoftRelease_stays (a0 : State) (a1 : Nat) (a2 : List Byte) (h0 : Stays ps s0 a0) [Has ps .fns] [Has ps .radio] [Has ps .front] [Has ps .fab] [Has ps .rpl] [Has ps .health] [Has ps .regs] [Has ps .out] : Stays ps s0 (State.ssiSoftRelease a0 a1 a2) := by
  unfold State.ssiSoftRelease
  repeat' first
    | with_reducible assumption
    | intro _
    | with_reducible apply State.message_stays
    | with_reducible apply State.releaseHarq_stays
    | with_reducible apply State.refuseMsg_stays
    | (extract_lets +onlyGivenNames v; all_goals (try clear_value v))
    | with_reducible apply Stays.foldl
    | split

theorem State.ssiAccept_stays (a0 : State) (a1 : Nat) (a2 : List Byte) (h0 : Stays ps s0 a0) [Has ps .ctxs] [Has ps .fns] [Has ps .radio] [Has ps .front] [Has ps .fab] [Has ps .rpl] [Has ps .health] [Has ps .regs] [Has ps .mem] [Has ps .out] : Stays ps s0 (State.ssiAccept a0 a1 a2) := by
  unfold State.ssiAccept
  repeat' first
    | with_reducible assumption
    | with_reducible apply State.ssiCellStart_stays
    | with_reducible apply State.ssiCellStop_stays
    | with_reducible apply State.ssiDlOrder_stays
    | with_reducible apply State.ssiTbLoad_stays
    | with_reducible apply State.ssiUlOrder_stays
    | with_reducible apply State.ssiSoftRelease_stays
    | with_reducible apply State.refuseMsg_stays
    | with_reducible apply State.cellVia_stays
    | split

theorem State.makeShards_stays (a0 : State) (a1 : Nat) (a2 : Nat) (a3 : List Byte) (h0 : Stays ps s0 a0) [Has ps .ctxs] [Has ps .fns] [Has ps .tiers] [Has ps .regs] [Has ps .mem] : Stays ps s0 (State.makeShards a0 a1 a2 a3).2.2 := by
  unfold State.makeShards
  refine Stays.foldl22 h0 (fun u x hu => ?_)
  split
  · exact hu
  · extract_lets e only
    split
    next heq => exact Stays.of_pair2 heq (State.createCtx_stays _ _ _ _ _ _ _ hu)

theorem State.loadModel_stays (a0 : State) (a1 : Nat) (a2 : Nat) (a3 : Nat) (a4 : Nat) (a5 : Nat) (a6 : List Byte) (a7 : Option (List Byte)) (a8 : Report) (h0 : Stays ps s0 a0) [Has ps .ctxs] [Has ps .fns] [Has ps .inf] [Has ps .tiers] [Has ps .regs] [Has ps .mem] : Stays ps s0 (State.loadModel a0 a1 a2 a3 a4 a5 a6 a7 a8).2 := by
  unfold State.loadModel
  repeat' first
    | with_reducible assumption
    | with_reducible apply State.makeShards_stays
    | with_reducible apply State.count_stays
    | with_reducible apply State.setModel_stays
    | with_reducible apply State.chargeUnits_stays
    | (extract_lets +onlyGivenNames v; all_goals (try clear_value v))
    | split
    | refine Stays.of_pair2 (by assumption) ?_

theorem State.missed_stays (a0 : State) (a1 : Nat) (a2 : Nat) (a3 : Nat) (a4 : Stamp) (h0 : Stays ps s0 a0) [Has ps .fns] [Has ps .radio] [Has ps .front] [Has ps .fab] [Has ps .rpl] [Has ps .health] [Has ps .regs] [Has ps .out] : Stays ps s0 (State.missed a0 a1 a2 a3 a4) := by
  unfold State.missed
  repeat' first
    | with_reducible assumption
    | with_reducible apply State.faultNote_stays
    | with_reducible apply State.count_stays
    | split

theorem State.nextStep_stays (a0 : State) (a1 : Nat) (a2 : Nat) (a3 : List (Nat × Nat)) (h0 : Stays ps s0 a0) [Has ps .lists] [Has ps .ctxs] [Has ps .units] [Has ps .fns] [Has ps .ports] [Has ps .mat] [Has ps .inf] [Has ps .chm] [Has ps .radio] [Has ps .front] [Has ps .tiers] [Has ps .fab] [Has ps .rpl] [Has ps .health] [Has ps .start] [Has ps .regs] [Has ps .out] : Stays ps s0 (State.nextStep a0 a1 a2 a3) := by
  unfold State.nextStep
  repeat' first
    | with_reducible assumption
    | intro _
    | with_reducible apply State.pauseCtx_stays
    | with_reducible apply State.setModel_stays
    | with_reducible apply State.rplEvt_stays
    | with_reducible apply State.setReg_stays
    | with_reducible apply State.runStep_stays
    | (extract_lets +onlyGivenNames v; refine (fun (hv : Stays ps s0 v) => ?_) ?_; rotate_left; unfold v; rotate_right; all_goals (try clear_value v))
    | with_reducible apply Stays.foldl
    | split

theorem State.noteSrs_stays (a0 : State) (a1 : Nat) (a2 : SlotWork) (a3 : UlResult) (h0 : Stays ps s0 a0) [Has ps .radio] : Stays ps s0 (State.noteSrs a0 a1 a2 a3) := by
  unfold State.noteSrs
  repeat' first
    | with_reducible assumption
    | intro _
    | (extract_lets +onlyGivenNames v; all_goals (try clear_value v))
    | with_reducible exact Burns.refl _
    | with_reducible exact Nat.le_refl _
    | with_reducible exact List.prefix_refl _
    | split
    | (rw [State.mk_build]; refine Stays.upd (fun p hp => by cases p <;> first | exact absurd Has.mem hp | rfl) ?_ ?_ ?_ ?_ ?_)

theorem State.readImage_stays (a0 : State) (a1 : Nat) (a2 : Nat) (a3 : Nat) (h0 : Stays ps s0 a0) [Has ps .lists] [Has ps .units] [Has ps .fns] [Has ps .ports] [Has ps .radio] [Has ps .front] [Has ps .tiers] [Has ps .fab] [Has ps .rpl] [Has ps .health] [Has ps .start] [Has ps .regs] [Has ps .out] : Stays ps s0 (State.readImage a0 a1 a2 a3).2.2.2 := by
  unfold State.readImage
  repeat' first
    | with_reducible assumption
    | with_reducible apply State.readSpans_stays
    | (extract_lets +onlyGivenNames v
       first
         | (refine (fun (hv : Stays ps s0 v.2) => ?_) ?_; rotate_left; unfold v; rotate_right)
         | skip
       all_goals (try clear_value v))
    | split

theorem State.sendPkt_stays (a0 : State) (a1 : Nat) (a2 : Packet) (h0 : Stays ps s0 a0) [Has ps .time] [Has ps .fns] [Has ps .front] [Has ps .fab] [Has ps .rpl] [Has ps .regs] [Has ps .out] : Stays ps s0 (State.sendPkt a0 a1 a2) := by
  unfold State.sendPkt
  repeat' first
    | with_reducible assumption
    | intro _
    | with_reducible apply State.count64_stays
    | with_reducible apply State.output_stays
    | with_reducible apply State.emit_stays
    | with_reducible apply State.fhCount_stays
    | with_reducible apply State.pushFlit_stays
    | (extract_lets +onlyGivenNames v
       first
         | (refine (fun (hv : Stays ps s0 v) => ?_) ?_; rotate_left; unfold v; rotate_right)
         | skip
       all_goals (try clear_value v))
    | with_reducible exact Burns.refl _
    | with_reducible exact Nat.le_refl _
    | with_reducible exact List.prefix_refl _
    | split
    | (rw [State.mk_build]; refine Stays.upd (fun p hp => by cases p <;> first | exact absurd Has.mem hp | rfl) ?_ ?_ ?_ ?_ ?_)

theorem State.submitOwn_stays (a0 : State) (a1 : Nat) (a2 : Nat) (h0 : Stays ps s0 a0) [Has ps .lists] [Has ps .ctxs] [Has ps .units] [Has ps .fns] [Has ps .ports] [Has ps .radio] [Has ps .front] [Has ps .tiers] [Has ps .fab] [Has ps .rpl] [Has ps .health] [Has ps .start] [Has ps .regs] [Has ps .out] : Stays ps s0 (State.submitOwn a0 a1 a2) := by
  unfold State.submitOwn
  repeat' first
    | with_reducible assumption
    | with_reducible apply State.admitList_stays
    | with_reducible apply State.setCtx_stays
    | (extract_lets +onlyGivenNames v; all_goals (try clear_value v))
    | split
    | refine Stays.of_pair2 (by assumption) ?_

theorem State.uPacket_stays (a0 : State) (a1 : Eaxc) (a2 : CellCfg) (a3 : Nat) (a4 : Nat) (a5 : Nat) (a6 : Nat) (a7 : Nat) (a8 : TxSection) (h0 : Stays ps s0 a0) [Has ps .front] [Has ps .regs] : Stays ps s0 (State.uPacket a0 a1 a2 a3 a4 a5 a6 a7 a8) := by
  unfold State.uPacket
  repeat' first
    | with_reducible assumption
    | with_reducible apply State.nextSeq_stays
    | with_reducible apply State.enqFh_stays

theorem State.uSection_stays (a0 : State) (a1 : Eaxc) (a2 : CellCfg) (a3 : Nat) (a4 : Nat) (a5 : TxSection) (h0 : Stays ps s0 a0) [Has ps .front] [Has ps .regs] : Stays ps s0 (State.uSection a0 a1 a2 a3 a4 a5) := by
  unfold State.uSection
  repeat' first
    | with_reducible assumption
    | intro _
    | with_reducible apply State.uPacket_stays
    | (extract_lets +onlyGivenNames v; all_goals (try clear_value v))
    | with_reducible apply Stays.foldl

theorem State.writeReport_stays (a0 : State) (a1 : Nat) (a2 : SlotWork) (a3 : List UlResult) (h0 : Stays ps s0 a0) [Has ps .fns] [Has ps .radio] [Has ps .front] [Has ps .fab] [Has ps .rpl] [Has ps .health] [Has ps .regs] [Has ps .out] : Stays ps s0 (State.writeReport a0 a1 a2 a3) := by
  unfold State.writeReport
  repeat' first
    | with_reducible assumption
    | intro _
    | with_reducible apply State.setSlot_stays
    | with_reducible apply State.noteSrs_stays
    | with_reducible apply State.decodeDone_stays
    | with_reducible apply State.missed_stays
    | with_reducible apply State.setCell_stays
    | with_reducible apply State.output_stays
    | with_reducible apply State.indicate_stays
    | (extract_lets +onlyGivenNames v
       first
         | (refine (fun (hv : Stays ps s0 v) => ?_) ?_; rotate_left; unfold v; rotate_right)
         | skip
       all_goals (try clear_value v))
    | with_reducible apply Stays.foldl
    | split

theorem State.writeWaiting_stays (a0 : State) (a1 : List Nat) (a2 : List SsiMsg) (a3 : List SsiMsg) (h0 : Stays ps s0 a0) [Has ps .fns] [Has ps .radio] [Has ps .front] [Has ps .fab] [Has ps .rpl] [Has ps .regs] [Has ps .out] : Stays ps s0 (State.writeWaiting a0 a1 a2 a3) := by
  induction a3 generalizing a0 a1 a2 with
  | nil =>
    unfold State.writeWaiting
    repeat' first
      | with_reducible assumption
  | cons x r ih =>
    unfold State.writeWaiting
    repeat' first
      | with_reducible assumption
      | intro _
      | with_reducible apply ih
      | (refine State.ringWrite_stays _ _ _ ?_ _ (by assumption))
      | (extract_lets +onlyGivenNames v; all_goals (try clear_value v))
      | with_reducible exact Burns.refl _
      | with_reducible exact Nat.le_refl _
      | with_reducible exact List.prefix_refl _
      | split
      | (rw [State.mk_build]; refine Stays.upd (fun p hp => by cases p <;> first | exact absurd Has.mem hp | rfl) ?_ ?_ ?_ ?_ ?_)

theorem execBurstFft_stays (a0 : Nat) (a1 : Nat) (a2 : State) (h2 : Stays ps s0 a2) [Has ps .ctxs] [Has ps .front] [Has ps .tiers] [Has ps .mem] : StaysRes ps s0 (execBurstFft a0 a1 a2) := by
  unfold execBurstFft
  repeat' first
    | with_reducible assumption
    | intro _
    | with_reducible exact StaysRes.ofFault
    | with_reducible apply StaysRes.ofNext
    | with_reducible apply State.releaseRow_stays
    | with_reducible apply State.ringWriteAt_stays
    | (extract_lets +onlyGivenNames v
       first
         | (refine (fun (hv : Stays ps s0 v) => ?_) ?_; rotate_left; unfold v; rotate_right)
         | skip
       all_goals (try clear_value v))
    | with_reducible exact Burns.refl _
    | with_reducible exact Nat.le_refl _
    | with_reducible exact List.prefix_refl _
    | split
    | (rw [State.mk_build]; refine Stays.upd (fun p hp => by cases p <;> first | exact absurd Has.mem hp | rfl) ?_ ?_ ?_ ?_ ?_)

theorem execCellOff_stays (a0 : Nat) (a1 : State) (h1 : Stays ps s0 a1) [Has ps .lists] [Has ps .ctxs] [Has ps .fns] [Has ps .mat] [Has ps .radio] [Has ps .front] [Has ps .tiers] [Has ps .fab] [Has ps .rpl] [Has ps .health] [Has ps .regs] [Has ps .mem] [Has ps .out] : StaysRes ps s0 (execCellOff a0 a1) := by
  unfold execCellOff
  repeat' first
    | with_reducible assumption
    | with_reducible exact StaysRes.ofFault
    | with_reducible apply StaysRes.ofNext
    | with_reducible apply State.cellGone_stays
    | (extract_lets +onlyGivenNames v; all_goals (try clear_value v))
    | split

theorem execCellOn_stays (a0 : Nat) (a1 : State) (h1 : Stays ps s0 a1) [Has ps .fns] [Has ps .radio] [Has ps .front] [Has ps .fab] [Has ps .rpl] [Has ps .health] [Has ps .regs] [Has ps .out] : StaysRes ps s0 (execCellOn a0 a1) := by
  unfold execCellOn
  repeat' first
    | with_reducible assumption
    | with_reducible exact StaysRes.ofFault
    | with_reducible apply StaysRes.ofNext
    | with_reducible apply State.setCell_stays
    | with_reducible apply State.cellNote_stays
    | with_reducible apply State.stopCell_stays
    | (extract_lets +onlyGivenNames v
       first
         | (refine (fun (hv : Stays ps s0 v) => ?_) ?_; rotate_left; unfold v; rotate_right)
         | skip
       all_goals (try clear_value v))
    | split

theorem execCellStart_stays (a0 : Nat) (a1 : List Byte) (a2 : State) (h2 : Stays ps s0 a2) [Has ps .ctxs] [Has ps .fns] [Has ps .radio] [Has ps .front] [Has ps .fab] [Has ps .rpl] [Has ps .health] [Has ps .regs] [Has ps .mem] [Has ps .out] : StaysRes ps s0 (execCellStart a0 a1 a2) := by
  unfold execCellStart
  repeat' first
    | with_reducible assumption
    | with_reducible exact StaysRes.ofFault
    | with_reducible apply StaysRes.ofNext
    | with_reducible apply State.ssiCellStart_stays
    | (extract_lets +onlyGivenNames v; all_goals (try clear_value v))
    | split

theorem execCellStop_stays (a0 : Nat) (a1 : List Byte) (a2 : State) (h2 : Stays ps s0 a2) [Has ps .fns] [Has ps .radio] [Has ps .front] [Has ps .fab] [Has ps .rpl] [Has ps .health] [Has ps .regs] [Has ps .out] : StaysRes ps s0 (execCellStop a0 a1 a2) := by
  unfold execCellStop
  repeat' first
    | with_reducible assumption
    | with_reducible exact StaysRes.ofFault
    | with_reducible apply StaysRes.ofNext
    | with_reducible apply State.ssiCellStop_stays
    | (extract_lets +onlyGivenNames v; all_goals (try clear_value v))
    | split

theorem execDeadlineMiss_stays (a0 : Nat) (a1 : State) (h1 : Stays ps s0 a1) [Has ps .fns] [Has ps .radio] [Has ps .front] [Has ps .fab] [Has ps .rpl] [Has ps .health] [Has ps .regs] [Has ps .out] : StaysRes ps s0 (execDeadlineMiss a0 a1) := by
  unfold execDeadlineMiss
  repeat' first
    | with_reducible assumption
    | intro _
    | with_reducible exact StaysRes.ofFault
    | with_reducible apply StaysRes.ofNext
    | with_reducible apply State.setSlot_stays
    | with_reducible apply State.missed_stays
    | (extract_lets +onlyGivenNames v; all_goals (try clear_value v))
    | with_reducible exact Burns.refl _
    | with_reducible exact Nat.le_refl _
    | with_reducible exact List.prefix_refl _
    | split
    | (rw [State.mk_build]; refine Stays.upd (fun p hp => by cases p <;> first | exact absurd Has.mem hp | rfl) ?_ ?_ ?_ ?_ ?_)

theorem execDlDeadline_stays (a0 : Nat) (a1 : State) (h1 : Stays ps s0 a1) [Has ps .fns] [Has ps .radio] [Has ps .front] [Has ps .fab] [Has ps .rpl] [Has ps .health] [Has ps .regs] [Has ps .out] : StaysRes ps s0 (execDlDeadline a0 a1) := by
  unfold execDlDeadline
  repeat' first
    | with_reducible assumption
    | with_reducible exact StaysRes.ofFault
    | with_reducible apply StaysRes.ofNext
    | with_reducible apply State.closeDl_stays
    | split

theorem execDlOrder_stays (a0 : Nat) (a1 : List Byte) (a2 : State) (h2 : Stays ps s0 a2) [Has ps .fns] [Has ps .radio] [Has ps .front] [Has ps .fab] [Has ps .rpl] [Has ps .health] [Has ps .regs] [Has ps .out] : StaysRes ps s0 (execDlOrder a0 a1 a2) := by
  unfold execDlOrder
  repeat' first
    | with_reducible assumption
    | with_reducible exact StaysRes.ofFault
    | with_reducible apply StaysRes.ofNext
    | with_reducible apply State.ssiDlOrder_stays
    | (extract_lets +onlyGivenNames v; all_goals (try clear_value v))
    | split

theorem execEgressBuild_stays (a0 : Nat) (a1 : Nat) (a2 : Nat) (a3 : State) (h3 : Stays ps s0 a3) [Has ps .front] [Has ps .regs] : StaysRes ps s0 (execEgressBuild a0 a1 a2 a3) := by
  unfold execEgressBuild
  repeat' first
    | with_reducible assumption
    | intro _
    | with_reducible exact StaysRes.ofFault
    | with_reducible apply StaysRes.ofNext
    | with_reducible apply State.buildC_stays
    | with_reducible apply State.buildPrachC_stays
    | with_reducible apply State.uSection_stays
    | (extract_lets +onlyGivenNames v; all_goals (try clear_value v))
    | with_reducible apply Stays.foldl
    | split

theorem execFhLinkChange_stays (a0 : Nat) (a1 : Bool) (a2 : Bool) (a3 : State) (h3 : Stays ps s0 a3) [Has ps .ports] [Has ps .front] : StaysRes ps s0 (execFhLinkChange a0 a1 a2 a3) := by
  unfold execFhLinkChange
  repeat' first
    | with_reducible assumption
    | intro _
    | with_reducible exact StaysRes.ofFault
    | with_reducible apply StaysRes.ofNext
    | (extract_lets +onlyGivenNames v
       first
         | (have hv : HostIf := v; clear hv; unfold v; clear v)
         | (refine (fun (hv : Stays ps s0 v) => ?_) ?_; rotate_left; unfold v; rotate_right)
         | skip
       all_goals (try clear_value v))
    | with_reducible exact Burns.refl _
    | with_reducible exact Nat.le_refl _
    | with_reducible exact List.prefix_refl _
    | split
    | (rw [State.mk_build]; refine Stays.upd (fun p hp => by cases p <;> first | exact absurd Has.mem hp | rfl) ?_ ?_ ?_ ?_ ?_)

theorem execFrameReceive_stays (a0 : Nat) (a1 : List Byte) (a2 : State) (h2 : Stays ps s0 a2) [Has ps .ctxs] [Has ps .fns] [Has ps .front] [Has ps .tiers] [Has ps .rpl] [Has ps .regs] [Has ps .mem] : StaysRes ps s0 (execFrameReceive a0 a1 a2) := by
  unfold execFrameReceive
  repeat' first
    | with_reducible assumption
    | with_reducible exact StaysRes.ofFault
    | with_reducible apply StaysRes.ofNext
    | with_reducible apply State.skipIn_stays
    | with_reducible apply State.fhCount_stays
    | with_reducible apply State.frameIn_stays
    | with_reducible apply State.logIn_stays
    | (extract_lets +onlyGivenNames v; all_goals (try clear_value v))
    | split

theorem execGateCloseDrop_stays (a0 : Nat) (a1 : State) (h1 : Stays ps s0 a1) [Has ps .front] [Has ps .regs] : StaysRes ps s0 (execGateCloseDrop a0 a1) := by
  unfold execGateCloseDrop
  repeat' first
    | with_reducible assumption
    | with_reducible exact StaysRes.ofFault
    | with_reducible apply StaysRes.ofNext
    | with_reducible apply State.headTag_stays
    | with_reducible apply State.setShpQ_stays
    | with_reducible apply State.fhCount_stays
    | with_reducible apply State.count_stays
    | (extract_lets +onlyGivenNames v
       first
         | (refine (fun (hv : Stays ps s0 v) => ?_) ?_; rotate_left; unfold v; rotate_right)
         | skip
       all_goals (try clear_value v))
    | split

theorem execGateOpen_stays (a0 : Nat) (a1 : State) (h1 : Stays ps s0 a1) [Has ps .front] : StaysRes ps s0 (execGateOpen a0 a1) := by
  unfold execGateOpen
  repeat' first
    | with_reducible assumption
    | with_reducible exact StaysRes.ofFault
    | with_reducible apply StaysRes.ofNext
    | with_reducible apply State.headTag_stays
    | (extract_lets +onlyGivenNames v; all_goals (try clear_value v))
    | split

theorem execIndicationRingRoom_stays (a0 : State) (h0 : Stays ps s0 a0) [Has ps .fns] [Has ps .radio] [Has ps .front] [Has ps .fab] [Has ps .rpl] [Has ps .regs] [Has ps .out] : StaysRes ps s0 (execIndicationRingRoom a0) := by
  unfold execIndicationRingRoom
  repeat' first
    | with_reducible assumption
    | with_reducible apply StaysRes.ofNext
    | with_reducible apply State.writeWaiting_stays

theorem execListEnd_stays (a0 : Nat) (a1 : State) (h1 : Stays ps s0 a1) [Has ps .lists] [Has ps .ctxs] [Has ps .units] [Has ps .fns] [Has ps .ports] [Has ps .mat] [Has ps .inf] [Has ps .chm] [Has ps .radio] [Has ps .front] [Has ps .tiers] [Has ps .fab] [Has ps .rpl] [Has ps .health] [Has ps .start] [Has ps .regs] [Has ps .out] : StaysRes ps s0 (execListEnd a0 a1) := by
  unfold execListEnd
  repeat' first
    | with_reducible assumption
    | with_reducible exact StaysRes.ofFault
    | with_reducible apply StaysRes.ofNext
    | with_reducible apply State.count_stays
    | with_reducible apply State.reapSteps_stays
    | with_reducible apply State.quarSettled_stays
    | with_reducible apply State.endList_stays
    | (extract_lets +onlyGivenNames v; refine (fun (hv : Stays ps s0 v) => ?_) ?_; rotate_left; unfold v; rotate_right; all_goals (try clear_value v))
    | split

theorem execMirrorAck_stays (a0 : Nat) (a1 : Nat) (a2 : Bool) (a3 : State) (h3 : Stays ps s0 a3) [Has ps .lists] [Has ps .ctxs] [Has ps .units] [Has ps .fns] [Has ps .mat] [Has ps .inf] [Has ps .chm] [Has ps .front] [Has ps .tiers] [Has ps .fab] [Has ps .rpl] [Has ps .regs] [Has ps .out] : StaysRes ps s0 (execMirrorAck a0 a1 a2 a3) := by
  unfold execMirrorAck
  repeat' first
    | with_reducible assumption
    | intro _
    | with_reducible exact StaysRes.ofFault
    | with_reducible apply StaysRes.ofNext
    | with_reducible apply State.finishService_stays
    | with_reducible apply State.setModel_stays
    | with_reducible apply State.dropModel_stays
    | with_reducible apply State.dropCtx_stays
    | (extract_lets +onlyGivenNames v
       first
         | (refine (fun (hv : Stays ps s0 v) => ?_) ?_; rotate_left; unfold v; rotate_right)
         | skip
       all_goals (try clear_value v))
    | with_reducible apply Stays.foldl
    | split

theorem execModelLoad_stays (a0 : Origin) (a1 : State) (h1 : Stays ps s0 a1) [Has ps .lists] [Has ps .ctxs] [Has ps .units] [Has ps .fns] [Has ps .ports] [Has ps .inf] [Has ps .radio] [Has ps .front] [Has ps .tiers] [Has ps .fab] [Has ps .rpl] [Has ps .health] [Has ps .start] [Has ps .regs] [Has ps .mem] [Has ps .out] : StaysRes ps s0 (execModelLoad a0 a1) := by
  unfold execModelLoad
  repeat' first
    | with_reducible assumption
    | intro _
    | with_reducible apply StaysSvc.ofDone
    | with_reducible apply StaysSvc.ofLater
    | with_reducible apply State.service_stays
    | with_reducible apply State.readImage_stays
    | with_reducible apply State.loadModel_stays
    | (extract_lets +onlyGivenNames v
       first
         | (refine (fun (hv : Stays ps s0 v.2) => ?_) ?_; rotate_left; unfold v; rotate_right)
         | skip
       all_goals (try clear_value v))
    | split
    | refine Stays.of_pair3 (by assumption) ?_

theorem execModelUnload_stays (a0 : Origin) (a1 : State) (h1 : Stays ps s0 a1) [Has ps .lists] [Has ps .ctxs] [Has ps .units] [Has ps .fns] [Has ps .mat] [Has ps .inf] [Has ps .chm] [Has ps .front] [Has ps .tiers] [Has ps .fab] [Has ps .rpl] [Has ps .regs] [Has ps .out] : StaysRes ps s0 (execModelUnload a0 a1) := by
  unfold execModelUnload
  repeat' first
    | with_reducible assumption
    | intro _
    | with_reducible apply StaysSvc.ofDone
    | with_reducible apply State.service_stays
    | with_reducible apply State.dropModel_stays
    | (extract_lets +onlyGivenNames v; all_goals (try clear_value v))
    | split

theorem execRadioListAdmit_stays (a0 : Nat) (a1 : Nat) (a2 : Option (Nat × Nat)) (a3 : State) (h3 : Stays ps s0 a3) [Has ps .lists] [Has ps .ctxs] [Has ps .units] [Has ps .fns] [Has ps .ports] [Has ps .mat] [Has ps .chm] [Has ps .radio] [Has ps .front] [Has ps .tiers] [Has ps .fab] [Has ps .rpl] [Has ps .health] [Has ps .start] [Has ps .regs] [Has ps .mem] [Has ps .out] : StaysRes ps s0 (execRadioListAdmit a0 a1 a2 a3) := by
  unfold execRadioListAdmit
  repeat' first
    | with_reducible assumption
    | with_reducible exact StaysRes.ofFault
    | with_reducible apply StaysRes.ofNext
    | with_reducible apply State.submitOwn_stays
    | with_reducible apply State.launchList_stays
    | (extract_lets +onlyGivenNames v
       first
         | (refine (fun (hv : Stays ps s0 v) => ?_) ?_; rotate_left; unfold v; rotate_right)
         | skip
       all_goals (try clear_value v))
    | split

theorem execReceiveWindowClose_stays (a0 : Nat) (a1 : Nat) (a2 : State) (h2 : Stays ps s0 a2) [Has ps .ctxs] [Has ps .radio] [Has ps .front] [Has ps .tiers] [Has ps .mem] : StaysRes ps s0 (execReceiveWindowClose a0 a1 a2) := by
  unfold execReceiveWindowClose
  repeat' first
    | with_reducible assumption
    | with_reducible exact StaysRes.ofFault
    | with_reducible apply StaysRes.ofNext
    | with_reducible apply State.closeOcc_stays
    | with_reducible apply State.closeSym_stays
    | (extract_lets +onlyGivenNames v
       first
         | (have hv : (_ → _) := v; clear hv; unfold v; clear v)
         | skip
       all_goals (try clear_value v))
    | split

theorem execSeqCancel_stays (a0 : Origin) (a1 : State) (h1 : Stays ps s0 a1) [Has ps .lists] [Has ps .units] [Has ps .fns] [Has ps .inf] [Has ps .front] [Has ps .fab] [Has ps .rpl] [Has ps .regs] [Has ps .out] : StaysRes ps s0 (execSeqCancel a0 a1) := by
  unfold execSeqCancel
  repeat' first
    | with_reducible assumption
    | intro _
    | with_reducible apply StaysSvc.ofDone
    | with_reducible apply State.service_stays
    | with_reducible apply State.setSeq_stays
    | (extract_lets +onlyGivenNames v; all_goals (try clear_value v))
    | split

theorem execSeqSubmit_stays (a0 : Origin) (a1 : List Byte) (a2 : State) (h2 : Stays ps s0 a2) [Has ps .lists] [Has ps .units] [Has ps .fns] [Has ps .inf] [Has ps .front] [Has ps .tiers] [Has ps .fab] [Has ps .rpl] [Has ps .regs] [Has ps .out] : StaysRes ps s0 (execSeqSubmit a0 a1 a2) := by
  unfold execSeqSubmit
  repeat' first
    | with_reducible assumption
    | intro _
    | with_reducible apply StaysSvc.ofDone
    | with_reducible apply State.service_stays
    | with_reducible apply State.occur_stays
    | with_reducible apply State.chargeUnits_stays
    | (extract_lets +onlyGivenNames v
       first
         | (refine (fun (hv : Stays ps s0 v) => ?_) ?_; rotate_left; unfold v; rotate_right)
         | (refine (fun (hv : Stays ps s0 v.2) => ?_) ?_; rotate_left; unfold v; rotate_right)
         | skip
       all_goals (try clear_value v))
    | with_reducible exact Burns.refl _
    | with_reducible exact Nat.le_refl _
    | with_reducible exact List.prefix_refl _
    | split
    | (rw [State.mk_build]; refine Stays.upd (fun p hp => by cases p <;> first | exact absurd Has.mem hp | rfl) ?_ ?_ ?_ ?_ ?_)

theorem execShaperSelect_stays (a0 : Nat) (a1 : State) (h1 : Stays ps s0 a1) [Has ps .time] [Has ps .fns] [Has ps .front] [Has ps .fab] [Has ps .rpl] [Has ps .regs] [Has ps .out] : StaysRes ps s0 (execShaperSelect a0 a1) := by
  unfold execShaperSelect
  repeat' first
    | with_reducible assumption
    | intro _
    | with_reducible exact StaysRes.ofFault
    | with_reducible apply StaysRes.ofNext
    | with_reducible apply State.headTag_stays
    | with_reducible apply State.setShpQ_stays
    | with_reducible apply State.sendPkt_stays
    | (extract_lets +onlyGivenNames v
       first
         | (refine (fun (hv : Stays ps s0 v) => ?_) ?_; rotate_left; unfold v; rotate_right)
         | skip
       all_goals (try clear_value v))
    | with_reducible exact Burns.refl _
    | with_reducible exact Nat.le_refl _
    | with_reducible exact List.prefix_refl _
    | split
    | (rw [State.mk_build]; refine Stays.upd (fun p hp => by cases p <;> first | exact absurd Has.mem hp | rfl) ?_ ?_ ?_ ?_ ?_)

theorem execShpHistSample_stays (a0 : State) (h0 : Stays ps s0 a0) [Has ps .front] : StaysRes ps s0 (execShpHistSample a0) := by
  unfold execShpHistSample
  repeat' first
    | with_reducible assumption
    | intro _
    | with_reducible apply StaysRes.ofNext
    | (extract_lets +onlyGivenNames v; all_goals (try clear_value v))
    | with_reducible exact Burns.refl _
    | with_reducible exact Nat.le_refl _
    | with_reducible exact List.prefix_refl _
    | split
    | (rw [State.mk_build]; refine Stays.upd (fun p hp => by cases p <;> first | exact absurd Has.mem hp | rfl) ?_ ?_ ?_ ?_ ?_)

theorem execSlotMark_stays (a0 : Nat) (a1 : State) (h1 : Stays ps s0 a1) [Has ps .fns] [Has ps .radio] [Has ps .front] [Has ps .fab] [Has ps .rpl] [Has ps .health] [Has ps .regs] [Has ps .out] : StaysRes ps s0 (execSlotMark a0 a1) := by
  unfold execSlotMark
  repeat' first
    | with_reducible assumption
    | with_reducible exact StaysRes.ofFault
    | with_reducible apply StaysRes.ofNext
    | with_reducible apply State.setCell_stays
    | with_reducible apply State.tellL2_stays
    | (extract_lets +onlyGivenNames v
       first
         | (refine (fun (hv : Stays ps s0 v) => ?_) ?_; rotate_left; unfold v; rotate_right)
         | skip
       all_goals (try clear_value v))
    | split

theorem execSoftRelease_stays (a0 : Nat) (a1 : List Byte) (a2 : State) (h2 : Stays ps s0 a2) [Has ps .fns] [Has ps .radio] [Has ps .front] [Has ps .fab] [Has ps .rpl] [Has ps .health] [Has ps .regs] [Has ps .out] : StaysRes ps s0 (execSoftRelease a0 a1 a2) := by
  unfold execSoftRelease
  repeat' first
    | with_reducible assumption
    | with_reducible exact StaysRes.ofFault
    | with_reducible apply StaysRes.ofNext
    | with_reducible apply State.ssiSoftRelease_stays
    | (extract_lets +onlyGivenNames v; all_goals (try clear_value v))
    | split

theorem execStepBoundary_stays (a0 : Nat) (a1 : Nat) (a2 : List (Nat × Nat)) (a3 : List (Nat × Nat)) (a4 : State) (h4 : Stays ps s0 a4) [Has ps .lists] [Has ps .ctxs] [Has ps .units] [Has ps .fns] [Has ps .ports] [Has ps .mat] [Has ps .inf] [Has ps .chm] [Has ps .radio] [Has ps .front] [Has ps .tiers] [Has ps .fab] [Has ps .rpl] [Has ps .health] [Has ps .start] [Has ps .regs] [Has ps .out] : StaysRes ps s0 (execStepBoundary a0 a1 a2 a3 a4) := by
  unfold execStepBoundary
  repeat' first
    | with_reducible assumption
    | intro _
    | with_reducible exact StaysRes.ofFault
    | with_reducible apply StaysRes.ofNext
    | with_reducible apply State.endSeq_stays
    | with_reducible apply State.kvRequests_stays
    | with_reducible apply State.nextStep_stays
    | with_reducible apply State.boundary_stays
    | (extract_lets +onlyGivenNames v
       first
         | (refine (fun (hv : Stays ps s0 v) => ?_) ?_; rotate_left; unfold v; rotate_right)
         | skip
       all_goals (try clear_value v))
    | with_reducible apply Stays.foldl
    | split

theorem execTbLoad_stays (a0 : Nat) (a1 : List Byte) (a2 : State) (h2 : Stays ps s0 a2) [Has ps .fns] [Has ps .radio] [Has ps .front] [Has ps .fab] [Has ps .rpl] [Has ps .health] [Has ps .regs] [Has ps .out] : StaysRes ps s0 (execTbLoad a0 a1 a2) := by
  unfold execTbLoad
  repeat' first
    | with_reducible assumption
    | with_reducible exact StaysRes.ofFault
    | with_reducible apply StaysRes.ofNext
    | with_reducible apply State.ssiTbLoad_stays
    | (extract_lets +onlyGivenNames v; all_goals (try clear_value v))
    | split

theorem execUlOrder_stays (a0 : Nat) (a1 : List Byte) (a2 : State) (h2 : Stays ps s0 a2) [Has ps .fns] [Has ps .radio] [Has ps .front] [Has ps .fab] [Has ps .rpl] [Has ps .health] [Has ps .regs] [Has ps .out] : StaysRes ps s0 (execUlOrder a0 a1 a2) := by
  unfold execUlOrder
  repeat' first
    | with_reducible assumption
    | with_reducible exact StaysRes.ofFault
    | with_reducible apply StaysRes.ofNext
    | with_reducible apply State.ssiUlOrder_stays
    | (extract_lets +onlyGivenNames v; all_goals (try clear_value v))
    | split

theorem execUlReport_stays (a0 : Nat) (a1 : Nat) (a2 : List UlResult) (a3 : State) (h3 : Stays ps s0 a3) [Has ps .fns] [Has ps .radio] [Has ps .front] [Has ps .fab] [Has ps .rpl] [Has ps .health] [Has ps .regs] [Has ps .out] : StaysRes ps s0 (execUlReport a0 a1 a2 a3) := by
  unfold execUlReport
  repeat' first
    | with_reducible assumption
    | with_reducible exact StaysRes.ofFault
    | with_reducible apply StaysRes.ofNext
    | with_reducible apply State.writeReport_stays
    | (extract_lets +onlyGivenNames v; all_goals (try clear_value v))
    | split

end Sys2Proof.Machine
end

