-- ==== Sys2Proof/Laws/StaysHost.lean ====
section
/-! SUPPORT. Each function of the host interface, the fabric, memory, health and the registers keeps what every command keeps and changes only some parts: one lemma a function. -/
namespace Sys2Proof.Machine

variable {ps : List Part} {s0 : State}

theorem Load.andThen_stays (a0 : Load) (a1 : State → Load) (h0 : Stays ps s0 a0.st) (h1 : ∀ u, Stays ps s0 u → Stays ps s0 (a1 u).st) : Stays ps s0 (Load.andThen a0 a1).st := by
  unfold Load.andThen
  repeat' first
    | with_reducible assumption
    | with_reducible apply h1
    | split

theorem State.acked_stays (a0 : State) (a1 : Nat) (a2 : Nat) (h0 : Stays ps s0 a0) [Has ps .fab] : Stays ps s0 (State.acked a0 a1 a2) := by
  unfold State.acked
  repeat' first
    | with_reducible assumption
    | with_reducible apply State.setPort_stays
    | with_reducible apply State.resumePaths_stays
    | (extract_lets +onlyGivenNames v
       first
         | (refine (fun (hv : Stays ps s0 v) => ?_) ?_; rotate_left; unfold v; rotate_right)
         | skip
       all_goals (try clear_value v))
    | split

theorem State.closeCtx_stays (a0 : State) (a1 : Ctx) (a2 : Nat) (h0 : Stays ps s0 a0) [Has ps .lists] [Has ps .ctxs] [Has ps .units] [Has ps .fns] [Has ps .mat] [Has ps .chm] [Has ps .fab] [Has ps .regs] : Stays ps s0 (State.closeCtx a0 a1 a2) := by
  unfold State.closeCtx
  repeat' first
    | with_reducible assumption
    | intro _
    | with_reducible apply State.cancelWith_stays
    | with_reducible apply State.updCtx_stays
    | (extract_lets +onlyGivenNames v
       first
         | (refine (fun (hv : Stays ps s0 v) => ?_) ?_; rotate_left; unfold v; rotate_right)
         | skip
       all_goals (try clear_value v))
    | with_reducible apply Stays.foldl
    | with_reducible exact Burns.refl _
    | with_reducible exact Nat.le_refl _
    | with_reducible exact List.prefix_refl _
    | (rw [State.mk_build]; refine Stays.upd (fun p hp => by cases p <;> first | exact absurd Has.mem hp | rfl) ?_ ?_ ?_ ?_ ?_)

theorem State.vfStop_stays (a0 : State) (a1 : Nat) (a2 : Bool) (h0 : Stays ps s0 a0) [Has ps .lists] [Has ps .ctxs] [Has ps .units] [Has ps .fns] [Has ps .ports] [Has ps .mat] [Has ps .inf] [Has ps .chm] [Has ps .radio] [Has ps .front] [Has ps .tiers] [Has ps .fab] [Has ps .rpl] [Has ps .health] [Has ps .start] [Has ps .regs] [Has ps .out] : Stays ps s0 (State.vfStop a0 a1 a2) := by
  unfold State.vfStop
  repeat' first
    | with_reducible assumption
    | intro _
    | with_reducible apply State.setFn_stays
    | with_reducible apply State.dropModel_stays
    | with_reducible apply State.reapSteps_stays
    | with_reducible apply State.closeCtx_stays
    | (extract_lets +onlyGivenNames v; all_goals (try clear_value v))
    | with_reducible apply Stays.foldl

theorem State.setPortEn_stays (a0 : State) (a1 : Nat) (a2 : Enable) (h0 : Stays ps s0 a0) [Has ps .ports] : Stays ps s0 (State.setPortEn a0 a1 a2) := by
  unfold State.setPortEn
  repeat' first
    | with_reducible assumption
    | intro _
    | (extract_lets +onlyGivenNames v
       first
         | (have hv : HostIf := v; clear hv; unfold v; clear v)
         | skip
       all_goals (try clear_value v))
    | with_reducible exact Burns.refl _
    | with_reducible exact Nat.le_refl _
    | with_reducible exact List.prefix_refl _
    | (rw [State.mk_build]; refine Stays.upd (fun p hp => by cases p <;> first | exact absurd Has.mem hp | rfl) ?_ ?_ ?_ ?_ ?_)

theorem State.apErr_stays (a0 : State) (a1 : Nat) (h0 : Stays ps s0 a0) [Has ps .fns] : Stays ps s0 (State.apErr a0 a1) := by
  unfold State.apErr
  repeat' first
    | with_reducible assumption
    | with_reducible apply State.setFn_stays

theorem State.askWards_stays (a0 : State) (h0 : Stays ps s0 a0) [Has ps .fns] [Has ps .inf] [Has ps .front] [Has ps .fab] [Has ps .rpl] [Has ps .health] [Has ps .regs] [Has ps .out] : Stays ps s0 (State.askWards a0) := by
  unfold State.askWards
  repeat' first
    | with_reducible assumption
    | intro _
    | with_reducible apply State.wardLost_stays
    | with_reducible apply State.askSteward_stays
    | (extract_lets +onlyGivenNames v; all_goals (try clear_value v))
    | with_reducible apply Stays.foldl
    | split

theorem State.attnClear_stays (a0 : State) (a1 : Nat) (a2 : Nat) (h0 : Stays ps s0 a0) [Has ps .fns] : Stays ps s0 (State.attnClear a0 a1 a2) := by
  unfold State.attnClear
  repeat' first
    | with_reducible assumption
    | with_reducible apply State.setFn_stays

theorem State.beaconOfs_stays (a0 : State) (a1 : Int) (h0 : Stays ps s0 a0) [Has ps .time] [Has ps .fns] [Has ps .rpl] [Has ps .start] [Has ps .regs] [Has ps .drawn] : Stays ps s0 (State.beaconOfs a0 a1) := by
  unfold State.beaconOfs
  repeat' first
    | with_reducible assumption
    | with_reducible apply State.setSrc_stays
    | with_reducible apply State.steer_stays
    | with_reducible apply State.qualify_stays
    | (extract_lets +onlyGivenNames v
       first
         | (refine (fun (hv : Stays ps s0 v) => ?_) ?_; rotate_left; unfold v; rotate_right)
         | skip
       all_goals (try clear_value v))
    | split

theorem State.refuseLoad_stays (a0 : State) (a1 : Nat) (h0 : Stays ps s0 a0) : Stays ps s0 (State.refuseLoad a0 a1).st := by
  unfold State.refuseLoad
  repeat' first
    | with_reducible assumption

theorem State.checkMap_stays (a0 : State) (a1 : Tab Nat) (h0 : Stays ps s0 a0) : Stays ps s0 (State.checkMap a0 a1).st := by
  unfold State.checkMap
  repeat' first
    | with_reducible assumption
    | with_reducible apply State.refuseLoad_stays
    | (extract_lets +onlyGivenNames v; all_goals (try clear_value v))
    | split

theorem State.checkRegs_stays (a0 : State) (a1 : Tab Nat) (a2 : Nat → Nat) (h0 : Stays ps s0 a0) : Stays ps s0 (State.checkRegs a0 a1 a2).st := by
  unfold State.checkRegs
  repeat' first
    | with_reducible assumption
    | with_reducible apply State.refuseLoad_stays
    | (extract_lets +onlyGivenNames v; all_goals (try clear_value v))
    | split

theorem State.checkRings_stays (a0 : State) (a1 : Tab Nat) (h0 : Stays ps s0 a0) : Stays ps s0 (State.checkRings a0 a1).st := by
  unfold State.checkRings
  repeat' first
    | with_reducible assumption
    | with_reducible apply State.refuseLoad_stays
    | split

theorem State.clearPage_stays (a0 : State) (a1 : Nat) (a2 : Nat) (h0 : Stays ps s0 a0) [Has ps .fns] : Stays ps s0 (State.clearPage a0 a1 a2) := by
  unfold State.clearPage
  repeat' first
    | with_reducible assumption
    | with_reducible apply State.setFn_stays
    | (extract_lets +onlyGivenNames v; all_goals (try clear_value v))
    | split

theorem State.copyRead_stays (a0 : State) (a1 : Nat) (a2 : List Span) (h0 : Stays ps s0 a0) [Has ps .lists] [Has ps .units] [Has ps .fns] [Has ps .ports] [Has ps .radio] [Has ps .front] [Has ps .tiers] [Has ps .fab] [Has ps .rpl] [Has ps .health] [Has ps .start] [Has ps .regs] [Has ps .out] : Stays ps s0 (State.copyRead a0 a1 a2).2.2 := by
  induction a2 generalizing a0 a1 with
  | nil =>
    unfold State.copyRead
    repeat' first
      | with_reducible assumption
  | cons x r ih =>
    unfold State.copyRead
    repeat' first
      | with_reducible assumption
      | with_reducible apply ih
      | with_reducible apply State.readSpans_stays
      | (extract_lets +onlyGivenNames v
         first
           | (refine (fun (hv : Stays ps s0 v.2) => ?_) ?_; rotate_left; unfold v; rotate_right)
           | (refine (fun (hv : Stays ps s0 v.2.2) => ?_) ?_; rotate_left; unfold v; rotate_right)
         all_goals (try clear_value v))
      | split

theorem State.countHost_stays (a0 : State) (a1 : Nat) (a2 : Nat) (a3 : Nat) (a4 : Bool) (h0 : Stays ps s0 a0) [Has ps .acct] : Stays ps s0 (State.countHost a0 a1 a2 a3 a4) := by
  unfold State.countHost
  repeat' first
    | with_reducible assumption
    | with_reducible apply State.acct_stays

theorem State.countIn_stays (a0 : State) (a1 : Req) (a2 : Txn) (h0 : Stays ps s0 a0) [Has ps .acct] : Stays ps s0 (State.countIn a0 a1 a2) := by
  unfold State.countIn
  repeat' first
    | with_reducible assumption
    | with_reducible apply State.acct_stays
    | (extract_lets +onlyGivenNames v; have hv : (_ → _) := v; clear hv; unfold v; clear v; all_goals (try clear_value v))
    | split

theorem State.dbErr_stays (a0 : State) (a1 : Nat) (h0 : Stays ps s0 a0) [Has ps .fns] : Stays ps s0 (State.dbErr a0 a1) := by
  unfold State.dbErr
  repeat' first
    | with_reducible assumption
    | with_reducible apply State.setFn_stays

theorem State.hostSend_stays (a0 : State) (a1 : Nat) (a2 : Nat) (a3 : Nat) (a4 : List Byte) (h0 : Stays ps s0 a0) [Has ps .fns] [Has ps .regs] [Has ps .out] : Stays ps s0 (State.hostSend a0 a1 a2 a3 a4) := by
  unfold State.hostSend
  repeat' first
    | with_reducible assumption
    | with_reducible apply State.emit_stays
    | with_reducible apply State.hifEvt_stays
    | with_reducible apply State.count_stays
    | split

theorem State.dmaOut_stays (a0 : State) (a1 : Report) (a2 : Nat) (a3 : Nat) (a4 : Nat) (a5 : List Byte) (h0 : Stays ps s0 a0) [Has ps .fns] [Has ps .rpl] [Has ps .regs] [Has ps .out] : Stays ps s0 (State.dmaOut a0 a1 a2 a3 a4 a5) := by
  induction a4 generalizing a0 a1 a2 a3 a5 with
  | zero =>
    unfold State.dmaOut
    repeat' first
      | with_reducible assumption
  | succ n ih =>
    unfold State.dmaOut
    repeat' first
      | with_reducible assumption
      | with_reducible apply ih
      | with_reducible apply State.output_stays
      | with_reducible apply State.hostSend_stays
      | (extract_lets +onlyGivenNames v
         first
           | (refine (fun (hv : Stays ps s0 v) => ?_) ?_; rotate_left; unfold v; rotate_right)
           | skip
         all_goals (try clear_value v))
      | split

theorem State.dropRecs_stays (a0 : State) (a1 : Nat) (a2 : Nat) (h0 : Stays ps s0 a0) [Has ps .fns] [Has ps .inf] : Stays ps s0 (State.dropRecs a0 a1 a2).2 := by
  unfold State.dropRecs
  repeat' first
    | with_reducible assumption
    | intro _
    | with_reducible apply State.dropSeq_stays
    | with_reducible apply State.setSeq_stays
    | with_reducible apply State.setQp_stays
    | (extract_lets +onlyGivenNames v; all_goals (try clear_value v))
    | with_reducible apply Stays.foldl
    | split

theorem State.dropFnRecs_stays (a0 : State) (a1 : Nat) (h0 : Stays ps s0 a0) [Has ps .fns] [Has ps .inf] [Has ps .regs] : Stays ps s0 (State.dropFnRecs a0 a1) := by
  unfold State.dropFnRecs
  repeat' first
    | with_reducible assumption
    | intro _
    | with_reducible apply State.dropRecs_stays
    | with_reducible apply State.hifEvt_stays
    | with_reducible apply State.count_stays
    | (extract_lets +onlyGivenNames v; refine (fun (hv : Stays ps s0 v.2) => ?_) ?_; rotate_left; unfold v; rotate_right; all_goals (try clear_value v))
    | with_reducible apply Stays.foldl2
    | split

theorem State.dropNote_stays (a0 : State) (a1 : Nat) (a2 : Nat) (a3 : Bool) (a4 : Bool) (h0 : Stays ps s0 a0) [Has ps .fab] : Stays ps s0 (State.dropNote a0 a1 a2 a3 a4) := by
  unfold State.dropNote
  repeat' first
    | with_reducible assumption
    | intro _
    | (extract_lets +onlyGivenNames v; all_goals (try clear_value v))
    | with_reducible exact Burns.refl _
    | with_reducible exact Nat.le_refl _
    | with_reducible exact List.prefix_refl _
    | (rw [State.mk_build]; refine Stays.upd (fun p hp => by cases p <;> first | exact absurd Has.mem hp | rfl) ?_ ?_ ?_ ?_ ?_)

theorem State.dropPages_stays (a0 : State) (a1 : Nat) (h0 : Stays ps s0 a0) [Has ps .tiers] : Stays ps s0 (State.dropPages a0 a1) := by
  unfold State.dropPages
  repeat' first
    | with_reducible assumption
    | intro _
    | with_reducible apply State.releaseUnits_stays
    | with_reducible apply State.leaveFrames_stays
    | with_reducible apply State.setPage_stays
    | with_reducible apply State.dropClaim_stays
    | (extract_lets +onlyGivenNames v
       first
         | (refine (fun (hv : Stays ps s0 v) => ?_) ?_; rotate_left; unfold v; rotate_right)
         | skip
       all_goals (try clear_value v))
    | with_reducible apply Stays.foldl

theorem State.mrExtend_stays (a0 : State) (a1 : Nat) (a2 : List Byte) (h0 : Stays ps s0 a0) [Has ps .start] : Stays ps s0 (State.mrExtend a0 a1 a2) := by
  unfold State.mrExtend
  repeat' first
    | with_reducible assumption
    | intro _
    | (extract_lets +onlyGivenNames v
       first
         | (have hv : Start := v; clear hv; unfold v; clear v)
         | skip
       all_goals (try clear_value v))
    | with_reducible exact Nat.le_refl _
    | with_reducible exact List.prefix_refl _
    | exact Burns.same rfl rfl rfl rfl rfl rfl
    | (rw [State.mk_build]; refine Stays.upd (fun p hp => by cases p <;> first | exact absurd Has.mem hp | rfl) ?_ ?_ ?_ ?_ ?_)

theorem State.imageDefaults_stays (a0 : State) (h0 : Stays ps s0 a0) [Has ps .regs] : Stays ps s0 (State.imageDefaults a0) := by
  have key : ∀ r : Tab DWord, Stays ps s0 { a0 with regs := r } := fun r => by
    rw [State.mk_build]
    exact Stays.upd (fun p hp => by cases p <;> first | exact absurd Has.mem hp | rfl) h0 id (List.prefix_refl _) (Nat.le_refl _) (Burns.refl _)
  exact key _

theorem loadRegs_stays (a0 : State) (a1 : Nat) (a2 : Tab Nat) (a3 : List (List Byte)) (h0 : Stays ps s0 a0) [Has ps .regs] : Stays ps s0 (loadRegs a0 a1 a2 a3).1.st := by
  induction a3 generalizing a0 a1 a2 with
  | nil =>
    unfold loadRegs
    repeat' first
      | with_reducible assumption
  | cons x r ih =>
    unfold loadRegs
    repeat' first
      | with_reducible assumption
      | with_reducible apply ih
      | with_reducible apply State.refuseLoad_stays
      | with_reducible apply State.setReg_stays
      | (extract_lets +onlyGivenNames v; all_goals (try clear_value v))
      | split

theorem State.layArea_stays (a0 : State) (a1 : Nat) (a2 : Nat) (a3 : Area) (a4 : Nat) (a5 : Nat) (h0 : Stays ps s0 a0) [Has ps .tiers] [Has ps .mem] : Stays ps s0 (State.layArea a0 a1 a2 a3 a4 a5).st := by
  induction a5 generalizing a0 a1 a2 a3 a4 with
  | zero =>
    unfold State.layArea
    repeat' first
      | with_reducible assumption
  | succ n ih =>
    unfold State.layArea
    repeat' first
      | with_reducible assumption
      | intro _
      | with_reducible apply ih
      | with_reducible apply State.refuseLoad_stays
      | with_reducible apply State.setPage_stays
      | with_reducible apply State.takeFrames_stays
      | (extract_lets +onlyGivenNames v
         first
           | (refine (fun (hv : Stays ps s0 v) => ?_) ?_; rotate_left; unfold v; rotate_right)
           | skip
         all_goals (try clear_value v))
      | with_reducible exact Burns.refl _
      | with_reducible exact Nat.le_refl _
      | with_reducible exact List.prefix_refl _
      | with_reducible apply Mem.wf_clear
      | with_reducible apply Mem.wf_wrBytes
      | split
      | (rw [State.mk_build]; refine Stays.upd (fun p hp => by cases p <;> first | exact absurd Has.mem hp | rfl) ?_ ?_ ?_ ?_ ?_)

theorem State.loadAreas_stays (a0 : State) (a1 : Nat) (a2 : Nat) (a3 : List (List Byte × Nat)) (h0 : Stays ps s0 a0) [Has ps .tiers] [Has ps .mem] : Stays ps s0 (State.loadAreas a0 a1 a2 a3).st := by
  unfold State.loadAreas
  repeat' first
    | with_reducible assumption
    | intro _
    | with_reducible apply Load.andThen_stays
    | with_reducible apply State.refuseLoad_stays
    | with_reducible apply State.layArea_stays
    | (extract_lets +onlyGivenNames v; all_goals (try clear_value v))
    | with_reducible apply Stays.foldlLoad
    | split

theorem State.loadCells_stays (a0 : State) (a1 : List (List Byte × Nat)) (h0 : Stays ps s0 a0) [Has ps .radio] : Stays ps s0 (State.loadCells a0 a1).st := by
  unfold State.loadCells
  repeat' first
    | with_reducible assumption
    | intro _
    | with_reducible apply Load.andThen_stays
    | with_reducible apply State.refuseLoad_stays
    | (extract_lets +onlyGivenNames v; all_goals (try clear_value v))
    | with_reducible apply Stays.foldlLoad
    | with_reducible exact Burns.refl _
    | with_reducible exact Nat.le_refl _
    | with_reducible exact List.prefix_refl _
    | split
    | (rw [State.mk_build]; refine Stays.upd (fun p hp => by cases p <;> first | exact absurd Has.mem hp | rfl) ?_ ?_ ?_ ?_ ?_)

theorem State.loadQuar_stays (a0 : State) (a1 : List (List Byte × Nat)) (h0 : Stays ps s0 a0) [Has ps .health] : Stays ps s0 (State.loadQuar a0 a1).st := by
  unfold State.loadQuar
  repeat' first
    | with_reducible assumption
    | intro _
    | with_reducible apply Load.andThen_stays
    | with_reducible apply State.refuseLoad_stays
    | (extract_lets +onlyGivenNames v; all_goals (try clear_value v))
    | with_reducible apply Stays.foldlLoad
    | with_reducible exact Burns.refl _
    | with_reducible exact Nat.le_refl _
    | with_reducible exact List.prefix_refl _
    | split
    | (rw [State.mk_build]; refine Stays.upd (fun p hp => by cases p <;> first | exact absurd Has.mem hp | rfl) ?_ ?_ ?_ ?_ ?_)

theorem State.loadKeys_stays (a0 : State) (a1 : List (List Byte × Nat)) (h0 : Stays ps s0 a0) [Has ps .start] : Stays ps s0 (State.loadKeys a0 a1).st := by
  unfold State.loadKeys
  repeat' first
    | with_reducible assumption
    | intro _
    | with_reducible apply Load.andThen_stays
    | with_reducible apply State.refuseLoad_stays
    | (extract_lets +onlyGivenNames v
       first
         | (have hv : Start := v; clear hv; unfold v; clear v)
         | skip
       all_goals (try clear_value v))
    | with_reducible apply Stays.foldlLoad
    | with_reducible exact Nat.le_refl _
    | with_reducible exact List.prefix_refl _
    | exact Burns.same rfl rfl rfl rfl rfl rfl
    | split
    | (rw [State.mk_build]; refine Stays.upd (fun p hp => by cases p <;> first | exact absurd Has.mem hp | rfl) ?_ ?_ ?_ ?_ ?_)

theorem State.loadRatc_stays (a0 : State) (a1 : List (List Byte × Nat)) (h0 : Stays ps s0 a0) [Has ps .fab] : Stays ps s0 (State.loadRatc a0 a1).st := by
  unfold State.loadRatc
  repeat' first
    | with_reducible assumption
    | intro _
    | with_reducible apply Load.andThen_stays
    | with_reducible apply State.refuseLoad_stays
    | (extract_lets +onlyGivenNames v; all_goals (try clear_value v))
    | with_reducible apply Stays.foldlLoad
    | with_reducible exact Burns.refl _
    | with_reducible exact Nat.le_refl _
    | with_reducible exact List.prefix_refl _
    | split
    | (rw [State.mk_build]; refine Stays.upd (fun p hp => by cases p <;> first | exact absurd Has.mem hp | rfl) ?_ ?_ ?_ ?_ ?_)

theorem State.p4_stays (a0 : State) (a1 : Nat) (a2 : List Byte) (h0 : Stays ps s0 a0) [Has ps .radio] [Has ps .tiers] [Has ps .fab] [Has ps .health] [Has ps .start] [Has ps .regs] [Has ps .mem] : Stays ps s0 (State.p4 a0 a1 a2).st := by
  unfold State.p4
  repeat' first
    | with_reducible assumption
    | intro _
    | with_reducible apply State.imageDefaults_stays
    | with_reducible apply loadRegs_stays
    | with_reducible apply Load.andThen_stays
    | with_reducible apply State.checkRegs_stays
    | with_reducible apply State.loadAreas_stays
    | with_reducible apply State.refuseLoad_stays
    | with_reducible apply State.loadCells_stays
    | with_reducible apply State.checkMap_stays
    | with_reducible apply State.loadQuar_stays
    | with_reducible apply State.loadKeys_stays
    | with_reducible apply State.loadRatc_stays
    | with_reducible apply State.checkRings_stays
    | (extract_lets +onlyGivenNames v; all_goals (try clear_value v))
    | split

theorem State.startPair_stays (a0 : State) (h0 : Stays ps s0 a0) [Has ps .health] : Stays ps s0 (State.startPair a0) := by
  unfold State.startPair
  repeat' first
    | with_reducible assumption
    | intro _
    | (extract_lets +onlyGivenNames v; all_goals (try clear_value v))
    | with_reducible exact Burns.refl _
    | with_reducible exact Nat.le_refl _
    | with_reducible exact List.prefix_refl _
    | split
    | (rw [State.mk_build]; refine Stays.upd (fun p hp => by cases p <;> first | exact absurd Has.mem hp | rfl) ?_ ?_ ?_ ?_ ?_)

theorem State.fhEnable_stays (a0 : State) (a1 : Nat) (h0 : Stays ps s0 a0) [Has ps .ports] : Stays ps s0 (State.fhEnable a0 a1) := by
  unfold State.fhEnable
  repeat' first
    | with_reducible assumption
    | with_reducible apply State.setPortEn_stays
    | (extract_lets +onlyGivenNames v; all_goals (try clear_value v))
    | split

theorem State.vfStart_stays (a0 : State) (a1 : Nat) (h0 : Stays ps s0 a0) [Has ps .fns] [Has ps .rpl] : Stays ps s0 (State.vfStart a0 a1) := by
  unfold State.vfStart
  repeat' first
    | with_reducible assumption
    | intro _
    | with_reducible apply State.setFn_stays
    | (extract_lets +onlyGivenNames v
       first
         | (refine (fun (hv : Stays ps s0 v) => ?_) ?_; rotate_left; unfold v; rotate_right)
         | skip
       all_goals (try clear_value v))
    | with_reducible exact Burns.refl _
    | with_reducible exact Nat.le_refl _
    | with_reducible exact List.prefix_refl _
    | split
    | (rw [State.mk_build]; refine Stays.upd (fun p hp => by cases p <;> first | exact absurd Has.mem hp | rfl) ?_ ?_ ?_ ?_ ?_)

theorem State.vfRelease_stays (a0 : State) (a1 : Nat) (h0 : Stays ps s0 a0) [Has ps .lists] [Has ps .ctxs] [Has ps .units] [Has ps .fns] [Has ps .ports] [Has ps .mat] [Has ps .inf] [Has ps .chm] [Has ps .radio] [Has ps .front] [Has ps .tiers] [Has ps .fab] [Has ps .rpl] [Has ps .health] [Has ps .start] [Has ps .regs] [Has ps .out] : Stays ps s0 (State.vfRelease a0 a1) := by
  unfold State.vfRelease
  repeat' first
    | with_reducible assumption
    | with_reducible apply State.vfStart_stays
    | with_reducible apply State.vfStop_stays
    | (extract_lets +onlyGivenNames v
       first
         | (refine (fun (hv : Stays ps s0 v) => ?_) ?_; rotate_left; unfold v; rotate_right)
         | skip
       all_goals (try clear_value v))
    | split

theorem State.endUnmirrored_stays (a0 : State) (h0 : Stays ps s0 a0) [Has ps .lists] [Has ps .ctxs] [Has ps .units] [Has ps .fns] [Has ps .ports] [Has ps .mat] [Has ps .inf] [Has ps .chm] [Has ps .radio] [Has ps .front] [Has ps .tiers] [Has ps .fab] [Has ps .rpl] [Has ps .health] [Has ps .start] [Has ps .regs] [Has ps .out] : Stays ps s0 (State.endUnmirrored a0) := by
  unfold State.endUnmirrored
  repeat' first
    | with_reducible assumption
    | intro _
    | with_reducible apply State.dropModel_stays
    | with_reducible apply State.closeCtx_stays
    | with_reducible apply State.stopCell_stays
    | with_reducible apply State.reapSteps_stays
    | (extract_lets +onlyGivenNames v; all_goals (try clear_value v))
    | with_reducible apply Stays.foldl

theorem State.fabDisable_stays (a0 : State) (a1 : Nat) (h0 : Stays ps s0 a0) [Has ps .lists] [Has ps .units] [Has ps .fns] [Has ps .ports] [Has ps .front] [Has ps .fab] [Has ps .rpl] [Has ps .regs] [Has ps .out] : Stays ps s0 (State.fabDisable a0 a1) := by
  unfold State.fabDisable
  repeat' first
    | with_reducible assumption
    | with_reducible apply State.losePlane_stays
    | with_reducible apply State.setPortEn_stays
    | (extract_lets +onlyGivenNames v; all_goals (try clear_value v))
    | split

theorem State.fabEnable_stays (a0 : State) (a1 : Nat) (h0 : Stays ps s0 a0) [Has ps .ports] : Stays ps s0 (State.fabEnable a0 a1) := by
  unfold State.fabEnable
  repeat' first
    | with_reducible assumption
    | with_reducible apply State.setPortEn_stays
    | (extract_lets +onlyGivenNames v; all_goals (try clear_value v))
    | split

theorem State.fastStop_stays (a0 : State) (a1 : Nat) (h0 : Stays ps s0 a0) [Has ps .lists] [Has ps .ctxs] [Has ps .units] [Has ps .fns] [Has ps .ports] [Has ps .mat] [Has ps .inf] [Has ps .chm] [Has ps .radio] [Has ps .front] [Has ps .tiers] [Has ps .fab] [Has ps .rpl] [Has ps .health] [Has ps .start] [Has ps .regs] [Has ps .out] : Stays ps s0 (State.fastStop a0 a1) := by
  unfold State.fastStop
  repeat' first
    | with_reducible assumption
    | intro _
    | with_reducible apply State.reapSteps_stays
    | with_reducible apply State.quarSettled_stays
    | with_reducible apply State.stopGrain_stays
    | with_reducible apply State.cycEvt_stays
    | with_reducible apply State.count_stays
    | (extract_lets +onlyGivenNames v
       first
         | (refine (fun (hv : Stays ps s0 v) => ?_) ?_; rotate_left; unfold v; rotate_right)
         | skip
       all_goals (try clear_value v))
    | with_reducible apply Stays.foldl
    | split

theorem State.setHold_stays (a0 : State) (a1 : Nat) (a2 : Bool) (h0 : Stays ps s0 a0) [Has ps .power] : Stays ps s0 (State.setHold a0 a1 a2) := by
  unfold State.setHold
  repeat' first
    | with_reducible assumption
    | intro _
    | (extract_lets +onlyGivenNames v; all_goals (try clear_value v))
    | with_reducible exact Burns.refl _
    | with_reducible exact Nat.le_refl _
    | with_reducible exact List.prefix_refl _
    | (rw [State.mk_build]; refine Stays.upd (fun p hp => by cases p <;> first | exact absurd Has.mem hp | rfl) ?_ ?_ ?_ ?_ ?_)

theorem State.setP_stays (a0 : State) (a1 : Nat) (a2 : Nat) (h0 : Stays ps s0 a0) [Has ps .power] : Stays ps s0 (State.setP a0 a1 a2) := by
  unfold State.setP
  repeat' first
    | with_reducible assumption
    | intro _
    | (extract_lets +onlyGivenNames v; all_goals (try clear_value v))
    | with_reducible exact Burns.refl _
    | with_reducible exact Nat.le_refl _
    | with_reducible exact List.prefix_refl _
    | (rw [State.mk_build]; refine Stays.upd (fun p hp => by cases p <;> first | exact absurd Has.mem hp | rfl) ?_ ?_ ?_ ?_ ?_)

theorem State.fastDie_stays (a0 : State) (a1 : Nat) (h0 : Stays ps s0 a0) [Has ps .lists] [Has ps .ctxs] [Has ps .units] [Has ps .fns] [Has ps .ports] [Has ps .mat] [Has ps .inf] [Has ps .chm] [Has ps .radio] [Has ps .front] [Has ps .tiers] [Has ps .fab] [Has ps .rpl] [Has ps .health] [Has ps .start] [Has ps .power] [Has ps .regs] [Has ps .out] : Stays ps s0 (State.fastDie a0 a1) := by
  unfold State.fastDie
  repeat' first
    | with_reducible assumption
    | with_reducible apply State.fastStop_stays
    | with_reducible apply State.thrEvt_stays
    | with_reducible apply State.setHold_stays
    | with_reducible apply State.count_stays
    | with_reducible apply State.setP_stays
    | split

theorem State.fctl_stays (a0 : State) (a1 : Nat) (a2 : Nat) (a3 : Bool) (a4 : State → Bool × State) (h0 : Stays ps s0 a0) (h4 : ∀ u, Stays ps s0 u → Stays ps s0 (a4 u).2) [Has ps .fns] [Has ps .vfs] [Has ps .rpl] [Has ps .regs] : Stays ps s0 (State.fctl a0 a1 a2 a3 a4) := by
  unfold State.fctl
  refine State.bar2_stays _ _ _ _ _ h0 (fun u hu => ?_)
  extract_lets +onlyGivenNames r v z w
  have hw : Stays ps s0 w := by
    unfold w
    rw [State.mk_build]
    exact Stays.upd (t := v) (fun p hp => by cases p <;> first | exact absurd Has.mem hp | rfl) (h4 _ hu) id (List.prefix_refl _) (Nat.le_refl _) (Burns.refl _)
  split
  · exact State.hifEvt_stays _ _ hw
  · exact hw

theorem State.fhDisable_stays (a0 : State) (a1 : Nat) (h0 : Stays ps s0 a0) [Has ps .ports] : Stays ps s0 (State.fhDisable a0 a1) := by
  unfold State.fhDisable
  repeat' first
    | with_reducible assumption
    | with_reducible apply State.setPortEn_stays
    | (extract_lets +onlyGivenNames v; all_goals (try clear_value v))
    | split

theorem State.fireVec_stays (a0 : State) (a1 : Nat) (a2 : Nat) (h0 : Stays ps s0 a0) [Has ps .fns] [Has ps .out] : Stays ps s0 (State.fireVec a0 a1 a2) := by
  unfold State.fireVec
  repeat' first
    | with_reducible assumption
    | with_reducible apply State.setQp_stays
    | with_reducible apply State.setFn_stays
    | with_reducible apply State.emit_stays
    | (extract_lets +onlyGivenNames v
       first
         | (refine (fun (hv : Stays ps s0 v) => ?_) ?_; rotate_left; unfold v; rotate_right)
         | skip
       all_goals (try clear_value v))
    | split

theorem State.replayFrom_stays (a0 : State) (a1 : Nat) (a2 : Nat) (h0 : Stays ps s0 a0) [Has ps .fab] [Has ps .regs] [Has ps .out] : Stays ps s0 (State.replayFrom a0 a1 a2) := by
  unfold State.replayFrom
  repeat' first
    | with_reducible assumption
    | with_reducible apply State.acked_stays
    | with_reducible apply State.count_stays
    | with_reducible apply State.holdPaths_stays
    | with_reducible apply State.emit_stays
    | with_reducible apply State.setPort_stays
    | (extract_lets +onlyGivenNames v
       first
         | (refine (fun (hv : Stays ps s0 v) => ?_) ?_; rotate_left; unfold v; rotate_right)
         | skip
       all_goals (try clear_value v))
    | split

theorem State.goodFlit_stays (a0 : State) (a1 : Nat) (a2 : List Byte) (h0 : Stays ps s0 a0) [Has ps .fab] [Has ps .regs] [Has ps .out] : Stays ps s0 (State.goodFlit a0 a1 a2) := by
  unfold State.goodFlit
  repeat' first
    | with_reducible assumption
    | with_reducible apply State.replayFrom_stays
    | with_reducible apply State.acked_stays
    | with_reducible apply State.emit_stays
    | with_reducible apply State.setPort_stays
    | (extract_lets +onlyGivenNames v
       first
         | (refine (fun (hv : Stays ps s0 v) => ?_) ?_; rotate_left; unfold v; rotate_right)
         | skip
       all_goals (try clear_value v))
    | split

theorem State.grant_stays (a0 : State) (a1 : ExpelReq) (a2 : Nat) (h0 : Stays ps s0 a0) [Has ps .fns] [Has ps .front] [Has ps .fab] [Has ps .rpl] [Has ps .health] [Has ps .start] [Has ps .regs] [Has ps .out] : Stays ps s0 (State.grant a0 a1 a2) := by
  unfold State.grant
  extract_lets hl v w
  have hv : Stays ps s0 v := by unfold v; rw [State.mk_build]; exact Stays.upd (fun p hp => by cases p <;> first | exact absurd Has.mem hp | rfl) h0 id (List.prefix_refl _) (Nat.le_refl _) (Burns.refl _)
  have hw : Stays ps s0 w := State.mail_stays _ _ _ _ _ hv
  split
  · exact State.mail_stays _ _ _ _ _ hw
  · split
    · exact State.expelNow_stays _ _ _ _ hw
    · exact hw

theorem State.orphanNotice_stays (a0 : State) (a1 : Nat) (h0 : Stays ps s0 a0) [Has ps .fns] [Has ps .regs] : Stays ps s0 (State.orphanNotice a0 a1) := by
  unfold State.orphanNotice
  repeat' first
    | with_reducible assumption
    | with_reducible apply State.raise_stays
    | split

theorem State.groupIn_stays (a0 : State) (a1 : Txn) (h0 : Stays ps s0 a0) [Has ps .lists] [Has ps .units] [Has ps .fns] [Has ps .front] [Has ps .fab] [Has ps .rpl] [Has ps .regs] [Has ps .out] : Stays ps s0 (State.groupIn a0 a1).2 := by
  unfold State.groupIn
  repeat' first
    | with_reducible assumption
    | with_reducible apply State.setGroup_stays
    | with_reducible apply State.tryCommit_stays
    | with_reducible apply State.sendGroup_stays
    | with_reducible apply State.groupFail_stays
    | with_reducible apply State.orphanNotice_stays
    | (extract_lets +onlyGivenNames v; all_goals (try clear_value v))
    | split

theorem State.moveModel_stays (a0 : State) (a1 : Nat) (a2 : Nat) (h0 : Stays ps s0 a0) [Has ps .lists] [Has ps .ctxs] [Has ps .units] [Has ps .fns] [Has ps .mat] [Has ps .inf] [Has ps .chm] [Has ps .tiers] [Has ps .fab] [Has ps .regs] : Stays ps s0 (State.moveModel a0 a1 a2) := by
  unfold State.moveModel
  repeat' first
    | with_reducible assumption
    | intro _
    | with_reducible apply State.dropModel_stays
    | (extract_lets +onlyGivenNames v; all_goals (try clear_value v))
    | with_reducible exact Burns.refl _
    | with_reducible exact Nat.le_refl _
    | with_reducible exact List.prefix_refl _
    | (rw [State.mk_build]; refine Stays.upd (fun p hp => by cases p <;> first | exact absurd Has.mem hp | rfl) ?_ ?_ ?_ ?_ ?_)

theorem State.handMirrored_stays (a0 : State) (h0 : Stays ps s0 a0) [Has ps .lists] [Has ps .ctxs] [Has ps .units] [Has ps .fns] [Has ps .mat] [Has ps .inf] [Has ps .chm] [Has ps .radio] [Has ps .tiers] [Has ps .fab] [Has ps .regs] : Stays ps s0 (State.handMirrored a0) := by
  unfold State.handMirrored
  repeat' first
    | with_reducible assumption
    | intro _
    | with_reducible apply State.moveModel_stays
    | with_reducible apply State.muteCell_stays
    | (extract_lets +onlyGivenNames v; refine (fun (hv : Stays ps s0 v) => ?_) ?_; rotate_left; unfold v; rotate_right; all_goals (try clear_value v))
    | with_reducible apply Stays.foldl

theorem State.hltCmd_stays (a0 : State) (a1 : Nat) (a2 : State → Bool) (a3 : State → State) (h0 : Stays ps s0 a0) (h3 : ∀ u, Stays ps s0 u → Stays ps s0 (a3 u)) [Has ps .fns] [Has ps .rpl] [Has ps .regs] : Stays ps s0 (State.hltCmd a0 a1 a2 a3) := by
  unfold State.hltCmd
  repeat' first
    | with_reducible assumption
    | intro _
    | with_reducible apply State.bar2_stays
    | with_reducible apply State.hltEvt_stays
    | with_reducible apply h3
    | (extract_lets +onlyGivenNames v; all_goals (try clear_value v))
    | split

theorem State.hostCopy_stays (a0 : Svc) (a1 : List Byte) (h0 : Stays ps s0 a0.st) [Has ps .lists] [Has ps .units] [Has ps .fns] [Has ps .ports] [Has ps .acct] [Has ps .radio] [Has ps .front] [Has ps .tiers] [Has ps .fab] [Has ps .rpl] [Has ps .health] [Has ps .start] [Has ps .regs] [Has ps .mem] [Has ps .out] : Stays ps s0 (State.hostCopy a0 a1).2.2 := by
  unfold State.hostCopy
  repeat' first
    | with_reducible assumption
    | with_reducible apply State.acct_stays
    | with_reducible apply State.countHost_stays
    | with_reducible apply State.copyRead_stays
    | with_reducible apply State.dmaOut_stays
    | with_reducible apply State.dmaIn_stays
    | with_reducible apply State.wrSpans_stays
    | with_reducible apply State.hifEvt_stays
    | (extract_lets +onlyGivenNames v
       first
         | (have hv : (_ → _) := v; clear hv; unfold v; clear v)
         | (refine (fun (hv : Stays ps s0 v) => ?_) ?_; rotate_left; unfold v; rotate_right)
         | (refine (fun (hv : Stays ps s0 v.2) => ?_) ?_; rotate_left; unfold v; rotate_right)
         | skip
       all_goals (try clear_value v))
    | split

theorem State.readReg_stays (a0 : State) (a1 : RegRef) (h0 : Stays ps s0 a0) (t : Nat × Nat × Bool × State) (h : (State.readReg a0 a1) = some t) [Has ps .fns] [Has ps .regs] : Stays ps s0 t.2.2.2 := by
  revert t
  intro t h
  unfold State.readReg at h
  split at h
  · split at h
    · cases h
    · injection h with h; subst h
      show Stays ps s0 (if _ then _ else _)
      split
      · exact State.setReg_stays _ _ _ h0
      · exact h0
  · injection h with h; subst h; exact State.clearPage_stays _ _ _ h0

theorem State.hostRead_stays (a0 : State) (a1 : RegRef) (h0 : Stays ps s0 a0) [Has ps .fns] [Has ps .regs] [Has ps .latch] [Has ps .out] : Stays ps s0 (State.hostRead a0 a1) := by
  unfold State.hostRead
  split
  · exact State.emit_stays _ _ h0
  next heq =>
    have ht := State.readReg_stays _ _ h0 _ heq
    dsimp only at ht ⊢
    split
    · exact State.emit_stays _ _ ht
    · split
      · refine State.emit_stays _ _ ?_
        rw [State.mk_build]
        exact Stays.upd (fun p hp => by cases p <;> first | exact absurd Has.mem hp | rfl) ht id (List.prefix_refl _) (Nat.le_refl _) (Burns.refl _)
      · split
        · exact State.emit_stays _ _ ht
        · refine State.emit_stays _ _ ?_
          rw [State.mk_build]
          exact Stays.upd (fun p hp => by cases p <;> first | exact absurd Has.mem hp | rfl) h0 id (List.prefix_refl _) (Nat.le_refl _) (Burns.refl _)

theorem State.hubBack_stays (a0 : State) (a1 : Nat) (a2 : List Byte) (h0 : Stays ps s0 a0) [Has ps .lists] [Has ps .units] [Has ps .fns] [Has ps .inf] [Has ps .front] [Has ps .fab] [Has ps .rpl] [Has ps .health] [Has ps .regs] [Has ps .out] : Stays ps s0 (State.hubBack a0 a1 a2) := by
  unfold State.hubBack
  repeat' first
    | with_reducible assumption
    | intro _
    | with_reducible apply State.endJoin_stays
    | with_reducible apply State.issueAtomic_stays
    | with_reducible apply State.stewardAnswer_stays
    | (extract_lets +onlyGivenNames v
       first
         | (refine (fun (hv : Stays ps s0 v) => ?_) ?_; rotate_left; unfold v; rotate_right)
         | skip
       all_goals (try clear_value v))
    | with_reducible exact Burns.refl _
    | with_reducible exact Nat.le_refl _
    | with_reducible exact List.prefix_refl _
    | split
    | (rw [State.mk_build]; refine Stays.upd (fun p hp => by cases p <;> first | exact absurd Has.mem hp | rfl) ?_ ?_ ?_ ?_ ?_)

theorem State.inGroup_stays (a0 : State) (a1 : Nat) (a2 : Txn) (h0 : Stays ps s0 a0) [Has ps .lists] [Has ps .units] [Has ps .fns] [Has ps .front] [Has ps .fab] [Has ps .rpl] [Has ps .regs] [Has ps .out] : Stays ps s0 (State.inGroup a0 a1 a2) := by
  unfold State.inGroup
  repeat' first
    | with_reducible assumption
    | intro _
    | with_reducible apply State.respond_stays
    | with_reducible apply State.fabEvt_stays
    | with_reducible apply State.count_stays
    | with_reducible apply State.nack_stays
    | with_reducible apply State.logIn_stays
    | with_reducible apply State.groupIn_stays
    | (extract_lets +onlyGivenNames v
       first
         | (refine (fun (hv : Stays ps s0 v) => ?_) ?_; rotate_left; unfold v; rotate_right)
         | (refine (fun (hv : Stays ps s0 v.2) => ?_) ?_; rotate_left; unfold v; rotate_right)
         | skip
       all_goals (try clear_value v))
    | with_reducible exact Burns.refl _
    | with_reducible exact Nat.le_refl _
    | with_reducible exact List.prefix_refl _
    | split
    | (rw [State.mk_build]; refine Stays.upd (fun p hp => by cases p <;> first | exact absurd Has.mem hp | rfl) ?_ ?_ ?_ ?_ ?_)

theorem State.inRow_stays (a0 : State) (a1 : Nat) (a2 : Txn) (a3 : Nat) (a4 : State) (h0 : Stays ps s0 a0) (h4 : Stays ps s0 a4) [Has ps .regs] : StaysRes ps s0 (State.inRow a0 a1 a2 a3 a4) := by
  unfold State.inRow
  repeat' first
    | with_reducible assumption
    | with_reducible exact StaysRes.ofFault
    | with_reducible apply StaysRes.ofNext
    | with_reducible apply State.skipIn_stays
    | split

theorem State.inStore_stays (a0 : State) (a1 : Nat) (a2 : Txn) (h0 : Stays ps s0 a0) [Has ps .lists] [Has ps .ctxs] [Has ps .units] [Has ps .fns] [Has ps .ports] [Has ps .acct] [Has ps .radio] [Has ps .front] [Has ps .tiers] [Has ps .fab] [Has ps .rpl] [Has ps .health] [Has ps .start] [Has ps .regs] [Has ps .mem] [Has ps .out] : Stays ps s0 (State.inStore a0 a1 a2) := by
  unfold State.inStore
  repeat' first
    | with_reducible assumption
    | with_reducible apply State.mailIn_stays
    | with_reducible apply State.inbound_stays
    | split

theorem State.vfEnable_stays (a0 : State) (a1 : Nat) (h0 : Stays ps s0 a0) [Has ps .fns] [Has ps .rpl] : Stays ps s0 (State.vfEnable a0 a1) := by
  unfold State.vfEnable
  repeat' first
    | with_reducible assumption
    | with_reducible apply State.vfStart_stays
    | with_reducible apply State.setFn_stays
    | (extract_lets +onlyGivenNames v; all_goals (try clear_value v))
    | split

theorem execFctlVfEnable_stays (a0 : Nat) (a1 : State) (h1 : Stays ps s0 a1) [Has ps .fns] [Has ps .vfs] [Has ps .rpl] [Has ps .regs] : StaysRes ps s0 (execFctlVfEnable a0 a1) := by
  unfold execFctlVfEnable
  repeat' first
    | with_reducible assumption
    | intro _
    | with_reducible exact StaysRes.ofFault
    | with_reducible apply StaysRes.ofNext
    | with_reducible apply State.fctl_stays
    | with_reducible apply State.vfEnable_stays
    | split

theorem State.vfDisable_stays (a0 : State) (a1 : Nat) (a2 : Bool) (h0 : Stays ps s0 a0) [Has ps .lists] [Has ps .ctxs] [Has ps .units] [Has ps .fns] [Has ps .ports] [Has ps .mat] [Has ps .inf] [Has ps .chm] [Has ps .radio] [Has ps .front] [Has ps .tiers] [Has ps .fab] [Has ps .rpl] [Has ps .health] [Has ps .start] [Has ps .regs] [Has ps .out] : Stays ps s0 (State.vfDisable a0 a1 a2) := by
  unfold State.vfDisable
  repeat' first
    | with_reducible assumption
    | with_reducible apply State.vfStop_stays
    | with_reducible apply State.setFn_stays
    | (extract_lets +onlyGivenNames v; all_goals (try clear_value v))
    | split

theorem execFctlVfDisable_stays (a0 : Nat) (a1 : State) (h1 : Stays ps s0 a1) [Has ps .lists] [Has ps .ctxs] [Has ps .units] [Has ps .fns] [Has ps .vfs] [Has ps .ports] [Has ps .mat] [Has ps .inf] [Has ps .chm] [Has ps .radio] [Has ps .front] [Has ps .tiers] [Has ps .fab] [Has ps .rpl] [Has ps .health] [Has ps .start] [Has ps .regs] [Has ps .out] : StaysRes ps s0 (execFctlVfDisable a0 a1) := by
  unfold execFctlVfDisable
  repeat' first
    | with_reducible assumption
    | intro _
    | with_reducible exact StaysRes.ofFault
    | with_reducible apply StaysRes.ofNext
    | with_reducible apply State.fctl_stays
    | with_reducible apply State.vfDisable_stays
    | split

theorem State.unitEnable_stays (a0 : State) (a1 : Nat) (h0 : Stays ps s0 a0) [Has ps .units] [Has ps .fns] [Has ps .health] [Has ps .start] [Has ps .regs] : Stays ps s0 (State.unitEnable a0 a1) := by
  unfold State.unitEnable
  repeat' first
    | with_reducible assumption
    | intro _
    | with_reducible apply State.setUnit_stays
    | with_reducible apply State.settleUnit_stays
    | with_reducible apply State.redev_stays
    | with_reducible apply State.hltEvt_stays
    | with_reducible apply State.healthLog_stays
    | (extract_lets +onlyGivenNames v
       first
         | (refine (fun (hv : Stays ps s0 v) => ?_) ?_; rotate_left; unfold v; rotate_right)
         | skip
       all_goals (try clear_value v))
    | with_reducible exact Burns.refl _
    | with_reducible exact Nat.le_refl _
    | with_reducible exact List.prefix_refl _
    | split
    | (rw [State.mk_build]; refine Stays.upd (fun p hp => by cases p <;> first | exact absurd Has.mem hp | rfl) ?_ ?_ ?_ ?_ ?_)

theorem execFctlUnitEnable_stays (a0 : Nat) (a1 : State) (h1 : Stays ps s0 a1) [Has ps .units] [Has ps .fns] [Has ps .vfs] [Has ps .rpl] [Has ps .health] [Has ps .start] [Has ps .regs] : StaysRes ps s0 (execFctlUnitEnable a0 a1) := by
  unfold execFctlUnitEnable
  repeat' first
    | with_reducible assumption
    | intro _
    | with_reducible exact StaysRes.ofFault
    | with_reducible apply StaysRes.ofNext
    | with_reducible apply State.fctl_stays
    | with_reducible apply State.unitEnable_stays
    | split

theorem State.unitDisable_stays (a0 : State) (a1 : Nat) (h0 : Stays ps s0 a0) [Has ps .units] : Stays ps s0 (State.unitDisable a0 a1) := by
  unfold State.unitDisable
  repeat' first
    | with_reducible assumption
    | with_reducible apply State.settleUnit_stays
    | with_reducible apply State.setUnit_stays
    | (extract_lets +onlyGivenNames v; all_goals (try clear_value v))
    | split

theorem execFctlUnitDisable_stays (a0 : Nat) (a1 : State) (h1 : Stays ps s0 a1) [Has ps .units] [Has ps .fns] [Has ps .vfs] [Has ps .rpl] [Has ps .regs] : StaysRes ps s0 (execFctlUnitDisable a0 a1) := by
  unfold execFctlUnitDisable
  repeat' first
    | with_reducible assumption
    | intro _
    | with_reducible exact StaysRes.ofFault
    | with_reducible apply StaysRes.ofNext
    | with_reducible apply State.fctl_stays
    | with_reducible apply State.unitDisable_stays
    | (extract_lets +onlyGivenNames v; all_goals (try clear_value v))
    | split

theorem execFctlFhPortEnable_stays (a0 : Nat) (a1 : State) (h1 : Stays ps s0 a1) [Has ps .fns] [Has ps .vfs] [Has ps .ports] [Has ps .rpl] [Has ps .regs] : StaysRes ps s0 (execFctlFhPortEnable a0 a1) := by
  unfold execFctlFhPortEnable
  repeat' first
    | with_reducible assumption
    | intro _
    | with_reducible exact StaysRes.ofFault
    | with_reducible apply StaysRes.ofNext
    | with_reducible apply State.fctl_stays
    | with_reducible apply State.fhEnable_stays
    | split

theorem execFctlFhPortDisable_stays (a0 : Nat) (a1 : State) (h1 : Stays ps s0 a1) [Has ps .fns] [Has ps .vfs] [Has ps .ports] [Has ps .rpl] [Has ps .regs] : StaysRes ps s0 (execFctlFhPortDisable a0 a1) := by
  unfold execFctlFhPortDisable
  repeat' first
    | with_reducible assumption
    | intro _
    | with_reducible exact StaysRes.ofFault
    | with_reducible apply StaysRes.ofNext
    | with_reducible apply State.fctl_stays
    | with_reducible apply State.fhDisable_stays
    | (extract_lets +onlyGivenNames v; all_goals (try clear_value v))
    | split

theorem execFctlFabPortEnable_stays (a0 : Nat) (a1 : State) (h1 : Stays ps s0 a1) [Has ps .fns] [Has ps .vfs] [Has ps .ports] [Has ps .rpl] [Has ps .regs] : StaysRes ps s0 (execFctlFabPortEnable a0 a1) := by
  unfold execFctlFabPortEnable
  repeat' first
    | with_reducible assumption
    | intro _
    | with_reducible exact StaysRes.ofFault
    | with_reducible apply StaysRes.ofNext
    | with_reducible apply State.fctl_stays
    | with_reducible apply State.fabEnable_stays
    | split

theorem execFctlFabPortDisable_stays (a0 : Nat) (a1 : State) (h1 : Stays ps s0 a1) [Has ps .lists] [Has ps .units] [Has ps .fns] [Has ps .vfs] [Has ps .ports] [Has ps .front] [Has ps .fab] [Has ps .rpl] [Has ps .regs] [Has ps .out] : StaysRes ps s0 (execFctlFabPortDisable a0 a1) := by
  unfold execFctlFabPortDisable
  repeat' first
    | with_reducible assumption
    | intro _
    | with_reducible exact StaysRes.ofFault
    | with_reducible apply StaysRes.ofNext
    | with_reducible apply State.fctl_stays
    | with_reducible apply State.fabDisable_stays
    | split

theorem execRatcInsert_stays (a0 : State) (h0 : Stays ps s0 a0) [Has ps .fns] [Has ps .fab] [Has ps .rpl] [Has ps .regs] : StaysRes ps s0 (execRatcInsert a0) := by
  unfold execRatcInsert
  repeat' first
    | with_reducible assumption
    | intro _
    | with_reducible apply StaysRes.ofNext
    | with_reducible apply State.bar2_stays
    | with_reducible apply State.setReg_stays
    | (extract_lets +onlyGivenNames v
       first
         | (have hv : (_ → _) := v; clear hv; unfold v; clear v)
         | skip
       all_goals (try clear_value v))
    | with_reducible exact Burns.refl _
    | with_reducible exact Nat.le_refl _
    | with_reducible exact List.prefix_refl _
    | split
    | (rw [State.mk_build]; refine Stays.upd (fun p hp => by cases p <;> first | exact absurd Has.mem hp | rfl) ?_ ?_ ?_ ?_ ?_)

theorem execRatcRemove_stays (a0 : State) (h0 : Stays ps s0 a0) [Has ps .fns] [Has ps .fab] [Has ps .rpl] [Has ps .regs] : StaysRes ps s0 (execRatcRemove a0) := by
  unfold execRatcRemove
  repeat' first
    | with_reducible assumption
    | intro _
    | with_reducible apply StaysRes.ofNext
    | with_reducible apply State.bar2_stays
    | with_reducible apply State.setReg_stays
    | (extract_lets +onlyGivenNames v; all_goals (try clear_value v))
    | with_reducible exact Burns.refl _
    | with_reducible exact Nat.le_refl _
    | with_reducible exact List.prefix_refl _
    | split
    | (rw [State.mk_build]; refine Stays.upd (fun p hp => by cases p <;> first | exact absurd Has.mem hp | rfl) ?_ ?_ ?_ ?_ ?_)

theorem execRatcRead_stays (a0 : State) (h0 : Stays ps s0 a0) [Has ps .fns] [Has ps .rpl] [Has ps .regs] : StaysRes ps s0 (execRatcRead a0) := by
  unfold execRatcRead
  repeat' first
    | with_reducible assumption
    | intro _
    | with_reducible apply StaysRes.ofNext
    | with_reducible apply State.bar2_stays
    | with_reducible apply State.setReg_stays

theorem execExpel_stays (a0 : State) (h0 : Stays ps s0 a0) [Has ps .fns] [Has ps .front] [Has ps .fab] [Has ps .rpl] [Has ps .health] [Has ps .start] [Has ps .regs] [Has ps .out] : StaysRes ps s0 (execExpel a0) := by
  unfold execExpel
  repeat' first
    | with_reducible assumption
    | intro _
    | with_reducible apply StaysRes.ofNext
    | with_reducible apply State.hltCmd_stays
    | with_reducible apply State.requestExpel_stays

theorem execUnfence_stays (a0 : State) (h0 : Stays ps s0 a0) [Has ps .ctxs] [Has ps .fns] [Has ps .inf] [Has ps .radio] [Has ps .rpl] [Has ps .health] [Has ps .start] [Has ps .regs] : StaysRes ps s0 (execUnfence a0) := by
  unfold execUnfence
  repeat' first
    | with_reducible assumption
    | intro _
    | with_reducible apply StaysRes.ofNext
    | with_reducible apply State.hltCmd_stays
    | with_reducible apply State.unfence_stays

theorem execShadowStart_stays (a0 : State) (h0 : Stays ps s0 a0) [Has ps .fns] [Has ps .rpl] [Has ps .health] [Has ps .regs] : StaysRes ps s0 (execShadowStart a0) := by
  unfold execShadowStart
  repeat' first
    | with_reducible assumption
    | intro _
    | with_reducible apply StaysRes.ofNext
    | with_reducible apply State.hltCmd_stays
    | (extract_lets +onlyGivenNames v; all_goals (try clear_value v))
    | with_reducible exact Burns.refl _
    | with_reducible exact Nat.le_refl _
    | with_reducible exact List.prefix_refl _
    | (rw [State.mk_build]; refine Stays.upd (fun p hp => by cases p <;> first | exact absurd Has.mem hp | rfl) ?_ ?_ ?_ ?_ ?_)

theorem execShadowStop_stays (a0 : State) (h0 : Stays ps s0 a0) [Has ps .fns] [Has ps .rpl] [Has ps .health] [Has ps .regs] : StaysRes ps s0 (execShadowStop a0) := by
  unfold execShadowStop
  repeat' first
    | with_reducible assumption
    | intro _
    | with_reducible apply StaysRes.ofNext
    | with_reducible apply State.hltCmd_stays
    | (extract_lets +onlyGivenNames v; all_goals (try clear_value v))
    | with_reducible exact Burns.refl _
    | with_reducible exact Nat.le_refl _
    | with_reducible exact List.prefix_refl _
    | (rw [State.mk_build]; refine Stays.upd (fun p hp => by cases p <;> first | exact absurd Has.mem hp | rfl) ?_ ?_ ?_ ?_ ?_)

theorem execHltLogAck_stays (a0 : Nat) (a1 : State) (h1 : Stays ps s0 a1) [Has ps .fns] [Has ps .rpl] [Has ps .regs] : StaysRes ps s0 (execHltLogAck a0 a1) := by
  unfold execHltLogAck
  repeat' first
    | with_reducible assumption
    | intro _
    | with_reducible apply StaysRes.ofNext
    | with_reducible apply State.bar2_stays
    | with_reducible apply State.setReg_stays

theorem execMemLogAck_stays (a0 : Nat) (a1 : State) (h1 : Stays ps s0 a1) [Has ps .fns] [Has ps .rpl] [Has ps .regs] : StaysRes ps s0 (execMemLogAck a0 a1) := by
  unfold execMemLogAck
  repeat' first
    | with_reducible assumption
    | intro _
    | with_reducible apply StaysRes.ofNext
    | with_reducible apply State.bar2_stays
    | with_reducible apply State.setReg_stays

theorem State.writeRow_stays (a0 : State) (a1 : RegRow) (a2 : Nat) (a3 : Nat) (a4 : Nat) (a5 : Bool) (h0 : Stays ps s0 a0) [Has ps .regs] : Stays ps s0 (State.writeRow a0 a1 a2 a3 a4 a5) := by
  unfold State.writeRow
  repeat' first
    | with_reducible assumption
    | with_reducible apply State.setReg_stays
    | split

theorem State.logCtl_stays (a0 : State) (a1 : Nat) (a2 : Nat) (h0 : Stays ps s0 a0) [Has ps .fns] [Has ps .rpl] [Has ps .regs] : Stays ps s0 (State.logCtl a0 a1 a2) := by
  unfold State.logCtl
  repeat' first
    | with_reducible assumption
    | with_reducible apply State.logIn_stays

theorem execVfEnableSet_stays (a0 : State) (h0 : Stays ps s0 a0) [Has ps .fns] [Has ps .vfs] [Has ps .rpl] [Has ps .regs] : StaysRes ps s0 (execVfEnableSet a0) := by
  unfold execVfEnableSet
  repeat' first
    | with_reducible assumption
    | intro _
    | with_reducible apply StaysRes.ofNext
    | with_reducible apply State.logCtl_stays
    | with_reducible apply State.vfEnable_stays
    | (extract_lets +onlyGivenNames v
       first
         | (have hv : HostIf := v; clear hv; unfold v; clear v)
         | (refine (fun (hv : Stays ps s0 v) => ?_) ?_; rotate_left; unfold v; rotate_right)
         | skip
       all_goals (try clear_value v))
    | with_reducible apply Stays.foldl
    | with_reducible exact Burns.refl _
    | with_reducible exact Nat.le_refl _
    | with_reducible exact List.prefix_refl _
    | split
    | (rw [State.mk_build]; refine Stays.upd (fun p hp => by cases p <;> first | exact absurd Has.mem hp | rfl) ?_ ?_ ?_ ?_ ?_)

theorem execVfEnableClear_stays (a0 : State) (h0 : Stays ps s0 a0) [Has ps .lists] [Has ps .ctxs] [Has ps .units] [Has ps .fns] [Has ps .vfs] [Has ps .ports] [Has ps .mat] [Has ps .inf] [Has ps .chm] [Has ps .radio] [Has ps .front] [Has ps .tiers] [Has ps .fab] [Has ps .rpl] [Has ps .health] [Has ps .start] [Has ps .regs] [Has ps .out] : StaysRes ps s0 (execVfEnableClear a0) := by
  unfold execVfEnableClear
  repeat' first
    | with_reducible assumption
    | intro _
    | with_reducible apply StaysRes.ofNext
    | with_reducible apply State.logCtl_stays
    | with_reducible apply State.vfDisable_stays
    | (extract_lets +onlyGivenNames v
       first
         | (have hv : HostIf := v; clear hv; unfold v; clear v)
         | skip
       all_goals (try clear_value v))
    | with_reducible apply Stays.foldl
    | with_reducible exact Burns.refl _
    | with_reducible exact Nat.le_refl _
    | with_reducible exact List.prefix_refl _
    | (rw [State.mk_build]; refine Stays.upd (fun p hp => by cases p <;> first | exact absurd Has.mem hp | rfl) ?_ ?_ ?_ ?_ ?_)

theorem State.qpDisable_stays (a0 : State) (a1 : Nat) (a2 : Nat) (h0 : Stays ps s0 a0) [Has ps .fns] [Has ps .inf] [Has ps .regs] : Stays ps s0 (State.qpDisable a0 a1 a2) := by
  unfold State.qpDisable
  repeat' first
    | with_reducible assumption
    | with_reducible apply State.dropRecs_stays
    | with_reducible apply State.setQp_stays
    | with_reducible apply State.count_stays
    | (extract_lets +onlyGivenNames v
       first
         | (refine (fun (hv : Stays ps s0 v.2) => ?_) ?_; rotate_left; unfold v; rotate_right)
         | skip
       all_goals (try clear_value v))
    | split

theorem execFlr_stays (a0 : Nat) (a1 : State) (h1 : Stays ps s0 a1) [Has ps .lists] [Has ps .ctxs] [Has ps .units] [Has ps .fns] [Has ps .ports] [Has ps .mat] [Has ps .inf] [Has ps .chm] [Has ps .radio] [Has ps .front] [Has ps .tiers] [Has ps .fab] [Has ps .rpl] [Has ps .health] [Has ps .start] [Has ps .regs] [Has ps .out] : StaysRes ps s0 (execFlr a0 a1) := by
  unfold execFlr
  repeat' first
    | with_reducible assumption
    | intro _
    | with_reducible exact StaysRes.ofFault
    | with_reducible apply StaysRes.ofNext
    | with_reducible apply State.logCtl_stays
    | with_reducible apply State.qpDisable_stays
    | with_reducible apply State.vfEnable_stays
    | with_reducible apply State.vfDisable_stays
    | with_reducible apply State.hifEvt_stays
    | (extract_lets +onlyGivenNames v
       first
         | (refine (fun (hv : Stays ps s0 v) => ?_) ?_; rotate_left; unfold v; rotate_right)
         | skip
       all_goals (try clear_value v))
    | with_reducible apply Stays.foldl
    | split

theorem execNumvfsWrite_stays (a0 : Nat) (a1 : State) (h1 : Stays ps s0 a1) [Has ps .lists] [Has ps .ctxs] [Has ps .units] [Has ps .fns] [Has ps .vfs] [Has ps .ports] [Has ps .mat] [Has ps .inf] [Has ps .chm] [Has ps .radio] [Has ps .front] [Has ps .tiers] [Has ps .fab] [Has ps .rpl] [Has ps .health] [Has ps .start] [Has ps .regs] [Has ps .out] : StaysRes ps s0 (execNumvfsWrite a0 a1) := by
  unfold execNumvfsWrite
  repeat' first
    | with_reducible assumption
    | intro _
    | with_reducible apply StaysRes.ofNext
    | with_reducible apply State.logCtl_stays
    | with_reducible apply State.vfDisable_stays
    | (extract_lets +onlyGivenNames v
       first
         | (have hv : HostIf := v; clear hv; unfold v; clear v)
         | (refine (fun (hv : Stays ps s0 v) => ?_) ?_; rotate_left; unfold v; rotate_right)
         | skip
       all_goals (try clear_value v))
    | with_reducible apply Stays.foldl
    | with_reducible exact Burns.refl _
    | with_reducible exact Nat.le_refl _
    | with_reducible exact List.prefix_refl _
    | split
    | (rw [State.mk_build]; refine Stays.upd (fun p hp => by cases p <;> first | exact absurd Has.mem hp | rfl) ?_ ?_ ?_ ?_ ?_)

theorem State.ringTake_stays (a0 : State) (a1 : Nat) (a2 : Nat) (a3 : Nat) (a4 : Nat) (h0 : Stays ps s0 a0) [Has ps .ctxs] [Has ps .fns] [Has ps .radio] [Has ps .front] [Has ps .tiers] [Has ps .fab] [Has ps .rpl] [Has ps .health] [Has ps .regs] [Has ps .mem] [Has ps .out] : Stays ps s0 (State.ringTake a0 a1 a2 a3 a4) := by
  induction a4 generalizing a0 a1 a2 a3 with
  | zero =>
    unfold State.ringTake
    repeat' first
      | with_reducible assumption
  | succ n ih =>
    unfold State.ringTake
    repeat' first
      | with_reducible assumption
      | with_reducible apply ih
      | with_reducible apply State.wrSpans_stays
      | with_reducible apply State.ssiAccept_stays
      | (extract_lets +onlyGivenNames v
         first
           | (have hv : (_ → _) := v; clear hv; unfold v; clear v)
           | (refine (fun (hv : Stays ps s0 v) => ?_) ?_; rotate_left; unfold v; rotate_right)
           | skip
         all_goals (try clear_value v))
      | split

theorem State.ringsIn_stays (a0 : State) (h0 : Stays ps s0 a0) [Has ps .ctxs] [Has ps .fns] [Has ps .radio] [Has ps .front] [Has ps .tiers] [Has ps .fab] [Has ps .rpl] [Has ps .health] [Has ps .regs] [Has ps .mem] [Has ps .out] : Stays ps s0 (State.ringsIn a0) := by
  unfold State.ringsIn
  repeat' first
    | with_reducible assumption
    | intro _
    | with_reducible apply State.ringTake_stays
    | (extract_lets +onlyGivenNames v; all_goals (try clear_value v))
    | with_reducible apply Stays.foldl
    | split

theorem State.qpStart_stays (a0 : State) (a1 : Nat) (a2 : Nat) (h0 : Stays ps s0 a0) [Has ps .fns] : Stays ps s0 (State.qpStart a0 a1 a2) := by
  unfold State.qpStart
  repeat' first
    | with_reducible assumption
    | with_reducible apply State.setQp_stays
    | (extract_lets +onlyGivenNames v; all_goals (try clear_value v))
    | split

theorem State.qpEnable_stays (a0 : State) (a1 : Nat) (a2 : Nat) (h0 : Stays ps s0 a0) [Has ps .fns] : Stays ps s0 (State.qpEnable a0 a1 a2) := by
  unfold State.qpEnable
  repeat' first
    | with_reducible assumption
    | with_reducible apply State.qpStart_stays
    | with_reducible apply State.setQp_stays
    | (extract_lets +onlyGivenNames v; all_goals (try clear_value v))
    | split

theorem State.writePair_stays (a0 : State) (a1 : Nat) (a2 : Nat) (a3 : Nat) (a4 : Nat) (h0 : Stays ps s0 a0) [Has ps .fns] [Has ps .inf] [Has ps .regs] : Stays ps s0 (State.writePair a0 a1 a2 a3 a4) := by
  unfold State.writePair
  repeat' first
    | with_reducible assumption
    | with_reducible apply State.setQp_stays
    | with_reducible apply State.qpEnable_stays
    | with_reducible apply State.qpDisable_stays
    | (extract_lets +onlyGivenNames v
       first
         | (refine (fun (hv : Stays ps s0 v) => ?_) ?_; rotate_left; unfold v; rotate_right)
         | skip
       all_goals (try clear_value v))
    | split

theorem State.unmask_stays (a0 : State) (a1 : Nat) (a2 : Nat) (h0 : Stays ps s0 a0) [Has ps .fns] [Has ps .out] : Stays ps s0 (State.unmask a0 a1 a2) := by
  unfold State.unmask
  repeat' first
    | with_reducible assumption
    | with_reducible apply State.setFn_stays
    | with_reducible apply State.emit_stays
    | (extract_lets +onlyGivenNames v
       first
         | (refine (fun (hv : Stays ps s0 v) => ?_) ?_; rotate_left; unfold v; rotate_right)
         | skip
       all_goals (try clear_value v))
    | split

theorem State.writePage_stays (a0 : State) (a1 : Nat) (a2 : Nat) (a3 : Nat) (h0 : Stays ps s0 a0) [Has ps .fns] [Has ps .inf] [Has ps .regs] [Has ps .out] : Stays ps s0 (State.writePage a0 a1 a2 a3) := by
  unfold State.writePage
  repeat' first
    | with_reducible assumption
    | with_reducible apply State.attnClear_stays
    | with_reducible apply State.setFn_stays
    | with_reducible apply State.writePair_stays
    | with_reducible apply State.unmask_stays
    | (extract_lets +onlyGivenNames v; all_goals (try clear_value v))
    | split

theorem State.writePageHalf_stays (a0 : State) (a1 : Nat) (a2 : Nat) (a3 : Nat) (a4 : Nat) (h0 : Stays ps s0 a0) [Has ps .fns] [Has ps .inf] [Has ps .regs] [Has ps .out] : Stays ps s0 (State.writePageHalf a0 a1 a2 a3 a4) := by
  unfold State.writePageHalf
  repeat' first
    | with_reducible assumption
    | with_reducible apply State.writePage_stays

theorem execApertureWrite_stays (a0 : Nat) (a1 : Nat) (a2 : List Byte) (a3 : State) (h3 : Stays ps s0 a3) [Has ps .fns] [Has ps .acct] [Has ps .tiers] [Has ps .rpl] [Has ps .regs] [Has ps .mem] : StaysRes ps s0 (execApertureWrite a0 a1 a2 a3) := by
  unfold execApertureWrite
  repeat' first
    | with_reducible assumption
    | with_reducible exact StaysRes.ofFault
    | with_reducible apply StaysRes.ofNext
    | with_reducible apply State.logIn_stays
    | with_reducible apply State.apErr_stays
    | with_reducible apply State.wrSpans_stays
    | with_reducible apply State.countHost_stays
    | (extract_lets +onlyGivenNames v
       first
         | (refine (fun (hv : Stays ps s0 v) => ?_) ?_; rotate_left; unfold v; rotate_right)
         | skip
       all_goals (try clear_value v))
    | split

theorem State.nacked_stays (a0 : State) (a1 : Req) (a2 : Txn) (h0 : Stays ps s0 a0) [Has ps .lists] [Has ps .units] [Has ps .fns] [Has ps .front] [Has ps .fab] [Has ps .rpl] [Has ps .regs] [Has ps .out] [Has ps .drawn] : Stays ps s0 (State.nacked a0 a1 a2) := by
  unfold State.nacked
  repeat' first
    | with_reducible assumption
    | intro _
    | with_reducible apply State.count_stays
    | with_reducible apply State.abandon_stays
    | with_reducible apply State.setReq_stays
    | (extract_lets +onlyGivenNames v
       first
         | (refine (fun (hv : Stays ps s0 v) => ?_) ?_; rotate_left; unfold v; rotate_right)
         | skip
       all_goals (try clear_value v))
    | with_reducible exact Burns.refl _
    | with_reducible exact Nat.le_succ _
    | with_reducible exact List.prefix_refl _
    | split
    | (rw [State.mk_build]; refine Stays.upd (fun p hp => by cases p <;> first | exact absurd Has.mem hp | rfl) ?_ ?_ ?_ ?_ ?_)

theorem State.unknown_stays (a0 : State) (a1 : Req) (h0 : Stays ps s0 a0) [Has ps .lists] [Has ps .units] [Has ps .fns] [Has ps .front] [Has ps .fab] [Has ps .rpl] [Has ps .regs] [Has ps .out] : Stays ps s0 (State.unknown a0 a1) := by
  unfold State.unknown
  repeat' first
    | with_reducible assumption
    | with_reducible apply State.endReq_stays
    | with_reducible apply State.fabEvt_stays
    | with_reducible apply State.count_stays

theorem State.reqDone_stays (a0 : State) (a1 : Req) (a2 : Txn) (h0 : Stays ps s0 a0) [Has ps .lists] [Has ps .cyclic] [Has ps .ctxs] [Has ps .units] [Has ps .fns] [Has ps .ports] [Has ps .acct] [Has ps .inf] [Has ps .radio] [Has ps .front] [Has ps .tiers] [Has ps .fab] [Has ps .rpl] [Has ps .health] [Has ps .start] [Has ps .regs] [Has ps .mem] [Has ps .out] : Stays ps s0 (State.reqDone a0 a1 a2) := by
  unfold State.reqDone
  repeat' first
    | with_reducible assumption
    | with_reducible apply State.dropReq_stays
    | with_reducible apply State.countIn_stays
    | with_reducible apply State.tileBack_stays
    | with_reducible apply State.handleBack_stays
    | with_reducible apply State.atomicBack_stays
    | with_reducible apply State.hubBack_stays
    | (extract_lets +onlyGivenNames v; refine (fun (hv : Stays ps s0 v) => ?_) ?_; rotate_left; unfold v; rotate_right; all_goals (try clear_value v))
    | split

theorem State.respIn_stays (a0 : State) (a1 : Req) (a2 : Txn) (h0 : Stays ps s0 a0) [Has ps .lists] [Has ps .cyclic] [Has ps .ctxs] [Has ps .units] [Has ps .fns] [Has ps .ports] [Has ps .acct] [Has ps .inf] [Has ps .radio] [Has ps .front] [Has ps .tiers] [Has ps .fab] [Has ps .rpl] [Has ps .health] [Has ps .start] [Has ps .regs] [Has ps .mem] [Has ps .out] [Has ps .drawn] : Stays ps s0 (State.respIn a0 a1 a2) := by
  unfold State.respIn
  repeat' first
    | with_reducible assumption
    | with_reducible apply State.nacked_stays
    | with_reducible apply State.unknown_stays
    | with_reducible apply State.endReq_stays
    | with_reducible apply State.reqDone_stays
    | split

theorem State.refuseSubmit_stays (a0 : State) (a1 : Report) (a2 : Nat) (a3 : Nat) (a4 : DWord) (h0 : Stays ps s0 a0) [Has ps .fns] [Has ps .regs] : Stays ps s0 (State.refuseSubmit a0 a1 a2 a3 a4) := by
  unfold State.refuseSubmit
  repeat' first
    | with_reducible assumption
    | with_reducible apply State.post_stays
    | split

theorem State.listSubmit_stays (a0 : Svc) (h0 : Stays ps s0 a0.st) [Has ps .lists] [Has ps .ctxs] [Has ps .units] [Has ps .fns] [Has ps .ports] [Has ps .radio] [Has ps .front] [Has ps .tiers] [Has ps .fab] [Has ps .rpl] [Has ps .health] [Has ps .start] [Has ps .regs] [Has ps .out] : Stays ps s0 (State.listSubmit a0) := by
  unfold State.listSubmit
  repeat' first
    | with_reducible assumption
    | with_reducible apply State.refuseSubmit_stays
    | with_reducible apply State.admitList_stays
    | with_reducible apply State.queueList_stays
    | (extract_lets +onlyGivenNames v
       first
         | (refine (fun (hv : Stays ps s0 v.2) => ?_) ?_; rotate_left; unfold v; rotate_right)
         | skip
       all_goals (try clear_value v))
    | split
    | refine Stays.of_pair2 (by assumption) ?_

theorem State.popToken_stays (a0 : State) (a1 : Sequence) (h0 : Stays ps s0 a0) [Has ps .inf] : Stays ps s0 (State.popToken a0 a1) := by
  unfold State.popToken
  repeat' first
    | with_reducible assumption
    | with_reducible apply State.dropSeq_stays
    | with_reducible apply State.setSeq_stays
    | (extract_lets +onlyGivenNames v; all_goals (try clear_value v))
    | split

theorem State.nextRec_stays (a0 : State) (a1 : Nat) (a2 : Nat) (h0 : Stays ps s0 a0) (t : Rec × State) (h : (State.nextRec a0 a1 a2) = some t) [Has ps .fns] [Has ps .inf] : Stays ps s0 t.2 := by
  revert t
  intro t h
  unfold State.nextRec at h
  extract_lets x at h
  split at h
  · injection h with h; subst h; exact State.setQp_stays _ _ _ _ h0
  · split at h
    · cases h
    · split at h
      · cases h
      · injection h with h; subst h; exact State.popToken_stays _ _ h0

theorem State.ownWork_stays (a0 : State) (a1 : Nat) (h0 : Stays ps s0 a0) [Has ps .inf] [Has ps .health] : Stays ps s0 (State.ownWork a0 a1) := by
  unfold State.ownWork
  repeat' first
    | with_reducible assumption
    | intro _
    | with_reducible apply State.setModel_stays
    | (extract_lets +onlyGivenNames v
       first
         | (refine (fun (hv : Stays ps s0 v) => ?_) ?_; rotate_left; unfold v; rotate_right)
         | skip
       all_goals (try clear_value v))
    | with_reducible apply Stays.foldl
    | with_reducible exact Burns.refl _
    | with_reducible exact Nat.le_refl _
    | with_reducible exact List.prefix_refl _
    | split
    | (rw [State.mk_build]; refine Stays.upd (fun p hp => by cases p <;> first | exact absurd Has.mem hp | rfl) ?_ ?_ ?_ ?_ ?_)

theorem State.page0_stays (a0 : State) (a1 : Nat) (a2 : Nat) (a3 : Nat) (a4 : Nat) (a5 : State → State) (h0 : Stays ps s0 a0) (h5 : ∀ u, Stays ps s0 u → Stays ps s0 (a5 u)) [Has ps .fns] [Has ps .rpl] [Has ps .regs] : Stays ps s0 (State.page0 a0 a1 a2 a3 a4 a5) := by
  unfold State.page0
  repeat' first
    | with_reducible assumption
    | intro _
    | with_reducible apply State.logIn_stays
    | with_reducible apply h5
    | (extract_lets +onlyGivenNames v; all_goals (try clear_value v))
    | with_reducible exact Burns.refl _
    | with_reducible exact Nat.le_refl _
    | with_reducible exact List.prefix_refl _
    | (rw [State.mk_build]; refine Stays.upd (fun p hp => by cases p <;> first | exact absurd Has.mem hp | rfl) ?_ ?_ ?_ ?_ ?_)

theorem State.partnerLost_stays (a0 : State) (h0 : Stays ps s0 a0) [Has ps .fns] [Has ps .health] [Has ps .start] [Has ps .regs] : Stays ps s0 (State.partnerLost a0) := by
  unfold State.partnerLost
  repeat' first
    | with_reducible assumption
    | intro _
    | with_reducible apply State.redev_stays
    | with_reducible apply State.hltEvt_stays
    | with_reducible apply State.healthLog_stays
    | (extract_lets +onlyGivenNames v
       first
         | (refine (fun (hv : Stays ps s0 v) => ?_) ?_; rotate_left; unfold v; rotate_right)
         | skip
       all_goals (try clear_value v))
    | with_reducible exact Burns.refl _
    | with_reducible exact Nat.le_refl _
    | with_reducible exact List.prefix_refl _
    | split
    | (rw [State.mk_build]; refine Stays.upd (fun p hp => by cases p <;> first | exact absurd Has.mem hp | rfl) ?_ ?_ ?_ ?_ ?_)

theorem State.powerBase_stays (a0 : State) (h0 : Stays ps s0 a0) [Has ps .power] : Stays ps s0 (State.powerBase a0) := by
  unfold State.powerBase
  repeat' first
    | with_reducible assumption
    | intro _
    | with_reducible apply State.setP_stays
    | with_reducible apply State.setHold_stays
    | (extract_lets +onlyGivenNames v; all_goals (try clear_value v))
    | with_reducible apply Stays.foldl
    | split

theorem State.stepped_stays (a0 : State) (a1 : Nat) (h0 : Stays ps s0 a0) [Has ps .fns] [Has ps .regs] : Stays ps s0 (State.stepped a0 a1) := by
  unfold State.stepped
  repeat' first
    | with_reducible assumption
    | with_reducible apply State.thrEvt_stays
    | with_reducible apply State.count_stays

theorem State.powerDown_stays (a0 : State) (h0 : Stays ps s0 a0) [Has ps .fns] [Has ps .power] [Has ps .regs] : Stays ps s0 (State.powerDown a0) := by
  unfold State.powerDown
  repeat' first
    | with_reducible assumption
    | with_reducible apply State.stepped_stays
    | with_reducible apply State.setP_stays
    | with_reducible apply State.thrEvt_stays
    | with_reducible apply State.setHold_stays
    | split

theorem State.powerUp_stays (a0 : State) (h0 : Stays ps s0 a0) [Has ps .power] : Stays ps s0 (State.powerUp a0) := by
  unfold State.powerUp
  repeat' first
    | with_reducible assumption
    | with_reducible apply State.setHold_stays
    | with_reducible apply State.setP_stays
    | split

theorem State.recOut_stays (a0 : State) (a1 : Nat) (a2 : Nat) (a3 : Rec) (a4 : Bool) (h0 : Stays ps s0 a0) [Has ps .fns] [Has ps .rpl] [Has ps .regs] : Stays ps s0 (State.recOut a0 a1 a2 a3 a4) := by
  unfold State.recOut
  repeat' first
    | with_reducible assumption
    | with_reducible apply State.output_stays
    | with_reducible apply State.occur_stays
    | (extract_lets +onlyGivenNames v
       first
         | (refine (fun (hv : Stays ps s0 v.2) => ?_) ?_; rotate_left; unfold v; rotate_right)
         | skip
       all_goals (try clear_value v))
    | split

theorem State.putCq_stays (a0 : State) (a1 : Nat) (a2 : Nat) (a3 : Rec) (h0 : Stays ps s0 a0) [Has ps .fns] [Has ps .rpl] [Has ps .regs] [Has ps .out] : Stays ps s0 (State.putCq a0 a1 a2 a3) := by
  unfold State.putCq
  repeat' first
    | with_reducible assumption
    | with_reducible apply State.setQp_stays
    | with_reducible apply State.recOut_stays
    | with_reducible apply State.emit_stays

theorem State.recovered_stays (a0 : State) (a1 : Nat) (h0 : Stays ps s0 a0) [Has ps .fns] [Has ps .health] [Has ps .start] [Has ps .regs] : Stays ps s0 (State.recovered a0 a1) := by
  unfold State.recovered
  repeat' first
    | with_reducible assumption
    | intro _
    | with_reducible apply State.redev_stays
    | with_reducible apply State.hltEvt_stays
    | with_reducible apply State.healthLog_stays
    | (extract_lets +onlyGivenNames v
       first
         | (have hv : (_ → _) := v; clear hv; unfold v; clear v)
         | (refine (fun (hv : Stays ps s0 v) => ?_) ?_; rotate_left; unfold v; rotate_right)
         | skip
       all_goals (try clear_value v))
    | with_reducible exact Burns.refl _
    | with_reducible exact Nat.le_refl _
    | with_reducible exact List.prefix_refl _
    | split
    | (rw [State.mk_build]; refine Stays.upd (fun p hp => by cases p <;> first | exact absurd Has.mem hp | rfl) ?_ ?_ ?_ ?_ ?_)

theorem State.response_stays (a0 : State) (a1 : Nat) (a2 : Txn) (h0 : Stays ps s0 a0) [Has ps .lists] [Has ps .cyclic] [Has ps .ctxs] [Has ps .units] [Has ps .fns] [Has ps .ports] [Has ps .acct] [Has ps .inf] [Has ps .radio] [Has ps .front] [Has ps .tiers] [Has ps .fab] [Has ps .rpl] [Has ps .health] [Has ps .start] [Has ps .regs] [Has ps .mem] [Has ps .out] [Has ps .drawn] : Stays ps s0 (State.response a0 a1 a2) := by
  unfold State.response
  repeat' first
    | with_reducible assumption
    | with_reducible apply State.count_stays
    | with_reducible apply State.logIn_stays
    | with_reducible apply State.respIn_stays
    | (extract_lets +onlyGivenNames v; all_goals (try clear_value v))
    | split

theorem State.setT_stays (a0 : State) (a1 : Nat) (a2 : Nat) (h0 : Stays ps s0 a0) [Has ps .power] : Stays ps s0 (State.setT a0 a1 a2) := by
  unfold State.setT
  repeat' first
    | with_reducible assumption
    | intro _
    | (extract_lets +onlyGivenNames v; all_goals (try clear_value v))
    | with_reducible exact Burns.refl _
    | with_reducible exact Nat.le_refl _
    | with_reducible exact List.prefix_refl _
    | (rw [State.mk_build]; refine Stays.upd (fun p hp => by cases p <;> first | exact absurd Has.mem hp | rfl) ?_ ?_ ?_ ?_ ?_)

theorem State.reviseT_stays (a0 : State) (a1 : Int) (a2 : Nat) (h0 : Stays ps s0 a0) [Has ps .fns] [Has ps .power] [Has ps .regs] : Stays ps s0 (State.reviseT a0 a1 a2) := by
  unfold State.reviseT
  repeat' first
    | with_reducible assumption
    | with_reducible apply State.stepped_stays
    | with_reducible apply State.setT_stays
    | (extract_lets +onlyGivenNames v; all_goals (try clear_value v))
    | split

theorem State.setMig_stays (a0 : State) (a1 : Migration) (h0 : Stays ps s0 a0) [Has ps .tiers] : Stays ps s0 (State.setMig a0 a1) := by
  unfold State.setMig
  repeat' first
    | with_reducible assumption
    | intro _
    | (extract_lets +onlyGivenNames v; all_goals (try clear_value v))
    | with_reducible exact Burns.refl _
    | with_reducible exact Nat.le_refl _
    | with_reducible exact List.prefix_refl _
    | (rw [State.mk_build]; refine Stays.upd (fun p hp => by cases p <;> first | exact absurd Has.mem hp | rfl) ?_ ?_ ?_ ?_ ?_)

theorem State.shadowFault_stays (a0 : State) (a1 : Nat) (h0 : Stays ps s0 a0) [Has ps .fns] [Has ps .health] [Has ps .regs] : Stays ps s0 (State.shadowFault a0 a1) := by
  unfold State.shadowFault
  repeat' first
    | with_reducible assumption
    | intro _
    | with_reducible apply State.healthLog_stays
    | (extract_lets +onlyGivenNames v; all_goals (try clear_value v))
    | with_reducible exact Burns.refl _
    | with_reducible exact Nat.le_refl _
    | with_reducible exact List.prefix_refl _
    | (rw [State.mk_build]; refine Stays.upd (fun p hp => by cases p <;> first | exact absurd Has.mem hp | rfl) ?_ ?_ ?_ ?_ ?_)

theorem State.shadowFound_stays (a0 : State) (h0 : Stays ps s0 a0) [Has ps .fns] [Has ps .regs] : Stays ps s0 (State.shadowFound a0) := by
  unfold State.shadowFound
  repeat' first
    | with_reducible assumption
    | with_reducible apply State.hltEvt_stays
    | with_reducible apply State.count_stays

theorem State.shadowMatch_stays (a0 : State) (h0 : Stays ps s0 a0) [Has ps .fns] [Has ps .health] [Has ps .regs] : Stays ps s0 (State.shadowMatch a0) := by
  unfold State.shadowMatch
  repeat' first
    | with_reducible assumption
    | intro _
    | with_reducible apply State.hltEvt_stays
    | (extract_lets +onlyGivenNames v
       first
         | (refine (fun (hv : Stays ps s0 v) => ?_) ?_; rotate_left; unfold v; rotate_right)
         | skip
       all_goals (try clear_value v))
    | with_reducible exact Burns.refl _
    | with_reducible exact Nat.le_refl _
    | with_reducible exact List.prefix_refl _
    | split
    | (rw [State.mk_build]; refine Stays.upd (fun p hp => by cases p <;> first | exact absurd Has.mem hp | rfl) ?_ ?_ ?_ ?_ ?_)

theorem State.shadowMiss_stays (a0 : State) (a1 : Nat) (a2 : Nat) (a3 : DWord) (h0 : Stays ps s0 a0) [Has ps .lists] [Has ps .units] [Has ps .fns] [Has ps .ports] [Has ps .radio] [Has ps .front] [Has ps .fab] [Has ps .rpl] [Has ps .health] [Has ps .start] [Has ps .regs] [Has ps .out] : Stays ps s0 (State.shadowMiss a0 a1 a2 a3) := by
  unfold State.shadowMiss
  repeat' first
    | with_reducible assumption
    | with_reducible apply State.healthLog_stays
    | with_reducible apply State.deduct_stays

theorem State.stopMigs_stays (a0 : State) (a1 : Nat) (h0 : Stays ps s0 a0) [Has ps .tiers] : Stays ps s0 (State.stopMigs a0 a1) := by
  unfold State.stopMigs
  repeat' first
    | with_reducible assumption
    | intro _
    | with_reducible apply State.giveFrames_stays
    | with_reducible apply State.eachPart_stays
    | with_reducible apply State.releaseUnits_stays
    | (extract_lets +onlyGivenNames v
       first
         | (refine (fun (hv : Stays ps s0 v) => ?_) ?_; rotate_left; unfold v; rotate_right)
         | skip
       all_goals (try clear_value v))
    | with_reducible apply Stays.foldl
    | with_reducible exact Burns.refl _
    | with_reducible exact Nat.le_refl _
    | with_reducible exact List.prefix_refl _
    | split
    | (rw [State.mk_build]; refine Stays.upd (fun p hp => by cases p <;> first | exact absurd Has.mem hp | rfl) ?_ ?_ ?_ ?_ ?_)

theorem State.testFailed_stays (a0 : State) (a1 : Nat) (a2 : DWord) (h0 : Stays ps s0 a0) [Has ps .lists] [Has ps .units] [Has ps .fns] [Has ps .ports] [Has ps .radio] [Has ps .front] [Has ps .fab] [Has ps .rpl] [Has ps .health] [Has ps .start] [Has ps .regs] [Has ps .out] : Stays ps s0 (State.testFailed a0 a1 a2) := by
  unfold State.testFailed
  repeat' first
    | with_reducible assumption
    | with_reducible apply State.hltEvt_stays
    | with_reducible apply State.healthLog_stays
    | with_reducible apply State.deduct_stays
    | with_reducible apply State.count_stays

theorem State.testPassed_stays (a0 : State) (a1 : Nat) (h0 : Stays ps s0 a0) [Has ps .fns] [Has ps .health] [Has ps .start] [Has ps .regs] : Stays ps s0 (State.testPassed a0 a1) := by
  unfold State.testPassed
  repeat' first
    | with_reducible assumption
    | intro _
    | with_reducible apply State.recovered_stays
    | with_reducible apply State.count_stays
    | (extract_lets +onlyGivenNames v; all_goals (try clear_value v))
    | with_reducible exact Burns.refl _
    | with_reducible exact Nat.le_refl _
    | with_reducible exact List.prefix_refl _
    | (rw [State.mk_build]; refine Stays.upd (fun p hp => by cases p <;> first | exact absurd Has.mem hp | rfl) ?_ ?_ ?_ ?_ ?_)

theorem State.wakeAtomics_stays (a0 : State) (h0 : Stays ps s0 a0) [Has ps .front] [Has ps .fab] [Has ps .out] : Stays ps s0 (State.wakeAtomics a0) := by
  unfold State.wakeAtomics
  repeat' first
    | with_reducible assumption
    | intro _
    | with_reducible apply State.sendOn_stays
    | with_reducible apply State.setReq_stays
    | (extract_lets +onlyGivenNames v; all_goals (try clear_value v))
    | with_reducible apply Stays.foldl
    | split

theorem State.wrongResult_stays (a0 : State) (a1 : Nat) (h0 : Stays ps s0 a0) [Has ps .fns] [Has ps .front] [Has ps .fab] [Has ps .rpl] [Has ps .health] [Has ps .regs] [Has ps .out] : Stays ps s0 (State.wrongResult a0 a1) := by
  unfold State.wrongResult
  repeat' first
    | with_reducible assumption
    | with_reducible apply State.healthLog_stays
    | with_reducible apply State.mail_stays
    | with_reducible apply State.forceExpel_stays
    | (extract_lets +onlyGivenNames v; refine (fun (hv : Stays ps s0 v) => ?_) ?_; rotate_left; unfold v; rotate_right; all_goals (try clear_value v))
    | split

theorem execAccRead_stays (a0 : Origin) (a1 : State) (h1 : Stays ps s0 a1) [Has ps .lists] [Has ps .units] [Has ps .fns] [Has ps .acct] [Has ps .front] [Has ps .fab] [Has ps .rpl] [Has ps .regs] [Has ps .out] : StaysRes ps s0 (execAccRead a0 a1) := by
  unfold execAccRead
  repeat' first
    | with_reducible assumption
    | intro _
    | with_reducible apply StaysSvc.ofDone
    | with_reducible apply State.service_stays
    | with_reducible apply State.dmaOut_stays
    | with_reducible apply State.acct_stays
    | (extract_lets +onlyGivenNames v; all_goals (try clear_value v))
    | split

theorem execAccountBoundary_stays (a0 : State) (h0 : Stays ps s0 a0) [Has ps .acct] [Has ps .power] [Has ps .regs] [Has ps .drawn] : StaysRes ps s0 (execAccountBoundary a0) := by
  have key : ∀ (c : Accounts) (w : Power), Stays ps s0 { a0 with host := { a0.host with acct := c }, power := w, drawn := a0.drawn + 1 } :=
    fun c w => by
      rw [State.mk_build]
      exact Stays.upd (fun p hp => by cases p <;> first | exact absurd Has.mem hp | rfl) h0 id (List.prefix_refl _) (Nat.le_succ _) (Burns.refl _)
  unfold execAccountBoundary
  extract_lets +onlyGivenNames ms
  split
  · exact StaysRes.ofNext h0
  · exact StaysRes.ofNext (State.count64_stays _ _ _ (State.setReg_stays _ _ _ (State.count64_stays _ _ _ (key _ _))))

theorem execAckTimeout_stays (a0 : Nat) (a1 : State) (h1 : Stays ps s0 a1) [Has ps .fab] [Has ps .regs] [Has ps .out] : StaysRes ps s0 (execAckTimeout a0 a1) := by
  unfold execAckTimeout
  repeat' first
    | with_reducible assumption
    | with_reducible exact StaysRes.ofFault
    | with_reducible apply StaysRes.ofNext
    | with_reducible apply State.replayFrom_stays
    | (extract_lets +onlyGivenNames v; all_goals (try clear_value v))
    | split

theorem execApertureRead_stays (a0 : Nat) (a1 : Nat) (a2 : Nat) (a3 : State) (h3 : Stays ps s0 a3) [Has ps .lists] [Has ps .units] [Has ps .fns] [Has ps .ports] [Has ps .acct] [Has ps .radio] [Has ps .front] [Has ps .tiers] [Has ps .fab] [Has ps .rpl] [Has ps .health] [Has ps .start] [Has ps .regs] [Has ps .out] : StaysRes ps s0 (execApertureRead a0 a1 a2 a3) := by
  unfold execApertureRead
  repeat' first
    | with_reducible assumption
    | with_reducible exact StaysRes.ofFault
    | with_reducible apply StaysRes.ofNext
    | with_reducible apply State.emit_stays
    | with_reducible apply State.apErr_stays
    | with_reducible apply State.readSpans_stays
    | with_reducible apply State.countHost_stays
    | (extract_lets +onlyGivenNames v; all_goals (try clear_value v))
    | split

theorem execAtomicUnknown_stays (a0 : Nat) (a1 : State) (h1 : Stays ps s0 a1) [Has ps .lists] [Has ps .units] [Has ps .fns] [Has ps .front] [Has ps .fab] [Has ps .rpl] [Has ps .regs] [Has ps .out] : StaysRes ps s0 (execAtomicUnknown a0 a1) := by
  unfold execAtomicUnknown
  repeat' first
    | with_reducible assumption
    | with_reducible apply StaysRes.ofNext
    | with_reducible apply State.unknown_stays
    | split

theorem execAttnClear_stays (a0 : Nat) (a1 : Nat) (a2 : State) (h2 : Stays ps s0 a2) [Has ps .fns] [Has ps .rpl] [Has ps .regs] : StaysRes ps s0 (execAttnClear a0 a1 a2) := by
  unfold execAttnClear
  repeat' first
    | with_reducible assumption
    | intro _
    | with_reducible exact StaysRes.ofFault
    | with_reducible apply StaysRes.ofNext
    | with_reducible apply State.page0_stays
    | with_reducible apply State.attnClear_stays
    | split

theorem execAttnHoldExpiry_stays (a0 : Nat) (a1 : State) (h1 : Stays ps s0 a1) [Has ps .fns] [Has ps .regs] : StaysRes ps s0 (execAttnHoldExpiry a0 a1) := by
  unfold execAttnHoldExpiry
  repeat' first
    | with_reducible assumption
    | with_reducible exact StaysRes.ofFault
    | with_reducible apply StaysRes.ofNext
    | with_reducible apply State.statusNote_stays
    | with_reducible apply State.setFn_stays
    | (extract_lets +onlyGivenNames v; all_goals (try clear_value v))
    | split

theorem execBeaconSend_stays (a0 : State) (h0 : Stays ps s0 a0) [Has ps .front] [Has ps .fab] [Has ps .out] : StaysRes ps s0 (execBeaconSend a0) := by
  unfold execBeaconSend
  repeat' first
    | with_reducible assumption
    | intro _
    | with_reducible apply StaysRes.ofNext
    | with_reducible apply State.sendOn_stays
    | (extract_lets +onlyGivenNames v
       first
         | (refine (fun (hv : Stays ps s0 v) => ?_) ?_; rotate_left; unfold v; rotate_right)
         | skip
       all_goals (try clear_value v))
    | with_reducible apply Stays.foldl
    | with_reducible exact Burns.refl _
    | with_reducible exact Nat.le_refl _
    | with_reducible exact List.prefix_refl _
    | split
    | (rw [State.mk_build]; refine Stays.upd (fun p hp => by cases p <;> first | exact absurd Has.mem hp | rfl) ?_ ?_ ?_ ?_ ?_)

theorem execCqDoorbell_stays (a0 : Nat) (a1 : Nat) (a2 : Nat) (a3 : State) (h3 : Stays ps s0 a3) [Has ps .fns] : StaysRes ps s0 (execCqDoorbell a0 a1 a2 a3) := by
  unfold execCqDoorbell
  repeat' first
    | with_reducible assumption
    | with_reducible exact StaysRes.ofFault
    | with_reducible apply StaysRes.ofNext
    | with_reducible apply State.dbErr_stays
    | with_reducible apply State.setQp_stays
    | (extract_lets +onlyGivenNames v; all_goals (try clear_value v))
    | split

theorem execEchoReqSend_stays (a0 : State) (h0 : Stays ps s0 a0) [Has ps .front] [Has ps .fab] [Has ps .out] : StaysRes ps s0 (execEchoReqSend a0) := by
  unfold execEchoReqSend
  repeat' first
    | with_reducible assumption
    | intro _
    | with_reducible apply StaysRes.ofNext
    | with_reducible apply State.sendOn_stays
    | (extract_lets +onlyGivenNames v
       first
         | (refine (fun (hv : Stays ps s0 v) => ?_) ?_; rotate_left; unfold v; rotate_right)
         | skip
       all_goals (try clear_value v))
    | with_reducible apply Stays.foldl
    | with_reducible exact Burns.refl _
    | with_reducible exact Nat.le_refl _
    | with_reducible exact List.prefix_refl _
    | split
    | (rw [State.mk_build]; refine Stays.upd (fun p hp => by cases p <;> first | exact absurd Has.mem hp | rfl) ?_ ?_ ?_ ?_ ?_)

theorem execExpelGrant_stays (a0 : State) (h0 : Stays ps s0 a0) [Has ps .fns] [Has ps .front] [Has ps .fab] [Has ps .rpl] [Has ps .health] [Has ps .start] [Has ps .regs] [Has ps .out] : StaysRes ps s0 (execExpelGrant a0) := by
  unfold execExpelGrant
  repeat' first
    | with_reducible assumption
    | with_reducible apply StaysRes.ofNext
    | with_reducible apply State.grant_stays
    | (extract_lets +onlyGivenNames v; all_goals (try clear_value v))
    | split

theorem execExpelRetry_stays (a0 : State) (h0 : Stays ps s0 a0) [Has ps .fns] [Has ps .front] [Has ps .fab] [Has ps .rpl] [Has ps .health] [Has ps .regs] [Has ps .out] : StaysRes ps s0 (execExpelRetry a0) := by
  unfold execExpelRetry
  repeat' first
    | with_reducible assumption
    | with_reducible apply StaysRes.ofNext
    | with_reducible apply State.sendExpel_stays
    | (extract_lets +onlyGivenNames v; all_goals (try clear_value v))
    | split

theorem execFabAck_stays (a0 : Nat) (a1 : Txn) (a2 : State) (h2 : Stays ps s0 a2) [Has ps .lists] [Has ps .cyclic] [Has ps .ctxs] [Has ps .units] [Has ps .fns] [Has ps .ports] [Has ps .acct] [Has ps .inf] [Has ps .radio] [Has ps .front] [Has ps .tiers] [Has ps .fab] [Has ps .rpl] [Has ps .health] [Has ps .start] [Has ps .regs] [Has ps .mem] [Has ps .out] [Has ps .drawn] : StaysRes ps s0 (execFabAck a0 a1 a2) := by
  unfold execFabAck
  repeat' first
    | with_reducible assumption
    | with_reducible apply State.inRow_stays
    | with_reducible apply State.response_stays

theorem execFabAtomic_stays (a0 : Nat) (a1 : Txn) (a2 : State) (h2 : Stays ps s0 a2) [Has ps .lists] [Has ps .ctxs] [Has ps .units] [Has ps .fns] [Has ps .ports] [Has ps .acct] [Has ps .radio] [Has ps .front] [Has ps .tiers] [Has ps .fab] [Has ps .rpl] [Has ps .health] [Has ps .start] [Has ps .regs] [Has ps .mem] [Has ps .out] : StaysRes ps s0 (execFabAtomic a0 a1 a2) := by
  unfold execFabAtomic
  repeat' first
    | with_reducible assumption
    | with_reducible apply State.inRow_stays
    | with_reducible apply State.ringsIn_stays
    | with_reducible apply State.inbound_stays

theorem execFabBeacon_stays (a0 : Nat) (a1 : Txn) (a2 : State) (h2 : Stays ps s0 a2) [Has ps .time] : StaysRes ps s0 (execFabBeacon a0 a1 a2) := by
  unfold execFabBeacon
  repeat' first
    | with_reducible assumption
    | intro _
    | with_reducible exact StaysRes.ofFault
    | with_reducible apply StaysRes.ofNext
    | (extract_lets +onlyGivenNames v; all_goals (try clear_value v))
    | with_reducible exact Burns.refl _
    | with_reducible exact Nat.le_refl _
    | with_reducible exact List.prefix_refl _
    | split
    | (rw [State.mk_build]; refine Stays.upd (fun p hp => by cases p <;> first | exact absurd Has.mem hp | rfl) ?_ ?_ ?_ ?_ ?_)

theorem execFabData_stays (a0 : Nat) (a1 : Txn) (a2 : State) (h2 : Stays ps s0 a2) [Has ps .lists] [Has ps .cyclic] [Has ps .ctxs] [Has ps .units] [Has ps .fns] [Has ps .ports] [Has ps .acct] [Has ps .inf] [Has ps .radio] [Has ps .front] [Has ps .tiers] [Has ps .fab] [Has ps .rpl] [Has ps .health] [Has ps .start] [Has ps .regs] [Has ps .mem] [Has ps .out] [Has ps .drawn] : StaysRes ps s0 (execFabData a0 a1 a2) := by
  unfold execFabData
  repeat' first
    | with_reducible assumption
    | with_reducible apply State.inRow_stays
    | with_reducible apply State.response_stays

theorem execFabEchoReq_stays (a0 : Nat) (a1 : Txn) (a2 : State) (h2 : Stays ps s0 a2) [Has ps .front] [Has ps .fab] [Has ps .out] : StaysRes ps s0 (execFabEchoReq a0 a1 a2) := by
  unfold execFabEchoReq
  repeat' first
    | with_reducible assumption
    | intro _
    | with_reducible exact StaysRes.ofFault
    | with_reducible apply StaysRes.ofNext
    | with_reducible apply State.sendOn_stays
    | (extract_lets +onlyGivenNames v; all_goals (try clear_value v))
    | with_reducible exact Burns.refl _
    | with_reducible exact Nat.le_refl _
    | with_reducible exact List.prefix_refl _
    | split
    | (rw [State.mk_build]; refine Stays.upd (fun p hp => by cases p <;> first | exact absurd Has.mem hp | rfl) ?_ ?_ ?_ ?_ ?_)

theorem execFabEchoResp_stays (a0 : Nat) (a1 : Txn) (a2 : State) (h2 : Stays ps s0 a2) [Has ps .time] [Has ps .fns] [Has ps .rpl] [Has ps .start] [Has ps .regs] [Has ps .drawn] : StaysRes ps s0 (execFabEchoResp a0 a1 a2) := by
  unfold execFabEchoResp
  repeat' first
    | with_reducible assumption
    | intro _
    | with_reducible exact StaysRes.ofFault
    | with_reducible apply StaysRes.ofNext
    | with_reducible apply State.beaconOfs_stays
    | (extract_lets +onlyGivenNames v; all_goals (try clear_value v))
    | with_reducible exact Burns.refl _
    | with_reducible exact Nat.le_refl _
    | with_reducible exact List.prefix_refl _
    | split
    | (rw [State.mk_build]; refine Stays.upd (fun p hp => by cases p <;> first | exact absurd Has.mem hp | rfl) ?_ ?_ ?_ ?_ ?_)

theorem execFabError_stays (a0 : Nat) (a1 : Txn) (a2 : State) (h2 : Stays ps s0 a2) [Has ps .lists] [Has ps .cyclic] [Has ps .ctxs] [Has ps .units] [Has ps .fns] [Has ps .ports] [Has ps .acct] [Has ps .inf] [Has ps .radio] [Has ps .front] [Has ps .tiers] [Has ps .fab] [Has ps .rpl] [Has ps .health] [Has ps .start] [Has ps .regs] [Has ps .mem] [Has ps .out] [Has ps .drawn] : StaysRes ps s0 (execFabError a0 a1 a2) := by
  unfold execFabError
  repeat' first
    | with_reducible assumption
    | with_reducible apply State.inRow_stays
    | with_reducible apply State.response_stays

theorem execFabGroup_stays (a0 : Nat) (a1 : Txn) (a2 : State) (h2 : Stays ps s0 a2) [Has ps .lists] [Has ps .units] [Has ps .fns] [Has ps .front] [Has ps .fab] [Has ps .rpl] [Has ps .regs] [Has ps .out] : StaysRes ps s0 (execFabGroup a0 a1 a2) := by
  unfold execFabGroup
  repeat' first
    | with_reducible assumption
    | with_reducible apply State.inRow_stays
    | with_reducible apply State.inGroup_stays

theorem execFabHandle_stays (a0 : Nat) (a1 : Txn) (a2 : State) (h2 : Stays ps s0 a2) [Has ps .lists] [Has ps .ctxs] [Has ps .units] [Has ps .fns] [Has ps .ports] [Has ps .acct] [Has ps .radio] [Has ps .front] [Has ps .tiers] [Has ps .fab] [Has ps .rpl] [Has ps .health] [Has ps .start] [Has ps .regs] [Has ps .mem] [Has ps .out] : StaysRes ps s0 (execFabHandle a0 a1 a2) := by
  unfold execFabHandle
  repeat' first
    | with_reducible assumption
    | with_reducible apply State.inRow_stays
    | with_reducible apply State.inbound_stays

theorem execFabLoad_stays (a0 : Nat) (a1 : Txn) (a2 : State) (h2 : Stays ps s0 a2) [Has ps .lists] [Has ps .ctxs] [Has ps .units] [Has ps .fns] [Has ps .ports] [Has ps .acct] [Has ps .radio] [Has ps .front] [Has ps .tiers] [Has ps .fab] [Has ps .rpl] [Has ps .health] [Has ps .start] [Has ps .regs] [Has ps .mem] [Has ps .out] : StaysRes ps s0 (execFabLoad a0 a1 a2) := by
  unfold execFabLoad
  repeat' first
    | with_reducible assumption
    | with_reducible apply State.inRow_stays
    | with_reducible apply State.inbound_stays

theorem execFabNack_stays (a0 : Nat) (a1 : Txn) (a2 : State) (h2 : Stays ps s0 a2) [Has ps .lists] [Has ps .cyclic] [Has ps .ctxs] [Has ps .units] [Has ps .fns] [Has ps .ports] [Has ps .acct] [Has ps .inf] [Has ps .radio] [Has ps .front] [Has ps .tiers] [Has ps .fab] [Has ps .rpl] [Has ps .health] [Has ps .start] [Has ps .regs] [Has ps .mem] [Has ps .out] [Has ps .drawn] : StaysRes ps s0 (execFabNack a0 a1 a2) := by
  unfold execFabNack
  repeat' first
    | with_reducible assumption
    | with_reducible apply State.inRow_stays
    | with_reducible apply State.response_stays

theorem execFabResult_stays (a0 : Nat) (a1 : Txn) (a2 : State) (h2 : Stays ps s0 a2) [Has ps .lists] [Has ps .cyclic] [Has ps .ctxs] [Has ps .units] [Has ps .fns] [Has ps .ports] [Has ps .acct] [Has ps .inf] [Has ps .radio] [Has ps .front] [Has ps .tiers] [Has ps .fab] [Has ps .rpl] [Has ps .health] [Has ps .start] [Has ps .regs] [Has ps .mem] [Has ps .out] [Has ps .drawn] : StaysRes ps s0 (execFabResult a0 a1 a2) := by
  unfold execFabResult
  repeat' first
    | with_reducible assumption
    | with_reducible apply State.inRow_stays
    | with_reducible apply State.response_stays

theorem execFabStore_stays (a0 : Nat) (a1 : Txn) (a2 : State) (h2 : Stays ps s0 a2) [Has ps .lists] [Has ps .ctxs] [Has ps .units] [Has ps .fns] [Has ps .ports] [Has ps .acct] [Has ps .radio] [Has ps .front] [Has ps .tiers] [Has ps .fab] [Has ps .rpl] [Has ps .health] [Has ps .start] [Has ps .regs] [Has ps .mem] [Has ps .out] : StaysRes ps s0 (execFabStore a0 a1 a2) := by
  unfold execFabStore
  repeat' first
    | with_reducible assumption
    | with_reducible apply State.inRow_stays
    | with_reducible apply State.inStore_stays

theorem execFabTileRd_stays (a0 : Nat) (a1 : Txn) (a2 : State) (h2 : Stays ps s0 a2) [Has ps .lists] [Has ps .ctxs] [Has ps .units] [Has ps .fns] [Has ps .ports] [Has ps .acct] [Has ps .radio] [Has ps .front] [Has ps .tiers] [Has ps .fab] [Has ps .rpl] [Has ps .health] [Has ps .start] [Has ps .regs] [Has ps .mem] [Has ps .out] : StaysRes ps s0 (execFabTileRd a0 a1 a2) := by
  unfold execFabTileRd
  repeat' first
    | with_reducible assumption
    | with_reducible apply State.inRow_stays
    | with_reducible apply State.inbound_stays

theorem execFabTileWr_stays (a0 : Nat) (a1 : Txn) (a2 : State) (h2 : Stays ps s0 a2) [Has ps .lists] [Has ps .ctxs] [Has ps .units] [Has ps .fns] [Has ps .ports] [Has ps .acct] [Has ps .radio] [Has ps .front] [Has ps .tiers] [Has ps .fab] [Has ps .rpl] [Has ps .health] [Has ps .start] [Has ps .regs] [Has ps .mem] [Has ps .out] : StaysRes ps s0 (execFabTileWr a0 a1 a2) := by
  unfold execFabTileWr
  repeat' first
    | with_reducible assumption
    | with_reducible apply State.inRow_stays
    | with_reducible apply State.inbound_stays

theorem execFastStep_stays (a0 : State) (h0 : Stays ps s0 a0) [Has ps .lists] [Has ps .ctxs] [Has ps .units] [Has ps .fns] [Has ps .ports] [Has ps .mat] [Has ps .inf] [Has ps .chm] [Has ps .radio] [Has ps .front] [Has ps .tiers] [Has ps .fab] [Has ps .rpl] [Has ps .health] [Has ps .start] [Has ps .power] [Has ps .regs] [Has ps .out] : StaysRes ps s0 (execFastStep a0) := by
  unfold execFastStep
  repeat' first
    | with_reducible assumption
    | intro _
    | with_reducible apply StaysRes.ofNext
    | with_reducible apply State.thrEvt_stays
    | with_reducible apply State.fastDie_stays
    | (extract_lets +onlyGivenNames v
       first
         | (refine (fun (hv : Stays ps s0 v) => ?_) ?_; rotate_left; unfold v; rotate_right)
         | skip
       all_goals (try clear_value v))
    | with_reducible apply Stays.foldl
    | with_reducible exact Burns.refl _
    | with_reducible exact Nat.le_refl _
    | with_reducible exact List.prefix_refl _
    | split
    | (rw [State.mk_build]; refine Stays.upd (fun p hp => by cases p <;> first | exact absurd Has.mem hp | rfl) ?_ ?_ ?_ ?_ ?_)

theorem execFlitReceive_stays (a0 : Nat) (a1 : List Byte) (a2 : State) (h2 : Stays ps s0 a2) [Has ps .fab] [Has ps .regs] [Has ps .out] : StaysRes ps s0 (execFlitReceive a0 a1 a2) := by
  unfold execFlitReceive
  repeat' first
    | with_reducible assumption
    | with_reducible exact StaysRes.ofFault
    | with_reducible apply StaysRes.ofNext
    | with_reducible apply State.count64_stays
    | with_reducible apply State.goodFlit_stays
    | with_reducible apply State.count_stays
    | with_reducible apply State.emit_stays
    | with_reducible apply State.setPort_stays
    | (extract_lets +onlyGivenNames v
       first
         | (refine (fun (hv : Stays ps s0 v) => ?_) ?_; rotate_left; unfold v; rotate_right)
         | skip
       all_goals (try clear_value v))
    | split

theorem execFrameFree_stays (a0 : State) (h0 : Stays ps s0 a0) [Has ps .tiers] : StaysRes ps s0 (execFrameFree a0) := by
  unfold execFrameFree
  repeat' first
    | with_reducible assumption
    | intro _
    | with_reducible apply StaysRes.ofNext
    | with_reducible apply State.giveFrames_stays
    | (extract_lets +onlyGivenNames v; all_goals (try clear_value v))
    | with_reducible apply Stays.foldl
    | with_reducible exact Burns.refl _
    | with_reducible exact Nat.le_refl _
    | with_reducible exact List.prefix_refl _
    | (rw [State.mk_build]; refine Stays.upd (fun p hp => by cases p <;> first | exact absurd Has.mem hp | rfl) ?_ ?_ ?_ ?_ ?_)

theorem execHealthSensorRead_stays (a0 : List Int) (a1 : List (Nat × Nat)) (a2 : State) (h2 : Stays ps s0 a2) [Has ps .lists] [Has ps .ctxs] [Has ps .units] [Has ps .fns] [Has ps .ports] [Has ps .radio] [Has ps .front] [Has ps .fab] [Has ps .rpl] [Has ps .health] [Has ps .start] [Has ps .power] [Has ps .regs] [Has ps .out] : StaysRes ps s0 (execHealthSensorRead a0 a1 a2) := by
  unfold execHealthSensorRead
  repeat' first
    | with_reducible assumption
    | intro _
    | with_reducible exact StaysRes.ofFault
    | with_reducible apply StaysRes.ofNext
    | with_reducible apply State.sensed_stays
    | with_reducible apply State.afterQuar_stays
    | with_reducible apply State.redev_stays
    | with_reducible apply State.settleUnit_stays
    | with_reducible apply State.refresh_stays
    | (extract_lets +onlyGivenNames v
       first
         | (refine (fun (hv : Stays ps s0 v) => ?_) ?_; rotate_left; unfold v; rotate_right)
         | skip
       all_goals (try clear_value v))
    | with_reducible apply Stays.foldl
    | with_reducible exact Burns.refl _
    | with_reducible exact Nat.le_refl _
    | with_reducible exact List.prefix_refl _
    | split
    | (rw [State.mk_build]; refine Stays.upd (fun p hp => by cases p <;> first | exact absurd Has.mem hp | rfl) ?_ ?_ ?_ ?_ ?_)

theorem execHeartbeatPeriodEnd_stays (a0 : State) (h0 : Stays ps s0 a0) [Has ps .fns] [Has ps .inf] [Has ps .radio] [Has ps .front] [Has ps .fab] [Has ps .rpl] [Has ps .health] [Has ps .start] [Has ps .regs] [Has ps .out] : StaysRes ps s0 (execHeartbeatPeriodEnd a0) := by
  unfold execHeartbeatPeriodEnd
  repeat' first
    | with_reducible assumption
    | intro _
    | with_reducible apply StaysRes.ofNext
    | with_reducible apply State.partnerLost_stays
    | with_reducible apply State.askWards_stays
    | with_reducible apply State.fence_stays
    | (extract_lets +onlyGivenNames v; all_goals (try clear_value v))
    | with_reducible exact Burns.refl _
    | with_reducible exact Nat.le_refl _
    | with_reducible exact List.prefix_refl _
    | split
    | (rw [State.mk_build]; refine Stays.upd (fun p hp => by cases p <;> first | exact absurd Has.mem hp | rfl) ?_ ?_ ?_ ?_ ?_)

theorem execHeartbeatSend_stays (a0 : State) (h0 : Stays ps s0 a0) [Has ps .fns] [Has ps .front] [Has ps .fab] [Has ps .rpl] [Has ps .regs] [Has ps .out] : StaysRes ps s0 (execHeartbeatSend a0) := by
  unfold execHeartbeatSend
  repeat' first
    | with_reducible assumption
    | intro _
    | with_reducible apply StaysRes.ofNext
    | with_reducible apply State.mail_stays
    | (extract_lets +onlyGivenNames v; all_goals (try clear_value v))
    | with_reducible apply Stays.foldl

theorem execHostCopy_stays (a0 : Origin) (a1 : List Byte) (a2 : State) (h2 : Stays ps s0 a2) [Has ps .lists] [Has ps .units] [Has ps .fns] [Has ps .ports] [Has ps .acct] [Has ps .radio] [Has ps .front] [Has ps .tiers] [Has ps .fab] [Has ps .rpl] [Has ps .health] [Has ps .start] [Has ps .regs] [Has ps .mem] [Has ps .out] : StaysRes ps s0 (execHostCopy a0 a1 a2) := by
  unfold execHostCopy
  repeat' first
    | with_reducible assumption
    | intro _
    | with_reducible apply StaysSvc.ofDone
    | with_reducible apply State.service_stays
    | with_reducible apply State.hostCopy_stays

theorem execLinkLost_stays (a0 : Nat) (a1 : State) (h1 : Stays ps s0 a1) [Has ps .lists] [Has ps .units] [Has ps .fns] [Has ps .front] [Has ps .fab] [Has ps .rpl] [Has ps .regs] [Has ps .out] : StaysRes ps s0 (execLinkLost a0 a1) := by
  unfold execLinkLost
  repeat' first
    | with_reducible assumption
    | with_reducible exact StaysRes.ofFault
    | with_reducible apply StaysRes.ofNext
    | with_reducible apply State.losePlane_stays
    | with_reducible apply State.fabEvt_stays
    | with_reducible apply State.count_stays
    | (extract_lets +onlyGivenNames v; all_goals (try clear_value v))
    | split

theorem execLinkTrained_stays (a0 : Nat) (a1 : State) (h1 : Stays ps s0 a1) [Has ps .ports] [Has ps .front] [Has ps .fab] [Has ps .out] : StaysRes ps s0 (execLinkTrained a0 a1) := by
  unfold execLinkTrained
  repeat' first
    | with_reducible assumption
    | intro _
    | with_reducible exact StaysRes.ofFault
    | with_reducible apply StaysRes.ofNext
    | with_reducible apply State.wakeAtomics_stays
    | with_reducible apply State.setPort_stays
    | (extract_lets +onlyGivenNames v
       first
         | (have hv : HostIf := v; clear hv; unfold v; clear v)
         | (refine (fun (hv : Stays ps s0 v) => ?_) ?_; rotate_left; unfold v; rotate_right)
         | skip
       all_goals (try clear_value v))
    | with_reducible exact Burns.refl _
    | with_reducible exact Nat.le_refl _
    | with_reducible exact List.prefix_refl _
    | split
    | (rw [State.mk_build]; refine Stays.upd (fun p hp => by cases p <;> first | exact absurd Has.mem hp | rfl) ?_ ?_ ?_ ?_ ?_)

theorem execListSubmit_stays (a0 : Origin) (a1 : State) (h1 : Stays ps s0 a1) [Has ps .lists] [Has ps .ctxs] [Has ps .units] [Has ps .fns] [Has ps .ports] [Has ps .radio] [Has ps .front] [Has ps .tiers] [Has ps .fab] [Has ps .rpl] [Has ps .health] [Has ps .start] [Has ps .regs] [Has ps .out] : StaysRes ps s0 (execListSubmit a0 a1) := by
  unfold execListSubmit
  repeat' first
    | with_reducible assumption
    | with_reducible apply StaysRes.ofNext
    | with_reducible apply State.refuseBad_stays
    | with_reducible apply State.listSubmit_stays
    | (refine State.svc_stays _ _ _ _ ?_ _ (by assumption))
    | split

theorem execLossOfSignal_stays (a0 : Nat) (a1 : State) (h1 : Stays ps s0 a1) [Has ps .lists] [Has ps .units] [Has ps .fns] [Has ps .front] [Has ps .fab] [Has ps .rpl] [Has ps .regs] [Has ps .out] : StaysRes ps s0 (execLossOfSignal a0 a1) := by
  unfold execLossOfSignal
  repeat' first
    | with_reducible assumption
    | with_reducible exact StaysRes.ofFault
    | with_reducible apply StaysRes.ofNext
    | with_reducible apply State.losePlane_stays
    | with_reducible apply State.fabEvt_stays
    | split

theorem execLowHalfRead_stays (a0 : RegRef) (a1 : State) (h1 : Stays ps s0 a1) [Has ps .fns] [Has ps .regs] [Has ps .latch] [Has ps .out] : StaysRes ps s0 (execLowHalfRead a0 a1) := by
  unfold execLowHalfRead
  repeat' first
    | with_reducible assumption
    | with_reducible exact StaysRes.ofFault
    | with_reducible apply StaysRes.ofNext
    | with_reducible apply State.hostRead_stays
    | split

theorem execMemoryRefresh_stays (a0 : Nat) (a1 : Bool) (a2 : Nat) (a3 : State) (h3 : Stays ps s0 a3) : StaysRes ps s0 (execMemoryRefresh a0 a1 a2 a3) := by
  unfold execMemoryRefresh
  repeat' first
    | with_reducible assumption
    | with_reducible exact StaysRes.ofFault
    | with_reducible apply StaysRes.ofNext
    | split

theorem execMigrationLine_stays (a0 : Nat) (a1 : State) (h1 : Stays ps s0 a1) [Has ps .cyclic] [Has ps .acct] [Has ps .tiers] [Has ps .regs] [Has ps .mem] : StaysRes ps s0 (execMigrationLine a0 a1) := by
  unfold execMigrationLine
  repeat' first
    | with_reducible assumption
    | intro _
    | with_reducible apply StaysRes.ofNext
    | with_reducible apply State.acct_stays
    | with_reducible apply State.charge_stays
    | with_reducible apply State.count64_stays
    | with_reducible apply State.setMig_stays
    | (extract_lets +onlyGivenNames v
       first
         | (refine (fun (hv : Stays ps s0 v) => ?_) ?_; rotate_left; unfold v; rotate_right)
         | skip
       all_goals (try clear_value v))
    | with_reducible exact Burns.refl _
    | with_reducible exact Nat.le_refl _
    | with_reducible exact List.prefix_refl _
    | with_reducible apply Mem.wf_copy
    | split
    | (rw [State.mk_build]; refine Stays.upd (fun p hp => by cases p <;> first | exact absurd Has.mem hp | rfl) ?_ ?_ ?_ ?_ ?_)

theorem execMigrationStart_stays (a0 : Nat) (a1 : State) (h1 : Stays ps s0 a1) [Has ps .tiers] : StaysRes ps s0 (execMigrationStart a0 a1) := by
  unfold execMigrationStart
  repeat' first
    | with_reducible assumption
    | with_reducible apply StaysRes.ofNext
    | with_reducible apply State.setMig_stays
    | (extract_lets +onlyGivenNames v; all_goals (try clear_value v))
    | split

theorem execMigrationSwitch_stays (a0 : Nat) (a1 : State) (h1 : Stays ps s0 a1) [Has ps .fns] [Has ps .tiers] [Has ps .regs] [Has ps .mem] : StaysRes ps s0 (execMigrationSwitch a0 a1) := by
  unfold execMigrationSwitch
  repeat' first
    | with_reducible assumption
    | intro _
    | with_reducible apply StaysRes.ofNext
    | with_reducible apply State.count_stays
    | with_reducible apply State.count64_stays
    | with_reducible apply State.eachPart_stays
    | with_reducible apply State.settleClaim_stays
    | with_reducible apply State.setClaim_stays
    | with_reducible apply State.releaseUnits_stays
    | with_reducible apply State.leaveFrames_stays
    | with_reducible apply State.deferEval_stays
    | (extract_lets +onlyGivenNames v
       first
         | (have hv : (_ → _) := v; clear hv; unfold v; clear v)
         | (refine (fun (hv : Stays ps s0 v) => ?_) ?_; rotate_left; unfold v; rotate_right)
         | skip
       all_goals (try clear_value v))
    | with_reducible exact Burns.refl _
    | with_reducible exact Nat.le_refl _
    | with_reducible exact List.prefix_refl _
    | split
    | (rw [State.mk_build]; refine Stays.upd (fun p hp => by cases p <;> first | exact absurd Has.mem hp | rfl) ?_ ?_ ?_ ?_ ?_)

theorem execMsixFire_stays (a0 : Nat) (a1 : Nat) (a2 : State) (h2 : Stays ps s0 a2) [Has ps .fns] [Has ps .out] : StaysRes ps s0 (execMsixFire a0 a1 a2) := by
  unfold execMsixFire
  repeat' first
    | with_reducible assumption
    | with_reducible exact StaysRes.ofFault
    | with_reducible apply StaysRes.ofNext
    | with_reducible apply State.fireVec_stays
    | (extract_lets +onlyGivenNames v; all_goals (try clear_value v))
    | split

theorem execMsixUnmask_stays (a0 : Nat) (a1 : Nat) (a2 : State) (h2 : Stays ps s0 a2) [Has ps .fns] [Has ps .rpl] [Has ps .regs] [Has ps .out] : StaysRes ps s0 (execMsixUnmask a0 a1 a2) := by
  unfold execMsixUnmask
  repeat' first
    | with_reducible assumption
    | intro _
    | with_reducible exact StaysRes.ofFault
    | with_reducible apply StaysRes.ofNext
    | with_reducible apply State.page0_stays
    | with_reducible apply State.unmask_stays
    | split

theorem execNackBackoffEnd_stays (a0 : Nat) (a1 : State) (h1 : Stays ps s0 a1) [Has ps .lists] [Has ps .units] [Has ps .fns] [Has ps .front] [Has ps .fab] [Has ps .rpl] [Has ps .regs] [Has ps .out] : StaysRes ps s0 (execNackBackoffEnd a0 a1) := by
  unfold execNackBackoffEnd
  repeat' first
    | with_reducible assumption
    | with_reducible apply StaysRes.ofNext
    | with_reducible apply State.giveUp_stays
    | with_reducible apply State.sendOn_stays
    | with_reducible apply State.setReq_stays
    | split

theorem execNakReceive_stays (a0 : Nat) (a1 : Nat) (a2 : State) (h2 : Stays ps s0 a2) [Has ps .fab] [Has ps .regs] [Has ps .out] : StaysRes ps s0 (execNakReceive a0 a1 a2) := by
  unfold execNakReceive
  repeat' first
    | with_reducible assumption
    | with_reducible exact StaysRes.ofFault
    | with_reducible apply StaysRes.ofNext
    | with_reducible apply State.replayFrom_stays
    | split

theorem execPathLost_stays (a0 : Nat) (a1 : Nat) (a2 : State) (h2 : Stays ps s0 a2) [Has ps .lists] [Has ps .units] [Has ps .fns] [Has ps .front] [Has ps .fab] [Has ps .rpl] [Has ps .regs] [Has ps .out] : StaysRes ps s0 (execPathLost a0 a1 a2) := by
  unfold execPathLost
  repeat' first
    | with_reducible assumption
    | intro _
    | with_reducible exact StaysRes.ofFault
    | with_reducible apply StaysRes.ofNext
    | with_reducible apply State.dropNote_stays
    | with_reducible apply State.loseReqs_stays
    | (extract_lets +onlyGivenNames v
       first
         | (refine (fun (hv : Stays ps s0 v) => ?_) ?_; rotate_left; unfold v; rotate_right)
         | skip
       all_goals (try clear_value v))
    | with_reducible exact Burns.refl _
    | with_reducible exact Nat.le_refl _
    | with_reducible exact List.prefix_refl _
    | split
    | (rw [State.mk_build]; refine Stays.upd (fun p hp => by cases p <;> first | exact absurd Has.mem hp | rfl) ?_ ?_ ?_ ?_ ?_)

theorem execPathOk_stays (a0 : Nat) (a1 : Nat) (a2 : State) (h2 : Stays ps s0 a2) [Has ps .front] [Has ps .fab] [Has ps .out] : StaysRes ps s0 (execPathOk a0 a1 a2) := by
  unfold execPathOk
  repeat' first
    | with_reducible assumption
    | with_reducible exact StaysRes.ofFault
    | with_reducible apply StaysRes.ofNext
    | with_reducible apply State.wakeAtomics_stays
    | with_reducible apply State.resumePaths_stays
    | with_reducible apply State.dropNote_stays
    | split

theorem execPathRetry_stays (a0 : Nat) (a1 : Nat) (a2 : State) (h2 : Stays ps s0 a2) [Has ps .fab] : StaysRes ps s0 (execPathRetry a0 a1 a2) := by
  unfold execPathRetry
  repeat' first
    | with_reducible assumption
    | intro _
    | with_reducible exact StaysRes.ofFault
    | with_reducible apply StaysRes.ofNext
    | with_reducible apply State.dropNote_stays
    | with_reducible apply State.holdPaths_stays
    | (extract_lets +onlyGivenNames v
       first
         | (refine (fun (hv : Stays ps s0 v) => ?_) ?_; rotate_left; unfold v; rotate_right)
         | skip
       all_goals (try clear_value v))
    | with_reducible exact Burns.refl _
    | with_reducible exact Nat.le_refl _
    | with_reducible exact List.prefix_refl _
    | split
    | (rw [State.mk_build]; refine Stays.upd (fun p hp => by cases p <;> first | exact absurd Has.mem hp | rfl) ?_ ?_ ?_ ?_ ?_)

theorem execPathRetryLapse_stays (a0 : Nat) (a1 : Nat) (a2 : State) (h2 : Stays ps s0 a2) [Has ps .fab] : StaysRes ps s0 (execPathRetryLapse a0 a1 a2) := by
  unfold execPathRetryLapse
  repeat' first
    | with_reducible assumption
    | with_reducible exact StaysRes.ofFault
    | with_reducible apply StaysRes.ofNext
    | with_reducible apply State.resumePaths_stays
    | with_reducible apply State.dropNote_stays
    | split

theorem execPowerRevision_stays (a0 : Nat) (a1 : Nat) (a2 : State) (h2 : Stays ps s0 a2) [Has ps .fns] [Has ps .power] [Has ps .regs] : StaysRes ps s0 (execPowerRevision a0 a1 a2) := by
  unfold execPowerRevision
  repeat' first
    | with_reducible assumption
    | intro _
    | with_reducible apply StaysRes.ofNext
    | with_reducible apply State.powerBase_stays
    | with_reducible apply State.powerDown_stays
    | with_reducible apply State.powerUp_stays
    | (extract_lets +onlyGivenNames v
       first
         | (refine (fun (hv : Stays ps s0 v) => ?_) ?_; rotate_left; unfold v; rotate_right)
         | skip
       all_goals (try clear_value v))
    | with_reducible exact Burns.refl _
    | with_reducible exact Nat.le_refl _
    | with_reducible exact List.prefix_refl _
    | split
    | (rw [State.mk_build]; refine Stays.upd (fun p hp => by cases p <;> first | exact absurd Has.mem hp | rfl) ?_ ?_ ?_ ?_ ?_)

theorem execQueuePairDisable_stays (a0 : Nat) (a1 : Nat) (a2 : State) (h2 : Stays ps s0 a2) [Has ps .fns] [Has ps .inf] [Has ps .rpl] [Has ps .regs] : StaysRes ps s0 (execQueuePairDisable a0 a1 a2) := by
  unfold execQueuePairDisable
  repeat' first
    | with_reducible assumption
    | intro _
    | with_reducible exact StaysRes.ofFault
    | with_reducible apply StaysRes.ofNext
    | with_reducible apply State.page0_stays
    | with_reducible apply State.qpDisable_stays
    | split

theorem execQueuePairEnable_stays (a0 : Nat) (a1 : Nat) (a2 : State) (h2 : Stays ps s0 a2) [Has ps .fns] [Has ps .rpl] [Has ps .regs] : StaysRes ps s0 (execQueuePairEnable a0 a1 a2) := by
  unfold execQueuePairEnable
  repeat' first
    | with_reducible assumption
    | intro _
    | with_reducible exact StaysRes.ofFault
    | with_reducible apply StaysRes.ofNext
    | with_reducible apply State.page0_stays
    | with_reducible apply State.qpEnable_stays
    | split

theorem execQueuePairOff_stays (a0 : Nat) (a1 : Nat) (a2 : State) (h2 : Stays ps s0 a2) [Has ps .fns] : StaysRes ps s0 (execQueuePairOff a0 a1 a2) := by
  unfold execQueuePairOff
  repeat' first
    | with_reducible assumption
    | with_reducible exact StaysRes.ofFault
    | with_reducible apply StaysRes.ofNext
    | with_reducible apply State.setQp_stays
    | with_reducible apply State.qpStart_stays
    | (extract_lets +onlyGivenNames v
       first
         | (refine (fun (hv : Stays ps s0 v) => ?_) ?_; rotate_left; unfold v; rotate_right)
         | skip
       all_goals (try clear_value v))
    | split

theorem execRatcRemoveDone_stays (a0 : State) (h0 : Stays ps s0 a0) [Has ps .fab] [Has ps .regs] : StaysRes ps s0 (execRatcRemoveDone a0) := by
  unfold execRatcRemoveDone
  repeat' first
    | with_reducible assumption
    | intro _
    | with_reducible apply StaysRes.ofNext
    | with_reducible apply State.flag_stays
    | (extract_lets +onlyGivenNames v; all_goals (try clear_value v))
    | with_reducible exact Burns.refl _
    | with_reducible exact Nat.le_refl _
    | with_reducible exact List.prefix_refl _
    | split
    | (rw [State.mk_build]; refine Stays.upd (fun p hp => by cases p <;> first | exact absurd Has.mem hp | rfl) ?_ ?_ ?_ ?_ ?_)

theorem execRcCounterRead_stays (a0 : RegRef) (a1 : State) (h1 : Stays ps s0 a1) [Has ps .fns] [Has ps .regs] [Has ps .latch] [Has ps .out] : StaysRes ps s0 (execRcCounterRead a0 a1) := by
  unfold execRcCounterRead
  repeat' first
    | with_reducible assumption
    | with_reducible exact StaysRes.ofFault
    | with_reducible apply StaysRes.ofNext
    | with_reducible apply State.hostRead_stays
    | split

theorem execRecordWrite_stays (a0 : Nat) (a1 : Nat) (a2 : State) (h2 : Stays ps s0 a2) [Has ps .fns] [Has ps .inf] [Has ps .rpl] [Has ps .regs] [Has ps .out] : StaysRes ps s0 (execRecordWrite a0 a1 a2) := by
  unfold execRecordWrite
  split
  · exact StaysRes.ofFault
  · split
    · exact StaysRes.ofNext h2
    · split
      · exact StaysRes.ofNext h2
      next heq =>
        have ht := State.nextRec_stays _ _ _ h2 _ heq
        refine StaysRes.ofNext ?_
        split
        · exact State.putCq_stays _ _ _ _ ht
        · exact State.hifEvt_stays _ _ (State.count_stays _ _ _ ht)

theorem execRegisterWrite_stays (a0 : RegRef) (a1 : Nat) (a2 : State) (h2 : Stays ps s0 a2) [Has ps .fns] [Has ps .inf] [Has ps .rpl] [Has ps .regs] [Has ps .out] : StaysRes ps s0 (execRegisterWrite a0 a1 a2) := by
  unfold execRegisterWrite
  repeat' first
    | with_reducible assumption
    | intro _
    | with_reducible exact StaysRes.ofFault
    | with_reducible apply StaysRes.ofNext
    | with_reducible apply State.bar2_stays
    | with_reducible apply State.writeRow_stays
    | with_reducible apply State.page0_stays
    | with_reducible apply State.writePageHalf_stays
    | split

theorem execReplyCacheFree_stays (a0 : State) (h0 : Stays ps s0 a0) [Has ps .fab] : StaysRes ps s0 (execReplyCacheFree a0) := by
  unfold execReplyCacheFree
  repeat' first
    | with_reducible assumption
    | intro _
    | with_reducible apply StaysRes.ofNext
    | (extract_lets +onlyGivenNames v; all_goals (try clear_value v))
    | with_reducible exact Burns.refl _
    | with_reducible exact Nat.le_refl _
    | with_reducible exact List.prefix_refl _
    | (rw [State.mk_build]; refine Stays.upd (fun p hp => by cases p <;> first | exact absurd Has.mem hp | rfl) ?_ ?_ ?_ ?_ ?_)

theorem execRequestTimeout_stays (a0 : Nat) (a1 : State) (h1 : Stays ps s0 a1) [Has ps .lists] [Has ps .units] [Has ps .fns] [Has ps .front] [Has ps .fab] [Has ps .rpl] [Has ps .regs] [Has ps .out] : StaysRes ps s0 (execRequestTimeout a0 a1) := by
  unfold execRequestTimeout
  repeat' first
    | with_reducible assumption
    | with_reducible apply StaysRes.ofNext
    | with_reducible apply State.giveUp_stays
    | split

theorem execScrub_stays (a0 : Nat) (a1 : Bool) (a2 : State) (h2 : Stays ps s0 a2) [Has ps .lists] [Has ps .units] [Has ps .fns] [Has ps .ports] [Has ps .radio] [Has ps .front] [Has ps .tiers] [Has ps .fab] [Has ps .rpl] [Has ps .health] [Has ps .start] [Has ps .regs] [Has ps .out] : StaysRes ps s0 (execScrub a0 a1 a2) := by
  unfold execScrub
  repeat' first
    | with_reducible assumption
    | intro _
    | with_reducible exact StaysRes.ofFault
    | with_reducible apply StaysRes.ofNext
    | with_reducible apply State.count64_stays
    | with_reducible apply State.readSpans_stays
    | (extract_lets +onlyGivenNames v
       first
         | (refine (fun (hv : Stays ps s0 v) => ?_) ?_; rotate_left; unfold v; rotate_right)
         | skip
       all_goals (try clear_value v))
    | with_reducible exact Burns.refl _
    | with_reducible exact Nat.le_refl _
    | with_reducible exact List.prefix_refl _
    | split
    | (rw [State.mk_build]; refine Stays.upd (fun p hp => by cases p <;> first | exact absurd Has.mem hp | rfl) ?_ ?_ ?_ ?_ ?_)

theorem execSentinelResult_stays (a0 : Nat) (a1 : DWord) (a2 : DWord) (a3 : Bool) (a4 : State) (h4 : Stays ps s0 a4) [Has ps .lists] [Has ps .units] [Has ps .fns] [Has ps .ports] [Has ps .radio] [Has ps .front] [Has ps .fab] [Has ps .rpl] [Has ps .health] [Has ps .start] [Has ps .regs] [Has ps .out] : StaysRes ps s0 (execSentinelResult a0 a1 a2 a3 a4) := by
  unfold execSentinelResult
  repeat' first
    | with_reducible assumption
    | intro _
    | with_reducible exact StaysRes.ofFault
    | with_reducible apply StaysRes.ofNext
    | with_reducible apply State.settleUnit_stays
    | with_reducible apply State.testPassed_stays
    | with_reducible apply State.testFailed_stays
    | (extract_lets +onlyGivenNames v
       first
         | (refine (fun (hv : Stays ps s0 v) => ?_) ?_; rotate_left; unfold v; rotate_right)
         | skip
       all_goals (try clear_value v))
    | with_reducible exact Burns.refl _
    | with_reducible exact Nat.le_refl _
    | with_reducible exact List.prefix_refl _
    | split
    | (rw [State.mk_build]; refine Stays.upd (fun p hp => by cases p <;> first | exact absurd Has.mem hp | rfl) ?_ ?_ ?_ ?_ ?_)

theorem execShadowRerunResult_stays (a0 : Nat) (a1 : Nat) (a2 : Nat) (a3 : DWord) (a4 : DWord) (a5 : State) (h5 : Stays ps s0 a5) [Has ps .fns] [Has ps .front] [Has ps .fab] [Has ps .rpl] [Has ps .health] [Has ps .regs] [Has ps .out] : StaysRes ps s0 (execShadowRerunResult a0 a1 a2 a3 a4 a5) := by
  unfold execShadowRerunResult
  repeat' first
    | with_reducible assumption
    | intro _
    | with_reducible exact StaysRes.ofFault
    | with_reducible apply StaysRes.ofNext
    | with_reducible apply State.shadowFault_stays
    | with_reducible apply State.wrongResult_stays
    | (extract_lets +onlyGivenNames v
       first
         | (refine (fun (hv : Stays ps s0 v) => ?_) ?_; rotate_left; unfold v; rotate_right)
         | skip
       all_goals (try clear_value v))
    | with_reducible exact Burns.refl _
    | with_reducible exact Nat.le_refl _
    | with_reducible exact List.prefix_refl _
    | split
    | (rw [State.mk_build]; refine Stays.upd (fun p hp => by cases p <;> first | exact absurd Has.mem hp | rfl) ?_ ?_ ?_ ?_ ?_)

theorem execSignalOn_stays (a0 : Nat) (a1 : State) (h1 : Stays ps s0 a1) [Has ps .fab] : StaysRes ps s0 (execSignalOn a0 a1) := by
  unfold execSignalOn
  repeat' first
    | with_reducible assumption
    | with_reducible exact StaysRes.ofFault
    | with_reducible apply StaysRes.ofNext
    | with_reducible apply State.setPort_stays
    | (extract_lets +onlyGivenNames v; all_goals (try clear_value v))
    | split

theorem execSpareLoad_stays (a0 : Nat) (a1 : State) (h1 : Stays ps s0 a1) [Has ps .fns] [Has ps .inf] [Has ps .health] [Has ps .regs] : StaysRes ps s0 (execSpareLoad a0 a1) := by
  unfold execSpareLoad
  repeat' first
    | with_reducible assumption
    | intro _
    | with_reducible exact StaysRes.ofFault
    | with_reducible apply StaysRes.ofNext
    | with_reducible apply State.hltEvt_stays
    | with_reducible apply State.startPair_stays
    | with_reducible apply State.ownWork_stays
    | (extract_lets +onlyGivenNames v
       first
         | (refine (fun (hv : Stays ps s0 v) => ?_) ?_; rotate_left; unfold v; rotate_right)
         | skip
       all_goals (try clear_value v))
    | with_reducible exact Burns.refl _
    | with_reducible exact Nat.le_refl _
    | with_reducible exact List.prefix_refl _
    | split
    | (rw [State.mk_build]; refine Stays.upd (fun p hp => by cases p <;> first | exact absurd Has.mem hp | rfl) ?_ ?_ ?_ ?_ ?_)

theorem execSpareTestDone_stays (a0 : State) (h0 : Stays ps s0 a0) [Has ps .fns] [Has ps .front] [Has ps .fab] [Has ps .rpl] [Has ps .health] [Has ps .regs] [Has ps .out] : StaysRes ps s0 (execSpareTestDone a0) := by
  unfold execSpareTestDone
  repeat' first
    | with_reducible assumption
    | intro _
    | with_reducible apply StaysRes.ofNext
    | with_reducible apply State.mail_stays
    | (extract_lets +onlyGivenNames v
       first
         | (refine (fun (hv : Stays ps s0 v) => ?_) ?_; rotate_left; unfold v; rotate_right)
         | skip
       all_goals (try clear_value v))
    | with_reducible apply Stays.foldl
    | with_reducible exact Burns.refl _
    | with_reducible exact Nat.le_refl _
    | with_reducible exact List.prefix_refl _
    | split
    | (rw [State.mk_build]; refine Stays.upd (fun p hp => by cases p <;> first | exact absurd Has.mem hp | rfl) ?_ ?_ ?_ ?_ ?_)

theorem execSqDoorbell_stays (a0 : Nat) (a1 : Nat) (a2 : Nat) (a3 : List Cmd) (a4 : State) (h4 : Stays ps s0 a4) [Has ps .fns] [Has ps .rpl] [Has ps .regs] : StaysRes ps s0 (execSqDoorbell a0 a1 a2 a3 a4) := by
  unfold execSqDoorbell
  repeat' first
    | with_reducible assumption
    | with_reducible exact StaysRes.ofFault
    | with_reducible apply StaysRes.ofNext
    | with_reducible apply State.dbErr_stays
    | with_reducible apply State.refuseBad_stays
    | with_reducible apply State.setQp_stays
    | (extract_lets +onlyGivenNames v; all_goals (try clear_value v))
    | split

theorem execSsiSend_stays (a0 : Origin) (a1 : List Byte) (a2 : State) (h2 : Stays ps s0 a2) [Has ps .lists] [Has ps .ctxs] [Has ps .units] [Has ps .fns] [Has ps .acct] [Has ps .radio] [Has ps .front] [Has ps .fab] [Has ps .rpl] [Has ps .health] [Has ps .regs] [Has ps .mem] [Has ps .out] : StaysRes ps s0 (execSsiSend a0 a1 a2) := by
  unfold execSsiSend
  repeat' first
    | with_reducible assumption
    | intro _
    | with_reducible apply StaysSvc.ofDone
    | with_reducible apply State.service_stays
    | with_reducible apply State.dmaIn_stays
    | with_reducible apply State.acct_stays
    | with_reducible apply State.hifEvt_stays
    | with_reducible apply State.ssiAccept_stays
    | (extract_lets +onlyGivenNames v
       first
         | (refine (fun (hv : Stays ps s0 v) => ?_) ?_; rotate_left; unfold v; rotate_right)
         | (refine (fun (hv : Stays ps s0 v.2) => ?_) ?_; rotate_left; unfold v; rotate_right)
         | skip
       all_goals (try clear_value v))
    | split

theorem execStepShadowCompare_stays (a0 : Nat) (a1 : Nat) (a2 : Nat) (a3 : DWord) (a4 : DWord) (a5 : State) (h5 : Stays ps s0 a5) [Has ps .fns] [Has ps .health] [Has ps .regs] : StaysRes ps s0 (execStepShadowCompare a0 a1 a2 a3 a4 a5) := by
  unfold execStepShadowCompare
  repeat' first
    | with_reducible assumption
    | intro _
    | with_reducible exact StaysRes.ofFault
    | with_reducible apply StaysRes.ofNext
    | with_reducible apply State.shadowMatch_stays
    | with_reducible apply State.hltEvt_stays
    | (extract_lets +onlyGivenNames v; all_goals (try clear_value v))
    | with_reducible exact Burns.refl _
    | with_reducible exact Nat.le_refl _
    | with_reducible exact List.prefix_refl _
    | split
    | (rw [State.mk_build]; refine Stays.upd (fun p hp => by cases p <;> first | exact absurd Has.mem hp | rfl) ?_ ?_ ?_ ?_ ?_)

theorem execStewardTokenRegain_stays (a0 : State) (h0 : Stays ps s0 a0) [Has ps .health] : StaysRes ps s0 (execStewardTokenRegain a0) := by
  unfold execStewardTokenRegain
  repeat' first
    | with_reducible assumption
    | intro _
    | with_reducible apply StaysRes.ofNext
    | (extract_lets +onlyGivenNames v; all_goals (try clear_value v))
    | with_reducible exact Burns.refl _
    | with_reducible exact Nat.le_refl _
    | with_reducible exact List.prefix_refl _
    | split
    | (rw [State.mk_build]; refine Stays.upd (fun p hp => by cases p <;> first | exact absurd Has.mem hp | rfl) ?_ ?_ ?_ ?_ ?_)

theorem execTakeoverUnmute_stays (a0 : Nat) (a1 : State) (h1 : Stays ps s0 a1) [Has ps .fns] [Has ps .radio] [Has ps .front] [Has ps .fab] [Has ps .rpl] [Has ps .health] [Has ps .regs] [Has ps .out] : StaysRes ps s0 (execTakeoverUnmute a0 a1) := by
  unfold execTakeoverUnmute
  repeat' first
    | with_reducible assumption
    | intro _
    | with_reducible exact StaysRes.ofFault
    | with_reducible apply StaysRes.ofNext
    | with_reducible apply State.setCell_stays
    | with_reducible apply State.ssiOut_stays
    | with_reducible apply State.hltEvt_stays
    | with_reducible apply State.healthLog_stays
    | with_reducible apply State.cellNote_stays
    | (extract_lets +onlyGivenNames v
       first
         | (refine (fun (hv : Stays ps s0 v) => ?_) ?_; rotate_left; unfold v; rotate_right)
         | skip
       all_goals (try clear_value v))
    | with_reducible apply Stays.foldl
    | with_reducible exact Burns.refl _
    | with_reducible exact Nat.le_refl _
    | with_reducible exact List.prefix_refl _
    | split
    | (rw [State.mk_build]; refine Stays.upd (fun p hp => by cases p <;> first | exact absurd Has.mem hp | rfl) ?_ ?_ ?_ ?_ ?_)

theorem execThermalRevision_stays (a0 : List Int) (a1 : State) (h1 : Stays ps s0 a1) [Has ps .fns] [Has ps .power] [Has ps .regs] : StaysRes ps s0 (execThermalRevision a0 a1) := by
  unfold execThermalRevision
  repeat' first
    | with_reducible assumption
    | intro _
    | with_reducible exact StaysRes.ofFault
    | with_reducible apply StaysRes.ofNext
    | with_reducible apply State.reviseT_stays
    | with_reducible apply State.sensed_stays
    | (extract_lets +onlyGivenNames v; all_goals (try clear_value v))
    | with_reducible apply Stays.foldl
    | split

theorem execThermtrip_stays (a0 : State) (h0 : Stays ps s0 a0) [Has ps .fab] [Has ps .power] : StaysRes ps s0 (execThermtrip a0) := by
  unfold execThermtrip
  repeat' first
    | with_reducible assumption
    | intro _
    | with_reducible apply StaysRes.ofNext
    | (extract_lets +onlyGivenNames v
       first
         | (have hv : (_ → _) := v; clear hv; unfold v; clear v)
         | skip
       all_goals (try clear_value v))
    | with_reducible exact Burns.refl _
    | with_reducible exact Nat.le_refl _
    | with_reducible exact List.prefix_refl _
    | split
    | (rw [State.mk_build]; refine Stays.upd (fun p hp => by cases p <;> first | exact absurd Has.mem hp | rfl) ?_ ?_ ?_ ?_ ?_)

theorem execUnitShadowResult_stays (a0 : Nat) (a1 : Nat) (a2 : Nat) (a3 : DWord) (a4 : DWord) (a5 : DWord) (a6 : State) (h6 : Stays ps s0 a6) [Has ps .lists] [Has ps .units] [Has ps .fns] [Has ps .ports] [Has ps .radio] [Has ps .front] [Has ps .fab] [Has ps .rpl] [Has ps .health] [Has ps .start] [Has ps .regs] [Has ps .out] : StaysRes ps s0 (execUnitShadowResult a0 a1 a2 a3 a4 a5 a6) := by
  unfold execUnitShadowResult
  repeat' first
    | with_reducible assumption
    | intro _
    | with_reducible exact StaysRes.ofFault
    | with_reducible apply StaysRes.ofNext
    | with_reducible apply State.shadowFound_stays
    | with_reducible apply State.shadowMiss_stays
    | (extract_lets +onlyGivenNames v
       first
         | (refine (fun (hv : Stays ps s0 v) => ?_) ?_; rotate_left; unfold v; rotate_right)
         | skip
       all_goals (try clear_value v))
    | with_reducible exact Burns.refl _
    | with_reducible exact Nat.le_refl _
    | with_reducible exact List.prefix_refl _
    | split
    | (rw [State.mk_build]; refine Stays.upd (fun p hp => by cases p <;> first | exact absurd Has.mem hp | rfl) ?_ ?_ ?_ ?_ ?_)

theorem execVfStopComplete_stays (a0 : Nat) (a1 : State) (h1 : Stays ps s0 a1) [Has ps .fns] [Has ps .inf] [Has ps .tiers] [Has ps .rpl] [Has ps .regs] : StaysRes ps s0 (execVfStopComplete a0 a1) := by
  unfold execVfStopComplete
  repeat' first
    | with_reducible assumption
    | with_reducible exact StaysRes.ofFault
    | with_reducible apply StaysRes.ofNext
    | with_reducible apply State.dropFnRecs_stays
    | with_reducible apply State.dropPages_stays
    | with_reducible apply State.stopMigs_stays
    | with_reducible apply State.setFn_stays
    | with_reducible apply State.vfStart_stays
    | (extract_lets +onlyGivenNames v
       first
         | (refine (fun (hv : Stays ps s0 v) => ?_) ?_; rotate_left; unfold v; rotate_right)
         | skip
       all_goals (try clear_value v))
    | split

theorem execWorkHandover_stays (a0 : State) (h0 : Stays ps s0 a0) [Has ps .lists] [Has ps .ctxs] [Has ps .units] [Has ps .fns] [Has ps .ports] [Has ps .mat] [Has ps .inf] [Has ps .chm] [Has ps .radio] [Has ps .front] [Has ps .tiers] [Has ps .fab] [Has ps .rpl] [Has ps .health] [Has ps .start] [Has ps .regs] [Has ps .out] : StaysRes ps s0 (execWorkHandover a0) := by
  unfold execWorkHandover
  repeat' first
    | with_reducible assumption
    | intro _
    | with_reducible apply StaysRes.ofNext
    | with_reducible apply State.endUnmirrored_stays
    | with_reducible apply State.handMirrored_stays
    | with_reducible apply State.setDev_stays
    | with_reducible apply State.setExpel_stays
    | (extract_lets +onlyGivenNames v
       first
         | (refine (fun (hv : Stays ps s0 v) => ?_) ?_; rotate_left; unfold v; rotate_right)
         | skip
       all_goals (try clear_value v))
    | with_reducible exact Burns.refl _
    | with_reducible exact Nat.le_refl _
    | with_reducible exact List.prefix_refl _
    | split
    | (rw [State.mk_build]; refine Stays.upd (fun p hp => by cases p <;> first | exact absurd Has.mem hp | rfl) ?_ ?_ ?_ ?_ ?_)

end Sys2Proof.Machine
end

