-- ==== Sys2Proof/Laws/StaysStart.lean ====
section
/-! SUPPORT. Each function of start, trust and the recorder keeps what every command keeps and changes only some parts: one lemma a function. -/
namespace Sys2Proof.Machine

variable {ps : List Part} {s0 : State}

theorem State.haltTenants_stays (a0 : State) (h0 : Stays ps s0 a0) [Has ps .lists] [Has ps .ctxs] [Has ps .units] [Has ps .fns] [Has ps .ports] [Has ps .mat] [Has ps .inf] [Has ps .chm] [Has ps .radio] [Has ps .front] [Has ps .tiers] [Has ps .fab] [Has ps .rpl] [Has ps .health] [Has ps .start] [Has ps .regs] [Has ps .out] : Stays ps s0 (State.haltTenants a0) := by
  unfold State.haltTenants
  repeat' first
    | with_reducible assumption
    | intro _
    | with_reducible apply State.setDev_stays
    | with_reducible apply State.vfStop_stays
    | (extract_lets +onlyGivenNames v
       first
         | (have hv : Start := v; clear hv; unfold v; clear v)
         | (refine (fun (hv : Stays ps s0 v) => ?_) ?_; rotate_left; unfold v; rotate_right)
         | skip
       all_goals (try clear_value v))
    | with_reducible apply Stays.foldl
    | with_reducible exact Nat.le_refl _
    | with_reducible exact List.prefix_refl _
    | exact Burns.same rfl rfl rfl rfl rfl rfl
    | split
    | (rw [State.mk_build]; refine Stays.upd (fun p hp => by cases p <;> first | exact absurd Has.mem hp | rfl) ?_ ?_ ?_ ?_ ?_)

theorem State.eraseSession_stays (a0 : State) (h0 : Stays ps s0 a0) [Has ps .start] : Stays ps s0 (State.eraseSession a0) := by
  unfold State.eraseSession
  repeat' first
    | with_reducible assumption
    | intro _
    | (extract_lets +onlyGivenNames v
       first
         | (have hv : Start := v; clear hv; unfold v; clear v)
         | skip
       all_goals (try clear_value v))
    | with_reducible exact Nat.le_refl _
    | with_reducible exact List.prefix_refl _
    | exact Burns.same rfl rfl rfl rfl rfl rfl
    | (rw [State.mk_build]; refine Stays.upd (fun p hp => by cases p <;> first | exact absurd Has.mem hp | rfl) ?_ ?_ ?_ ?_ ?_)

theorem State.killCell_stays (a0 : State) (a1 : Nat) (h0 : Stays ps s0 a0) [Has ps .lists] [Has ps .ctxs] [Has ps .fns] [Has ps .mat] [Has ps .radio] [Has ps .front] [Has ps .tiers] [Has ps .fab] [Has ps .rpl] [Has ps .health] [Has ps .regs] [Has ps .mem] [Has ps .out] : Stays ps s0 (State.killCell a0 a1) := by
  unfold State.killCell
  repeat' first
    | with_reducible assumption
    | with_reducible apply State.cellGone_stays
    | with_reducible apply State.setCell_stays

theorem State.eraseAll_stays (a0 : State) (h0 : Stays ps s0 a0) [Has ps .lists] [Has ps .ctxs] [Has ps .fns] [Has ps .ports] [Has ps .mat] [Has ps .radio] [Has ps .front] [Has ps .tiers] [Has ps .fab] [Has ps .rpl] [Has ps .health] [Has ps .start] [Has ps .regs] [Has ps .mem] [Has ps .out] : Stays ps s0 (State.eraseAll a0) := by
  unfold State.eraseAll
  extract_lets x v w y
  have hv : Stays ps s0 v := by
    unfold v
    rw [State.mk_build]
    exact Stays.upd (fun p hp => by cases p <;> first | exact absurd Has.mem hp | rfl) h0 id (List.prefix_refl _) (Nat.le_refl _)
      ⟨Nat.le_refl _, rfl, rfl, fun _ => rfl, fun h => ⟨h, rfl⟩⟩
  have hw : Stays ps s0 w := Stays.foldl hv (fun u x hu => State.setPortEn_stays _ _ _ hu)
  have hy : Stays ps s0 y := Stays.foldl hw (fun u x hu => State.killCell_stays _ _ hu)
  exact State.setDev_stays _ _ hy

theorem State.takeAction_stays (a0 : State) (a1 : Nat) (h0 : Stays ps s0 a0) [Has ps .lists] [Has ps .ctxs] [Has ps .units] [Has ps .fns] [Has ps .ports] [Has ps .mat] [Has ps .inf] [Has ps .chm] [Has ps .radio] [Has ps .front] [Has ps .tiers] [Has ps .fab] [Has ps .rpl] [Has ps .health] [Has ps .start] [Has ps .regs] [Has ps .mem] [Has ps .out] : Stays ps s0 (State.takeAction a0 a1) := by
  unfold State.takeAction
  repeat' first
    | with_reducible assumption
    | intro _
    | with_reducible apply State.haltTenants_stays
    | with_reducible apply State.eraseSession_stays
    | with_reducible apply State.eraseAll_stays
    | (extract_lets +onlyGivenNames v
       first
         | (have hv : Start := v; clear hv; unfold v; clear v)
         | (refine (fun (hv : Stays ps s0 v) => ?_) ?_; rotate_left; unfold v; rotate_right)
         | skip
       all_goals (try clear_value v))
    | with_reducible exact Nat.le_refl _
    | with_reducible exact List.prefix_refl _
    | exact Burns.same rfl rfl rfl rfl rfl rfl
    | split
    | (rw [State.mk_build]; refine Stays.upd (fun p hp => by cases p <;> first | exact absurd Has.mem hp | rfl) ?_ ?_ ?_ ?_ ?_)

theorem State.alarmLog_stays (a0 : State) (a1 : Nat) (h0 : Stays ps s0 a0) [Has ps .fns] [Has ps .start] [Has ps .regs] : Stays ps s0 (State.alarmLog a0 a1) := by
  unfold State.alarmLog
  repeat' first
    | with_reducible assumption
    | intro _
    | with_reducible apply State.flag_stays
    | with_reducible apply State.setReg_stays
    | with_reducible apply State.raiseAll_stays
    | (extract_lets +onlyGivenNames v
       first
         | (have hv : Start := v; clear hv; unfold v; clear v)
         | skip
       all_goals (try clear_value v))
    | with_reducible exact Nat.le_refl _
    | with_reducible exact List.prefix_refl _
    | exact Burns.same rfl rfl rfl rfl rfl rfl
    | split
    | (rw [State.mk_build]; refine Stays.upd (fun p hp => by cases p <;> first | exact absurd Has.mem hp | rfl) ?_ ?_ ?_ ?_ ?_)

theorem State.alarm_stays (a0 : State) (a1 : Nat) (h0 : Stays ps s0 a0) [Has ps .lists] [Has ps .ctxs] [Has ps .units] [Has ps .fns] [Has ps .ports] [Has ps .mat] [Has ps .inf] [Has ps .chm] [Has ps .radio] [Has ps .front] [Has ps .tiers] [Has ps .fab] [Has ps .rpl] [Has ps .health] [Has ps .start] [Has ps .regs] [Has ps .mem] [Has ps .out] : Stays ps s0 (State.alarm a0 a1) := by
  unfold State.alarm
  repeat' first
    | with_reducible assumption
    | with_reducible apply State.takeAction_stays
    | with_reducible apply State.alarmLog_stays

theorem State.deriveAlias_stays (a0 : State) (h0 : Stays ps s0 a0) [Has ps .start] : Stays ps s0 (State.deriveAlias a0) := by
  unfold State.deriveAlias
  repeat' first
    | with_reducible assumption
    | intro _
    | (extract_lets +onlyGivenNames v
       first
         | (have hv : Start := v; clear hv; unfold v; clear v)
         | skip
       all_goals (try clear_value v))
    | with_reducible exact Nat.le_refl _
    | with_reducible exact List.prefix_refl _
    | exact Burns.same rfl rfl rfl rfl rfl rfl
    | (rw [State.mk_build]; refine Stays.upd (fun p hp => by cases p <;> first | exact absurd Has.mem hp | rfl) ?_ ?_ ?_ ?_ ?_)

theorem State.pauseRefused_stays (a0 : State) (a1 : Nat) (h0 : Stays ps s0 a0) [Has ps .fns] [Has ps .regs] : Stays ps s0 (State.pauseRefused a0 a1) := by
  unfold State.pauseRefused
  repeat' first
    | with_reducible assumption
    | with_reducible apply State.rplEvt_stays
    | with_reducible apply State.setReg_stays

theorem State.pauseModel_stays (a0 : State) (a1 : Nat) (a2 : Nat) (h0 : Stays ps s0 a0) [Has ps .fns] [Has ps .inf] [Has ps .regs] : Stays ps s0 (State.pauseModel a0 a1 a2) := by
  unfold State.pauseModel
  repeat' first
    | with_reducible assumption
    | with_reducible apply State.pauseRefused_stays
    | with_reducible apply State.setReg_stays
    | with_reducible apply State.setModel_stays
    | (extract_lets +onlyGivenNames v; all_goals (try clear_value v))
    | split

theorem State.pauseOne_stays (a0 : State) (a1 : Nat) (h0 : Stays ps s0 a0) [Has ps .ctxs] [Has ps .fns] [Has ps .regs] : Stays ps s0 (State.pauseOne a0 a1) := by
  unfold State.pauseOne
  repeat' first
    | with_reducible assumption
    | with_reducible apply State.pauseRefused_stays
    | with_reducible apply State.setReg_stays
    | with_reducible apply State.pauseCtx_stays
    | with_reducible apply State.rplEvt_stays
    | split

theorem State.doPause_stays (a0 : State) (h0 : Stays ps s0 a0) [Has ps .ctxs] [Has ps .fns] [Has ps .inf] [Has ps .regs] : Stays ps s0 (State.doPause a0) := by
  unfold State.doPause
  repeat' first
    | with_reducible assumption
    | with_reducible apply State.pauseModel_stays
    | with_reducible apply State.pauseOne_stays
    | split

theorem State.doResume_stays (a0 : State) (h0 : Stays ps s0 a0) [Has ps .ctxs] [Has ps .fns] [Has ps .inf] [Has ps .regs] : Stays ps s0 (State.doResume a0) := by
  unfold State.doResume
  repeat' first
    | with_reducible assumption
    | with_reducible apply State.pauseRefused_stays
    | with_reducible apply State.setReg_stays
    | with_reducible apply State.resumeModel_stays
    | with_reducible apply State.refresh_stays
    | with_reducible apply State.updCtx_stays
    | split

theorem State.startFails_stays (a0 : State) (h0 : Stays ps s0 a0) [Has ps .fns] [Has ps .start] [Has ps .regs] : Stays ps s0 (State.startFails a0) := by
  have h := State.deriveAlias_stays _ h0
  unfold State.startFails
  refine State.setDev_stays _ _ ?_
  generalize a0.deriveAlias = u at h ⊢
  rw [State.mk_build]
  exact Stays.upd (fun p hp => by cases p <;> first | exact absurd Has.mem hp | rfl) h id (List.prefix_refl _) (Nat.le_refl _) (Burns.same rfl rfl rfl rfl rfl rfl)

theorem State.endP0_stays (a0 : State) (h0 : Stays ps s0 a0) [Has ps .fns] [Has ps .start] [Has ps .regs] [Has ps .drawn] : Stays ps s0 (State.endP0 a0) := by
  unfold State.endP0
  repeat' first
    | with_reducible assumption
    | intro _
    | with_reducible apply State.mrExtend_stays
    | with_reducible apply State.startFails_stays
    | (extract_lets +onlyGivenNames v
       first
         | (have hv : Start := v; clear hv; unfold v; clear v)
         | (refine (fun (hv : Stays ps s0 v) => ?_) ?_; rotate_left; unfold v; rotate_right)
         | skip
       all_goals (try clear_value v))
    | with_reducible exact Nat.le_succ _
    | with_reducible exact List.prefix_refl _
    | exact Burns.same rfl rfl rfl rfl rfl rfl
    | split
    | (rw [State.mk_build]; refine Stays.upd (fun p hp => by cases p <;> first | exact absurd Has.mem hp | rfl) ?_ ?_ ?_ ?_ ?_)

theorem State.readSlot_stays (a0 : State) (a1 : Nat) (h0 : Stays ps s0 a0) [Has ps .lists] [Has ps .ctxs] [Has ps .units] [Has ps .fns] [Has ps .ports] [Has ps .mat] [Has ps .inf] [Has ps .chm] [Has ps .radio] [Has ps .front] [Has ps .tiers] [Has ps .fab] [Has ps .rpl] [Has ps .health] [Has ps .start] [Has ps .regs] [Has ps .mem] [Has ps .out] : Stays ps s0 (State.readSlot a0 a1) := by
  unfold State.readSlot
  repeat' first
    | with_reducible assumption
    | intro _
    | with_reducible apply State.alarm_stays
    | (extract_lets +onlyGivenNames v
       first
         | (have hv : Start := v; clear hv; unfold v; clear v)
         | (refine (fun (hv : Stays ps s0 v) => ?_) ?_; rotate_left; unfold v; rotate_right)
         | skip
       all_goals (try clear_value v))
    | with_reducible exact Nat.le_refl _
    | with_reducible exact List.prefix_refl _
    | exact Burns.same rfl rfl rfl rfl rfl rfl
    | split
    | (rw [State.mk_build]; refine Stays.upd (fun p hp => by cases p <;> first | exact absurd Has.mem hp | rfl) ?_ ?_ ?_ ?_ ?_)

theorem State.takeSlot_stays (a0 : State) (a1 : Nat) (h0 : Stays ps s0 a0) [Has ps .start] : Stays ps s0 (State.takeSlot a0 a1) := by
  unfold State.takeSlot
  repeat' first
    | with_reducible assumption
    | intro _
    | with_reducible apply State.mrExtend_stays
    | (extract_lets +onlyGivenNames v
       first
         | (have hv : Start := v; clear hv; unfold v; clear v)
         | skip
       all_goals (try clear_value v))
    | with_reducible exact Nat.le_refl _
    | with_reducible exact List.prefix_refl _
    | exact Burns.same rfl rfl rfl rfl rfl rfl
    | (rw [State.mk_build]; refine Stays.upd (fun p hp => by cases p <;> first | exact absurd Has.mem hp | rfl) ?_ ?_ ?_ ?_ ?_)

theorem State.endP1_stays (a0 : State) (h0 : Stays ps s0 a0) [Has ps .lists] [Has ps .ctxs] [Has ps .units] [Has ps .fns] [Has ps .ports] [Has ps .mat] [Has ps .inf] [Has ps .chm] [Has ps .radio] [Has ps .front] [Has ps .tiers] [Has ps .fab] [Has ps .rpl] [Has ps .health] [Has ps .start] [Has ps .regs] [Has ps .mem] [Has ps .out] : Stays ps s0 (State.endP1 a0) := by
  unfold State.endP1
  repeat' first
    | with_reducible assumption
    | intro _
    | with_reducible apply State.readSlot_stays
    | with_reducible apply State.startFails_stays
    | with_reducible apply State.takeSlot_stays
    | (extract_lets +onlyGivenNames v
       first
         | (have hv : Start := v; clear hv; unfold v; clear v)
         | (refine (fun (hv : Stays ps s0 v) => ?_) ?_; rotate_left; unfold v; rotate_right)
         | skip
       all_goals (try clear_value v))
    | with_reducible exact Nat.le_refl _
    | with_reducible exact List.prefix_refl _
    | exact Burns.same rfl rfl rfl rfl rfl rfl
    | split
    | (rw [State.mk_build]; refine Stays.upd (fun p hp => by cases p <;> first | exact absurd Has.mem hp | rfl) ?_ ?_ ?_ ?_ ?_)

theorem State.endP2_stays (a0 : State) (a1 : Nat) (h0 : Stays ps s0 a0) [Has ps .start] : Stays ps s0 (State.endP2 a0 a1) := by
  unfold State.endP2
  repeat' first
    | with_reducible assumption
    | intro _
    | (extract_lets +onlyGivenNames v
       first
         | (have hv : Start := v; clear hv; unfold v; clear v)
         | skip
       all_goals (try clear_value v))
    | with_reducible exact Nat.le_refl _
    | with_reducible exact List.prefix_refl _
    | exact Burns.same rfl rfl rfl rfl rfl rfl
    | (rw [State.mk_build]; refine Stays.upd (fun p hp => by cases p <;> first | exact absurd Has.mem hp | rfl) ?_ ?_ ?_ ?_ ?_)

theorem State.refuseSlot_stays (a0 : State) (a1 : Nat) (a2 : Nat) (h0 : Stays ps s0 a0) [Has ps .lists] [Has ps .ctxs] [Has ps .units] [Has ps .fns] [Has ps .ports] [Has ps .mat] [Has ps .inf] [Has ps .chm] [Has ps .radio] [Has ps .front] [Has ps .tiers] [Has ps .fab] [Has ps .rpl] [Has ps .health] [Has ps .start] [Has ps .regs] [Has ps .mem] [Has ps .out] : Stays ps s0 (State.refuseSlot a0 a1 a2) := by
  unfold State.refuseSlot
  extract_lets +onlyGivenNames i j x y mr z v w
  have hv : Stays ps s0 v := by
    unfold v; rw [State.mk_build]; exact Stays.upd (fun p hp => by cases p <;> first | exact absurd Has.mem hp | rfl) h0 id (List.prefix_refl _) (Nat.le_refl _) (Burns.same rfl rfl rfl rfl rfl rfl)
  have hw : Stays ps s0 w := by
    unfold w
    split
    · exact State.alarm_stays _ _ hv
    · exact hv
  split
  · exact State.startFails_stays _ hw
  · split
    · extract_lets c
      refine State.startFails_stays _ ?_
      rw [State.mk_build]
      exact Stays.upd (fun p hp => by cases p <;> first | exact absurd Has.mem hp | rfl) hw id (List.prefix_refl _) (Nat.le_refl _) (Burns.same rfl rfl rfl rfl rfl rfl)
    · have hs : Stays ps s0 (w.takeSlot j) := State.takeSlot_stays _ _ hw
      generalize w.takeSlot j = b at hs ⊢
      show Stays ps s0 (State.mk _ _ _ _ _ _ _ _ _ _ _ _ _ _ _ _ _ _ _ _)
      rw [State.mk_build]
      exact Stays.upd (fun p hp => by cases p <;> first | exact absurd Has.mem hp | rfl) hs id (List.prefix_refl _) (Nat.le_refl _) (Burns.same rfl rfl rfl rfl rfl rfl)

theorem State.endP3_stays (a0 : State) (h0 : Stays ps s0 a0) [Has ps .lists] [Has ps .ctxs] [Has ps .units] [Has ps .fns] [Has ps .ports] [Has ps .mat] [Has ps .inf] [Has ps .chm] [Has ps .radio] [Has ps .front] [Has ps .tiers] [Has ps .fab] [Has ps .rpl] [Has ps .health] [Has ps .start] [Has ps .regs] [Has ps .mem] [Has ps .out] : Stays ps s0 (State.endP3 a0) := by
  unfold State.endP3
  repeat' first
    | with_reducible assumption
    | intro _
    | with_reducible apply State.refuseSlot_stays
    | with_reducible apply State.mrExtend_stays
    | (extract_lets +onlyGivenNames v
       first
         | (have hv : Start := v; clear hv; unfold v; clear v)
         | (refine (fun (hv : Stays ps s0 v) => ?_) ?_; rotate_left; unfold v; rotate_right)
         | skip
       all_goals (try clear_value v))
    | with_reducible apply Stays.foldl
    | with_reducible exact Nat.le_refl _
    | with_reducible exact List.prefix_refl _
    | exact Burns.same rfl rfl rfl rfl rfl rfl
    | split
    | (rw [State.mk_build]; refine Stays.upd (fun p hp => by cases p <;> first | exact absurd Has.mem hp | rfl) ?_ ?_ ?_ ?_ ?_)

theorem State.startFlags_stays (a0 : State) (h0 : Stays ps s0 a0) [Has ps .fns] [Has ps .regs] : Stays ps s0 (State.startFlags a0) := by
  unfold State.startFlags
  repeat' first
    | with_reducible assumption
    | with_reducible apply State.raise_stays
    | split

theorem State.startHealth_stays (a0 : State) (h0 : Stays ps s0 a0) [Has ps .health] : Stays ps s0 (State.startHealth a0) := by
  unfold State.startHealth
  repeat' first
    | with_reducible assumption
    | intro _
    | with_reducible apply State.startPair_stays
    | (extract_lets +onlyGivenNames v; all_goals (try clear_value v))
    | with_reducible exact Burns.refl _
    | with_reducible exact Nat.le_refl _
    | with_reducible exact List.prefix_refl _
    | split
    | (rw [State.mk_build]; refine Stays.upd (fun p hp => by cases p <;> first | exact absurd Has.mem hp | rfl) ?_ ?_ ?_ ?_ ?_)

theorem State.startPorts_stays (a0 : State) (h0 : Stays ps s0 a0) [Has ps .lists] [Has ps .units] [Has ps .fns] [Has ps .ports] [Has ps .front] [Has ps .fab] [Has ps .rpl] [Has ps .regs] [Has ps .out] : Stays ps s0 (State.startPorts a0) := by
  unfold State.startPorts
  repeat' first
    | with_reducible assumption
    | intro _
    | with_reducible apply State.fhEnable_stays
    | with_reducible apply State.losePlane_stays
    | with_reducible apply State.setPortEn_stays
    | (extract_lets +onlyGivenNames v
       first
         | (refine (fun (hv : Stays ps s0 v) => ?_) ?_; rotate_left; unfold v; rotate_right)
         | skip
       all_goals (try clear_value v))
    | with_reducible apply Stays.foldl
    | split

theorem State.firstServe_stays (a0 : State) (h0 : Stays ps s0 a0) [Has ps .lists] [Has ps .ctxs] [Has ps .units] [Has ps .fns] [Has ps .ports] [Has ps .mat] [Has ps .inf] [Has ps .chm] [Has ps .radio] [Has ps .front] [Has ps .tiers] [Has ps .fab] [Has ps .rpl] [Has ps .health] [Has ps .start] [Has ps .regs] [Has ps .out] : Stays ps s0 (State.firstServe a0) := by
  unfold State.firstServe
  have h := State.deriveAlias_stays _ h0
  generalize a0.deriveAlias = u at h ⊢
  extract_lets +onlyGivenNames q ms v x y z
  have hx : Stays ps s0 x := by
    unfold x
    rw [State.mk_build]
    exact Stays.upd (fun p hp => by cases p <;> first | exact absurd Has.mem hp | rfl) (t := q) h id (List.prefix_refl _) (Nat.le_refl _) (Burns.same rfl rfl rfl rfl rfl rfl)
  have hy : Stays ps s0 y := by
    refine State.startFlags_stays _ (State.startHealth_stays _ (State.startPorts_stays _ ?_))
    split
    · exact hx
    · exact State.redev_stays _ (State.setDev_stays _ _ hx)
  have hz : Stays ps s0 z := Stays.foldl hy (fun u w hu => State.vfRelease_stays _ _ hu)
  split
  · exact State.recBegin_stays _ _ hz
  · exact hz

theorem State.endP4_stays (a0 : State) (h0 : Stays ps s0 a0) [Has ps .lists] [Has ps .ctxs] [Has ps .units] [Has ps .fns] [Has ps .ports] [Has ps .mat] [Has ps .inf] [Has ps .chm] [Has ps .radio] [Has ps .front] [Has ps .tiers] [Has ps .fab] [Has ps .rpl] [Has ps .health] [Has ps .start] [Has ps .regs] [Has ps .mem] [Has ps .out] : Stays ps s0 (State.endP4 a0) := by
  unfold State.endP4
  repeat' first
    | with_reducible assumption
    | with_reducible apply State.p4_stays
    | with_reducible apply State.refuseSlot_stays
    | with_reducible apply State.firstServe_stays
    | (extract_lets +onlyGivenNames v; refine (fun (hv : Stays ps s0 v.st) => ?_) ?_; rotate_left; unfold v; rotate_right; all_goals (try clear_value v))
    | split

theorem State.endP5_stays (a0 : State) (h0 : Stays ps s0 a0) [Has ps .ports] [Has ps .start] [Has ps .mem] : Stays ps s0 (State.endP5 a0) := by
  unfold State.endP5
  repeat' first
    | with_reducible assumption
    | intro _
    | with_reducible apply State.setPortEn_stays
    | (extract_lets +onlyGivenNames v
       first
         | (have hv : Start := v; clear hv; unfold v; clear v)
         | (refine (fun (hv : Stays ps s0 v) => ?_) ?_; rotate_left; unfold v; rotate_right)
         | skip
       all_goals (try clear_value v))
    | with_reducible apply Stays.foldl
    | with_reducible exact Nat.le_refl _
    | with_reducible exact List.prefix_refl _
    | exact Burns.same rfl rfl rfl rfl rfl rfl
    | with_reducible apply Mem.wf_clear
    | (rw [State.mk_build]; refine Stays.upd (fun p hp => by cases p <;> first | exact absurd Has.mem hp | rfl) ?_ ?_ ?_ ?_ ?_)

theorem State.flashCmd_stays (a0 : State) (a1 : Nat) (a2 : State → State) (h0 : Stays ps s0 a0) (h2 : ∀ u, Stays ps s0 u → Stays ps s0 (a2 u)) [Has ps .fns] [Has ps .rpl] [Has ps .start] [Has ps .regs] : Stays ps s0 (State.flashCmd a0 a1 a2) := by
  unfold State.flashCmd
  repeat' first
    | with_reducible assumption
    | intro _
    | with_reducible apply State.bar2_stays
    | with_reducible apply State.setReg_stays
    | with_reducible apply State.flag_stays
    | with_reducible apply h2
    | (extract_lets +onlyGivenNames v
       first
         | (have hv : Start := v; clear hv; unfold v; clear v)
         | skip
       all_goals (try clear_value v))
    | with_reducible exact Nat.le_refl _
    | with_reducible exact List.prefix_refl _
    | exact Burns.same rfl rfl rfl rfl rfl rfl
    | split
    | (rw [State.mk_build]; refine Stays.upd (fun p hp => by cases p <;> first | exact absurd Has.mem hp | rfl) ?_ ?_ ?_ ?_ ?_)

theorem State.flashLost_stays (a0 : State) (a1 : Nat) (a2 : Nat) (h0 : Stays ps s0 a0) [Has ps .mem] [Has ps .drawn] : Stays ps s0 (State.flashLost a0 a1 a2) := by
  unfold State.flashLost
  repeat' first
    | with_reducible assumption
    | intro _
    | (extract_lets +onlyGivenNames v; all_goals (try clear_value v))
    | with_reducible exact Burns.refl _
    | with_reducible exact Nat.le_succ _
    | with_reducible exact List.prefix_refl _
    | with_reducible apply Mem.wf_wrBytes
    | (rw [State.mk_build]; refine Stays.upd (fun p hp => by cases p <;> first | exact absurd Has.mem hp | rfl) ?_ ?_ ?_ ?_ ?_)

theorem State.fuseCmd_stays (a0 : State) (a1 : Nat) (a2 : Nat) (a3 : State → Bool) (a4 : State → State) (h0 : Stays ps s0 a0) (h4 : ∀ u, Stays ps s0 u → Stays ps s0 (a4 u)) [Has ps .fns] [Has ps .rpl] [Has ps .regs] : Stays ps s0 (State.fuseCmd a0 a1 a2 a3 a4) := by
  unfold State.fuseCmd
  repeat' first
    | with_reducible assumption
    | intro _
    | with_reducible apply State.bar2_stays
    | with_reducible apply State.flag_stays
    | with_reducible apply h4
    | (extract_lets +onlyGivenNames v; all_goals (try clear_value v))
    | split

theorem State.injFctl_stays (a0 : State) (a1 : Nat) (h0 : Stays ps s0 a0) [Has ps .lists] [Has ps .ctxs] [Has ps .units] [Has ps .fns] [Has ps .vfs] [Has ps .ports] [Has ps .mat] [Has ps .inf] [Has ps .chm] [Has ps .radio] [Has ps .front] [Has ps .tiers] [Has ps .fab] [Has ps .rpl] [Has ps .health] [Has ps .start] [Has ps .regs] [Has ps .out] : StaysRes ps s0 (State.injFctl a0 a1) := by
  unfold State.injFctl
  repeat' first
    | with_reducible assumption
    | with_reducible apply StaysRes.ofNext
    | with_reducible apply execFctlVfEnable_stays
    | with_reducible apply execFctlVfDisable_stays
    | with_reducible apply execFctlUnitEnable_stays
    | with_reducible apply execFctlUnitDisable_stays
    | with_reducible apply execFctlFhPortEnable_stays
    | with_reducible apply execFctlFhPortDisable_stays
    | with_reducible apply execFctlFabPortEnable_stays
    | with_reducible apply execFctlFabPortDisable_stays
    | (extract_lets +onlyGivenNames v; all_goals (try clear_value v))
    | split

theorem execRestartArm_stays (a0 : State) (h0 : Stays ps s0 a0) [Has ps .fns] [Has ps .rpl] [Has ps .start] [Has ps .regs] : StaysRes ps s0 (execRestartArm a0) := by
  unfold execRestartArm
  repeat' first
    | with_reducible assumption
    | intro _
    | with_reducible apply StaysRes.ofNext
    | with_reducible apply State.bar2_stays
    | with_reducible apply State.raiseAll_stays
    | with_reducible apply State.flag_stays
    | (extract_lets +onlyGivenNames v
       first
         | (have hv : Start := v; clear hv; unfold v; clear v)
         | skip
       all_goals (try clear_value v))
    | with_reducible exact Nat.le_refl _
    | with_reducible exact List.prefix_refl _
    | exact Burns.same rfl rfl rfl rfl rfl rfl
    | split
    | (rw [State.mk_build]; refine Stays.upd (fun p hp => by cases p <;> first | exact absurd Has.mem hp | rfl) ?_ ?_ ?_ ?_ ?_)

theorem execRestartCancel_stays (a0 : State) (h0 : Stays ps s0 a0) [Has ps .fns] [Has ps .rpl] [Has ps .start] [Has ps .regs] : StaysRes ps s0 (execRestartCancel a0) := by
  unfold execRestartCancel
  repeat' first
    | with_reducible assumption
    | intro _
    | with_reducible apply StaysRes.ofNext
    | with_reducible apply State.bar2_stays
    | (extract_lets +onlyGivenNames v
       first
         | (have hv : Start := v; clear hv; unfold v; clear v)
         | skip
       all_goals (try clear_value v))
    | with_reducible exact Nat.le_refl _
    | with_reducible exact List.prefix_refl _
    | exact Burns.same rfl rfl rfl rfl rfl rfl
    | split
    | (rw [State.mk_build]; refine Stays.upd (fun p hp => by cases p <;> first | exact absurd Has.mem hp | rfl) ?_ ?_ ?_ ?_ ?_)

theorem execCommitSvn_stays (a0 : Nat) (a1 : State) (h1 : Stays ps s0 a1) [Has ps .fns] [Has ps .rpl] [Has ps .start] [Has ps .regs] : StaysRes ps s0 (execCommitSvn a0 a1) := by
  unfold execCommitSvn
  refine StaysRes.ofNext (State.fuseCmd_stays _ _ _ _ _ h1 (fun u hu => ?_))
  rw [State.mk_build]
  exact Stays.upd (fun p hp => by cases p <;> first | exact absurd Has.mem hp | rfl) hu id (List.prefix_refl _) (Nat.le_refl _) ⟨Nat.le_max_left _ _, rfl, rfl, id, fun h => ⟨h, rfl⟩⟩

theorem execTakeOwner_stays (a0 : Nat) (a1 : State) (h1 : Stays ps s0 a1) [Has ps .fns] [Has ps .rpl] [Has ps .start] [Has ps .regs] : StaysRes ps s0 (execTakeOwner a0 a1) := by
  unfold execTakeOwner
  refine StaysRes.ofNext ?_
  unfold State.fuseCmd State.bar2
  split
  · exact State.skipIn_stays _ h1
  · have hl := State.logIn_stays (s0 := s0) a1 5 0x04 pf0 (BitVec.ofNat 64 (Reg.HUB_CMD + 2 * 2 ^ 48)) (leBytes 4 (4 + a0 % 2 ^ 16 * 2 ^ 16)) h1
    generalize a1.logIn 5 0x04 pf0 _ _ = u at hl ⊢
    show Stays ps s0 (if a0 % 2 ^ 16 = 0x4B44 ∧ u.start.served = true ∧ (!u.start.ownerSet) = true then _ else _)
    split
    next hc =>
      show Stays ps s0 (State.mk _ _ _ _ _ _ _ _ _ _ _ _ _ _ _ _ _ _ _ _)
      rw [State.mk_build]
      refine Stays.upd (fun p hp => by cases p <;> first | exact absurd Has.mem hp | rfl) hl id (List.prefix_refl _) (Nat.le_refl _) ⟨Nat.le_refl _, rfl, rfl, id, fun h => ?_⟩
      have := hc.2.2
      rw [h] at this
      cases this
    · exact State.flag_stays _ _ _ hl

theorem execFlashErase_stays (a0 : State) (h0 : Stays ps s0 a0) [Has ps .fns] [Has ps .rpl] [Has ps .start] [Has ps .regs] [Has ps .mem] : StaysRes ps s0 (execFlashErase a0) := by
  unfold execFlashErase
  repeat' first
    | with_reducible assumption
    | intro _
    | with_reducible apply StaysRes.ofNext
    | with_reducible apply State.flashCmd_stays
    | (extract_lets +onlyGivenNames v
       first
         | (have hv : Start := v; clear hv; unfold v; clear v)
         | skip
       all_goals (try clear_value v))
    | with_reducible exact Nat.le_refl _
    | with_reducible exact List.prefix_refl _
    | exact Burns.same rfl rfl rfl rfl rfl rfl
    | with_reducible apply Mem.wf_clear
    | (rw [State.mk_build]; refine Stays.upd (fun p hp => by cases p <;> first | exact absurd Has.mem hp | rfl) ?_ ?_ ?_ ?_ ?_)

theorem State.program_stays (a0 : State) (a1 : Nat) (a2 : List Byte) (h0 : Stays ps s0 a0) [Has ps .mem] : Stays ps s0 (State.program a0 a1 a2) := by
  unfold State.program
  repeat' first
    | with_reducible assumption
    | intro _
    | (extract_lets +onlyGivenNames v; all_goals (try clear_value v))
    | with_reducible exact Burns.refl _
    | with_reducible exact Nat.le_refl _
    | with_reducible exact List.prefix_refl _
    | with_reducible apply Mem.wf_wrBytes
    | (rw [State.mk_build]; refine Stays.upd (fun p hp => by cases p <;> first | exact absurd Has.mem hp | rfl) ?_ ?_ ?_ ?_ ?_)

theorem execFlashProgram_stays (a0 : List Byte) (a1 : State) (h1 : Stays ps s0 a1) [Has ps .fns] [Has ps .rpl] [Has ps .start] [Has ps .regs] [Has ps .mem] : StaysRes ps s0 (execFlashProgram a0 a1) := by
  unfold execFlashProgram
  repeat' first
    | with_reducible assumption
    | intro _
    | with_reducible apply StaysRes.ofNext
    | with_reducible apply State.flashCmd_stays
    | with_reducible apply State.dmaIn_stays
    | with_reducible apply State.program_stays

theorem execFlashRead_stays (a0 : State) (h0 : Stays ps s0 a0) [Has ps .fns] [Has ps .rpl] [Has ps .start] [Has ps .regs] [Has ps .out] : StaysRes ps s0 (execFlashRead a0) := by
  unfold execFlashRead
  repeat' first
    | with_reducible assumption
    | intro _
    | with_reducible apply StaysRes.ofNext
    | with_reducible apply State.flashCmd_stays
    | with_reducible apply State.emit_stays

theorem State.injHub_stays (a0 : State) (a1 : Nat) (a2 : Nat) (h0 : Stays ps s0 a0) [Has ps .fns] [Has ps .rpl] [Has ps .start] [Has ps .regs] [Has ps .mem] [Has ps .out] : StaysRes ps s0 (State.injHub a0 a1 a2) := by
  unfold State.injHub
  repeat' first
    | with_reducible assumption
    | with_reducible apply StaysRes.ofNext
    | with_reducible apply execRestartArm_stays
    | with_reducible apply execRestartCancel_stays
    | with_reducible apply execCommitSvn_stays
    | with_reducible apply execTakeOwner_stays
    | with_reducible apply execFlashErase_stays
    | with_reducible apply execFlashProgram_stays
    | with_reducible apply execFlashRead_stays
    | split

theorem State.injTim_stays (a0 : State) (a1 : Nat) (h0 : Stays ps s0 a0) [Has ps .time] [Has ps .lists] [Has ps .cyclic] [Has ps .ctxs] [Has ps .units] [Has ps .fns] [Has ps .ports] [Has ps .mat] [Has ps .inf] [Has ps .chm] [Has ps .radio] [Has ps .front] [Has ps .tiers] [Has ps .fab] [Has ps .rpl] [Has ps .health] [Has ps .start] [Has ps .regs] [Has ps .mem] [Has ps .out] : StaysRes ps s0 (State.injTim a0 a1) := by
  unfold State.injTim
  repeat' first
    | with_reducible assumption
    | with_reducible apply StaysRes.ofNext
    | with_reducible apply execSnapshot_stays
    | with_reducible apply execRestep_stays
    | with_reducible apply execRequalify_stays
    | split

theorem State.injRatc_stays (a0 : State) (a1 : Nat) (h0 : Stays ps s0 a0) [Has ps .fns] [Has ps .fab] [Has ps .rpl] [Has ps .regs] : StaysRes ps s0 (State.injRatc a0 a1) := by
  unfold State.injRatc
  repeat' first
    | with_reducible assumption
    | with_reducible apply StaysRes.ofNext
    | with_reducible apply execRatcInsert_stays
    | with_reducible apply execRatcRemove_stays
    | with_reducible apply execRatcRead_stays
    | split

theorem State.injHlt_stays (a0 : State) (a1 : Nat) (h0 : Stays ps s0 a0) [Has ps .ctxs] [Has ps .fns] [Has ps .inf] [Has ps .radio] [Has ps .front] [Has ps .fab] [Has ps .rpl] [Has ps .health] [Has ps .start] [Has ps .regs] [Has ps .out] : StaysRes ps s0 (State.injHlt a0 a1) := by
  unfold State.injHlt
  repeat' first
    | with_reducible assumption
    | with_reducible apply StaysRes.ofNext
    | with_reducible apply execExpel_stays
    | with_reducible apply execUnfence_stays
    | with_reducible apply execShadowStart_stays
    | with_reducible apply execShadowStop_stays
    | split

theorem execSecMrExt_stays (a0 : Nat) (a1 : State) (h1 : Stays ps s0 a1) [Has ps .fns] [Has ps .rpl] [Has ps .start] [Has ps .regs] : StaysRes ps s0 (execSecMrExt a0 a1) := by
  unfold execSecMrExt
  repeat' first
    | with_reducible assumption
    | intro _
    | with_reducible apply StaysRes.ofNext
    | with_reducible apply State.bar2_stays
    | with_reducible apply State.mrExtend_stays
    | (extract_lets +onlyGivenNames v; all_goals (try clear_value v))
    | split

theorem State.injCmd_stays (a0 : State) (a1 : Nat) (a2 : Nat) (h0 : Stays ps s0 a0) (t : Res) (h : (State.injCmd a0 a1 a2) = some t) [Has ps .time] [Has ps .lists] [Has ps .cyclic] [Has ps .ctxs] [Has ps .units] [Has ps .fns] [Has ps .vfs] [Has ps .ports] [Has ps .mat] [Has ps .inf] [Has ps .chm] [Has ps .radio] [Has ps .front] [Has ps .tiers] [Has ps .fab] [Has ps .rpl] [Has ps .health] [Has ps .start] [Has ps .regs] [Has ps .mem] [Has ps .out] : StaysRes ps s0 t := by
  revert t
  intro t h
  unfold State.injCmd at h
  obtain rfl | h := ite_some h
  · exact State.injFctl_stays _ _ h0
  obtain rfl | h := ite_some h
  · exact State.injHub_stays _ _ _ h0
  obtain rfl | h := ite_some h
  · exact State.injTim_stays _ _ h0
  obtain rfl | h := ite_some h
  · exact execTimGrpAbort_stays _ _ h0
  obtain rfl | h := ite_some h
  · exact State.injRatc_stays _ _ h0
  obtain rfl | h := ite_some h
  · exact State.injHlt_stays _ _ h0
  obtain rfl | h := ite_some h
  · exact execHltLogAck_stays _ _ h0
  obtain rfl | h := ite_some h
  · exact execMemLogAck_stays _ _ h0
  obtain rfl | h := ite_some h
  · split
    · exact execShpHistClr_stays _ h0
    · exact StaysRes.ofNext h0
  obtain rfl | h := ite_some h
  · exact execSecMrExt_stays _ _ h0
  obtain ⟨g, -, rfl⟩ := Option.map_eq_some_iff.mp h
  exact execIbxCsAck_stays _ _ _ h0

theorem State.taken_stays (a0 : State) (a1 : Res) (h0 : Stays ps s0 a0) (h1 : StaysRes ps s0 a1) : Stays ps s0 (State.taken a0 a1) := by
  unfold State.taken
  split
  · exact h1.next _ rfl
  · exact h0
  · exact h0

theorem State.injBar2_stays (a0 : State) (a1 : Nat) (a2 : Nat) (a3 : Nat) (h0 : Stays ps s0 a0) [Has ps .time] [Has ps .lists] [Has ps .cyclic] [Has ps .ctxs] [Has ps .units] [Has ps .fns] [Has ps .vfs] [Has ps .ports] [Has ps .mat] [Has ps .inf] [Has ps .chm] [Has ps .radio] [Has ps .front] [Has ps .tiers] [Has ps .fab] [Has ps .rpl] [Has ps .health] [Has ps .start] [Has ps .regs] [Has ps .mem] [Has ps .out] : Stays ps s0 (State.injBar2 a0 a1 a2 a3) := by
  unfold State.injBar2
  repeat' first
    | with_reducible assumption
    | with_reducible apply State.doPause_stays
    | with_reducible apply State.doResume_stays
    | with_reducible apply State.setReg_stays
    | with_reducible apply State.taken_stays
    | with_reducible apply State.writeRow_stays
    | (refine State.injCmd_stays _ _ _ ?_ _ (by assumption))
    | split

theorem State.injCtl_stays (a0 : State) (a1 : LogRec) (h0 : Stays ps s0 a0) [Has ps .lists] [Has ps .ctxs] [Has ps .units] [Has ps .fns] [Has ps .vfs] [Has ps .ports] [Has ps .mat] [Has ps .inf] [Has ps .chm] [Has ps .radio] [Has ps .front] [Has ps .tiers] [Has ps .fab] [Has ps .rpl] [Has ps .health] [Has ps .start] [Has ps .regs] [Has ps .out] : Stays ps s0 (State.injCtl a0 a1) := by
  unfold State.injCtl
  repeat' first
    | with_reducible assumption
    | with_reducible apply State.taken_stays
    | with_reducible apply execVfEnableSet_stays
    | with_reducible apply execVfEnableClear_stays
    | with_reducible apply execFlr_stays
    | with_reducible apply execNumvfsWrite_stays
    | split

theorem State.injFab_stays (a0 : State) (a1 : LogRec) (h0 : Stays ps s0 a0) [Has ps .lists] [Has ps .ctxs] [Has ps .units] [Has ps .fns] [Has ps .ports] [Has ps .acct] [Has ps .radio] [Has ps .front] [Has ps .tiers] [Has ps .fab] [Has ps .rpl] [Has ps .health] [Has ps .start] [Has ps .regs] [Has ps .mem] [Has ps .out] : Stays ps s0 (State.injFab a0 a1) := by
  unfold State.injFab
  repeat' first
    | with_reducible assumption
    | with_reducible apply State.inStore_stays
    | with_reducible apply State.ringsIn_stays
    | with_reducible apply State.inbound_stays
    | with_reducible apply State.inGroup_stays
    | (extract_lets +onlyGivenNames v; all_goals (try clear_value v))
    | split

theorem State.injSub_stays (a0 : State) (a1 : LogRec) (h0 : Stays ps s0 a0) [Has ps .fns] [Has ps .rpl] [Has ps .regs] : Stays ps s0 (State.injSub a0 a1) := by
  unfold State.injSub
  repeat' first
    | with_reducible assumption
    | with_reducible apply State.refuseBad_stays
    | with_reducible apply State.setQp_stays
    | (extract_lets +onlyGivenNames v; all_goals (try clear_value v))
    | split

theorem State.injWrite_stays (a0 : State) (a1 : LogRec) (h0 : Stays ps s0 a0) [Has ps .time] [Has ps .lists] [Has ps .cyclic] [Has ps .ctxs] [Has ps .units] [Has ps .fns] [Has ps .vfs] [Has ps .ports] [Has ps .acct] [Has ps .mat] [Has ps .inf] [Has ps .chm] [Has ps .radio] [Has ps .front] [Has ps .tiers] [Has ps .fab] [Has ps .rpl] [Has ps .health] [Has ps .start] [Has ps .regs] [Has ps .mem] [Has ps .out] : Stays ps s0 (State.injWrite a0 a1) := by
  unfold State.injWrite
  repeat' first
    | with_reducible assumption
    | with_reducible apply State.writePageHalf_stays
    | with_reducible apply State.injBar2_stays
    | with_reducible apply State.taken_stays
    | with_reducible apply execApertureWrite_stays
    | (extract_lets +onlyGivenNames v; all_goals (try clear_value v))
    | split

theorem State.injTime_stays (a0 : State) (a1 : LogRec) (h0 : Stays ps s0 a0) [Has ps .time] [Has ps .lists] [Has ps .cyclic] [Has ps .ctxs] [Has ps .units] [Has ps .fns] [Has ps .ports] [Has ps .mat] [Has ps .inf] [Has ps .chm] [Has ps .radio] [Has ps .front] [Has ps .tiers] [Has ps .fab] [Has ps .rpl] [Has ps .health] [Has ps .start] [Has ps .regs] [Has ps .mem] [Has ps .out] : Stays ps s0 (State.injTime a0 a1) := by
  unfold State.injTime
  repeat' first
    | with_reducible assumption
    | intro _
    | with_reducible apply State.reevaluate_stays
    | with_reducible apply State.timTo_stays
    | with_reducible apply State.setCounter_stays
    | with_reducible apply State.hardStopNow_stays
    | with_reducible apply State.seqUpdate_stays
    | (extract_lets +onlyGivenNames v
       first
         | (refine (fun (hv : Stays ps s0 v) => ?_) ?_; rotate_left; unfold v; rotate_right)
         | skip
       all_goals (try clear_value v))
    | with_reducible apply Stays.foldl
    | split

theorem State.replayEnds_stays (a0 : State) (a1 : Nat) (h0 : Stays ps s0 a0) [Has ps .fns] [Has ps .rpl] [Has ps .regs] : Stays ps s0 (State.replayEnds a0 a1) := by
  unfold State.replayEnds
  repeat' first
    | with_reducible assumption
    | intro _
    | with_reducible apply State.rplEvt_stays
    | (extract_lets +onlyGivenNames v; all_goals (try clear_value v))
    | with_reducible exact Burns.refl _
    | with_reducible exact Nat.le_refl _
    | with_reducible exact List.prefix_refl _
    | (rw [State.mk_build]; refine Stays.upd (fun p hp => by cases p <;> first | exact absurd Has.mem hp | rfl) ?_ ?_ ?_ ?_ ?_)

theorem State.injRec_stays (a0 : State) (a1 : LogRec) (h0 : Stays ps s0 a0) (t : State) (h : (State.injRec a0 a1) = some t) [Has ps .time] [Has ps .lists] [Has ps .cyclic] [Has ps .ctxs] [Has ps .units] [Has ps .fns] [Has ps .vfs] [Has ps .ports] [Has ps .acct] [Has ps .mat] [Has ps .inf] [Has ps .chm] [Has ps .radio] [Has ps .front] [Has ps .tiers] [Has ps .fab] [Has ps .rpl] [Has ps .health] [Has ps .start] [Has ps .regs] [Has ps .mem] [Has ps .out] [Has ps .drawn] : Stays ps s0 t := by
  revert t
  intro t h
  unfold State.injRec at h
  split at h
  · injection h with h; subst h; exact State.injSub_stays _ _ h0
  · injection h with h; subst h; exact State.injWrite_stays _ _ h0
  · injection h with h; subst h; exact State.injCtl_stays _ _ h0
  · injection h with h; subst h
    split
    · exact State.frameIn_stays _ _ _ (State.fhCount_stays _ _ _ _ h0)
    · exact h0
  · injection h with h; subst h; exact State.injFab_stays _ _ h0
  · obtain ⟨q, -, rfl⟩ := Option.map_eq_some_iff.mp h; exact State.respIn_stays _ _ _ h0
  · obtain ⟨q, -, rfl⟩ := Option.map_eq_some_iff.mp h; exact State.abandon_stays _ _ _ h0
  · injection h with h; subst h; exact State.injTime_stays _ _ h0
  · injection h with h; subst h; exact State.replayEnds_stays _ _ h0
  · injection h with h; subst h; exact State.replayEnds_stays _ _ h0
  · injection h with h; subst h; exact h0

theorem State.wiped_stays (a0 : State) (h0 : Stays ps s0 a0) [Has ps .time] [Has ps .lists] [Has ps .cyclic] [Has ps .ctxs] [Has ps .units] [Has ps .fns] [Has ps .vfs] [Has ps .ports] [Has ps .acct] [Has ps .mat] [Has ps .inf] [Has ps .chm] [Has ps .radio] [Has ps .front] [Has ps .tiers] [Has ps .fab] [Has ps .rpl] [Has ps .health] [Has ps .start] [Has ps .power] [Has ps .regs] [Has ps .latch] [Has ps .mem] : Stays ps s0 (State.wiped a0) := by
  unfold State.wiped
  extract_lets r x st1 st2 st3 regs
  exact h0.trans ⟨⟨fun h => Mem.wf_filter _ h, rfl, List.prefix_refl _, Nat.le_refl _, ⟨Nat.le_refl _, rfl, rfl, id, fun h => ⟨h, rfl⟩⟩⟩, ⟨(fun p hp => by cases p <;> first | exact absurd Has.mem hp | rfl)⟩⟩

theorem State.restarted_stays (a0 : State) (h0 : Stays ps s0 a0) [Has ps .time] [Has ps .lists] [Has ps .cyclic] [Has ps .ctxs] [Has ps .units] [Has ps .fns] [Has ps .vfs] [Has ps .ports] [Has ps .acct] [Has ps .mat] [Has ps .inf] [Has ps .chm] [Has ps .radio] [Has ps .front] [Has ps .tiers] [Has ps .fab] [Has ps .rpl] [Has ps .health] [Has ps .start] [Has ps .power] [Has ps .regs] [Has ps .latch] [Has ps .mem] : Stays ps s0 (State.restarted a0) := by
  unfold State.restarted
  repeat' first
    | with_reducible assumption
    | intro _
    | with_reducible apply State.wiped_stays
    | (extract_lets +onlyGivenNames v
       first
         | (have hv : Start := v; clear hv; unfold v; clear v)
         | (refine (fun (hv : Stays ps s0 v) => ?_) ?_; rotate_left; unfold v; rotate_right)
         | skip
       all_goals (try clear_value v))
    | with_reducible exact Nat.le_refl _
    | with_reducible exact List.prefix_refl _
    | exact Burns.same rfl rfl rfl rfl rfl rfl
    | split
    | (rw [State.mk_build]; refine Stays.upd (fun p hp => by cases p <;> first | exact absurd Has.mem hp | rfl) ?_ ?_ ?_ ?_ ?_)

theorem State.jtag_stays (a0 : State) (a1 : JtagIr) (h0 : Stays ps s0 a0) [Has ps .time] [Has ps .lists] [Has ps .cyclic] [Has ps .ctxs] [Has ps .units] [Has ps .fns] [Has ps .vfs] [Has ps .ports] [Has ps .acct] [Has ps .mat] [Has ps .inf] [Has ps .chm] [Has ps .radio] [Has ps .front] [Has ps .tiers] [Has ps .fab] [Has ps .rpl] [Has ps .health] [Has ps .start] [Has ps .power] [Has ps .regs] [Has ps .latch] [Has ps .mem] : Stays ps s0 (State.jtag a0 a1) := by
  unfold State.jtag
  repeat' first
    | with_reducible assumption
    | intro _
    | with_reducible apply State.restarted_stays
    | (extract_lets +onlyGivenNames v
       first
         | (have hv : Start := v; clear hv; unfold v; clear v)
         | (refine (fun (hv : Stays ps s0 v) => ?_) ?_; rotate_left; unfold v; rotate_right)
         | skip
       all_goals (try clear_value v))
    | with_reducible exact Nat.le_refl _
    | with_reducible exact List.prefix_refl _
    | exact Burns.same rfl rfl rfl rfl rfl rfl
    | split
    | (rw [State.mk_build]; refine Stays.upd (fun p hp => by cases p <;> first | exact absurd Has.mem hp | rfl) ?_ ?_ ?_ ?_ ?_)

theorem State.replayBegin_stays (a0 : State) (h0 : Stays ps s0 a0) [Has ps .time] [Has ps .rpl] : Stays ps s0 (State.replayBegin a0) := by
  unfold State.replayBegin
  repeat' first
    | with_reducible assumption
    | intro _
    | with_reducible apply State.setCounter_stays
    | (extract_lets +onlyGivenNames v
       first
         | (refine (fun (hv : Stays ps s0 v) => ?_) ?_; rotate_left; unfold v; rotate_right)
         | skip
       all_goals (try clear_value v))
    | with_reducible exact Burns.refl _
    | with_reducible exact Nat.le_refl _
    | with_reducible exact List.prefix_refl _
    | split
    | (rw [State.mk_build]; refine Stays.upd (fun p hp => by cases p <;> first | exact absurd Has.mem hp | rfl) ?_ ?_ ?_ ?_ ?_)

theorem State.resetEndpoint_stays (a0 : State) (h0 : Stays ps s0 a0) [Has ps .fns] [Has ps .vfs] [Has ps .latch] : Stays ps s0 (State.resetEndpoint a0) := by
  unfold State.resetEndpoint
  repeat' first
    | with_reducible assumption
    | intro _
    | (extract_lets +onlyGivenNames v
       first
         | (have hv : HostIf := v; clear hv; unfold v; clear v)
         | skip
       all_goals (try clear_value v))
    | with_reducible exact Burns.refl _
    | with_reducible exact Nat.le_refl _
    | with_reducible exact List.prefix_refl _
    | (rw [State.mk_build]; refine Stays.upd (fun p hp => by cases p <;> first | exact absurd Has.mem hp | rfl) ?_ ?_ ?_ ?_ ?_)

theorem State.rplCmd_stays (a0 : State) (a1 : Nat) (a2 : State → Bool) (a3 : State → State) (h0 : Stays ps s0 a0) (h3 : ∀ u, Stays ps s0 u → Stays ps s0 (a3 u)) [Has ps .fns] [Has ps .rpl] [Has ps .regs] : Stays ps s0 (State.rplCmd a0 a1 a2 a3) := by
  unfold State.rplCmd
  repeat' first
    | with_reducible assumption
    | intro _
    | with_reducible apply State.bar2_stays
    | with_reducible apply State.rplEvt_stays
    | with_reducible apply h3
    | (extract_lets +onlyGivenNames v; all_goals (try clear_value v))
    | split

theorem State.scan_stays (a0 : State) (a1 : BitVec 64) (h0 : Stays ps s0 a0) [Has ps .start] [Has ps .out] : Stays ps s0 (State.scan a0 a1) := by
  unfold State.scan
  repeat' first
    | with_reducible assumption
    | intro _
    | with_reducible apply State.emit_stays
    | (extract_lets +onlyGivenNames v
       first
         | (have hv : Start := v; clear hv; unfold v; clear v)
         | skip
       all_goals (try clear_value v))
    | with_reducible exact Nat.le_refl _
    | with_reducible exact List.prefix_refl _
    | exact Burns.same rfl rfl rfl rfl rfl rfl
    | (rw [State.mk_build]; refine Stays.upd (fun p hp => by cases p <;> first | exact absurd Has.mem hp | rfl) ?_ ?_ ?_ ?_ ?_)

theorem State.setSpdm_stays (a0 : State) (a1 : Nat) (h0 : Stays ps s0 a0) [Has ps .start] : Stays ps s0 (State.setSpdm a0 a1) := by
  unfold State.setSpdm
  repeat' first
    | with_reducible assumption
    | intro _
    | (extract_lets +onlyGivenNames v
       first
         | (have hv : Start := v; clear hv; unfold v; clear v)
         | skip
       all_goals (try clear_value v))
    | with_reducible exact Nat.le_refl _
    | with_reducible exact List.prefix_refl _
    | exact Burns.same rfl rfl rfl rfl rfl rfl
    | (rw [State.mk_build]; refine Stays.upd (fun p hp => by cases p <;> first | exact absurd Has.mem hp | rfl) ?_ ?_ ?_ ?_ ?_)

theorem State.signed_stays (a0 : State) (a1 : Nat) (a2 : List Byte) (a3 : List Byte) (h0 : Stays ps s0 a0) [Has ps .out] [Has ps .drawn] : Stays ps s0 (State.signed a0 a1 a2 a3) := by
  unfold State.signed
  repeat' first
    | with_reducible assumption
    | intro _
    | with_reducible apply State.emit_stays
    | (extract_lets +onlyGivenNames v; all_goals (try clear_value v))
    | with_reducible exact Burns.refl _
    | with_reducible exact Nat.le_succ _
    | with_reducible exact List.prefix_refl _
    | (rw [State.mk_build]; refine Stays.upd (fun p hp => by cases p <;> first | exact absurd Has.mem hp | rfl) ?_ ?_ ?_ ?_ ?_)

theorem State.spdmErr_stays (a0 : State) (a1 : Nat) (h0 : Stays ps s0 a0) [Has ps .out] : Stays ps s0 (State.spdmErr a0 a1) := by
  unfold State.spdmErr
  repeat' first
    | with_reducible assumption
    | with_reducible apply State.emit_stays

theorem State.spdmReq_stays (a0 : State) (a1 : Nat) (a2 : State) (h0 : Stays ps s0 a0) (h2 : Stays ps s0 a2) [Has ps .out] : StaysRes ps s0 (State.spdmReq a0 a1 a2) := by
  unfold State.spdmReq
  repeat' first
    | with_reducible assumption
    | with_reducible apply StaysRes.ofNext
    | with_reducible apply State.spdmErr_stays
    | split

theorem execBypass_stays (a0 : State) (h0 : Stays ps s0 a0) [Has ps .time] [Has ps .lists] [Has ps .cyclic] [Has ps .ctxs] [Has ps .units] [Has ps .fns] [Has ps .vfs] [Has ps .ports] [Has ps .acct] [Has ps .mat] [Has ps .inf] [Has ps .chm] [Has ps .radio] [Has ps .front] [Has ps .tiers] [Has ps .fab] [Has ps .rpl] [Has ps .health] [Has ps .start] [Has ps .power] [Has ps .regs] [Has ps .latch] [Has ps .mem] : StaysRes ps s0 (execBypass a0) := by
  unfold execBypass
  repeat' first
    | with_reducible assumption
    | with_reducible apply StaysRes.ofNext
    | with_reducible apply State.jtag_stays
    | split

theorem execChallenge_stays (a0 : Nat) (a1 : BitVec 256) (a2 : State) (h2 : Stays ps s0 a2) [Has ps .out] [Has ps .drawn] : StaysRes ps s0 (execChallenge a0 a1 a2) := by
  unfold execChallenge
  repeat' first
    | with_reducible assumption
    | intro _
    | with_reducible apply State.spdmReq_stays
    | with_reducible apply State.spdmErr_stays
    | with_reducible apply State.signed_stays
    | (extract_lets +onlyGivenNames v; all_goals (try clear_value v))
    | with_reducible exact Burns.refl _
    | with_reducible exact Nat.le_succ _
    | with_reducible exact List.prefix_refl _
    | split
    | (rw [State.mk_build]; refine Stays.upd (fun p hp => by cases p <;> first | exact absurd Has.mem hp | rfl) ?_ ?_ ?_ ?_ ?_)

theorem execClearLog_stays (a0 : State) (h0 : Stays ps s0 a0) [Has ps .fns] [Has ps .rpl] [Has ps .regs] : StaysRes ps s0 (execClearLog a0) := by
  unfold execClearLog
  repeat' first
    | with_reducible assumption
    | intro _
    | with_reducible apply StaysRes.ofNext
    | with_reducible apply State.rplCmd_stays
    | (extract_lets +onlyGivenNames v; all_goals (try clear_value v))
    | with_reducible exact Burns.refl _
    | with_reducible exact Nat.le_refl _
    | with_reducible exact List.prefix_refl _
    | (rw [State.mk_build]; refine Stays.upd (fun p hp => by cases p <;> first | exact absurd Has.mem hp | rfl) ?_ ?_ ?_ ?_ ?_)

theorem execDbgToken_stays (a0 : List Byte) (a1 : State) (h1 : Stays ps s0 a1) [Has ps .time] [Has ps .lists] [Has ps .cyclic] [Has ps .ctxs] [Has ps .units] [Has ps .fns] [Has ps .vfs] [Has ps .ports] [Has ps .acct] [Has ps .mat] [Has ps .inf] [Has ps .chm] [Has ps .radio] [Has ps .front] [Has ps .tiers] [Has ps .fab] [Has ps .rpl] [Has ps .health] [Has ps .start] [Has ps .power] [Has ps .regs] [Has ps .latch] [Has ps .mem] [Has ps .out] [Has ps .drawn] : StaysRes ps s0 (execDbgToken a0 a1) := by
  unfold execDbgToken
  repeat' first
    | with_reducible assumption
    | intro _
    | with_reducible apply StaysRes.ofNext
    | with_reducible apply State.jtag_stays
    | with_reducible apply State.takeAction_stays
    | with_reducible apply State.mrExtend_stays
    | with_reducible apply State.alarm_stays
    | (extract_lets +onlyGivenNames v
       first
         | (have hv : Start := v; clear hv; unfold v; clear v)
         | (refine (fun (hv : Stays ps s0 v) => ?_) ?_; rotate_left; unfold v; rotate_right)
         | skip
       all_goals (try clear_value v))
    | with_reducible exact Nat.le_refl _
    | with_reducible exact Nat.le_succ _
    | with_reducible exact List.prefix_refl _
    | exact Burns.same rfl rfl rfl rfl rfl rfl
    | split
    | (rw [State.mk_build]; refine Stays.upd (fun p hp => by cases p <;> first | exact absurd Has.mem hp | rfl) ?_ ?_ ?_ ?_ ?_)

theorem execExportLog_stays (a0 : State) (h0 : Stays ps s0 a0) [Has ps .fns] [Has ps .rpl] [Has ps .regs] [Has ps .out] : StaysRes ps s0 (execExportLog a0) := by
  unfold execExportLog
  repeat' first
    | with_reducible assumption
    | intro _
    | with_reducible apply StaysRes.ofNext
    | with_reducible apply State.rplCmd_stays
    | (extract_lets +onlyGivenNames v; all_goals (try clear_value v))
    | with_reducible exact Burns.refl _
    | with_reducible exact Nat.le_refl _
    | with_reducible exact List.prefix_append _ _
    | (rw [State.mk_build]; refine Stays.upd (fun p hp => by cases p <;> first | exact absurd Has.mem hp | rfl) ?_ ?_ ?_ ?_ ?_)

theorem execExtest_stays (a0 : BitVec 64) (a1 : State) (h1 : Stays ps s0 a1) [Has ps .time] [Has ps .lists] [Has ps .cyclic] [Has ps .ctxs] [Has ps .units] [Has ps .fns] [Has ps .vfs] [Has ps .ports] [Has ps .acct] [Has ps .mat] [Has ps .inf] [Has ps .chm] [Has ps .radio] [Has ps .front] [Has ps .tiers] [Has ps .fab] [Has ps .rpl] [Has ps .health] [Has ps .start] [Has ps .power] [Has ps .regs] [Has ps .latch] [Has ps .mem] [Has ps .out] : StaysRes ps s0 (execExtest a0 a1) := by
  unfold execExtest
  repeat' first
    | with_reducible assumption
    | with_reducible apply StaysRes.ofNext
    | with_reducible apply State.scan_stays
    | with_reducible apply State.jtag_stays
    | split

theorem execExtestExit_stays (a0 : State) (h0 : Stays ps s0 a0) [Has ps .time] [Has ps .lists] [Has ps .cyclic] [Has ps .ctxs] [Has ps .units] [Has ps .fns] [Has ps .vfs] [Has ps .ports] [Has ps .acct] [Has ps .mat] [Has ps .inf] [Has ps .chm] [Has ps .radio] [Has ps .front] [Has ps .tiers] [Has ps .fab] [Has ps .rpl] [Has ps .health] [Has ps .start] [Has ps .power] [Has ps .regs] [Has ps .latch] [Has ps .mem] : StaysRes ps s0 (execExtestExit a0) := by
  unfold execExtestExit
  repeat' first
    | with_reducible assumption
    | with_reducible apply StaysRes.ofNext
    | with_reducible apply State.jtag_stays
    | split

theorem execFlashDone_stays (a0 : Bool) (a1 : State) (h1 : Stays ps s0 a1) [Has ps .start] [Has ps .regs] [Has ps .mem] [Has ps .drawn] : StaysRes ps s0 (execFlashDone a0 a1) := by
  unfold execFlashDone
  repeat' first
    | with_reducible assumption
    | intro _
    | with_reducible apply StaysRes.ofNext
    | with_reducible apply State.flashLost_stays
    | with_reducible apply State.setReg_stays
    | (extract_lets +onlyGivenNames v
       first
         | (have hv : Start := v; clear hv; unfold v; clear v)
         | (refine (fun (hv : Stays ps s0 v) => ?_) ?_; rotate_left; unfold v; rotate_right)
         | skip
       all_goals (try clear_value v))
    | with_reducible exact Nat.le_refl _
    | with_reducible exact List.prefix_refl _
    | exact Burns.same rfl rfl rfl rfl rfl rfl
    | split
    | (rw [State.mk_build]; refine Stays.upd (fun p hp => by cases p <;> first | exact absurd Has.mem hp | rfl) ?_ ?_ ?_ ?_ ?_)

theorem execGetCapabilities_stays (a0 : State) (h0 : Stays ps s0 a0) [Has ps .start] [Has ps .out] : StaysRes ps s0 (execGetCapabilities a0) := by
  unfold execGetCapabilities
  repeat' first
    | with_reducible assumption
    | with_reducible apply State.spdmReq_stays
    | with_reducible apply State.emit_stays
    | with_reducible apply State.setSpdm_stays

theorem execGetCertificate_stays (a0 : Nat) (a1 : Nat) (a2 : Nat) (a3 : State) (h3 : Stays ps s0 a3) [Has ps .out] : StaysRes ps s0 (execGetCertificate a0 a1 a2 a3) := by
  unfold execGetCertificate
  repeat' first
    | with_reducible assumption
    | with_reducible apply State.spdmReq_stays
    | with_reducible apply State.spdmErr_stays
    | with_reducible apply State.emit_stays
    | (extract_lets +onlyGivenNames v; all_goals (try clear_value v))
    | split

theorem execGetDigests_stays (a0 : State) (h0 : Stays ps s0 a0) [Has ps .out] : StaysRes ps s0 (execGetDigests a0) := by
  unfold execGetDigests
  repeat' first
    | with_reducible assumption
    | with_reducible apply State.spdmReq_stays
    | with_reducible apply State.emit_stays

theorem execGetMeasurements_stays (a0 : Nat) (a1 : Bool) (a2 : BitVec 256) (a3 : State) (h3 : Stays ps s0 a3) [Has ps .out] [Has ps .drawn] : StaysRes ps s0 (execGetMeasurements a0 a1 a2 a3) := by
  unfold execGetMeasurements
  repeat' first
    | with_reducible assumption
    | with_reducible apply State.spdmReq_stays
    | with_reducible apply State.spdmErr_stays
    | with_reducible apply State.signed_stays
    | with_reducible apply State.emit_stays
    | (extract_lets +onlyGivenNames v; all_goals (try clear_value v))
    | split

theorem execGetVersion_stays (a0 : State) (h0 : Stays ps s0 a0) [Has ps .start] [Has ps .out] : StaysRes ps s0 (execGetVersion a0) := by
  unfold execGetVersion
  repeat' first
    | with_reducible assumption
    | with_reducible apply StaysRes.ofNext
    | with_reducible apply State.emit_stays
    | with_reducible apply State.setSpdm_stays
    | split

theorem execIdcode_stays (a0 : State) (h0 : Stays ps s0 a0) [Has ps .time] [Has ps .lists] [Has ps .cyclic] [Has ps .ctxs] [Has ps .units] [Has ps .fns] [Has ps .vfs] [Has ps .ports] [Has ps .acct] [Has ps .mat] [Has ps .inf] [Has ps .chm] [Has ps .radio] [Has ps .front] [Has ps .tiers] [Has ps .fab] [Has ps .rpl] [Has ps .health] [Has ps .start] [Has ps .power] [Has ps .regs] [Has ps .latch] [Has ps .mem] [Has ps .out] : StaysRes ps s0 (execIdcode a0) := by
  unfold execIdcode
  repeat' first
    | with_reducible assumption
    | with_reducible apply StaysRes.ofNext
    | with_reducible apply State.emit_stays
    | with_reducible apply State.jtag_stays
    | split

theorem execImportLog_stays (a0 : List Byte) (a1 : State) (h1 : Stays ps s0 a1) [Has ps .fns] [Has ps .rpl] [Has ps .regs] : StaysRes ps s0 (execImportLog a0 a1) := by
  unfold execImportLog
  repeat' first
    | with_reducible assumption
    | intro _
    | with_reducible apply StaysRes.ofNext
    | with_reducible apply State.rplCmd_stays
    | (extract_lets +onlyGivenNames v; all_goals (try clear_value v))
    | with_reducible exact Burns.refl _
    | with_reducible exact Nat.le_refl _
    | with_reducible exact List.prefix_refl _
    | (rw [State.mk_build]; refine Stays.upd (fun p hp => by cases p <;> first | exact absurd Has.mem hp | rfl) ?_ ?_ ?_ ?_ ?_)

theorem execLogGapWrite_stays (a0 : State) (h0 : Stays ps s0 a0) [Has ps .rpl] : StaysRes ps s0 (execLogGapWrite a0) := by
  unfold execLogGapWrite
  repeat' first
    | with_reducible assumption
    | intro _
    | with_reducible apply StaysRes.ofNext
    | with_reducible apply State.addRec_stays
    | (extract_lets +onlyGivenNames v
       first
         | (refine (fun (hv : Stays ps s0 v) => ?_) ?_; rotate_left; unfold v; rotate_right)
         | skip
       all_goals (try clear_value v))
    | with_reducible exact Burns.refl _
    | with_reducible exact Nat.le_refl _
    | with_reducible exact List.prefix_refl _
    | split
    | (rw [State.mk_build]; refine Stays.upd (fun p hp => by cases p <;> first | exact absurd Has.mem hp | rfl) ?_ ?_ ?_ ?_ ?_)

theorem execMark_stays (a0 : State) (h0 : Stays ps s0 a0) [Has ps .fns] [Has ps .rpl] [Has ps .regs] : StaysRes ps s0 (execMark a0) := by
  unfold execMark
  repeat' first
    | with_reducible assumption
    | intro _
    | with_reducible apply StaysRes.ofNext
    | with_reducible apply State.rplCmd_stays
    | with_reducible apply State.putRec_stays

theorem execNegotiateAlgorithms_stays (a0 : Nat) (a1 : Nat) (a2 : State) (h2 : Stays ps s0 a2) [Has ps .start] [Has ps .out] : StaysRes ps s0 (execNegotiateAlgorithms a0 a1 a2) := by
  unfold execNegotiateAlgorithms
  repeat' first
    | with_reducible assumption
    | with_reducible apply State.spdmReq_stays
    | with_reducible apply State.emit_stays
    | with_reducible apply State.setSpdm_stays
    | with_reducible apply State.spdmErr_stays
    | (extract_lets +onlyGivenNames v; all_goals (try clear_value v))
    | split

theorem execOutputMissing_stays (a0 : State) (h0 : Stays ps s0 a0) [Has ps .fns] [Has ps .rpl] [Has ps .regs] : StaysRes ps s0 (execOutputMissing a0) := by
  unfold execOutputMissing
  repeat' first
    | with_reducible assumption
    | with_reducible apply StaysRes.ofNext
    | with_reducible apply State.diverge_stays
    | split

theorem execPause_stays (a0 : State) (h0 : Stays ps s0 a0) [Has ps .ctxs] [Has ps .fns] [Has ps .inf] [Has ps .rpl] [Has ps .regs] : StaysRes ps s0 (execPause a0) := by
  unfold execPause
  repeat' first
    | with_reducible assumption
    | intro _
    | with_reducible apply StaysRes.ofNext
    | with_reducible apply State.rplCmd_stays
    | with_reducible apply State.doPause_stays

theorem execPerstAssert_stays (a0 : State) (h0 : Stays ps s0 a0) [Has ps .time] [Has ps .lists] [Has ps .cyclic] [Has ps .ctxs] [Has ps .units] [Has ps .fns] [Has ps .vfs] [Has ps .ports] [Has ps .acct] [Has ps .mat] [Has ps .inf] [Has ps .chm] [Has ps .radio] [Has ps .front] [Has ps .tiers] [Has ps .fab] [Has ps .rpl] [Has ps .health] [Has ps .start] [Has ps .power] [Has ps .regs] [Has ps .latch] [Has ps .mem] : StaysRes ps s0 (execPerstAssert a0) := by
  unfold execPerstAssert
  split
  · exact StaysRes.ofNext h0
  · extract_lets +onlyGivenNames z v
    have hv : Stays ps s0 v := by
      unfold v; rw [State.mk_build]; exact Stays.upd (fun p hp => by cases p <;> first | exact absurd Has.mem hp | rfl) h0 id (List.prefix_refl _) (Nat.le_refl _) (Burns.same rfl rfl rfl rfl rfl rfl)
    refine StaysRes.ofNext ?_
    split
    · exact State.resetEndpoint_stays _ hv
    · exact State.restarted_stays _ hv

theorem execPerstDeassert_stays (a0 : State) (h0 : Stays ps s0 a0) [Has ps .start] : StaysRes ps s0 (execPerstDeassert a0) := by
  unfold execPerstDeassert
  repeat' first
    | with_reducible assumption
    | intro _
    | with_reducible apply StaysRes.ofNext
    | (extract_lets +onlyGivenNames v
       first
         | (have hv : Start := v; clear hv; unfold v; clear v)
         | skip
       all_goals (try clear_value v))
    | with_reducible exact Nat.le_refl _
    | with_reducible exact List.prefix_refl _
    | exact Burns.same rfl rfl rfl rfl rfl rfl
    | split
    | (rw [State.mk_build]; refine Stays.upd (fun p hp => by cases p <;> first | exact absurd Has.mem hp | rfl) ?_ ?_ ?_ ?_ ?_)

theorem execPwrOkAssert_stays (a0 : State) (h0 : Stays ps s0 a0) [Has ps .time] [Has ps .lists] [Has ps .cyclic] [Has ps .ctxs] [Has ps .units] [Has ps .fns] [Has ps .vfs] [Has ps .ports] [Has ps .acct] [Has ps .mat] [Has ps .inf] [Has ps .chm] [Has ps .radio] [Has ps .front] [Has ps .tiers] [Has ps .fab] [Has ps .rpl] [Has ps .health] [Has ps .start] [Has ps .power] [Has ps .regs] [Has ps .latch] [Has ps .mem] : StaysRes ps s0 (execPwrOkAssert a0) := by
  unfold execPwrOkAssert
  repeat' first
    | with_reducible assumption
    | intro _
    | with_reducible apply StaysRes.ofNext
    | with_reducible apply State.wiped_stays
    | (extract_lets +onlyGivenNames v
       first
         | (have hv : Start := v; clear hv; unfold v; clear v)
         | (refine (fun (hv : Stays ps s0 v) => ?_) ?_; rotate_left; unfold v; rotate_right)
         | skip
       all_goals (try clear_value v))
    | with_reducible exact Nat.le_refl _
    | with_reducible exact List.prefix_refl _
    | exact Burns.same rfl rfl rfl rfl rfl rfl
    | split
    | (rw [State.mk_build]; refine Stays.upd (fun p hp => by cases p <;> first | exact absurd Has.mem hp | rfl) ?_ ?_ ?_ ?_ ?_)

theorem execPwrOkDeassert_stays (a0 : State) (h0 : Stays ps s0 a0) [Has ps .time] [Has ps .lists] [Has ps .cyclic] [Has ps .ctxs] [Has ps .units] [Has ps .fns] [Has ps .vfs] [Has ps .ports] [Has ps .acct] [Has ps .mat] [Has ps .inf] [Has ps .chm] [Has ps .radio] [Has ps .front] [Has ps .tiers] [Has ps .fab] [Has ps .rpl] [Has ps .health] [Has ps .start] [Has ps .power] [Has ps .regs] [Has ps .latch] [Has ps .mem] [Has ps .drawn] : StaysRes ps s0 (execPwrOkDeassert a0) := by
  unfold execPwrOkDeassert
  repeat' first
    | with_reducible assumption
    | intro _
    | with_reducible apply StaysRes.ofNext
    | with_reducible apply State.flashLost_stays
    | with_reducible apply State.wiped_stays
    | (extract_lets +onlyGivenNames v
       first
         | (have hv : Start := v; clear hv; unfold v; clear v)
         | skip
       all_goals (try clear_value v))
    | with_reducible exact Nat.le_refl _
    | with_reducible exact List.prefix_refl _
    | exact Burns.same rfl rfl rfl rfl rfl rfl
    | split
    | (rw [State.mk_build]; refine Stays.upd (fun p hp => by cases p <;> first | exact absurd Has.mem hp | rfl) ?_ ?_ ?_ ?_ ?_)

theorem execRecStart_stays (a0 : State) (h0 : Stays ps s0 a0) [Has ps .fns] [Has ps .rpl] [Has ps .regs] : StaysRes ps s0 (execRecStart a0) := by
  unfold execRecStart
  repeat' first
    | with_reducible assumption
    | intro _
    | with_reducible apply StaysRes.ofNext
    | with_reducible apply State.rplCmd_stays
    | with_reducible apply State.recBegin_stays

theorem execRecStop_stays (a0 : State) (h0 : Stays ps s0 a0) [Has ps .fns] [Has ps .rpl] [Has ps .regs] : StaysRes ps s0 (execRecStop a0) := by
  unfold execRecStop
  repeat' first
    | with_reducible assumption
    | intro _
    | with_reducible apply StaysRes.ofNext
    | with_reducible apply State.rplCmd_stays
    | with_reducible apply State.addRec_stays
    | (extract_lets +onlyGivenNames v
       first
         | (refine (fun (hv : Stays ps s0 v) => ?_) ?_; rotate_left; unfold v; rotate_right)
         | skip
       all_goals (try clear_value v))
    | with_reducible exact Burns.refl _
    | with_reducible exact Nat.le_refl _
    | with_reducible exact List.prefix_refl _
    | (rw [State.mk_build]; refine Stays.upd (fun p hp => by cases p <;> first | exact absurd Has.mem hp | rfl) ?_ ?_ ?_ ?_ ?_)

theorem execRecordInject_stays (a0 : State) (h0 : Stays ps s0 a0) [Has ps .time] [Has ps .lists] [Has ps .cyclic] [Has ps .ctxs] [Has ps .units] [Has ps .fns] [Has ps .vfs] [Has ps .ports] [Has ps .acct] [Has ps .mat] [Has ps .inf] [Has ps .chm] [Has ps .radio] [Has ps .front] [Has ps .tiers] [Has ps .fab] [Has ps .rpl] [Has ps .health] [Has ps .start] [Has ps .regs] [Has ps .mem] [Has ps .out] [Has ps .drawn] : StaysRes ps s0 (execRecordInject a0) := by
  unfold execRecordInject
  repeat' first
    | with_reducible assumption
    | intro _
    | with_reducible apply StaysRes.ofNext
    | (refine State.injRec_stays _ _ ?_ _ (by assumption))
    | (extract_lets +onlyGivenNames v; all_goals (try clear_value v))
    | with_reducible exact Burns.refl _
    | with_reducible exact Nat.le_refl _
    | with_reducible exact List.prefix_refl _
    | split
    | (rw [State.mk_build]; refine Stays.upd (fun p hp => by cases p <;> first | exact absurd Has.mem hp | rfl) ?_ ?_ ?_ ?_ ?_)

theorem execReplayStart_stays (a0 : State) (h0 : Stays ps s0 a0) [Has ps .time] [Has ps .fns] [Has ps .rpl] [Has ps .regs] : StaysRes ps s0 (execReplayStart a0) := by
  unfold execReplayStart
  repeat' first
    | with_reducible assumption
    | intro _
    | with_reducible apply StaysRes.ofNext
    | with_reducible apply State.rplCmd_stays
    | with_reducible apply State.replayBegin_stays
    | (extract_lets +onlyGivenNames v; all_goals (try clear_value v))
    | with_reducible exact Burns.refl _
    | with_reducible exact Nat.le_refl _
    | with_reducible exact List.prefix_refl _
    | split
    | (rw [State.mk_build]; refine Stays.upd (fun p hp => by cases p <;> first | exact absurd Has.mem hp | rfl) ?_ ?_ ?_ ?_ ?_)

theorem execReplayStop_stays (a0 : State) (h0 : Stays ps s0 a0) [Has ps .fns] [Has ps .rpl] [Has ps .regs] : StaysRes ps s0 (execReplayStop a0) := by
  unfold execReplayStop
  repeat' first
    | with_reducible assumption
    | intro _
    | with_reducible apply StaysRes.ofNext
    | with_reducible apply State.rplCmd_stays
    | (extract_lets +onlyGivenNames v; all_goals (try clear_value v))
    | with_reducible exact Burns.refl _
    | with_reducible exact Nat.le_refl _
    | with_reducible exact List.prefix_refl _
    | (rw [State.mk_build]; refine Stays.upd (fun p hp => by cases p <;> first | exact absurd Has.mem hp | rfl) ?_ ?_ ?_ ?_ ?_)

theorem execRestartInstant_stays (a0 : State) (h0 : Stays ps s0 a0) [Has ps .fns] [Has ps .radio] [Has ps .front] [Has ps .fab] [Has ps .rpl] [Has ps .health] [Has ps .start] [Has ps .regs] [Has ps .out] : StaysRes ps s0 (execRestartInstant a0) := by
  unfold execRestartInstant
  repeat' first
    | with_reducible assumption
    | intro _
    | with_reducible apply StaysRes.ofNext
    | with_reducible apply State.stopCell_stays
    | (extract_lets +onlyGivenNames v
       first
         | (have hv : Start := v; clear hv; unfold v; clear v)
         | (refine (fun (hv : Stays ps s0 v) => ?_) ?_; rotate_left; unfold v; rotate_right)
         | skip
       all_goals (try clear_value v))
    | with_reducible apply Stays.foldl
    | with_reducible exact Nat.le_refl _
    | with_reducible exact List.prefix_refl _
    | exact Burns.same rfl rfl rfl rfl rfl rfl
    | split
    | (rw [State.mk_build]; refine Stays.upd (fun p hp => by cases p <;> first | exact absurd Has.mem hp | rfl) ?_ ?_ ?_ ?_ ?_)

theorem execRestartReset_stays (a0 : State) (h0 : Stays ps s0 a0) [Has ps .time] [Has ps .lists] [Has ps .cyclic] [Has ps .ctxs] [Has ps .units] [Has ps .fns] [Has ps .vfs] [Has ps .ports] [Has ps .acct] [Has ps .mat] [Has ps .inf] [Has ps .chm] [Has ps .radio] [Has ps .front] [Has ps .tiers] [Has ps .fab] [Has ps .rpl] [Has ps .health] [Has ps .start] [Has ps .power] [Has ps .regs] [Has ps .latch] [Has ps .mem] : StaysRes ps s0 (execRestartReset a0) := by
  unfold execRestartReset
  repeat' first
    | with_reducible assumption
    | with_reducible apply StaysRes.ofNext
    | with_reducible apply State.restarted_stays
    | split

theorem execRestartStopping_stays (a0 : State) (h0 : Stays ps s0 a0) [Has ps .lists] [Has ps .ctxs] [Has ps .units] [Has ps .fns] [Has ps .ports] [Has ps .mat] [Has ps .inf] [Has ps .chm] [Has ps .radio] [Has ps .front] [Has ps .tiers] [Has ps .fab] [Has ps .rpl] [Has ps .health] [Has ps .start] [Has ps .regs] [Has ps .out] : StaysRes ps s0 (execRestartStopping a0) := by
  unfold execRestartStopping
  repeat' first
    | with_reducible assumption
    | intro _
    | with_reducible apply StaysRes.ofNext
    | with_reducible apply State.setDev_stays
    | with_reducible apply State.vfStop_stays
    | (extract_lets +onlyGivenNames v
       first
         | (have hv : Start := v; clear hv; unfold v; clear v)
         | (refine (fun (hv : Stays ps s0 v) => ?_) ?_; rotate_left; unfold v; rotate_right)
         | skip
       all_goals (try clear_value v))
    | with_reducible apply Stays.foldl
    | with_reducible exact Nat.le_refl _
    | with_reducible exact List.prefix_refl _
    | exact Burns.same rfl rfl rfl rfl rfl rfl
    | split
    | (rw [State.mk_build]; refine Stays.upd (fun p hp => by cases p <;> first | exact absurd Has.mem hp | rfl) ?_ ?_ ?_ ?_ ?_)

theorem execRplResume_stays (a0 : State) (h0 : Stays ps s0 a0) [Has ps .ctxs] [Has ps .fns] [Has ps .inf] [Has ps .rpl] [Has ps .regs] : StaysRes ps s0 (execRplResume a0) := by
  unfold execRplResume
  repeat' first
    | with_reducible assumption
    | intro _
    | with_reducible apply StaysRes.ofNext
    | with_reducible apply State.rplCmd_stays
    | with_reducible apply State.doResume_stays

theorem execSamplePreload_stays (a0 : BitVec 64) (a1 : State) (h1 : Stays ps s0 a1) [Has ps .time] [Has ps .lists] [Has ps .cyclic] [Has ps .ctxs] [Has ps .units] [Has ps .fns] [Has ps .vfs] [Has ps .ports] [Has ps .acct] [Has ps .mat] [Has ps .inf] [Has ps .chm] [Has ps .radio] [Has ps .front] [Has ps .tiers] [Has ps .fab] [Has ps .rpl] [Has ps .health] [Has ps .start] [Has ps .power] [Has ps .regs] [Has ps .latch] [Has ps .mem] [Has ps .out] : StaysRes ps s0 (execSamplePreload a0 a1) := by
  unfold execSamplePreload
  repeat' first
    | with_reducible assumption
    | with_reducible apply StaysRes.ofNext
    | with_reducible apply State.scan_stays
    | with_reducible apply State.jtag_stays
    | split

theorem execSecurityAlarm_stays (a0 : Nat) (a1 : State) (h1 : Stays ps s0 a1) [Has ps .lists] [Has ps .ctxs] [Has ps .units] [Has ps .fns] [Has ps .ports] [Has ps .mat] [Has ps .inf] [Has ps .chm] [Has ps .radio] [Has ps .front] [Has ps .tiers] [Has ps .fab] [Has ps .rpl] [Has ps .health] [Has ps .start] [Has ps .regs] [Has ps .mem] [Has ps .out] : StaysRes ps s0 (execSecurityAlarm a0 a1) := by
  unfold execSecurityAlarm
  repeat' first
    | with_reducible assumption
    | with_reducible exact StaysRes.ofFault
    | with_reducible apply StaysRes.ofNext
    | with_reducible apply State.alarm_stays
    | split

theorem execStartPhaseEnd_stays (a0 : Nat) (a1 : State) (h1 : Stays ps s0 a1) [Has ps .lists] [Has ps .ctxs] [Has ps .units] [Has ps .fns] [Has ps .ports] [Has ps .mat] [Has ps .inf] [Has ps .chm] [Has ps .radio] [Has ps .front] [Has ps .tiers] [Has ps .fab] [Has ps .rpl] [Has ps .health] [Has ps .start] [Has ps .regs] [Has ps .mem] [Has ps .out] [Has ps .drawn] : StaysRes ps s0 (execStartPhaseEnd a0 a1) := by
  unfold execStartPhaseEnd
  repeat' first
    | with_reducible assumption
    | with_reducible apply StaysRes.ofNext
    | with_reducible apply State.endP0_stays
    | with_reducible apply State.endP1_stays
    | with_reducible apply State.endP2_stays
    | with_reducible apply State.endP3_stays
    | with_reducible apply State.endP4_stays
    | with_reducible apply State.endP5_stays
    | (extract_lets +onlyGivenNames v; all_goals (try clear_value v))
    | split

theorem execStopAtReached_stays (a0 : State) (h0 : Stays ps s0 a0) [Has ps .fns] [Has ps .rpl] [Has ps .regs] : StaysRes ps s0 (execStopAtReached a0) := by
  unfold execStopAtReached
  repeat' first
    | with_reducible assumption
    | intro _
    | with_reducible apply StaysRes.ofNext
    | with_reducible apply State.rplEvt_stays
    | (extract_lets +onlyGivenNames v; all_goals (try clear_value v))
    | with_reducible exact Burns.refl _
    | with_reducible exact Nat.le_refl _
    | with_reducible exact List.prefix_refl _
    | split
    | (rw [State.mk_build]; refine Stays.upd (fun p hp => by cases p <;> first | exact absurd Has.mem hp | rfl) ?_ ?_ ?_ ?_ ?_)

theorem execTamperCheck_stays (a0 : Bool) (a1 : Bool) (a2 : State) (h2 : Stays ps s0 a2) [Has ps .lists] [Has ps .ctxs] [Has ps .units] [Has ps .fns] [Has ps .ports] [Has ps .mat] [Has ps .inf] [Has ps .chm] [Has ps .radio] [Has ps .front] [Has ps .tiers] [Has ps .fab] [Has ps .rpl] [Has ps .health] [Has ps .start] [Has ps .regs] [Has ps .mem] [Has ps .out] : StaysRes ps s0 (execTamperCheck a0 a1 a2) := by
  unfold execTamperCheck
  repeat' first
    | with_reducible assumption
    | intro _
    | with_reducible apply StaysRes.ofNext
    | with_reducible apply State.alarm_stays
    | (extract_lets +onlyGivenNames v
       first
         | (have hv : Start := v; clear hv; unfold v; clear v)
         | (refine (fun (hv : Stays ps s0 v) => ?_) ?_; rotate_left; unfold v; rotate_right)
         | skip
       all_goals (try clear_value v))
    | with_reducible exact Nat.le_refl _
    | with_reducible exact List.prefix_refl _
    | exact Burns.same rfl rfl rfl rfl rfl rfl
    | split
    | (rw [State.mk_build]; refine Stays.upd (fun p hp => by cases p <;> first | exact absurd Has.mem hp | rfl) ?_ ?_ ?_ ?_ ?_)

theorem execTrainingStoreWrite_stays (a0 : State) (h0 : Stays ps s0 a0) [Has ps .start] : StaysRes ps s0 (execTrainingStoreWrite a0) := by
  unfold execTrainingStoreWrite
  repeat' first
    | with_reducible assumption
    | intro _
    | with_reducible apply StaysRes.ofNext
    | (extract_lets +onlyGivenNames v
       first
         | (have hv : Start := v; clear hv; unfold v; clear v)
         | skip
       all_goals (try clear_value v))
    | with_reducible exact Nat.le_refl _
    | with_reducible exact List.prefix_refl _
    | exact Burns.same rfl rfl rfl rfl rfl rfl
    | split
    | (rw [State.mk_build]; refine Stays.upd (fun p hp => by cases p <;> first | exact absurd Has.mem hp | rfl) ?_ ?_ ?_ ?_ ?_)

theorem execXferDone_stays (a0 : State) (h0 : Stays ps s0 a0) [Has ps .fns] [Has ps .rpl] [Has ps .regs] : StaysRes ps s0 (execXferDone a0) := by
  unfold execXferDone
  repeat' first
    | with_reducible assumption
    | intro _
    | with_reducible apply StaysRes.ofNext
    | with_reducible apply State.rplEvt_stays
    | (extract_lets +onlyGivenNames v; all_goals (try clear_value v))
    | with_reducible exact Burns.refl _
    | with_reducible exact Nat.le_refl _
    | with_reducible exact List.prefix_refl _
    | split
    | (rw [State.mk_build]; refine Stays.upd (fun p hp => by cases p <;> first | exact absurd Has.mem hp | rfl) ?_ ?_ ?_ ?_ ?_)

end Sys2Proof.Machine
end

