-- ==== Sys2Proof/Tests/Slice0.lean ====
section
/-! SUPPORT. Small tests of one command each on small states. They are also the witnesses of the statements: for each statement they show states and
operands that meet its hypotheses, and what the command then leaves. The values expected were worked out from the rules by hand (checksums and
digests apart from the model). -/
namespace Sys2Proof.Tests
open Sys2Proof Sys2Proof.Machine
set_option Elab.async false

/-- The answer of a command is a next state of which `p` holds; `h` are the hypotheses. -/
def chkR (r : Res) (p : State → Bool) (h : Bool := true) : Bool :=
  h && match r with | .next t => p t | .fault _ => false | .refused _ => false
def chk (c : Instr) (s : State) (p : State → Bool) (h : Bool := true) : Bool := chkR (exec c s) p h
/-- `s` with registers holding the values given. -/
def rs (s : State) (l : List (Nat × Nat)) : State := { s with regs := l.foldl (fun (r : Tab DWord) p => r.set p.1 (BitVec.ofNat 64 p.2)) s.regs }
def r0 : State := State.reset
/-- A command's words, from values at byte offsets. -/
def cmdOf (l : List (Nat × Nat)) : Cmd := BitVec.ofNat 512 (l.foldl (fun n p => n + p.2 * 2 ^ (8 * p.1)) 0)
def wList : ListRec := { id := 7, ctx := 1, cls := 1, unit := 0, count := 3, grain := 100, noRestart := false, deadline := false, part := 0, addr := 0, seq := 0, report := .cq 5 0 9 0 0, reruns := 0, lateCnt := 0, lateCode := 0, lateCmd := 0, own := false }
def wCtx : Ctx := { newCtx 1 false 5 with cluster := 0, st := .running, footprint := 4, placed := true }
def wRun (c : Cmd) : Running := { list := wList, idx := 1, buf := [c], stage := .ready, taken := none, handles := [], out := [], ending := none, detail := 0, start := 0, scaled := 100, overran := false }
def wFn : Fn := { ({} : Fn) with en := { st := .on }, qs := [(0, { ({} : QPair) with en := { st := .on }, sqSize := 15, cqSize := 15 })] }
/-- A package in service, time locked, context 1 of tenant 5 running. -/
def wBase : State := { r0 with
  time := { r0.time with tc := 1000000, st := .locked, src := 1, everLocked := true },
  sched := { r0.sched with ctxs := [(1, wCtx)], regions := [(0, { gap := false, cls := 2, owner := 5 })] },
  host := { r0.host with fns := [(5, wFn), (2047, wFn)] },
  start := { r0.start with pwrOk := true, served := true, dev := .serve } }
/-- `wBase` with command `c` at unit `u`, ready to act. -/
def wAt (u : Nat) (c : Cmd) : State := { wBase with sched := { wBase.sched with units := [(u, { run := some (wRun c) })] } }

/-! ### Witnesses of WellFormedCommandsAnswer -/

namespace WellFormedCommands

/-- `ok` is well formed, and `bad`, which differs in one operand, is not: it answers the fault. -/
def refuses (ok bad : Instr) : Bool := ok.wellFormed && !bad.wellFormed && (match exec bad r0 with | .fault .noSuchPart => true | _ => false)

theorem test_WellFormedCommands_1 :
    (refuses (.load 95) (.load 96) && refuses (.vmap 47) (.vmap 48) && refuses (.cmac 191) (.cmac 192) && refuses (.ldpcDec 11) (.ldpcDec 12) &&
        refuses (.cellOn 511) (.cellOn 512)) = true ∧
    (refuses (.ptpFrame 15 (.sync 0)) (.ptpFrame 16 (.sync 0)) && refuses (.lossOfSignal 2) (.lossOfSignal 3) &&
        refuses (.fabLoad 3 { op := 1 }) (.fabLoad 4 { op := 1 }) && refuses (.shaperSelect 18) (.shaperSelect 19) &&
        refuses (.gateOpen 16383) (.gateOpen 16384)) = true ∧
    (refuses (.msixFire 1023 7) (.msixFire 1023 8) && refuses (.msixFire 2047 0) (.msixFire 1024 0) && refuses (.flr 2047) (.flr 2046) &&
        refuses (.vfStopComplete 1023) (.vfStopComplete 1024) && refuses (.mirrorAck 1023 15 true) (.mirrorAck 1023 16 true)) = true ∧
    (refuses (.commitPoint 255) (.commitPoint 256) && refuses (.handleVisible 0 7) (.handleVisible 0 8) &&
        refuses (.listStart 0 5) (.listStart 0 6) && refuses (.comparatorMatch 59 0) (.comparatorMatch 60 0) &&
        refuses (.egressBuild 0 0 14) (.egressBuild 0 0 15)) = true := by decide +kernel

theorem test_WellFormedCommands_2 :
    (refuses (.grainStart (uIbex 95)) (.grainStart (uIbex 96)) && refuses (.fctlUnitEnable (uIbex 0)) (.fctlUnitEnable 0x10000) &&
        refuses (.scrub 3 true) (.scrub 4 true) && refuses (.burstFft 8191 0) (.burstFft 8192 0) && refuses (.cellStop 31 []) (.cellStop 32 [])) = true ∧
    (refuses (.apertureRead 5 0 (apSize 5)) (.apertureRead 5 1 (apSize 5)) &&
        refuses (.apertureWrite 5 (apSize 5) []) (.apertureWrite 5 (apSize 5) [0]) &&
        refuses (.lowHalfRead ⟨pf0, true, Reg.TIM_NOW, 4⟩) (.lowHalfRead ⟨pf0, true, Reg.TIM_NOW, 8⟩)) = true ∧
    (refuses (.registerWrite ⟨pf0, true, 0, 4⟩ 0) (.registerWrite ⟨pf0, true, 2, 4⟩ 0) &&
        refuses (.sentinelResult (uIbex 0) 0 0 true) (.sentinelResult (uIbex 96) 0 0 true) &&
        refuses (.healthSensorRead (List.replicate 17 0) []) (.healthSensorRead (List.replicate 16 0) [])) = true := by decide +kernel

end WellFormedCommands

/-! ### Witnesses of TimeCommands -/

namespace TimeCommands

def wStep : State := rs { r0 with time := { r0.time with st := .holdover, tc := 9000000, everLocked := true, pps := { disq := true, ofs := 6400 } } } [(Reg.TIM_SRC_PRIO, 1)]

def wNone : State := { wStep with time := { wStep.time with pps := {} } }

theorem test_TimeCommands_1 :
    (chk .snapshot wStep (fun t => t.reg Reg.TIM_SNAP == (tcStamp 9000000).toNat) (!wStep.replayed)) = true ∧
    (chk .restep wStep (fun t => t.time.st == .locked && t.time.src == 1 && t.time.tc == 8999900) (wStep.stepSrc == some 1)) = true ∧
    (chk .restep wNone (fun t => t.reg Reg.TIM_EVT == 0x40) (wNone.stepSrc == none)) = true ∧
    (chk .requalify wStep (fun t => t.time == { wStep.time with pps := { wStep.time.pps with disq := false } })) = true := by decide +kernel

theorem test_TimeCommands_2 :
    (chk (.registerWrite ⟨pf0, true, Reg.TIM_CMD, 4⟩ 4) wStep (fun t => t.time == wStep.time && t.reg Reg.TIM_SNAP == 0) &&
        chk (.registerWrite ⟨pf0, true, Reg.TIM_CMD, 4⟩ 16) wStep (fun t => t.time == wStep.time && t.reg Reg.TIM_SNAP == 0)) = true := by decide +kernel

end TimeCommands

/-! ### Witnesses of PulsesAndMessages -/

namespace PulsesAndMessages

def wPps : State := rs { r0 with time := { r0.time with st := .locked, src := 1, everLocked := true, tc := 1966080000 * 4, tod := some 4, expSec := some 4, pps := { run := 3 } } } [(Reg.TIM_SRC_PRIO, 1)]

def wTod : State := { wPps with time := { wPps.time with everLocked := false, st := .freerun, tc := 1966080000, ppsLast := some (1966080000 - 196608000) } }

def tod (crc : Nat) : List Byte := leBytes 16 (0x4E4B + 2 ^ 16 + 2 ^ 24 + 77 * 2 ^ 32 + 18 * 2 ^ 80 + crc * 2 ^ 112)

def todCrc : Nat := (crc16 ((tod 0).take 14)).toNat

def wMiss : State := { wPps with time := { wPps.time with tc := 1966080000 * 4 + 9831, pps := { qual := true, miss := 2, run := 8 } } }

theorem test_PulsesAndMessages_1 :
    (chk .ppsPulse wPps (fun t => t.time.tod == none && t.time.ppsLast == some wPps.now && t.time.pps.run == 4 && t.time.pps.miss == 0 &&
        t.time.pps.qual)
   (wPps.srcEnabled 1 && decide (-pulse64 ≤ nearSecond wPps.edge64) && decide (nearSecond wPps.edge64 ≤ pulse64))) = true ∧
    (chk .ppsMiss wMiss (fun t => t.time.pps.run == 0 && t.time.pps.miss == 3 && !t.time.pps.qual && t.reg Reg.TIM_EVT &&& 4 == 4)
   (decide (4 * second64 + pulse64 ≤ wMiss.edge64))) = true ∧
    (chk (.todMessage (tod todCrc)) wTod (fun t => t.time.tod == some 77 && t.reg Reg.TIM_LEAP == 18) (todOk (tod todCrc))) = true ∧
    (chk (.todMessage (tod (todCrc + 1))) wTod (fun t => t.time == wTod.time &&
        t.reg Reg.TIM_EVT == 8) (!todOk (tod (todCrc + 1)))) = true := by decide +kernel

end PulsesAndMessages

/-! ### Witnesses of SourcesAndOutputs -/

namespace SourcesAndOutputs

def p0 : State := { rs r0 [(Reg.TIM_SRC_PRIO, 0x3), (Reg.TIM_PTP_CFG, 0x0FFFFF00)] with start := { r0.start with pwrOk := true } }

def p1 : State := rs { r0 with time := { r0.time with ptpSlave := true, ptpPort := 3, ptpPorts := [(3, { announced := true, rank := 5, t1 := 100, t2 := 200, t3 := 250, delay := 7 })] } } [(Reg.TIM_SRC_PRIO, 0x2), (Reg.TIM_PTP_CFG, 0x0FFFFF00)]

def p2 : State := { p1 with time := { p1.time with st := .locked, src := 2, everLocked := true, ptp := { qual := true } } }

theorem test_SourcesAndOutputs_1 :
    (chk (.ptpFrame 3 (.announce 9 37 true)) p1 (fun t => (t.ptpPort 3).announced && (t.ptpPort 3).rank == 9 && t.time.ptpSlave &&
        t.time.ptpPort == 3 && t.reg Reg.TIM_LEAP == unsigned 32 ((37 : Int) - 19))) = true ∧
    (chk (.ptpFrame 4 (.announce 4 37 true)) p1 (fun t => (t.ptpPort 4).announced && (t.ptpPort 4).rank == 4 && t.time.ptpSlave &&
        t.time.ptpPort == 4 && t.reg Reg.TIM_LEAP == unsigned 32 ((37 : Int) - 19))) = true ∧
    (chk (.ptpFrame 3 (.sync 12345)) p2 (fun t => (t.ptpPort 3).t1 == p2.fromTai 12345 && (t.ptpPort 3).t2 == p2.now64 &&
        t.time.ptp.ofs == (p2.now64 : Int) - p2.fromTai 12345 - 7 && t.time.offset == t.time.ptp.ofs && t.time.slew == -(t.time.ptp.ofs * 2 ^ 26))) = true ∧
    (chk (.ptpFrame 3 (.delayResp 12345)) p2 (fun t => (t.ptpPort 3).delay == ((200-100) + (p2.fromTai 12345 - 250))/2)) = true := by decide +kernel

def p3 : State := { p2 with regs := p2.regs.set Reg.TIM_SRC_PRIO 0x321, time := { p2.time with bcn := { qual := true, ofs := 4 }, src := 3, ptp := { qual := true, ofs := 55 }, tc := 40000000000 } }

theorem test_SourcesAndOutputs_2 :
    (chk (.ptpDelayReq) p2 (fun t => (t.ptpPort 3).t3 == p2.now64 && t.out == [.delayReq 3])) = true ∧
    (chk (.esmcFrame 3 2) p2 (fun t => (t.ptpPort 3).ql == 2 && t.time.synce)) = true ∧
    (chkR (execPtpAnnounceTimeout 3 p2) (fun t => !(t.ptpPort 3).announced && t.time.st == .holdover)) = true ∧
    (chk .sourceHoldoffExpiry p3 (fun t => t.time.st == .locked && t.time.src == 2 &&
        t.time.offset == 55) ((p3.ranked.takeWhile (fun j => j != p3.time.src)).find? (fun j => (p3.srcSt j).qual &&
        decide ((p3.srcSt j).since + 16 * secondTc ≤ p3.now)) == some 2)) = true := by decide +kernel

def p4 : State := { p3 with time := { p3.time with st := .holdover, holdOfs := 12582912*100000 }, start := { p3.start with dev := .serve } }

def p5 : State := { p4 with time := { p4.time with ptp := { disq := true, ofs := 777 } }, regs := p4.regs.set Reg.TIM_CFG 2 }

theorem test_SourcesAndOutputs_3 :
    (chk .beaconSourceSwitch p3 (fun t => t.time.bcn1 && t.time.bcnLast == p3.now &&
        t.reg Reg.TIM_EVT == p3.reg Reg.TIM_EVT ||| 0x20) (p3.srcEnabled 3 && decide (p3.time.bcnLast + 4 * p3.beaconTc ≤ p3.now))) = true ∧
    (chk .holdoverLimit p4 (fun t => decide (t.time = { p4.time with st := .lost }) &&
        t.start.dev == .degraded) (p4.regBits Reg.TIM_HOLD 32 16 < p4.holdTe)) = true ∧
    (chk .autoStep p5 (fun t => t.time.st == .locked && t.time.src == 2 && t.time.tc == (p5.now64 - 777 : Int).toNat / 64 &&
        t.time.offset == 0) (p5.stepSrc == some 2)) = true ∧
    (chk .launchCounterCorrect p5 (fun t => t.time.drift == 0 && t.time.correctedAt == p5.now)) = true := by decide +kernel

def p6 : State := { p5 with time := { p5.time with tc := 1966080000 * 20 } }

theorem test_SourcesAndOutputs_4 :
    (chk .ppsOutPulse p6 (fun t => t.out == [.pps 20 (p6.todMsg 21)] &&
        t.time == { p6.time with ppsOutSec := some 20 }) ((p6.now64 : Int) - 64 * p6.frameOfs + sns64 (signed 16 (p6.regBits Reg.TIM_PPS_CFG 16 16)) == second64 * 20)) = true := by decide +kernel

end SourcesAndOutputs

/-! ### Witnesses of ComparatorMatches, GroupsAndHandles -/

namespace LaunchPoints

def c04 : Cmd := cmdOf [(0, 0x20)]

def k04 : Cmp := { pt := 0, idx := 2, stamp := 5, unit := uIbex 0, ctx := 1, list := 7, armed := false, late := 0, group := some 4, waiting := false }

def s04 : State := let s := wAt (uIbex 0) c04; { s with sched := { s.sched with cmps := [k04], groups := [(4, { st := .committed, owner := true, count := 1 })] } }

def s04b : State := { s04 with sched := { s04.sched with cmps := [{ k04 with late := 2, group := none }], regions := [] } }

def s04c (st : GrpState) (ow : Bool) : State := { s04 with sched := { s04.sched with groups := [(4, { st := st, owner := ow, count := 1, stamp := 5, members := [{ idx := 3, node := 9, joined := true, ready := false, gone := false }] })] } }

theorem test_LaunchPoints_1 :
    (chk (.comparatorMatch 0 2) s04 (fun t => t.run (uIbex 0) == some { wRun c04 with stage := afterLaunch c04 } && t.cmp 0 2 == none &&
        (t.group 4).done == 1)
   ((stampTc k04.stamp ≤ s04.localNow) && s04.admits 0 wCtx && !fenceUnmet s04 c04 (uIbex 0) && !s04.mcastUnmet c04 (uIbex 0))) = true ∧
    (chk (.comparatorMatch 0 2) s04b (fun t => t.run (uIbex 0) == some { wRun c04 with ending := some 0x26 } && t.cmp 0 2 == none &&
        t.reg Reg.TIM_LATE_CNT == 1)) = true ∧
    (chk (.comparatorMatch 0 2) (s04c .ready true) (fun t => t == s04c .ready true)) = true ∧
    (chk (.commitPoint 4) (s04c .ready true) (fun t => (t.group 4).st == .aborted && t.cmp 0 2 == none)) = true := by decide +kernel

def s04d : State := { s04 with sched := { s04.sched with cmps := [], groups := [(4, { st := .committed, owner := true, count := 1, done := 1 })] } }

theorem test_LaunchPoints_2 :
    (chk (.groupOrphan 4) (s04c .ready false) (fun t => (t.group 4).st == .orphaned && t.cmp 0 2 == none)) = true ∧
    (chk (.timGrpAbort 4) (s04c .ready true) (fun t => (t.group 4).st == .aborted && t.cmp 0 2 == none)) = true ∧
    (chk (.groupFree 4) s04d (fun t => t == s04d.setGroup 4 {})) = true ∧
    (chk (.comparatorMatch 0 2) { s04 with sched := { s04.sched with cmps := [{ k04 with stamp := 0xFFFFFFFFFF }] } } (fun t => t == { s04 with sched := { s04.sched with cmps := [{ k04 with stamp := 0xFFFFFFFFFF }] } })) = true := by decide +kernel

def hd4 (set : Bool) (v : Nat) : Handle := { base := 0, len := 8, partialMark := false, ahead := false, visSet := set, owner := 1, list := 3, vis := BitVec.ofNat 64 v, visible := false }

def s04h (set : Bool) (v : Nat) : State := { wBase with sched := { wBase.sched with ctxs := [(1, { wCtx with hq := [(7, [hd4 set v])] })] } }

theorem test_LaunchPoints_3 :
    (chk (.timGrpAbort 4) (s04c .ready false) (fun t => t.group 4 == (s04c .ready false).group 4) &&
        chk (.timGrpAbort 255) s04 (fun t => t.group 255 == {})) = true ∧
    (chk (.handleVisible 1 7) (s04h false 0) (fun t => match t.ctx? 1 with | some y => y.hqueue 7 == [{ hd4 false 0 with visible := true }] | none => false)) = true ∧
    (chk (.visibilityStampDue 1 7) (s04h true 5) (fun t => match t.ctx? 1 with | some y => y.hqueue 7 == [{ hd4 true 5 with visible := true }] | none => false)) = true ∧
    (chk (.handleVisible 1 7) (s04h true (2 ^ 40)) (fun t => t == s04h true (2 ^ 40))) = true := by decide +kernel

theorem test_LaunchPoints_4 :
    (chk .bandwidthWindow { wBase with sched := { wBase.sched with band := [(3, { rd := 9, wr := 2, rm := 1, rdFull := true, wrFull := false, rmFull := false })] } } (fun t => t == wBase)) = true ∧
    ((wBase.translate 3 7).sched.tlb == [(3, [7]), (12, [7])] && ((wBase.translate 3 7).sched.band.get {} 3).rd == 64 &&
        (wBase.translate 3 7).translate 3 7 == wBase.translate 3 7) = true := by decide +kernel

end LaunchPoints

/-! ### Witnesses of EvictionsAndSwaps, WindowsAndGrains -/

namespace WindowsAndSwaps

def ent (st ln cls ow : Nat) : List (Nat × Nat) := [(0, st + ln * 2 ^ 25 + cls * 2 ^ 50), (1, ow)]

def wCyc : State := rs { wBase with sched := { wBase.sched with regions := [(0, { gap := false, cls := 2, owner := 5, opened := 3 })] } }
  [(Reg.CYC_CFG 0, 1 + 4 * 2), (Reg.CYC_ENTRY 0 0 0, 0 + 1000000 * 2^25 + 2 * 2^50), (Reg.CYC_ENTRY 0 0 1, 5), (Reg.CYC_ENTRY 0 1 0, 1000000 + 900000 * 2^25 + 1 * 2^50), (Reg.CYC_ENTRY 0 1 1, 3)]

def c05 : Cmd := cmdOf [(0, 0x20)]

def wHs : State := { wCyc with time := { wCyc.time with tc := 999000 }, sched := { wCyc.sched with units := [(uIbex 0, { run := some (wRun c05) })] } }

def wGr : State := { wCyc with time := { wCyc.time with tc := 5000 }, sched := { wCyc.sched with ctxs := [(1, { wCtx with st := .ready, queue := [wList] })] } }

def wGd : State := { wGr with time := { wGr.time with tc := 998000 } }

theorem test_WindowsAndSwaps_1 :
    (chk (.windowBoundary 0) wCyc (fun t => (t.region 0).entry == 1 && (t.region 0).cls == 1 && (t.region 0).owner == 3 &&
        (t.region 0).opened == 1000000)) = true ∧
    (chk (.hardStop 0) wHs (fun t => (t.region 0).stopped == 1000000 && t.run (uIbex 0) == none)) = true ∧
    (chk (.grainStart (uIbex 0)) wGr (fun t => match t.run (uIbex 0) with | some r => r.list == wList && r.idx == 0 && r.start == 5000 && r.scaled == wGr.scaledOf wCtx wList (uIbex 0) | none => false)) = true ∧
    (chk (.grainStart (uIbex 0)) wGd (fun t => t.reg (Reg.CYC_DEFER_CNT 0) == 1 && t.run (uIbex 0) == none)) = true := by decide +kernel

def wRo : State := { wCyc with sched := { wCyc.sched with regions := [(0, { gap := false, cls := 1, owner := 3, opened := 3, overrun := some 900000 })] } }

def x2 : Ctx := { newCtx 2 false 5 with footprint := 4, st := .swappedReady, queue := [{ wList with ctx := 2 }] }

def wSw : State := rs { wCyc with time := { wCyc.time with tc := 5000 }, sched := { wCyc.sched with ctxs := [(1, { wCtx with st := .blocked }), (2, x2)] } }
  [(Reg.CLU_TENANT 5, 0xFFF + 2^12), (Reg.CLU_CFG 0, 0), (Reg.MOV_SPLIT 0, 0x010808)]

def wS2 : State := { wSw with sched := { wSw.sched with clusters := [(0, { deferred := some { out := some 1, inn := some 2 } })] } }

theorem test_WindowsAndSwaps_2 :
    (chk (.grainOverrun (uIbex 0)) wHs (fun t => t.reg (Reg.CYC_OVR_CNT 0) == 1 && t.run (uIbex 0) == some { wRun c05 with overran := true } &&
        t.reg (Reg.CYC_EVT 0) == 2)) = true ∧
    (chk (.radioOverrunEnd 0) wRo (fun t => (t.region 0).overrun == none && t.reg (Reg.CYC_RADIO_OVR 0) == 100000)) = true ∧
    (chk (.eviction 0) wSw (fun t => (t.cluster 0).deferred == some { out := some 1, inn := some 2 } && t.reg (Reg.CLU_EVICT_CNT 0) == 1)) = true ∧
    (chk (.swapStart 0) wS2 (fun t => t.ctx? 1 == some { wCtx with st := .swapOut } &&
        (t.cluster 0) == { swap := some { out := some 1, inn := some 2 } })) = true := by decide +kernel

def wS3 : State := { wS2 with sched := { wS2.sched with clusters := [(0, { deferred := some { out := none, inn := some 2 } })] } }

def wS4 : State := rs wS2 [(Reg.MOV_SPLIT 0, 0)]

def wS5 : State := { wS2 with mem := [(7, 9)], sched := { wS2.sched with ctxs := [(1, { wCtx with st := .swapOut }), (2, x2)], clusters := [(0, { swap := some { out := some 1, inn := none } })] } }

def wS6 : State := { wS2 with mem := [(saveAt 2 5, 9)], sched := { wS2.sched with ctxs := [(1, { wCtx with st := .blocked }), (2, { x2 with st := .swapIn, poolBase := 4, slot := 1 })], clusters := [(0, { swap := some { out := none, inn := some 2 } })] } }

theorem test_WindowsAndSwaps_3 :
    (chk (.swapStart 0) wS3 (fun t => (match t.ctx? 2 with | some y => y.st == .swapIn && y.slot == 1 && y.poolBase == 4 | none => false) && (t.cluster 0) == { swap := some { out := none, inn := some 2 } })) = true ∧
    (chk (.swapStart 0) wS4 (fun t => (t.cluster 0).deferred == some { out := some 1, inn := some 2, flagged := true } &&
        t.reg (Reg.CYC_EVT 0) == 0x10)) = true ∧
    (chk (.swapComplete 0) wS5 (fun t => (match t.ctx? 1 with | some y => y.st == .swappedBlocked | none => false) && (t.cluster 0).swap == none && t.mem == wS5.mem.copy 0 (saveAt 1 0) (4 * 65536))) = true ∧
    (chk (.swapComplete 0) wS6 (fun t => (match t.ctx? 2 with | some y => y.st == .ready | none => false) && (t.cluster 0).swap == none && t.mem == wS6.mem.copy (saveAt 2 0) (4 * 65536) (4 * 65536) && t.reg (Reg.CLU_SWAPIN_CNT 0) == 1)) = true := by decide +kernel

end WindowsAndSwaps

/-! ### Witnesses of HandlesAndAcks, ListsStartAndEnd -/

namespace ListsAndHandles

def x6 : Ctx := { wCtx with st := .ready, queue := [wList] }

def w6 : State := { wBase with time := { wBase.time with tc := 5000 }, sched := { wBase.sched with ctxs := [(1, x6)] } }

def w6b : State := { w6 with sched := { w6.sched with units := [(uIbex 0, { en := { st := .off } })] } }

def w6c : State := { wBase with sched := { wBase.sched with units := [(uIbex 0, { run := some { wRun 0 with ending := some 0x36, idx := 2 } })] } }

def h6 : Cmd := cmdOf [(0, 1), (16, 7), (24, 3), (26, 1), (27, 0), (28, 100)]

def w6d : State := { wBase with sched := { wBase.sched with units := [(uIbex 0, { run := some { wRun h6 with idx := 0 } })] } }

theorem test_ListsAndHandles_1 :
    (chk (.listStart 1 1) w6 (fun t => match t.run (uIbex 0) with | some r => r.list == wList && r.start == 5000 | none => false)
   (((x6.queue.filter (fun k => k.cls == 1)).find? (fun k => w6.mayRun x6 k && (w6.unitFor x6 k).isSome) == some wList) &&
       w6.fits x6 wList (uIbex 0))) = true ∧
    (chk (.listStart 1 1) w6b (fun t => match t.ctx? 1 with | some y => y.queue == [] && (t.qp 5 0).store.length == 1 | none => false) (w6b.unitRefused x6 1 0)) = true ∧
    (chk (.listEnd (uIbex 0)) w6c (fun t => t.run (uIbex 0) == none &&
        (t.qp 5 0).store == [{ code := 0x36, kind := 1, slot := 9, ref := 7, detail := BitVec.ofNat 128 (2 * 2 ^ 96), gen := 0, ord := 0, aux := 1 }])) = true ∧
    (chk (.listHdr (uIbex 0)) w6d (fun t => match t.run (uIbex 0) with | some k => k.idx == 1 && k.list == wList | none => false) (headerOk h6)) = true := by decide +kernel

def w6e : State := { wBase with sched := { wBase.sched with ctxs := [(1, { wCtx with ending := true })] } }

def hd : Handle := { base := 0, len := 8, partialMark := false, ahead := false, visSet := false, owner := 1, list := 3, vis := 0, visible := true }

def c6 : Cmd := cmdOf [(0, 0x20 + 2 ^ 20 + 2 * 2 ^ 21)]

def w6f : State := { wBase with sched := { wBase.sched with ctxs := [(1, { wCtx with hq := [(2, [hd])] })], units := [(uIbex 0, { run := some { wRun c6 with stage := .onHandle } })] } }

def w6g : State := { wBase with sched := { wBase.sched with units := [(uIbex 0, { run := some { wRun c6 with stage := .releasing, out := [(1, 3, hd), (1, 4, hd)] } })] } }

def w6h : State := { wBase with sched := { wBase.sched with units := [(uIbex 0, { run := some { wRun c6 with stage := .onService } })], service := [uIbex 0] } }

theorem test_ListsAndHandles_2 :
    (chk (.contextEnd 1) w6e (fun t => t.ctx? 1 == none) (w6e.mayEnd { wCtx with ending := true })) = true ∧
    (chk (.handleWaitMet (uIbex 0)) w6f (fun t => t.run (uIbex 0) == some { wRun c6 with taken := some hd, handles := [(2, hd)], stage := .ready } && (match t.ctx? 1 with | some y => y.hqueue 2 == [] | none => false))) = true ∧
    (chk (.handleRelease (uIbex 0)) w6g (fun t => t.run (uIbex 0) == some { wRun c6 with stage := .releasing, out := [(1, 4, hd)] } && (match t.ctx? 1 with | some y => y.hqueue 3 == [{ hd with visible := false }] | none => false))) = true ∧
    (chk (.serviceAck (uIbex 0)) w6h (fun t => match t.run (uIbex 0) with | some k => k.idx == 2 | none => false)) = true := by decide +kernel

def h6b : Cmd := cmdOf [(0, 1), (2, 1)]

def w6i : State := { wBase with sched := { wBase.sched with units := [(uIbex 0, { run := some { wRun h6b with idx := 0 } })] } }

def w6j : State := { w6g with sched := { w6g.sched with ctxs := [(1, { wCtx with hq := [(3, List.replicate 32 hd)] })] } }

def w6k : State := { w6h with sched := { w6h.sched with units := [(uIbex 0, { run := some { wRun c6 with idx := 2, stage := .onService } })] } }

theorem test_ListsAndHandles_3 :
    (chk (.listHdr (uIbex 0)) w6i (fun t => t.run (uIbex 0) == some { wRun h6b with idx := 0, ending := some 0x60 }) (!headerOk h6b)) = true ∧
    (chk (.contextEnd 1) wBase (fun t => t == wBase) (!wBase.mayEnd wCtx)) = true ∧
    (chk (.handleRelease (uIbex 0)) w6j (fun t => t == w6j)) = true ∧
    (chk (.serviceAck (uIbex 0)) w6k (fun t => t.run (uIbex 0) == some { wRun c6 with idx := 2, ending := some 0, buf := [] })) = true := by decide +kernel

end ListsAndHandles

/-! ### Witnesses of ArmsAndGroups, ServiceCommands -/

namespace ServiceCommands

def nopC : Cmd := cmdOf [(0, 0)]

def hostSub (f : Nat) (c : Cmd) : State := wBase.setQp f 0 { wBase.qp f 0 with sq := [c] }

def notC : Cmd := cmdOf [(0, 5), (16, 0xABCD)]

def canC : Cmd := cmdOf [(0, 6), (16, 7), (56, 1)]

theorem test_ServiceCommands_1 :
    (chk (.nop (.unit (uIbex 0))) (wAt (uIbex 0) nopC) (fun t => t.run (uIbex 0) == some { wRun nopC with stage := .onService } &&
        t.sched.service == [uIbex 0])) = true ∧
    (chk (.nop (.host 5 0)) (hostSub 5 nopC) (fun t => (t.qp 5 0).store == [{ code := 0, kind := 0, slot := 0, ref := 0, detail := 0, gen := 0, ord := 0 }] &&
        (t.qp 5 0).sq == [])) = true ∧
    (chk (.notify (.unit (uIbex 0))) (wAt (uIbex 0) notC) (fun t => (t.qp 5 0).store == [{ code := 0, kind := 3, slot := 0xFFFF, ref := 7, detail := 0xABCD, gen := 0, ord := 0, aux := 1 + 65536 }])) = true ∧
    (chk (.cancel (.host 5 0)) (hostSub 5 canC) (fun t => (t.qp 5 0).store.map (·.code) == [0x66])) = true := by decide +kernel

def putC : Cmd := cmdOf [(0, 7 + 3 * 2^27 + 0xFFFF * 2 ^ 48), (16, 0x100), (20, 64), (56, 1)]

def gcC : Cmd := cmdOf [(0, 3 + 256 + 9 * 2 ^ 12), (8, 2^25), (16, 19661), (20, 2), (56, 1)]

def gjC : Cmd := cmdOf [(0, 4 + 9 * 2 ^ 12), (16, 77), (18, 4), (20, 2), (56, 1)]

def gjS : State := let s := hostSub 5 gjC; { s with fab := { s.fab with ports := [(0, { s.port 0 with link := .up })] } }

def hdr7 : Cmd := cmdOf [(0, 1), (16, 33), (24, 3), (26, 1), (27, 0), (28, 100)]

def armC : Cmd := cmdOf [(0, 2 + 256), (8, 2^25), (16, 2^60 + 64), (24, 1), (26, 1), (27, 0), (56, 1)]

def armS : State := let s := hostSub 5 armC; { s with regs := s.regs.set Reg.TIM_MAX_LEAD 1000, mem := s.mem.wrBytes 64 (leBytes 64 hdr7.toNat) }

theorem test_ServiceCommands_2 :
    (chk (.handlePut (.host 5 0)) (hostSub 5 putC) (fun t => (t.qp 5 0).store.map (·.code) == [0] && (match t.ctx? 1 with | some y => (y.hqueue 3).length == 1 | none => false))) = true ∧
    (chk (.groupCreate (.host 5 0)) (hostSub 5 gcC) (fun t => (t.qp 5 0).store.map (·.code) == [0] &&
        (t.group 9) == { st := .arming, owner := true, stamp := 2^25, lead := 19661, count := 2, ctx := 1 })) = true ∧
    (chk (.groupJoin (.host 5 0)) gjS (fun t => (t.sched.joins.find 9 |>.map (·.node)) == some 77)) = true ∧
    (chk (.arm (.host 5 0)) armS (fun t => (t.qp 5 0).store.map (·.code) == [0] && t.sched.armed.map (·.id) == [33] &&
        t.sched.cmps.map (·.stamp) == [0x2000000])) = true := by decide +kernel

def canS : State := { hostSub 5 canC with sched := { (hostSub 5 canC).sched with ctxs := [(1, { wCtx with queue := [wList] })] } }

theorem test_ServiceCommands_3 :
    (match (wAt (uIbex 0) nopC).svc (.unit (uIbex 0)) 0 0 with | some v => v.code == 0 && v.cmd == nopC && v.rep == wList.report && v.st == wAt (uIbex 0) nopC | none => false) = true ∧
    (match (hostSub 5 putC).svc (.host 5 0) 7 56 with | some v => v.code == 0 && v.ctx.map (·.id) == some 1 && (v.st.qp 5 0).sqHead == 1 && v.rep == .cq 5 0 0 0 0 | none => false) = true ∧
    (((wAt (uIbex 0) nopC).svcEnd (.unit (uIbex 0)) wList.report 0x66 0).run (uIbex 0) == some { wRun nopC with ending := some 0x66 } &&
        (wBase.svcEnd (.host 5 0) (.cq 5 0 2 0 0) 0x25 7 |>.qp 5 0).store == [{ code := 0x25, kind := 0, slot := 2, ref := 0, detail := 7, gen := 0, ord := 0 }]) = true ∧
    (chk (.cancel (.host 5 0)) canS (fun t => (t.qp 5 0).store.map (·.code) == [0x65, 0] && match t.ctx? 1 with | some y => y.queue == [] | none => false)) = true := by decide +kernel

theorem test_ServiceCommands_4 :
    ((match armS.armList wCtx { wList with id := 33 } armC with | (n, u) => n == 0 && u.sched.armed == [{ wList with id := 33 }] && u.sched.cmps.map (fun k => (k.idx, k.armed, k.list)) == [(0, true, 33)]) && armS.stampChk (cWord1 armC) == 0 && armS.freeCmp wCtx.cluster == some 0) = true := by decide +kernel

end ServiceCommands

/-! ### Witnesses of ContextsMadeAndEnded, PageDirectives -/

namespace PagesAndContexts

def q8 : State := rs wBase [(Reg.MEM_TENANT_QUOTA 5, 100 + 100 * 2^32), (Reg.CLU_TENANT 5, 0xFFF + 2 * 2 ^ 12 + 3 * 2 ^ 20)]

def q8b : State := { q8 with tiers := { q8.tiers with charged := [(10, 3)] } }.setPage 3 { tier := 1, die := 0, frame := 8, owner := 5 }

def q8c : State := q8.setPage 3 { tier := 1, die := 0, frame := 8, owner := 5, pinned := true }

theorem test_PagesAndContexts_1 :
    ((match q8.directive dPlace (3 * 65536) 1 1 0xFF false 5 1 0 with | (n, u) => n == 0 && u.page 3 == { tier := 1, die := 0, frame := 0, moving := true, owner := 5 } && u.mem == q8.mem) && q8.fitsQuota 5 1 1 && q8.fitsQuota 5 2 0 && q8.dieWith 1 1 false 0 false == some 0 && q8.pickFrame 1 0 false == some 0) = true ∧
    (q8b.directive dPin (3 * 65536) 1 1 0xFF false 5 1 0 == (0, q8b.setPage 3 { q8b.page 3 with pinned := true }) && q8b.fitsQuota 5 1 0 &&
        q8b.fitsQuota 5 2 0) = true ∧
    (q8c.directive dUnpin (3 * 65536) 1 1 0xFF false 5 1 0 == (0, q8c.setPage 3 { q8c.page 3 with pinned := false })) = true ∧
    (q8c.directive dEvict (3 * 65536) 1 1 0xFF false 5 1 0 == (0xA6, q8c)) = true := by decide +kernel

def dir8 (op : Nat) : Cmd := cmdOf [(0, op + 0xFFFF * 2 ^ 48), (16, 3 * 65536), (24, 1), (28, 1), (29, 0xFF), (56, 1)]

def at8 (s : State) (c : Cmd) : State := s.setQp 5 0 { s.qp 5 0 with sq := [c] }

def ended (i : Instr) (s : State) (code : Nat) (p : State → Bool) : Bool := chk i s (fun t => (t.qp 5 0).store.map (fun (e : Rec) => e.code) == [code] &&
    p t)

theorem test_PagesAndContexts_2 :
    ((match q8b.directive dEvict (3 * 65536) 1 2 0xFF false 5 1 0 with | (n, u) => n == 0 && u.page 3 == {})) = true ∧
    (q8b.directive dPromote (3 * 65536) 1 1 0 false 5 1 0 == (0, q8b.count Reg.MEM_NOOP_CNT 1)) = true ∧
    (ended (.place (.host 5 0)) (at8 q8 (dir8 8)) 0 (fun t => (t.page 3).tier == 1) &&
        ended (.promote (.host 5 0)) (at8 q8b (dir8 9)) 0 (fun t => t.reg Reg.MEM_NOOP_CNT == 1)) = true ∧
    (ended (.evict (.host 5 0)) (at8 q8c (dir8 10)) 0xA6 (fun t => (t.page 3).tier == 1) &&
        ended (.pin (.host 5 0)) (at8 q8b (dir8 11)) 0 (fun t => (t.page 3).pinned) &&
        ended (.unpin (.host 5 0)) (at8 q8c (dir8 12)) 0 (fun t => !(t.page 3).pinned)) = true := by decide +kernel

def q8d : State := rs q8 [(Reg.CLU_TENANT 5, 0xFFF + 1 * 2 ^ 12 + 3 * 2 ^ 20)]

theorem test_PagesAndContexts_3 :
    (ended (.ctxCreate (.host 5 0)) (at8 q8 (cmdOf [(0, 13), (16, 4), (18, 0xFF), (19, 1)])) 0 (fun t => match t.ctx? 2 with | some y => y.owner == 5 && y.footprint == 4 && y.resident | none => false)) = true ∧
    (chk (.ctxEnd (.host 5 0)) (at8 q8 (cmdOf [(0, 14), (16, 1)])) (fun t => t.ctx? 1 == some { wCtx with ending := true })) = true ∧
    ((match q8.createCtx 5 4 none none 1 none with | (n, i, u) => n == 0 && i == 2 && match u.ctx? 2 with | some y => y.owner == 5 && y.footprint == 4 && y.resident | none => false) && q8.newCtxId == 2 && q8.fitsQuota 5 2 (saveUnits 4) && decide (q8.tenantRes 5 none < q8.maxRes 5)) = true ∧
    ((match q8d.createCtx 5 4 none none 1 none with | (n, _, u) => n == 0 && match u.ctx? 2 with | some y => !y.resident | none => false) && decide (q8d.maxRes 5 ≤ q8d.tenantRes 5 none)) = true := by decide +kernel

def q8e : State := rs q8 [(Reg.CLU_TENANT 5, 0xFFF + 1 * 2 ^ 12)]

theorem test_PagesAndContexts_4 :
    (q8e.createCtx 5 4 none none 1 none == (0x31, 0, q8e.count Reg.CLU_REFUSE_CNT 1)) = true := by decide +kernel

end PagesAndContexts

/-! ### Witnesses of BlocksLoadAndSpill, StreamsAndChecksums -/

namespace Arrays

def ldC : Cmd := cmdOf [(0, 0x20 + 0xFFFF * 2^48), (16, 0x100), (20, 2), (22, 1)]

def ldS : State := let s := wAt (uIbex 0) ldC; { s with mem := s.mem.wrBytes 0x100 (leBytes 512 0x123456789) }

def ldB : State := wAt (uIbex 0) (cmdOf [(0, 0x20 + 0xFFFF * 2^48), (16, 0x180), (20, 2)])

def spC : Cmd := cmdOf [(0, 0x22 + 0xFFFF * 2^48), (16, 0x100)]

def spS : State := let s := wAt (uIbex 0) spC; { s with mat := { s.mat with arrays := [(0, { loaded := some 2 })] } }

def rsC : Cmd := cmdOf [(0, 0x23 + 0xFFFF * 2^48), (16, 0x100)]

def rsS : State := wAt (uIbex 0) rsC

theorem test_Arrays_1 :
    (chk (.load 0) ldS (fun t => (t.array 0).fmt == { n := 2 } && (t.array 0).tag == some 1 &&
        (t.array 0).loaded == some 2) ((ldS.fetch wCtx [(poolRef 0x100, 512), (poolRef 0x10100, 0)]).1 == 0)) = true ∧
    (chk (.load 0) ldB (fun t => t.run (uIbex 0) == some { wRun (cmdOf [(0, 0x20 + 0xFFFF * 2^48), (16, 0x180), (20, 2)]) with ending := some 0x42 } &&
        t.mem == ldB.mem)) = true ∧
    (chk (.spill 0) spS (fun t => (t.array 0).loaded == none) (spS.outChk wCtx spC 0x100 65536 == 0 && !spS.outHeld wCtx spC)) = true ∧
    (chk (.restore 0) rsS (fun t => (t.array 0).tag == some 1 &&
        (t.array 0).fmt == (rsS.array 0).fmt) ((rsS.fetch wCtx [(poolRef 0x100, 65536)]).1 == 0)) = true := by decide +kernel

def wfC : Cmd := cmdOf [(0, 0x21 + 2 ^ 25), (16, 0x1000), (24, 96)]

def wfS : State := { wBase with sched := { wBase.sched with units := [(uIbex 0, { run := some { wRun wfC with stage := .onFence } })] } }

def stC : Cmd := cmdOf [(0, 0x21 + 0xFFFF * 2^48), (16, 0x1000), (24, 96), (28, 0x2000), (56, 1 + 2 * 2)]

def stS : State := let s := wAt (uIbex 0) stC; { s with mem := s.mem.wrBytes 0x1000 (leBytes 96 (0 + 2 * 256 + 2 ^ 16 + 1 * 2 ^ 256 + 2 * 2 ^ 512)) |>.wrBytes (cellAt 0 0 0) (leBytes 4 0x0503), mat := { s.mat with arrays := [(0, { fmt := { n := 2 } })] } }

def stT : State := match exec (.stream 0) stS with | .next t => t | _ => stS

theorem test_Arrays_2 :
    (chk (.weightFenceMet 0) wfS (fun t => (t.array 0).fifo == 96 && t.run (uIbex 0) == some (wRun wfC)) (cFence wfC && cOp wfC == 0x21)) = true ∧
    (chk (.stream 0) stS (fun t => t.run (uIbex 0) == some { wRun stC with stage := .busy } && (t.array 0).act == 2 &&
        (t.array 0).stream == some { cmd := stC, addin := 0, total := 1 } && (t.array 0).planeAt == some 1000000)) = true ∧
    (chk (.ibxFreeze 0) stT (fun t => (t.array 0).frozen) (stT.streamMates 0 == [0])) = true ∧
    (chk (.ibxOutputRow 0) stT (fun t => ((t.array 0).unchecked.map (fun (f : FedRow) => (f.o, f.p, f.kind))) == [(0, 2, 0)] &&
        (t.array 0).stream == none)) = true := by decide +kernel

def stBad : State := match exec (.stream 0) { stS with mem := stS.mem.wrBytes 0x1000 [7] } with | .next t => t | _ => stS

def fed : FedRow := { o := 3, p := 2, kind := 0, density := 0, early := 0, list := 7, ctx := 1, live := 0, stop := false, throttle := 0, endsRun := false, last := false }

def csS : State := { stS with mat := { stS.mat with arrays := [(0, { unchecked := [fed] })] } }

def stErr : Cmd := cmdOf [(0, 0x21 + 0xFFFF * 2^48), (16, 0x1000), (24, 96), (28, 0x2000)]

theorem test_Arrays_3 :
    (chk (.ibxOutputRow 0) stBad (fun t => (t.array 0).stream == none && t.run (uIbex 0) == some { wRun stC with ending := some 0x41 })) = true ∧
    (chk (.checksumCompare 0 0) csS (fun t => (t.array 0).unchecked == [] && t.mem == csS.mem)) = true ∧
    (chk (.checksumCompare 0 5) csS (fun t => (t.array 0).unchecked == [] && (t.array 0).lastBad == some (7, 1, 4) &&
        (t.mat.csLog.find 0).isSome)) = true ∧
    (chk (.stream 0) (wAt (uIbex 0) stErr) (fun t => t.run (uIbex 0) == some { wRun stErr with ending := some ((wAt (uIbex 0) stErr).streamChk (wRun stErr) wCtx stErr) }) ((wAt (uIbex 0) stErr).streamChk (wRun stErr) wCtx stErr != 0)) = true := by decide +kernel

def caS : State := rs r0 [(Reg.IBX_CS_COUNT 2, 5), (Reg.IBX_CS_TAIL 2, 510)]

def mcC : Cmd := cmdOf [(0, 0x21 + 0xFFFF * 2^48), (16, 0x1000), (24, 96), (28, 0x2000), (56, 1 + 2 * 2 + 3 * 2 ^ 10)]

theorem test_Arrays_4 :
    (chk (.ibxCsAck 2 4) caS (fun t => t.reg (Reg.IBX_CS_TAIL 2) == 2 && t.reg (Reg.IBX_CS_COUNT 2) == 1)) = true ∧
    (chk (.stream 0) (wAt (uIbex 0) mcC) (fun t => t == wAt (uIbex 0) mcC) (members 0 mcC == [0, 1] &&
        ((wAt (uIbex 0) mcC).cur (uIbex 1) 0x21).isNone)) = true ∧
    ((match ldS.fetch wCtx [(poolRef 0x100, 4)] with | (n, b, u) => n == 0 && b == leBytes 4 0x23456789 && u.mem == ldS.mem) && ldS.readChk wCtx [(poolRef 0x100, 4)] == 0) = true ∧
    (ldS.fetch wCtx [(poolRef 0x4000000, 4)] == (ldS.readChk wCtx [(poolRef 0x4000000, 4)], [], ldS) &&
        ldS.readChk wCtx [(poolRef 0x4000000, 4)] != 0) = true := by decide +kernel

theorem test_Arrays_5 :
    ((wBase.outStore wCtx spC 0x100 [1, 2]).mem == wBase.mem.wrBytes (wBase.poolAddr wCtx 0x100) [1, 2] &&
        (wBase.outStore wCtx (cmdOf [(6, 9)]) 0x100 [1, 2]) == wBase &&
        (wBase.outStore wCtx (cmdOf [(6, 1)]) 0x100 [1, 2]).mem == wBase.mem.wrBytes (wBase.poolAddr wCtx 0x100) [1, 2]) = true := by decide +kernel

end Arrays

/-! ### Witnesses of VectorCommands -/

namespace VectorUnits

def vC (op func fmt : Nat) : Cmd := cmdOf [(0, op + 0xFFFF * 2^48), (16, 0x100), (20, 0x200), (24, 0x300), (28, 0x400), (32, 1), (34, 2), (36, fmt), (37, func)]

def vS (op func fmt : Nat) : State :=
  let s := wAt (uVec 0) (vC op func fmt)
  { s with mem := (((s.mem.wrBytes 0x100 (leBytes 8 (0x3F800000 + 0xC0000000 * 2^32))).wrBytes 0x300 (leBytes 8 (0x40200000 + 0x40000000 * 2 ^ 32))).wrBytes 0x404 (leBytes 4 0x3F800000)),
           mat := { s.mat with arrays := [(0, { rows := [[0x3F800000, 0xC0000000]] })] } }

/-- The command at its unit passes its checks, runs and ends; `v` is what 8 bytes of its destination then hold, where no free value enters. -/
def vOk (i : Instr) (o : VOp) (func fmt : Nat) (v : Option Nat) : Bool :=
  let s := vS o.op func fmt
  chk i s (fun t => t.vec 0 == {} && (t.run (uVec 0)).map (fun (r : Running) => r.idx) == some 2 && (match v with | some n => t.mem.rdNat 0x200 8 == n | none => true))
    (s.vecChk wCtx (wRun (vC o.op func fmt)) (vC o.op func fmt) o 0 == 0 && (s.cur (uVec 0) o.op).isSome && !s.outHeld wCtx (vC o.op func fmt))

theorem test_VectorUnits_1 :
    (vOk (.vmap 0) vmapOp 1 0 (some 0x3F800000) && vOk (.vmap 0) vmapOp 1 3 (some 0x3F800000)) = true ∧
    (vOk (.vbin 0) vbinOp 0 0 (some 0x40600000) && vOk (.vbin 0) vbinOp 0 3 (some 0x40600000)) = true ∧
    (vOk (.vreduce 0) vreduceOp 0 0 (some 0xBF800000) && vOk (.vreduce 0) vreduceOp 1 3 (some 0x3F800000)) = true ∧
    (vOk (.vsoftmax 0) vsoftmaxOp 0 0 none && vOk (.vsoftmax 0) vsoftmaxOp 0 3 none) = true := by decide +kernel

def vBad (i : Instr) (o : VOp) : Bool :=
  chk i (vS o.op 99 0) (fun t => t.run (uVec 0) == some { wRun (vC o.op 99 0) with ending := some 0x69 } && t.mem == (vS o.op 99 0).mem)

theorem test_VectorUnits_2 :
    (vOk (.vnorm 0) vnormOp 0 0 none && vOk (.vnorm 0) vnormOp 0 3 none) = true ∧
    (vOk (.vconvert 0) vconvertOp 0 8 (some 0xC0003C00) && vOk (.vconvert 0) vconvertOp 0 11 (some 0xC0003C00)) = true ∧
    (vOk (.vsample 0) vsampleOp 0 0 (some 0) && vOk (.vsample 0) vsampleOp 0 3 (some 0)) = true ∧
    (vBad (.vmap 0) vmapOp && vBad (.vbin 0) vbinOp && vBad (.vreduce 0) vreduceOp && vBad (.vsoftmax 0) vsoftmaxOp && vBad (.vnorm 0) vnormOp &&
        vBad (.vconvert 0) vconvertOp && vBad (.vsample 0) vsampleOp) = true := by decide +kernel

theorem test_VectorUnits_3 :
    (chk (.vnop 0) (vS 0x47 0 0) (fun t => t == (vS 0x47 0 0).advance (uVec 0))) = true ∧
    (((vS 0x42 2 0).vecRows wCtx (vC 0x42 2 0) 0 vreduceOp [] [] 3 [[5, 0x3F800000]]).mem == (vS 0x42 2 0).mem.wrBytes 0x20C (leBytes 4 1)) = true := by decide +kernel

end VectorUnits

/-! ### Witnesses of SignalArithmetic, SignalRuns -/

namespace SignalCores

def crC : Cmd := cmdOf [(0, 0x63), (16, 3), (20, 100), (36, 0xDEAD), (60, 77)]

def crS : State := wAt (uChm 0) crC

def xfC (op : Nat) : Cmd := cmdOf [(0, op + 0xFFFF * 2^48), (16, 2^60 + 0x100), (24, 8), (28, 2)]

def xfS (op : Nat) : State := let s := wAt (uChm 0) (xfC op); { s with mem := s.mem.wrBytes 0x100 (leBytes 8 0x1122334455) }

def cfB : Cmd := cmdOf [(0, 0x61 + 0xFFFF * 2^48), (16, 2^60 + 0x100), (24, 8), (28, 2 ^ 18 - 4)]

def cdC : Cmd := cmdOf [(0, 0x62 + 0xFFFF * 2^48), (16, 2 ^ 17 + 64), (20, 8), (24, 2^60 + 0x200)]

def cdS : State := let s := wAt (uChm 0) cdC; { s with mem := s.mem.wrBytes (chmAt 0 1 64) (leBytes 8 0x99887766) }

theorem test_SignalCores_1 :
    (chk (.crun 0) crS (fun t => t.run (uChm 0) == some { wRun crC with stage := .busy } && (t.core 0).pc == 3 && (t.core 0).sreg 0 == 0xDEAD &&
        (t.core 0).sreg 6 == 77 && (t.core 0).sreg 7 == 0 && (t.core 0).act == 4) ((crS.chmRun 0).isNone && decide (24 < crS.chmLimit 0 2 false))) = true ∧
    (chk (.cimem 0) (xfS 0x60) (fun t => t.mem == (xfS 0x60).mem.wrBytes (chmAt 0 2 16) (leBytes 8 0x1122334455)) &&
        chk (.cfill 0) (xfS 0x61) (fun t => t.mem == (xfS 0x61).mem.wrBytes (chmAt 0 0 2) (leBytes 8 0x1122334455))) = true ∧
    (chk (.cfill 0) (wAt (uChm 0) cfB) (fun t => t.run (uChm 0) == some { wRun cfB with ending := some 0x80 } && t.mem == wBase.mem)) = true ∧
    (chk (.cdrain 0) cdS (fun t => t.mem.rdNat 0x200 8 == 0x99887766) (cdS.dstChk wCtx cdC (2 ^ 60 + 0x200) 8 == 0)) = true := by decide +kernel

/-- Core 0 runs, with `w` as its next word. -/
def runS (w : Nat) (c : Chm) (limit : Nat := 0) : State :=
  let s := wAt (uChm 0) crC
  { s with
    mem := s.mem.wrBytes (chmAt 0 2 (8 * c.pc.toNat)) (leBytes 8 w), chm := [(0, { c with run := some { stoch := false, seed := 0, tag := 0, limit := limit } })],
    sched := { s.sched with units := [(uChm 0, { run := some { wRun crC with stage := .busy } })] } }

def limS : State := let s := runS (2^63 + 5 * 2^58) {} 4; { s with chm := [(0, { run := some { stoch := false, seed := 0, tag := 0, limit := 4, cyc := 5 } })] }

def isControl (s : State) (cop : Nat) : Bool :=
  match s.chmRun 0 with
  | some (_, x, run, w) => bit w 63 && bits w 58 5 == cop && !s.pcBad 0 x && run.within (run.cyc - 1) && run.within run.cyc &&
      !ctlIllegal (s.core 0) w &&
      (s.chmBad (chmAt 0 2 (8 * (s.core 0).pc.toNat)) 8).isNone
  | none => false

def chkC (i : Instr) (cop arg : Nat) (c : Chm) (p : Chm → Bool) : Bool :=
  chk i (runS (2 ^ 63 + cop * 2 ^ 58 + arg) c) (fun t => p (t.core 0)) (isControl (runS (2 ^ 63 + cop * 2 ^ 58 + arg) c) cop)

def cS : Chm := { s := [(3, 6)] }

theorem test_SignalCores_2 :
    (chk (.halt 0) (runS (2^63) {}) (fun t => (t.core 0).run == none && (t.core 0).act == 0 &&
        (t.run (uChm 0)).map (fun (r : Running) => r.idx) == some 2)) = true ∧
    (chk (.chmLimit 0) limS (fun t => (t.core 0).run == none && t.run (uChm 0) == some { wRun crC with ending := some 0x83 } &&
        t.reg (Reg.CHM_FAULT 0) == 4)) = true ∧
    (chkC (.loop 0) 1 (9 * 2^45 + 3) {} (fun c => c.pc == 1 && c.loops == [{ start := 1, stop := 9, count := 3 }]) &&
        chkC (.loop 0) 1 (9 * 2^45) {} (fun c => c.pc == 10 && c.loops == [])) = true ∧
    (chkC (.loop 0) 1 (9 * 2^45 + 2 ^ 16 + 3 * 2 ^ 17) cS (fun c => c.pc == 1 && c.loops == [{ start := 1, stop := 9, count := 6 }]) &&
        chkC (.br 0) 2 (9 * 2 ^ 45) {} (fun c => c.pc == 9 && c.run.map (·.cyc) == some 3)) = true := by decide +kernel

def setpOk (field : Nat) (g : Agen) : Bool := chkC (.setp 0) 4 (5 * 2 ^ 55 + field * 2 ^ 52 + 0x20041) {} (fun c => c.p.get {} 5 == g)

/-- A bundle over V1 = 2 − 3i and V2 = 32,767 + 4i in every lane, V3 with the lane numbers, and 5 in every lane of A2. -/
def cc : Chm := { v := [(1, List.replicate 16 0xFFFD0002#32), (2, List.replicate 16 0x00047FFF#32), (3, (List.range 16).map (BitVec.ofNat 32))], a := [(2, List.replicate 16 5#40)], p := [(0, { base := 64, step := 64 }), (1, { base := 0x20000 }), (2, { base := 256, index := 4, step := 64 })] }

def chkB (i : Instr) (aop va vb d rest : Nat) (c : Chm) (p : State → Chm → Bool) : Bool :=
  let s := runS (aop * 2^57 + va * 2^53 + vb * 2^49 + d * 2^45 + rest) c
  chk i s (fun t => p t (t.core 0)) (match s.chmRun 0 with
    | some (_, x, run, w) =>
      let b := bundleOf w
      !bit w 63 && b.aop == aop && !s.pcBad 0 x && run.within (b.issueAt run - 1) && run.within (b.issueAt run) && (s.bundleFault 0 x b).isNone &&
          (s.bundleBad 0 b).isNone
    | none => false)

def all (n : Nat) (v : Int) (c : Chm) : Bool := c.areg n == List.replicate 16 (BitVec.ofInt 40 v)

def allV (n : Nat) (v : Word) (c : Chm) : Bool := c.vreg n == List.replicate 16 v

theorem test_SignalCores_3 :
    (chkC (.bnz 0) 3 (9 * 2 ^ 45 + 3 * 2 ^ 42) cS (fun c => c.pc == 9) && chkC (.bnz 0) 3 (9 * 2 ^ 45 + 4 * 2 ^ 42) cS (fun c => c.pc == 1)) = true ∧
    (setpOk 0 { base := 0x20041 } && setpOk 1 { index := 0x41 } && setpOk 2 { step := 0x20041 } && setpOk 3 { len := 0x20041 } &&
        setpOk 4 { mode := 1 }) = true ∧
    (chkC (.sets 0) 5 (2 * 2 ^ 55 + 0xFFFFFFFF) {} (fun c => c.sreg 2 == 0xFFFFFFFF) &&
        chkC (.adds 0) 6 (3 * 2 ^ 55 + 0xFFFFFFFF) cS (fun c => c.sreg 3 == 5) && chkC (.setsh 0) 7 17 {} (fun c => c.sh == 17)) = true ∧
    (chkB (.cmac 0) 1 1 2 1 0 cc (fun _ c => all 2 65551 c && all 3 (-98293) c) && chkB (.cmacj 0) 2 1 2 1 0 cc (fun _ c => all 2 65527 c &&
        all 3 (-98309) c) && chkB (.cmsu 0) 3 1 2 1 0 cc (fun _ c => all 2 (-65541) c && all 3 98293 c)) = true := by decide +kernel

theorem test_SignalCores_4 :
    (chkB (.cmul 0) 4 1 2 1 0 cc (fun _ c => all 2 65546 c && all 3 (-98293) c) && chkB (.cmulj 0) 5 1 2 1 0 cc (fun _ c => all 2 65522 c &&
        all 3 (-98309) c)) = true ∧
    (chkB (.rcmac 0) 6 1 2 0 0 cc (fun _ c => all 0 65534 c && all 1 8 c && all 2 (-98296) c && all 3 (-12) c) &&
        chkB (.rcmul 0) 7 1 2 0 0 cc (fun _ c => all 0 65534 c && all 1 8 c && all 2 (-98301) c && all 3 (-12) c)) = true ∧
    (chkB (.azero 0) 8 0 0 1 0 cc (fun _ c => all 2 0 c && all 3 0 c) && chkB (.arnd 0) 9 1 0 7 0 cc (fun _ c => allV 7 5 c)) = true ∧
    (chkB (.vadd 0) 10 1 2 7 0 cc (fun _ c => allV 7 0x00017FFF c) && chkB (.vsub 0) 11 1 2 7 0 cc (fun _ c => allV 7 0xFFF98003 c) &&
        chkB (.vconj 0) 12 1 0 7 0 cc (fun _ c => allV 7 0x00030002 c)) = true := by decide +kernel

def ccL : Chm := { cc with loops := [{ start := 0, stop := 4, count := 2 }], pc := 4 }

def chkLoad (d : Nat) : Bool :=
  let s := runS (2 ^ 44 + d * 2 ^ 40 + 2 ^ 34 + 6 * 2 ^ 30 + 2 ^ 27) ccL
  chk (.aopNop 0) { s with mem := (s.mem.wrBytes (chmAt 0 0 64) [0x34, 0x12]).wrBytes (chmAt 0 1 4) [0x56] } (fun t =>
    ((t.core 0).vreg d).take 2 == [0x1234, 0] && ((t.core 0).vreg 6).take 2 == [0, 0x56] && (t.core 0).pc == 0 &&
        (t.core 0).loops == [{ start := 0, stop := 4, count := 1 }])

theorem test_SignalCores_5 :
    (chkB (.vmov 0) 13 3 0 7 0 cc (fun _ c => c.vreg 7 == cc.vreg 3) &&
        chkB (.vrot 0) 14 3 1 7 0 cc (fun _ c => c.vreg 7 == (cc.vreg 3).drop 1 ++ [0xFFFD0002]) &&
        chkB (.vbrev 0) 15 3 0 7 0 cc (fun _ c => c.vreg 7 == [0, 8, 4, 12, 2, 10, 6, 14, 1, 9, 5, 13, 3, 11, 7, 15])) = true ∧
    (chkB (.aopNop 0) 0 0 0 0 (2 ^ 23 + 1 * 2 ^ 18 + 2 * 2 ^ 15 + 2 ^ 13) cc (fun t c => t.mem.rdNat (chmAt 0 0 260) 4 == 0xFFFD0002 &&
        t.mem.rdNat (chmAt 0 0 320) 4 == 0xFFFD0002 && (c.p.get {} 2).index == 68 && c.pc == 1)) = true ∧
    (chkLoad 5) = true := by decide +kernel

end SignalCores

/-! ### Witnesses of CodingCommands, CopiesAndFills, ExactPartials, FabricCommands -/

namespace CodingAndMoves

def cpC : Cmd := cmdOf [(0, 0xA0 + 0xFFFF * 2^48), (16, 2^60 + 0x100), (24, 2^60 + 0x200), (32, 5)]

def cpS : State := let s := wAt (uMov 0) cpC; { s with mem := s.mem.wrBytes 0x100 (leBytes 8 0x1122334455) }

def flC : Cmd := cmdOf [(0, 0xA2 + 0xFFFF * 2^48), (16, 2^60 + 0x200), (32, 11), (48, 0xAABB)]

def txC : Cmd := cmdOf [(0, 0xA3 + 0xFFFF * 2^48), (16, 0x100), (32, 2^60 + 0x400), (40, 1), (42, 2), (44, 0xFFF1)]

def txS : State := let s := wAt (uMov 0) txC; { s with mem := s.mem.wrBytes 0x100 (leBytes 12 (5 + (2^48-3) * 2^48)) }

def exS : State := let s := txS; { s with mem := (s.mem.wrBytes 0x400 (exactBytes (-15) 1 [7, 8])).wrBytes 0x600 (exactBytes (-15) 2 [1, -9]) }

def esC : Cmd := cmdOf [(0, 0xA4 + 0xFFFF * 2^48), (16, 2^60 + 0x400), (24, 2^60 + 0x600)]

theorem test_CodingAndMoves_1 :
    (chk (.copy 0) cpS (fun t => t.mem == (cpS.dstStore wCtx cpC (2^60 + 0x200) (leBytes 5 0x1122334455)).mem &&
        t.mem.rdNat 0x200 5 == 0x1122334455)) = true ∧
    (chk (.fill 0) (wAt (uMov 0) flC) (fun t => t.mem.rdNat 0x200 11 == 0xAABB + 0xAABB * 2^64)) = true ∧
    (chk (.toExact 0) txS (fun t => t.mem.rdBytes 0x400 64 == exactBytes (-15) 1 [5 * 0x8000, -3 * 0x8000])) = true ∧
    (chk (.exactSum 0) { wAt (uMov 0) esC with mem := exS.mem } (fun t => t.mem.rdBytes 0x400 64 == exactBytes (-15) 3 [8, -1])) = true := by decide +kernel

def feC : Cmd := cmdOf [(0, 0xA5 + 0xFFFF * 2^48), (16, 2^60 + 0x400), (24, 2^60 + 0x800), (32, 4)]

def atC : Cmd := cmdOf [(0, 0xA6 + 0xFFFF * 2^48), (16, 2 * 2^60 + 77 * 2^48 + 0x100), (24, 0)]

def atS : State := let s := wAt (uMov 0) atC
  rs { s with fab := { s.fab with ports := [(0, { s.port 0 with link := .up })] } } [(Reg.FAB_JOB 5, 2^20 + 9), (Reg.MOV_SPLIT 0, 0x080808)]

def ndC : Cmd := cmdOf [(0, 0xA1 + 0xFFFF * 2^48), (16, 2^60 + 0x100), (24, 2 * 2^60 + 77 * 2^48 + 0x100), (32, 64), (34, 1), (36, 1), (38, 1)]

def ndS : State := let s := wAt (uMov 0) ndC
  rs { s with fab := { s.fab with ports := [(0, { s.port 0 with link := .up })] } } [(Reg.FAB_JOB 5, 2^20 + 9), (Reg.MOV_SPLIT 0, 0x080808)]

def ccS : State := let c := cmdOf [(0, 0xA0 + 0xFFFF * 2^48), (16, 2^60 + 0x100), (24, 2^60 + 0x200), (32, 5), (40, 9)]
  { wAt (uMov 0) c with sched := { (wAt (uMov 0) c).sched with ctxs := [(1, { wCtx with cut := [9] })] } }

theorem test_CodingAndMoves_2 :
    (chk (.fromExact 0) { wAt (uMov 0) feC with mem := exS.mem } (fun t => t.mem.rdNat 0x800 4 == 0x39600000)) = true ∧
    (chk (.atomic 0) atS (fun t => t.run (uMov 0) == some { wRun atC with stage := .busy } &&
        t.fab.reqs.map (fun (q : Req) => (q.txn.op, q.txn.dest, q.txn.offset)) == [(3, 77, 0x100)])) = true ∧
    (chk (.xferNd 0) ndS (fun t => t == ndS.openXfer (uMov 0) (wRun ndC) wCtx ndC 7 1 0 &&
        t.fab.reqs.map (fun (q : Req) => (q.txn.op, q.txn.dest, q.txn.len)) == [(2, 77, 64)])) = true ∧
    (chk (.copy 0) ccS (fun t => t == (ccS.count (Reg.MOV_CANCEL_SKIP 0) 1).advance (uMov 0))) = true := by decide +kernel

def fbC : Cmd := cmdOf [(0, 0xA2 + 0xFFFF * 2^48), (16, 2^60 + 4 * 65536), (32, 1), (48, 0xAABB)]

def pgS : State := { wBase with tiers := { wBase.tiers with pages := [(16, { tier := 1, die := 0, frame := 3, owner := 5 })] } }

def txB : State := wAt (uMov 0) (cmdOf [(0, 0xA3 + 0xFFFF * 2^48), (16, 0x100), (32, 2^60 + 0x400), (40, 1), (42, 2)])

theorem test_CodingAndMoves_3 :
    (chk (.fill 0) (wAt (uMov 0) fbC) (fun t => t.run (uMov 0) == some { wRun fbC with ending := some ((wAt (uMov 0) fbC).dstChk wCtx fbC (2 ^ 60 + 4 * 65536) 1) } &&
        t.mem == []) ((wAt (uMov 0) fbC).dstChk wCtx fbC (2 ^ 60 + 4 * 65536) 1 != 0)) = true ∧
    ((pgS.dstStore wCtx cpC (2 ^ 60 + 5) [1, 2]).mem == pgS.mem.wrBytes (pgS.poolAddr wCtx 5) [1, 2] &&
        (pgS.dstStore wCtx cpC 0x100000 [1, 2]).mem == pgS.mem.wrSpans (pgS.placedSpans 0x100000 2) [1, 2] &&
        (pgS.dstStore wCtx cpC 0x100000 [1, 2]).mem.rdNat (frameAt 1 0 3 0) 2 == 0x201) = true ∧
    (toExactElem 3 0x8000 33 (-15) == some (3 * 0x8000 * 2 ^ 48) && toExactElem 3 0x8000 34 (-15) == none &&
        toExactElem 3 0x8000 (-15) (-15) == some (3 * 0x8000) && toExactElem 3 0x8000 (-16) (-15) == none) = true ∧
    (chk (.toExact 0) txB (fun t => t.mem == [] && (t.run (uMov 0)).map (·.idx) != some 2)) = true := by decide +kernel

def feS (fmt : Nat) : State := { wAt (uMov 0) (cmdOf [(0, 0xA5 + 0xFFFF * 2^48), (16, 2^60 + 0x400), (24, 2^60 + 0x800), (32, fmt), (48, 2), (52, 0xC00)]) with mem := txS.mem.wrBytes 0x400 (exactBytes 0 1 [7, -8]) }

def ndB : State := rs ndS [(Reg.FAB_JOB 5, 0)]

theorem test_CodingAndMoves_4 :
    (chk (.fromExact 0) (feS 4) (fun t => t.mem.rdNat 0x800 8 == 0x40E00000 + 0xC1000000 * 2 ^ 32) &&
        chk (.fromExact 0) (feS 0) (fun t => t.mem.rdNat 0x800 2 == 0xF807)) = true ∧
    (chk (.fromExact 0) (feS 2) (fun t => t.mem.rdNat 0x800 4 == 0xC8004700) &&
        chk (.fromExact 0) (feS 3) (fun t => t.mem.rdNat 0x800 4 == 0xC10040E0)) = true ∧
    (chk (.fromExact 0) (feS 1) (fun t => t.mem.rdNat 0x800 2 == 0xC038)) = true ∧
    (chk (.xferNd 0) ndB (fun t => t.run (uMov 0) == some { wRun ndC with ending := some (ndB.xferChk wCtx ndC) } &&
        t.out == []) (ndB.xferChk wCtx ndC != 0)) = true := by decide +kernel

def ndT : State := match exec (.xferNd 0) ndS with | .next t => t | _ => ndS

def reC : Cmd := cmdOf [(0, 0xA7), (16, 7), (24, 1)]

def reS (k : Nat) : State := { ndS with sched := { ndS.sched with units := [(uMov 0, { run := some (wRun reC) })] }, fab := { ndS.fab with recs := [{ ctx := 1, list := 7, cmdIdx := 1, cmd := ndC, index := k, cause := 0xB1 }] } }

theorem test_CodingAndMoves_5 :
    (chk (.xferNd 0) ndT (fun t => t == ndT.pumpXfer 0) ((ndT.curBusy (uMov 0) 0xA1).isSome && (ndT.xferOn (uMov 0)).map (·.id) == some 0)) = true ∧
    (chk (.resume 0) (reS 0) (fun t => t == (reS 0).openXfer (uMov 0) (wRun reC) wCtx ndC 7 1 0) ((reS 0).xferChk wCtx ndC == 0)) = true ∧
    (chk (.resume 0) (reS 1) (fun t => t.run (uMov 0) == some { wRun reC with ending := some 0xB4 })) = true := by decide +kernel

end CodingAndMoves

/-! ### Witnesses of ModelCommands, SequenceCommands -/

namespace Inference

def mdl : Model := { newModel ((List.replicate 16 (0:Byte)) ++ leBytes 4 100 ++ leBytes 4 64 ++ leBytes 2 8 ++ leBytes 2 4 ++ leBytes 2 1 ++ [1,1] ++ leBytes 4 1 ++ List.replicate 92 0) 0 4 4 [] false false (.cq 5 0 9 0 0) with digest := 0 }

def hostSub (f : Nat) (c : Cmd) : State := wBase.setQp f 0 { wBase.qp f 0 with sq := [c] }

def mdS (c : Cmd) : State := (rs (hostSub 5 c) [(Reg.MEM_TENANT_QUOTA 5, 1000 + 1000 * 2^32), (Reg.CLU_TENANT 5, 1)]).setModel 5 2 mdl

def ssC : Cmd := cmdOf [(0, 0x12), (16, 44), (20, 2), (21, 2), (22, 5), (32, 2), (36, 1), (40, 0x3F800000), (44, 0), (48, 9), (56, 7), (60, 0xFFFFFFFF)]

def scC : Cmd := cmdOf [(0, 0x13), (16, 44), (20, 2)]

def sq1 : Sequence := { (mdS ssC).newSeq 5 ssC (leBytes 4 3 ++ leBytes 4 5) (.cq 5 0 9 0 0) 0 with st := .active, promptDone := 2, made := 1, pages := 1, cols := 1 }

def sqS (c : Cmd) : State := let s := mdS c; { s with inf := { s.inf with seqs := [sq1] } }

def muC : Cmd := cmdOf [(0, 0x11), (32, 2), (33, 1)]

theorem test_Inference_1 :
    (chk (.seqSubmit (.host 5 0) (leBytes 4 3 ++ leBytes 4 5)) (mdS ssC) (fun t => t.inf.seqs.map (fun (q : Sequence) => (q.id, q.tenant, q.slot, q.promptLen, q.prompt.length)) == [(44, 5, 2, 2, 8)] &&
        (t.qp 5 0).store.map (fun (r : Rec) => r.code) == [0])) = true ∧
    (chk (.seqCancel (.host 5 0)) (sqS scC) (fun t => t.inf.seqs.map (fun (q : Sequence) => q.cancelled) == [true] &&
        (t.qp 5 0).store.map (fun (r : Rec) => r.code) == [0])) = true ∧
    (chk (.modelUnload (.host 5 0)) (sqS muC) (fun t => (t.model 5 2).isNone &&
        (t.qp 5 0).store.map (fun (r : Rec) => (r.code, r.kind)) == [(0,0)])) = true ∧
    (chk (.modelUnload (.host 5 0)) (sqS (cmdOf [(0, 0x11), (32, 2)])) (fun t => (t.model 5 2).isSome &&
        (t.qp 5 0).store.map (fun (r : Rec) => r.code) == [0x75])) = true := by decide +kernel

def maS : State := (mdS ssC).setModel 5 2 { mdl with mirrorWait := some (.cq 5 0 9 0 0) }

def sbS : State := let s := sqS 0; s.setModel 5 2 { mdl with inStep := true }

def imgBody : List Byte := (List.range 5).foldr (fun i l => leBytes 8 (i + 1) ++ leBytes 8 (128 + 160) ++ leBytes 8 (if i = 0 then 16 else 0) ++ leBytes 8 0 ++ l) [] ++ leBytes 2 1 ++ [0, 0] ++ List.replicate 12 0

def imgHdr (dig : List Byte) : List Byte := leBytes 4 0x48544C42 ++ leBytes 2 1 ++ [0, 0] ++ leBytes 8 2577 ++ leBytes 4 100 ++ leBytes 4 64 ++ leBytes 2 8 ++ leBytes 2 4 ++ leBytes 2 1 ++ [1, 1] ++
  leBytes 4 1 ++ leBytes 4 0 ++ leBytes 8 0 ++ leBytes 8 0 ++ leBytes 8 128 ++ leBytes 4 5 ++ List.replicate 12 0 ++ dig

/-- SHA-384 of the body, worked out apart from the model. -/
def imgDigest : List Byte := leBytes 48 0x2b5fe3afeeb3b26a6b27e3cb36a41cfef47a7ad7258cec7b3e957dd24308d2fcf37164c4861e57b4aad0962b91abce57

def img : List Byte := imgHdr imgDigest ++ imgBody

def mlC : Cmd := cmdOf [(0, 0x10), (16, 0x100000), (24, 304), (32, 3), (34, 0), (36, 4)]

def mlS : State := let s := rs (hostSub 5 mlC) [(Reg.MEM_TENANT_QUOTA 5, 1000 + 1000 * 2^32), (Reg.CLU_TENANT 5, 0xFFF + 4 * 2^12 + 3 * 2^20)]
  let u := { s with tiers := { s.tiers with pages := [(16, { tier := 1, die := 0, frame := 3, owner := 5 })] } }
  { u with mem := u.mem.wrSpans (u.placedSpans 0x100000 304) img }

theorem test_Inference_2 :
    (chk (.mirrorAck 5 2 true) maS (fun t => (t.model 5 2).map (·.mirrorWait) == some none)) = true ∧
    (chk (.mirrorAck 5 2 false) maS (fun t => (t.model 5 2).isNone)) = true ∧
    (chk (.stepBoundary 5 2 [(44, 9)] []) sbS (fun t => t.inf.seqs.map (fun (q : Sequence) => (q.made, q.cols)) == [(2, 1)] &&
        (t.model 5 2).map (·.step) == some 1)) = true ∧
    (chk (.modelLoad (.host 5 0)) mlS (fun t => ((t.model 5 3).map (fun m => (m.vocab, m.shards, m.ctxs.length, m.mirrorWait.isNone))) == some (100, 1, 1, true) &&
        (t.qp 5 0).store.map (fun (r : Rec) => r.code) == [0])) = true := by decide +kernel

def code13 (i : Instr) (s : State) (n : Nat) (p : State → Bool := fun _ => true) : Bool := chk i s (fun t => (t.qp 5 0).store.map (fun (r : Rec) => r.code) == [n] &&
    p t)

def mlC2 : Cmd := cmdOf [(0, 0x10), (16, 0x100000), (24, 304), (32, 2), (34, 0), (36, 4)]

def head13 (ident tables : Nat) : List Byte := leBytes 4 0x48544C42 ++ leBytes 2 1 ++ [0, 0] ++ leBytes 8 ident ++ leBytes 4 100 ++ leBytes 4 64 ++ leBytes 2 8 ++ leBytes 2 4 ++ leBytes 2 1 ++ [BitVec.ofNat 8 tables, 1] ++
  leBytes 4 1 ++ leBytes 4 0 ++ leBytes 8 0 ++ leBytes 8 0 ++ leBytes 8 128 ++ leBytes 4 5 ++ List.replicate 12 0 ++ imgDigest

def imgOf (ident ib : Nat) : List Byte := head13 ident ib ++ imgBody

theorem test_Inference_3 :
    (code13 (.modelLoad (.host 5 0)) (mdS mlC2) 0x75 &&
        code13 (.modelLoad (.host 5 0)) (hostSub 5 mlC2) 0xA2 (fun t => (t.model 5 2).isNone)) = true ∧
    (code13 (.modelUnload (.host 5 0)) (hostSub 5 muC) 0x76) = true ∧
    (code13 (.seqSubmit (.host 5 0) (leBytes 4 100)) (mdS ssC) 0x79 (fun t => t.inf.seqs == []) &&
        code13 (.seqCancel (.host 5 0)) (mdS scC) 0x7B) = true ∧
    ((mlS.loadModel 5 3 0x100000 0 4 (imgOf 7 1) none (.cq 5 0 9 0 0)).1 == 0x71 &&
        (wBase.regBits Reg.HUB_IDENT 0 32 == 0xA11)) = true := by decide +kernel

def mlS1 : State := rs mlS [(Reg.CLU_TENANT 5, 1 + 4 * 2^12)]

def failS : State := let s := sqS 0; s.setModel 5 2 { mdl with failed := true }

def rf (s : State) (l : List (Nat × Nat)) : Nat := s.seqRefusal 5 (cmdOf ([(0, 0x12), (20, 2), (21, 2), (22, 5), (32, 2), (36, 1), (40, 0x3F800000), (44, 0), (48, 9), (56, 7), (60, 0xFFFFFFFF)] ++ l)) (leBytes 4 3 ++ leBytes 4 5)

theorem test_Inference_4 :
    ((mlS1.loadModel 5 3 0x100000 0 4 (imgOf 0xA11 2) none (.cq 5 0 9 0 0)).1 == 0x74 && (mlS1.permittedList 5).length == 1) = true ∧
    (chk (.stepBoundary 5 2 [] []) failS (fun t => t == failS.endSeq sq1 5)) = true ∧
    ({ sq1 with made := 5 }.endOf mdl 1 == 1 && { sq1 with stopEn := true, stop0 := 7 }.endOf mdl 7 == 2 &&
        { sq1 with stopEn := false, promptLen := 63, made := 1 }.endOf mdl 1 == 3 &&
        { sq1 with stopEn := false, promptLen := 62, made := 1 }.endOf mdl 1 == 0) = true ∧
    (rf (hostSub 5 ssC) [(16, 44)] == 0x76 && rf (mdS ssC) [] == 0x78 && rf (mdS ssC) [(16, 44)] == 0 &&
        rf ((mdS ssC).setModel 5 2 { mdl with maxSeq := 0 }) [(16, 44)] == 0x77) = true := by decide +kernel

theorem test_Inference_5 :
    ((promptCols 4 3 6 [{ sq1 with promptLen := 9, promptDone := 2 }, sq1]).map (fun q => (q.col, q.cols)) == [(3, 4), (7, 0)]) = true := by decide +kernel

end Inference

/-! ### Witnesses of CellsAndReports, RadioOrders -/

namespace RadioService

def hostMsg (ty cell seq cnt : Nat) (slot : Stamp) (p : List Byte) : List Byte := ssiMsg ty cell seq cnt slot p

def rk : CellCfg := { nrb := 273, mu := 1, ant := 4, lDl := 4, lUl := 2, beamformed := false, region := 2, group := 0, clusters := [8], harqBase := 0, harqLen := 65536 * 4, harqEntry := 65536, profiles := [0,0,0,0], precoder := 0, beams := 0, beamCount := 0, fdd := false }

def raS (x : Cell) : State := let s := rs { wBase with radio := { wBase.radio with cfg := [(3, rk)], cells := [(3, x)] } } [(Reg.CLU_CFG 8, 2 + 16 * 256),
  (Reg.CYC_CFG 2, 1 + 1 * 4), (Reg.CYC_ENTRY 2 0 0, 0 + 983040 * 2^25 + 1 * 2^50), (Reg.CYC_ENTRY 2 0 1, 5)]
  s

def csM := hostMsg 0x01 3 0 0 0 ([2,0,0,0,0,0,0,0] : List Byte)

def xOn : Cell := { en := { st := .on }, first := 0, via := 0 }

def stM := hostMsg 0x02 3 0 0 0 []

theorem test_RadioService_1 :
    (chk (.cellStart 0 csM) (raS {}) (fun t => (t.cell 3).en.st == .starting && (t.cell 3).onFrame == 3 && (t.cell 3).profile == 2 &&
        (t.qp 2047 0).ssiBase == 0 && t.out.length > 0)) = true ∧
    (chk (.cellStop 0 stM) (raS xOn) (fun t => (t.cell 3).stop == some (983040 * 4) && (t.cell 3).en.st == .stopping)) = true ∧
    (chk (.cellOn 3) (raS { en := { st := .starting }, onFrame := 0, first := 7 }) (fun t => (t.cell 3).en.st == .on &&
        (t.cell 3).marked == 6)) = true ∧
    (chk (.cellOff 3) (raS { en := { st := .stopping }, stop := some 5 }) (fun t => (t.cell 3).en.st == .off)) = true := by decide +kernel

def at4 : Nat := 983040 * 6

def pdsch (h : Nat) : List Byte := leBytes 2 1 ++ leBytes 2 48 ++ leBytes 4 h ++ leBytes 2 77 ++ leBytes 2 0 ++ leBytes 2 0 ++ leBytes 2 20 ++ [0, 14, 2, 1] ++ leBytes 2 4 ++ [2, 0] ++ leBytes 2 0 ++ [0, 0] ++ leBytes 2 5 ++ leBytes 2 0 ++
  leBytes 4 800 ++ leBytes 2 500 ++ [4, 0] ++ leBytes 4 0 ++ leBytes 4 0

def doM := hostMsg 0x20 3 0 1 (tcStamp at4) (pdsch 9)

def tbM := hostMsg 0x21 3 0 1 (tcStamp at4) (leBytes 4 9 ++ [0,0,0,0] ++ leBytes 4 3 ++ leBytes 4 0 ++ [1,2,3,0,0,0,0,0])

def pusch (h : Nat) : List Byte := leBytes 2 0x11 ++ leBytes 2 48 ++ leBytes 4 h ++ leBytes 2 77 ++ leBytes 2 0 ++ leBytes 2 0 ++ leBytes 2 20 ++ [0, 14, 2, 1] ++ leBytes 2 4 ++ [2, 0] ++ leBytes 2 0 ++ [0, 0] ++
  leBytes 4 800 ++ leBytes 2 500 ++ [1, 0] ++ leBytes 4 1 ++ List.replicate 8 0

def uoM := hostMsg 0x28 3 0 1 (tcStamp at4) (pusch 9)

def srM := hostMsg 0x29 3 0 1 0 (leBytes 4 1)

theorem test_RadioService_2 :
    (chk (.dlOrder 0 doM) (raS xOn) (fun t => (((t.cell 3).slotAt at4).dl.getD []).map (fun (p : Pdu) => (p.idx, p.ty, p.handle)) == [(0, 1, 9)])) = true ∧
    (chk (.tbLoad 0 tbM) (raS xOn) (fun t => ((t.cell 3).slotAt at4).tbs == [(0, 9, 0, [1,2,3])])) = true ∧
    (chk (.ulOrder 0 uoM) (raS xOn) (fun t => ((t.cell 3).slotAt at4).pend.map (fun (p : Pending) => (p.kind, p.handle)) == [(1, 9)] &&
        (t.harqOf (65536 * 3 + 1)).busy)) = true ∧
    (chk (.softRelease 0 srM) { raS xOn with radio := { (raS xOn).radio with harq := [(65536 * 3 + 1, { tbs := 0, blocks := 0, bg := 0, zc := 0, passed := [], filled := [], busy := false })] } } (fun t => t.radio.harq == [])) = true := by decide +kernel

def wP : SlotWork := { at0 := 983040, ul := some [], pend := [{ kind := 1, handle := 9, idx := 0, deadline := 5, late := false, status := 0, harq := none }] }

def ur : UlResult := { kind := 1, handle := 9, flags := 1, body := [0,0,0,0,0,0,0,0], status := 0 }

theorem test_RadioService_3 :
    (chk (.slotMark 3) (raS xOn) (fun t => (t.cell 3).marked == 983040)) = true ∧
    (chk (.dlDeadline 3) (raS { xOn with slots := [{ at0 := 0, dl := some [] }] }) (fun t => ((t.cell 3).slotAt 0).dlClosed)) = true ∧
    (chk (.deadlineMiss 3) (raS { xOn with slots := [wP] }) (fun t => ((t.cell 3).slotAt 983040).pend.map (fun (p : Pending) => p.late) == [true] &&
        t.reg (Reg.KUD_LATE_CNT 2) == 1)) = true ∧
    (chk (.ulReport 3 983040 [ur]) (raS { xOn with slots := [wP] }) (fun t => ((t.cell 3).slotAt 983040).pend == [] &&
        t.out.length > 0)) = true := by decide +kernel

def wM : State := let s := raS xOn; let s := s.setQp pf0 0 { s.qp pf0 0 with sqSize := 15 }; { s with radio := { s.radio with waiting := [{ cell := 3, bytes := stM, marks := [] }] } }

def rlS : State := let s := raS xOn
  let x : Ctx := { newCtx 40 true 0 with cell := 3, cluster := 8, slot := 0, st := .running, placed := true, queue := [{ wList with ctx := 40, cls := 1, unit := 0, grain := 0, count := 1 }] }
  { s with sched := { s.sched with ctxs := [(40, x)], regions := [(2, { gap := false, cls := 1, owner := 0, opened := 900000, entry := 0 })] } }

def early : State := raS { en := { st := .starting }, onFrame := 1 }

def lateM := hostMsg 0x20 3 0 1 (tcStamp 983040) (pdsch 9)

theorem test_RadioService_4 :
    (chk .indicationRingRoom wM (fun t => t.radio.waiting == [] && t.out.length > 0)) = true ∧
    (chk (.radioListAdmit 4112 100 none) rlS (fun t => (t.run 4112).isSome)) = true ∧
    (chk (.cellOn 3) early (fun t => t == early)) = true ∧
    (chk (.dlOrder 0 lateM) (raS xOn) (fun t => ((t.cell 3).slotAt 983040).dlRefused &&
        ((t.cell 3).slotAt 983040).dl == none) (decide (dlDeadline 1 983040 ≤ (raS xOn).now))) = true := by decide +kernel

def marked : State := raS { xOn with marked := 983040 }

def noRoom : State := { (raS xOn).setQp pf0 0 { (raS xOn).qp pf0 0 with indUse := [(0, 0, 2 ^ 40)] } with radio := { (raS xOn).radio with waiting := [{ cell := 3, bytes := stM, marks := [] }] } }

theorem test_RadioService_5 :
    (chk (.slotMark 3) marked (fun t => t == marked)) = true ∧
    (chk (.radioListAdmit 4112 983040 none) rlS (fun t => t == rlS)) = true ∧
    (ulEntry { kind := 1, handle := 9, idx := 0, deadline := 5, late := false, status := 0, harq := none } ur == [1, 1] ++ leBytes 2 (ulEntry { kind := 1, handle := 9, idx := 0, deadline := 5, late := false, status := 0, harq := none } ur).length ++ leBytes 4 9 ++ ((ulEntry { kind := 1, handle := 9, idx := 0, deadline := 5, late := false, status := 0, harq := none } ur).drop 8)) = true ∧
    (chk .indicationRingRoom noRoom (fun t => t == noRoom) ((noRoom.ringWrite 0 stM).isNone)) = true := by decide +kernel

end RadioService

/-! ### Witnesses of FronthaulEgress, FronthaulIntake -/

namespace Fronthaul

def rk : CellCfg := { nrb := 6, mu := 1, ant := 4, lDl := 4, lUl := 2, beamformed := false, region := 2, group := 0, clusters := [8], harqBase := 0, harqLen := 65536 * 4, harqEntry := 65536, profiles := [0,0,0,0], precoder := 0, beams := 0, beamCount := 0, fdd := false }

def eax (kind dir : Nat) : Nat := 0x1234 + 1 * 2^16 + kind * 2^20 + dir * 2^22 + 3 * 2^23 + 8 * 2^36

def pu (h : Nat) : List Byte := leBytes 2 0x11 ++ leBytes 2 48 ++ leBytes 4 h ++ leBytes 2 77 ++ leBytes 2 0 ++ leBytes 2 0 ++ leBytes 2 6 ++ [0, 14, 2, 1] ++ leBytes 2 4 ++ [2, 0] ++ leBytes 2 0 ++ [0, 0] ++ leBytes 4 800 ++ leBytes 2 500 ++ [1, 0] ++ leBytes 4 1 ++ List.replicate 8 0

def fw (kind dir : Nat) : State :=
  let w : SlotWork := { at0 := 983040, ul := some [{ idx := 0, ty := 0x11, handle := 9, bytes := pu 9 }], dl := some [{ idx := 0, ty := 0x04, handle := 9, bytes := leBytes 2 4 ++ leBytes 2 24 ++ leBytes 4 9 ++ leBytes 2 0 ++ leBytes 2 6 ++ List.replicate 12 0 }], pend := [{ kind := 1, handle := 9, idx := 0, deadline := 5000000, late := false, status := 0, harq := none }] }
  rs { wBase with radio := { wBase.radio with cfg := [(3, rk)], cells := [(3, { en := { st := .on }, slots := [w] })] }, host := { wBase.host with ports := [(1, { st := .on })] }, front := { wBase.front with link := [(1, (true, true))] } }
    [(Reg.FHL_EAXC 0 0, eax kind dir), (Reg.FHL_CELL 3 0, 2^25 + 2^45), (Reg.FHL_CELL 3 1, 5000 + 3000 * 2^20 + 1000 * 2^40), (Reg.FHL_CELL 3 2, 2000 + 100 * 2^20), (Reg.FHL_PORT_CFG 1, 1500 * 2^20), (Reg.FHL_PORT_MAC 1, 0xABC), (Reg.SHP_Q 0, 1 + 32 + 8 * 2^18)]

def mkFr (b : List Byte) : List Byte := b ++ leBytes 4 (crc32 b).toNat

def fr1 : List Byte := beBytes 6 0xABC ++ beBytes 6 1 ++ beBytes 2 0xAEFE ++ [0x10, 0] ++ beBytes 2 (4 + 4 + 4 + 48) ++ beBytes 2 0x1234 ++ [0, 0x80] ++ oranHdr 0 0 1 983040 2 ++ sectHdr 0 0 1 ++ (List.range 48).map (fun i => BitVec.ofNat 8 i)

/-- 60 zero bytes; their CRC-32 was worked out apart from the model. -/
def fr0 (crc : Nat) : List Byte := List.replicate 60 0 ++ leBytes 4 crc

set_option maxRecDepth 100000 in
theorem test_Fronthaul_1 :
    (chk (.frameReceive 1 (fr0 0x4128908)) (fw 1 0) (fun t => t.reg (Reg.FHL_CNT 1 0) == 1 && t.reg (Reg.FHL_CNT 1 2) == 1 &&
        t.mem == [])) = true := by decide +kernel

set_option maxRecDepth 100000 in
theorem test_Fronthaul_2 :
    (chk (.frameReceive 1 (fr0 0)) (fw 1 0) (fun t => t == (fw 1 0).count (Reg.FHL_CNT 1 1) 1)) = true := by decide +kernel

def frOf (mac ty : Nat) (ec id : Nat) : List Byte := beBytes 6 mac ++ beBytes 6 1 ++ beBytes 2 ty ++ [BitVec.ofNat 8 ec, 0] ++ beBytes 2 (4 + 4 + 4 + 48) ++ beBytes 2 id ++ [0, 0x80] ++ oranHdr 0 0 1 983040 2 ++ sectHdr 0 0 1 ++ (List.range 48).map (fun i => BitVec.ofNat 8 i)

def cnt (i : Nat) (f : List Byte) : Bool := (fw 1 0).frameIn 1 f == (fw 1 0).count (Reg.FHL_CNT 1 i) 1

def bare : State := { r0 with regs := [] }

theorem test_no_entry : (bare.l2Ok 1 (frOf 0 0xAEFE 0x10 7) = true ∧ (ecpri ((frOf 0 0xAEFE 0x10 7).drop (bare.l2Len 1))).isSome = true) ∧ bare.eaxcOf 1 7 = none := by
  refine ⟨by decide +kernel, ?_⟩
  simp only [State.eaxcOf, Option.map_eq_none_iff, List.find?_eq_none]
  intro i _
  have h : (bare.eaxc i).kind = 0 := by simp [State.eaxc, State.regBits, bare, Tab.get]; decide
  simp [h]

def fwQ : State := let s := fw 1 0; { s with front := { s.front with seqIn := [(0, 255)] } }

def sec1 (first : Nat) : Section := { id := 0, first := first, prbs := [(List.replicate 12 0x10002, 0)] }

def fwC : State := let s := fw 1 0; { s with time := { s.time with tc := 3000000 } }

theorem test_Fronthaul_3 :
    (cnt 2 (frOf 0xABD 0xAEFE 0x10 0x1234) && cnt 3 (frOf 0xABC 0xAEFE 0x11 0x1234)) = true ∧
    (let t := fwQ.frameIn 1 (frOf 0xABC 0xAEFE 0x10 0x1234); t.front.seqIn.find 0 == some 0 &&
        t.mem.rdNat ((fw 1 0).ringAt ((fw 1 0).eaxc 0) (((fw 1 0).eaxc 0).row rk 983040 2).1) 4 == 0x02030001 && (t.rxOf 0 983040 2).got == [0]) = true ∧
    (let s := fw 1 0; s.cellFrame 1 (s.eaxc 0) rk 1 2 [sec1 0] == s.count (Reg.FHL_CNT 1 5) 1) = true ∧
    (chk (.receiveWindowClose 0 2) fwC (fun t => (t.rxOf 0 983040 2).missing == [0,1,2,3,4,5] &&
        ((t.cell 3).slotAt 983040).pend.map (fun (p : Pending) => p.status) == [0x0C])) = true := by decide +kernel

def fwB : State := let s := fw 3 0; { s with front := { s.front with bst := [(0, { bursts := [{ at0 := 983040, samples := [], next := 0 }] })] } }

def fw1 : State := { bare with radio := (fw 1 0).radio, time := (fw 1 0).time }

theorem test_uplink_entries : fw1.maySend 3 983040 = true ∧ (((fw1.cell 3).slotAt 983040).ul.isSome = true) ∧ (fw1.streams 3 0).all (fun e => e.kind == 1) = true := by
  refine ⟨by decide +kernel, by decide +kernel, ?_⟩
  simp only [State.streams, List.all_eq_true, List.mem_filter, List.mem_map]
  rintro e ⟨⟨i, -, rfl⟩, hk⟩
  have h : (fw1.eaxc i).kind = 0 := by simp [State.eaxc, State.regBits, fw1, bare, Tab.get]; decide
  simp [h] at hk

def shS (g : Option (Nat × Nat)) (a : Bool) : State := let s := fw 1 1; s.setShpQ 0 { pkts := [{ len := 100, gate := g, at0 := 0, cplane := true, frame := [1,2] }], active := a, tag := 50 }

theorem test_Fronthaul_4 :
    (chk (.burstFft 0 0) fwB (fun t => (t.front.bst.get {} 0).bursts.map (fun (b : Burst) => b.next) == [1] &&
        (t.rxOf 0 983040 0).got == [0,1,2,3,4,5])) = true ∧
    (chk (.fhLinkChange 2 true true) { fw 1 0 with host := { (fw 1 0).host with ports := [(2, { st := .starting })] } } (fun t => (t.host.ports.get {} 2).st == .on &&
        t.front.link.get (false, false) 2 == (true, true))) = true ∧
    (let s := fw 1 1; s.maySend 3 983040 && (((s.cell 3).slotAt 983040).dl.map (·.length)) == some 1 &&
        !((s.cell 3).slotAt 983040).dlRefused) = true ∧
    (chk (.gateOpen 0) (shS (some (1000, 2000000)) false) (fun t => (t.shpQ 0).active && (t.shpQ 0).tag == 409600)) = true := by decide +kernel

def hcS : State := let s := shS none true; { s with front := { s.front with hist := [(3, 1), (40, 2)] } }

theorem test_Fronthaul_5 :
    (chk (.gateCloseDrop 0) (shS (some (10, 20)) false) (fun t => (t.shpQ 0).pkts == [] && t.reg (Reg.SHP_DROP_GATE 1) == 1)) = true ∧
    (chk (.shaperSelect 1) (shS (some (1000, 2000000)) true) (fun t => (t.shpQ 0).pkts == [] && t.front.v.get 0 1 == 50 &&
        t.out.length == 1)) = true ∧
    ((let s := { shS none true with front := { (shS none true).front with sampled := 2 ^ 64 } }; chk .shpHistSample s (fun t => t == s)) &&
        decide ((shS none true).front.sampled < (shS none true).sampleAt)) = true ∧
    (chk .shpHistClr hcS (fun t => t.front.hist == [(40, 2)])) = true := by decide +kernel

def dupS : State := (fw 1 0).cellFrame 1 ((fw 1 0).eaxc 0) rk 983040 2 [sec1 0]

theorem test_Fronthaul_6 :
    (let s := fw 1 0; let t := { s with time := { s.time with tc := 5000000 } }; t.cellFrame 1 (t.eaxc 0) rk 983040 2 [sec1 0] == t.count (Reg.FHL_CNT 1 6) 1) = true ∧
    (dupS.cellFrame 1 (dupS.eaxc 0) rk 983040 2 [sec1 0] == dupS.count (Reg.FHL_CNT 1 7) 1 &&
        dupS.mem == ((fw 1 0).ringWriteAt ((fw 1 0).eaxc 0) ((((fw 1 0).eaxc 0).row rk 983040 2).1) (wordBytes (List.replicate 12 0x10002))).mem) = true ∧
    (chk (.gateOpen 0) (shS none true) (fun t => t == shS none true) &&
        chk (.gateCloseDrop 0) (shS (some (10, 2000000)) false) (fun t => t == shS (some (10, 2000000)) false)) = true ∧
    (chk (.shaperSelect 18) (fw 1 1) (fun t => t == fw 1 1)) = true := by decide +kernel

def muted : State := { fw 1 1 with radio := { (fw 1 1).radio with cells := [(3, { (fw 1 1).cell 3 with muted := true })] } }

def bigP : Packet := { len := 2 ^ 25, gate := none, at0 := 0, cplane := true, frame := [] }

theorem test_Fronthaul_7 :
    (chk (.egressBuild 3 983040 0) muted (fun t => t == muted) (!muted.maySend 3 983040)) = true ∧
    ((fw 1 1).enqFh 0 bigP == ((fw 1 1).count (Reg.SHP_DROP_FULL ((fw 1 1).shpPort 0)) 1).count (Reg.FHL_CNT ((fw 1 1).shpPort 0) 14) 1) = true := by decide +kernel

end Fronthaul

/-! ### Witnesses of PagesAndUpkeep -/

namespace MemoryTiers

def mgS (started : Bool) (line : Nat) : State :=
  let d : Directive := { op := dPromote, page := 16, large := false, tier := 1, die := 0, tenant := 5, ctx := 1, region := 0 }
  { wBase with mem := (wBase.mem.wrBytes (mereAt 0 9 64) [7,8]), tiers := { wBase.tiers with pages := [(16, { tier := 2, die := 0, frame := 9, moving := true, owner := 5 })], migs := [{ dir := d, started := started, line := line, fill := false, toTier := 1, toDie := 0, toFrame := 3 }] } }

def mgL : State := rs (mgS true 1) [(Reg.MOV_SPLIT 0, 0x080808)]

theorem test_MemoryTiers_1 :
    (chk (.migrationStart 16) (mgS false 0) (fun t => (t.mig 16).map (·.started) == some true)) = true ∧
    (chk (.migrationLine 16) mgL (fun t => (t.mig 16).map (·.line) == some 2) (mgL.migAdmitted { dir := { op := dPromote, page := 16, large := false, tier := 1, die := 0, tenant := 5, ctx := 1, region := 0 }, started := true, line := 1, fill := false, toTier := 1, toDie := 0, toFrame := 3 })) = true ∧
    (chk (.migrationSwitch 16) (mgS true 1024) (fun t => t.page 16 == { tier := 1, die := 0, frame := 3, owner := 5 } &&
        t.tiers.old.length == 1)) = true ∧
    (chk .frameFree { mgS true 0 with tiers := { (mgS true 0).tiers with old := [{ tier := 1, die := 0, frame := 5, count := 1, at0 := 0 }] }, time := { wBase.time with hub := 64 } } (fun t => t.tiers.old == [])) = true := by decide +kernel

def mgN : State := { mgS true 1 with sched := { (mgS true 1).sched with regions := [] } }

theorem test_MemoryTiers_2 :
    (chk (.scrub 1 true) wBase (fun t => t.tiers.scrub.get 0 5 == 1)) = true ∧
    (chk (.memLogAck 3) (rs wBase [(Reg.MEM_LOG_COUNT, 5), (Reg.MEM_LOG_TAIL, 1023)]) (fun t => t.reg Reg.MEM_LOG_COUNT == 2 &&
        t.reg Reg.MEM_LOG_TAIL == 2)) = true ∧
    (chk (.migrationLine 16) mgN (fun t => t == mgN)) = true ∧
    (chk (.memoryRefresh 3 true 9) wBase (fun t => t == wBase)) = true := by decide +kernel

theorem test_MemoryTiers_3 :
    (let s := { wBase with tiers := { wBase.tiers with bad := [128], weak := [64] } }; (s.poisonLine 128).tiers.poison == [128] &&
        (s.poisonLine 128).tiers.bad == [] && (s.fixLine 64).tiers.weak == []) = true := by decide +kernel

end MemoryTiers

/-! ### Witnesses of LinksAndPaths -/

namespace LinkLayer

/-- A flit without packets; its CRC-32 was worked out apart from the model. -/
def flit (seq crc : Nat) : List Byte := leBytes 2 (seq + 4096) ++ List.replicate 250 0 ++ leBytes 4 crc

def lkS (x : FabPort) : State := { wBase with fab := { wBase.fab with ports := [(1, x)] } }

set_option maxRecDepth 100000 in
theorem test_LinkLayer_1 :
    (chk (.flitReceive 1 (flit 5 0x80FDADB8)) (lkS { link := .up, rxSeq := 5 }) (fun t => (t.port 1).rxSeq == 6 && !(t.port 1).naked &&
        t.out == [.linkAck 1 5 false])) = true := by decide +kernel

set_option maxRecDepth 100000 in
theorem test_LinkLayer_2 :
    (chk (.flitReceive 1 (flit 6 0x84F7A51D)) (lkS { link := .up, rxSeq := 5 }) (fun t => (t.port 1).rxSeq == 5 && (t.port 1).naked &&
        t.out == [.linkAck 1 5 true])) = true := by decide +kernel

set_option maxRecDepth 100000 in
theorem test_LinkLayer_3 :
    (chk (.flitReceive 1 (List.replicate 256 1)) (lkS { link := .up, rxSeq := 5 }) (fun t => t.out == [.linkAck 1 5 true])) = true := by decide +kernel

def lkH : FabPort := { link := .up, held := [{ seq := 3, at0 := 0 }, { seq := 4, at0 := 1 }] }

theorem test_LinkLayer_4 :
    (chk (.nakReceive 1 3) (lkS lkH) (fun t => t.out == [.replay 1 [3, 4]] && (t.port 1).link == .replay)) = true ∧
    (chk (.ackTimeout 1) { lkS lkH with time := { wBase.time with hub := 525 } } (fun t => t.out == [.replay 1 [3, 4]] &&
        (t.port 1).link == .replay)) = true ∧
    (chk (.linkLost 1) { lkS lkH with time := { wBase.time with hub := 2400 } } (fun t => (t.port 1).link == .train)) = true ∧
    (chk (.lossOfSignal 1) (lkS lkH) (fun t => (t.port 1).link == .down)) = true := by decide +kernel

def rq1 : Req := { tag := 4, region := 0, plane := 1, txn := { op := 1, len := 8, dest := 77 }, serves := .hub 0, since := 999000 }

def rqS (r : Req) : State := let s := lkS { link := .up }; { s with fab := { s.fab with reqs := [r] } }

theorem test_LinkLayer_5 :
    (chk (.linkTrained 1) { lkS { link := .train } with host := { wBase.host with ports := [(17, { st := .on })] } } (fun t => (t.port 1).link == .up)) = true ∧
    (chk (.pathRetry 1 77) (rqS rq1) (fun t => t.fab.reqs == [{ rq1 with st := .held, ran := 1000 }] && t.pathRetry 1 77)) = true ∧
    (chk (.pathLost 1 77) (rqS rq1) (fun t => t.fab.reqs == [] && t.reg Reg.FAB_LOST_CNT == 1)) = true ∧
    (chk (.pathOk 1 77) { lkS {} with fab := { wBase.fab with paths := [{ plane := 1, node := 77, lost := true, at0 := 0 }] } } (fun t => t.fab.paths == [])) = true := by decide +kernel

theorem test_LinkLayer_6 :
    (chk (.pathRetryLapse 1 77) { lkS {} with fab := { wBase.fab with paths := [{ plane := 1, node := 77, lost := false, at0 := 0 }] } } (fun t => t.fab.paths == [])) = true ∧
    (chk (.ackTimeout 1) { lkS lkH with time := { wBase.time with hub := 524 } } (fun t => t == { lkS lkH with time := { wBase.time with hub := 524 } })) = true ∧
    ((lkS lkH).planes 77 == [1] &&
        ({ lkS lkH with fab := { (lkS lkH).fab with paths := [{ plane := 1, node := 77, lost := true, at0 := 0 }] } } : State).planes 77 == []) = true := by decide +kernel

end LinkLayer

/-! ### Witnesses of FabricResponses, InboundRequests -/

namespace FabricRequests

def rat (op perm owner : Nat) : Ratc := { w0 := BitVec.ofNat 64 (1 + 0xFFFFF * 4 + perm * 2 ^ 41 + 2 ^ 45), w1 := BitVec.ofNat 64 (owner * 2 ^ 34 + 0) }

def inS : State := let s := rs wBase []
  { s with fab := { s.fab with ratc := [(8 * ratcSet 0xFFFFF 0 0, rat 0 7 5)], ports := [(1, { link := .up })] }, tiers := { s.tiers with pages := [(1, { tier := 1, die := 0, frame := 3, owner := 5 })] } }

def tx (op len : Nat) (d : List Byte) : Txn := { op := op, len := len, dest := 0, src := 0, job := 0xFFFFF, tag := 9, offset := 65536 + 16, data := d }

theorem test_FabricRequests_1 :
    (chk (.fabStore 1 (tx 2 4 [1,2,3,4])) inS (fun t => t.mem.rdNat (tarnAt 0 3 16) 4 == 0x04030201)) = true ∧
    (chk (.fabLoad 3 (tx 1 4 [])) inS (fun t => (t.out.map (fun o => match o with | .txn p k => (p, k.op, k.data.length) | _ => (9,9,9))) == [(3, 0x81, 4)])) = true ∧
    (chk (.fabAtomic 3 { tx 3 32 (leBytes 8 5 ++ leBytes 24 0) with aux := 0 + 16 + 32, opfield := 44 }) inS (fun t => t.mem.rdNat (tarnAt 0 3 16) 8 == 5 &&
        t.fab.replies.length == 1)) = true ∧
    (chk (.fabTileWr 1 { tx 4 4 [1,2,3,4] with opfield := 2 + 2 * 2^16 + 8 * 2^32 }) inS (fun t => t.mem.rdNat (tarnAt 0 3 24) 2 == 0x0403)) = true := by decide +kernel

def ratP : Ratc := { w0 := BitVec.ofNat 64 (1 + 0xFFFFF * 4 + 2 ^ 44 + 7 * 2 ^ 41 + 2 ^ 45), w1 := BitVec.ofNat 64 (5 * 2 ^ 34 + 1 * 2 ^ 18) }

def inP : State := { inS with fab := { inS.fab with ratc := [(8 * ratcSet 0xFFFFF 0 0, ratP)] } }

def hTx : Txn := { tx 6 32 (leBytes 4 0 ++ leBytes 4 64 ++ leBytes 24 0) with dctx := 0xFFFF, aux := 2 }

def grS : State := inS.setGroup 2 { st := .arming, owner := true, stamp := 0, lead := 0, count := 1, ctx := 1, members := [{ idx := 0, node := 0, joined := false, ready := false, gone := false }] }

def rq1 : Req := { tag := 9, region := 0, plane := 1, txn := { op := 1, len := 8, dest := 77 }, serves := .hub 0, since := 999000 }

def rqS (r : Req) : State := { inS with fab := { inS.fab with reqs := [r] } }

theorem test_FabricRequests_2 :
    (chk (.fabTileRd 3 { tx 5 4 [] with opfield := 2 + 2 * 2^16 + 8 * 2^32 }) inS (fun t => t.out.length == 1)) = true ∧
    (chk (.fabHandle 3 hTx) inP (fun t => ((t.ctx? 1).map (fun (x : Ctx) => (x.hqueue 2).map (fun (h : Handle) => (h.base, h.len)))) == some [(65552, 64)])) = true ∧
    (chk (.fabGroup 3 { tx 7 16 (leBytes 1 gmJoin ++ [2, 5, 0] ++ leBytes 12 0) with }) grS (fun t => (t.group 2).members.map (fun (m : GMember) => (m.joined, m.idx)) == [(true, 5)])) = true ∧
    (chk (.fabData 1 { op := 0x81, src := 77, tag := 9, data := leBytes 8 0 }) (rqS rq1) (fun t => t.fab.reqs == [])) = true := by decide +kernel

theorem test_FabricRequests_3 :
    (chk (.fabAck 1 { op := 0x82, src := 77, tag := 9 }) (rqS { rq1 with txn := { op := 2, dest := 77 } }) (fun t => t.fab.reqs == [])) = true ∧
    (chk (.fabResult 1 { op := 0x83, src := 77, tag := 9, data := leBytes 8 1 }) (rqS { rq1 with txn := { op := 3, dest := 77, aux := 32 } }) (fun t => t.fab.reqs == [])) = true ∧
    (chk (.fabNack 1 { op := 0x84, src := 77, tag := 9, opfield := 100 }) (rs (rqS rq1) [(Reg.FAB_CFG, 5 * 2^24)]) (fun t => t.fab.reqs.map (fun (r : Req) => (r.st, r.nacks)) == [(.backoff, 1)])) = true ∧
    (chk (.fabError 1 { op := 0x85, src := 77, tag := 9, status := 0xBB }) (rqS rq1) (fun t => t.fab.reqs == [])) = true := by decide +kernel

theorem test_FabricRequests_4 :
    (chk (.fabAck 1 { op := 0x82, src := 77, tag := 8 }) (rqS rq1) (fun t => t.reg Reg.FAB_LATE_RESP == 1)) = true ∧
    (chk (.requestTimeout 9) (rqS { rq1 with since := 0 }) (fun t => t.reg Reg.FAB_TIMEOUT_CNT == 1 && t.fab.reqs == [])) = true ∧
    (chk (.nackBackoffEnd 9) (rqS { rq1 with st := .backoff }) (fun t => t.fab.reqs.map (fun (r : Req) => r.st) == [.sent])) = true ∧
    (chk (.atomicUnknown 9) { rqS { rq1 with txn := { op := 3, dest := 77 } } with time := { wBase.time with tc := 5000000 } } (fun t => t.reg Reg.FAB_UNKNOWN_CNT == 1 &&
        t.fab.reqs == [])) = true := by decide +kernel

theorem test_FabricRequests_5 :
    (chk .replyCacheFree { inS with fab := { inS.fab with replies := [{ id := 4, resp := { op := 3 }, at0 := 0 }] }, time := { wBase.time with tc := 5000000 } } (fun t => t.fab.replies == [])) = true ∧
    (chk (.fabLoad 1 { tx 1 4 [] with dest := 5 }) inS (fun t => t == ((inS.count Reg.FAB_ROUTE_CNT 1).fabEvt 0x40).respond 1 { tx 1 4 [] with dest := 5 } 0x85 0xB8 []) (inS.self == 0)) = true ∧
    ((tx 1 4 []).reqOk && !{ tx 1 4 [] with len := 0 }.reqOk &&
        chk (.fabLoad 3 { tx 1 4 [] with len := 0 }) inS (fun t => t.reg Reg.FAB_ROUTE_CNT == 1)) = true ∧
    (chk (.fabError 1 { op := 0x85, src := 77, tag := 9, status := 0xBD }) (rqS { rq1 with txn := { op := 3, dest := 77, aux := 32 } }) (fun t => t.fab.reqs == [] &&
        t.reg Reg.FAB_UNKNOWN_CNT == 1)) = true := by decide +kernel

theorem test_FabricRequests_6 :
    (chk (.requestTimeout 9) (rqS { rq1 with txn := { op := 3, dest := 77, aux := 32 }, since := 0 }) (fun t => t == (rqS { rq1 with txn := { op := 3, dest := 77, aux := 32 }, since := 0 }).reissue { rq1 with txn := { op := 3, dest := 77, aux := 32 }, since := 0 })) = true ∧
    (chk (.requestTimeout 9) (rqS rq1) (fun t => t == rqS rq1) (decide (rq1.ran + ((rqS rq1).now - rq1.since) < (rqS rq1).reqLimit rq1))) = true ∧
    (atomicOp 0 4 0xFFFFFFFF 2 0 == 1 && atomicOp 8 8 7 (2 ^ 64 + 9) 0 == 9 && atomicOp 9 4 5 5 (2 ^ 32 + 3) == 3 && atomicOp 9 4 5 6 3 == 5 &&
        decide (atomicOp 9 8 (2 ^ 64 - 1) 0 0 < 2 ^ 64)) = true ∧
    (((rqS rq1).reqDone rq1 { op := 0x81 }).fab.reqs == [] && ((rqS rq1).endReq rq1 0xB0).fab.reqs == []) = true := by decide +kernel

end FabricRequests

/-! ### Witnesses of BeaconsAndRatc -/

namespace BeaconsAndRatc

def bcS (l : List (Nat × Nat)) : State := let s := rs wBase l
  { s with fab := { s.fab with ports := [(1, { link := .up })] } }

def bcF : State := bcS [(Reg.TIM_SRC_PRIO, 3), (Reg.TIM_BCN_CFG, 77 + 100 * 2 ^ 24), (Reg.FAB_NODE, 6)]

def bTx (op n : Nat) : Txn := { op := op, len := n, src := 77, dest := 6, job := 0xFFFFF, data := List.replicate n 0 }

def bcM : State := bcS [(Reg.TIM_BCN_CFG, 2 ^ 40 + 100 * 2 ^ 24), (Reg.FAB_NODE, 6)]

def bcM2 : State := { bcM with fab := { bcM.fab with followers := [(77, bcM.now)] } }

theorem test_BeaconsAndRatc_1 :
    (chk (.fabBeacon 1 (bTx 8 16)) bcF (fun t => t.time.bcnRx.map (fun (q : Nat × Int × Int) => q.1) == [1])) = true ∧
    (chk (.fabEchoReq 1 (bTx 9 16)) bcM (fun t => t.fab.followers.map (·.1) == [77] && (t.shpQ 0).pkts.length == 1)) = true ∧
    (chk .beaconSend bcM2 (fun t => (t.shpQ 0).pkts.map (fun (p : Packet) => p.txn.map (·.dest)) == [some 77])) = true ∧
    (chk .echoReqSend bcF (fun t => (t.shpQ 0).pkts.map (fun (p : Packet) => p.txn.map (·.dest)) == [some 77])) = true := by decide +kernel

def bcR : State := { bcF with time := { bcF.time with bcnRx := [(1, ((0:Int), 0))], echoT1 := [(1, (0:Int))] } }

def rtS : State := let s := rs wBase [(Reg.FAB_RATC_W0, 9 * 4), (Reg.FAB_RATC_IDX, 8 * ratcSet 9 0 0)]
  { s with fab := { s.fab with ratc := [(8 * ratcSet 9 0 0, { w0 := 37, w1 := 0 })] } }

theorem test_BeaconsAndRatc_2 :
    (chk (.fabEchoResp 1 (bTx 0x89 32)) bcR (fun t => t.time.bcnRx.isEmpty)) = true ∧
    (chk .ratcInsert (rs wBase [(Reg.FAB_RATC_W0, 9 * 4)]) (fun t => t.fab.ratc.map (fun (p : Nat × Ratc) => (p.1, p.2.valid)) == [(8 * ratcSet 9 0 0, true)] &&
        t.reg Reg.FAB_RATC_RESULT == 1 + 16 * (8 * ratcSet 9 0 0))) = true ∧
    (chk .ratcRemove rtS (fun t => t.fab.ratc.isEmpty && t.fab.removing.isSome)) = true ∧
    (chk .ratcInsert rtS (fun t => t.reg Reg.FAB_RATC_RESULT == 5)) = true := by decide +kernel

def bcK (st : TuState) : State := { bcF with time := { bcF.time with st := st, bcn := { run := 6 } } }

theorem test_BeaconsAndRatc_3 :
    (chk .ratcRead rtS (fun t => t.reg Reg.FAB_RATC_W0 == 37)) = true ∧
    (chk .ratcRemoveDone { rtS with fab := { rtS.fab with removing := some (3, { w0 := 37, w1 := 0 }) } } (fun t => t.fab.removing.isNone &&
        t.reg Reg.FAB_RATC_RESULT == 1)) = true ∧
    (chk (.fabBeacon 1 { bTx 8 16 with src := 78 }) bcF (fun t => t == bcF) (bcF.beaconNode != 78 && bcF.regBits Reg.TIM_BCN_CFG 0 12 != 78)) = true ∧
    (((bcK .locked).beaconOfs (ns64 32)).time.bcn.run == 7 && ((bcK .locked).beaconOfs (ns64 32)).time.bcn.ofs == ns64 32 &&
        ((bcK .locked).beaconOfs (ns64 32 + 1)).time.bcn.run == 0) = true := by decide +kernel

def rtFull : State := { rtS with fab := { rtS.fab with ratc := (List.range 8).map (fun w => (8 * ratcSet 9 0 0 + w, { w0 := BitVec.ofNat 64 (1 + 4 * (w + 10)), w1 := 0 })) } }

def rtRadio : State := { rtS with fab := { rtS.fab with ratc := [(8 * ratcSet 9 0 0, { w0 := 37, w1 := BitVec.ofNat 64 (0x400 * 2 ^ 34) })] } }

def rdW : State := { rtS with fab := { rtS.fab with removing := some (3, { w0 := 37, w1 := 0 }), inq := [{ plane := 1, seq := 0, txn := { op := 4 }, entries := [{ w0 := 37, w1 := 0 }] }] } }

theorem test_BeaconsAndRatc_4 :
    (chk .beaconSend bcM (fun t => t == { bcM with fab := { bcM.fab with beaconK := bcM.beaconIdx bcM.now } }) (bcM.beaconSource &&
        bcM.beaconIdx bcM.now != bcM.fab.beaconK)) = true ∧
    (chk .ratcInsert rtFull (fun t => t.fab == rtFull.fab && t.reg Reg.FAB_RATC_RESULT == 3) &&
        chk .ratcRemove rtFull (fun t => t.fab == rtFull.fab && t.reg Reg.FAB_RATC_RESULT == 9)) = true ∧
    (chk .ratcRemove rtRadio (fun t => t.fab == rtRadio.fab && t.reg Reg.FAB_RATC_RESULT == 9)) = true ∧
    (chk .ratcRemoveDone rdW (fun t => t == rdW)) = true := by decide +kernel

end BeaconsAndRatc

/-! ### Witnesses of AttentionsAndVectors, HostSubmissions, QueueDoorbells -/

namespace HostQueues

def hq (f : Nat) (x : QPair) : State := wBase.setQp f 0 x

def qOn : QPair := { en := { st := .on }, sqSize := 15, cqSize := 15 }

theorem test_HostQueues_1 :
    (chk (.sqDoorbell 5 0 2 [cmdOf [(0, 0)], cmdOf [(0, 0x14)]]) (hq 5 qOn) (fun t => (t.qp 5 0).sq.length == 2 && (t.qp 5 0).sqTail == 2)) = true ∧
    (chk (.sqDoorbell 5 0 16 []) (hq 5 qOn) (fun t => (t.fn 5).dberr == 1)) = true ∧
    (chk (.cqDoorbell 5 0 3) (hq 5 { qOn with cqTail := 4 }) (fun t => (t.qp 5 0).cqHead == 3)) = true ∧
    (chk (.cqDoorbell 5 0 16) (hq 5 { qOn with cqTail := 4 }) (fun t => (t.fn 5).dberr == 1)) = true := by decide +kernel

def rc0 : Rec := { code := 3, kind := 4, slot := 0xFFFF, ref := 9, detail := 7, gen := 0 }

def fS (x : Fn) : State := wBase.setFn 5 x

theorem test_HostQueues_2 :
    (chk (.recordWrite 5 0) (hq 5 { qOn with store := [rc0], cqTail := 15, cqHead := 15 }) (fun t => (t.qp 5 0).store == [] &&
        (t.qp 5 0).cqTail == 0 && !(t.qp 5 0).phase && t.out.length == 1)) = true ∧
    (chk (.recordWrite 5 0) (hq 5 { qOn with store := [{ rc0 with gen := 3 }] }) (fun t => t.reg Reg.HIF_GEN_DROP == 1)) = true ∧
    (chk (.attnClear 5 1) (fS { wFn with attn := 3 }) (fun t => (t.fn 5).attn == 2)) = true ∧
    (chk (.attnHoldExpiry 5) (fS { wFn with attn := 3, held := true, lastStatus := some 0 }) (fun t => (t.qp 5 0).store.map (fun (r : Rec) => r.kind) == [4] &&
        !(t.fn 5).held)) = true := by decide +kernel

def hcC : Cmd := cmdOf [(0, 0x15), (16, 0x8000), (24, 0x100000), (32, 8), (36, 0)]

def pgS (c : Cmd) : State := let s := hq 5 { qOn with sq := [c] }; { s with tiers := { s.tiers with pages := [(16, { tier := 1, die := 0, frame := 3, owner := 5 })] } }

theorem test_HostQueues_3 :
    (chk (.msixFire 5 0) (hq 5 { qOn with fire := true }) (fun t => t.out == [.msix 5 0])) = true ∧
    (chk (.msixUnmask 5 0) (fS { wFn with masked := 1, pending := 1 }) (fun t => t.out == [.msix 5 0] && (t.fn 5).masked == 0)) = true ∧
    (chk (.hostCopy (.host 5 0) (leBytes 8 0x55)) (pgS hcC) (fun t => t.mem.rdNat (tarnAt 0 3 0) 8 == 0x55 &&
        (t.qp 5 0).store.map (fun (r : Rec) => (r.code, r.detail)) == [(0, 8)])) = true ∧
    (chk (.hostCopy (.host 5 0) []) (pgS (cmdOf [(0, 0x15), (16, 0x8000), (24, 0x100000), (32, 8), (36, 1)])) (fun t => t.out.length == 1)) = true := by decide +kernel

def seC : Cmd := cmdOf [(0, 0x16), (16, 0x8000), (24, 24)]

def ssP : State := (hq 2047 { qOn with sq := [seC], ssi := true })

theorem test_HostQueues_4 :
    (chk (.ssiSend (.host 2047 0) (ssiMsg 0x02 3 0 0 0 [])) ssP (fun t => (t.qp 2047 0).store.length > 0)) = true ∧
    (chk (.accRead (.host 5 0)) (hq 5 { qOn with sq := [cmdOf [(0, 0x17), (16, 0x8000)]] }) (fun t => t.out.length == 1 &&
        (t.qp 5 0).store.map (fun (r : Rec) => r.code) == [0])) = true ∧
    (chk (.recordWrite 5 0) (hq 5 { qOn with store := [rc0], cqTail := 4, cqHead := 5 }) (fun t => t == hq 5 { qOn with store := [rc0], cqTail := 4, cqHead := 5 })) = true ∧
    (chk (.msixFire 5 0) ((hq 5 { qOn with fire := true }).setFn 5 { (hq 5 { qOn with fire := true }).fn 5 with masked := 1 }) (fun t => t.out == [] &&
        (t.fn 5).pending == 1) && chk (.msixFire 5 0) (hq 5 qOn) (fun t => t == hq 5 qOn)) = true := by decide +kernel

theorem test_HostQueues_5 :
    (chk (.attnHoldExpiry 5) (fS { wFn with lastStatus := some 0 }) (fun t => t == fS { wFn with lastStatus := some 0 })) = true ∧
    (let t := (fS { wFn with attn := 3 }).statusNote 5; (t.fn 5).lastStatus == some (fS wFn).now &&
        (t.qp 5 0).store == [{ code := 0, kind := 4, slot := 0xFFFF, ref := 0, detail := 3, gen := 0 }]) = true ∧
    (chk (.hostCopy (.host 5 0) [1, 2]) (pgS hcC) (fun t => t.mem.rdNat (tarnAt 0 3 0) 2 == 0x201 &&
        (t.qp 5 0).store.map (fun (r : Rec) => (r.code, r.detail)) == [(0xC1, 2)])) = true ∧
    (chk (.ssiSend (.host 2047 0) []) (hq 2047 { qOn with sq := [cmdOf [(0, 0x16), (16, 0x8000), (24, 23)]], ssi := true }) (fun t => (t.qp 2047 0).store.map (fun (r : Rec) => r.code) == [0xC3])) = true := by decide +kernel

def lsHdr : Cmd := cmdOf [(0, 1), (16, 33), (24, 3), (26, 1), (27, 0), (28, 100)]

def lsC : Cmd := cmdOf [(0, 0x14), (16, 2 ^ 60 + 64), (24, 1)]

def lsS (hdr : Cmd) : State := let s := hq 5 { qOn with sq := [lsC] }; { s with mem := s.mem.wrBytes 64 (leBytes 64 hdr.toNat) }

theorem test_HostQueues_6 :
    (chk (.accRead (.host 2047 0)) (hq 2047 { qOn with sq := [cmdOf [(0, 0x17), (16, 0x8000), (24, 1535)]] }) (fun t => t.out.length == 1 &&
        (t.qp 2047 0).store.map (fun (r : Rec) => r.code) == [0])) = true ∧
    (chk (.listSubmit (.host 5 0)) (lsS lsHdr) (fun t => ((t.ctx? 1).map (fun (y : Ctx) => y.queue.map (·.id))) == some [33] &&
        (t.qp 5 0).store == [])) = true ∧
    (chk (.listSubmit (.host 5 0)) (lsS (cmdOf [(0, 2)])) (fun t => ((t.ctx? 1).map (fun (y : Ctx) => y.queue.length)) == some 0 &&
        (t.qp 5 0).store.map (fun (r : Rec) => r.kind) == [1])) = true := by decide +kernel

end HostQueues

/-! ### Witnesses of FunctionsAndApertures, QueuePairsAndEnables, RegisterAccesses -/

namespace HostParts

def vfS (x : Fn) : State := rs ({ wBase with sched := { wBase.sched with ctxs := [] } }.setFn 5 x) [(Reg.HIF_CFG, 16), (Reg.HIF_VF_CFG 5, 8 + 63 * 16)]

theorem test_HostParts_1 :
    (chk (.queuePairEnable 5 1) ((vfS wFn).setQp 5 1 { sqSize := 3, cqSize := 3 }) (fun t => t.qpOn 5 1)) = true ∧
    (chk (.queuePairEnable 5 1) (vfS wFn) (fun t => (t.qp 5 1).err)) = true ∧
    (chk (.queuePairDisable 5 0) (vfS wFn) (fun t => (t.qp 5 0).en == { st := .stopping })) = true ∧
    (chk (.queuePairOff 5 1) ((vfS wFn).setQp 5 1 { en := { st := .stopping } }) (fun t => (t.qp 5 1).en == {})) = true := by decide +kernel

def unS (x : UnitSt) : State := { wBase with sched := { wBase.sched with units := [(uIbex 3, x)] } }

theorem test_HostParts_2 :
    (chk (.fctlVfEnable 5) (vfS {}) (fun t => (t.fn 5).en == { st := .on } && t.host.fsel == (1, 5))) = true ∧
    (chk (.fctlVfDisable 5) (vfS wFn) (fun t => (t.fn 5).en == { st := .stopping } && (t.fn 5).gen == 1)) = true ∧
    (chk (.fctlUnitEnable (uIbex 3)) (unS { en := {} }) (fun t => (t.unit (uIbex 3)).en == { st := .on })) = true ∧
    (chk (.fctlUnitDisable (uIbex 3)) (unS { en := { st := .on } }) (fun t => (t.unit (uIbex 3)).en == {})) = true := by decide +kernel

def bareP : State := { wBase with regs := [], host := { wBase.host with ports := [(3, { st := .on })] } }

theorem test_port_not_held : bareP.replayed = false ∧ bareP.logIn 5 0x04 pf0 (BitVec.ofNat 64 (Reg.HIF_FCTL + 2 * 2 ^ 48)) (leBytes 4 (0 + 3 * 2 + 3 * 2 ^ 16)) = bareP ∧
    bareP.fhHeld 3 = false ∧ (bareP.host.ports.get {} 3).st = .on := by
  refine ⟨by decide, rfl, ?_, by decide⟩
  simp only [State.fhHeld, List.any_eq_false]
  intro i _
  have h : (bareP.eaxc i).kind = 0 := by simp [State.eaxc, State.regBits, bareP, Tab.get]; decide
  simp [h]

def heldP : State := rs { bareP with radio := { bareP.radio with cells := [(3, { en := { st := .on } })] } } [(Reg.FHL_EAXC 0 0, 3 * 2 ^ 16 + 2 ^ 20 + 3 * 2 ^ 23)]

theorem test_HostParts_3 :
    (chk (.fctlFhPortEnable 3) wBase (fun t => t.host.ports.get {} 3 == { st := .starting })) = true ∧
    (chk (.fctlFhPortDisable 3) heldP (fun t => t.host.ports.get {} 3 == { st := .on } && t.host.frej && t.reg Reg.HIF_EVT == 1)) = true ∧
    (chk (.fctlFabPortEnable 1) wBase (fun t => t.host.ports.get {} 17 == { st := .starting })) = true ∧
    (chk (.fctlFabPortDisable 1) { wBase with host := { wBase.host with ports := [(17, { st := .on })] } } (fun t => t.host.ports.get {} 17 == {})) = true := by decide +kernel

def nvS : State := { vfS {} with start := { (vfS {}).start with slots := [(0, { ({} : SlotHdr) with numVf := 8 })] } }

theorem test_HostParts_4 :
    (chk .vfEnableSet { vfS {} with host := { (vfS {}).host with numVfs := 7 } } (fun t => t.host.vfEnable && (t.fn 5).en == { st := .on } &&
        (t.fn 7).en == {})) = true ∧
    (chk .vfEnableClear { vfS wFn with host := { (vfS wFn).host with vfEnable := true } } (fun t => !t.host.vfEnable &&
        (t.fn 5).en == { st := .stopping })) = true ∧
    (chk (.numvfsWrite 8) nvS (fun t => t.host.numVfs == 8)) = true ∧
    (chk (.numvfsWrite 9) nvS (fun t => t == nvS)) = true := by decide +kernel

def apS : State := let s := vfS { wFn with aperture := 0 }; { s with tiers := { s.tiers with pages := [(16, { tier := 1, die := 0, frame := 3, owner := 5 })] } }

theorem test_HostParts_5 :
    (chk (.flr 5) (vfS wFn) (fun t => (t.fn 5).en == { st := .stopping, pend := true } && (t.fn 5).flr)) = true ∧
    (chk (.vfStopComplete 5) (vfS { wFn with en := { st := .stopping }, gen := 4 }) (fun t => t.fn 5 == { gen := 4 })) = true ∧
    (chk (.apertureWrite 5 0x100010 [1, 2]) apS (fun t => t.mem.rdNat (tarnAt 0 3 16) 2 == 0x201)) = true ∧
    (chk (.apertureRead 5 0x100010 2) apS (fun t => t.out == [.readData 5 [0, 0]])) = true := by decide +kernel

theorem test_HostParts_6 :
    (chk (.apertureRead 5 0x10 2) apS (fun t => t.out == [.readData 5 [0, 0]] && (t.fn 5).aperr == 1)) = true ∧
    (chk .accountBoundary { apS with time := { apS.time with tc := 1966080 * 3 } } (fun t => t.host.acct.lastMs == 3 &&
        t.reg Reg.ACC_EPOCH == 1)) = true ∧
    (chk (.registerWrite ⟨2047, true, Reg.SHP_HIST_SEL, 4⟩ 0x123) wBase (fun t => t.reg Reg.SHP_HIST_SEL == 0x123)) = true ∧
    (chk (.rcCounterRead ⟨2047, true, 0x100090, 4⟩) (rs wBase [(0x100090, 7)]) (fun t => t.out == [.readData 2047 (leBytes 4 7)] &&
        t.reg 0x100090 == 0)) = true := by decide +kernel

theorem test_HostParts_7 :
    (chk (.registerWrite ⟨5, false, 0x18, 8⟩ 0x2B) wBase (fun t => (t.fn 5).attnCq == 3 && (t.fn 5).attnHold == 5)) = true ∧
    (chk (.lowHalfRead ⟨2047, true, Reg.TIM_NOW, 4⟩) wBase (fun t => t.out == [.readData 2047 (leBytes 4 ((tcStamp 1000000).toNat % 2^32))])) = true ∧
    (chk (.queuePairEnable 5 1) ((vfS wFn).setQp 5 1 { en := { st := .stopping } }) (fun t => (t.qp 5 1).en == { st := .stopping, pend := true }) &&
        chk (.queuePairDisable 5 1) ((vfS wFn).setQp 5 1 { en := { st := .stopping, pend := true } }) (fun t => (t.qp 5 1).en == { st := .stopping })) = true ∧
    (chk (.queuePairOff 5 1) ((vfS wFn).setQp 5 1 { en := { st := .stopping, pend := true }, sqSize := 3, cqSize := 3 }) (fun t => t.qpOn 5 1) &&
        chk (.queuePairOff 5 0) (vfS wFn) (fun t => t == vfS wFn)) = true := by decide +kernel

def unRadio : State := { (rs wBase [(Reg.CLU_CFG 0, 2)]) with radio := { wBase.radio with cfg := [(3, { nrb := 6, mu := 1, ant := 4, lDl := 4, lUl := 2, beamformed := false, region := 0, group := 0, clusters := [0], harqBase := 0, harqLen := 65536, harqEntry := 65536, profiles := [0,0,0,0], precoder := 0, beams := 0, beamCount := 0, fdd := false })], cells := [(3, { en := { st := .on } })] } }

def vfe (on : Bool) (s : State) : State := { s with host := { s.host with vfEnable := on, fns := s.host.fns.del 2047 } }

theorem test_HostParts_8 :
    (chk (.fctlVfEnable 5) (vfS { en := { st := .stopping } }) (fun t => (t.fn 5).en == { st := .stopping, pend := true }) &&
        chk (.fctlVfDisable 5) (vfS {}) (fun t => t.host.fns == (vfS {}).host.fns && t.host.fsel == (1, 5))) = true ∧
    (chk (.fctlUnitDisable (uIbex 0)) unRadio (fun t => (t.unit (uIbex 0)).en == { st := .on } && t.host.frej &&
        t.reg Reg.HIF_EVT == 1) (unRadio.unitHeld (uIbex 0))) = true ∧
    (chk (.fctlUnitDisable (uIbex 3)) (unS { run := some (wRun 0) }) (fun t => (t.unit (uIbex 3)).en == { st := .stopping } &&
        t.run (uIbex 3) == some (wRun 0))) = true ∧
    (chk .vfEnableSet (vfe true (vfS {})) (fun t => t == vfe true (vfS {})) &&
        chk .vfEnableClear (vfe true (vfS {})) (fun t => !t.host.vfEnable) ((vfe true (vfS {})).liveVfs == [])) = true := by decide +kernel

def busyVf : State := { vfS { wFn with en := { st := .stopping } } with sched := wBase.sched }

theorem test_HostParts_9 :
    (chk (.flr 5) (vfS { en := { st := .stopping } }) (fun t => (t.fn 5).en == { st := .stopping, pend := true }) &&
        chk (.flr pf0) (vfS {}) (fun t => (t.qp pf0 0).en == { st := .stopping })) = true ∧
    (chk (.vfStopComplete 5) busyVf (fun t => t == busyVf) (!busyVf.vfDone 5)) = true ∧
    (let t := (vfS { wFn with gen := 255 }).vfStop 5 false; (t.fn 5).en == { st := .stopping } && (t.fn 5).gen == 0) = true ∧
    (chk (.apertureWrite 5 0x10 [1]) apS (fun t => t.mem == [] && (t.fn 5).aperr == 1)) = true := by decide +kernel

def apPoison : State := { apS with tiers := { apS.tiers with poison := [tarnAt 0 3 0] } }

theorem test_HostParts_10 :
    (chk (.apertureRead 5 0x100010 2) apPoison (fun t => t.out == [.readPoison 5])) = true ∧
    (chk .accountBoundary { apS with time := { apS.time with tc := 5 } } (fun t => t == { apS with time := { apS.time with tc := 5 } })) = true ∧
    (chk (.registerWrite ⟨2047, true, Reg.TIM_EVT, 4⟩ 5) (rs wBase [(Reg.TIM_EVT, 7)]) (fun t => t.reg Reg.TIM_EVT == 2) &&
        chk (.registerWrite ⟨2047, true, Reg.TIM_SNAP, 8⟩ 5) wBase (fun t => t == wBase)) = true ∧
    (chk (.registerWrite ⟨5, false, 0x118, 8⟩ 0x305) wBase (fun t => (t.qp 5 0).count == 5 && (t.qp 5 0).time == 3)) = true := by decide +kernel

theorem test_HostParts_11 :
    (chk (.lowHalfRead ⟨2047, true, Reg.TIM_NOW + 4, 4⟩) { wBase with latch := [(2 ^ 32 * 2047 + Reg.TIM_NOW, 0x77#32)] } (fun t => t.out == [.readData 2047 (leBytes 4 0x77)] &&
        t.latch == [])) = true ∧
    (chk (.rcCounterRead ⟨2047, true, 0xFFFFF8, 4⟩) wBase (fun t => t.out == [.readData 2047 (leBytes 4 0)])) = true := by decide +kernel

end HostParts

/-! ### Witnesses of RecorderCommands, ReplayCommands -/

namespace Recorder

def reS (st : RplSt) (l : List LogRec) : State := rs { wBase with rpl := { wBase.rpl with st := st, log := l, nextSeq := l.length } } [(Reg.RPL_AREA, 16), (Reg.RPL_CFG, 56)]

theorem test_Recorder_1 :
    (chk .recStart (reS .idle []) (fun t => t.rpl.st == .recording && t.rpl.log.length == 1)) = true ∧
    (chk .recStop (reS .recording []) (fun t => t.rpl.st == .idle && t.rpl.log.length == 2)) = true ∧
    (chk .mark (reS .recording []) (fun t => t.rpl.log.map (fun (r : LogRec) => r.kind) == [4, 0x60])) = true ∧
    (chk .clearLog (reS .stopped []) (fun t => t.rpl.st == .idle)) = true := by decide +kernel

def lr (k st sq : Nat) (aux : Nat) : LogRec := { stamp := st, frac := 0, kind := k, source := 2047, seq := sq, aux := BitVec.ofNat 64 aux, payload := [] }

def exS : State := rs (reS .idle [lr 1 5 0 0]) [(Reg.RPL_XFER_LEN, 64), (Reg.RPL_XFER_HOST, 0x8000)]

theorem test_Recorder_2 :
    (chk .exportLog exS (fun t => t.out == [.hostWrite 2047 0x8000 (lr 1 5 0 0).bytes] && t.rpl.xfer == 1)) = true ∧
    (chk (.importLog (lr 1 5 0 0).bytes) (rs (reS .idle []) [(Reg.RPL_XFER_LEN, 64)]) (fun t => t.rpl.log == [lr 1 5 0 0] &&
        t.rpl.tail == [])) = true ∧
    (chk .xferDone { exS with rpl := { exS.rpl with xfer := 1 } } (fun t => t.rpl.xfer == 0)) = true ∧
    (chk .logGapWrite { reS .recording [] with rpl := { (reS .recording []).rpl with dropped := 3 } } (fun t => t.rpl.dropped == 0)) = true := by decide +kernel

def startRec : LogRec := { lr 1 500 0 (wBase.regBits Reg.HUB_IDENT 0 32 + 63 * 2 ^ 48 + 2^54) with payload := shaBytes wBase.start.imgDigest }

def rpS (st : RplSt) (r : LogRec) : State := let s := reS st [startRec, r]; { s with rpl := { s.rpl with untouched := true, nextSeq := 1 } }

theorem test_Recorder_3 :
    (chk .replayStart (rpS .idle (lr 0x60 600 1 0)) (fun t => t.now == 500 && t.time.src == 0 && t.rpl.st == .replaying)) = true ∧
    (chk .replayStop (rpS .replaying (lr 0x60 600 1 0)) (fun t => t.rpl.st == .stopped)) = true ∧
    (chk .stopAtReached (rs (rpS .replaying (lr 0x60 600 1 0)) [(Reg.RPL_STOP_AT, 1)]) (fun t => t.rpl.st == .stopped)) = true ∧
    (chk .recordInject (rpS .replaying (lr 0x60 600 1 0)) (fun t => t.rpl.nextSeq == 2)) = true := by decide +kernel

def omS : State := let s := rpS .replaying (lr 0x60 600 1 0); { s with rpl := { s.rpl with expect := [{ stamp := 500, key := 1, digest := 2 }] } }

theorem test_Recorder_4 :
    (chk .recordInject (rpS .replaying (lr 0x50 600 1 0)) (fun t => t.rpl.st == .replayEnd)) = true ∧
    (chk .recordInject (rpS .replaying { lr 0x04 600 1 (0x1000a8 + 2 * 2 ^ 48) with payload := [7, 0, 0, 0] }) (fun t => t.reg Reg.TIM_GRP_SEL == 7)) = true ∧
    (chk .outputMissing omS (fun t => t.rpl.halted && t.reg Reg.RPL_DIV_EXP == 2)) = true ∧
    (chk .pause (rs wBase [(Reg.RPL_ARG, 1)]) (fun t => (t.ctx? 1).map (·.pausing) == some true &&
        t.reg Reg.RPL_PAUSE == 1)) = true := by decide +kernel

def resS : State := let s := rpS .stopped (lr 0x60 600 1 0); { s with rpl := { s.rpl with untouched := false } }

theorem test_Recorder_5 :
    (chk .rplResume (rs ({ wBase with sched := { wBase.sched with ctxs := [(1, { wCtx with paused := true })] } }) [(Reg.RPL_ARG, 1)]) (fun t => (t.ctx? 1).map (·.paused) == some false &&
        t.reg Reg.RPL_PAUSE == 3)) = true ∧
    (chk .recStart (reS .stopped []) (fun t => t == (reS .stopped []).rplEvt 0x40) &&
        chk .recStop (reS .idle []) (fun t => t == (reS .idle []).rplEvt 0x40) &&
        chk .mark (reS .idle []) (fun t => t == (reS .idle []).rplEvt 0x40)) = true ∧
    (chk .xferDone exS (fun t => t == exS) &&
        chk .exportLog { exS with rpl := { exS.rpl with st := .replaying } } (fun t => t == ({ exS with rpl := { exS.rpl with st := .replaying } } : State).rplEvt 0x40)) = true ∧
    (chk .replayStart resS (fun t => t.rpl.st == .replaying) (resS.mayResume && !resS.mayReplay)) = true := by decide +kernel

def paS (x : Ctx) : State := rs { wBase with sched := { wBase.sched with ctxs := [(1, x)] } } [(Reg.RPL_ARG, 1)]

theorem test_Recorder_6 :
    (chk .replayStart (reS .replaying []) (fun t => t == (reS .replaying []).rplEvt 0x40) (!(reS .replaying []).mayReplay &&
        !(reS .replaying []).mayResume)) = true ∧
    (chk .stopAtReached (rs (rpS .replaying (lr 0x60 600 1 0)) [(Reg.RPL_STOP_AT, 2 ^ 40)]) (fun t => t.rpl.st == .replaying)) = true ∧
    (chk .recordInject (rpS .replaying (lr 0x7F 600 1 0)) (fun t => t.rpl.st == .replayEnd) &&
        chk .recordInject (rpS .replaying (lr 0x60 2000000 1 0)) (fun t => t.rpl.nextSeq == 1)) = true ∧
    (chk .pause (paS { wCtx with st := .swappedReady }) (fun t => (t.ctx? 1).map (·.paused) == some true && t.reg Reg.RPL_PAUSE == 2) &&
        chk .pause (paS { wCtx with radio := true }) (fun t => t.reg Reg.RPL_PAUSE == 20 && t.reg Reg.RPL_EVT == 0x40)) = true := by decide +kernel

def mdl22 : Model := newModel (List.replicate 128 0) 0 4 4 [] false false (.cq 5 0 9 0 0)

def pmS : State := rs (wBase.setModel 5 2 mdl22) [(Reg.RPL_ARG, 2 ^ 31 + 5 * 2 ^ 16 + 2)]

theorem test_Recorder_7 :
    (chk .pause (rs wBase [(Reg.RPL_ARG, 2)]) (fun t => t.reg Reg.RPL_PAUSE == 36 && t.reg Reg.RPL_EVT == 0x40) &&
        chk .rplResume (paS wCtx) (fun t => t.reg Reg.RPL_PAUSE == 100 && t.reg Reg.RPL_EVT == 0x40)) = true ∧
    (chk .pause pmS (fun t => (t.model 5 2).map (·.pausing) == some true &&
        t.reg Reg.RPL_PAUSE == 1) (pmS.argModel == some (5, 2))) = true := by decide +kernel

end Recorder

/-! ### Witnesses of BeatsAndExpulsion, HealthCommands, SentinelsAndBins, StepShadows -/

namespace HealthAndRecovery

def hl (f : Health → Health) : State := { wBase with health := f wBase.health }

def tst : State := hl (fun h => { h with testing := [0x1000], trios := [[0x1000, 0x1001, 0x1002]], scores := [(32 * 0x1000 + 4, 900)] })

theorem test_HealthAndRecovery_1 :
    (chk (.sentinelResult 0x1000 7 7 true) (rs tst [(Reg.HLT_CFG, 10 * 2 ^ 20)]) (fun t => t.score 0x1000 4 == 910 &&
        t.health.testing == []) (isPart 0x1000)) = true ∧
    (chk (.sentinelResult 0x1000 7 8 true) tst (fun t => t.score 0x1000 4 == 400 && t.reg Reg.HLT_EVT &&& 4 == 4)) = true ∧
    (chk (.sentinelResult 0x1001 7 8 true) tst (fun t => t == tst)) = true ∧
    (chk (.unitShadowResult 0x1000 0x1001 0x1002 1 1 1) tst (fun t => t.health.trios == [])) = true := by decide +kernel

theorem test_HealthAndRecovery_2 :
    (chk (.unitShadowResult 0x1000 0x1001 0x1002 2 1 1) tst (fun t => t.score 0x1000 4 == 400)) = true ∧
    (chk (.unitShadowResult 0x1000 0x1001 0x1002 1 2 1) tst (fun t => t.score 0x1001 4 == 500)) = true ∧
    (chk (.unitShadowResult 0x1000 0x1001 0x1002 1 1 2) tst (fun t => t.score 0x1002 4 == 500)) = true ∧
    (chk (.unitShadowResult 0x1000 0x1001 0x1002 1 2 3) tst (fun t => t.score 0x1002 4 == 900)) = true := by decide +kernel

def mkPeer (n : Nat) (ward partner : Bool) (miss : Nat) : Peer := { node := n, isWard := ward, isPartner := partner, isSteward := false, beat := false, miss := miss, asked := false, lostAt := none }

def hpS (l : List Peer) : State := rs (hl (fun h => { h with peers := l })) [(Reg.HLT_PARTNER, 4 * 2 ^ 31)]

theorem test_HealthAndRecovery_3 :
    (chk (.healthSensorRead (List.replicate 16 0 ++ [680]) [(0x1000, 2)]) wBase (fun t => t.power.temp.get 0 16 == 680 &&
        t.health.tbin.get 0 16 == 6 && t.health.lbin.get 0 0x1000 == 2)) = true ∧
    (chk .heartbeatSend (rs wBase [(Reg.HLT_DOMAIN, 5 * 2^8 + 5 * 2 ^ 20)]) (fun t => t.reg Reg.FAB_LOST_CNT == 1)) = true ∧
    (chk .heartbeatPeriodEnd (hpS [mkPeer 3 false true 3]) (fun t => t.health.fenced)) = true ∧
    (chk .heartbeatPeriodEnd (let s := hpS [mkPeer 3 false true 0]; { s with health := { s.health with fenced := true } }) (fun t => t.health.peers.map (fun (p : Peer) => p.miss) == [1])) = true := by decide +kernel

def tuS : State := { hl (fun h => { h with unmuteAt := [(2, 500)] }) with radio := { wBase.radio with cells := [(2, { en := { st := .on }, muted := true })] } }

theorem test_HealthAndRecovery_4 :
    (chk .heartbeatPeriodEnd (hpS [mkPeer 3 false true 0, mkPeer 6 true false 3]) (fun t => t.health.peers.any (fun (p : Peer) => p.lostAt.isSome))) = true ∧
    (chk .heartbeatPeriodEnd (rs (hpS [mkPeer 3 false true 0, mkPeer 6 true false 3]) [(Reg.HLT_DOMAIN, 5 * 2^8 + 5 * 2 ^ 20)]) (fun t => t.health.peers.all (fun (p : Peer) => p.lostAt.isNone))) = true ∧
    (chk (.takeoverUnmute 2) tuS (fun t => !(t.cell 2).muted && t.health.taken && t.health.unmuteAt == [])) = true ∧
    (chk (.takeoverUnmute 2) { tuS with health := { tuS.health with unmuteAt := [(2, 5000000)] } } (fun t => (t.cell 2).muted)) = true := by decide +kernel

def stwS : State := rs (hl (fun h => { h with tokens := 1, reqs := [{ node := 9, cause := 2 }], spares := [7] })) [(Reg.HLT_DOMAIN, 2 ^ 48 + 3 * 2 ^ 32)]

theorem test_HealthAndRecovery_5 :
    (chk .expelRetry { hl (fun h => { h with expel := 1, expelCause := 2 }) with time := { wBase.time with tc := 11 * secondTc } } (fun t => t.health.expelSent == 11 * secondTc &&
        t.health.reqs.length == 1)) = true ∧
    (chk .expelRetry (hl (fun h => { h with expel := 1, expelCause := 2 })) (fun t => t.health.expelSent == 0)) = true ∧
    (chk .stewardTokenRegain stwS (fun t => t.health.tokens == 2) stwS.isSteward) = true ∧
    (chk .expelGrant stwS (fun t => t.health.tokens == 0 && t.health.granted == [9] && t.health.spares == [])) = true := by decide +kernel

theorem test_HealthAndRecovery_6 :
    (chk .expelGrant { stwS with health := { stwS.health with tokens := 0 } } (fun t => t.health.reqs.length == 1)) = true ∧
    (chk .workHandover (hl (fun h => { h with role := .expelling })) (fun t => t.health.role == .expelled && t.health.expel == 4 &&
        t.start.dev == .stopping)) = true ∧
    (chk (.spareLoad 9) (hl (fun h => { h with role := .spareReady, serveFor := some 9 })) (fun t => t.health.role == .active &&
        t.reg Reg.HLT_EVT == 0x200)) = true ∧
    (chk (.spareLoad 8) (hl (fun h => { h with role := .spareReady, serveFor := some 9 })) (fun t => t.health.role == .spareReady)) = true := by decide +kernel

def allPassed : Tab Nat := (List.range 12).flatMap (fun g => (testParts g).flatten.map (fun u => (u, 8)))

def stdS : State := hl (fun h => { h with role := .spareTest, passed := allPassed })

def shS : State := rs (hl (fun h => { h with role := .shadow, shRun := 3 })) [(Reg.HLT_SHADOW, 9 * 2 ^ 12)]

theorem test_HealthAndRecovery_7 :
    (chk .spareTestDone stdS (fun t => t.health.role == .spareReady)) = true ∧
    (chk (.stepShadowCompare 5 2 8 1 1) shS (fun t => t.health.shRun == 4)) = true ∧
    (chk (.stepShadowCompare 5 2 8 1 1) (rs shS [(Reg.HLT_SHADOW, 4 * 2 ^ 12)]) (fun t => t.health.role == .active &&
        t.reg Reg.HLT_EVT == 0x200)) = true ∧
    (chk (.stepShadowCompare 5 2 8 1 2) shS (fun t => t.health.shMiss == 1 && t.health.rerun == some (82, 8, 1))) = true := by decide +kernel

def rrS : State := { shS with health := { shS.health with rerun := some (82, 8, 1) } }

theorem test_HealthAndRecovery_8 :
    (chk (.shadowRerunResult 5 2 8 2 2) rrS (fun t => t.health.shRun == 0)) = true ∧
    (chk (.shadowRerunResult 5 2 8 1 2) rrS (fun t => t.health.shRun == 3 && t.reg Reg.HLT_LOG_COUNT == 1)) = true ∧
    (chk (.shadowRerunResult 5 2 8 3 2) rrS (fun t => t.health.shRun == 0 && t.reg Reg.HLT_LOG_COUNT == 2)) = true ∧
    (chk .expel wBase (fun t => t.health.expel == 1 && t.health.expelCause == 5)) = true := by decide +kernel

theorem test_HealthAndRecovery_9 :
    (chk .expel shS (fun t => t.reg Reg.HLT_EVT == 0x400)) = true ∧
    (chk .unfence (hl (fun h => { h with fenced := true, peers := [mkPeer 3 false true 0] })) (fun t => !t.health.fenced)) = true ∧
    (chk .unfence wBase (fun t => t.reg Reg.HLT_EVT == 0x400)) = true ∧
    (chk .shadowStart wBase (fun t => t.health.role == .shadow)) = true := by decide +kernel

theorem test_HealthAndRecovery_10 :
    (chk .shadowStart shS (fun t => t.reg Reg.HLT_EVT == 0x400)) = true ∧
    (chk .shadowStop shS (fun t => t.health.role == .active)) = true ∧
    (chk .shadowStop wBase (fun t => t.reg Reg.HLT_EVT == 0x400)) = true ∧
    (chkR (execHltLogAck 3 (rs wBase [(Reg.HLT_LOG_COUNT, 5), (Reg.HLT_LOG_TAIL, 255)])) (fun t => t.reg Reg.HLT_LOG_COUNT == 2 &&
        t.reg Reg.HLT_LOG_TAIL == 2)) = true := by decide +kernel

theorem test_HealthAndRecovery_11 :
    (chk .workHandover wBase (fun t => t == wBase) &&
        chk .expelGrant { stwS with health := { stwS.health with spares := [] } } (fun t => t.health.tokens == 1)) = true := by decide +kernel

end HealthAndRecovery

/-! ### Witnesses of AttestationAndDebug, PowerCeilings, RestartArming, RestartsAndFlash, SuppliesAndPhases, ThermalCeilings -/

namespace StartAndTrust

def st (f : Start → Start) : State := { wBase with start := f wBase.start }

theorem test_StartAndTrust_1 :
    (chk .pwrOkAssert (st (fun x => { x with pwrOk := false })) (fun t => t.start.pwrOk && t.sched == State.reset.sched)) = true ∧
    (chk .pwrOkDeassert wBase (fun t => !t.start.pwrOk)) = true ∧
    (chk .perstAssert (st (fun x => { x with perst := false })) (fun t => t.start.restart == 4 && t.sched == State.reset.sched)) = true ∧
    (chk .perstAssert (st (fun x => { x with perst := false, served := false })) (fun t => t.host.fns == [] &&
        t.sched == wBase.sched)) = true := by decide +kernel

def ph (n : Nat) : State := st (fun x => { x with phase := n, served := false })

theorem test_StartAndTrust_2 :
    (chk .perstDeassert (st (fun x => { x with restart := 4 })) (fun t => t.start.restart == 0 && !t.start.perst)) = true ∧
    (chkR (execStartPhaseEnd 0 (ph 0)) (fun t => t.start.phase == 1 && t.start.sessionKey)) = true ∧
    (chkR (execStartPhaseEnd 0 (let s := ph 0; { s with start := { s.start with identErased := true } })) (fun t => t.start.failed)) = true ∧
    (chkR (execStartPhaseEnd 0 (ph 1)) (fun t => t.start.failed && t.start.dev == .alarm)) = true := by decide +kernel

theorem test_StartAndTrust_3 :
    (chkR (execStartPhaseEnd 5 (ph 2)) (fun t => t.start.phase == 3 && t.start.fullTrain == 5)) = true ∧
    (chkR (execStartPhaseEnd 5 (ph 3)) (fun t => t.start.failed && t.start.cause != 0)) = true ∧
    (chkR (execStartPhaseEnd 5 (ph 4)) (fun t => t.start.p5done && (t.host.ports.get {} 17).st == .starting)) = true ∧
    (chk .trainingStoreWrite (st (fun x => { x with trainOwed := true })) (fun t => t.start.trainCopy == 1)) = true := by decide +kernel

theorem test_StartAndTrust_4 :
    (chk .restartArm wBase (fun t => t.start.restart == 1 && t.reg Reg.HUB_EVT == 2)) = true ∧
    (chkR (execRestartCancel (st (fun x => { x with restart := 1 }))) (fun t => t.start.restart == 0)) = true ∧
    (chkR (execRestartInstant (st (fun x => { x with restart := 1 }))) (fun t => t.start.restart == 2)) = true ∧
    (chkR (execRestartStopping (st (fun x => { x with restart := 2 }))) (fun t => t.start.restart == 3 &&
        t.start.dev == .stopping)) = true := by decide +kernel

theorem test_StartAndTrust_5 :
    (chkR (execRestartReset { st (fun x => { x with restart := 3, stoppingAt := 0, svnMin := 3 }) with host := State.reset.host }) (fun t => t.start.restart == (if wBase.start.perst then 4 else 0) &&
        t.start.svnMin == 3)) = true ∧
    (chkR (execCommitSvn 0x4B44 (st (fun x => { x with imgSvn := 9 }))) (fun t => t.start.svnMin == 9)) = true ∧
    (chkR (execCommitSvn 0 (st (fun x => { x with imgSvn := 9 }))) (fun t => t.start.svnMin == 0 && t.reg Reg.HUB_EVT == 1)) = true ∧
    (chkR (execTakeOwner 0x4B44 (st (fun x => { x with imgOwner := 9 }))) (fun t => t.start.ownerHash == 9)) = true := by decide +kernel

def flS : State := rs { wBase with mem := wBase.mem.wrBytes (flashAt (2 ^ 27 + 10)) [7, 8] } [(Reg.HUB_FLASH_OFS, 2 ^ 27 + 10), (Reg.HUB_FLASH_LEN, 2), (Reg.HUB_FLASH_HOST, 0x5000)]

theorem test_StartAndTrust_6 :
    (chkR (execFlashErase flS) (fun t => t.mem == [] && t.reg Reg.HUB_FLASH_STAT == 1) flS.flashFree) = true ∧
    (chkR (execFlashProgram [1, 0xFE] flS) (fun t => t.flash (2 ^ 27 + 10) 2 == [0, 0xF6])) = true ∧
    (chkR (execFlashRead flS) (fun t => t.out == [.hostWrite 2047 0x5000 [0xF8, 0xF7]])) = true ∧
    (chkR (execFlashRead (rs flS [(Reg.HUB_FLASH_OFS, 0)])) (fun t => t.reg Reg.HUB_FLASH_STAT == 4)) = true := by decide +kernel

def spS (n : Nat) : State := rs (st (fun x => { x with spdm := n })) [(Reg.SEC_CFG, 2 ^ 7)]

theorem test_StartAndTrust_7 :
    (chkR (execFlashDone true { flS with start := { flS.start with flash := some (1, 0, 5) } }) (fun t => t.reg Reg.HUB_FLASH_STAT == 2)) = true ∧
    (chkR (execSecMrExt 12 wBase) (fun t => t.start.mr.get 0 12 != 0)) = true ∧
    (chkR (execSecMrExt 11 wBase) (fun t => t == wBase)) = true ∧
    (chkR (execGetVersion (spS 3)) (fun t => t.start.spdm == 1 && t.out == [.spdm 4 [0, 0x12]]) (spS 3).spdmOpen) = true := by decide +kernel

theorem test_StartAndTrust_8 :
    (chkR (execGetCapabilities (spS 0)) (fun t => t.out == [.spdm 0x7F [4]])) = true ∧
    (chkR (execGetCapabilities (spS 1)) (fun t => t.start.spdm == 2)) = true ∧
    (chkR (execNegotiateAlgorithms 2 0x80 (spS 2)) (fun t => t.start.spdm == 3)) = true ∧
    (chkR (execNegotiateAlgorithms 1 0x80 (spS 2)) (fun t => t.start.spdm == 2)) = true := by decide +kernel

theorem test_StartAndTrust_9 :
    (chkR (execGetDigests (spS 3)) (fun t => t.out.length == 1)) = true ∧
    (chkR (execGetCertificate 0 0 8 (spS 3)) (fun t => t.out.length == 1)) = true ∧
    (chkR (execGetCertificate 1 0 8 (spS 3)) (fun t => t.out == [.spdm 0x7F [1]])) = true ∧
    (chkR (execChallenge 0 5 (spS 3)) (fun t => t.out.length == 1 && t.drawn == 2)) = true := by decide +kernel

theorem test_StartAndTrust_10 :
    (chkR (execGetMeasurements 0x22 false 5 (spS 3)) (fun t => t.out.length == 1)) = true ∧
    (chkR (execGetMeasurements 0x23 false 5 (spS 3)) (fun t => t.out == [.spdm 0x7F [1]])) = true ∧
    (chkR (execIdcode wBase) (fun t => t.out == [.tdo 0x09640A01])) = true ∧
    (chkR (execBypass wBase) (fun t => t.start.ir == .bypass)) = true := by decide +kernel

theorem test_StartAndTrust_11 :
    (chkR (execSamplePreload 5 wBase) (fun t => t.start.chain == 5)) = true ∧
    (chkR (execExtest 5 (st (fun x => { x with perst := true }))) (fun t => t.start.chain == 5 && t.start.ir == .extest)) = true ∧
    (chkR (execExtestExit (st (fun x => { x with ir := .extest }))) (fun t => t.start.ir == .bypass && t.sched == State.reset.sched)) = true ∧
    (chkR (execDbgToken [] wBase) (fun t => t.reg Reg.SEC_ALARM == 32)) = true := by decide +kernel

theorem test_StartAndTrust_12 :
    (chkR (execSecurityAlarm 2 wBase) (fun t => t.reg Reg.SEC_ALARM == 4)) = true ∧
    (chkR (execTamperCheck true false wBase) (fun t => t.start.tamperMiss == 1)) = true ∧
    (chkR (execTamperCheck true false (st (fun x => { x with tamperMiss := 1 }))) (fun t => t.reg Reg.SEC_ALARM == 2)) = true ∧
    (chkR (execTamperCheck false true wBase) (fun t => t.start.tampOut)) = true := by decide +kernel

theorem test_StartAndTrust_13 :
    (chkR (execThermtrip wBase) (fun t => t.power.thermTrip)) = true ∧
    (chkR (execThermalRevision (List.replicate 17 800) wBase) (fun t => t.tCeil 3 == 31)) = true ∧
    (chkR (execPowerRevision 4801 0 wBase) (fun t => t.pCeil 0 == 31 && t.reg Reg.HUB_THR_CNT == 1)) = true ∧
    (chkR (execPowerRevision 0 0 { wBase with power := { wBase.power with p := [(2, 20)] } }) (fun t => t.pCeil 2 == 21)) = true := by decide +kernel

theorem test_StartAndTrust_14 :
    (chkR (execPowerRevision 0 9999 wBase) (fun t => t.power.p == [])) = true ∧
    (chkR (execFastStep wBase) (fun t => t.pCeil 0 == 28)) = true ∧
    (chkR (execSignalOn 1 { wBase with fab := { wBase.fab with ports := [(1, { wBase.port 1 with link := .down })] } , host := { wBase.host with ports := [(17, { st := .starting })] } }) (fun t => (t.port 1).link == .train)) = true ∧
    (chk .pwrOkAssert wBase (fun t => t == wBase) && chk .perstDeassert wBase (fun t => t.start.restart == 0 &&
        !t.start.perst)) = true := by decide +kernel

theorem test_StartAndTrust_15 :
    (chkR (execStartPhaseEnd 0 (st (fun x => { x with phase := 0, failed := true }))) (fun t => t == st (fun x => { x with phase := 0, failed := true }))) = true ∧
    (let s := st (fun x => { x with phase := 4, p5done := true, served := false }); s.start.pwrOk && !s.start.failed && s.start.restart != 4 &&
        s.start.phase == 4 && s.start.p5done) = true ∧
    (chk .restartArm (rs wBase [(Reg.HUB_RESTART_AT, 2 ^ 30)]) (fun t => t.start.restart == 1 &&
        t.start.restartAt == stampTc (BitVec.ofNat 64 (2 ^ 30))) (decide (wBase.now ≤ stampTc (BitVec.ofNat 64 (2 ^ 30))))) = true ∧
    (chk .restartArm (st (fun x => { x with restart := 2 })) (fun t => t == st (fun x => { x with restart := 2 })) &&
        chk .restartCancel wBase (fun t => t == wBase)) = true := by decide +kernel

def rcel (n : Nat) : State := { st (fun x => { x with restart := n }) with radio := { wBase.radio with cells := [(2, { en := { st := .on } })] } }

def flBusy : State := { flS with start := { flS.start with flash := some (1, 0, 5) } }

theorem test_StartAndTrust_16 :
    (chk .restartInstant (rcel 1) (fun t => t == State.stopCell { rcel 1 with start := { (rcel 1).start with restart := 2 } } 2 0) &&
        chk .restartStopping (rcel 2) (fun t => t == rcel 2)) = true ∧
    (chk .restartInstant wBase (fun t => t == wBase) && chk .restartReset wBase (fun t => t == wBase)) = true ∧
    (chk .flashErase flBusy (fun t => t.mem == flS.mem && t.reg Reg.HUB_FLASH_STAT == 4) &&
        chk (.flashProgram [1, 2]) flBusy (fun t => t.mem == flS.mem && t.reg Reg.HUB_FLASH_STAT == 4) &&
        chk (.flashDone false) flBusy (fun t => t.reg Reg.HUB_FLASH_STAT == 8 && t.start.flash == none) &&
        chk (.flashDone true) flS (fun t => t == flS)) = true ∧
    (chk (.takeOwner 0x4B44) (st (fun x => { x with ownerSet := true, ownerHash := 3, imgOwner := 9 })) (fun t => t.start.ownerHash == 3 &&
        t.reg Reg.HUB_EVT == 1)) = true := by decide +kernel

theorem test_StartAndTrust_17 :
    (chk (.challenge 1 5) (spS 3) (fun t => t.out == [.spdm 0x7F [1]])) = true ∧
    (chk (.extest 5) (st (fun x => { x with perst := false })) (fun t => t == st (fun x => { x with perst := false })) &&
        chk .extestExit wBase (fun t => t == wBase)) = true ∧
    (chk .fastStep { wBase with power := { wBase.power with fastAt := some 0 }, time := { wBase.time with hub := 15999 } } (fun t => t == { wBase with power := { wBase.power with fastAt := some 0 }, time := { wBase.time with hub := 15999 } })) = true ∧
    (let s := { wBase with fab := { wBase.fab with ports := [(1, { wBase.port 1 with link := .up })] } }; chk (.signalOn 1) s (fun t => t == s)) = true := by decide +kernel

theorem test_StartAndTrust_18 :
    (chk (.thermalRevision (List.replicate 17 776)) { wBase with power := { wBase.power with t := [(3, 31)] } } (fun t => t.tCeil 3 == 32) &&
        chk (.thermalRevision (List.replicate 17 777)) { wBase with power := { wBase.power with t := [(3, 31)] } } (fun t => t.tCeil 3 == 31)) = true := by decide +kernel

end StartAndTrust

/-! ### Witnesses of FrameOfEveryCommand, MemoryFrames, RegisterFrames, ResetState, StepKeepsSound, StepRunsFront, WellFormedCommandsAnswer -/

namespace EveryCommand

theorem test_EveryCommand_1 :
    ((match step { wBase with pending := [.nop (.host 5 0), .snapshot] } with | .next t => t.pending == [.snapshot] | _ => false)) = true ∧
    ((match step { wBase with time := { wBase.time with hub := 7 } } with | .next t => t.pending == [] && t.time.hub == 8 && t.sched == wBase.sched | _ => false)) = true ∧
    ((match step r0 with | .next t => t == r0 | _ => false) && (match step { wBase with power := { wBase.power with thermTrip := true } } with | .next t => t == { wBase with power := { wBase.power with thermTrip := true } } | _ => false)) = true ∧
    (r0.mem.wf && r0.pending.all Instr.wellFormed) = true := by decide +kernel

/-- Each command of `RegisterFrames` answers a next state. -/
def goes (i : Instr) : Bool := chk i wBase (fun _ => true)

/-- The stores of `MemoryFrames`, with a byte below and one above what each writes. -/
def memB : Mem := [(5, 1), (9, 2), (10, 3)]

theorem test_EveryCommand_2 :
    (wBase.mem.wf && (match step { wBase with pending := [.pwrOkDeassert] } with | .next t => t.mem.wf && t.pending == [] && decide (wBase.drawn ≤ t.drawn) | _ => false)) = true ∧
    (goes .snapshot && goes .requalify && goes (.ibxCsAck 2 4) && goes (.memLogAck 3) && goes (.hltLogAck 3) && goes .shpHistClr &&
        goes .shadowStart && goes .shadowStop) = true ∧
    (goes (.commitSvn 0x4B44) && goes (.takeOwner 0x4B44) && goes .restartCancel && goes (.secMrExt 12) && goes .flashRead &&
        goes (.flashDone true) && goes .replayStop && Reg.TIM_CFG ∉ logRegs) = true ∧
    (memB.wf && ((memB.wrBytes 6 [7, 8]).rd 5 == 1) && ((memB.wrBytes 6 [7, 8]).rd 7 == 8) && ((memB.clear 9 1).rd 9 == 0) &&
        ((memB.clear 9 1).rd 10 == 3) && ((memB.copy 5 9 2).rd 9 == 1) && ((memB.copy 5 9 2).rd 10 == 0) &&
        ((memB.wrSpans [(6, 2), (20, 1)] [7, 8, 9]).rd 20 == 9) && ((memB.wrSpans [(6, 2)] [7, 8]).rd 10 == 3)) = true := by decide +kernel

def ldS25 : State := wAt (uIbex 0) (cmdOf [(0, 0x20 + 0xFFFF * 2^48), (16, 0x100), (20, 2)])

def spS25 : State := wAt (uIbex 0) (cmdOf [(0, 0x22 + 0xFFFF * 2^48), (16, 0x100)])

def flS25 (d : Nat) : State := { wAt (uMov 0) (cmdOf [(0, 0xA2 + 0xFFFF * 2^48), (16, d), (32, 3), (48, 0xAABB)]) with mem := [(0x1FF, 1), (0x203, 1)], tiers := { wBase.tiers with pages := [(16, { tier := 1, die := 0, frame := 3, owner := 5 })] } }

def cpS25 (d : Nat) : State := { wAt (uMov 0) (cmdOf [(0, 0xA0 + 0xFFFF * 2^48), (16, 2^60 + 0x1FF), (24, d), (32, 2)]) with mem := [(0x1FF, 1), (0x203, 5)], tiers := { wBase.tiers with pages := [(16, { tier := 1, die := 0, frame := 3, owner := 5 })] } }

theorem test_EveryCommand_3 :
    (chk (.load 0) ldS25 (fun t => t.mem.rd 0x100 == 0) ((ldS25.cur (uIbex 0) 0x20).isSome) && chk (.restore 0) ldS25 (fun t => t == ldS25)) = true ∧
    ((spS25.cur (uIbex 0) 0x22).isSome && spS25.tiers.migs == [] && cDctx (cmdOf [(0, 0x22 + 0xFFFF * 2^48), (16, 0x100)]) == 0xFFFF &&
        chk (.spill 0) spS25 (fun t => (t.array 0).loaded == none)) = true ∧
    (chk (.fill 0) (flS25 (2^60 + 0x200)) (fun t => t.mem.rd 0x1FF == 1 && t.mem.rd 0x203 == 1 && t.mem.rd 0x200 == 0xBB) &&
        chk (.fill 0) (flS25 0x100000) (fun t => t.mem.rd (tarnAt 0 3 0) == 0xBB && t.mem.rd 0x1FF == 1)) = true ∧
    (chk (.copy 0) (cpS25 (2^60 + 0x201)) (fun t => t.mem.rd 0x1FF == 1 && t.mem.rd 0x203 == 5 && t.mem.rd 0x201 == 1) &&
        chk (.copy 0) (cpS25 0x100000) (fun t => t.mem.rd (tarnAt 0 3 0) == 1 && t.mem.rd 0x203 == 5)) = true := by decide +kernel

end EveryCommand

end Sys2Proof.Tests
end

section
/-! PROOFS. Accesses of registers by the host: what a write and a read of BAR2 or of a function page do (R16 to R21, R589, R622). -/
namespace Sys2Proof.Machine

/-! ### Functions, queue pairs and what leaves the package -/

@[simp] theorem State.setFn_fn (s : State) (f : Nat) (x : Fn) : (s.setFn f x).fn f = x := Tab.get_set_self _ _ _ _

@[simp] theorem State.setQp_qp (s : State) (f q : Nat) (x : QPair) : (s.setQp f q x).qp f q = x := by
  simp [State.setQp, State.qp]

/-- Data that a host's read returns leaves during a replay too (R651). -/
theorem State.emit_readData (s : State) (f : Nat) (b : List Byte) :
    s.emit (.readData f b) = { s with out := s.out ++ [.readData f b] } := by
  simp [State.emit, Output.held]

/-! ### Writes of BAR2 -/

theorem State.writeRow_of_rw (s : State) {k : RegRow} (a v width : Nat) (hi : Bool) (h : k.acc = .rw) :
    s.writeRow k a v width hi =
      s.setReg a ((s.reg a &&& (2 ^ 64 - 1 - k.mask)) ||| (mergeHalf (s.reg a) v width hi &&& k.mask)) := by
  simp only [State.writeRow, h]

theorem State.writeRow_of_rw1c (s : State) {k : RegRow} (a v width : Nat) (hi : Bool) (h : k.acc = .rw1c) :
    s.writeRow k a v width hi = s.setReg a (s.reg a &&& (2 ^ 64 - 1 - (mergeHalf 0 v width hi &&& k.mask))) := by
  simp only [State.writeRow, h]

/-- A write to a register of any other access code changes no stored value. -/
theorem State.writeRow_of_unwritable (s : State) {k : RegRow} (a v width : Nat) (hi : Bool)
    (h : k.acc = .ro ∨ k.acc = .wo ∨ k.acc = .rc ∨ k.acc = .lk) : s.writeRow k a v width hi = s := by
  rcases h with h | h | h | h <;> simp only [State.writeRow, h]

/-- Outside a replay PF0's write to a register of BAR2 is logged and then acts by the register's row. -/
theorem exec_registerWrite_bar2 {s : State} {r : RegRef} {k : RegRow} {a : Nat} {hi : Bool} (v : Nat) (hbar : r.bar2 = true)
    (hfn : r.fn = pf0) (hw : r.width = 4 ∨ r.width = 8) (hal : r.ofs % r.width = 0) (hit : regHit r.ofs r.width = some (k, a, hi))
    (hrep : s.replayed = false) :
    exec (.registerWrite r v) s =
      .next ((s.logIn 5 0x04 pf0 (BitVec.ofNat 64 (r.ofs + 2 * 2 ^ 48)) (leBytes r.width v)).writeRow k a v r.width hi) := by
  change execRegisterWrite r v s = _
  have hpf : isFn pf0 = true := by decide
  simpa [execRegisterWrite, hbar, hfn, hpf, hal, hit, State.bar2_eq _ _ _ _ _ hrep] using Or.resolve_left hw

/-! ### Writes of a function page -/

/-- A write of all 64 bits of a page's register keeps none of what it read as. -/
theorem State.writePageHalf_full (s : State) (f : Nat) {o v : Nat} (ho : o % 8 = 0) (hv : v < 2 ^ 64) :
    s.writePageHalf f o v 8 = s.writePage f o v := by
  have hb : o / 8 * 8 = o := Nat.div_mul_cancel (Nat.dvd_of_mod_eq_zero ho)
  simp only [State.writePageHalf, mergeHalf, hb, if_true, Nat.mod_eq_of_lt hv]

theorem exec_registerWrite_page {s : State} {f o v : Nat} (hf : isFn f = true) (hon : s.fnOn f = true) (ho : o % 8 = 0) (hv : v < 2 ^ 64) :
    exec (.registerWrite ⟨f, false, o, 8⟩ v) s = .next (s.page0 f o 8 v (fun u => u.writePage f o v)) := by
  change execRegisterWrite _ v s = _
  simp [execRegisterWrite, hf, hon, ho, State.writePageHalf_full _ _ ho hv]

/-- The attention register of a page (R622). -/
theorem State.writePage_attn (s : State) (f v : Nat) :
    s.writePage f 0x18 v = s.setFn f { s.fn f with attnCq := v % 8, attnHold := v / 8 % 2 ^ 10 } := by
  simp [State.writePage]

/-- The coalescing register of a page's queue pair 0 (R622). -/
theorem State.writePage_coalesce (s : State) (f v : Nat) :
    s.writePage f 0x118 v = s.setQp f 0 { s.qp f 0 with count := v % 2 ^ 8, time := v / 2 ^ 8 % 2 ^ 10 } := by
  simp [State.writePage, State.writePair]

/-! ### Reads -/

section
variable {s : State} {r : RegRef} {k : RegRow} {a : Nat} {hi : Bool}

theorem exec_rcCounterRead (s : State) (h : refOk r = true) : exec (.rcCounterRead r) s = .next (s.hostRead r) := by
  change execRcCounterRead r s = _
  simp [execRcCounterRead, h]

theorem exec_lowHalfRead (s : State) (h : refOk r = true) (hw : r.width = 4) : exec (.lowHalfRead r) s = .next (s.hostRead r) := by
  change execLowHalfRead r s = _
  simp [execLowHalfRead, h, hw]

theorem State.readReg_bar2 (s : State) (hbar : r.bar2 = true) (hit : regHit r.ofs r.width = some (k, a, hi)) :
    s.readReg r = some (a, s.bar2View k a, k.width == 8, if k.acc = .rc then s.setReg a 0 else s) := by
  simp [State.readReg, hbar, hit]

/-- A read where BAR2 has no register returns zeros (R589). -/
theorem State.hostRead_of_no_register (s : State) (hbar : r.bar2 = true) (hit : regHit r.ofs r.width = none) :
    s.hostRead r = { s with out := s.out ++ [.readData r.fn (List.replicate r.width 0)] } := by
  simp [State.hostRead, State.readReg, hbar, hit, State.emit_readData]

/-- A read of all of a counter returns its value and clears it (R16). -/
theorem State.hostRead_of_rc (s : State) (hbar : r.bar2 = true) (hit : regHit r.ofs r.width = some (k, a, hi)) (hacc : k.acc = .rc)
    (hw : k.width = r.width) :
    s.hostRead r = { s.setReg a 0 with out := s.out ++ [.readData r.fn (leBytes r.width (s.reg a))] } := by
  have hwhole : r.width = 8 ∨ (!(k.width == 8)) = true := by
    rw [hw]
    by_cases h8 : r.width = 8
    · exact Or.inl h8
    · exact Or.inr (by rw [beq_false_of_ne h8]; rfl)
  simp only [State.hostRead, State.readReg_bar2 s hbar hit, if_pos hwhole, hacc, if_true, State.bar2View, State.emit_readData, State.setReg_out]

/-- A read of a 64-bit register's low half returns it and latches the high half (R21). -/
theorem State.hostRead_of_low_half (s : State) (hbar : r.bar2 = true) (hit : regHit r.ofs r.width = some (k, a, hi)) (hacc : k.acc ≠ .rc)
    (hk : k.width = 8) (hw : r.width = 4) (ho : r.ofs % 8 = 0) :
    s.hostRead r = { s with latch := s.latch.set (2 ^ 32 * r.fn + a) (BitVec.ofNat 32 (s.bar2View k a / 2 ^ 32)),
                            out := s.out ++ [.readData r.fn (leBytes 4 (s.bar2View k a % 2 ^ 32))] } := by
  simp [State.hostRead, State.readReg_bar2 s hbar hit, hk, hw, ho, hacc, latchKey, hbar, State.emit_readData]

/-- A read of a 64-bit register's high half returns what is latched for it and empties the latch (R21). -/
theorem State.hostRead_of_latched_half (s : State) {h : Word} (hbar : r.bar2 = true) (hit : regHit r.ofs r.width = some (k, a, hi))
    (hk : k.width = 8) (hw : r.width = 4) (ho : r.ofs % 8 = 4) (hl : s.latch.find (2 ^ 32 * r.fn + a) = some h) :
    s.hostRead r = { s with latch := s.latch.del (2 ^ 32 * r.fn + a), out := s.out ++ [.readData r.fn (leBytes 4 h.toNat)] } := by
  have hkey : latchKey r a = 2 ^ 32 * r.fn + a := by simp [latchKey, hbar]
  simp only [State.hostRead, State.readReg_bar2 s hbar hit, hkey, hl, State.emit_readData]
  simp [hk, hw, ho]

end

/-! ### The statement -/

/-- Settles O46: the accesses of BAR2 by the row of the register, those of the function page by its offset. -/
theorem registerAccesses : Obligations.RegisterAccesses := by
  unfold Obligations.RegisterAccesses
  refine ⟨?bar2, ?page, ?read, ?empty⟩
  case bar2 =>
    intro s u r k a v hi hbar hfn hw hal hit hrep hu
    have hx := exec_registerWrite_bar2 v hbar hfn hw hal hit hrep
    rw [← hu] at hx
    exact ⟨fun h => ⟨_, hx, State.writeRow_of_rw _ _ _ _ _ h⟩, fun h => ⟨_, hx, State.writeRow_of_rw1c _ _ _ _ _ h⟩,
      fun h => ⟨_, hx, State.writeRow_of_unwritable _ _ _ _ _ h⟩⟩
  case page =>
    intro s u f o v hf hon ho hu hv
    have hx := exec_registerWrite_page hf hon ho hv
    rw [State.page0, ← hu] at hx
    refine ⟨?_, ?_⟩ <;> rintro rfl
    · exact ⟨_, hx, by rw [State.writePage_attn]; exact State.setFn_fn _ _ _⟩
    · exact ⟨_, hx, by rw [State.writePage_coalesce]; exact State.setQp_qp _ _ _ _⟩
  case read =>
    intro s r k a hi hok hbar hit
    refine ⟨fun hacc hkw _ => ⟨_, exec_rcCounterRead s hok, ?_⟩, fun hacc hk hw ho => ⟨_, exec_lowHalfRead s hok hw, ?_⟩,
      fun h hk hw ho hl => ⟨_, exec_lowHalfRead s hok hw, ?_⟩⟩
    · rw [State.hostRead_of_rc s hbar hit hacc hkw]
      exact ⟨rfl, State.setReg_reg s a 0, rfl⟩
    · rw [State.hostRead_of_low_half s hbar hit hacc hk hw ho]
      exact ⟨rfl, Tab.find_set_self _ _ _, rfl⟩
    · rw [State.hostRead_of_latched_half s hbar hit hk hw ho hl]
      exact ⟨rfl, Tab.find_del_self _ _, rfl⟩
  case empty =>
    intro s r hok hbar hit
    exact ⟨_, exec_rcCounterRead s hok, State.hostRead_of_no_register s hbar hit⟩

end Sys2Proof.Machine
end

section
/-! PROOFS. The state after reset (R22, R72, R663, R731, R747, R760). -/
namespace Sys2Proof.Machine

/-- Memory and queue are empty at reset, so both conditions hold. -/
theorem State.reset_sound : State.reset.Sound := ⟨rfl, rfl⟩

/-- A register that neither the defaults nor the identity list reads 0 at reset (log entry 7). -/
theorem State.reset_reg_of_unlisted {a : Nat} (h : State.reset.regs.find a = none) : State.reset.reg a = 0 := by
  rw [State.reg, Tab.get, h]; rfl

/-- ARITH of the identity (R747). -/
theorem State.reset_arith : State.reset.regBits Reg.HUB_IDENT 0 32 = 0xA11 := by
  have h : State.reset.regs.get 0 Reg.HUB_IDENT = identReset := Tab.get_set_self _ _ _ _
  rw [State.regBits, h]; decide

/-- The event registers of time unit, health monitor, trust and recorder read 0. -/
theorem State.reset_events : State.reset.reg Reg.TIM_EVT = 0 ∧ State.reset.reg Reg.HLT_EVT = 0 ∧ State.reset.reg Reg.SEC_ALARM = 0 ∧
    State.reset.reg Reg.RPL_EVT = 0 := by
  refine ⟨State.reset_reg_of_unlisted ?_, State.reset_reg_of_unlisted ?_, State.reset_reg_of_unlisted ?_,
    State.reset_reg_of_unlisted ?_⟩ <;> decide

/-- Settles O2: the fields as `State.reset` lists them; tables are empty, so each look-up gives its default; the registers by their list. -/
theorem resetState : Obligations.ResetState := by
  unfold Obligations.ResetState
  obtain ⟨htim, hhlt, hsec, hrpl⟩ := State.reset_events
  exact ⟨State.reset_sound, rfl, rfl, rfl, rfl, rfl, rfl, rfl, rfl, rfl, rfl, rfl, fun _ _ => rfl, fun _ => rfl, fun _ => ⟨rfl, rfl⟩,
    fun _ => rfl, fun _ => rfl, fun _ _ => rfl, fun _ => rfl, rfl, htim, hhlt, hsec, hrpl, State.reset_arith⟩

end Sys2Proof.Machine
end

section
/-! PROOFS. Every command completes: the fault for an operand that names a missing part, else a next state (R24, R381, R429, R523, R590). -/
namespace Sys2Proof.Machine

/-! ### Answers and guards -/

/-- The answer is a next state. -/
def IsNext (r : Res) : Prop := ∃ t, r = .next t

/-- The answer of a command, of which `ok` tells whether it names parts that the package has. -/
structure Completes (ok : Bool) (r : Res) : Prop where
  next : ok = true → IsNext r
  fault : ok = false → r = .fault .noSuchPart

section
variable {p p' : Prop} {ok ok' : Bool} {r q : Res} {k n : Nat}

theorem IsNext.intro (t : State) : IsNext (.next t) := ⟨t, rfl⟩

theorem IsNext.ite [Decidable p] (hr : IsNext r) (hq : IsNext q) : IsNext (if p then r else q) := by
  split
  · exact hr
  · exact hq

theorem Completes.of_isNext (hr : IsNext r) : Completes true r := ⟨fun _ => hr, nofun⟩

/-- A guard that refuses exactly the commands that name a missing part, and an answer behind it. -/
theorem Completes.guard [Decidable p] (hp : p ↔ ok = false) (hr : IsNext r) : Completes ok (if p then .fault .noSuchPart else r) where
  next h := by rw [if_neg (by simp [hp, h])]; exact hr
  fault h := if_pos (hp.mpr h)

theorem Completes.below (hr : IsNext r) : Completes (decide (k < n)) (if n ≤ k then .fault .noSuchPart else r) :=
  .guard (by simp) hr

theorem Completes.unless (hr : IsNext r) : Completes ok (if !ok then .fault .noSuchPart else r) :=
  .guard (by simp) hr

/-- A guard on two operands. -/
theorem Completes.either [Decidable (p ∨ p')] (hp : p ↔ ok = false) (hp' : p' ↔ ok' = false) (hr : IsNext r) :
    Completes (ok && ok') (if p ∨ p' then .fault .noSuchPart else r) :=
  .guard (by rw [Bool.and_eq_false_iff, hp, hp']) hr

end

/-! ### The operations that several commands share -/

theorem State.bundle_completes (s : State) (k aop : Nat) : Completes (isChamois k) (s.bundle k aop) := by
  refine .below ?_
  repeat' first
    | with_reducible exact .intro _
    | split
    | extract_lets

theorem State.control_completes (s : State) (k cop : Nat) (f : Chm → DWord → Chm × Nat) : Completes (isChamois k) (s.control k cop f) := by
  refine .below ?_
  repeat' first
    | with_reducible exact .intro _
    | split
    | extract_lets

theorem State.vector_completes (s : State) (cl : Nat) (o : VOp) : Completes (isCluster cl) (s.vector cl o) := by
  refine .below ?_
  repeat' first
    | with_reducible exact .intro _
    | with_reducible refine .ite ?_ ?_
    | extract_lets
    | split

/-- Planes 0 to 2, and 3 for the package's own hub. -/
theorem State.inRow_completes (s : State) (p : Nat) (t : Txn) (op : Nat) (u : State) : Completes (decide (p < 4)) (s.inRow p t op u) :=
  .below (.ite (.intro _) (.ite (.intro _) (.intro _)))

theorem State.service_isNext (s : State) (o : Origin) (op ctxAt : Nat) (f : Svc → SvcOut) : IsNext (s.service o op ctxAt f) := by
  unfold State.service
  repeat' first
    | with_reducible exact .intro _
    | split

theorem State.spdmReq_isNext (s : State) (n : Nat) (u : State) : IsNext (s.spdmReq n u) :=
  .ite (.intro _) (.ite (.intro _) (.intro _))

/-! ### Accesses of registers -/

/-- A write of BAR2 by another function than PF0 meets a guard of its own behind the common one. -/
theorem execRegisterWrite_completes (r : RegRef) (v : Nat) (s : State) : Completes (refOk r) (execRegisterWrite r v s) := by
  by_cases hb : r.bar2 = true ∧ r.fn ≠ pf0
  · have hok : refOk r = false := by simp [refOk, hb]
    have hr : execRegisterWrite r v s = .fault .noSuchPart := by
      unfold execRegisterWrite
      split
      · rfl
      · rw [if_pos hb.1, if_pos hb.2]
    exact ⟨by simp [hok], fun _ => hr⟩
  · have hpf : (!r.bar2 || r.fn == pf0) = true := by
      by_cases hf : r.fn = pf0
      · rw [hf, beq_self_eq_true, Bool.or_true]
      · rw [Bool.of_not_eq_true fun hbar => hb ⟨hbar, hf⟩, Bool.not_false, Bool.true_or]
    refine .guard (by simp only [refOk, hpf, Bool.and_true, Bool.and_eq_false_iff, Bool.not_eq_true', beq_eq_false_iff_ne, or_assoc]) ?_
    split
    case isTrue hbar =>
      rw [if_neg (fun hf => hb ⟨hbar, hf⟩)]
      split
      · exact .intro _
      · exact .intro _
    case isFalse => exact .ite (.intro _) (.intro _)

theorem execRcCounterRead_completes (r : RegRef) (s : State) : Completes (refOk r) (execRcCounterRead r s) where
  next h := ⟨_, exec_rcCounterRead s h⟩
  fault h := if_neg (by simp [h])

/-! ### Every command -/

/-- Each command guards its operands as `Instr.wellFormed` counts the parts, and behind the guard every branch answers a next state. -/
theorem exec_completes (c : Instr) (s : State) : Completes c.wellFormed (exec c s) := by
  cases c
  all_goals dsimp only [exec, Instr.wellFormed]
  -- Commands that are one of the shared operations.
  case aopNop | cmac | cmacj | cmsu | cmul | cmulj | rcmac | rcmul | azero | arnd | vadd | vsub | vconj | vmov | vrot | vbrev =>
    exact State.bundle_completes _ _ _
  case loop | br | bnz | setp | sets | adds | setsh => exact State.control_completes _ _ _ _
  case vmap | vbin | vreduce | vsoftmax | vnorm | vconvert | vsample => exact State.vector_completes _ _ _
  case fabLoad | fabStore | fabAtomic | fabTileWr | fabTileRd | fabHandle | fabGroup | fabData | fabAck | fabResult | fabNack | fabError =>
    exact State.inRow_completes _ _ _ _ _
  case nop | arm | groupCreate | groupJoin | notify | cancel | handlePut | place | promote | evict | pin | unpin | ctxCreate | ctxEnd |
      modelLoad | modelUnload | seqSubmit | seqCancel | ssiSend | accRead =>
    exact .of_isNext (State.service_isNext _ _ _ _ _)
  case hostCopy => unfold execHostCopy; exact .of_isNext (State.service_isNext _ _ _ _ _)
  case getCapabilities | negotiateAlgorithms | getDigests | challenge | getCertificate | getMeasurements =>
    exact .of_isNext (State.spdmReq_isNext _ _ _)
  case registerWrite => exact execRegisterWrite_completes _ _ _
  case rcCounterRead => exact execRcCounterRead_completes _ _
  -- Commands that name no part and answer at once.
  case snapshot | restep | requalify | bandwidthWindow | indicationRingRoom | shpHistClr | memLogAck | replyCacheFree | ratcInsert | ratcRemove |
      ratcRead | recStart | recStop | replayStart | replayStop | mark | pause | rplResume | exportLog | importLog | clearLog | xferDone |
      heartbeatSend | expelRetry | stewardTokenRegain | expel | unfence | shadowStart | shadowStop | hltLogAck | restartArm | restartCancel |
      commitSvn | takeOwner | flashErase | flashProgram | flashRead | secMrExt | frameFree | vfEnableClear | heartbeatPeriodEnd |
      perstDeassert | pwrOkDeassert =>
    exact .of_isNext (.intro _)
  -- Commands that name no part and first ask the state.
  case' ppsPulse | ppsMiss | todMessage | sourceHoldoffExpiry | beaconSourceSwitch | holdoverLimit | autoStep | launchCounterCorrect |
      numvfsWrite | recordInject | outputMissing | logGapWrite | workHandover | spareTestDone | pwrOkAssert | startPhaseEnd |
      trainingStoreWrite | perstAssert | restartInstant | restartStopping | restartReset | flashDone | getVersion | dbgToken | idcode |
      bypass | samplePreload | extest | extestExit | tamperCheck | thermtrip | ptpDelayReq | ppsOutPulse | shpHistSample | beaconSend |
      echoReqSend | vfEnableSet | accountBoundary | powerRevision | fastStep =>
    refine .of_isNext (.ite ?_ ?_)
  case' contextEnd | migrationStart | migrationLine | migrationSwitch | requestTimeout | nackBackoffEnd | atomicUnknown | ratcRemoveDone |
      listSubmit | stopAtReached | expelGrant =>
    delta execContextEnd execMigrationStart execMigrationLine execMigrationSwitch execRequestTimeout execNackBackoffEnd execAtomicUnknown
      execRatcRemoveDone execListSubmit execStopAtReached execExpelGrant
    refine .of_isNext ?_
  -- Ibex arrays, signal cores, clusters and regions (R24).
  case' load | stream | spill | restore | weightFenceMet | ibxFreeze | ibxOutputRow | checksumCompare | cimem | cfill | cdrain | crun |
      chmLimit | halt | eviction | swapStart | swapComplete | vnop | copy | xferNd | fill | toExact | exactSum | fromExact | atomic | resume |
      windowBoundary | hardStop | radioOverrunEnd | ibxCsAck | ldpcDec | ldpcEnc | polarDec | polarEnc =>
    refine .below ?_
  -- Units and scored parts by their code.
  case' grainStart | grainOverrun | listEnd | listHdr | handleWaitMet | handleRelease | serviceAck | sentinelResult | unitShadowResult =>
    refine .unless ?_
  case' fctlUnitEnable | fctlUnitDisable => refine .either (by simp) (by simp) ?_
  case' radioListAdmit =>
    refine .guard ?_ ?_
    · simp only [isEngine, Bool.or_eq_true, Bool.not_eq_true', decide_eq_true_eq, Bool.and_eq_false_iff, decide_eq_false_iff_not, Nat.not_lt]
  -- Cells, the ways that their messages come, fronthaul ports, streams and queues (R381, R429).
  case' cellOn | cellOff | slotMark | dlDeadline | ulReport | deadlineMiss | takeoverUnmute | ptpFrame | esmcFrame | frameReceive |
      fhLinkChange | fctlFhPortEnable | fctlFhPortDisable | ptpAnnounceTimeout | burstFft | receiveWindowClose | gateOpen | gateCloseDrop |
      shaperSelect =>
    refine .below ?_
  case' cellStart | cellStop | dlOrder | tbLoad | ulOrder | softRelease => refine .unless ?_
  case' egressBuild => refine .either (by simp [isCell]) (by simp) ?_
  -- Fabric ports and nodes (R523).
  case' flitReceive | nakReceive | ackTimeout | linkLost | linkTrained | lossOfSignal | pathRetry | pathOk | pathLost | pathRetryLapse |
      fabBeacon | fabEchoReq | fabEchoResp | fctlFabPortEnable | fctlFabPortDisable | signalOn | spareLoad =>
    refine .below ?_
  -- Functions, their queue pairs, model slots and apertures (R590).
  case' fctlVfEnable | fctlVfDisable | vfStopComplete => refine .below ?_
  case' attnHoldExpiry | attnClear | flr => refine .unless ?_
  case' sqDoorbell | cqDoorbell | recordWrite | msixFire | msixUnmask | queuePairEnable | queuePairDisable | queuePairOff =>
    refine .either (by simp) (by simp) ?_
  case' mirrorAck | stepBoundary | stepShadowCompare | shadowRerunResult => refine .either (by simp) (by simp) ?_
  case' apertureRead | apertureWrite | lowHalfRead => refine .either (by simp) (by simp) ?_
  -- Comparators, groups, classes, handle queues, dies, alarms and sensors.
  case' comparatorMatch => refine .unless ?_
  case' commitPoint | groupOrphan | groupFree | timGrpAbort | listStart | handleVisible | visibilityStampDue | memoryRefresh | scrub |
      securityAlarm =>
    refine .below ?_
  case' thermalRevision => refine .guard (by simp) ?_
  case' healthSensorRead => refine .either (by simp) (by simp) ?_
  -- Behind its guard a command only tests and matches, and every end is a next state.
  all_goals
    repeat' first
      | with_reducible exact .intro _
      | with_reducible refine .ite ?_ ?_
      | (extract_lets +onlyGivenNames v; clear_value v)
      | split

/-! ### The statement -/

/-- A state with a sound queue has a next step: the front command names parts that the package has, and an empty queue ticks. -/
theorem step_isNext_of_sound {s : State} (h : s.Sound) : IsNext (step s) := by
  have hq := h.queue
  unfold step
  split
  · exact .intro _
  next c r hp =>
    rw [hp, List.all_cons, Bool.and_eq_true] at hq
    exact (exec_completes c _).next hq.1

/-- Settles O5: a command's guard refuses exactly the ill-formed operands, and behind it every branch answers a next state. -/
theorem wellFormedCommandsAnswer : Obligations.WellFormedCommandsAnswer := by
  unfold Obligations.WellFormedCommandsAnswer
  exact ⟨fun c s => ⟨(exec_completes c s).next, (exec_completes c s).fault⟩, fun _ => step_isNext_of_sound⟩

end Sys2Proof.Machine
end

section
/-! PROOFS. Windows and grains: a table that lists a unit twice, where a hard stop frees nothing (R24, R126). -/
namespace Sys2Proof.Machine

/-- A list of context `ctx` that asks nothing of any unit. -/
def idleList (ctx : Nat) : ListRec :=
  { id := 0, ctx := ctx, cls := 1, unit := 0, count := 2, grain := 0, noRestart := false, deadline := false, part := 0, addr := 0, seq := 0,
    report := .none, reruns := 0, lateCnt := 0, lateCode := 0, lateCmd := 0, own := false }

/-- That list as a unit runs it, at its header. -/
def idleRun (ctx : Nat) : Running :=
  { list := idleList ctx, idx := 0, buf := [], stage := .ready, taken := none, handles := [], out := [], ending := none, detail := 0,
    start := 0, scaled := 0, overran := false }

/-- Region 0 is past the hard-stop point of its one inference window of 1,000 Tc, and the table of units lists array 0 twice: first with a list
of context 2, which does not exist, then with a list of the inference context 1. -/
def twiceListed : State :=
  { State.reset with
    sched := { Sched.reset with
      ctxs := [(1, { newCtx 1 false 5 with st := .running })]
      units := [(uIbex 0, { run := some (idleRun 2) }), (uIbex 0, { run := some (idleRun 1) })] }
    regs := [(Reg.CYC_CFG 0, 4), (Reg.CYC_ENTRY 0 0 0, 1000 * 2 ^ 25 + 2 * 2 ^ 50)] }

/-- The busy units of a region are found by all entries of the table. -/
theorem twiceListed_busyUnits : twiceListed.busyUnits 0 false = [uIbex 0] := by decide

theorem twiceListed_nextClose : twiceListed.nextClose 0 twiceListed.localNow = some 1000 := by decide +kernel

/-- The run of a unit is read from its first entry: that list has no context, so the hard stop leaves it (R126). -/
theorem twiceListed_hardStop_run : (twiceListed.hardStopNow 0).run (uIbex 0) = some (idleRun 2) := by decide +kernel

/-- Refutes O13: HARD_STOP takes the one busy unit that `busyUnits` names, and its list still runs. The table of units is plain data, so a state
may list array 0 twice; `busyUnits` sees the second entry and `run` the first, whose list has no context. -/
theorem not_windowsAndGrains : ¬ Obligations.WindowsAndGrains := by
  unfold Obligations.WindowsAndGrains
  rintro ⟨-, hardStop, -⟩
  obtain ⟨t, ht, -, hfree⟩ := hardStop twiceListed 0 1000 (by decide) twiceListed_nextClose (by decide) (by decide)
  have hx : exec (.hardStop 0) twiceListed = .next (twiceListed.hardStopNow 0) := rfl
  obtain rfl := Host.Outcome.next.inj (hx.symm.trans ht)
  have hrun := hfree (uIbex 0) twiceListed_busyUnits rfl rfl
  rw [twiceListed_hardStop_run] at hrun
  cases hrun

end Sys2Proof.Machine
end

section
/-! PROOFS. Contexts and clusters: what a look-up gives after an update, and what each operation on contexts leaves (R131 to R143). -/
namespace Sys2Proof.Machine

/-! ### Frames, read by the look-ups -/

section
variable {ps : List Part} {s t : State}

theorem Only.ctx? (h : Only ps s t) (hp : .ctxs ∉ ps) (i : Nat) : t.ctx? i = s.ctx? i := congrArg (Tab.find · i) (h.same .ctxs hp)

theorem Only.cluster (h : Only ps s t) (hp : .cyclic ∉ ps) (c : Nat) : t.cluster c = s.cluster c :=
  congrArg (fun p : Tab Region × Tab Cluster × Tab Band × Tab (List Nat) => p.2.1.get {} c) (h.same .cyclic hp)

theorem Only.reg (h : Only ps s t) (hp : .regs ∉ ps) (a : Nat) : t.reg a = s.reg a := congrArg (fun r => (Tab.get r 0 a).toNat) (h.same .regs hp)

end

theorem State.refresh_only (s : State) (i : Nat) : Only [.ctxs] s (s.refresh i) :=
  have : Has [.ctxs] .ctxs := Has.of rfl
  (State.refresh_stays _ _ (Stays.refl _ _)).only

theorem State.seat_only (s : State) (x : Ctx) (c : Nat) (but : Option Nat) (st : CtxState) : Only [.ctxs, .mem] s (s.seat x c but st) :=
  have : Has [.ctxs, .mem] .ctxs := Has.of rfl
  have : Has [.ctxs, .mem] .mem := Has.of rfl
  (State.seat_stays _ _ _ _ _ (Stays.refl _ _)).only

/-- The end of a service command changes no context. -/
theorem State.svcEnd_ctx? (s : State) (o : Origin) (rep : Report) (code : Nat) (d : BitVec 128) (i : Nat) :
    (s.svcEnd o rep code d).ctx? i = s.ctx? i :=
  have : Has served .lists := Has.of rfl
  have : Has served .units := Has.of rfl
  have : Has served .fns := Has.of rfl
  have : Has served .front := Has.of rfl
  have : Has served .fab := Has.of rfl
  have : Has served .rpl := Has.of rfl
  have : Has served .regs := Has.of rfl
  have : Has served .out := Has.of rfl
  (State.svcEnd_stays _ _ _ _ _ (Stays.refl served s)).only.ctx? (by decide) i

/-! ### Contexts -/

section
variable {s : State} {x : Ctx} {i : Nat}

theorem State.setCtx_ctx? (s : State) (hid : x.id = i) : (s.setCtx x).ctx? i = some x := hid ▸ Tab.find_set_self _ _ _

theorem State.updCtx_of_ctx? (h : s.ctx? i = some x) (f : Ctx → Ctx) : s.updCtx i f = s.setCtx (f x) := by
  simp only [State.updCtx, h]

/-- A context that stands BLOCKED in its slot is BLOCKED, READY or RUNNING when its state has followed what it may run (R133, R134). -/
theorem State.refresh_of_blocked (h : s.ctx? i = some x) (hid : x.id = i) (hst : x.st = .blocked) :
    ∃ st, (s.refresh i).ctx? i = some { x with st := st } ∧ (st = .blocked ∨ st = .ready ∨ st = .running) := by
  rw [State.refresh, State.updCtx_of_ctx? h]
  simp only [hst]
  split
  · exact ⟨.running, State.setCtx_ctx? _ hid, .inr (.inr rfl)⟩
  · split
    · exact ⟨.ready, State.setCtx_ctx? _ hid, .inr (.inl rfl)⟩
    · exact ⟨.blocked, by rw [if_pos trivial, State.setCtx_ctx? _ hid, ← hst], .inl rfl⟩

/-- A context that is SWAPPED_BLOCKED stays swapped, and may be found READY there (R133, R139). -/
theorem State.refresh_of_swappedBlocked (h : s.ctx? i = some x) (hid : x.id = i) (hst : x.st = .swappedBlocked) :
    ∃ st r, (s.refresh i).ctx? i = some { x with st := st, readySince := r } ∧ (st = .swappedBlocked ∨ st = .swappedReady) := by
  rw [State.refresh, State.updCtx_of_ctx? h]
  simp only [hst]
  split
  · exact ⟨.swappedReady, s.now, State.setCtx_ctx? _ hid, .inr rfl⟩
  · exact ⟨.swappedBlocked, x.readySince, by rw [State.setCtx_ctx? _ hid, ← hst], .inl rfl⟩

/-- A context takes the cluster's lowest free slot and run of Pool (R135). -/
theorem State.seat_ctx? (s : State) (c : Nat) (but : Option Nat) (st : CtxState) (hid : x.id = i) :
    (s.seat x c but st).ctx? i = some { x with cluster := c, slot := (s.freeSlot c false but).getD 0,
                                               poolBase := (s.poolFit c x.footprint but).getD 0, st := st, blockedSince := s.now, placed := true } := by
  unfold State.seat
  split
  · exact State.setCtx_ctx? _ hid
  · exact State.setCtx_ctx? s hid

end

/-! ### Clusters -/

@[simp] theorem State.setCluster_cluster (s : State) (c : Nat) (k : Cluster) : (s.setCluster c k).cluster c = k := Tab.get_set_self _ _ _ _

end Sys2Proof.Machine
end

section
/-! PROOFS. Contexts are created and ended (R136, R137, R282, R283). -/
namespace Sys2Proof.Machine

/-! ### Service commands -/

/-- A service command that stands where `o` says and is not refused ends as its action says (R258). -/
theorem State.service_of_done {s t : State} {o : Origin} {op k code : Nat} {d : BitVec 128} {v : Svc} {f : Svc → SvcOut}
    (hv : s.svc o op k = some v) (hok : v.code = 0) (hf : f v = .done code d t) : s.service o op k f = .next (t.svcEnd o v.rep code d) := by
  simp [State.service, hv, hok, hf]

theorem exec_ctxCreate {s a : State} {o : Origin} {v : Svc} {code id : Nat} (hv : s.svc o 0x0D 0 = some v) (hok : v.code = 0)
    (hc : v.st.createCtx v.fn (cmdField v.cmd 16 2) (if cmdField v.cmd 18 1 = 0xFF then none else some (cmdField v.cmd 18 1)) none
      (cmdField v.cmd 19 1) none = (code, id, a)) :
    exec (.ctxCreate o) s = .next (a.svcEnd o v.rep code (BitVec.ofNat 128 (if code = 0 then id else 0))) := by
  change execCtxCreate o s = _
  exact State.service_of_done hv hok (by simp only [hc])

/-- The state in which a context is to end: it is marked, and its transfer records are gone (R282, R565). -/
def State.withEnding (s : State) (x : Ctx) : State :=
  let u := s.setCtx { x with ending := true }
  { u with fab := { u.fab with recs := u.fab.recs.filter (fun r => r.ctx != x.id) } }

theorem State.withEnding_ctx? (s : State) (x : Ctx) : (s.withEnding x).ctx? x.id = some { x with ending := true } :=
  s.setCtx_ctx? (x := { x with ending := true }) rfl

theorem exec_ctxEnd {s : State} {o : Origin} {v : Svc} {x : Ctx} (hv : s.svc o 0x0E 16 = some v) (hok : v.code = 0) (hx : v.ctx = some x) :
    exec (.ctxEnd o) s = .next ((v.st.withEnding x).svcEnd o v.rep 0 0) := by
  change execCtxEnd o s = _
  exact State.service_of_done hv hok (by simp only [hx]; rfl)

/-! ### Creation -/

section
variable {s : State} {n c need : Nat}

/-- The context that a creation without pin makes, as yet without a slot. -/
def State.bornCtx (s : State) (n c need : Nat) : Ctx :=
  { newCtx s.newCtxId false n with footprint := c, need := need, gen := (s.fn n).gen }

/-- The state with the save area of that context charged and cleared (R137, R508). -/
def State.withSaveArea (s : State) (n c : Nat) : State :=
  let u := s.chargeUnits n 2 (saveUnits c)
  { u with mem := u.mem.clear (saveAt s.newCtxId 0) (2 ^ 24) }

theorem State.createCtx_resident {k : Nat} (hq : s.fitsQuota n 2 (saveUnits c) = true) (hr : s.tenantRes n none < s.maxRes n)
    (hk : (List.range 48).find? (fun k => s.freeFor (s.bornCtx n c need) k none) = some k) :
    s.createCtx n c none none need none =
      (0, s.newCtxId, ((s.withSaveArea n c).seat (s.bornCtx n c need) k none .blocked).refresh s.newCtxId) := by
  simp only [State.bornCtx, newCtx] at hk
  simp [State.createCtx, hq, hr, hk, State.bornCtx, newCtx, State.withSaveArea]

theorem State.createCtx_swapped (hq : s.fitsQuota n 2 (saveUnits c) = true) (hr : s.maxRes n ≤ s.tenantRes n none)
    (hn : s.swappedCount < 4096) (hs : s.tenantSwap n < s.maxSwap n) :
    s.createCtx n c none none need none = (0, s.newCtxId, ((s.withSaveArea n c).setCtx (s.bornCtx n c need)).refresh s.newCtxId) := by
  simp [State.createCtx, hq, Nat.not_lt.mpr hr, hn, hs, State.bornCtx, newCtx, State.withSaveArea]

theorem State.createCtx_refused (hq : s.fitsQuota n 2 (saveUnits c) = true) (hr : s.maxRes n ≤ s.tenantRes n none)
    (hs : s.maxSwap n ≤ s.tenantSwap n) : s.createCtx n c none none need none = (0x31, 0, s.count Reg.CLU_REFUSE_CNT 1) := by
  simp [State.createCtx, hq, Nat.not_lt.mpr hr, Nat.not_lt.mpr hs]

end

/-! ### The statement -/

/-- Settles O20: the commands end with what their actions answer; a context is created in a slot, in its save area, or refused. -/
theorem contextsMadeAndEnded : Obligations.ContextsMadeAndEnded := by
  unfold Obligations.ContextsMadeAndEnded
  refine ⟨?create, ?ending, ?made⟩
  case create => exact fun s o v a code id hok hv hc => ⟨_, exec_ctxCreate hv hok hc, rfl⟩
  case ending => exact fun s o v x hok hv hx => ⟨_, exec_ctxEnd hv hok hx, (State.svcEnd_ctx? ..).trans (v.st.withEnding_ctx? x)⟩
  case made =>
    intro s n c need hq
    refine ⟨fun k hr hk => ?_, fun hr hn hs => ?_, fun hr hs => State.createCtx_refused hq hr hs⟩
    · rw [State.createCtx_resident hq hr hk]
      obtain ⟨st, hy, hst⟩ := State.refresh_of_blocked ((s.withSaveArea n c).seat_ctx? (x := s.bornCtx n c need) k none .blocked rfl) rfl rfl
      refine ⟨rfl, rfl, _, hy, rfl, rfl, rfl, ?_⟩
      obtain rfl | rfl | rfl := hst <;> rfl
    · rw [State.createCtx_swapped hq hr hn hs]
      obtain ⟨st, r, hy, hst⟩ := State.refresh_of_swappedBlocked ((s.withSaveArea n c).setCtx_ctx? (x := s.bornCtx n c need) rfl) rfl rfl
      refine ⟨rfl, _, hy, ?_⟩
      obtain rfl | rfl := hst <;> rfl

end Sys2Proof.Machine
end

section
/-! PROOFS. Evictions and swaps of contexts (R139 to R144). -/
namespace Sys2Proof.Machine

/-! ### What the parts of a swap leave -/

section
variable {s : State} {x : Ctx} {i : Nat}

theorem State.charge_ctx? (s : State) (g k n i : Nat) : (s.charge g k n).ctx? i = s.ctx? i :=
  have : Has [.cyclic, .regs] .cyclic := Has.of rfl
  have : Has [.cyclic, .regs] .regs := Has.of rfl
  (State.charge_stays s g k n (Stays.refl [.cyclic, .regs] _)).only.ctx? (by decide) i

/-- Of what the sequencers hold a charge changes the region's budget alone (R293). -/
theorem State.charge_cluster (s : State) (g k n c : Nat) : (s.charge g k n).cluster c = s.cluster c := by
  unfold State.charge
  extract_lets
  split <;> rfl

/-- With no request waiting there is nothing to drain. -/
theorem State.drainIn_of_empty (h : s.fab.inq = []) : s.drainIn = s := by simp [State.drainIn, h]

theorem State.endIfDue_of_not_ending (h : s.ctx? i = some x) (he : x.ending = false) : s.endIfDue i = s := by
  simp [State.endIfDue, h, State.mayEnd, he]

theorem State.reloadBlock_of_none {a : Nat} (h : s.ctx? i = some x) (hs : x.savedOf a = none) : s.reloadBlock i a = s := by
  simp [State.reloadBlock, h, hs]

/-! ### The ends of a swap -/

/-- A footprint copied between the Pool and the save area, its poison with it (R143). -/
def State.moveFootprint (s : State) (src dst n : Nat) : State := { s with mem := s.mem.copy src dst n }.movePoison src dst n

/-- The blocks of a cluster's arrays that are tagged to a context are saved (R143, R787). -/
def State.saveBlocks (s : State) (i c : Nat) : State :=
  [2 * c, 2 * c + 1].foldl (fun s a => if (s.array a).tag = some i then s.saveBlock a else s) s

/-- The blocks that a context has saved return to the arrays of its cluster that no other context holds (R143, R787). -/
def State.reloadBlocks (s : State) (i c : Nat) : State :=
  [2 * c, 2 * c + 1].foldl (fun s a => if s.heldByOther a i then s else s.reloadBlock i a) s

theorem State.saveBlocks_of_untagged {c : Nat} (h0 : (s.array (2 * c)).tag ≠ some i) (h1 : (s.array (2 * c + 1)).tag ≠ some i) :
    s.saveBlocks i c = s := by
  simp only [State.saveBlocks, List.foldl_cons, List.foldl_nil, if_neg h0, if_neg h1]

theorem State.reloadBlocks_of_unsaved (c : Nat) (h : s.ctx? i = some x) (h0 : x.saved0 = none) (h1 : x.saved1 = none) :
    s.reloadBlocks i c = s := by
  have hn (a : Nat) : s.reloadBlock i a = s := State.reloadBlock_of_none h (by simp [Ctx.savedOf, h0, h1])
  simp only [State.reloadBlocks, List.foldl_cons, List.foldl_nil, hn, ite_self]

theorem State.swapOut_eq (h : s.ctx? i = some x) (hp : x.pausing = false) :
    s.swapOut i = (((s.moveFootprint (poolAt x.cluster (x.poolBase * 65536)) (saveAt i 0) (x.footprint * 65536)).saveBlocks i x.cluster).updCtx i
      (fun x => { x with st := .swappedBlocked, paused := x.paused || x.pausing, pausing := false })).refresh i := by
  simp only [State.swapOut, h, hp, Bool.false_eq_true, if_false]
  rfl

theorem State.swapIn_eq (h : s.ctx? i = some x) :
    s.swapIn i = ((((s.moveFootprint (saveAt i 0) (poolAt x.cluster (x.poolBase * 65536)) (x.footprint * 65536)).updCtx i
      (fun x => { x with st := .blocked, blockedSince := s.now })).reloadBlocks i x.cluster).count (Reg.CLU_SWAPIN_CNT x.cluster) 1).refresh i := by
  simp only [State.swapIn, h]
  rfl

/-- A swap-out that neither saves a block nor completes a pause: the context lies in its save area, its footprint with it. -/
theorem State.swapOut_leaves (h : s.ctx? i = some x) (hid : x.id = i) (hp : x.pausing = false) (h0 : (s.array (2 * x.cluster)).tag ≠ some i)
    (h1 : (s.array (2 * x.cluster + 1)).tag ≠ some i) :
    (∃ y, (s.swapOut i).ctx? i = some y ∧ (y.st = .swappedBlocked ∨ y.st = .swappedReady) ∧ y.ending = x.ending) ∧
    (s.swapOut i).mem = s.mem.copy (poolAt x.cluster (x.poolBase * 65536)) (saveAt i 0) (x.footprint * 65536) ∧
    (s.swapOut i).fab = s.fab := by
  have hm (src dst n : Nat) : (s.moveFootprint src dst n).ctx? i = some x := h
  rw [State.swapOut_eq h hp, State.saveBlocks_of_untagged (s := s.moveFootprint _ _ _) h0 h1, State.updCtx_of_ctx? (hm _ _ _)]
  obtain ⟨st, r, hy, hst⟩ := State.refresh_of_swappedBlocked (State.setCtx_ctx? (s.moveFootprint (poolAt x.cluster (x.poolBase * 65536))
    (saveAt i 0) (x.footprint * 65536)) (x := { x with st := .swappedBlocked, paused := x.paused || x.pausing, pausing := false }) hid) hid rfl
  exact ⟨⟨_, hy, hst, rfl⟩, (State.refresh_only _ _).same .mem (by decide), (State.refresh_only _ _).same .fab (by decide)⟩

/-- A swap-in that reloads no block: the context stands in its slot, its footprint in its run of Pool, and the swap-in is counted. -/
theorem State.swapIn_leaves (h : s.ctx? i = some x) (hid : x.id = i) (h0 : x.saved0 = none) (h1 : x.saved1 = none) :
    (∃ y, (s.swapIn i).ctx? i = some y ∧ (y.st = .blocked ∨ y.st = .ready ∨ y.st = .running) ∧ y.ending = x.ending) ∧
    (s.swapIn i).mem = s.mem.copy (saveAt i 0) (poolAt x.cluster (x.poolBase * 65536)) (x.footprint * 65536) ∧ (s.swapIn i).fab = s.fab ∧
    (s.swapIn i).reg (Reg.CLU_SWAPIN_CNT x.cluster) = (s.reg (Reg.CLU_SWAPIN_CNT x.cluster) + 1) % 2 ^ 32 ∧
    ∀ c, (s.swapIn i).cluster c = s.cluster c := by
  have hm (src dst n : Nat) : (s.moveFootprint src dst n).ctx? i = some x := h
  have hu (u : State) : (u.setCtx { x with st := .blocked, blockedSince := s.now }).ctx? i = some _ := State.setCtx_ctx? u hid
  rw [State.swapIn_eq h, State.updCtx_of_ctx? (hm _ _ _), State.reloadBlocks_of_unsaved _ (hu _) h0 h1]
  generalize hv : (s.moveFootprint _ _ _).setCtx _ = v
  have hvx : (v.count (Reg.CLU_SWAPIN_CNT x.cluster) 1).ctx? i = _ := hv ▸ hu _
  obtain ⟨st, hy, hst⟩ := State.refresh_of_blocked hvx hid rfl
  have hf := State.refresh_only (v.count (Reg.CLU_SWAPIN_CNT x.cluster) 1) i
  subst hv
  refine ⟨⟨_, hy, hst, rfl⟩, hf.same .mem (by decide), hf.same .fab (by decide), ?_, hf.cluster (by decide)⟩
  rw [hf.reg (by decide), State.count_reg]
  rfl

/-- A context that a swap is to bring in lies in its save area (R139). -/
theorem State.swapStands_not_resident {w : Swap} (hw : s.swapStands w = true) (hi : w.inn = some i) (h : s.ctx? i = some x) :
    x.resident = false := by
  simp only [State.swapStands, hi, h, Bool.and_eq_true, Bool.not_eq_true'] at hw
  obtain ⟨-, hres, -⟩ := hw
  exact hres

/-- A swap that waits for the first time is flagged (R142). -/
theorem State.deferSwap_of_unflagged (s : State) (c : Nat) {w : Swap} (h : w.flagged = false) :
    s.deferSwap c w = (s.setCluster c { s.cluster c with deferred := some { w with flagged := true } }).cycEvt (c / 4) 0x10 := by
  simp [State.deferSwap, h]

/-- An event of a region sets its flags (R785). -/
theorem State.cycEvt_reg (s : State) {g m : Nat} (hg : g < 12) (hm : m < 2 ^ 64) :
    (s.cycEvt g m).reg (Reg.CYC_EVT g) = s.reg (Reg.CYC_EVT g) ||| m :=
  State.event_reg _ _ _ (by simp only [Reg.CYC_EVT, Reg.HIF_QOFF_DROP]; omega) hm

theorem State.cycEvt_cluster (s : State) (g m c : Nat) : (s.cycEvt g m).cluster c = s.cluster c := by
  rw [State.cluster, State.cycEvt_sched]
  rfl

/-- A context that lies in its save area takes a free slot and run of Pool of the cluster (R143). -/
theorem State.bringIn_of_room {c : Nat} {w : Swap} (h : s.ctx? i = some x) (hr : x.resident = false) (hs : (s.freeSlot c false none).isSome = true)
    (hp : (s.poolFit c x.footprint none).isSome = true) :
    s.bringIn c i w =
      let n := (s.swapBytes { out := none, inn := some i } c).2.1
      let u := ((s.seat x c none .swapIn).charge (c / 4) 0 n).acct x.owner 9 n
      u.setCluster c { u.cluster c with swap := some { w with out := none } } := by
  simp only [State.bringIn, h, hr, Option.isNone_eq_false_iff.mpr hs, Option.isNone_eq_false_iff.mpr hp, Bool.or_false,
    Bool.false_eq_true, if_false]

theorem State.bringIn_cluster {c : Nat} {w : Swap} (h : s.ctx? i = some x) (hr : x.resident = false)
    (hs : (s.freeSlot c false none).isSome = true) (hp : (s.poolFit c x.footprint none).isSome = true) :
    (s.bringIn c i w).cluster c = { s.cluster c with swap := some { w with out := none } } := by
  have hk (n : Nat) : ((s.seat x c none .swapIn).charge (c / 4) 0 n).cluster c = s.cluster c :=
    (State.charge_cluster ..).trans ((State.seat_only ..).cluster (by decide) c)
  rw [State.bringIn_of_room h hr hs hp, State.setCluster_cluster, ← hk]
  rfl

end

/-! ### The commands -/

section
variable {s : State} {c : Nat} {w : Swap}

theorem exec_eviction {v : Ctx} {i : Nat} (hc : c < 48) (hs : (s.cluster c).swap = none) (hd : (s.cluster c).deferred = none)
    (hn : s.chooseIn c none = none) (hv : s.victim c = some v) (hi : s.chooseIn c (some v.id) = some i) :
    exec (.eviction c) s =
      .next ((s.setCluster c { s.cluster c with deferred := some { out := some v.id, inn := some i } }).count (Reg.CLU_EVICT_CNT c) 1) := by
  change execEviction c s = _
  simp [execEviction, Nat.not_le.mpr hc, hs, hd, hn, hv, hi]

/-- The state in which a cluster's move engine has taken a swap. -/
def State.takeSwap (s : State) (c : Nat) (w : Swap) : State := s.setCluster c { deferred := none, swap := some { w with byHub := false } }

section
variable (hc : c < 48) (hs : (s.cluster c).swap = none) (hd : s.swapDue c = some w) (hw : s.swapStands w = true)
include hc hs hd hw

theorem exec_swapStart_out {o : Nat} {x : Ctx} (hf : s.swapFits w c = true) (hu : s.unitIn (uMov c) = true) (hr : s.run (uMov c) = none)
    (ho : w.out = some o) (hx : s.ctx? o = some x) (hid : x.id = o) :
    exec (.swapStart c) s =
      .next (let n := ((s.takeSwap c w).swapBytes { w with byHub := false } c).1
        (((s.takeSwap c w).setCtx { x with st := .swapOut }).charge (c / 4) 1 n).acct x.owner 10 n) := by
  change execSwapStart c s = _
  have hx' (k : Cluster) : (s.setCluster c k).ctx? o = some x := hx
  have hy (u : State) : (u.setCtx { x with st := .swapOut }).ctx? o = some _ := State.setCtx_ctx? u hid
  simp [execSwapStart, State.takeSwap, Nat.not_le.mpr hc, hs, hd, hw, hf, hu, hr, ho, State.updCtx_of_ctx? (hx' _), hy]

theorem exec_swapStart_in {i : Nat} (hf : s.swapFits w c = true) (hu : s.unitIn (uMov c) = true) (hr : s.run (uMov c) = none)
    (ho : w.out = none) (hi : w.inn = some i) :
    exec (.swapStart c) s = .next ((s.takeSwap c w).bringIn c i { w with byHub := false }) := by
  change execSwapStart c s = _
  simp [execSwapStart, State.takeSwap, Nat.not_le.mpr hc, hs, hd, hw, hf, hu, hr, ho, hi]

theorem exec_swapStart_deferred (hf : s.swapFits w c = false) : exec (.swapStart c) s = .next (s.deferSwap c w) := by
  change execSwapStart c s = _
  simp [execSwapStart, Nat.not_le.mpr hc, hs, hd, hw, hf]

end

theorem exec_swapComplete_out {o : Nat} (hc : c < 48) (hs : (s.cluster c).swap = some w) (ho : w.out = some o) (hi : w.inn = none) :
    exec (.swapComplete c) s =
      .next (let u := (s.swapOut o).endIfDue o; u.setCluster c { u.cluster c with swap := none }).drainIn := by
  change execSwapComplete c s = _
  simp [execSwapComplete, Nat.not_le.mpr hc, hs, ho, hi]

theorem exec_swapComplete_in {i : Nat} (hc : c < 48) (hs : (s.cluster c).swap = some w) (ho : w.out = none) (hi : w.inn = some i) :
    exec (.swapComplete c) s =
      .next (((s.setCluster c { s.cluster c with swap := none }).swapIn i).endIfDue i).drainIn := by
  change execSwapComplete c s = _
  simp [execSwapComplete, Nat.not_le.mpr hc, hs, ho, hi]

end

/-! ### The statement -/

/-- Settles O14: each command's branch is the one that its conditions name; a swap-out leaves the context in its save area, a swap-in in its slot. -/
theorem evictionsAndSwaps : Obligations.EvictionsAndSwaps := by
  unfold Obligations.EvictionsAndSwaps
  intro s c hc
  refine ⟨?evict, ?startOut, ?startIn, ?deferred, ?completeOut, ?completeIn⟩
  case evict =>
    intro v i hs hd hn hv hi
    exact ⟨_, exec_eviction hc hs hd hn hv hi, congrArg _ (State.setCluster_cluster ..), State.count_reg ..⟩
  case startOut =>
    intro w o x hs hd hw hf hu hr ho hx hid
    refine ⟨_, exec_swapStart_out hc hs hd hw hf hu hr ho hx hid, ?_, ?_⟩
    · exact (State.charge_ctx? ..).trans (State.setCtx_ctx? _ hid)
    · exact (State.charge_cluster ..).trans (State.setCluster_cluster ..)
  case startIn =>
    intro w i x hs hd hw hf hu hr ho hi hx hid hslot hpool
    have hres : x.resident = false := State.swapStands_not_resident hw hi hx
    refine ⟨_, exec_swapStart_in hc hs hd hw hf hu hr ho hi, ?_⟩
    refine ⟨?seated, (State.bringIn_cluster (s := s.takeSwap c w) hx hres hslot hpool).trans ?_⟩
    · rw [State.bringIn_of_room (s := s.takeSwap c w) hx hres hslot hpool]
      exact ⟨_, (State.charge_ctx? ..).trans (State.seat_ctx? _ _ _ _ hid), rfl, rfl,
        Option.getD_of_ne_none (Option.isSome_iff_ne_none.mp hslot) _, Option.getD_of_ne_none (Option.isSome_iff_ne_none.mp hpool) _⟩
    · rw [State.takeSwap, State.setCluster_cluster, ho]
  case deferred =>
    intro w hs hd hw hf hfl
    refine ⟨_, exec_swapStart_deferred hc hs hd hw hf, ?_⟩
    rw [State.deferSwap_of_unflagged s c hfl]
    have hk := (State.cycEvt_cluster _ (c / 4) 0x10 c).trans (s.setCluster_cluster c { s.cluster c with deferred := some { w with flagged := true } })
    exact ⟨congrArg _ hk, (congrArg _ hk).trans hs, State.cycEvt_reg _ (by omega) (by decide)⟩
  case completeOut =>
    intro w o x hs ho hi hx hid he hp hq ⟨h0, h1⟩
    obtain ⟨⟨y, hy, hst, hye⟩, hm, hfab⟩ := State.swapOut_leaves hx hid hp h0 h1
    refine ⟨_, exec_swapComplete_out hc hs ho hi, ?_⟩
    rw [State.endIfDue_of_not_ending hy (hye.trans he), State.drainIn_of_empty (hfab ▸ hq)]
    exact ⟨congrArg _ (State.setCluster_cluster ..), ⟨y, hy, hst⟩, hm⟩
  case completeIn =>
    intro w i x hs ho hi hx hid he h0 h1 hq hxc
    obtain ⟨⟨y, hy, hst, hye⟩, hm, hfab, hreg, hcl⟩ :=
      State.swapIn_leaves (s := s.setCluster c { s.cluster c with swap := none }) hx hid h0 h1
    refine ⟨_, exec_swapComplete_in hc hs ho hi, ?_⟩
    rw [State.endIfDue_of_not_ending hy (hye.trans he), State.drainIn_of_empty (hfab ▸ hq)]
    exact ⟨congrArg _ ((hcl c).trans (State.setCluster_cluster ..)), ⟨y, hy, hst⟩, hm, hreg⟩

end Sys2Proof.Machine
end

section
/-! PROOFS. Bytes, spans and operands: what reads and stores give and what they leave (R263, R264, R278, R294, R501, R513). -/
namespace Sys2Proof.Machine

/-! ### Bytes and spans -/

section
variable (m : Mem)

theorem Mem.rdBytes_length (a n : Nat) : (m.rdBytes a n).length = n := by
  induction n generalizing a with
  | zero => rfl
  | succ n ih => rw [Mem.rdBytes, List.length_cons, ih]

theorem Mem.rdSpans_length (l : List Span) : (m.rdSpans l).length = (l.map Prod.snd).sum := by
  induction l with
  | nil => rfl
  | cons p l ih => rw [Mem.rdSpans, List.length_append, Mem.rdBytes_length, ih, List.map_cons, List.sum_cons]

theorem Mem.rd_wrBytes_of_getElem? (a : Nat) {i : Nat} {l : List Byte} {v : Byte} (h : l[i]? = some v) : (m.wrBytes a l).rd (a + i) = v := by
  obtain ⟨hi, rfl⟩ := List.getElem?_eq_some_iff.mp h
  exact Mem.rd_wrBytes_of_in m a i l hi

theorem Mem.rd_clear_of_out {a n b : Nat} (h : b < a ∨ a + n ≤ b) : (m.clear a n).rd b = m.rd b := by
  rw [Mem.rd_clear, if_neg (by omega)]

/-- A byte that no write of a run of writes hits reads as before. -/
theorem Mem.rd_foldl_wr_of_out {l : List Host.Cell} {f : Host.Cell → Nat} {b : Nat} (h : ∀ c ∈ l, b ≠ f c) :
    (l.foldl (fun m c => m.wr (f c) c.2) m).rd b = m.rd b := by
  induction l generalizing m with
  | nil => rfl
  | cons c l ih =>
    rw [List.foldl_cons, ih _ fun d hd => h d (List.mem_cons_of_mem _ hd), Mem.rd_wr, if_neg (h c List.mem_cons_self)]

theorem Mem.rd_copy_of_out (src : Nat) {dst n b : Nat} (h : b < dst ∨ dst + n ≤ b) : (m.copy src dst n).rd b = m.rd b := by
  have hits : ∀ c ∈ m.filter (fun c => decide (src ≤ c.1) && decide (c.1 < src + n)), b ≠ c.1 - src + dst := by
    intro c hc
    have hin := (List.mem_filter.mp hc).2
    simp only [Bool.and_eq_true, decide_eq_true_eq] at hin
    omega
  rw [Mem.copy, Mem.rd_foldl_wr_of_out _ hits, Mem.rd_clear_of_out m h]

theorem Mem.rd_wrSpans_of_out {sp : List Span} (l : List Byte) {b : Nat} (h : ∀ p ∈ sp, b < p.1 ∨ p.1 + p.2 ≤ b) :
    (m.wrSpans sp l).rd b = m.rd b := by
  induction sp generalizing m l with
  | nil => rfl
  | cons p sp ih =>
    have hp := h p List.mem_cons_self
    have ht : (l.take p.2).length ≤ p.2 := List.length_take_le _ _
    rw [Mem.wrSpans, ih _ _ fun q hq => h q (List.mem_cons_of_mem _ hq), Mem.rd_wrBytes_of_out _ _ _ _ (by omega)]

/-- One span as long as what is stored over it is a run of bytes. -/
theorem Mem.wrSpans_single (a : Nat) (l : List Byte) : m.wrSpans [(a, l.length)] l = m.wrBytes a l := by
  rw [Mem.wrSpans, List.take_length, Mem.wrSpans]

end

/-- The pieces of a run are as long together as the run, when there are pages enough. -/
theorem pieces_total {fuel a n : Nat} (h : n = 0 ∨ n + a % 65536 ≤ 65536 * fuel) : ((pieces fuel a n).map (fun p => p.2.2)).sum = n := by
  induction fuel generalizing a n with
  | zero => rw [pieces, List.map_nil, List.sum_nil]; omega
  | succ fuel ih =>
    rw [pieces]
    split
    · next h0 => rw [List.map_nil, List.sum_nil, h0]
    · simp only [List.map_cons, List.sum_cons]
      rw [ih (by omega)]
      omega

theorem piecesOf_total (a n : Nat) : ((piecesOf a n).map (fun p => p.2.2)).sum = n := pieces_total (.inr (by omega))

section
variable (s : State) (x : Ctx)

theorem State.placedSpans_total (a n : Nat) : ((s.placedSpans a n).map Prod.snd).sum = n := by
  rw [State.placedSpans, List.map_map]
  exact piecesOf_total a n

theorem State.refSpans_total (r n : Nat) : ((s.refSpans x r n).map Prod.snd).sum = n := by
  unfold State.refSpans
  split
  · exact Nat.add_zero n
  · exact s.placedSpans_total _ n

/-- Reads by reference are as long as their lengths together. -/
theorem State.readSp_total (l : List (Nat × Nat)) : ((s.readSp x l).map Prod.snd).sum = (l.map Prod.snd).sum := by
  induction l with
  | nil => rfl
  | cons p l ih =>
    rw [State.readSp, List.foldr_cons, List.map_append, List.sum_append, List.map_cons, List.sum_cons]
    have hp : ((if p.2 = 0 then [] else s.refSpans x p.1 p.2).map Prod.snd).sum = p.2 := by
      split
      · next h0 => rw [h0, List.map_nil, List.sum_nil]
      · exact s.refSpans_total x p.1 p.2
    exact (congrArg (· + _) hp).trans (congrArg (p.2 + ·) ih)

end

/-! ### Where a context's references lie -/

section
variable {s t : State} {x : Ctx}

theorem State.poolAddr_congr (hr : t.radioPool x.cluster = s.radioPool x.cluster) (o : Nat) : t.poolAddr x o = s.poolAddr x o := by
  rw [State.poolAddr, State.poolAddr, hr]

theorem State.placedSpans_congr (ht : t.tiers = s.tiers) (a n : Nat) : t.placedSpans a n = s.placedSpans a n := by
  simp only [State.placedSpans, State.page, ht]

theorem State.refSpans_congr (ht : t.tiers = s.tiers) (hr : t.radioPool x.cluster = s.radioPool x.cluster) (r n : Nat) :
    t.refSpans x r n = s.refSpans x r n := by
  rw [State.refSpans, State.refSpans, State.poolAddr_congr hr, State.placedSpans_congr ht]

theorem State.radioPool_congr {c : Nat} (h : t.regs.get 0 (Reg.CLU_CFG c) = s.regs.get 0 (Reg.CLU_CFG c)) : t.radioPool c = s.radioPool c := by
  rw [State.radioPool, State.regBits, h]
  rfl

end

/-! ### Charges of the region's shares -/

section
variable (s : State) (x : Ctx)

theorem State.charge_only (g k n : Nat) : Only [.cyclic, .regs] s (s.charge g k n) :=
  have : Has [.cyclic, .regs] .cyclic := Has.of rfl
  have : Has [.cyclic, .regs] .regs := Has.of rfl
  (State.charge_stays _ _ _ _ (Stays.refl _ _)).only

theorem State.chargeRef_only (r n : Nat) (store : Bool) : Only [.cyclic, .acct, .regs] s (s.chargeRef x r n store) :=
  have : Has [.cyclic, .acct, .regs] .cyclic := Has.of rfl
  have : Has [.cyclic, .acct, .regs] .acct := Has.of rfl
  have : Has [.cyclic, .acct, .regs] .regs := Has.of rfl
  (State.chargeRef_stays _ _ _ _ _ (Stays.refl _ _)).only

theorem State.chargePlaced_only (a n : Nat) (store : Bool) : Only [.cyclic, .acct, .regs] s (s.chargePlaced x a n store) :=
  have : Has [.cyclic, .acct, .regs] .cyclic := Has.of rfl
  have : Has [.cyclic, .acct, .regs] .acct := Has.of rfl
  have : Has [.cyclic, .acct, .regs] .regs := Has.of rfl
  (State.chargePlaced_stays _ _ _ _ _ (Stays.refl _ _)).only

/-- A charge counts in no cluster's partition register: for a read that holds of the region's own clusters, for the other shares of any. -/
theorem State.charge_radioPool {g k c : Nat} (n : Nat) (h : k ≠ 0 ∨ g = c / 4) : (s.charge g k n).radioPool c = s.radioPool c := by
  have hbytes : Reg.CLU_CFG c ≠ if k = 0 then Reg.MOV_RD_BYTES g else if k = 1 then Reg.MOV_WR_BYTES g else Reg.MOV_RM_BYTES g := by
    simp only [Reg.CLU_CFG, Reg.MOV_RD_BYTES, Reg.MOV_WR_BYTES, Reg.MOV_RM_BYTES]
    split
    · omega
    · split <;> omega
  have hfull : Reg.CLU_CFG c ≠ if k = 0 then Reg.MOV_RD_FULL g else if k = 1 then Reg.MOV_WR_FULL g else Reg.MOV_RM_FULL g := by
    simp only [Reg.CLU_CFG, Reg.MOV_RD_FULL, Reg.MOV_WR_FULL, Reg.MOV_RM_FULL]
    split
    · omega
    · split <;> omega
  refine State.radioPool_congr ?_
  unfold State.charge
  extract_lets
  split
  · exact (State.count_get_ne _ _ hfull).trans (State.setReg_get_ne _ _ hbytes)
  · exact State.setReg_get_ne _ _ hbytes

theorem State.translate_radioPool {g c : Nat} (p : Nat) (h : g = c / 4) : (s.translate g p).radioPool c = s.radioPool c := by
  unfold State.translate
  extract_lets
  split
  · rfl
  · split
    · rfl
    · exact State.charge_radioPool _ 64 (.inr h)

theorem State.translates_radioPool {g c : Nat} (f : Nat → Nat) (l : List Nat) (h : g = c / 4) :
    (l.foldl (fun (s : State) i => s.translate g (f i)) s).radioPool c = s.radioPool c := by
  induction l generalizing s with
  | nil => rfl
  | cons i l ih => rw [List.foldl_cons, ih, State.translate_radioPool _ _ h]

/-- An access to the placed range leaves its context's partition where it was. -/
theorem State.chargePlaced_radioPool (a n : Nat) (store : Bool) : (s.chargePlaced x a n store).radioPool x.cluster = s.radioPool x.cluster :=
  (State.charge_radioPool _ n (.inr rfl)).trans (s.translates_radioPool _ _ rfl)

theorem State.chargeRef_radioPool (r n : Nat) (store : Bool) : (s.chargeRef x r n store).radioPool x.cluster = s.radioPool x.cluster := by
  unfold State.chargeRef
  split
  · rfl
  · exact State.chargePlaced_radioPool ..

end

/-! ### Reads -/

/-- The accesses of reads by reference, charged. -/
def State.chargeReads (s : State) (x : Ctx) (l : List (Nat × Nat)) : State :=
  l.foldl (fun t p => if p.2 = 0 then t else t.chargeRef x p.1 p.2 false) s

/-- No line of memory has an error or is poisoned (R512, R513). -/
structure State.Clean (s : State) : Prop where
  weak : s.tiers.weak = []
  bad : s.tiers.bad = []
  poison : s.tiers.poison = []

/-- The parts that a read by reference may change. -/
abbrev readParts : List Part :=
  [.lists, .cyclic, .units, .fns, .ports, .acct, .radio, .front, .tiers, .fab, .rpl, .health, .start, .regs, .out]

section
variable (s : State) (x : Ctx)

theorem State.chargeReads_only (l : List (Nat × Nat)) : Only [.cyclic, .acct, .regs] s (s.chargeReads x l) := by
  induction l generalizing s with
  | nil => exact Only.refl _ _
  | cons p l ih =>
    refine Only.trans ?_ (ih _)
    dsimp only
    split
    · exact Only.refl _ _
    · exact State.chargeRef_only ..

theorem State.chargeReads_radioPool (l : List (Nat × Nat)) : (s.chargeReads x l).radioPool x.cluster = s.radioPool x.cluster := by
  induction l generalizing s with
  | nil => rfl
  | cons p l ih =>
    refine (ih _).trans ?_
    dsimp only
    split
    · rfl
    · exact State.chargeRef_radioPool ..

variable {s} in
/-- Spans of a clean memory are read without a report. -/
theorem State.readSpans_of_clean (h : s.Clean) (sp : List Span) (tenant : Nat) : s.readSpans sp tenant = (false, s) := by
  simp [State.readSpans, h.weak, h.bad, h.poison]

variable {s x} in
theorem State.fetch_of_clean (h : s.Clean) {l : List (Nat × Nat)} (hc : s.readChk x l = 0) :
    s.fetch x l = (0, s.rdSpans (s.readSp x l), s.chargeReads x l) := by
  simp [State.fetch, hc, State.readSpans_of_clean h, State.chargeReads]

variable {s x} in
theorem State.fetch_of_refused {l : List (Nat × Nat)} (h : s.readChk x l ≠ 0) : s.fetch x l = (s.readChk x l, [], s) := if_pos h

theorem State.fetch_only (l : List (Nat × Nat)) : Only readParts s (s.fetch x l).2.2 :=
  (@State.fetch_stays readParts s s x l (Stays.refl _ _) (Has.of rfl) (Has.of rfl) (Has.of rfl) (Has.of rfl) (Has.of rfl) (Has.of rfl)
    (Has.of rfl) (Has.of rfl) (Has.of rfl) (Has.of rfl) (Has.of rfl) (Has.of rfl) (Has.of rfl) (Has.of rfl) (Has.of rfl)).only

@[simp] theorem State.fetch_mem (l : List (Nat × Nat)) : (s.fetch x l).2.2.mem = s.mem := (s.fetch_only x l).same .mem (by decide)

@[simp] theorem State.fetch_mat (l : List (Nat × Nat)) : (s.fetch x l).2.2.mat = s.mat := (s.fetch_only x l).same .mat (by decide)

variable {s x} in
/-- Reads that end with no status give all the bytes asked for. -/
theorem State.fetch_length {l : List (Nat × Nat)} (h : (s.fetch x l).1 = 0) : (s.fetch x l).2.1.length = (l.map Prod.snd).sum := by
  by_cases hc : s.readChk x l = 0
  · rw [State.fetch, if_neg (not_not_intro hc)]
    exact (Mem.rdSpans_length _ _).trans (s.readSp_total x l)
  · rw [State.fetch_of_refused hc] at h
    exact absurd h hc

end

/-! ### Stores -/

section
variable {s : State} {x y : Ctx} {c : Cmd}

/-- Without a migration a store over spans is the spans' own bytes (R501). -/
theorem State.wrSpans_mem (h : s.tiers.migs = []) (sp : List Span) (b : List Byte) : (s.wrSpans sp b).mem = s.mem.wrSpans sp b := by
  simp only [State.wrSpans, h, List.foldl_nil]

theorem State.outCtx_of_own (h : cDctx c = 0xFFFF) : s.outCtx x c = some x := if_pos h

theorem State.outCtx_of_other (h : cDctx c ≠ 0xFFFF) : s.outCtx x c = s.ctx? (cDctx c) := if_neg h

theorem State.outStore_of_ended (h : s.outCtx x c = none) (o : Nat) (b : List Byte) : s.outStore x c o b = s := by
  simp only [State.outStore, h]

/-- A store to a destination in Pool is a run of bytes of the context that owns the output (R261). -/
theorem State.outStore_mem (hm : s.tiers.migs = []) (hy : s.outCtx x c = some y) (o : Nat) (b : List Byte) :
    (s.outStore x c o b).mem = s.mem.wrBytes (s.poolAddr y o) b := by
  simp only [State.outStore, hy]
  split
  · rw [State.wrSpans_mem hm, Mem.wrSpans_single]
  · have hf := s.charge_only (x.cluster / 4) 1 b.length
    have ht : (s.charge (x.cluster / 4) 1 b.length).tiers = s.tiers := hf.same .tiers (by decide)
    have hp : (s.charge (x.cluster / 4) 1 b.length).mem = s.mem := hf.same .mem (by decide)
    rw [State.wrSpans_mem (ht ▸ hm), Mem.wrSpans_single, hp, State.poolAddr_congr (s.charge_radioPool _ (.inl Nat.one_ne_zero))]

/-- A store by reference to the placed range goes over the spans under it (R263). -/
theorem State.dstStore_mem_placed (hm : s.tiers.migs = []) {r : Nat} (hr : r / 2 ^ 60 ≠ 1) (b : List Byte) :
    (s.dstStore x c r b).mem = s.mem.wrSpans (s.placedSpans (r % 2 ^ 48) b.length) b := by
  have hf := s.chargePlaced_only x (r % 2 ^ 48) b.length true
  have ht : (s.chargePlaced x (r % 2 ^ 48) b.length true).tiers = s.tiers := hf.same .tiers (by decide)
  have hp : (s.chargePlaced x (r % 2 ^ 48) b.length true).mem = s.mem := hf.same .mem (by decide)
  rw [State.dstStore, if_neg hr, State.wrSpans_mem (ht ▸ hm), hp]

/-- A store by reference to SPACE 1 is a run of bytes of the context that owns the output (R261, R263). -/
theorem State.dstStore_mem_pool (hm : s.tiers.migs = []) {r : Nat} (hr : r / 2 ^ 60 = 1) (hy : s.outCtx x c = some y) (b : List Byte) :
    (s.dstStore x c r b).mem = s.mem.wrBytes (s.poolAddr y (r % 2 ^ 32)) b := by
  rw [State.dstStore, if_pos hr, State.outStore_mem hm hy]

end

/-! ### The command at the front of a unit, and its end -/

section
variable {s : State} {u op code : Nat} {r : Running} {c : Cmd} {x : Ctx}

@[simp] theorem State.setUnit_unit (s : State) (u : Nat) (k : UnitSt) : (s.setUnit u k).unit u = k := Tab.get_set_self _ _ _ _

@[simp] theorem State.setRun_run (s : State) (u : Nat) (r : Option Running) : (s.setRun u r).run u = r := by
  rw [State.run, State.setRun, State.setUnit_unit]

@[simp] theorem State.setArray_array (s : State) (a : Nat) (i : Ibex) : (s.setArray a i).array a = i := Tab.get_set_self _ _ _ _

theorem State.array_congr {t : State} (h : t.mat = s.mat) (a : Nat) : t.array a = s.array a := by rw [State.array, h]; rfl

theorem State.run_of_cur (h : s.cur u op = some (r, c, x)) : s.run u = some r := by
  revert h
  unfold State.cur
  split
  · exact nofun
  · next hr =>
    split
    · split
      · rintro ⟨⟩; exact hr
      · exact nofun
    · exact nofun

theorem State.run_of_curBusy (h : s.curBusy u op = some (r, c, x)) : s.run u = some r := by
  revert h
  unfold State.curBusy
  split
  · exact nofun
  · next hr =>
    split
    · split
      · rintro ⟨⟩; exact hr
      · exact nofun
    · exact nofun

theorem State.failList_of_run (h : s.run u = some r) :
    s.failList u code = s.setRun u (some { r with ending := some code, stage := .ready, out := [] }) := by
  simp only [State.failList, h]

theorem State.failList_run (h : s.run u = some r) : (s.failList u code).run u = some { r with ending := some code, stage := .ready, out := [] } := by
  rw [State.failList_of_run h, State.setRun_run]

@[simp] theorem State.failList_mem (s : State) (u code : Nat) : (s.failList u code).mem = s.mem := by
  unfold State.failList
  split <;> rfl

@[simp] theorem State.failList_mat (s : State) (u code : Nat) : (s.failList u code).mat = s.mat := by
  unfold State.failList
  split <;> rfl

theorem State.finishCmd_only (s : State) (u : Nat) (outs : List (Nat × Nat × Handle)) : Only served s (s.finishCmd u outs) :=
  (@State.finishCmd_stays served s s u outs (Stays.refl _ _) (Has.of rfl) (Has.of rfl) (Has.of rfl) (Has.of rfl) (Has.of rfl) (Has.of rfl)
    (Has.of rfl) (Has.of rfl)).only

@[simp] theorem State.finishCmd_mem (s : State) (u : Nat) (outs : List (Nat × Nat × Handle)) : (s.finishCmd u outs).mem = s.mem :=
  (s.finishCmd_only u outs).same .mem (by decide)

@[simp] theorem State.finishCmd_mat (s : State) (u : Nat) (outs : List (Nat × Nat × Handle)) : (s.finishCmd u outs).mat = s.mat :=
  (s.finishCmd_only u outs).same .mat (by decide)

@[simp] theorem State.work_mem (s : State) (x : Ctx) (j n : Nat) : (s.work x j n).mem = s.mem := rfl

@[simp] theorem State.work_mat (s : State) (x : Ctx) (j n : Nat) : (s.work x j n).mat = s.mat := rfl

end

end Sys2Proof.Machine
end

section
/-! PROOFS. Activation blocks of the Ibex arrays: LOAD, SPILL, RESTORE and the weight fence (R166, R174 to R178, R213, R266, R290, R787). -/
namespace Sys2Proof.Machine

/-! ### What LOAD and RESTORE put into an array -/

/-- The reads of a LOAD: `N` columns of 256 bytes, and with KBF8 their exponents, 64 KiB behind (R174, R213). -/
def loadReads (r : Running) (c : Cmd) : List (Nat × Nat) :=
  [(poolRef (primary r c 16), 256 * cmdField c 20 2),
   (poolRef (primary r c 16 + 0x10000), if bit c (8 * 22 + 1) then cmdField c 20 2 else 0)]

/-- The cells of an array cleared, then `n` columns and the exponents that follow them in `b` put in (R174, R213). -/
def Mem.putBlock (m : Mem) (a n : Nat) (b : List Byte) : Mem :=
  ((m.clear (cellAt a 0 0) 0x10100).wrBytes (cellAt a 0 0) (b.take (256 * n))).wrBytes (cellExpAt a 0) (b.drop (256 * n))

/-- An array holds the block that a LOAD has read, its tag that of the list's context (R174, R175, R787). -/
def State.loadBlock (s : State) (a : Nat) (c : Cmd) (x : Ctx) (b : List Byte) : State :=
  let n := cmdField c 20 2
  let kbf := bit c (8 * 22 + 1)
  ((({ s with mem := s.mem.putBlock a n b }.setArray a
    { s.array a with fmt := { n := n, isSigned := kbf || bit c (8 * 22), kbf := kbf }, tag := if x.radio then none else some x.id,
                     loaded := some n }).count64 (Reg.IBX_BUSY_CYC a) n).work x 0 n)

/-- An array holds the cells that a RESTORE has read, its format as it was (R178, log entry 13). -/
def State.restoreCells (s : State) (a : Nat) (x : Ctx) (b : List Byte) : State :=
  (({ s with mem := s.mem.wrBytes (cellAt a 0 0) b }.setArray a
    { s.array a with tag := if x.radio then none else some x.id, loaded := none }).count64 (Reg.IBX_BUSY_CYC a) 256).work x 0 256

/-- The cells of an array stored to the 64 KiB destination of a SPILL (R178). -/
def State.spillCells (s : State) (a : Nat) (c : Cmd) (x : Ctx) : State :=
  let t := s.outStore x c (cmdField c 16 4) (s.mem.rdBytes (cellAt a 0 0) 65536)
  ((t.setArray a { t.array a with loaded := none }).count64 (Reg.IBX_BUSY_CYC a) 256).work x 0 256

section
variable (s : State) (a : Nat) (c : Cmd) (x : Ctx) (b : List Byte)

@[simp] theorem State.loadBlock_mem : (s.loadBlock a c x b).mem = s.mem.putBlock a (cmdField c 20 2) b := rfl

@[simp] theorem State.loadBlock_array : (s.loadBlock a c x b).array a =
    { s.array a with fmt := { n := cmdField c 20 2, isSigned := bit c (8 * 22 + 1) || bit c (8 * 22), kbf := bit c (8 * 22 + 1) },
                     tag := if x.radio then none else some x.id, loaded := some (cmdField c 20 2) } := State.setArray_array ..

@[simp] theorem State.restoreCells_mem : (s.restoreCells a x b).mem = s.mem.wrBytes (cellAt a 0 0) b := rfl

@[simp] theorem State.restoreCells_array : (s.restoreCells a x b).array a =
    { s.array a with tag := if x.radio then none else some x.id, loaded := none } := State.setArray_array ..

@[simp] theorem State.spillCells_mem :
    (s.spillCells a c x).mem = (s.outStore x c (cmdField c 16 4) (s.mem.rdBytes (cellAt a 0 0) 65536)).mem := rfl

theorem State.spillCells_loaded : ((s.spillCells a c x).array a).loaded = none := congrArg Ibex.loaded (State.setArray_array ..)

@[simp] theorem State.finishCmd_array (u : Nat) (outs : List (Nat × Nat × Handle)) : (s.finishCmd u outs).array a = s.array a :=
  State.array_congr (s.finishCmd_mat u outs) a

end

/-! ### The commands -/

section
variable {s : State} {a : Nat} {r : Running} {c : Cmd} {x : Ctx} (ha : a < 96)
include ha

section
variable (hcur : s.cur (uIbex a) 0x20 = some (r, c, x))
include hcur

theorem exec_load_misaligned (hal : primary r c 16 % 256 ≠ 0) : exec (.load a) s = .next (s.failList (uIbex a) 0x42) := by
  change execLoad a s = _
  simp only [execLoad, if_neg (Nat.not_le.mpr ha), hcur, if_pos hal]

theorem exec_load_refused (hal : primary r c 16 % 256 = 0) (hf : (s.fetch x (loadReads r c)).1 ≠ 0) :
    exec (.load a) s = .next ((s.fetch x (loadReads r c)).2.2.failList (uIbex a) (s.fetch x (loadReads r c)).1) := by
  change execLoad a s = _
  unfold loadReads at *
  simp only [execLoad, if_neg (Nat.not_le.mpr ha), hcur, if_neg (not_not_intro hal), if_pos hf]

theorem exec_load_done (hal : primary r c 16 % 256 = 0) (hf : (s.fetch x (loadReads r c)).1 = 0) :
    exec (.load a) s = .next (((s.fetch x (loadReads r c)).2.2.loadBlock a c x (s.fetch x (loadReads r c)).2.1).finishCmd (uIbex a)
      (outHandle x c r.list.id (primary r c 16) (256 * cmdField c 20 2) false false)) := by
  change execLoad a s = _
  unfold loadReads at *
  simp only [execLoad, if_neg (Nat.not_le.mpr ha), hcur, if_neg (not_not_intro hal), if_neg (not_not_intro hf)]
  rfl

end

section
variable (hcur : s.cur (uIbex a) 0x22 = some (r, c, x))
include hcur

theorem exec_spill_refused (hc : s.outChk x c (cmdField c 16 4) 65536 ≠ 0) : exec (.spill a) s = .next (s.failList (uIbex a) 0x63) := by
  change execSpill a s = _
  simp only [execSpill, if_neg (Nat.not_le.mpr ha), hcur, if_pos hc]

theorem exec_spill_held (hc : s.outChk x c (cmdField c 16 4) 65536 = 0) (hh : s.outHeld x c = true) : exec (.spill a) s = .next s := by
  change execSpill a s = _
  simp only [execSpill, if_neg (Nat.not_le.mpr ha), hcur, if_neg (not_not_intro hc), if_pos hh]

theorem exec_spill_done (hc : s.outChk x c (cmdField c 16 4) 65536 = 0) (hh : s.outHeld x c = false) :
    exec (.spill a) s =
      .next ((s.spillCells a c x).finishCmd (uIbex a) (outHandle x c r.list.id (cmdField c 16 4) 65536 false false)) := by
  change execSpill a s = _
  simp only [execSpill, if_neg (Nat.not_le.mpr ha), hcur, if_neg (not_not_intro hc), if_neg (Bool.not_eq_true _ ▸ hh)]
  rfl

end

section
variable (hcur : s.cur (uIbex a) 0x23 = some (r, c, x))
include hcur

theorem exec_restore_misaligned (hal : primary r c 16 % 256 ≠ 0) : exec (.restore a) s = .next (s.failList (uIbex a) 0x42) := by
  change execRestore a s = _
  simp only [execRestore, if_neg (Nat.not_le.mpr ha), hcur, if_pos hal]

theorem exec_restore_refused (hal : primary r c 16 % 256 = 0) (hf : (s.fetch x [(poolRef (primary r c 16), 65536)]).1 ≠ 0) :
    exec (.restore a) s = .next ((s.fetch x [(poolRef (primary r c 16), 65536)]).2.2.failList (uIbex a)
      (s.fetch x [(poolRef (primary r c 16), 65536)]).1) := by
  change execRestore a s = _
  simp only [execRestore, if_neg (Nat.not_le.mpr ha), hcur, if_neg (not_not_intro hal), if_pos hf]

theorem exec_restore_done (hal : primary r c 16 % 256 = 0) (hf : (s.fetch x [(poolRef (primary r c 16), 65536)]).1 = 0) :
    exec (.restore a) s =
      .next (((s.fetch x [(poolRef (primary r c 16), 65536)]).2.2.restoreCells a x (s.fetch x [(poolRef (primary r c 16), 65536)]).2.1).finishCmd
        (uIbex a) (outHandle x c r.list.id (primary r c 16) 65536 false false)) := by
  change execRestore a s = _
  simp only [execRestore, if_neg (Nat.not_le.mpr ha), hcur, if_neg (not_not_intro hal), if_neg (not_not_intro hf)]
  rfl

end

/-- The feed FIFO fills while a fenced stream waits, and a command that waited on the fence may then begin (R166, R290). -/
theorem exec_weightFenceMet {rest : List Cmd} (hr : s.run (uIbex a) = some r) (hb : r.buf = c :: rest) (hop : cOp c = 0x21)
    (hf : cFence c = true) (he : r.ending = none) (hi : r.idx ≠ 0) (hs : (s.array a).stream = none) :
    exec (.weightFenceMet a) s = .next (if r.stage = .onFence
      then (s.setArray a { s.array a with fifo := min (streamLen c) 16384 }).setRun (uIbex a) (some { r with stage := .ready })
      else s.setArray a { s.array a with fifo := min (streamLen c) 16384 }) := by
  change execWeightFenceMet a s = _
  simp [execWeightFenceMet, Nat.not_le.mpr ha, hr, hb, hop, hf, he, hi, hs]

end

/-! ### The statement -/

/-- Settles O21: reads of a clean memory give its spans, stores are runs of bytes, and each block command's branch is the one that its
conditions name. -/
theorem blocksLoadAndSpill : Obligations.BlocksLoadAndSpill := by
  unfold Obligations.BlocksLoadAndSpill
  refine ⟨⟨?reads, ?own, ?other, ?bytes⟩, fun s a r c x ha => ⟨?load, ?misaligned, ?spill, ?restore, ?fence⟩⟩
  case reads =>
    intro s x l hw hb hp
    refine ⟨fun hc => ?_, State.fetch_of_refused⟩
    have hf := State.fetch_of_clean ⟨hw, hb, hp⟩ hc
    exact ⟨congrArg (·.1) hf, congrArg (·.2.1) hf, State.fetch_mem ..⟩
  case own => exact fun s x c o b hm hd => State.outStore_mem hm (State.outCtx_of_own hd) o b
  case other =>
    intro s x y c o b hm hd
    exact ⟨fun hx => State.outStore_of_ended ((State.outCtx_of_other hd).trans hx) o b,
      fun hy => State.outStore_mem hm ((State.outCtx_of_other hd).trans hy) o b⟩
  case bytes => exact fun m a b l => ⟨m.rd_wrBytes_of_out a b l, fun i v => m.rd_wrBytes_of_getElem? a⟩
  case load =>
    rintro n kbf b u hcur rfl rfl hal hf
    change s.fetch x (loadReads r c) = _ at hf
    refine ⟨_, exec_load_done ha hcur hal (congrArg (·.1) hf), ?_⟩
    rw [hf]
    dsimp only
    rw [State.finishCmd_mem, State.finishCmd_array, State.loadBlock_array]
    exact ⟨rfl, rfl, rfl, rfl⟩
  case misaligned =>
    exact fun hcur hal => ⟨_, exec_load_misaligned ha hcur hal, State.failList_run (State.run_of_cur hcur), State.failList_mem ..⟩
  case spill =>
    intro hcur hc hh
    refine ⟨_, exec_spill_done ha hcur hc hh, State.finishCmd_mem .., ?_⟩
    rw [State.finishCmd_array, State.spillCells_loaded]
  case restore =>
    intro b u hcur hal hf
    refine ⟨_, exec_restore_done ha hcur hal (congrArg (·.1) hf), ?_⟩
    have hkept : u.array a = s.array a := State.array_congr ((congrArg (·.2.2.mat) hf).symm.trans (State.fetch_mat ..)) a
    rw [hf]
    dsimp only
    rw [State.finishCmd_mem, State.finishCmd_array, State.restoreCells_array, hkept]
    exact ⟨rfl, rfl, rfl⟩
  case fence =>
    intro rest hr hb hop hfence he hi hs
    refine ⟨_, exec_weightFenceMet ha hr hb hop hfence he hi hs, ?_⟩
    split
    · exact ⟨congrArg Ibex.fifo (State.setArray_array ..), fun _ => State.setRun_run ..⟩
    · next hst => exact ⟨congrArg Ibex.fifo (State.setArray_array ..), fun h => absurd h hst⟩

end Sys2Proof.Machine
end

section
/-! PROOFS. The bytes that stores leave: runs of bytes, block commands, COPY and FILL (R174, R178, R261, R263, R266, R278). -/
namespace Sys2Proof.Machine

/-- A command that answers a next state names parts that the package has (R24). -/
theorem wellFormed_of_next {i : Instr} {s t : State} (h : exec i s = .next t) : i.wellFormed = true := by
  cases hw : i.wellFormed with
  | true => rfl
  | false =>
    rw [(exec_completes i s).fault hw] at h
    cases h

/-! ### Blocks -/

theorem cellExpAt_eq (a : Nat) : cellExpAt a 0 = cellAt a 0 0 + 0x10000 := by
  unfold cellExpAt cellAt
  omega

/-- A block of at most 256 columns and their exponents stays within the array's cells. -/
theorem Mem.rd_putBlock_of_out (m : Mem) {a n y : Nat} {b : List Byte} (hn : n ≤ 256) (hb : b.length ≤ 257 * n)
    (hy : y < cellAt a 0 0 ∨ cellAt a 0 0 + 0x10100 ≤ y) : (m.putBlock a n b).rd y = m.rd y := by
  have hcells : (b.take (256 * n)).length ≤ 256 * n := List.length_take_le _ _
  have hexps : (b.drop (256 * n)).length = b.length - 256 * n := List.length_drop
  have hat := cellExpAt_eq a
  rw [Mem.putBlock, Mem.rd_wrBytes_of_out _ _ _ _ (by omega), Mem.rd_wrBytes_of_out _ _ _ _ (by omega), Mem.rd_clear_of_out _ hy]

theorem loadReads_total (r : Running) (c : Cmd) : ((loadReads r c).map Prod.snd).sum ≤ 257 * cmdField c 20 2 := by
  simp only [loadReads, List.map_cons, List.map_nil, List.sum_cons, List.sum_nil]
  split <;> omega

section
variable {s t : State} {a y : Nat} {r : Running} {c : Cmd} {x : Ctx}

theorem exec_load_frame (h : exec (.load a) s = .next t) (hcur : s.cur (uIbex a) 0x20 = some (r, c, x)) (hn : cmdField c 20 2 ≤ 256)
    (hy : y < cellAt a 0 0 ∨ cellAt a 0 0 + 0x10100 ≤ y) : t.mem.rd y = s.mem.rd y := by
  have ha : a < 96 := of_decide_eq_true (wellFormed_of_next h)
  by_cases hal : primary r c 16 % 256 = 0
  · by_cases hf : (s.fetch x (loadReads r c)).1 = 0
    · have hlen := Nat.le_trans (Nat.le_of_eq (State.fetch_length hf)) (loadReads_total r c)
      obtain rfl := Host.Outcome.next.inj ((exec_load_done ha hcur hal hf).symm.trans h)
      rw [State.finishCmd_mem, State.loadBlock_mem, State.fetch_mem, Mem.rd_putBlock_of_out _ hn hlen hy]
    · obtain rfl := Host.Outcome.next.inj ((exec_load_refused ha hcur hal hf).symm.trans h)
      rw [State.failList_mem, State.fetch_mem]
  · obtain rfl := Host.Outcome.next.inj ((exec_load_misaligned ha hcur hal).symm.trans h)
    rw [State.failList_mem]

/-- A unit whose turn for RESTORE has not come is left as it is. -/
theorem exec_restore_idle (ha : a < 96) (hcur : s.cur (uIbex a) 0x23 = none) : exec (.restore a) s = .next s := by
  change execRestore a s = _
  simp only [execRestore, if_neg (Nat.not_le.mpr ha), hcur]

theorem exec_restore_frame (h : exec (.restore a) s = .next t) (hy : y < cellAt a 0 0 ∨ cellAt a 0 0 + 0x10000 ≤ y) :
    t.mem.rd y = s.mem.rd y := by
  have ha : a < 96 := of_decide_eq_true (wellFormed_of_next h)
  cases hcur : s.cur (uIbex a) 0x23 with
  | none =>
    obtain rfl := Host.Outcome.next.inj ((exec_restore_idle ha hcur).symm.trans h)
    rfl
  | some k =>
    obtain ⟨r, c, x⟩ := k
    by_cases hal : primary r c 16 % 256 = 0
    · by_cases hf : (s.fetch x [(poolRef (primary r c 16), 65536)]).1 = 0
      · have hlen : (s.fetch x [(poolRef (primary r c 16), 65536)]).2.1.length = 65536 := State.fetch_length hf
        obtain rfl := Host.Outcome.next.inj ((exec_restore_done ha hcur hal hf).symm.trans h)
        rw [State.finishCmd_mem, State.restoreCells_mem, State.fetch_mem, Mem.rd_wrBytes_of_out _ _ _ _ (by omega)]
      · obtain rfl := Host.Outcome.next.inj ((exec_restore_refused ha hcur hal hf).symm.trans h)
        rw [State.failList_mem, State.fetch_mem]
    · obtain rfl := Host.Outcome.next.inj ((exec_restore_misaligned ha hcur hal).symm.trans h)
      rw [State.failList_mem]

theorem exec_spill_frame (h : exec (.spill a) s = .next t) (hcur : s.cur (uIbex a) 0x22 = some (r, c, x)) (hd : cDctx c = 0xFFFF)
    (hm : s.tiers.migs = []) (hy : y < s.poolAddr x (cmdField c 16 4) ∨ s.poolAddr x (cmdField c 16 4) + 65536 ≤ y) :
    t.mem.rd y = s.mem.rd y := by
  have ha : a < 96 := of_decide_eq_true (wellFormed_of_next h)
  by_cases hc : s.outChk x c (cmdField c 16 4) 65536 = 0
  · cases hh : s.outHeld x c with
    | true =>
      obtain rfl := Host.Outcome.next.inj ((exec_spill_held ha hcur hc hh).symm.trans h)
      rfl
    | false =>
      have hlen := s.mem.rdBytes_length (cellAt a 0 0) 65536
      obtain rfl := Host.Outcome.next.inj ((exec_spill_done ha hcur hc hh).symm.trans h)
      rw [State.finishCmd_mem, State.spillCells_mem, State.outStore_mem hm (State.outCtx_of_own hd),
        Mem.rd_wrBytes_of_out _ _ _ _ (by omega)]
  · obtain rfl := Host.Outcome.next.inj ((exec_spill_refused ha hcur hc).symm.trans h)
    rw [State.failList_mem]

end

/-! ### Destinations of moves -/

/-- Of a package's memory `m` keeps all but the `n` bytes of a destination by reference: in SPACE 1 those of the context's own Pool, else the
spans of the placed range (R263). -/
def State.OnlyDst (s : State) (x : Ctx) (c : Cmd) (dst n : Nat) (m : Mem) : Prop :=
  ∀ y,
    (dst / 2 ^ 60 = 1 → cDctx c = 0xFFFF → y < s.poolAddr x (dst % 2 ^ 32) ∨ s.poolAddr x (dst % 2 ^ 32) + n ≤ y → m.rd y = s.mem.rd y) ∧
    (dst / 2 ^ 60 ≠ 1 → (∀ p ∈ s.placedSpans (dst % 2 ^ 48) n, y < p.1 ∨ p.1 + p.2 ≤ y) → m.rd y = s.mem.rd y)

section
variable {s t : State} {cl : Nat} {r : Running} {c : Cmd} {x : Ctx} {dst n : Nat}

theorem State.OnlyDst.of_mem {m : Mem} (h : m = s.mem) : s.OnlyDst x c dst n m := by
  subst h
  exact fun y => ⟨fun _ _ _ => rfl, fun _ _ => rfl⟩

/-- Where the memory, the pages and the context's partition are the same, a destination is. -/
theorem State.OnlyDst.congr {m : Mem} (h : t.OnlyDst x c dst n m) (hmem : t.mem = s.mem) (ht : t.tiers = s.tiers)
    (hr : t.radioPool x.cluster = s.radioPool x.cluster) : s.OnlyDst x c dst n m := by
  simpa only [State.OnlyDst, hmem, State.poolAddr_congr hr, State.placedSpans_congr ht] using h

theorem State.dstStore_onlyDst (hm : s.tiers.migs = []) {b : List Byte} (hb : b.length = n) :
    s.OnlyDst x c dst n (s.dstStore x c dst b).mem := by
  subst hb
  refine fun y => ⟨fun hp hd hy => ?_, fun hp hy => ?_⟩
  · rw [State.dstStore_mem_pool hm hp (State.outCtx_of_own hd), Mem.rd_wrBytes_of_out _ _ _ _ hy]
  · rw [State.dstStore_mem_placed hm hp, Mem.rd_wrSpans_of_out _ _ hy]

theorem State.movePut_mem (s : State) (cl : Nat) (r : Running) (x : Ctx) (c : Cmd) (dst cycles : Nat) (ahead : DWord) (b : List Byte) :
    (s.movePut cl r x c dst cycles ahead b).mem = (s.dstStore x c dst b).mem := State.finishCmd_mem ..

/-! ### COPY and FILL -/

/-- A FILL stores its length at its destination, or nothing. -/
theorem exec_fill_mem (h : exec (.fill cl) s = .next t) (hcur : s.cur (uMov cl) 0xA2 = some (r, c, x)) :
    t.mem = s.mem ∨ ∃ b, b.length = cmdField c 32 4 ∧ t.mem = (s.dstStore x c (cmdField c 16 8) b).mem := by
  have hcl : cl < 48 := of_decide_eq_true (wellFormed_of_next h)
  change execFill cl s = _ at h
  simp only [execFill, if_neg (Nat.not_le.mpr hcl), hcur] at h
  split at h
  · cases h
    exact .inl (State.failList_mem ..)
  · split at h
    · cases h
      exact .inl rfl
    · cases h
      exact .inr ⟨_, by rw [List.length_map, List.length_range], State.movePut_mem ..⟩

/-- A COPY of a tenant's list that stores does so in the state in which its source has been read. -/
theorem exec_copy_mem (h : exec (.copy cl) s = .next t) (hcur : s.cur (uMov cl) 0xA0 = some (r, c, x)) (hown : r.list.own = false) :
    let f := s.fetch x [(primaryRef r c 16, primaryLen r c 32 4)]
    t.mem = s.mem ∨ (s.readChk x [(primaryRef r c 16, primaryLen r c 32 4)] = 0 ∧ f.1 = 0 ∧
      t.mem = (f.2.2.dstStore x c (cmdField c 24 8) f.2.1).mem) := by
  have hcl : cl < 48 := of_decide_eq_true (wellFormed_of_next h)
  change execCopy cl s = _ at h
  simp only [execCopy, if_neg (Nat.not_le.mpr hcl), hcur, hown, Bool.false_eq_true, false_and, if_false] at h
  intro f
  split at h
  · cases h
    exact .inl (State.finishCmd_mem ..)
  split at h
  · cases h
    exact .inl (State.failList_mem ..)
  next hread =>
  split at h
  · cases h
    exact .inl (State.failList_mem ..)
  split at h
  · cases h
    exact .inl rfl
  split at h
  · cases h
    exact .inl ((State.failList_mem ..).trans (State.fetch_mem ..))
  next hf =>
  cases h
  refine .inr ⟨Decidable.not_not.mp hread, Decidable.not_not.mp hf, (State.movePut_mem ..).trans ?_⟩
  split <;> rfl

theorem exec_fill_onlyDst (h : exec (.fill cl) s = .next t) (hcur : s.cur (uMov cl) 0xA2 = some (r, c, x)) (hm : s.tiers.migs = []) :
    s.OnlyDst x c (cmdField c 16 8) (cmdField c 32 4) t.mem := by
  obtain hkept | ⟨b, hb, hstored⟩ := exec_fill_mem h hcur
  · exact .of_mem hkept
  · rw [hstored]
    exact State.dstStore_onlyDst hm hb

/-- The reads of a clean memory move neither pages nor the context's partition, so a COPY stores where its state says. -/
theorem exec_copy_onlyDst (h : exec (.copy cl) s = .next t) (hcur : s.cur (uMov cl) 0xA0 = some (r, c, x)) (hm : s.tiers.migs = [])
    (hown : r.list.own = false) (hclean : s.Clean) : s.OnlyDst x c (cmdField c 24 8) (primaryLen r c 32 4) t.mem := by
  obtain hkept | ⟨hread, hf, hstored⟩ := exec_copy_mem h hcur hown
  · exact .of_mem hkept
  · have hlen := State.fetch_length hf
    have htiers := (s.chargeReads_only x [(primaryRef r c 16, primaryLen r c 32 4)]).same .tiers (by decide)
    have hmem := (s.chargeReads_only x [(primaryRef r c 16, primaryLen r c 32 4)]).same .mem (by decide)
    rw [State.fetch_of_clean hclean hread] at hstored hlen
    rw [hstored]
    exact (State.dstStore_onlyDst (htiers ▸ hm) hlen).congr hmem htiers (State.chargeReads_radioPool ..)

end

/-! ### The statement -/

/-- Settles O7: a run of bytes, a cleared range, a copy and spans hit only the bytes they name, and each command stores by one of them. -/
theorem memoryFrames : Obligations.MemoryFrames := by
  unfold Obligations.MemoryFrames
  refine ⟨?bytes, ?load, ?restore, ?spill, ?fill, ?copy⟩
  case bytes =>
    exact fun m a b n l sp => ⟨m.rd_wrBytes_of_out a b l, fun i v => m.rd_wrBytes_of_getElem? a, m.rd_clear_of_out,
      fun hlo hhi => (m.rd_clear a n b).trans (if_pos ⟨hlo, hhi⟩), fun d => m.rd_copy_of_out a, m.rd_wrSpans_of_out l⟩
  case load => exact fun s t a y r c x => exec_load_frame
  case restore => exact fun s t a y => exec_restore_frame
  case spill => exact fun s t a y r c x => exec_spill_frame
  case fill => exact fun s t cl y r c x h hcur hm => exec_fill_onlyDst h hcur hm y
  case copy => exact fun s t cl y r c x h hcur hm hown hw hb hp => exec_copy_onlyDst h hcur hm hown ⟨hw, hb, hp⟩ y

end Sys2Proof.Machine
end

section
/-! PROOFS. Weight streams, their output rows and the checksum column (R158 to R172, R187 to R193, R261, R267 to R270, R276). -/
namespace Sys2Proof.Machine

/-! ### A stream begins -/

/-- The state in which a stream's ramp and, for its first member, its bytes have been counted (R195, R196, R294). -/
def State.feedCharged (s : State) (a : Nat) (first : Bool) (c : Cmd) (x : Ctx) : State :=
  let ramps := decide (64 < ctlN c) && decide (s.idleOf a = 256)
  let t := if !ramps then s else s.count (if (s.array a).loaded.isSome then Reg.IBX_RAMP_HID a else Reg.IBX_RAMP_CNT a) 1
  if first then t.chargeRef x (streamRef c) (streamLen c) false else t

/-- A stream is in progress on an array and the unit's command is busy (R166). -/
def State.feedStarted (s : State) (a : Nat) (r : Running) (c : Cmd) (x : Ctx) : State :=
  (s.setArray a { s.array a with act := 2, loaded := none, planeAt := some s.now,
                                 stream := some { cmd := c, addin := primary r c 32, total := s.rowsOf x c } }).setRun (uIbex a)
    (some { r with stage := .busy })

/-- The rows of a stream are counted from its bytes alone: where memory, pages and the context's partition agree, the count does. -/
theorem State.rowsOf_congr {s t : State} {x : Ctx} (hmem : t.mem = s.mem) (ht : t.tiers = s.tiers)
    (hr : t.radioPool x.cluster = s.radioPool x.cluster) (c : Cmd) : t.rowsOf x c = s.rowsOf x c := by
  simp only [State.rowsOf, State.streamRd, State.rdSpans, hmem, State.refSpans_congr ht hr]

section
variable (s : State) (a : Nat) (first : Bool) (r : Running) (c : Cmd) (x : Ctx)

theorem State.count_only (b n : Nat) : Only [.regs] s (s.count b n) :=
  have : Has [.regs] .regs := Has.of rfl
  (State.count_stays _ _ _ (Stays.refl _ _)).only

theorem State.feedCharged_only : Only [.cyclic, .acct, .regs] s (s.feedCharged a first c x) := by
  unfold State.feedCharged
  extract_lets ramps t
  have ht : Only [.cyclic, .acct, .regs] s t := by
    unfold t
    split
    · exact Only.refl _ _
    · exact (State.count_only ..).mono (by simp)
  split
  · exact ht.trans (State.chargeRef_only ..)
  · exact ht

/-- The counters of ramps are no cluster's partition register. -/
theorem State.feedCharged_radioPool : (s.feedCharged a first c x).radioPool x.cluster = s.radioPool x.cluster := by
  have hne : Reg.CLU_CFG x.cluster ≠ if (s.array a).loaded.isSome then Reg.IBX_RAMP_HID a else Reg.IBX_RAMP_CNT a := by
    split <;> simp only [Reg.CLU_CFG, Reg.IBX_RAMP_HID, Reg.IBX_RAMP_CNT] <;> omega
  unfold State.feedCharged
  extract_lets ramps t
  have ht : t.radioPool x.cluster = s.radioPool x.cluster := by
    unfold t
    split
    · rfl
    · exact State.radioPool_congr (State.count_get_ne _ _ hne)
  split
  · exact (State.chargeRef_radioPool ..).trans ht
  · exact ht

theorem State.feedCharged_rowsOf : (s.feedCharged a first c x).rowsOf x c = s.rowsOf x c :=
  have hf := s.feedCharged_only a first c x
  State.rowsOf_congr (hf.same .mem (by decide)) (hf.same .tiers (by decide)) (s.feedCharged_radioPool a first c x) c

theorem State.feedCharged_now : (s.feedCharged a first c x).now = s.now :=
  congrArg TimeUnit.tc ((s.feedCharged_only a first c x).same .time (by decide))

theorem State.feedCharged_array : (s.feedCharged a first c x).array a = s.array a :=
  State.array_congr ((s.feedCharged_only a first c x).same .mat (by decide)) a

@[simp] theorem State.feedStarted_run : (s.feedStarted a r c x).run (uIbex a) = some { r with stage := .busy } := State.setRun_run ..

@[simp] theorem State.feedStarted_array : (s.feedStarted a r c x).array a =
    { s.array a with act := 2, loaded := none, planeAt := some s.now,
                     stream := some { cmd := c, addin := primary r c 32, total := s.rowsOf x c } } := State.setArray_array ..

variable {s c x r} in
theorem State.beginStream_of_accepted (h : s.streamChk r x c = 0) :
    s.beginStream a first r c x = (s.feedCharged a first c x).feedStarted a r c x := by
  unfold State.beginStream State.feedStarted
  rw [State.feedCharged_array]
  simp only [h, ne_eq, not_true_eq_false, if_false]
  rfl

variable {s c x r} in
theorem State.beginStream_of_refused (h : s.streamChk r x c ≠ 0) : s.beginStream a first r c x = s.failList (uIbex a) (s.streamChk r x c) :=
  if_pos h

end

section
variable {s : State} {a b : Nat} {r : Running} {c : Cmd} {x : Ctx}

/-- A stream without members starts on its own array (R168). -/
theorem exec_stream_alone (ha : a < 96) (hcur : s.cur (uIbex a) 0x21 = some (r, c, x)) (hm : ctlMcast c = 0) :
    exec (.stream a) s = .next (s.beginStream a true r c x) := by
  change execStream a s = _
  simp [execStream, Nat.not_le.mpr ha, hcur, members, hm, mcastAgree]

/-- A multicast stream waits for the last of its members (R168, R269). -/
theorem exec_stream_waits (ha : a < 96) (hcur : s.cur (uIbex a) 0x21 = some (r, c, x)) (hma : a ∈ members a c) (hmb : b ∈ members a c)
    (hb : s.cur (uIbex b) 0x21 = none) : exec (.stream a) s = .next s := by
  have hin : (!(members a c).contains a) = false := by simpa using hma
  have hwait : ((members a c).map (fun b => (b, s.cur (uIbex b) 0x21))).any (fun p => p.2.isNone) = true := by
    rw [List.any_map, List.any_eq_true]
    exact ⟨b, hmb, by simp only [Function.comp, hb, Option.isNone_none]⟩
  change execStream a s = _
  simp only [execStream, if_neg (Nat.not_le.mpr ha), hcur, hin, Bool.false_eq_true, if_false, hwait, if_true]

end

/-! ### Freezes -/

/-- An array is frozen for a cycle, which counts as wait (R167, R169). -/
def State.freeze (s : State) (b : Nat) : State :=
  let t := (s.setArray b { s.array b with frozen := true }).count (Reg.IBX_FREEZE_CYC b) 1
  match t.curBusy (uIbex b) 0x21 with
  | some (_, _, x) => t.work x 6 1
  | none => t

theorem State.freeze_mat (s : State) (b : Nat) : (s.freeze b).mat = (s.setArray b { s.array b with frozen := true }).mat := by
  unfold State.freeze
  extract_lets
  split <;> rfl

theorem State.freeze_frozen (s : State) {b j : Nat} (h : j = b ∨ (s.array j).frozen = true) : ((s.freeze b).array j).frozen = true := by
  rw [State.array_congr (s.freeze_mat b)]
  by_cases hj : j = b
  · rw [hj, State.setArray_array]
  · have hkept : (s.setArray b { s.array b with frozen := true }).array j = s.array j := Tab.get_set_ne _ _ _ hj
    rw [hkept]
    exact h.resolve_left hj

theorem State.freezes_frozen (s : State) {l : List Nat} {j : Nat} (h : j ∈ l ∨ (s.array j).frozen = true) :
    ((l.foldl State.freeze s).array j).frozen = true := by
  induction l generalizing s with
  | nil => exact h.resolve_left List.not_mem_nil
  | cons b l ih =>
    refine ih _ ?_
    by_cases hj : j ∈ l
    · exact .inl hj
    · exact .inr (s.freeze_frozen (h.imp_left fun hm => (List.mem_cons.mp hm).resolve_right hj))

theorem exec_ibxFreeze {s : State} {a : Nat} (ha : a < 96) : exec (.ibxFreeze a) s = .next ((s.streamMates a).foldl State.freeze s) := by
  change execIbxFreeze a s = _
  exact if_neg (Nat.not_le.mpr ha)

/-! ### Output rows -/

/-- The next row of an array's stream may leave: nothing holds the array, and the stream has not ended (R261, R276, R288). -/
structure State.RowDue (s : State) (a : Nat) (r : Running) (c : Cmd) (x : Ctx) (st : Stream) : Prop where
  busy : s.curBusy (uIbex a) 0x21 = some (r, c, x)
  stream : (s.array a).stream = some st
  released : r.out = []
  reachable : s.outHeld x c = false
  room : ctlOfmt c = 4 → (s.array a).rows.length < 8
  more : st.left ≠ 0 ∨ st.ofs ≠ streamLen c ∨ st.row = 0

/-- The reads of a row's add-in and scale (R180, R223). -/
def rowOperands (st : Stream) (c : Cmd) : List (Nat × Nat) :=
  [(poolRef (st.addin + 1536 * st.row), if ctlAdd c then 6 * ctlN c else 0), (poolRef (cmdField c 36 4 + 2 * st.row), if ctlQ c then 2 else 0)]

/-- The row of a stream that memory holds at its offset: with KIND 2 the side word goes before the planes (R159, R162). -/
def State.rowRead (s : State) (x : Ctx) (c : Cmd) (st : Stream) : WRow :=
  let b := s.streamRd x c st.ofs (rowBytes st.kind st.p)
  { kind := st.kind, p := st.p, side := if st.kind = 2 then byteField b 0 8 else 0, planes := if st.kind = 2 then b.drop 8 else b }

section
variable {s u : State} {a : Nat} {r : Running} {c : Cmd} {x : Ctx} {st st' : Stream}

theorem State.RowDue.free (h : s.RowDue a r c x st) :
    (r.out ≠ [] || s.outHeld x c || (ctlOfmt c == 4 && decide (8 ≤ (s.array a).rows.length)) ||
      (st.left == 0 && st.ofs == streamLen c && decide (0 < st.row))) = false := by
  obtain ⟨-, -, hout, hheld, hroom, hmore⟩ := h
  have hfull : (ctlOfmt c == 4 && decide (8 ≤ (s.array a).rows.length)) = false := by simpa using hroom
  have hended : (st.left == 0 && st.ofs == streamLen c && decide (0 < st.row)) = false := by
    simp only [Bool.and_eq_false_iff, beq_eq_false_iff_ne, decide_eq_false_iff_not, Nat.not_lt, Nat.le_zero, or_assoc]
    exact hmore
  simp [hout, hheld, hfull, hended]

/-- A group whose header is not accepted, or not whole, stops the stream (R160, log entry 14). -/
theorem exec_ibxOutputRow_unopened (ha : a < 96) (h : s.RowDue a r c x st) (hopen : s.openGroup x st = none) :
    exec (.ibxOutputRow a) s = .next (s.stopStream a 0x41) := by
  change execIbxOutputRow a s = _
  simp only [execIbxOutputRow, if_neg (Nat.not_le.mpr ha), h.busy, h.stream, h.free, Bool.false_eq_true, if_false, hopen]

theorem exec_ibxOutputRow_stores (ha : a < 96) (h : s.RowDue a r c x st) (hopen : s.openGroup x st = some st')
    (hfit : st'.ofs + rowBytes st'.kind st'.p ≤ streamLen c)
    (hread : s.readSpans (s.readSp x [(streamRef c + st.ofs, st'.ofs - st.ofs + rowBytes st'.kind st'.p)]) x.asOwner = (false, u))
    (hside : st'.kind = 2 → sideOk st'.p (u.rowRead x c st').side = true) (hf : (u.fetch x (rowOperands st c)).1 = 0) :
    exec (.ibxOutputRow a) s =
      .next (((u.fetch x (rowOperands st c)).2.2.storeRow a x st' (u.rowRead x c st')).rowDone a r x st' (u.rowRead x c st')) := by
  have hshift : ¬(st'.kind = 2 ∧ (!sideOk st'.p (u.rowRead x c st').side) = true) := fun ⟨hk, hn⟩ => by simp [hside hk] at hn
  change execIbxOutputRow a s = _
  unfold State.rowRead rowOperands at *
  simp only [execIbxOutputRow, if_neg (Nat.not_le.mpr ha), h.busy, h.stream, h.free, Bool.false_eq_true, if_false, hopen,
    if_neg (Nat.not_lt.mpr hfit), hread, if_neg hshift, if_neg (not_not_intro hf)]

end

section
variable (s : State) (a code : Nat) (r : Running) (x : Ctx) (st : Stream) (w : WRow)

theorem State.stopStream_stream : ((s.stopStream a code).array a).stream = none := by
  rw [State.stopStream, State.array_congr (State.failList_mat ..), State.setArray_array]

variable {s a r} in
theorem State.stopStream_run (h : s.run (uIbex a) = some r) :
    (s.stopStream a code).run (uIbex a) = some { r with ending := some code, stage := .ready, out := [] } := State.failList_run h

/-- The parts that the end of a row, or of a row's check, changes. -/
abbrev rowParts : List Part := served ++ [.acct, .mat]

@[simp] theorem State.rowDone_mem : (s.rowDone a r x st w).mem = s.mem :=
  (@State.rowDone_stays rowParts s s a r x st w (Stays.refl _ _) (Has.of rfl) (Has.of rfl) (Has.of rfl) (Has.of rfl) (Has.of rfl) (Has.of rfl)
    (Has.of rfl) (Has.of rfl) (Has.of rfl) (Has.of rfl)).only.same .mem (by decide)

/-- A row that has left awaits its comparison behind those that left before (R187). -/
theorem State.rowDone_unchecked : ∃ f : FedRow, ((s.rowDone a r x st w).array a).unchecked = (s.array a).unchecked ++ [f] ∧
    f.o = st.row ∧ f.p = w.p ∧ f.kind = w.kind := by
  unfold State.rowDone
  extract_lets c u i st' last ends fed next done t1 t2 t3 h
  have harray {t : State} (ht : t.mat = t1.mat) : (t.array a).unchecked = (s.array a).unchecked ++ [fed] := by
    rw [State.array_congr ht, State.setArray_array]
  have h3 : t3.mat = t1.mat := by
    unfold t3
    split <;> rfl
  refine ⟨fed, harray ?_, rfl, rfl, rfl⟩
  split
  · exact h3
  · split
    · exact (State.finishCmd_mat ..).trans h3
    · split
      · exact h3
      · exact h3

end

/-! ### Checksums -/

/-- The oldest row that awaits its comparison is taken from those of an array (R187). -/
def State.takeUnchecked (s : State) (a : Nat) (rest : List FedRow) : State := s.setArray a { s.array a with unchecked := rest }

section
variable {s : State} {a : Nat} {f : FedRow} {rest : List FedRow}

theorem exec_checksumCompare_equal (ha : a < 96) (h : (s.array a).unchecked = f :: rest) :
    exec (.checksumCompare a 0) s = .next ((s.takeUnchecked a rest).checkPassed a f) := by
  change execChecksumCompare a 0 s = _
  simp only [execChecksumCompare, if_neg (Nat.not_le.mpr ha), h, if_true]
  rfl

/-- A mismatch of a row without STOP is logged, and the stream goes on (R188). -/
theorem exec_checksumCompare_logged (ha : a < 96) (h : (s.array a).unchecked = f :: rest) {d : Int} (hd : d ≠ 0) (hs : f.stop = false) :
    exec (.checksumCompare a d) s = .next ((s.takeUnchecked a rest).csumLog a f d) := by
  change execChecksumCompare a d s = _
  simp only [execChecksumCompare, if_neg (Nat.not_le.mpr ha), h, if_neg hd, hs, Bool.false_and, Bool.false_eq_true, if_false]
  rfl

end

section
variable (s : State) (a g : Nat) (f : FedRow) (d : Int) (e : LogEntry)

@[simp] theorem State.checkPassed_mem : (s.checkPassed a f).mem = s.mem :=
  (@State.checkPassed_stays rowParts s s a f (Stays.refl _ _) (Has.of rfl) (Has.of rfl) (Has.of rfl) (Has.of rfl) (Has.of rfl) (Has.of rfl)
    (Has.of rfl) (Has.of rfl) (Has.of rfl)).only.same .mem (by decide)

/-- A check that passes releases a run or ends the command; the rows that still await theirs are kept (R189). -/
theorem State.checkPassed_unchecked : ((s.checkPassed a f).array a).unchecked = (s.array a).unchecked := by
  unfold State.checkPassed
  split
  · split
    · rfl
    · extract_lets
      split
      · rw [State.finishCmd_array, State.setArray_array]
      · rw [State.array_congr (State.setRun_mat ..), State.setArray_array]
  · rfl

/-- An entry stands at the head of its region's ring (R191). -/
theorem State.csumPush_mat : (s.csumPush g e).mat =
    { s.mat with csLog := s.mat.csLog.set (512 * g + s.reg (Reg.IBX_CS_HEAD g)) e } := by
  unfold State.csumPush
  dsimp only
  split <;> rfl

@[simp] theorem State.deduct_mat (u n : Nat) : (s.deduct u n).mat = s.mat :=
  (@State.deduct_stays (allBut [.mat]) s s u n (Stays.refl _ _) (Has.of rfl) (Has.of rfl) (Has.of rfl) (Has.of rfl) (Has.of rfl) (Has.of rfl)
    (Has.of rfl) (Has.of rfl) (Has.of rfl) (Has.of rfl) (Has.of rfl) (Has.of rfl)).only.same .mat (by decide)

@[simp] theorem State.healthLog_mat (kind unit ctx node : Nat) (detail : DWord) : (s.healthLog kind unit ctx node detail).mat = s.mat :=
  (@State.healthLog_stays (allBut [.mat]) s s kind unit ctx node detail (Stays.refl _ _) (Has.of rfl) (Has.of rfl)
    (Has.of rfl)).only.same .mat (by decide)

/-- Of the arrays a mismatch changes the one's last bad row, and of the rings its region's head (R190 to R192). -/
theorem State.csumLog_mat : (s.csumLog a f d).mat =
    { s.mat with
      csLog := s.mat.csLog.set (512 * (a / 8) + s.reg (Reg.IBX_CS_HEAD (a / 8)))
        (s.csumEntry a f d ((s.array a).lastBad == some (f.list, f.ctx, f.o)))
      arrays := s.mat.arrays.set a { s.array a with lastBad := some (f.list, f.ctx, f.o + 1) } } := by
  unfold State.csumLog
  simp only [State.healthLog_mat, State.deduct_mat, apply_ite State.mat, State.raise_mat, ite_self, State.setArray, State.array,
    State.count_mat, State.csumPush_mat]

/-- Entries of a region's ring are acknowledged, at most those held (R191). -/
def State.csumAck (s : State) (g n : Nat) : State :=
  let k := min (n % 2 ^ 10) (s.reg (Reg.IBX_CS_COUNT g))
  let t := s.setReg (Reg.IBX_CS_TAIL g) ((s.reg (Reg.IBX_CS_TAIL g) + k) % 512)
  t.setReg (Reg.IBX_CS_COUNT g) (t.reg (Reg.IBX_CS_COUNT g) - k)

theorem csCount_ne_csTail (g : Nat) : Reg.IBX_CS_COUNT g ≠ Reg.IBX_CS_TAIL g := by
  simp only [Reg.IBX_CS_COUNT, Reg.IBX_CS_TAIL]
  omega

theorem State.csumAck_tail (n : Nat) : (s.csumAck g n).reg (Reg.IBX_CS_TAIL g) =
    (s.reg (Reg.IBX_CS_TAIL g) + min (n % 2 ^ 10) (s.reg (Reg.IBX_CS_COUNT g))) % 512 := by
  have hlt := Nat.mod_lt (s.reg (Reg.IBX_CS_TAIL g) + min (n % 2 ^ 10) (s.reg (Reg.IBX_CS_COUNT g))) (show 512 > 0 by decide)
  rw [State.csumAck, State.setReg_reg_ne _ _ (csCount_ne_csTail g).symm, State.setReg_reg, Nat.mod_eq_of_lt (by omega)]

theorem State.csumAck_count (n : Nat) : (s.csumAck g n).reg (Reg.IBX_CS_COUNT g) =
    s.reg (Reg.IBX_CS_COUNT g) - min (n % 2 ^ 10) (s.reg (Reg.IBX_CS_COUNT g)) := by
  have hlt := s.reg_lt (Reg.IBX_CS_COUNT g)
  rw [State.csumAck, State.setReg_reg, State.setReg_reg_ne _ _ (csCount_ne_csTail g), Nat.mod_eq_of_lt (by omega)]

end

/-- A ring's registers are none of those that logging an input counts in (R641). -/
theorem csRegs_not_logged {g : Nat} (hg : g < 12) : Reg.IBX_CS_TAIL g ∉ logRegs ∧ Reg.IBX_CS_COUNT g ∉ logRegs := by
  simp only [logRegs, List.mem_cons, List.not_mem_nil, or_false, not_or, Reg.IBX_CS_TAIL, Reg.IBX_CS_COUNT, Reg.RPL_DROP_CNT,
    Reg.RPL_SKIP_CNT, Reg.RPL_EVT, Reg.HIF_QOFF_DROP]
  omega

theorem exec_ibxCsAck {s : State} {g : Nat} (hg : g < 12) (n : Nat) (hr : s.replayed = false) :
    exec (.ibxCsAck g n) s =
      .next ((s.logIn 5 0x04 pf0 (BitVec.ofNat 64 (Reg.IBX_CS_ACK g + 2 * 2 ^ 48)) (leBytes 4 n)).csumAck g n) := by
  change execIbxCsAck g n s = _
  rw [execIbxCsAck, if_neg (Nat.not_le.mpr hg), State.bar2_eq _ _ _ _ _ hr]
  rfl

/-! ### The statement -/

/-- Settles O22: each command's branch is the one that its conditions name; charges move nothing that a stream's rows are read by, and what
follows a row or an entry leaves memory, rows and rings as they stand. -/
theorem streamsAndChecksums : Obligations.StreamsAndChecksums := by
  unfold Obligations.StreamsAndChecksums
  refine ⟨fun s a r c x ha => ⟨?starts, ?refused, ?waits, ?freeze, ?row, ?unopened⟩, fun s a f rest ha hu => ⟨?equal, ?differs⟩, ?ack⟩
  case starts =>
    intro hcur hm hc
    refine ⟨_, (exec_stream_alone ha hcur hm).trans (congrArg _ (State.beginStream_of_accepted a true hc)), State.feedStarted_run .., ?_⟩
    rw [State.feedStarted_array, State.feedCharged_rowsOf, State.feedCharged_now]
    exact ⟨rfl, rfl, rfl⟩
  case refused =>
    exact fun hcur hm hc => ⟨_, (exec_stream_alone ha hcur hm).trans (congrArg _ (State.beginStream_of_refused a true hc)),
      State.failList_run (State.run_of_cur hcur)⟩
  case waits => exact fun b hcur hma hmb hb => ⟨s, exec_stream_waits ha hcur hma hmb hb, rfl⟩
  case freeze => exact ⟨_, exec_ibxFreeze ha, fun b hb => s.freezes_frozen (.inl hb)⟩
  case row =>
    rintro st st' n u v b w hbusy hstream hout hheld hroom hmore hopen rfl hfit hread rfl rfl hside hf rfl
    refine ⟨_, exec_ibxOutputRow_stores ha ⟨hbusy, hstream, hout, hheld, hroom, hmore⟩ hopen hfit hread hside hf, State.rowDone_mem .., ?_⟩
    exact State.rowDone_unchecked ..
  case unopened =>
    intro st hbusy hstream hout hheld hroom hmore hopen
    exact ⟨_, exec_ibxOutputRow_unopened ha ⟨hbusy, hstream, hout, hheld, hroom, hmore⟩ hopen, State.stopStream_stream ..,
      State.stopStream_run _ (State.run_of_curBusy hbusy)⟩
  case equal =>
    refine ⟨_, exec_checksumCompare_equal ha hu, ?_, State.checkPassed_mem ..⟩
    rw [State.checkPassed_unchecked, State.takeUnchecked, State.setArray_array]
  case differs =>
    intro d hd hs
    refine ⟨_, exec_checksumCompare_logged ha hu hd hs, ?_⟩
    have hmat := (s.takeUnchecked a rest).csumLog_mat a f d
    have harray : (s.takeUnchecked a rest).array a = { s.array a with unchecked := rest } := State.setArray_array ..
    have hbad : ((s.takeUnchecked a rest).csumLog a f d).array a =
        { s.array a with unchecked := rest, lastBad := some (f.list, f.ctx, f.o + 1) } := by
      rw [State.array, hmat, Tab.get_set_self, harray]
    refine ⟨congrArg Ibex.unchecked hbad, congrArg Ibex.lastBad hbad, ?_⟩
    rw [hmat, harray]
    exact Tab.find_set_self ..
  case ack =>
    intro s g n hg hr
    obtain ⟨htail, hcount⟩ := csRegs_not_logged hg
    refine ⟨_, exec_ibxCsAck hg n hr, ?_, ?_⟩
    · rw [State.csumAck_tail, State.logIn_reg_ne _ _ _ _ _ _ htail, State.logIn_reg_ne _ _ _ _ _ _ hcount]
    · rw [State.csumAck_count, State.logIn_reg_ne _ _ _ _ _ _ hcount]

end Sys2Proof.Machine
end

section
/-! PROOFS. Exact partials: elements, and what TO_EXACT, EXACT_SUM and FROM_EXACT store (R241 to R245, R280, R281). -/
namespace Sys2Proof.Machine

/-! ### TO_EXACT -/

/-- An element is the partial at its exponent above F, when that lies within 0 to 48 (R242). -/
theorem toExactElem_eq_some_iff (a : Int) (q : Nat) (p f z : Int) :
    toExactElem a q p f = some z ↔ 0 ≤ p - f ∧ p - f ≤ 48 ∧ z = a * q * (2 ^ (p - f).toNat : Nat) := by
  unfold toExactElem
  split
  · next h => rw [Option.some.injEq, eq_comm (b := z), and_iff_right h.1, and_iff_right h.2]
  · next h => exact iff_of_false nofun fun ⟨hlo, hhi, _⟩ => h ⟨hlo, hhi⟩

/-- Bytes of a TO_EXACT's partials: rows lie 1536 bytes apart (R280). -/
def toExactRawLen (c : Cmd) : Nat := 1536 * (cmdField c 40 2 - 1) + 6 * cmdField c 42 2

/-- Bytes of its row scales, when it has them. -/
def toExactScaleLen (c : Cmd) : Nat := if (cmdField c 47 1).testBit 0 then 2 * cmdField c 40 2 else 0

/-- Bytes of its row exponents, when it has them. -/
def toExactExpLen (c : Cmd) : Nat := if (cmdField c 47 1).testBit 1 then cmdField c 40 2 else 0

/-- The reads of a TO_EXACT: partials, row scales, row and column exponents (R280). -/
def toExactReads (r : Running) (c : Cmd) : List (Nat × Nat) :=
  [(poolRef (primary r c 16), toExactRawLen c), (poolRef (cmdField c 20 4), toExactScaleLen c), (poolRef (cmdField c 24 4), toExactExpLen c),
    (poolRef (cmdField c 28 4), if (cmdField c 47 1).testBit 2 then 256 else 0)]

/-- Row and column of each element of a TO_EXACT, row after row. -/
def toExactCells (c : Cmd) : List (Nat × Nat) :=
  (List.range (cmdField c 40 2)).foldr (fun o l => (List.range (cmdField c 42 2)).map (fun j => (o, j)) ++ l) []

/-- The elements that a TO_EXACT makes of the bytes of its reads; none where one falls outside its range (R242). -/
def toExactElems (c : Cmd) (b : List Byte) : List (Option Int) :=
  let qs := b.drop (toExactRawLen c)
  let es := qs.drop (toExactScaleLen c)
  let xs := es.drop (toExactExpLen c)
  (toExactCells c).map fun p =>
    toExactElem (signed 48 (byteField b (1536 * p.1 + 6 * p.2) 6)) (if (cmdField c 47 1).testBit 0 then byteField qs (2 * p.1) 2 else 0x8000)
      ((if (cmdField c 47 1).testBit 1 then (byteField es p.1 1 : Int) - 127 else 0) +
        (if (cmdField c 47 1).testBit 2 then (byteField xs p.2 1 : Int) - 127 else 0) + signed 8 (cmdField c 46 1) - 15)
      (signed 16 (cmdField c 44 2))

section
variable {s u : State} {cl : Nat} {r : Running} {c : Cmd} {x : Ctx} {b : List Byte} (hcl : cl < 48)
include hcl

/-- A TO_EXACT that may read and store does either all or nothing, by its elements' ranges (R242). -/
theorem exec_toExact_read (hcur : s.cur (uMov cl) 0xA3 = some (r, c, x)) (hread : s.readChk x (toExactReads r c) = 0)
    (hdst : s.dstChk x c (cmdField c 32 8) (32 + 16 * (cmdField c 40 2 * cmdField c 42 2)) = 0)
    (hheld : s.dstHeld x c (cmdField c 32 8) = false) (hf : s.fetch x (toExactReads r c) = (0, b, u)) :
    exec (.toExact cl) s = .next (if (toExactElems c b).any (fun z => z.isNone) then u.failList (uMov cl) 0x50
      else u.movePut cl r x c (cmdField c 32 8) (ceilDiv (cmdField c 40 2 * cmdField c 42 2) 8) 0
        (exactBytes (signed 16 (cmdField c 44 2)) 1 ((toExactElems c b).filterMap id))) := by
  change execToExact cl s = _
  unfold toExactReads toExactRawLen toExactScaleLen toExactExpLen at hread hf
  simp only [execToExact, if_neg (Nat.not_le.mpr hcl), hcur, hread, hdst, hheld, hf, ne_eq, not_true_eq_false, if_false, Bool.false_eq_true]
  exact (apply_ite Host.Outcome.next ..).symm

/-! ### EXACT_SUM -/

/-- The context in which an EXACT_SUM reads its destination: in SPACE 1 the one that owns the output (R281). -/
def State.sumCtx (s : State) (x : Ctx) (c : Cmd) : Ctx := if cmdField c 16 8 / 2 ^ 60 = 1 then (s.outCtx x c).getD x else x

theorem exec_exactSum_done {u₁ u₂ v₁ v₂ : State} {b₁ b₂ d₁ d₂ : List Byte} {f : Int} {e p₁ p₂ : Nat}
    (hcur : s.cur (uMov cl) 0xA4 = some (r, c, x)) (hf₁ : s.fetch (s.sumCtx x c) [(cmdField c 16 8, 32)] = (0, b₁, u₁))
    (hf₂ : u₁.fetch x [(primaryRef r c 24, 32)] = (0, b₂, u₂)) (hh₁ : exactHeader b₁ = some (f, e, p₁)) (hh₂ : exactHeader b₂ = some (f, e, p₂))
    (hparts : p₁ + p₂ ≤ 65536) (hdst : u₂.dstChk x c (cmdField c 16 8) (32 + 16 * e) = 0) (hheld : u₂.dstHeld x c (cmdField c 16 8) = false)
    (hd₁ : u₂.fetch (s.sumCtx x c) [(cmdField c 16 8 + 32, 16 * e)] = (0, d₁, v₁))
    (hd₂ : v₁.fetch x [(primaryRef r c 24 + 32, 16 * e)] = (0, d₂, v₂)) :
    exec (.exactSum cl) s = .next (v₂.movePut cl r x c (cmdField c 16 8) (ceilDiv e 8) 0
      (exactBytes f (p₁ + p₂) (((exactElems d₁ e).zip (exactElems d₂ e)).map fun p => p.1 + p.2))) := by
  change execExactSum cl s = _
  unfold State.sumCtx at hf₁ hd₁
  simp only [execExactSum, if_neg (Nat.not_le.mpr hcl), hcur, hf₁, hf₂, hh₁, hh₂, if_neg (Nat.not_lt.mpr hparts), hdst, hheld, hd₁, hd₂, ne_eq,
    not_true_eq_false, or_self, if_false, Bool.false_eq_true]

end

/-! ### FROM_EXACT -/

/-- Bytes of an element in a FROM_EXACT's output format. -/
def fromExactSize (ofmt : Nat) : Nat := match ofmt with | 0 | 1 => 1 | 4 => 4 | _ => 2

/-- The values z × 2^F of `e` elements, each with its rounding (R245). -/
def fromExactVals (c : Cmd) (f : Int) (d : List Byte) (e : Nat) : List (Rnd × Val) :=
  ((List.range e).zip (exactElems d e)).map fun q =>
    ((if bit c (8 * 33) then Rnd.stoch (mixU (BitVec.ofNat 64 (cmdField c 40 8)) (cmdField c 36 4 * 2 ^ 32 + q.1)) else .conv), Val.dyad q.2 f)

/-- The KBF8 rows of a FROM_EXACT: each an exponent and mantissas. -/
def fromExactRows (c : Cmd) (e : Nat) (vs : List (Rnd × Val)) : List (Nat × List Byte) := (chunks (cmdField c 48 2) e vs).map kbfRow

/-- The bytes that a FROM_EXACT stores at its destination: INT8, KBF8 mantissas, FP16, BF16 or FP32. -/
def fromExactBytes (c : Cmd) (ofmt e : Nat) (vs : List (Rnd × Val)) : List Byte :=
  match ofmt with
  | 0 => vs.map fun k => toInt8 k.1 (bit c (8 * 33 + 1)) k.2
  | 1 => (fromExactRows c e vs).foldr (fun k l => k.2 ++ l) []
  | 2 => vs.foldr (fun k l => leBytes 2 (fmt16.round k.1 k.2) ++ l) []
  | 3 => vs.foldr (fun k l => leBytes 2 (fmtB16.round k.1 k.2) ++ l) []
  | _ => vs.foldr (fun k l => leBytes 4 (fmt32.round k.1 k.2) ++ l) []

/-- The command by whose DCTX side words go: a destination in SPACE 0 leaves them in the own context (log entry 17). -/
def sideCmd (c : Cmd) : Cmd := if cmdField c 24 8 / 2 ^ 60 = 1 then c else putBits c 48 16 0xFFFF

/-- The side words of KBF8 rows are stored; another format has none (R281). -/
def State.storeSide (s : State) (x : Ctx) (c : Cmd) (ofmt e : Nat) (vs : List (Rnd × Val)) : State :=
  if ofmt = 1 then s.outStore x (sideCmd c) (cmdField c 52 4) ((fromExactRows c e vs).foldr (fun k l => leBytes 8 k.1 ++ l) []) else s

section
variable {s u v : State} {cl : Nat} {r : Running} {c : Cmd} {x : Ctx} {b d : List Byte} {f : Int} {e p ofmt : Nat}

/-- A FROM_EXACT that may read and store: side words first, then the rounded elements (R245). -/
theorem exec_fromExact_done (hcl : cl < 48) (hcur : s.cur (uMov cl) 0xA5 = some (r, c, x))
    (hf : s.fetch x [(primaryRef r c 16, 32)] = (0, b, u)) (hh : exactHeader b = some (f, e, p))
    (hread : u.readChk x [(primaryRef r c 16 + 32, 16 * e)] = 0) (hheld : u.dstHeld x c (cmdField c 24 8) = false)
    (hd : u.fetch x [(primaryRef r c 16 + 32, 16 * e)] = (0, d, v))
    (ho : cmdField c 32 1 = ofmt) (hdst : u.dstChk x c (cmdField c 24 8) (fromExactSize ofmt * e) = 0)
    (hside : ofmt = 1 → u.outChk x (sideCmd c) (cmdField c 52 4) (8 * ceilDiv e (cmdField c 48 2)) = 0) :
    exec (.fromExact cl) s = .next ((v.storeSide x c ofmt e (fromExactVals c f d e)).movePut cl r x c (cmdField c 24 8) (ceilDiv e 8) 0
      (fromExactBytes c ofmt e (fromExactVals c f d e))) := by
  have hwords : ¬(ofmt = 1 ∧ u.outChk x (sideCmd c) (cmdField c 52 4) (if ofmt = 1 then 8 * ceilDiv e (cmdField c 48 2) else 0) ≠ 0) := by
    rintro ⟨hk, hn⟩
    exact hn (by rw [if_pos hk, hside hk])
  change execFromExact cl s = _
  unfold sideCmd at hwords
  simp only [execFromExact, if_neg (Nat.not_le.mpr hcl), hcur, hf, hh, hread, ho, ne_eq, not_true_eq_false, if_false]
  refine (if_neg (not_not_intro hdst)).trans ?_
  simp only [if_neg hwords, hheld, hd, not_true_eq_false, if_false, Bool.false_eq_true]
  match ofmt with
  | 0 | 1 | 2 | 3 | _ + 4 => rfl

end

/-! ### The statement -/

/-- Settles O28: each command behind its checks stores by the one move that its equation gives. -/
theorem exactPartials : Obligations.ExactPartials := by
  unfold Obligations.ExactPartials
  refine fun s cl r c x hcl => ⟨?toExact, toExactElem_eq_some_iff, ?sum, ?fromExact⟩
  case toExact =>
    rintro rows n rawLen qLen eLen reads b u qs es xs zs hcur rfl rfl rfl rfl rfl rfl hread hdst hheld hf rfl rfl rfl rfl
    have hexec := exec_toExact_read hcl hcur hread hdst hheld hf
    have hkept : u.mem = s.mem := (congrArg (·.2.2.mem) hf).symm.trans (State.fetch_mem ..)
    refine ⟨fun hin => ⟨_, hexec, ?_⟩, fun hout => ⟨_, hexec, ?_⟩⟩
    · exact (congrArg State.mem (if_neg (Bool.not_eq_true _ ▸ hin))).trans (State.movePut_mem ..)
    · exact (congrArg State.mem (if_pos hout)).trans ((State.failList_mem ..).trans hkept)
  case sum =>
    rintro dst src y b₁ b₂ u₁ u₂ f e p₁ p₂ d₁ d₂ v₁ v₂ hcur rfl rfl rfl hf₁ hf₂ hh₁ hh₂ hparts hdst hheld hd₁ hd₂
    exact ⟨_, exec_exactSum_done hcl hcur hf₁ hf₂ hh₁ hh₂ hparts hdst hheld hd₁ hd₂, State.movePut_mem ..⟩
  case fromExact =>
    rintro src dst b u f e p d v hcur rfl rfl hf hh hread hheld hd
    have hstored {ofmt : Nat} (ho : cmdField c 32 1 = ofmt) (hdst : u.dstChk x c (cmdField c 24 8) (fromExactSize ofmt * e) = 0)
        (hside : ofmt = 1 → u.outChk x (sideCmd c) (cmdField c 52 4) (8 * ceilDiv e (cmdField c 48 2)) = 0) :
        Gives (.fromExact cl) s fun t => t.mem = ((v.storeSide x c ofmt e (fromExactVals c f d e)).dstStore x c (cmdField c 24 8)
          (fromExactBytes c ofmt e (fromExactVals c f d e))).mem :=
      ⟨_, exec_fromExact_done hcl hcur hf hh hread hheld hd ho hdst hside, State.movePut_mem ..⟩
    refine ⟨?fp32, ?int8, ?half, ?kbf8⟩
    case fp32 => exact fun ho hdst => (hstored ho hdst nofun :)
    case int8 => exact fun ho hdst => (hstored ho hdst nofun :)
    case half =>
      rintro (ho | ho) hdst
      · rw [ho]
        exact (hstored ho hdst nofun :)
      · rw [ho]
        exact (hstored ho hdst nofun :)
    case kbf8 =>
      rintro sideC rows ho hdst rfl hside rfl
      exact (hstored ho hdst fun _ => hside :)

end Sys2Proof.Machine
end

section
/-! PROOFS. Copies and fills (R261, R263, R278, R291, R328, R513). -/
namespace Sys2Proof.Machine

/-- A command without output handles is done at once (R257, R288). -/
theorem State.finishCmd_of_none {s : State} {u : Nat} {r : Running} (h : s.run u = some r) : s.finishCmd u [] = s.advance u := by
  simp only [State.finishCmd, h, if_true]

/-- An 8-byte field as a double word is zero only when it is zero. -/
theorem ofNat_cmdField_ne_zero (c : Cmd) (i : Nat) : BitVec.ofNat 64 (cmdField c i 8) ≠ 0 ↔ cmdField c i 8 ≠ 0 := by
  have hlt : cmdField c i 8 < 2 ^ 64 := Nat.mod_lt _ (by decide)
  rw [Ne, ← BitVec.toNat_inj, BitVec.toNat_ofNat, Nat.mod_eq_of_lt hlt]
  rfl

/-- Is a COPY to be skipped: its FOR_LIST is not zero and has been cancelled (R291)? -/
def copyCut (c : Cmd) (x : Ctx) : Prop := cmdField c 40 8 ≠ 0 ∧ x.cut.contains (BitVec.ofNat 64 (cmdField c 40 8)) = true

/-- The state in which a COPY stores: the first KV write of a model's step has served the step's page requests (R328). -/
def State.copyServed (s : State) (r : Running) (c : Cmd) (x : Ctx) : State :=
  match x.slotOf with
  | some k => if r.list.own = true ∧ cmdField c 24 8 / 2 ^ 60 = 0 then s.kvRequests k.1 k.2 else s
  | none => s

/-- What a FILL stores: an 8-byte pattern, again and again (R278). -/
def fillBytes (c : Cmd) : List Byte := (List.range (cmdField c 32 4)).map fun i => (leBytes 8 (cmdField c 48 8)).getD (i % 8) 0

theorem fillBytes_length (c : Cmd) : (fillBytes c).length = cmdField c 32 4 := by rw [fillBytes, List.length_map, List.length_range]

section
variable {s u : State} {cl : Nat} {r : Running} {c : Cmd} {x : Ctx} {b : List Byte} (hcl : cl < 48)
include hcl

theorem exec_copy_skipped (hcur : s.cur (uMov cl) 0xA0 = some (r, c, x)) (hcut : copyCut c x) :
    exec (.copy cl) s = .next ((s.count (Reg.MOV_CANCEL_SKIP cl) 1).advance (uMov cl)) := by
  have hskip := And.intro ((ofNat_cmdField_ne_zero c 40).mpr hcut.1) hcut.2
  have hrun : (s.count (Reg.MOV_CANCEL_SKIP cl) 1).run (uMov cl) = some r := State.run_of_cur hcur
  change execCopy cl s = _
  simp only [execCopy, if_neg (Nat.not_le.mpr hcl), hcur, if_pos hskip, State.finishCmd_of_none hrun]

theorem exec_copy_done (hcur : s.cur (uMov cl) 0xA0 = some (r, c, x)) (hcut : ¬copyCut c x)
    (hread : s.readChk x [(primaryRef r c 16, primaryLen r c 32 4)] = 0) (hdst : s.dstChk x c (cmdField c 24 8) (primaryLen r c 32 4) = 0)
    (hheld : s.dstHeld x c (cmdField c 24 8) = false) (hf : s.fetch x [(primaryRef r c 16, primaryLen r c 32 4)] = (0, b, u)) :
    exec (.copy cl) s = .next ((u.copyServed r c x).movePut cl r x c (cmdField c 24 8) (ceilDiv (primaryLen r c 32 4) 128)
      (BitVec.ofNat 64 (cmdField c 40 8)) b) := by
  have hgo := fun h : BitVec.ofNat 64 (cmdField c 40 8) ≠ 0 ∧ x.cut.contains (BitVec.ofNat 64 (cmdField c 40 8)) = true =>
    hcut ⟨(ofNat_cmdField_ne_zero c 40).mp h.1, h.2⟩
  change execCopy cl s = _
  simp only [execCopy, if_neg (Nat.not_le.mpr hcl), hcur, if_neg hgo, if_neg (not_not_intro hread), if_neg (not_not_intro hdst), hheld,
    Bool.false_eq_true, if_false, hf, not_true_eq_false, ne_eq, State.copyServed]
  cases x.slotOf with
  | none => rfl
  | some k => rfl

theorem exec_fill_done (hcur : s.cur (uMov cl) 0xA2 = some (r, c, x)) (hdst : s.dstChk x c (cmdField c 16 8) (cmdField c 32 4) = 0)
    (hheld : s.dstHeld x c (cmdField c 16 8) = false) :
    exec (.fill cl) s = .next (s.movePut cl r x c (cmdField c 16 8) (ceilDiv (cmdField c 32 4) 128) 0 (fillBytes c)) := by
  change execFill cl s = _
  simp only [execFill, if_neg (Nat.not_le.mpr hcl), hcur, hdst, hheld, ne_eq, not_true_eq_false, if_false, Bool.false_eq_true]
  rfl

theorem exec_fill_refused (hcur : s.cur (uMov cl) 0xA2 = some (r, c, x)) (hdst : s.dstChk x c (cmdField c 16 8) (cmdField c 32 4) ≠ 0) :
    exec (.fill cl) s = .next (s.failList (uMov cl) (s.dstChk x c (cmdField c 16 8) (cmdField c 32 4))) := by
  change execFill cl s = _
  simp only [execFill, if_neg (Nat.not_le.mpr hcl), hcur, if_pos hdst]

end

/-- Settles O27: each command's branch is the one that its conditions name, and a store goes to Pool or over the placed range's spans. -/
theorem copiesAndFills : Obligations.CopiesAndFills := by
  unfold Obligations.CopiesAndFills
  refine fun s cl r c x hcl => ⟨?copy, ?skipped, ?fill, ?refused, ?store⟩
  case copy =>
    rintro src n dst b u v hcur rfl rfl rfl hcut hread hdst hheld hf rfl
    exact ⟨_, exec_copy_done hcl hcur (fun h => Bool.false_ne_true ((hcut h.1).symm.trans h.2)) hread hdst hheld hf, State.movePut_mem ..⟩
  case skipped => exact fun hcur hfor hcut => ⟨_, exec_copy_skipped hcl hcur ⟨hfor, hcut⟩, rfl⟩
  case fill =>
    rintro dst n hcur rfl rfl hdst hheld
    exact ⟨_, exec_fill_done hcl hcur hdst hheld, State.movePut_mem ..⟩
  case refused =>
    rintro dst n hcur rfl rfl hdst
    exact ⟨_, exec_fill_refused hcl hcur hdst, State.failList_run (State.run_of_cur hcur), State.failList_mem ..⟩
  case store =>
    intro dst b hm hd
    split
    · next hpool => exact State.dstStore_mem_pool hm hpool (State.outCtx_of_own hd) b
    · next hplaced => exact State.dstStore_mem_placed hm hplaced b

end Sys2Proof.Machine
end

section
/-! PROOFS. Vector commands over memory and over an array's rows (R238, R265, R271 to R276). -/
namespace Sys2Proof.Machine

/-! ### The commands, and what each makes of its operands -/

/-- The commands of a cluster's vector unit that compute rows, each with what it computes. -/
def vectorCmds (cl : Nat) : List (Instr × VOp) :=
  [(.vmap cl, vmapOp), (.vbin cl, vbinOp), (.vreduce cl, vreduceOp), (.vsoftmax cl, vsoftmaxOp), (.vnorm cl, vnormOp), (.vconvert cl, vconvertOp),
    (.vsample cl, vsampleOp)]

/-- Each of them is the shared run of a vector command. -/
theorem exec_of_mem_vectorCmds {cl : Nat} {p : Instr × VOp} (hp : p ∈ vectorCmds cl) (s : State) : exec p.1 s = s.vector cl p.2 := by
  simp only [vectorCmds, List.mem_cons, List.not_mem_nil, or_false] at hp
  rcases hp with rfl | rfl | rfl | rfl | rfl | rfl | rfl <;> rfl

/-- The reads of a vector command: AUX, AUX2, and `n` bytes of rows (R271). -/
def vecReads (r : Running) (c : Cmd) (o : VOp) (n : Nat) : List (Nat × Nat) :=
  [(poolRef (cmdField c 24 4), o.auxLen c), (poolRef (cmdField c 28 4), o.aux2Len c), (poolRef (primary r c 16), n)]

/-- AUX of a vector command, in the bytes of its reads. -/
def vecAux (c : Cmd) (o : VOp) (b : List Byte) : List Byte := b.take (o.auxLen c)

/-- AUX2 of a vector command, behind AUX. -/
def vecAux2 (c : Cmd) (o : VOp) (b : List Byte) : List Byte := (b.drop (o.auxLen c)).take (o.aux2Len c)

/-- The rows that a vector command reads from memory, behind AUX and AUX2, widened to binary32 (R271). -/
def vecMemRows (c : Cmd) (o : VOp) (b : List Byte) : List (List Nat) :=
  (List.range (vRows c)).map fun i =>
    (splitElems (vInSize c) (vElems c) (((b.drop (o.auxLen c)).drop (o.aux2Len c)).drop (i * vElems c * vInSize c))).map (vWiden c)

/-- An array's oldest `n` rows are taken from those that it holds ready (R276). -/
def State.takeRows (s : State) (a n : Nat) : State := s.setArray a { s.array a with rows := (s.array a).rows.drop n }

/-- A vector command has stored its last row: the unit is idle and the output handle goes (R288, R304). -/
def State.vecEnd (s : State) (cl : Nat) (r : Running) (c : Cmd) (x : Ctx) (o : VOp) : State :=
  (s.setVec cl {}).finishCmd (uVec cl) (outHandle x c r.list.id (cmdField c 20 4) (o.total c) false false)

section
variable (s : State) (cl : Nat) (r : Running) (c : Cmd) (x : Ctx) (o : VOp)

@[simp] theorem State.setVec_vec (v : VecUnit) : (s.setVec cl v).vec cl = v := Tab.get_set_self _ _ _ _

@[simp] theorem State.vecEnd_mem : (s.vecEnd cl r c x o).mem = s.mem := State.finishCmd_mem ..

@[simp] theorem State.vecEnd_vec : (s.vecEnd cl r c x o).vec cl = {} := by
  rw [State.vec, State.vecEnd, State.finishCmd_mat]
  exact s.setVec_vec cl {}

end

/-! ### How a vector command runs -/

section
variable {s u : State} {cl : Nat} {r : Running} {c : Cmd} {x : Ctx} {o : VOp} {b : List Byte} (hcl : cl < 48)
include hcl

/-- A vector command whose check fails stores nothing (R263, R271). -/
theorem State.vector_refused (hcur : s.cur (uVec cl) o.op = some (r, c, x)) (hchk : s.vecChk x r c o (2 * cl + bits c 294 1) ≠ 0) :
    s.vector cl o = .next ((s.setVec cl {}).failList (uVec cl) (s.vecChk x r c o (2 * cl + bits c 294 1))) := by
  simp only [State.vector, if_neg (Nat.not_le.mpr hcl), hcur, if_pos hchk]

section
variable (hcur : s.cur (uVec cl) o.op = some (r, c, x)) (hchk : s.vecChk x r c o (2 * cl + bits c 294 1) = 0)
  (hdone : (s.vec cl).done = 0) (hheld : s.outHeld x c = false)
include hcur hchk hdone hheld

/-- Over memory a vector command computes all its rows (R271). -/
theorem State.vector_over_memory (hfmt : vIfmt c ≠ 3) (hf : s.fetch x (vecReads r c o (vRows c * vElems c * vInSize c)) = (0, b, u)) :
    s.vector cl o = .next ((u.vecRows x c cl o (vecAux c o b) (vecAux2 c o b) 0 (vecMemRows c o b)).vecEnd cl r c x o) := by
  unfold vecReads at hf
  simp only [State.vector, if_neg (Nat.not_le.mpr hcl), hcur, hchk, hheld, if_neg hfmt, hf, hdone, ne_eq, not_true_eq_false, if_false,
    Bool.false_eq_true, List.length_map, List.length_range, Nat.zero_add, Nat.lt_irrefl]
  rfl

/-- Over an array's rows a vector command takes those that the array has ready, here all that it asks for (R276). -/
theorem State.vector_over_array (hfmt : vIfmt c = 3) (hrows : vRows c ≤ (s.array (2 * cl + bits c 294 1)).rows.length)
    (hf : s.fetch x (vecReads r c o 0) = (0, b, u)) :
    s.vector cl o = .next (((u.takeRows (2 * cl + bits c 294 1) (vRows c)).vecRows x c cl o (vecAux c o b) (vecAux2 c o b) 0
      ((s.array (2 * cl + bits c 294 1)).rows.take (vRows c))).vecEnd cl r c x o) := by
  have hlen : ((s.array (2 * cl + bits c 294 1)).rows.take (vRows c)).length = vRows c := List.length_take_of_le hrows
  unfold vecReads at hf
  simp only [State.vector, if_neg (Nat.not_le.mpr hcl), hcur, hchk, hheld, if_pos hfmt, hf, hdone, ne_eq, not_true_eq_false, if_false,
    Bool.false_eq_true, Nat.sub_zero, Nat.zero_add, hlen, Nat.lt_irrefl]
  rfl

end

theorem exec_vnop_done (hcur : s.cur (uVec cl) 0x47 = some (r, c, x)) : exec (.vnop cl) s = .next (s.advance (uVec cl)) := by
  change execVnop cl s = _
  simp only [execVnop, if_neg (Nat.not_le.mpr hcl), hcur, State.finishCmd_of_none (State.run_of_cur hcur)]

end

/-! ### What a row stores -/

/-- Results in binary32 are stored one after another, and choose no exponent (R238). -/
theorem vStore_fp32 {c : Cmd} (hfmt : vOfmt c = 0) (side : Option (List Byte)) (r : Nat) (ys : List Nat) :
    vStore c side r ys = (ys.flatMap fun y => leBytes 4 y, none) := by
  have hsnd : ((List.range ys.length).zip ys).map Prod.snd = ys := List.map_snd_zip (Nat.le_of_eq List.length_range.symm)
  simp only [vStore, hfmt, List.foldr_append_eq_append, List.append_nil]
  rw [List.flatMap_def, ← hsnd, List.map_map, hsnd]
  rfl

section
variable {s : State} {x : Ctx} {c : Cmd} {cl : Nat} {o : VOp} {aux aux2 : List Byte} {r : Nat} {xs : List Nat} (hm : s.tiers.migs = [])
  (hd : cDctx c = 0xFFFF)
include hm hd

/-- A row of which an index is asked stores the index, 4 bytes a row (R272). -/
theorem State.vecRows_index_mem (hi : o.index c = true) : (s.vecRows x c cl o aux aux2 r [xs]).mem =
    s.mem.wrBytes (s.poolAddr x (cmdField c 20 4 + 4 * r)) (leBytes 4 ((o.row c aux aux2 r xs).headD 0)) := by
  rw [← State.outStore_mem hm (State.outCtx_of_own hd)]
  simp only [State.vecRows, List.length_singleton, List.range_one, List.zip_cons_cons, List.zip_nil_left, List.foldl_cons, List.foldl_nil, hi,
    Nat.add_zero, if_true, apply_ite State.mem, State.count_mem, State.count64_mem, State.work_mem, ite_self]

/-- A row of binary32 results stores them in order (R238). -/
theorem State.vecRows_fp32_mem (hi : o.index c = false) (hfmt : vOfmt c = 0) : (s.vecRows x c cl o aux aux2 r [xs]).mem =
    s.mem.wrBytes (s.poolAddr x (cmdField c 20 4 + o.rowLen c * r)) ((o.row c aux aux2 r xs).flatMap fun y => leBytes 4 y) := by
  rw [← State.outStore_mem hm (State.outCtx_of_own hd)]
  simp only [State.vecRows, List.length_singleton, List.range_one, List.zip_cons_cons, List.zip_nil_left, List.foldl_cons, List.foldl_nil, hi,
    Nat.add_zero, Bool.false_eq_true, if_false, vStore_fp32 hfmt, apply_ite State.mem, State.count_mem, State.count64_mem, State.work_mem,
    ite_self]

end

/-! ### The statement -/

/-- Settles O23: the seven commands are the one run, which stores its rows or fails its list; a row's results are stored at its place. -/
theorem vectorCommands : Obligations.VectorCommands := by
  unfold Obligations.VectorCommands
  refine ⟨?memory, ?array, fun s cl r c x hcl => ⟨?refused, ?vnop⟩, ?rows⟩
  case memory =>
    intro s cl r c x b u hcl hdone hfmt hheld p hp hcur hchk hf
    have hx := (exec_of_mem_vectorCmds hp s).trans (State.vector_over_memory hcl hcur hchk hdone hheld hfmt hf)
    exact ⟨_, hx, State.vecEnd_mem .., State.vecEnd_vec ..⟩
  case array =>
    rintro s cl a r c x b u hcl rfl hdone hfmt hrows hheld p hp hcur hchk hf
    have hx := (exec_of_mem_vectorCmds hp s).trans (State.vector_over_array hcl hcur hchk hdone hheld hfmt hrows hf)
    exact ⟨_, hx, State.vecEnd_mem .., State.vecEnd_vec ..⟩
  case refused =>
    intro p hp hcur hchk
    exact ⟨_, (exec_of_mem_vectorCmds hp s).trans (State.vector_refused hcl hcur hchk),
      State.failList_run (s := s.setVec cl {}) (State.run_of_cur hcur), State.failList_mem ..⟩
  case vnop => exact fun hcur => ⟨_, exec_vnop_done hcl hcur, rfl⟩
  case rows =>
    exact fun s x c cl o aux aux2 r xs hm hd => ⟨State.vecRows_index_mem hm hd, State.vecRows_fp32_mem hm hd⟩

end Sys2Proof.Machine
end

section
/-! PROOFS. Transfers and atomics that a move engine begins (R279, R294, R557, R558, R562, R563, R566). -/
namespace Sys2Proof.Machine

/-! ### Transfers -/

section
variable {s : State} {cl : Nat} {r : Running} {c k : Cmd} {x : Ctx} (hcl : cl < 48)
include hcl

/-- A unit whose transfer is open goes on with it (R563). -/
theorem exec_xferNd_pumps {f : Xfer} (hbusy : s.curBusy (uMov cl) 0xA1 = some (r, c, x)) (hf : s.xferOn (uMov cl) = some f) :
    exec (.xferNd cl) s = .next (s.pumpXfer f.id) := by
  change execXferNd cl s = _
  simp only [execXferNd, if_neg (Nat.not_le.mpr hcl), hbusy, hf]

section
variable (hbusy : s.curBusy (uMov cl) 0xA1 = none) (hcur : s.cur (uMov cl) 0xA1 = some (r, c, x)) (hk : k = bindSrc r c)
  (hone : refLocal (xSrc k) ≠ refLocal (xDst k))
include hbusy hcur hk hone

theorem exec_xferNd_refused (hchk : s.xferChk x k ≠ 0) : exec (.xferNd cl) s = .next (s.failList (uMov cl) (s.xferChk x k)) := by
  subst hk
  change execXferNd cl s = _
  simp only [execXferNd, if_neg (Nat.not_le.mpr hcl), hbusy, hcur, if_neg hone, if_pos hchk]

/-- A transfer opens when its checks pass and, where it stores locally, its destination is not held (R261, R562). -/
theorem exec_xferNd_opens (hchk : s.xferChk x k = 0) (hheld : xOut k = false → s.dstHeld x k (xDst k) = false) :
    exec (.xferNd cl) s = .next (s.openXfer (uMov cl) r x k r.list.id r.idx 0) := by
  have hgo : (!xOut k && s.dstHeld x k (xDst k)) = false := by
    cases hout : xOut k with
    | true => rfl
    | false => exact hheld hout
  subst hk
  change execXferNd cl s = _
  simp only [execXferNd, if_neg (Nat.not_le.mpr hcl), hbusy, hcur, if_neg hone, if_neg (not_not_intro hchk), hgo, Bool.false_eq_true, if_false]

end

/-! ### RESUME -/

/-- The record of the transfer that a RESUME names (R565, R566). -/
def State.resumed (s : State) (x : Ctx) (c : Cmd) : Option XferRec :=
  s.fab.recs.find? fun k => k.ctx == x.id && k.list.toNat == cmdField c 16 8 && k.cmdIdx == cmdField c 24 2

section
variable {k : XferRec} (hbusy : s.curBusy (uMov cl) 0xA7 = none) (hcur : s.cur (uMov cl) 0xA7 = some (r, c, x)) (hrec : s.resumed x c = some k)
include hbusy hcur hrec

theorem exec_resume_stale (hi : k.index ≠ cmdField c 32 8) : exec (.resume cl) s = .next (s.failList (uMov cl) 0xB4) := by
  unfold State.resumed at hrec
  change execResume cl s = _
  simp only [execResume, if_neg (Nat.not_le.mpr hcl), hbusy, hcur, hrec, if_pos hi]

theorem exec_resume_opens (hi : k.index = cmdField c 32 8) (hchk : s.xferChk x k.cmd = 0)
    (hheld : xOut k.cmd = false → s.dstHeld x k.cmd (xDst k.cmd) = false) :
    exec (.resume cl) s = .next (s.openXfer (uMov cl) r x k.cmd k.list k.cmdIdx k.index) := by
  have hgo : (!xOut k.cmd && s.dstHeld x k.cmd (xDst k.cmd)) = false := by
    cases hout : xOut k.cmd with
    | true => rfl
    | false => exact hheld hout
  unfold State.resumed at hrec
  change execResume cl s = _
  simp only [execResume, if_neg (Nat.not_le.mpr hcl), hbusy, hcur, hrec, if_neg (not_not_intro hi), if_neg (not_not_intro hchk), hgo,
    Bool.false_eq_true, if_false]

end

end

/-! ### Requests -/

section
variable (s : State) (g : Nat) (t : Txn) (serves : ReqFor) (key : BitVec 128)

/-- The tracking entry that an issued request takes (R533, R551). -/
def State.trackedReq : Req :=
  let t := { t with src := s.self, tag := s.fab.nextTag }
  let plane := s.planeFor t.dest t.offset
  { tag := s.fab.nextTag, region := g, plane := plane.getD 0, txn := t, since := s.now, first := s.now, serves := serves, key := key,
    st := match plane with | none => .waitPlane | some p => if s.pathRetry p (t.dest % 4096) then .held else .sent }

@[simp] theorem State.sendOn_fab (q p : Nat) : (s.sendOn q p t).fab = s.fab :=
  have : Has [.front, .out] .front := Has.of rfl
  have : Has [.front, .out] .out := Has.of rfl
  (State.sendOn_stays _ _ _ _ (Stays.refl [.front, .out] s)).only.same .fab (by decide)

/-- Of the fabric an issued request changes the tags and the tracking entries (R533). -/
theorem State.issueReq_fab : (s.issueReq g t serves key).fab =
    { s.fab with nextTag := (s.fab.nextTag + 1) % 262144, reqs := s.fab.reqs ++ [s.trackedReq g t serves key] } := by
  unfold State.issueReq
  extract_lets tag t' plane q fab u v
  have hv : v.fab = u.fab := State.output_fab ..
  refine Eq.trans ?_ hv
  clear_value plane
  split
  · rfl
  · exact State.sendOn_fab ..

end

/-! ### Atomics -/

/-- The request of an atomic, under the ID that is next (R557, R558). -/
def State.atomicTxn (s : State) (dest offset flags job aop : Nat) (opa opb : DWord) : Txn :=
  { op := 3, flags := flags, len := 32, dest := dest, job := job, offset := offset, aux := aop,
    opfield := BitVec.ofNat 64 (s.self + s.fab.atoms * 65536),
    data := leBytes 8 opa.toNat ++ leBytes 8 opb.toNat ++ leBytes 8 (tcStamp s.now).toNat ++ leBytes 8 0 }

/-- An atomic takes the next ID, and its request a tracking entry (R533, R558). -/
theorem State.issueAtomic_fab (s : State) (g dest offset flags job aop : Nat) (opa opb : DWord) (serves : ReqFor) (key : BitVec 128) :
    (s.issueAtomic g dest offset flags job aop opa opb serves key).fab =
      { s.fab with
        atoms := s.fab.atoms + 1, nextTag := (s.fab.nextTag + 1) % 262144
        reqs := s.fab.reqs ++ [{ s with fab := { s.fab with atoms := s.fab.atoms + 1 } }.trackedReq g
          (s.atomicTxn dest offset flags job aop opa opb) serves key] } := State.issueReq_fab ..

/-- A unit's atomic as an open transfer: the response finds the unit by it. -/
def State.atomicXfer (s : State) (u : Nat) (r : Running) (c : Cmd) (x : Ctx) : Xfer :=
  { id := s.fab.nextX, unit := u, cmd := c, ctx := x.id, list := r.list.id, cmdIdx := r.idx, next := 0, index := 0 }

/-- The state in which a unit's atomic is open, and charged to the region's remote share and the account (R294, R617). -/
def State.atomicOpened (s : State) (u : Nat) (r : Running) (c : Cmd) (x : Ctx) : State :=
  let t := { s with fab := { s.fab with xfers := s.fab.xfers ++ [s.atomicXfer u r c x], nextX := s.fab.nextX + 1 } }
  (t.charge (x.cluster / 4) 2 512).acct x.account 11 256

section
variable (s : State) (u : Nat) (r : Running) (c : Cmd) (x : Ctx)

theorem State.atomicOpened_fab : (s.atomicOpened u r c x).fab =
    { s.fab with xfers := s.fab.xfers ++ [s.atomicXfer u r c x], nextX := s.fab.nextX + 1 } :=
  (State.charge_only _ (x.cluster / 4) 2 512).same .fab (by decide)

/-- A charge of the remote share counts in another register than the node's. -/
theorem State.charge_self (g n : Nat) : (s.charge g 2 n).self = s.self := by
  have hbytes : Reg.FAB_NODE ≠ Reg.MOV_RM_BYTES g := by simp only [Reg.FAB_NODE, Reg.MOV_RM_BYTES]; omega
  have hfull : Reg.FAB_NODE ≠ Reg.MOV_RM_FULL g := by simp only [Reg.FAB_NODE, Reg.MOV_RM_FULL]; omega
  have hget : (s.charge g 2 n).regs.get 0 Reg.FAB_NODE = s.regs.get 0 Reg.FAB_NODE := by
    unfold State.charge
    extract_lets
    split
    · exact (State.count_get_ne _ _ hfull).trans (State.setReg_get_ne _ _ hbytes)
    · exact State.setReg_get_ne _ _ hbytes
  rw [State.self, State.regBits, hget]
  rfl

theorem State.atomicOpened_self : (s.atomicOpened u r c x).self = s.self := State.charge_self ..

/-- An atomic that passes its checks is issued and its unit waits for the response (R557, R558). -/
theorem exec_atomic_issued {cl : Nat} (hcl : cl < 48) (hcur : s.cur (uMov cl) 0xA6 = some (r, c, x)) (hchk : s.fabChk x = 0)
    (hofs : (s.remote c (xSrc c) 0).2.1 < 2 ^ 40) (hres : bit c (192 + 5) = true → s.outChk x c (cmdField c 48 4) 8 = 0)
    (htrack : s.trackRoom (x.cluster / 4) 1 = true) (hroom : s.rmRoom (x.cluster / 4) 512 = true) :
    exec (.atomic cl) s = .next (((s.atomicOpened (uMov cl) r c x).issueAtomic (x.cluster / 4) (s.remote c (xSrc c) 0).1
      (s.remote c (xSrc c) 0).2.1.toNat (s.remote c (xSrc c) 0).2.2 ((s.jobOf x).getD 0) (cmdField c 24 1) (BitVec.ofNat 64 (cmdField c 32 8))
      (BitVec.ofNat 64 (cmdField c 40 8)) (.atomic s.fab.nextX) (reqKey 0 x.id r.idx r.list.id)).setRun (uMov cl) (some { r with stage := .busy })) := by
  have hfetch : ¬(bit c (192 + 5) = true ∧ s.outChk x c (cmdField c 48 4) 8 ≠ 0) := fun ⟨hbit, hbad⟩ => hbad (hres hbit)
  change execAtomic cl s = _
  simp only [execAtomic, if_neg (Nat.not_le.mpr hcl), hcur, if_neg (not_not_intro hchk), if_neg (Int.not_le.mpr hofs), if_neg hfetch, htrack, hroom,
    Bool.not_true, Bool.false_eq_true, if_false]
  rfl

end

/-! ### The statement -/

/-- Settles O29: transfers open or go on as their conditions name; an atomic's request, under a new ID, is the last that is tracked. -/
theorem fabricCommands : Obligations.FabricCommands := by
  unfold Obligations.FabricCommands
  refine fun s cl r c x hcl => ⟨?start, ?goOn, ?resume, ?atomic⟩
  case start =>
    intro k hbusy hcur hk
    refine ⟨fun hone hchk hheld => ⟨_, exec_xferNd_opens hcl hbusy hcur hk hone hchk hheld, rfl⟩, fun hone hchk => ?_⟩
    have hrun := State.run_of_cur hcur
    exact ⟨_, exec_xferNd_refused hcl hbusy hcur hk hone hchk, State.failList_run hrun, by rw [State.failList_of_run hrun, State.setRun_out]⟩
  case goOn => exact fun f hbusy hf => ⟨_, exec_xferNd_pumps hcl hbusy hf, rfl⟩
  case resume =>
    intro k hbusy hcur hrec
    exact ⟨fun hi hchk hheld => ⟨_, exec_resume_opens hcl hbusy hcur hrec hi hchk hheld, rfl⟩,
      fun hi => ⟨_, exec_resume_stale hcl hbusy hcur hrec hi, State.failList_run (State.run_of_cur hcur)⟩⟩
  case atomic =>
    rintro m hcur rfl hchk hofs hres htrack hroom
    refine ⟨_, exec_atomic_issued s r c x hcl hcur hchk hofs hres htrack hroom, State.setRun_run .., ?_⟩
    have hfab := s.atomicOpened_fab (uMov cl) r c x
    rw [State.setRun_fab, State.issueAtomic_fab]
    refine ⟨congrArg Fabric.xfers hfab, congrArg (·.atoms + 1) hfab, _, List.mem_append_right _ List.mem_cons_self, (congrArg Fabric.nextTag hfab :),
      rfl, rfl, rfl, rfl, ?_, rfl⟩
    change BitVec.ofNat 64 ((s.atomicOpened (uMov cl) r c x).self + (s.atomicOpened (uMov cl) r c x).fab.atoms * 65536) = _
    rw [hfab, State.atomicOpened_self]

end Sys2Proof.Machine
end

section
/-! PROOFS. Submissions of a host: lists, copies, messages and accounts (R249, R592 to R595, R598, R620). -/
namespace Sys2Proof.Machine

/-! ### LIST_SUBMIT -/

section
variable {s : State} {f q : Nat} {v : Svc} {x : Ctx} {l : ListRec} {a b : State} (hv : s.svc (.host f q) 0x14 24 = some v) (hok : v.code = 0)
  (hx : v.ctx = some x)
include hv hok hx

/-- A list that passes its checks joins its context's queue (R249). -/
theorem exec_listSubmit_queued (ha : v.st.admitList x (cmdField v.cmd 16 8) v.rep false = (0, some l, a)) (hb : a.queueList x.id l = (0, b)) :
    exec (.listSubmit (.host f q)) s = .next (b.refuseBad f q 4096) := by
  change execListSubmit (.host f q) s = _
  simp only [execListSubmit, hv, State.listSubmit, hx, hok, ha, hb, ne_eq, not_true_eq_false, if_false]

/-- A list that is refused has its LIST record (R598). -/
theorem exec_listSubmit_refused {code : Nat} (ha : v.st.admitList x (cmdField v.cmd 16 8) v.rep false = (code, some l, a)) (hc : code ≠ 0) :
    exec (.listSubmit (.host f q)) s = .next ((a.refuseSubmit v.rep x.id code l.id).refuseBad f q 4096) := by
  change execListSubmit (.host f q) s = _
  simp only [execListSubmit, hv, State.listSubmit, hx, hok, ha, if_pos hc, ne_eq, not_true_eq_false, if_false]

end

/-! ### HOST_COPY -/

/-- A copy whose device side lies in SPACE 0 acts for no context (R594). -/
theorem exec_hostCopy_placed {s : State} {f q : Nat} {c : Cmd} {rest : List Cmd} {v : Svc} (hq : (s.qp f q).sq = c :: rest)
    (hsp : cmdField c 24 8 / 2 ^ 60 ≠ 1) (hv : s.svc (.host f q) 0x15 0 = some v) (hok : v.code = 0) (bytes : List Byte) :
    let r := State.hostCopy { v with ctx := none } bytes
    exec (.hostCopy (.host f q) bytes) s = .next (r.2.2.svcEnd (.host f q) v.rep r.1 (BitVec.ofNat 128 r.2.1)) := by
  intro r
  have hpool : (cmdField c 24 8 / 2 ^ 60 == 1) = false := beq_eq_false_iff_ne.mpr hsp
  change execHostCopy (.host f q) bytes s = _
  simp only [execHostCopy, hq, hpool, Bool.false_eq_true, if_false]
  exact State.service_of_done hv hok rfl

/-- Bytes that a DMA read brings outside a replay: those that arrive, at most as many as it asks for (R641). -/
theorem State.dmaIn_of_live {s : State} (h : s.replayed = false) (f addr len : Nat) (b : List Byte) :
    s.dmaIn f addr len b = (b.take len, s.logReads f addr (b.length / 4096 + 1) (b.take len)) := if_neg (by simp [h])

theorem State.dmaIn_only (s : State) (f addr len : Nat) (b : List Byte) : Only noted s (s.dmaIn f addr len b).2 :=
  have : Has noted .fns := Has.of rfl
  have : Has noted .rpl := Has.of rfl
  have : Has noted .regs := Has.of rfl
  (State.dmaIn_stays _ _ _ _ _ (Stays.refl noted s)).only

/-- What a store over spans leaves in memory depends on memory and tiers alone (R501). -/
theorem State.wrSpans_mem_congr {s t : State} (hm : t.mem = s.mem) (ht : t.tiers = s.tiers) (sp : List Span) (b : List Byte) :
    (t.wrSpans sp b).mem = (s.wrSpans sp b).mem := by
  change ({ s with mem := t.mem, tiers := t.tiers }.wrSpans sp b).mem = _
  rw [hm, ht]

/-- Bytes of spans together. -/
def spansLen (sp : List Span) : Nat := sp.foldl (fun n p => n + p.2) 0

/-- A copy into the device's placed range has stored what has arrived over the spans that it may reach (R594). -/
def State.copiedIn (v : Svc) (sp : List Span) (bytes : List Byte) : State :=
  let d := v.st.dmaIn v.rep.sub.1 (cmdField v.cmd 16 8) (spansLen sp) bytes
  (d.2.countHost v.rep.sub.1 (cmdField v.cmd 24 8) d.1.length true).wrSpans sp d.1

/-- Neither the log of the bytes nor their account moves where they go. -/
theorem State.copiedIn_mem {v : Svc} {sp : List Span} {bytes : List Byte} (hlive : v.st.replayed = false) (hn : bytes.length = spansLen sp) :
    (State.copiedIn v sp bytes).mem = (v.st.wrSpans sp bytes).mem := by
  have hd := v.st.dmaIn_only v.rep.sub.1 (cmdField v.cmd 16 8) (spansLen sp) bytes
  have hbytes : (v.st.dmaIn v.rep.sub.1 (cmdField v.cmd 16 8) (spansLen sp) bytes).1 = bytes := by
    rw [State.dmaIn_of_live hlive, ← hn, List.take_length]
  rw [State.copiedIn]
  simp only [hbytes]
  exact State.wrSpans_mem_congr (hd.same .mem (by decide)) (hd.same .tiers (by decide)) sp bytes

section
variable {v : Svc} {sp : List Span} {code : Nat} (hx : v.ctx = none)
include hx

section
variable (hin : (cmdField v.cmd 36 1).testBit 0 = false)
  (hsp : v.st.copySpans v.rep.sub.1 none (cmdField v.cmd 24 8) (cmdField v.cmd 32 4) true = (sp, code)) (hlive : v.st.replayed = false)
include hin hsp hlive

theorem State.hostCopy_in (bytes : List Byte) : State.hostCopy v bytes =
    if (bytes.take (spansLen sp)).length < spansLen sp then (0xC1, (bytes.take (spansLen sp)).length, (State.copiedIn v sp bytes).hifEvt 8)
    else (code, spansLen sp, State.copiedIn v sp bytes) := by
  simp only [State.hostCopy, hx, hin, hsp, Bool.not_false, Option.isSome_none, Bool.false_eq_true, if_false, State.dmaIn_of_live hlive,
    State.copiedIn, spansLen]

/-- A copy whose bytes have all arrived moves them, and ends with the status that stops it on the device's side (R594). -/
theorem State.hostCopy_in_whole {bytes : List Byte} (hn : bytes.length = spansLen sp) :
    State.hostCopy v bytes = (code, spansLen sp, State.copiedIn v sp bytes) := by
  rw [State.hostCopy_in hx hin hsp hlive, if_neg (by rw [List.length_take]; omega)]

/-- A host-side transfer that fails ends the copy with the bytes that have arrived (R594). -/
theorem State.hostCopy_in_short {bytes : List Byte} (hn : bytes.length < spansLen sp) :
    State.hostCopy v bytes = (0xC1, bytes.length, (State.copiedIn v sp bytes).hifEvt 8) := by
  rw [State.hostCopy_in hx hin hsp hlive, List.take_of_length_le (Nat.le_of_lt hn), if_pos hn]

end

/-- A copy out of the device sends the bytes that its spans gave (R513, R594). -/
theorem State.hostCopy_out {b : List Byte} {u : State} (hout : (cmdField v.cmd 36 1).testBit 0 = true)
    (hsp : v.st.copySpans v.rep.sub.1 none (cmdField v.cmd 24 8) (cmdField v.cmd 32 4) false = (sp, code))
    (hread : v.st.copyRead (if v.rep.sub.1 = pf0 then 0x7FF else v.rep.sub.1) sp = (b, false, u)) (bytes : List Byte) :
    State.hostCopy v bytes = (code, b.length,
      (u.countHost v.rep.sub.1 (cmdField v.cmd 24 8) b.length false).dmaOut v.rep (cmdField v.cmd 16 8) 0 (b.length / 4096 + 1) b) := by
  simp only [State.hostCopy, hx, hout, hsp, hread, Bool.not_true, Option.isSome_none, Bool.false_eq_true, if_false, if_true]

end

/-! ### SSI_SEND and ACC_READ -/

section
variable {s : State} {o : Origin} {v : Svc} (hok : v.code = 0)
include hok

section
variable {bytes : List Byte} (hv : s.svc o 0x16 0 = some v)
include hv

/-- A message that has arrived whole and whose header gives its length is accepted (R595). -/
theorem exec_ssiSend_accepted (hlive : v.st.replayed = false) (hlo : 24 ≤ cmdField v.cmd 24 4) (hhi : cmdField v.cmd 24 4 ≤ 1048576)
    (hn : bytes.length = cmdField v.cmd 24 4) (hlen : byteField bytes 4 4 = cmdField v.cmd 24 4) :
    exec (.ssiSend o bytes) s = .next ((((v.st.dmaIn pf0 (cmdField v.cmd 16 8) (cmdField v.cmd 24 4) bytes).2.acct 1536 14
      (cmdField v.cmd 24 4)).ssiAccept v.rep.sub.2.1 bytes).svcEnd o v.rep 0 0) := by
  have hsize : ¬(cmdField v.cmd 24 4 < 24 ∨ 1048576 < cmdField v.cmd 24 4) := by omega
  have hbytes : (v.st.dmaIn pf0 (cmdField v.cmd 16 8) (cmdField v.cmd 24 4) bytes).1 = bytes := by
    rw [State.dmaIn_of_live hlive, ← hn, List.take_length]
  change execSsiSend o bytes s = _
  refine State.service_of_done hv hok ?_
  simp only [if_neg hsize, hbytes, hn, hlen, Nat.lt_irrefl, ne_eq, not_true_eq_false, if_false]

/-- A message below its smallest length is malformed (R595). -/
theorem exec_ssiSend_short (hlen : cmdField v.cmd 24 4 < 24) : exec (.ssiSend o bytes) s = .next (v.st.svcEnd o v.rep 0xC3 0) := by
  change execSsiSend o bytes s = _
  exact State.service_of_done hv hok (if_pos (.inl hlen))

end

section
variable (hv : s.svc o 0x17 0 = some v)
include hv

/-- A VF reads its own account (R620). -/
theorem exec_accRead_own (hf : v.rep.sub.1 ≠ pf0) :
    exec (.accRead o) s = .next (((v.st.acct (fnAcct v.rep.sub.1) 14 128).dmaOut v.rep (cmdField v.cmd 16 8) 0 1
      (v.st.acctBytes v.rep.sub.1)).svcEnd o v.rep 0 0) := by
  have hbad : ¬(v.rep.sub.1 = pf0 ∧ cmdField v.cmd 24 2 ≠ 0xFFFF ∧ 1536 ≤ cmdField v.cmd 24 2) := fun h => hf h.1
  change execAccRead o s = _
  refine State.service_of_done hv hok ?_
  simp only [if_neg hbad, if_pos hf]

/-- PF0 reads the account that it names (R620). -/
theorem exec_accRead_named (hf : v.rep.sub.1 = pf0) (hk : cmdField v.cmd 24 2 < 1536) :
    exec (.accRead o) s = .next (((v.st.acct 1536 14 128).dmaOut v.rep (cmdField v.cmd 16 8) 0 1
      (v.st.acctBytes (cmdField v.cmd 24 2))).svcEnd o v.rep 0 0) := by
  have hbad : ¬(v.rep.sub.1 = pf0 ∧ cmdField v.cmd 24 2 ≠ 0xFFFF ∧ 1536 ≤ cmdField v.cmd 24 2) := by omega
  have hnamed : cmdField v.cmd 24 2 ≠ 0xFFFF := by omega
  have hown : fnAcct v.rep.sub.1 = 1536 := by rw [hf]; rfl
  change execAccRead o s = _
  refine State.service_of_done hv hok ?_
  simp only [if_neg hbad, if_neg (not_not_intro hf), if_neg hnamed, hown]

end

end

/-! ### The statement -/

/-- Settles O43: each submission's branch is the one that its conditions name; outside a replay the bytes that arrive are those that move. -/
theorem hostSubmissions : Obligations.HostSubmissions := by
  unfold Obligations.HostSubmissions
  refine ⟨fun s f q v x hv hok hx => ⟨?queued, ?refused⟩, ?copy, ?copyIn, ?copyShort, ?copyOut, ?send, fun s o v hok hv => ⟨?own, ?named⟩⟩
  case queued => exact fun l a b ha hb => ⟨_, exec_listSubmit_queued hv hok hx ha hb, rfl⟩
  case refused => exact fun code l a ha hc => ⟨_, exec_listSubmit_refused hv hok hx ha hc, rfl⟩
  case copy =>
    rintro s f q c rest v bytes r hq hsp hv hok rfl
    exact ⟨_, exec_hostCopy_placed hq hsp hv hok bytes, rfl⟩
  case copyIn =>
    rintro v sp n bytes hx hlive hin hsp rfl hn
    rw [State.hostCopy_in_whole hx hin hsp hlive hn]
    exact ⟨rfl, rfl, State.copiedIn_mem hlive hn⟩
  case copyShort =>
    rintro v sp code n bytes hx hlive hin hsp rfl hn
    rw [State.hostCopy_in_short hx hin hsp hlive hn]
    exact ⟨rfl, rfl⟩
  case copyOut =>
    intro v sp code b bytes u hx hout hsp hread
    rw [State.hostCopy_out hx hout hsp hread]
    exact ⟨rfl, rfl, rfl⟩
  case send =>
    rintro s o v bytes len hok hv rfl hlive
    exact ⟨fun hlo hhi hn hlen => ⟨_, exec_ssiSend_accepted hok hv hlive hlo hhi hn hlen, rfl⟩, fun hlen => ⟨_, exec_ssiSend_short hok hv hlen, rfl⟩⟩
  case own => exact fun hf => ⟨_, exec_accRead_own hok hv hf, rfl⟩
  case named =>
    rintro k hf rfl hk
    exact ⟨_, exec_accRead_named hok hv hf hk, rfl⟩

end Sys2Proof.Machine
end

section
/-! PROOFS. A list's progress on its unit: commands, handles and acknowledgements (R256 to R258, R287, R288). -/
namespace Sys2Proof.Machine

/-! ### Frames, read by what a unit runs -/

theorem Only.run {ps : List Part} {s t : State} (h : Only ps s t) (hp : .units ∉ ps) (u : Nat) : t.run u = s.run u :=
  congrArg (fun l => (Tab.get l {} u).run) (h.same .units hp)

theorem State.countRefuse_only (s : State) (code : Nat) : Only [.regs] s (s.countRefuse code) :=
  have : Has [.regs] .regs := Has.of rfl
  (State.countRefuse_stays _ _ (Stays.refl [.regs] s)).only

/-! ### The next command -/

section
variable {s : State} {u : Nat} {r : Running} {x : Ctx}

/-- Whatever its format and stamps say, a command that becomes current leaves its unit at that command of that list (R83 to R86, R256). -/
theorem State.enterCmd_run (h : s.run u = some r) : ∃ k, (s.enterCmd u).run u = some k ∧ k.idx = r.idx ∧ k.list = r.list := by
  have hfail {t : State} (ht : t.run u = some r) (code : Nat) :
      ∃ k, (t.failList u code).run u = some k ∧ k.idx = r.idx ∧ k.list = r.list := ⟨_, State.failList_run ht, rfl, rfl⟩
  have hrefused (code : Nat) : (s.countRefuse code).run u = some r := ((s.countRefuse_only code).run (by decide) u).trans h
  unfold State.enterCmd
  split
  · next hnone => cases h.symm.trans hnone
  next r' hr' =>
  obtain rfl := Option.some.inj (h.symm.trans hr')
  split
  · exact hfail h _
  · exact hfail h _
  split
  · exact hfail h _
  split
  · exact hfail h _
  split
  · exact hfail (hrefused _) _
  split
  · exact hfail h _
  split
  · exact ⟨_, State.setRun_run .., rfl, rfl⟩
  extract_lets code gcode
  split
  · exact hfail (hrefused _) _
  split
  · exact hfail h _
  split
  · exact hfail (hrefused _) _
  · exact ⟨_, State.setRun_run .., rfl, rfl⟩

/-- After its last command a list ends normally (R257). -/
theorem State.advance_of_last (h : s.run u = some r) (hn : r.list.count ≤ r.idx + 1) :
    s.advance u = s.setRun u (some { r with ending := some 0, stage := .ready, buf := [] }) := by
  simp only [State.advance, h, if_pos hn]

/-- Before its last command a list goes on to the next (R257). -/
theorem State.advance_run (h : s.run u = some r) (hn : r.idx + 1 < r.list.count) (hx : s.ctx? r.list.ctx = some x) :
    ∃ k, (s.advance u).run u = some k ∧ k.idx = r.idx + 1 ∧ k.list = r.list := by
  simp only [State.advance, h, if_neg (Nat.not_le.mpr hn), hx]
  exact State.enterCmd_run (r := s.refill x { r with idx := r.idx + 1, buf := r.buf.drop 1, taken := none, stage := .ready }) (State.setRun_run ..)

end

/-! ### Handle queues -/

@[simp] theorem Ctx.setHqueue_hqueue (x : Ctx) (q : Nat) (l : List Handle) : (x.setHqueue q l).hqueue q = l := Tab.get_set_self _ _ _ _

section
variable {s : State} {u ctx q : Nat} {r : Running} {x : Ctx} {h : Handle} {l : List Handle} (hu : isUnit u = true) (hrun : s.run u = some r)
  (hend : r.ending = none)

/-- A released handle stands at the end of its queue, not yet visible (R288). -/
theorem State.putHandle_of_room (hx : s.ctx? ctx = some x) (hout : x.st ≠ .swapOut) (hin : x.st ≠ .swapIn) (hroom : (x.hqueue q).length < 32) :
    s.putHandle ctx q h = some (s.setCtx (x.setHqueue q (x.hqueue q ++ [{ h with visible := false }]))) := by
  simp [State.putHandle, hx, hout, hin, hroom]

/-- A full queue, or a swap of its context, holds the producer (R288). -/
theorem State.putHandle_held (hx : s.ctx? ctx = some x) (hheld : x.st = .swapOut ∨ x.st = .swapIn ∨ 32 ≤ (x.hqueue q).length) :
    s.putHandle ctx q h = none := by
  simp only [State.putHandle, hx, if_pos hheld]

include hu hrun hend

/-- The waiting unit of lowest code takes the visible head of its queue (R287). -/
theorem exec_handleWaitMet_taken {c : Cmd} {rest : List Cmd} (hbuf : r.buf = c :: rest) (hx : s.ctx? r.list.ctx = some x)
    (hstage : r.stage = .onHandle) (hq : x.hqueue (cWaitq c) = h :: l) (hvis : h.visible = true)
    (hlow : (s.waiters x.id (cWaitq c)).any (fun v => decide (v < u)) = false) (hinq : s.fab.inq = []) :
    exec (.handleWaitMet u) s = .next ((s.setCtx (x.setHqueue (cWaitq c) l)).setRun u
      (some { r with taken := some h, handles := r.handles ++ [(cWaitq c, h)], stage := if cFence c then .onFence else .ready })) := by
  have hdrain (k : Option Running) : ((s.setCtx (x.setHqueue (cWaitq c) l)).setRun u k).drainIn = _ := State.drainIn_of_empty hinq
  change execHandleWaitMet u s = _
  simp [execHandleWaitMet, hu, hrun, hbuf, hx, hstage, hend, hlow, Ctx.headVisible, hq, hvis, hdrain]

/-- An output handle that is not the last of its command enters its queue, and the unit keeps the others (R288). -/
theorem exec_handleRelease_entered {k : Nat × Nat × Handle} {rest : List (Nat × Nat × Handle)} {t : State}
    (hout : r.out = (ctx, q, h) :: k :: rest) (ht : s.putHandle ctx q h = some t) :
    exec (.handleRelease u) s = .next (t.setRun u (some { r with out := k :: rest })) := by
  change execHandleRelease u s = _
  simp [execHandleRelease, hu, hrun, hout, hend, ht]

theorem exec_handleRelease_held {rest : List (Nat × Nat × Handle)} (hout : r.out = (ctx, q, h) :: rest) (ht : s.putHandle ctx q h = none) :
    exec (.handleRelease u) s = .next s := by
  change execHandleRelease u s = _
  simp [execHandleRelease, hu, hrun, hout, hend, ht]

/-! ### Acknowledgements -/

/-- The oldest command that a unit has passed to the hub's service queue leaves it (R258). -/
def State.unqueued (s : State) (u : Nat) : State :=
  { s with sched := { s.sched with service := s.sched.service.filter (fun v => v != u) } }

theorem exec_serviceAck_acked (hstage : r.stage = .onService)
    (hjoin : s.sched.joins.any (fun j => j.2.unit == some u) = false) : exec (.serviceAck u) s = .next ((s.unqueued u).advance u) := by
  change execServiceAck u s = _
  simp [execServiceAck, hu, hrun, hend, hstage, hjoin, State.unqueued]

end

/-! ### The statement -/

/-- Settles O16: a waiting unit takes the head, a released handle joins the end or waits, and an acknowledged unit goes on. -/
theorem handlesAndAcks : Obligations.HandlesAndAcks := by
  unfold Obligations.HandlesAndAcks
  refine fun s u r hu hrun hend => ⟨?wait, ?release, ?held, ?next, ?last⟩
  case wait =>
    intro c rest x h l hbuf hx hid hstage hq hvis hlow hinq
    exact ⟨_, exec_handleWaitMet_taken hu hrun hend hbuf hx hstage hq hvis hlow hinq, State.setRun_run .., _,
      State.setCtx_ctx? (x := x.setHqueue (cWaitq c) l) s hid, Ctx.setHqueue_hqueue ..⟩
  case release =>
    intro ctx q h k rest x hout hx hid hst hst' hroom
    exact ⟨_, exec_handleRelease_entered hu hrun hend hout (State.putHandle_of_room hx hst hst' hroom), State.setRun_run .., _,
      State.setCtx_ctx? (x := x.setHqueue q _) s hid, Ctx.setHqueue_hqueue ..⟩
  case held =>
    exact fun ctx q h rest x hout hx hheld => ⟨_, exec_handleRelease_held hu hrun hend hout (State.putHandle_held hx hheld), rfl⟩
  case next =>
    exact fun x hx hstage hjoin hn => ⟨_, exec_serviceAck_acked hu hrun hend hstage hjoin, State.advance_run (s := s.unqueued u) hrun hn hx⟩
  case last =>
    intro hstage hjoin hn
    exact ⟨_, exec_serviceAck_acked hu hrun hend hstage hjoin,
      (congrArg (State.run · u) (State.advance_of_last (s := s.unqueued u) hrun hn)).trans (State.setRun_run ..)⟩

end Sys2Proof.Machine
end

section
/-! PROOFS. Command lists start and end, contexts end (R250 to R256, R282, R597, R598, R609, R674, R787, R788). -/
namespace Sys2Proof.Machine

/-! ### Frames -/

theorem Only.qp {ps : List Part} {s t : State} (h : Only ps s t) (hp : .fns ∉ ps) (f q : Nat) : t.qp f q = s.qp f q :=
  congrArg (fun l => (Tab.get l {} f).qs.get {} q) (h.same .fns hp)

section
variable (s : State)

theorem State.listRecord_only (l : ListRec) (code cmd : Nat) (d : BitVec 96) : Only [.lists, .fns, .regs] s (s.listRecord l code cmd d) :=
  have : Has [.lists, .fns, .regs] .lists := Has.of rfl
  have : Has [.lists, .fns, .regs] .fns := Has.of rfl
  have : Has [.lists, .fns, .regs] .regs := Has.of rfl
  (State.listRecord_stays _ _ _ _ _ (Stays.refl _ s)).only

theorem State.bringBlock_only (i a : Nat) : Only [.ctxs, .mat, .mem] s (s.bringBlock i a) :=
  have : Has [.ctxs, .mat, .mem] .ctxs := Has.of rfl
  have : Has [.ctxs, .mat, .mem] .mat := Has.of rfl
  have : Has [.ctxs, .mat, .mem] .mem := Has.of rfl
  (State.bringBlock_stays _ _ _ (Stays.refl _ s)).only

theorem State.endList_only (u : Nat) : Only [.lists, .ctxs, .units, .fns, .mat, .chm, .fab, .health, .regs] s (s.endList u) :=
  have : Has [.lists, .ctxs, .units, .fns, .mat, .chm, .fab, .health, .regs] .lists := Has.of rfl
  have : Has [.lists, .ctxs, .units, .fns, .mat, .chm, .fab, .health, .regs] .ctxs := Has.of rfl
  have : Has [.lists, .ctxs, .units, .fns, .mat, .chm, .fab, .health, .regs] .units := Has.of rfl
  have : Has [.lists, .ctxs, .units, .fns, .mat, .chm, .fab, .health, .regs] .fns := Has.of rfl
  have : Has [.lists, .ctxs, .units, .fns, .mat, .chm, .fab, .health, .regs] .mat := Has.of rfl
  have : Has [.lists, .ctxs, .units, .fns, .mat, .chm, .fab, .health, .regs] .chm := Has.of rfl
  have : Has [.lists, .ctxs, .units, .fns, .mat, .chm, .fab, .health, .regs] .fab := Has.of rfl
  have : Has [.lists, .ctxs, .units, .fns, .mat, .chm, .fab, .health, .regs] .health := Has.of rfl
  have : Has [.lists, .ctxs, .units, .fns, .mat, .chm, .fab, .health, .regs] .regs := Has.of rfl
  (State.endList_stays _ _ (Stays.refl _ s)).only

theorem State.freeUnit_only (u : Nat) : Only [.lists, .ctxs, .units, .mat, .chm, .fab, .health] s (s.freeUnit u) :=
  have : Has [.lists, .ctxs, .units, .mat, .chm, .fab, .health] .lists := Has.of rfl
  have : Has [.lists, .ctxs, .units, .mat, .chm, .fab, .health] .ctxs := Has.of rfl
  have : Has [.lists, .ctxs, .units, .mat, .chm, .fab, .health] .units := Has.of rfl
  have : Has [.lists, .ctxs, .units, .mat, .chm, .fab, .health] .mat := Has.of rfl
  have : Has [.lists, .ctxs, .units, .mat, .chm, .fab, .health] .chm := Has.of rfl
  have : Has [.lists, .ctxs, .units, .mat, .chm, .fab, .health] .fab := Has.of rfl
  have : Has [.lists, .ctxs, .units, .mat, .chm, .fab, .health] .health := Has.of rfl
  (State.freeUnit_stays _ _ (Stays.refl _ s)).only

end

/-! ### Without a loaded model the inference service does nothing -/

section
variable {s : State}

theorem State.seeEnd_of_no_models (h : s.inf.models = []) (e : Nat × DWord × Nat) : s.seeEnd e = s := by
  have hnone : s.shardOf e.1 = none := by
    unfold State.shardOf
    split
    · rfl
    · split
      · rfl
      · rw [State.model, h, Tab.find_nil, Option.map_none]
  simp only [State.seeEnd, hnone]

theorem State.forgetEnds_only (s : State) (l : List (Nat × DWord × Nat)) : Only [.lists] s { s with sched := { s.sched with ended := l } } where
  same p hp := by
    cases p
    case lists => exact absurd List.mem_cons_self hp
    all_goals rfl

/-- Ends that no loaded model waits for are seen and forgotten (R324). -/
theorem State.seeEnds_of_no_models (fuel : Nat) (h : s.inf.models = []) :
    Only [.lists] s (s.seeEnds fuel) ∧ (s.seeEnds fuel).inf.models = [] := by
  induction fuel generalizing s with
  | zero => exact ⟨Only.refl _ _, h⟩
  | succ fuel ih =>
    rw [State.seeEnds]
    split
    · exact ⟨Only.refl _ _, h⟩
    · next e rest _ =>
      rw [State.seeEnd_of_no_models (s := { s with sched := { s.sched with ended := rest } }) h]
      obtain ⟨honly, hmodels⟩ := ih (s := { s with sched := { s.sched with ended := rest } }) h
      exact ⟨(State.forgetEnds_only s rest).trans honly, hmodels⟩

theorem State.reapSteps_of_no_models (h : s.inf.models = []) : Only [.lists] s s.reapSteps := by
  obtain ⟨honly, hmodels⟩ := State.seeEnds_of_no_models (s.sched.ended.length + s.inf.models.foldl (fun k p => k + p.2.waiting.length) 0 + 1) h
  rw [State.reapSteps, hmodels]
  exact honly

end

/-! ### A list starts -/

section
variable {s : State} {x y : Ctx} {l : ListRec} {i u : Nat}

theorem State.setCtx_ctx?_isSome (y : Ctx) (h : (s.ctx? i).isSome = true) : ((s.setCtx y).ctx? i).isSome = true := by
  by_cases hi : i = y.id
  · rw [hi, State.setCtx_ctx? s rfl, Option.isSome_some]
  · rw [State.ctx?, State.setCtx, Tab.find_set_ne _ _ hi]
    exact h

/-- Moving blocks for a list ends no context (R787). -/
theorem State.saveBlock_ctx?_isSome (a : Nat) (h : (s.ctx? i).isSome = true) : ((s.saveBlock a).ctx? i).isSome = true := by
  unfold State.saveBlock
  extract_lets k
  split
  · exact h
  · next t _ =>
    change ((s.updCtx t _).ctx? i).isSome = true
    unfold State.updCtx
    split
    · exact h
    · exact State.setCtx_ctx?_isSome _ h

theorem State.reloadBlock_ctx?_isSome (j a : Nat) (h : (s.ctx? i).isSome = true) : ((s.reloadBlock j a).ctx? i).isSome = true := by
  unfold State.reloadBlock
  split
  · exact h
  · split
    · exact h
    · exact State.setCtx_ctx?_isSome _ h

theorem State.bringBlock_ctx?_isSome (j a : Nat) (h : (s.ctx? i).isSome = true) : ((s.bringBlock j a).ctx? i).isSome = true := by
  unfold State.bringBlock
  split
  · exact h
  · split
    · exact h
    · refine State.reloadBlock_ctx?_isSome _ _ ?_
      split
      · exact State.saveBlock_ctx?_isSome _ h
      · exact h

/-- A started list stands at its header (R256). -/
theorem State.startList_run (scaled : Nat) : ∃ r, (s.startList x l u scaled).run u = some r ∧ r.list = l ∧ r.idx = 0 ∧ r.start = s.now ∧
    r.ending = none := by
  rw [State.startList, (State.refresh_only _ _).run (by decide), State.setRun_run]
  exact ⟨_, rfl, rfl, rfl, rfl, rfl⟩

theorem State.launchList_run (h : s.ctx? x.id = some y) : ∃ r, (s.launchList x l u).run u = some r ∧ r.list = l ∧ r.idx = 0 ∧ r.start = s.now ∧
    r.ending = none := by
  unfold State.launchList
  extract_lets scaled t
  have ht : (t.ctx? x.id).isSome = true ∧ t.now = s.now := by
    unfold t
    split
    · exact ⟨State.bringBlock_ctx?_isSome _ _ (by rw [h, Option.isSome_some]), congrArg TimeUnit.tc ((s.bringBlock_only _ _).same .time (by decide))⟩
    · exact ⟨by rw [h, Option.isSome_some], rfl⟩
  obtain ⟨z, hz⟩ := Option.isSome_iff_exists.mp ht.1
  rw [hz, ← ht.2]
  exact State.startList_run scaled

/-- An update that leaves a context's ID and queue leaves its queue in the context it stores. -/
theorem State.updCtx_queue {f : Ctx → Ctx} (h : s.ctx? i = some x) (hid : x.id = i) (hf : (f x).id = x.id ∧ (f x).queue = x.queue) :
    ∃ y, (s.updCtx i f).ctx? i = some y ∧ y.queue = x.queue := by
  rw [State.updCtx_of_ctx? h]
  exact ⟨f x, State.setCtx_ctx? s (hf.1.trans hid), hf.2⟩

/-- A context whose state has followed what it may run keeps its queue (R133). -/
theorem State.refresh_queue (h : s.ctx? i = some x) (hid : x.id = i) : ∃ y, (s.refresh i).ctx? i = some y ∧ y.queue = x.queue := by
  refine State.updCtx_queue h hid ?_
  repeat' split
  all_goals exact ⟨rfl, rfl⟩

/-- A refused list has left its context's queue (R251). -/
theorem State.refuseList_queue (s : State) (l : ListRec) (code : Nat) (hid : x.id = i) :
    ∃ y, ((s.refuseList x l code).refresh i).ctx? i = some y ∧ y.queue = x.queue.filter (fun k => k.seq != l.seq) :=
  State.refresh_queue (x := { x with queue := x.queue.filter (fun k => k.seq != l.seq) })
    (((State.listRecord_only ..).ctx? (by decide) i).trans (State.setCtx_ctx? s hid)) hid

/-- The inference service is no part of a list's refusal (R251). -/
theorem State.refuseList_models (s : State) (x : Ctx) (l : ListRec) (code i : Nat) :
    ((s.refuseList x l code).refresh i).inf.models = s.inf.models :=
  congrArg Infer.models (((State.refresh_only _ _).same .inf (by decide)).trans ((State.listRecord_only ..).same .inf (by decide)))

/-! ### LIST_START -/

section
variable {cls : Nat} (hcls : cls < 6) (hx : s.ctx? i = some x)
include hcls hx

/-- A list of a resident context is refused for want of its unit (R251). -/
theorem exec_listStart_refused (hres : x.resident = true)
    (hl : (x.queue.filter (fun k => k.cls == cls)).find? (fun k => s.unitRefused x cls k.unit) = some l) :
    exec (.listStart i cls) s = .next (((s.refuseList x l (quarStatus cls)).refresh i).reapSteps) := by
  change execListStart i cls s = _
  simp only [execListStart, if_neg (Nat.not_le.mpr hcls), hx, if_pos hres, hl]

/-- The first list of the class that may run on a unit starts there when its grain fits (R125, R250). -/
theorem exec_listStart_started (hown : x.radio = false ∨ cls = 0)
    (hin : (x.queue.filter (fun k => k.cls == cls)).find? (fun k => s.unitRefused x cls k.unit) = none)
    (hl : (x.queue.filter (fun k => k.cls == cls)).find? (fun k => s.mayRun x k && (s.unitFor x k).isSome) = some l)
    (hu : s.unitFor x l = some u) (hfit : s.fits x l u = true) : exec (.listStart i cls) s = .next (s.launchList x l u) := by
  have hservice : ¬(x.radio = true ∧ cls ≠ 0) := fun ⟨hr, hc⟩ => hown.elim (fun h => Bool.false_ne_true (h.symm.trans hr)) hc
  change execListStart i cls s = _
  simp only [execListStart, if_neg (Nat.not_le.mpr hcls), hx, hin, ite_self, if_neg hservice, hl, hu, if_pos hfit]

end

end

/-! ### LIST_END -/

section
variable {s : State} {u code f q slot gen ord : Nat} {r : Running} {l : ListRec}

/-- The record of a host's list joins those that wait for its completion queue (R597, R598). -/
theorem State.listRecord_of_cq (hrep : l.report = .cq f q slot gen ord) (hown : l.own = false) (hon : s.qpOn f q = true) (cmd : Nat)
    (d : BitVec 96) : ((s.listRecord l code cmd d).qp f q).store = (s.qp f q).store ++
      [{ code := code, kind := 1, slot := slot, ref := l.id, gen := gen, ord := ord, aux := l.ctx, detail := BitVec.ofNat 128 (d.toNat + cmd * 2 ^ 96) }] := by
  simp only [State.listRecord, hrep, hown, Bool.false_eq_true, if_false, State.post, hon, if_true]
  rw [State.setQp_qp]

/-- A unit that settles in its state of service runs what it ran (R609). -/
theorem State.settleUnit_run (s : State) (u : Nat) : (s.settleUnit u).run u = s.run u := by
  unfold State.settleUnit
  extract_lets x up
  split
  · rw [State.run, State.setUnit_unit]
    rfl
  · split
    · rfl
    · rw [State.run, State.setUnit_unit]
      rfl
  · rfl
  · rfl

/-- A unit is free of its list (R27). -/
theorem State.freeUnit_run (h : s.run u = some r) : (s.freeUnit u).run u = none := by
  simp only [State.freeUnit, h]
  rw [(State.refresh_only _ _).run (by decide), State.settleUnit_run]
  exact State.setRun_run ..

section
variable (hr : s.run u = some r) (he : r.ending = some code)
include hr he

theorem State.endList_run : (s.endList u).run u = none := by
  simp only [State.endList, hr, he]
  refine State.freeUnit_run (r := r) ?_
  split
  · exact ((State.listRecord_only ..).run (by decide) u).trans hr
  · exact ((State.listRecord_only ..).run (by decide) u).trans hr

/-- The record of a list without a late launch: the index of its last command when it ended normally, of the one that failed else (R597). -/
theorem State.endList_record (hrep : r.list.report = .cq f q slot gen ord) (hown : r.list.own = false) (hlate : r.list.lateCnt = 0)
    (hon : s.qpOn f q = true) : ((s.endList u).qp f q).store = (s.qp f q).store ++
      [{ code := code, kind := 1, slot := slot, ref := r.list.id, gen := gen, ord := ord, aux := r.list.ctx,
         detail := BitVec.ofNat 128 (r.detail.toNat + (if code = 0 then r.list.count - 1 else r.idx) * 2 ^ 96) }] := by
  simp only [State.endList, hr, he, if_neg (fun h => h.2 hlate : ¬(code = 0 ∧ r.list.lateCnt ≠ 0))]
  rw [(State.freeUnit_only ..).qp (by decide), State.listRecord_of_cq hrep hown hon]

end

/-- Tc that a Kudu engine's list has run past its window's close are summed (R121, R199). -/
def State.overSummed (s : State) (u : Nat) : State :=
  match (if uKind u = 5 then (s.region (uIdx u)).overrun else none) with
  | none => s
  | some c => s.count (Reg.KUD_OVR_TC (uIdx u)) (s.localNow - c)

theorem State.overSummed_only (s : State) (u : Nat) : Only [.regs] s (s.overSummed u) := by
  unfold State.overSummed
  split
  · exact Only.refl _ _
  · exact State.count_only ..

/-- Without a quarantine none waits for the end of a list (R674). -/
theorem State.quarSettled_of_none (s : State) {was : State} (h : was.health.quar = []) (u : Nat) : s.quarSettled was u = s := by
  simp [State.quarSettled, h, Tab.get]

theorem exec_listEnd_ended (hu : isUnit u = true) (hr : s.run u = some r) (he : r.ending = some code) (hq : s.health.quar = []) :
    exec (.listEnd u) s = .next (((s.overSummed u).endList u).reapSteps) := by
  have hnone : r.ending.isNone = false := by rw [he, Option.isNone_some]
  change execListEnd u s = _
  simp only [execListEnd, hu, hr, hnone, Bool.not_true, Bool.false_eq_true, if_false, State.quarSettled_of_none _ hq]
  rfl

end

/-! ### LIST_HDR -/

section
variable {s : State} {u : Nat} {r : Running} {c : Cmd} {rest : List Cmd} (hu : isUnit u = true) (hr : s.run u = some r) (hi : r.idx = 0)
  (he : r.ending = none) (hb : r.buf = c :: rest)
include hu hr hi he hb

theorem exec_listHdr_at_header : exec (.listHdr u) s = .next (if headerOk c then s.advance u else s.failList u 0x60) := by
  change execListHdr u s = _
  simp only [execListHdr, hu, hr, hi, he, hb, Bool.not_true, Bool.false_eq_true, if_false, ne_eq, not_true_eq_false, Option.isSome_none,
    decide_false, Bool.or_self]

end

/-! ### CONTEXT_END -/

section
variable {s : State} {i : Nat} {x : Ctx}

theorem exec_contextEnd (hx : s.ctx? i = some x) : exec (.contextEnd i) s = .next (if s.mayEnd x then s.dropCtx i else s) := by
  change execContextEnd i s = _
  simp only [execContextEnd, hx]

theorem State.dropCtx_ctx? (s : State) (i : Nat) : (s.dropCtx i).ctx? i = none := by
  unfold State.dropCtx
  split
  · next h => exact h
  · next x _ =>
    extract_lets t1 t2 t3
    clear_value t3
    exact Tab.find_del_self t3.sched.ctxs i

end

/-! ### The statement -/

/-- Settles O15: a list starts or is refused as its unit stands, ends with its record, and an ended context is gone. -/
theorem listsStartAndEnd : Obligations.ListsStartAndEnd := by
  unfold Obligations.ListsStartAndEnd
  refine ⟨?started, ?refused, ?ended, ?header, ?contextEnd⟩
  case started =>
    rintro s ctx cls x l u hcls hx rfl hown hin hl hu hfit
    exact ⟨_, exec_listStart_started hcls hx hown hin hl hu hfit, State.launchList_run hx⟩
  case refused =>
    intro s ctx cls x l hcls hx hid hres hmodels hl
    have hkept := (s.refuseList_models x l (quarStatus cls) ctx).trans hmodels
    obtain ⟨y, hy, hq⟩ := State.refuseList_queue s l (quarStatus cls) hid
    exact ⟨_, exec_listStart_refused hcls hx hres hl, y, ((State.reapSteps_of_no_models hkept).ctx? (by decide) ctx).trans hy, hq⟩
  case ended =>
    intro s u r code f q slot gen ord hu hr he hmodels hquar
    have hsum := s.overSummed_only u
    have hrun : (s.overSummed u).run u = some r := (hsum.run (by decide) u).trans hr
    have hinf : ((s.overSummed u).endList u).inf = s.inf := ((State.endList_only ..).same .inf (by decide)).trans (hsum.same .inf (by decide))
    have hreap := State.reapSteps_of_no_models (s := (s.overSummed u).endList u) (by rw [hinf]; exact hmodels)
    refine ⟨_, exec_listEnd_ended hu hr he hquar, (hreap.run (by decide) u).trans (State.endList_run hrun he), ?_⟩
    intro hrep hown hlate hon
    have hqp := hsum.qp (by decide) f q
    rw [hreap.qp (by decide), State.endList_record hrun he hrep hown hlate (by rw [State.qpOn, hqp]; exact hon), hqp]
  case header =>
    intro s u r c rest x hu hr hi he hb hx
    have hexec := exec_listHdr_at_header hu hr hi he hb
    refine ⟨fun hok hn => ?_, fun hbad => ?_⟩
    · obtain ⟨k, hk, hidx, hlist⟩ := State.advance_run hr (by rw [hi]; exact hn) hx
      exact ⟨_, hexec, k, by rw [if_pos hok]; exact hk, by rw [hidx, hi], hlist⟩
    · exact ⟨_, hexec, by rw [if_neg (Bool.not_eq_true _ ▸ hbad)]; exact State.failList_run hr⟩
  case contextEnd =>
    intro s ctx x hx hid
    refine ⟨fun hend => ⟨_, exec_contextEnd hx, ?_⟩, fun hstay => ⟨_, exec_contextEnd hx, if_neg (Bool.not_eq_true _ ▸ hstay)⟩⟩
    rw [if_pos hend]
    exact State.dropCtx_ctx? ..

end Sys2Proof.Machine
end

section
/-! PROOFS. Model instances: what a load checks and makes, what an unload takes down, what the partner answers (R308, R310, R311, R338, R680,
R737, R739). -/
namespace Sys2Proof.Machine

/-! ### The slots, read after an update -/

section
variable {s t : State} {n k i : Nat} {m : Model}

/-- Slots are read from the inference service alone. -/
theorem State.model_congr (h : t.inf = s.inf) (n k : Nat) : t.model n k = s.model n k := by rw [State.model, h, State.model]

@[simp] theorem State.setModel_model (s : State) (n k : Nat) (m : Model) : (s.setModel n k m).model n k = some m := Tab.find_set_self _ _ _

/-- An empty slot stays empty when the model in an occupied one changes. -/
theorem State.setModel_model_of_empty {j : Model} (hn : s.model n k = none) (hj : s.model n i = some j) (m : Model) :
    (s.setModel n i m).model n k = none := by
  have hne : slotKey n k ≠ slotKey n i := by
    intro he
    rw [State.model, he] at hn
    exact absurd (hn.symm.trans hj) nofun
  exact (Tab.find_set_ne s.inf.models m hne).trans hn

end

/-! ### What an unload and a load leave of the inference service -/

theorem State.cancelList_inf (s : State) (i : Nat) (id : DWord) : (s.cancelList i id).inf = s.inf :=
  have : Has (allBut [.inf]) .lists := Has.of rfl
  have : Has (allBut [.inf]) .ctxs := Has.of rfl
  have : Has (allBut [.inf]) .units := Has.of rfl
  have : Has (allBut [.inf]) .fns := Has.of rfl
  have : Has (allBut [.inf]) .mat := Has.of rfl
  have : Has (allBut [.inf]) .chm := Has.of rfl
  have : Has (allBut [.inf]) .fab := Has.of rfl
  have : Has (allBut [.inf]) .regs := Has.of rfl
  (State.cancelList_stays _ _ _ (Stays.refl (allBut [.inf]) s)).only.same .inf (by decide)

theorem State.updCtx_inf (s : State) (i : Nat) (f : Ctx → Ctx) : (s.updCtx i f).inf = s.inf :=
  have : Has [.ctxs] .ctxs := Has.of rfl
  (State.updCtx_stays _ _ _ (Stays.refl [.ctxs] s)).only.same .inf (by decide)

@[simp] theorem State.releaseUnits_inf (s : State) (n tier k : Nat) : (s.releaseUnits n tier k).inf = s.inf :=
  have : Has [.tiers] .tiers := Has.of rfl
  (State.releaseUnits_stays _ _ _ _ (Stays.refl [.tiers] s)).only.same .inf (by decide)

@[simp] theorem State.chargeUnits_inf (s : State) (n tier k : Nat) : (s.chargeUnits n tier k).inf = s.inf :=
  have : Has [.fns, .tiers, .regs] .fns := Has.of rfl
  have : Has [.fns, .tiers, .regs] .tiers := Has.of rfl
  have : Has [.fns, .tiers, .regs] .regs := Has.of rfl
  (State.chargeUnits_stays _ _ _ _ (Stays.refl [.fns, .tiers, .regs] s)).only.same .inf (by decide)

theorem State.foldl_inf {α : Type} {f : State → α → State} (hf : ∀ u a, (f u a).inf = u.inf) (l : List α) (s : State) :
    (l.foldl f s).inf = s.inf := by
  induction l generalizing s with
  | nil => rfl
  | cons a l ih => exact (ih (f s a)).trans (hf s a)

/-- A model that is taken down leaves its slot empty; its pages may pass to another slot of the tenant, which is not the empty one (R338,
R507). -/
theorem State.dropModel_model (s : State) (n k endc code : Nat) : (s.dropModel n k endc code).model n k = none := by
  unfold State.dropModel
  split
  · next h => exact h
  · next m _ =>
    extract_lets ended live out cancelled ending heir left
    have hleft : left.inf = out.inf := calc
      left.inf = ending.inf := State.releaseUnits_inf ..
      _ = cancelled.inf := State.foldl_inf (fun u c => u.updCtx_inf c _) _ _
      _ = out.inf := State.foldl_inf (fun u (p : Nat × DWord) => u.cancelList_inf p.1 p.2) _ _
    have hempty : left.model n k = none := (State.model_congr hleft n k).trans (Tab.find_del_self _ _)
    clear_value heir left
    split
    · exact (State.model_congr (by simp) n k).trans hempty
    · split
      · exact hempty
      · next j hj => exact State.setModel_model_of_empty hempty hj _

/-! ### The load of an image -/

/-- A field that ends within the first `m` bytes. -/
theorem byteField_take (b : List Byte) {i len m : Nat} (h : i + len ≤ m) : byteField (b.take m) i len = byteField b i len := by
  rw [byteField, byteField, List.drop_take, List.take_take, Nat.min_eq_left (by omega)]

/-- The state with a model in its slot, and its image's pages and swap area charged (R310, R334, R507). -/
def State.withModel (s : State) (t slot : Nat) (m : Model) : State :=
  ((s.chargeUnits t 1 m.tarnUnits).chargeUnits t 2 (m.mereUnits + m.swapCap * m.kvPage)).setModel t slot m

@[simp] theorem State.withModel_model (s : State) (t slot : Nat) (m : Model) : (s.withModel t slot m).model t slot = some m :=
  State.setModel_model ..

section
variable {s : State} {t slot addr swap maxSeq : Nat} {b : List Byte} {rep : Report} (hhead : modelHeadOk b = true) (htab : modelTablesOk b = true)
  (hclear : (byteField b 7 1).testBit 1 = false) (hcfg : bit (s.regs.get 0 (Reg.SEC_TENANT t)) 6 = false)

include hclear hcfg in
/-- An image in clear, of a tenant that asks for no signer, needs no trailer (R738). -/
theorem State.modelAuth_of_clear : s.modelAuth t (b.take 128) none = some [] := by
  have henc : (byteField (b.take 128) 7 1).testBit 1 = false := by rw [byteField_take b (by decide), hclear]
  have hgo : ¬((byteField (b.take 128) 7 1).testBit 1 = true ∨ bit (s.regs.get 0 (Reg.SEC_TENANT t)) 6 = true) := by rw [henc, hcfg]; decide
  exact if_neg hgo

/-- The model that an image in clear makes of its shards' contexts. -/
def State.clearModel (s : State) (t slot addr swap maxSeq : Nat) (b : List Byte) (ids : List Nat) (rep : Report) : Model :=
  newModel b addr swap maxSeq ids (s.imageShared t slot (BitVec.ofNat 384 (msNat ((b.drop 80).take 48)))) (bit (s.regs.get 0 (Reg.HLT_TENANT t)) 0) rep

include hhead htab hclear hcfg

/-- A load whose image is in clear ends with the first check of R310 that refuses it. -/
theorem State.loadModel_refused {code : Nat} (hchk : s.modelChk t slot swap b = code) (hcode : code ≠ 0) :
    s.loadModel t slot addr swap maxSeq b none rep = (code, s) := by
  simp [State.loadModel, hhead, State.modelAuth_of_clear hclear hcfg, modelPlain, htab, hchk, hcode]

/-- A load that passes the checks and whose contexts are made fills its slot (R308). -/
theorem State.loadModel_made {ids : List Nat} {k : State} (hchk : s.modelChk t slot swap b = 0) (hmade : s.makeShards t slot b = (0, ids, k)) :
    s.loadModel t slot addr swap maxSeq b none rep = (0, k.withModel t slot (s.clearModel t slot addr swap maxSeq b ids rep)) := by
  simp only [State.loadModel, hhead, State.modelAuth_of_clear hclear hcfg, modelPlain, htab, hchk, hmade, Bool.not_true, Bool.false_eq_true, if_false,
    ne_eq, not_true_eq_false]
  rfl

end

/-- ARITH of the image is that of the package (R310 check 4). -/
theorem State.modelChk_arith {s : State} {t slot swap : Nat} {b : List Byte} (h : byteField b 8 8 ≠ s.regBits Reg.HUB_IDENT 0 32) :
    s.modelChk t slot swap b = 0x71 := if_pos h

/-- The image has no more ranks than its tenant has permitted regions (R310 check 5). -/
theorem State.modelChk_ranks {s : State} {t slot swap : Nat} {b : List Byte} (h : byteField b 8 8 = s.regBits Reg.HUB_IDENT 0 32)
    (hn : (s.permittedList t).length < byteField b 30 1) : s.modelChk t slot swap b = 0x74 :=
  (if_neg (not_not_intro h)).trans (if_pos hn)

/-! ### The commands -/

section
variable {s : State} {o : Origin} {v : Svc} (hok : v.code = 0) (hwords : inferWordsOk v.cmd = true) (hslot : cmdField v.cmd 32 1 < 16)
include hok hwords hslot

section
variable (hv : s.svc o 0x10 0 = some v) (haddr : cmdField v.cmd 16 8 < 2 ^ 48) (hzero : cmdField v.cmd 33 1 = 0) (hlo : cmdField v.cmd 36 2 ≠ 0)
  (hhi : cmdField v.cmd 36 2 ≤ 16384) (hz : zb v.cmd 38 26 = true)

omit hok in
include haddr hzero hlo hhi hz in
/-- None of the conditions holds that make a MODEL_LOAD malformed (R311). -/
theorem modelLoad_wellFormed :
    (!inferWordsOk v.cmd || decide (16 ≤ cmdField v.cmd 32 1) || decide (2 ^ 48 ≤ cmdField v.cmd 16 8) || cmdField v.cmd 33 1 != 0 ||
      cmdField v.cmd 36 2 == 0 || decide (16384 < cmdField v.cmd 36 2) || !zb v.cmd 38 26) = false := by
  rw [hwords, decide_eq_false (Nat.not_le.mpr hslot), decide_eq_false (Nat.not_le.mpr haddr), hzero, beq_false_of_ne hlo,
    decide_eq_false (Nat.not_lt.mpr hhi), hz]
  rfl

include hv haddr hzero hlo hhi hz

/-- A slot that is not empty takes no image (R310). -/
theorem exec_modelLoad_busy (hm : (v.st.model v.fn (cmdField v.cmd 32 1)).isSome = true) :
    exec (.modelLoad o) s = .next (v.st.svcEnd o v.rep 0x75 0) := by
  change execModelLoad o s = _
  refine State.service_of_done hv hok ?_
  simp only [modelLoad_wellFormed hwords hslot haddr hzero hlo hhi hz, hm, Bool.false_eq_true, if_false, if_true]

section
variable {b : List Byte} {tr : Option (List Byte)} {u : State} {r : Nat × State} (hm : v.st.model v.fn (cmdField v.cmd 32 1) = none)
  (hread : v.st.readImage v.fn (cmdField v.cmd 16 8) (cmdField v.cmd 24 8) = (0, b, tr, u)) (hlen : 128 ≤ cmdField v.cmd 24 8)
  (hr : u.loadModel v.fn (cmdField v.cmd 32 1) (cmdField v.cmd 16 8) (cmdField v.cmd 34 2) (cmdField v.cmd 36 2) b tr v.rep = r)
include hm hread hlen hr

theorem exec_modelLoad_refused (hcode : r.1 ≠ 0) : exec (.modelLoad o) s = .next (r.2.svcEnd o v.rep r.1 0) := by
  change execModelLoad o s = _
  refine State.service_of_done hv hok ?_
  simp only [modelLoad_wellFormed hwords hslot haddr hzero hlo hhi hz, hm, hread, hr, if_neg hcode, if_neg (Nat.not_lt.mpr hlen), ne_eq,
    not_true_eq_false, Option.isSome_none, Bool.false_eq_true, if_false]

/-- A load that no partner mirrors completes at once (R308). -/
theorem exec_modelLoad_loaded {m : Model} (hcode : r.1 = 0) (hmade : r.2.model v.fn (cmdField v.cmd 32 1) = some m) (hwait : m.mirrorWait = none) :
    exec (.modelLoad o) s = .next (r.2.svcEnd o v.rep 0 0) := by
  change execModelLoad o s = _
  refine State.service_of_done hv hok ?_
  simp only [modelLoad_wellFormed hwords hslot haddr hzero hlo hhi hz, hm, hread, hr, if_pos hcode, if_neg (Nat.not_lt.mpr hlen), hmade, hwait, ne_eq,
    not_true_eq_false, Option.isSome_none, Bool.false_eq_true, if_false]

end

end

section
variable (hv : s.svc o 0x11 0 = some v) (hforce : cmdField v.cmd 33 1 < 2) (hz : zb v.cmd 16 16 = true) (hz' : zb v.cmd 34 30 = true)

omit hok in
include hforce hz hz' in
/-- None of the conditions holds that make a MODEL_UNLOAD malformed (R311). -/
theorem modelUnload_wellFormed :
    (!inferWordsOk v.cmd || decide (16 ≤ cmdField v.cmd 32 1) || decide (2 ≤ cmdField v.cmd 33 1) || !zb v.cmd 16 16 || !zb v.cmd 34 30) = false := by
  rw [hwords, decide_eq_false (Nat.not_le.mpr hslot), decide_eq_false (Nat.not_le.mpr hforce), hz, hz']
  rfl

include hv hforce hz hz'

theorem exec_modelUnload_empty (hm : v.st.modelReady v.fn (cmdField v.cmd 32 1) = none) :
    exec (.modelUnload o) s = .next (v.st.svcEnd o v.rep 0x76 0) := by
  change execModelUnload o s = _
  refine State.service_of_done hv hok ?_
  simp only [modelUnload_wellFormed hwords hslot hforce hz hz', hm, Bool.false_eq_true, if_false]

section
variable {m : Model} (hm : v.st.modelReady v.fn (cmdField v.cmd 32 1) = some m)
include hm

/-- Without sequences, or with FORCE, the model is taken down (R338). -/
theorem exec_modelUnload_dropped (hfree : v.st.seqsOf v.fn (cmdField v.cmd 32 1) = [] ∨ cmdField v.cmd 33 1 = 1) :
    exec (.modelUnload o) s = .next ((v.st.dropModel v.fn (cmdField v.cmd 32 1) 6 0).svcEnd o v.rep 0 0) := by
  have hgo : ¬(v.st.seqsOf v.fn (cmdField v.cmd 32 1) ≠ [] ∧ (!(cmdField v.cmd 33 1).testBit 0) = true) := by
    rintro ⟨hseqs, hkept⟩
    rw [hfree.resolve_left hseqs] at hkept
    exact absurd hkept (by decide)
  change execModelUnload o s = _
  refine State.service_of_done hv hok ?_
  simp only [modelUnload_wellFormed hwords hslot hforce hz hz', hm, if_neg hgo, Bool.false_eq_true, if_false]

/-- Sequences keep a model that is not forced out (R338). -/
theorem exec_modelUnload_kept (hseqs : v.st.seqsOf v.fn (cmdField v.cmd 32 1) ≠ []) (hkept : cmdField v.cmd 33 1 = 0) :
    exec (.modelUnload o) s = .next (v.st.svcEnd o v.rep 0x75 0) := by
  have hstay : v.st.seqsOf v.fn (cmdField v.cmd 32 1) ≠ [] ∧ (!(cmdField v.cmd 33 1).testBit 0) = true := ⟨hseqs, by rw [hkept]; rfl⟩
  change execModelUnload o s = _
  refine State.service_of_done hv hok ?_
  simp only [modelUnload_wellFormed hwords hslot hforce hz hz', hm, if_pos hstay, Bool.false_eq_true, if_false]

end

end

end

/-- The partner's answer to a load that waits for it (R680). -/
theorem exec_mirrorAck {s : State} {t slot : Nat} {m : Model} {rep : Report} (ht : t < 1024) (hslot : slot < 16) (hm : s.model t slot = some m)
    (hwait : m.mirrorWait = some rep) (ok : Bool) :
    exec (.mirrorAck t slot ok) s = .next (
      if ok then (s.setModel t slot { m with mirrorWait := none }).finishService none rep 0 0
      else (m.ctxs.foldl (fun k c => k.dropCtx c) (s.dropModel t slot 6 0)).finishService none rep 0xD0 0) := by
  have hpart : ¬(1024 ≤ t ∨ 16 ≤ slot) := by omega
  change execMirrorAck t slot ok s = _
  cases ok <;> simp [execMirrorAck, hpart, hm, hwait]

/-! ### The statement -/

/-- Settles O30: each command answers by the slot as it stands; an image in clear is refused by its first check or fills its slot. -/
theorem modelCommands : Obligations.ModelCommands := by
  unfold Obligations.ModelCommands
  refine ⟨?commands, ?image, fun s t slot endc code => s.dropModel_model t slot endc code, ?mirror⟩
  case commands =>
    rintro s o v c slot hok rfl hwords rfl hslot
    refine ⟨fun hv haddr hzero hlo hhi hz => ⟨?busy, ?load⟩, fun m hv hforce hz hz' => ?unload⟩
    case busy => exact fun hm => ⟨_, exec_modelLoad_busy hok hwords hslot hv haddr hzero hlo hhi hz hm, rfl⟩
    case load =>
      intro b tr u r hm hread hlen hr
      exact ⟨fun hcode => ⟨_, exec_modelLoad_refused hok hwords hslot hv haddr hzero hlo hhi hz hm hread hlen hr.symm hcode, rfl⟩,
        fun m hcode hmade hwait =>
          ⟨_, exec_modelLoad_loaded hok hwords hslot hv haddr hzero hlo hhi hz hm hread hlen hr.symm hcode hmade hwait, rfl⟩⟩
    case unload =>
      exact ⟨fun hm => ⟨_, exec_modelUnload_empty hok hwords hslot hv hforce hz hz' hm, rfl⟩,
        fun hm hfree => ⟨_, exec_modelUnload_dropped hok hwords hslot hv hforce hz hz' hm hfree, rfl⟩,
        fun hm hseqs hkept => ⟨_, exec_modelUnload_kept hok hwords hslot hv hforce hz hz' hm hseqs hkept, rfl⟩⟩
  case image =>
    intro s t slot addr swap maxSeq b rep hhead htab hclear hcfg
    refine ⟨fun harith => ?_, fun harith hranks => ?_, fun ids k hchk hmade => ?_⟩
    · rw [State.loadModel_refused hhead htab hclear hcfg (State.modelChk_arith harith) (by decide)]
    · rw [State.loadModel_refused hhead htab hclear hcfg (State.modelChk_ranks harith hranks) (by decide)]
    · rw [State.loadModel_made hhead htab hclear hcfg hchk hmade]
      exact ⟨rfl, _, State.withModel_model .., rfl, rfl, rfl, rfl, rfl, rfl, rfl, rfl, rfl, rfl, rfl, rfl⟩
  case mirror =>
    intro s t slot m rep ht hslot hm hwait
    exact ⟨⟨_, exec_mirrorAck ht hslot hm hwait true, rfl⟩, ⟨_, exec_mirrorAck ht hslot hm hwait false, rfl⟩⟩

end Sys2Proof.Machine
end

section
/-! PROOFS. Sequences: submission, cancellation, their ends, and the boundary of a step (R312 to R314, R319, R321, R325, R337, R340, R639). -/
namespace Sys2Proof.Machine

/-! ### SEQ_SUBMIT -/

/-- The sequence that an accepted submission makes; its occurrence number is drawn first. -/
def State.submittedSeq (s : State) (t : Nat) (c : Cmd) (prompt : List Byte) (rep : Report) : Sequence :=
  let k := s.occur (2 ^ 80 + t * 2 ^ 32 + cmdField c 16 4)
  k.2.newSeq t c prompt rep k.1

/-- The state with that sequence queued and its prompt's copy charged (R314). -/
def State.withSubmitted (s : State) (t : Nat) (c : Cmd) (prompt : List Byte) (rep : Report) : State :=
  let q := s.submittedSeq t c prompt rep
  let u := (s.occur (2 ^ 80 + t * 2 ^ 32 + cmdField c 16 4)).2
  { u with inf := { u.inf with seqs := u.inf.seqs ++ [q] } }.chargeUnits t 2 q.promptUnits

theorem State.withSubmitted_inf (s : State) (t : Nat) (c : Cmd) (prompt : List Byte) (rep : Report) :
    (s.withSubmitted t c prompt rep).inf = { s.inf with seqs := s.inf.seqs ++ [s.submittedSeq t c prompt rep] } :=
  State.chargeUnits_inf ..

section
variable {s : State} {o : Origin} {v : Svc} (hok : v.code = 0) (hwords : inferWordsOk v.cmd = true)
include hok hwords

section
variable {prompt : List Byte} (hv : s.svc o 0x12 0 = some v)
include hv

theorem exec_seqSubmit_refused (hcode : v.st.seqRefusal v.fn v.cmd prompt ≠ 0) :
    exec (.seqSubmit o prompt) s = .next (v.st.svcEnd o v.rep (v.st.seqRefusal v.fn v.cmd prompt) 0) := by
  change execSeqSubmit o prompt s = _
  refine State.service_of_done hv hok ?_
  simp [hwords, hcode]

theorem exec_seqSubmit_queued (hcode : v.st.seqRefusal v.fn v.cmd prompt = 0) :
    exec (.seqSubmit o prompt) s =
      .next ((v.st.withSubmitted v.fn v.cmd prompt v.rep).svcEnd o v.rep 0 (BitVec.ofNat 128 (cmdField v.cmd 16 4))) := by
  change execSeqSubmit o prompt s = _
  refine State.service_of_done hv hok ?_
  simp only [hwords, hcode, Bool.not_true, Bool.false_eq_true, if_false, ne_eq, not_true_eq_false]
  rfl

end

/-! ### SEQ_CANCEL -/

section
variable (hv : s.svc o 0x13 0 = some v) (hz : zb v.cmd 21 43 = true) (hfence : v.st.health.fenced = false)
include hv hz hfence

theorem exec_seqCancel_unknown
    (hq : v.st.inf.seqs.find? (fun q => q.tenant == v.fn && q.id == cmdField v.cmd 16 4 && q.slot == cmdField v.cmd 20 1) = none) :
    exec (.seqCancel o) s = .next (v.st.svcEnd o v.rep 0x7B 0) := by
  change execSeqCancel o s = _
  refine State.service_of_done hv hok ?_
  cases hm : v.st.model v.fn (cmdField v.cmd 20 1) <;> simp [hwords, hz, hfence, hm, hq]

/-- A sequence that its submitter cancels is marked; it ends at the next boundary (R337). -/
theorem exec_seqCancel_marked {q : Sequence}
    (hq : v.st.inf.seqs.find? (fun q => q.tenant == v.fn && q.id == cmdField v.cmd 16 4 && q.slot == cmdField v.cmd 20 1) = some q) :
    exec (.seqCancel o) s = .next ((v.st.setSeq { q with cancelled := true }).svcEnd o v.rep 0 0) := by
  change execSeqCancel o s = _
  refine State.service_of_done hv hok ?_
  cases hm : v.st.model v.fn (cmdField v.cmd 20 1) <;> simp [hwords, hz, hfence, hm, hq]

end

end

/-! ### The refusals of a submission -/

section
variable {s : State} {t : Nat} {c : Cmd} {prompt : List Byte} (hslot : cmdField c 20 1 < 16)
include hslot

theorem State.seqRefusal_of_no_model (hm : s.modelReady t (cmdField c 20 1) = none) : s.seqRefusal t c prompt = 0x76 := by
  simp only [State.seqRefusal, if_pos hslot, hm]

section
variable {m : Model} (hm : s.modelReady t (cmdField c 20 1) = some m) (hfence : s.health.fenced = false)
include hm hfence

theorem State.seqRefusal_of_params (hp : seqParamsOk m c prompt = false) : s.seqRefusal t c prompt = 0x79 := by
  simp [State.seqRefusal, hslot, hm, hfence, hp]

section
variable (hp : seqParamsOk m c prompt = true)
include hp

theorem State.seqRefusal_of_no_id (hid : cmdField c 16 4 = 0) : s.seqRefusal t c prompt = 0x78 := by
  simp [State.seqRefusal, hslot, hm, hfence, hp, hid]

theorem State.seqRefusal_of_full (hid : cmdField c 16 4 ≠ 0)
    (hnew : s.inf.seqs.any (fun q => q.tenant == t && q.id == cmdField c 16 4) = false) (hfull : m.maxSeq ≤ (s.seqsOf t (cmdField c 20 1)).length) :
    s.seqRefusal t c prompt = 0x77 := by
  simp only [State.seqRefusal, hslot, hm, hfence, hp, hid, hnew, hfull, Bool.false_and, Bool.not_true, Bool.false_eq_true, if_true, if_false, or_self,
    or_true]

end

end

end

/-! ### The end of a sequence and the columns of its prompt -/

section
variable {q : Sequence} {m : Model} {tok : Nat}

theorem Sequence.endOf_of_all_made (h : q.made = q.maxNew) : q.endOf m tok = 1 := if_pos h

theorem Sequence.endOf_of_stop (h : q.made ≠ q.maxNew) (hen : q.stopEn = true) (htok : tok = q.stop0 ∨ tok = q.stop1) : q.endOf m tok = 2 := by
  simp [Sequence.endOf, h, hen, htok]

/-- Without stop tokens a sequence ends when its context is full (R321). -/
theorem Sequence.endOf_of_no_stop (h : q.made ≠ q.maxNew) (hen : q.stopEn = false) :
    q.endOf m tok = if m.maxCtx ≤ q.promptLen + q.made then 3 else 0 := by
  simp [Sequence.endOf, h, hen]

end

/-! ### STEP_BOUNDARY -/

section
variable {s : State} {t slot : Nat} {m : Model} {tokens lists : List (Nat × Nat)} (ht : t < 1024) (hslot : slot < 16)
  (hm : s.modelReady t slot = some m)
include ht hslot hm

/-- The sequences of a failed model end (R324). -/
theorem exec_stepBoundary_failed (hf : m.failed = true) :
    exec (.stepBoundary t slot tokens lists) s = .next ((s.liveSeqs t slot).foldl (fun k q => k.endSeq q 5) s) := by
  have hpart : ¬(1024 ≤ t ∨ 16 ≤ slot) := by omega
  change execStepBoundary t slot tokens lists s = _
  simp only [execStepBoundary, if_neg hpart, hm, hf, if_true]

/-- A step whose lists have all ended passes its boundary, and the next begins, when tokens and lists are those of the model (R330). -/
theorem exec_stepBoundary_passed (hf : m.failed = false) (hrun : m.paused = false) (hactive : m.standby = false)
    (hended : m.inStep = true → m.waiting = [] ∧ m.failing = false)
    (hdrawn : tokens.map (·.1) = if m.inStep then (((s.kvRequests t slot).membersOf t slot).filter (·.draws)).map (·.id) else [])
    (hvocab : tokens.all (fun p => decide (p.2 < m.vocab)) = true) (hlists : lists.all (fun p => m.ctxs.contains p.1) = true) :
    exec (.stepBoundary t slot tokens lists) s = .next ((s.boundary t slot m tokens).nextStep t slot lists) := by
  have hpart : ¬(1024 ≤ t ∨ 16 ≤ slot) := by omega
  have hgo : (m.paused || m.standby || (m.inStep && (decide (m.waiting ≠ []) || m.failing))) = false := by
    cases hstep : m.inStep with
    | false => simp [hrun, hactive]
    | true => simp [hrun, hactive, hended hstep]
  change execStepBoundary t slot tokens lists s = _
  simp only [execStepBoundary, if_neg hpart, hm, hf, hgo, hvocab, hlists, ← hdrawn, Bool.false_eq_true, Bool.not_true, if_false, ne_eq, not_true_eq_false,
    or_self]

end

/-! ### The statement -/

/-- Settles O31: each command takes the branch that its conditions name; refusals, ends and columns are read off in their order. -/
theorem sequenceCommands : Obligations.SequenceCommands := by
  unfold Obligations.SequenceCommands
  refine ⟨?commands, ?boundary, ?ends, ?refusals, fun chunk col free q r => ⟨_, _, rfl, rfl, rfl, rfl⟩⟩
  case commands =>
    rintro s o v c hok rfl hwords
    refine ⟨fun prompt hv => ⟨?refused, ?queued⟩, fun hv hz hfence => ?cancel⟩
    case refused => exact fun hcode => ⟨_, exec_seqSubmit_refused hok hwords hv hcode, rfl⟩
    case queued =>
      intro hcode
      have hinf := v.st.withSubmitted_inf v.fn v.cmd prompt v.rep
      exact ⟨_, exec_seqSubmit_queued hok hwords hv hcode, v.st.submittedSeq v.fn v.cmd prompt v.rep, _, by rw [hinf], by rw [hinf],
        rfl, rfl, rfl, rfl, rfl, rfl, rfl, rfl, rfl, rfl, rfl, rfl, rfl, rfl⟩
    case cancel =>
      exact ⟨fun q hq => ⟨_, exec_seqCancel_marked hok hwords hv hz hfence hq, rfl⟩,
        fun hq => ⟨_, exec_seqCancel_unknown hok hwords hv hz hfence hq, rfl⟩⟩
  case boundary =>
    intro s t slot m tokens lists ht hslot hm
    exact ⟨fun hf => ⟨_, exec_stepBoundary_failed ht hslot hm hf, rfl⟩, fun hf hrun hactive hended hdrawn hvocab hlists =>
      ⟨_, exec_stepBoundary_passed ht hslot hm hf hrun hactive hended hdrawn hvocab hlists, rfl⟩⟩
  case ends =>
    intro q m tok
    exact ⟨Sequence.endOf_of_all_made, Sequence.endOf_of_stop, fun h hen hfull => (Sequence.endOf_of_no_stop h hen).trans (if_pos hfull),
      fun h hen hroom => (Sequence.endOf_of_no_stop h hen).trans (if_neg (Nat.not_le.mpr hroom))⟩
  case refusals =>
    rintro s t slot c prompt m rfl hslot
    exact ⟨State.seqRefusal_of_no_model hslot, State.seqRefusal_of_params hslot, State.seqRefusal_of_no_id hslot, State.seqRefusal_of_full hslot⟩

end Sys2Proof.Machine
end

section
/-! PROOFS. Signal cores: transfers, runs and control instructions (R352, R358, R361 to R363, R372 to R375). -/
namespace Sys2Proof.Machine

@[simp] theorem State.setCore_core (s : State) (k : Nat) (c : Chm) : (s.setCore k c).core k = c := Tab.get_set_self _ _ _ _

theorem State.core_congr {s t : State} (h : t.chm = s.chm) (k : Nat) : t.core k = s.core k := by rw [State.core, h]; rfl

@[simp] theorem State.finishCmd_core (s : State) (u : Nat) (outs : List (Nat × Nat × Handle)) (k : Nat) : (s.finishCmd u outs).core k = s.core k :=
  State.core_congr ((s.finishCmd_only u outs).same .chm (by decide)) k

theorem State.failList_core (s : State) (u code k : Nat) : (s.failList u code).core k = s.core k := by
  unfold State.failList
  split <;> rfl

theorem State.failList_reg (s : State) (u code a : Nat) : (s.failList u code).reg a = s.reg a := by
  unfold State.failList
  split <;> rfl

/-! ### Transfers (R352, R372, R373) -/

/-- A core's transfer of `n` bytes by the reference `ref` is over: its cycles are counted, and its output handle goes. -/
def State.chmXferEnd (s : State) (k : Nat) (r : Running) (x : Ctx) (c : Cmd) (ref n : Nat) : State :=
  ((s.count64 (Reg.CHM_XFER_CYC k) (ceilDiv n 64)).work x 2 (ceilDiv n 64)).finishCmd (uChm k)
    (outHandle x c r.list.id (ref % 2 ^ 32) n false false)

@[simp] theorem State.chmXferEnd_mem (s : State) (k : Nat) (r : Running) (x : Ctx) (c : Cmd) (ref n : Nat) :
    (s.chmXferEnd k r x c ref n).mem = s.mem := State.finishCmd_mem ..

section
variable {s u : State} {k sel ofs n : Nat} {r : Running} {c : Cmd} {x : Ctx} {b : List Byte}

theorem State.chmFill_done (hroom : ofs + n ≤ s.chmLimit k sel x.radio) (hf : s.fetch x [(primaryRef r c 16, n)] = (0, b, u)) :
    s.chmFill k r x c sel ofs n =
      ({ u with mem := u.mem.wrBytes (chmAt k sel ofs) b } : State).chmXferEnd k r x c (primaryRef r c 16) n := by
  simp only [State.chmFill, if_neg (Nat.not_lt.mpr hroom), hf, ne_eq, not_true_eq_false, if_false]
  rfl

theorem State.chmFill_beyond (hout : s.chmLimit k sel x.radio < ofs + n) : s.chmFill k r x c sel ofs n = s.failList (uChm k) 0x80 := if_pos hout

theorem exec_cimem (hk : k < 192) (hcur : s.cur (uChm k) 0x60 = some (r, c, x)) (hal : primaryLen r c 24 4 % 8 = 0) :
    exec (.cimem k) s = .next (s.chmFill k r x c 2 (8 * cmdField c 28 2) (primaryLen r c 24 4)) := by
  change execCimem k s = _
  simp only [execCimem, if_neg (Nat.not_le.mpr hk), hcur, hal, ne_eq, not_true_eq_false, if_false]

theorem exec_cfill (hk : k < 192) (hcur : s.cur (uChm k) 0x61 = some (r, c, x)) (hal : primaryLen r c 24 4 % 4 = 0) :
    exec (.cfill k) s = .next
      (s.chmFill k r x c (cmdField c 28 4 / 2 ^ 17 % 2) (cmdField c 28 4 % 2 ^ 17) (primaryLen r c 24 4)) := by
  change execCfill k s = _
  simp only [execCfill, if_neg (Nat.not_le.mpr hk), hcur, hal, ne_eq, not_true_eq_false, if_false]

theorem exec_cdrain_done (hk : k < 192) (hcur : s.cur (uChm k) 0x62 = some (r, c, x))
    (hroom : cmdField c 16 4 % 2 ^ 17 + cmdField c 20 4 ≤ s.chmLimit k (cmdField c 16 4 / 2 ^ 17 % 2) x.radio)
    (hdst : s.dstChk x c (cmdField c 24 8) (cmdField c 20 4) = 0) (hheld : s.dstHeld x c (cmdField c 24 8) = false)
    (hclean : s.chmBad (chmAt k (cmdField c 16 4 / 2 ^ 17 % 2) (cmdField c 16 4 % 2 ^ 17)) (cmdField c 20 4) = none) :
    exec (.cdrain k) s = .next ((s.dstStore x c (cmdField c 24 8)
      (s.mem.rdBytes (chmAt k (cmdField c 16 4 / 2 ^ 17 % 2) (cmdField c 16 4 % 2 ^ 17)) (cmdField c 20 4))).chmXferEnd k r x c
        (cmdField c 24 8) (cmdField c 20 4)) := by
  change execCdrain k s = _
  simp only [execCdrain, if_neg (Nat.not_le.mpr hk), hcur, if_neg (Nat.not_lt.mpr hroom), hdst, hheld, hclean, ne_eq, not_true_eq_false,
    if_false, Bool.false_eq_true]
  rfl

end

/-! ### A run begins and ends (R361, R372, R374, R375) -/

/-- What CRUN gives the registers S0 to S7 of a core: its seven arguments, and 0 (R372). -/
def crunRegs (c : Cmd) : Tab Word :=
  [(0, BitVec.ofNat 32 (cmdField c 36 4)), (1, BitVec.ofNat 32 (cmdField c 40 4)), (2, BitVec.ofNat 32 (cmdField c 44 4)),
    (3, BitVec.ofNat 32 (cmdField c 48 4)), (4, BitVec.ofNat 32 (cmdField c 52 4)), (5, BitVec.ofNat 32 (cmdField c 56 4)),
    (6, BitVec.ofNat 32 (cmdField c 60 4)), (7, 0)]

theorem crunRegs_arg (c : Cmd) {i : Nat} (h : i < 7) : ((crunRegs c).get 0 i).toNat = cmdField c (36 + 4 * i) 4 := by
  have hword : ∀ j, (BitVec.ofNat 32 (cmdField c j 4)).toNat = cmdField c j 4 := fun j =>
    (BitVec.toNat_ofNat ..).trans (Nat.mod_eq_of_lt (Nat.mod_lt _ (by decide)))
  match i, h with
  | 0, _ | 1, _ | 2, _ | 3, _ | 4, _ | 5, _ | 6, _ => exact hword _

/-- The run that a CRUN asks for (R372, R374). -/
def crunOf (c : Cmd) : CRun :=
  { stoch := bit c (8 * 18), seed := BitVec.ofNat 64 (cmdField c 24 8), tag := cmdField c 32 4, limit := cmdField c 20 4 }

/-- A core at the first word of a run (R372). -/
def Chm.enter (core : Chm) (c : Cmd) : Chm :=
  ({ core with s := crunRegs c, run := some (crunOf c), act := 4 } : Chm).goto (cmdField c 16 2)

/-- A core has begun the run that a CRUN asks for, and the command is busy (R372). -/
def State.crunStarted (s : State) (k : Nat) (r : Running) (c : Cmd) : State :=
  (s.setCore k ((s.core k).enter c)).setRun (uChm k) (some { r with stage := .busy })

@[simp] theorem State.crunStarted_core (s : State) (k : Nat) (r : Running) (c : Cmd) : (s.crunStarted k r c).core k = (s.core k).enter c :=
  State.setCore_core ..

@[simp] theorem State.crunStarted_run (s : State) (k : Nat) (r : Running) (c : Cmd) :
    (s.crunStarted k r c).run (uChm k) = some { r with stage := .busy } := State.setRun_run ..

/-- A core's run has ended well, and its unit goes on (R374). -/
def State.halted (s : State) (k : Nat) (x : Ctx) (run : CRun) : State :=
  ((s.chmCycles k x run run.cyc 0).setCore k { s.core k with run := none, act := 0 }).finishCmd (uChm k) []

@[simp] theorem State.halted_core (s : State) (k : Nat) (x : Ctx) (run : CRun) :
    (s.halted k x run).core k = { s.core k with run := none, act := 0 } := (State.finishCmd_core ..).trans (State.setCore_core ..)

@[simp] theorem State.halted_mem (s : State) (k : Nat) (x : Ctx) (run : CRun) : (s.halted k x run).mem = s.mem := State.finishCmd_mem ..

section
variable {s : State} {k : Nat} {r : Running} {c : Cmd} {x : Ctx} {run : CRun} {w : DWord} (hk : k < 192)
include hk

theorem exec_crun_starts (hidle : s.chmRun k = none) (hcur : s.cur (uChm k) 0x63 = some (r, c, x))
    (hroom : 8 * cmdField c 16 2 < s.chmLimit k 2 x.radio) (hword : cmdField c 16 2 < 8192) :
    exec (.crun k) s = .next (s.crunStarted k r c) := by
  have hentry : ¬(8192 ≤ cmdField c 16 2 ∨ s.chmLimit k 2 x.radio ≤ 8 * cmdField c 16 2) := by omega
  change execCrun k s = _
  simp only [execCrun, if_neg (Nat.not_le.mpr hk), hidle, hcur, if_neg hentry]
  rfl

theorem exec_halt_ends (hrun : s.chmRun k = some (r, x, run, w)) (hctl : bit w 63 = true) (hcop : bits w 58 5 = 0)
    (hplace : s.pcBad k x = false) (hwithin : run.within (run.cyc - 1) = true) (hlegal : ctlIllegal (s.core k) w = false) :
    exec (.halt k) s = .next (s.halted k x run) := by
  change execHalt k s = _
  simp only [execHalt, if_neg (Nat.not_le.mpr hk), hrun, hctl, hcop, hplace, hwithin, hlegal, bne_self_eq_false, Bool.not_true, Bool.or_self,
    Bool.false_eq_true, if_false]
  rfl

theorem exec_chmLimit_ends (hrun : s.chmRun k = some (r, x, run, w)) (hlimit : run.limit ≠ 0) (hlate : run.limit < wordIssueAt run w) :
    exec (.chmLimit k) s = .next
      (((s.count64 (Reg.CHM_BUSY_CYC k) (run.limit - run.cyc)).work x 2 (run.limit - run.cyc)).chmFault k 0x83 (s.core k).pc.toNat 0 0) := by
  have hat : (wordIssueAt run w == run.limit) = false := beq_false_of_ne (Nat.ne_of_gt hlate)
  have hgo : ¬(run.limit = 0 ∨ wordIssueAt run w < run.limit ∨ false = true) :=
    not_or.mpr ⟨hlimit, not_or.mpr ⟨Nat.not_lt.mpr (Nat.le_of_lt hlate), Bool.false_ne_true⟩⟩
  change execChmLimit k s = _
  simp only [execChmLimit, if_neg (Nat.not_le.mpr hk), hrun, hat, Bool.false_and, if_neg hgo]

end

theorem State.run_of_chmRun {s : State} {k : Nat} {r : Running} {x : Ctx} {run : CRun} {w : DWord} (h : s.chmRun k = some (r, x, run, w)) :
    s.run (uChm k) = some r := by
  revert h
  unfold State.chmRun
  split
  · next hbusy _ =>
    rintro ⟨⟩
    exact State.run_of_curBusy hbusy
  · exact nofun

/-! ### Faults (R375, R380) -/

theorem packFields_lt (l : List (Nat × Nat)) : packFields l < 2 ^ (l.map Prod.fst).sum := by
  induction l with
  | nil => exact Nat.one_pos
  | cons p l ih =>
    rw [packFields, List.map_cons, List.sum_cons, Nat.pow_add]
    have hlow : p.2 % 2 ^ p.1 < 2 ^ p.1 := Nat.mod_lt _ (Nat.two_pow_pos _)
    calc p.2 % 2 ^ p.1 + 2 ^ p.1 * packFields l < 2 ^ p.1 + 2 ^ p.1 * packFields l := Nat.add_lt_add_right hlow _
      _ = 2 ^ p.1 * (packFields l + 1) := by rw [Nat.mul_add, Nat.mul_one, Nat.add_comm]
      _ ≤ 2 ^ p.1 * 2 ^ (l.map Prod.fst).sum := Nat.mul_le_mul_left _ ih

section
variable (s : State) (k code pc ofs mem : Nat)

theorem State.chmFault_core : (s.chmFault k code pc ofs mem).core k = { s.core k with run := none, act := 0 } :=
  (State.failList_core ..).trans (State.setCore_core ..)

theorem State.chmFault_reg :
    (s.chmFault k code pc ofs mem).reg (Reg.CHM_FAULT k) = packFields [(4, code - 0x7F), (13, pc), (17, ofs), (2, mem)] := by
  have hfits : packFields [(4, code - 0x7F), (13, pc), (17, ofs), (2, mem)] < 2 ^ 36 := packFields_lt _
  exact (State.failList_reg ..).trans ((State.setReg_reg ..).trans (Nat.mod_eq_of_lt (Nat.lt_trans hfits (by decide))))

variable {s} in
theorem State.chmFault_run {r : Running} (h : s.run (uChm k) = some r) :
    (s.chmFault k code pc ofs mem).run (uChm k) = some { r with ending := some code, stage := .ready, out := [] } :=
  State.failList_run h

end

/-! ### Control instructions (R358, R361 to R363) -/

/-- A control instruction of a run has issued: its cycles are counted, and `after` holds the core after it and the cycles that it loses. -/
def State.controlled (s : State) (k : Nat) (x : Ctx) (run : CRun) (after : Chm × Nat) : State :=
  (s.chmCycles k x run run.cyc after.2).setCore k { after.1 with run := some { run with cyc := run.cyc + 1 + after.2 } }

section
variable (s : State) (k : Nat) (x : Ctx) (run : CRun) (after : Chm × Nat)

@[simp] theorem State.controlled_core :
    (s.controlled k x run after).core k = { after.1 with run := some { run with cyc := run.cyc + 1 + after.2 } } := State.setCore_core ..

@[simp] theorem State.controlled_mem : (s.controlled k x run after).mem = s.mem := rfl

variable {s k x run after} in
/-- What a control instruction's core and memory then hold completes it. -/
theorem gives_of_controlled {i : Instr} {P : State → Prop} (h : exec i s = .next (s.controlled k x run after))
    (hp : ∀ u, u.core k = { after.1 with run := some { run with cyc := run.cyc + 1 + after.2 } } → u.mem = s.mem → P u) : Gives i s P :=
  ⟨_, h, hp _ (State.controlled_core ..) (State.controlled_mem ..)⟩

end

/-- How often the body of a LOOP is to run (R362). -/
def loopCount (c : Chm) (w : DWord) : Nat := if bit w 16 then (c.sreg (bits w 17 3)).toNat else bits w 0 16

/-- What SETP writes (R361). -/
def setpValue (c : Chm) (w : DWord) : Nat := if bit w 51 then (c.sreg (bits w 48 3)).toNat else bits w 0 32

/-- An address generator with a field, by its number, written (R361). -/
def Agen.put (g : Agen) (field v : Nat) : Agen :=
  match field with
  | 0 => { g with base := BitVec.ofNat 18 v }
  | 1 => { g with index := BitVec.ofNat 17 v }
  | 2 => { g with step := BitVec.ofNat 18 v }
  | 3 => { g with len := BitVec.ofNat 18 v }
  | _ => { g with mode := BitVec.ofNat 2 v }

/-- A core with a scalar register written. -/
def Chm.setSreg (c : Chm) (n : Nat) (v : Word) : Chm := { c with s := c.s.set n v }

@[simp] theorem Chm.sreg_setSreg (c : Chm) (n : Nat) (v : Word) : (c.setSreg n v).sreg n = v := Tab.get_set_self _ _ _ _

/-- A core with an address generator written. -/
def Chm.setGen (c : Chm) (n : Nat) (g : Agen) : Chm := { c with p := c.p.set n g }

@[simp] theorem Chm.setGen_gen (c : Chm) (n : Nat) (g : Agen) : (c.setGen n g).p.get {} n = g := Tab.get_set_self _ _ _ _

/-- A core with a level opened over the words from the next to `stop` (R362). -/
def Chm.openLoop (c : Chm) (stop count : Nat) : Chm := { c with loops := { start := c.pc.toNat + 1, stop := stop, count := count } :: c.loops }

theorem loopCount_of_imm {c : Chm} {w : DWord} (h : bit w 16 = false) : loopCount c w = bits w 0 16 := by
  simp only [loopCount, h, Bool.false_eq_true, if_false]

theorem loopCount_of_reg {c : Chm} {w : DWord} (h : bit w 16 = true) : loopCount c w = (c.sreg (bits w 17 3)).toNat := if_pos h

section
variable {s : State} {k cop : Nat} {x : Ctx} {run : CRun} {w : DWord}

/-- A control instruction that issues without a fault takes its effect (R361). -/
theorem Controls.control (h : Controls s k cop x run w) {f : Chm → DWord → Chm × Nat} {after : Chm × Nat} (hf : f (s.core k) w = after) :
    s.control k cop f = .next (s.controlled k x run after) := by
  subst hf
  obtain ⟨hk, ⟨r, hr⟩, hkind, hcop, hplace, hbefore, hwithin, hlegal, hclean⟩ := h
  simp only [State.control, if_neg (Nat.not_le.mpr hk), hr, hkind, hcop, hplace, hbefore, hwithin, hlegal, hclean, bne_self_eq_false,
    Bool.not_true, Bool.or_self, Bool.false_eq_true, if_false]
  rfl

theorem exec_loop_skips (h : Controls s k 1 x run w) (hn : loopCount (s.core k) w = 0) :
    exec (.loop k) s = .next (s.controlled k x run ((s.core k).goto (bits w 45 13 + 1), 0)) := by
  change execLoop k s = _
  rw [execLoop]
  exact h.control (if_pos hn)

theorem exec_loop_pushes (h : Controls s k 1 x run w) (hn : loopCount (s.core k) w ≠ 0) :
    exec (.loop k) s = .next (s.controlled k x run (((s.core k).openLoop (bits w 45 13) (loopCount (s.core k) w)).step, 0)) := by
  change execLoop k s = _
  rw [execLoop]
  exact h.control (if_neg hn)

theorem exec_br (h : Controls s k 2 x run w) :
    exec (.br k) s = .next (s.controlled k x run ((s.core k).branch (bits w 45 13), 2)) := by
  change execBr k s = _
  rw [execBr]
  exact h.control rfl

theorem exec_bnz_falls (h : Controls s k 3 x run w) (hz : (s.core k).sreg (bits w 42 3) = 0) :
    exec (.bnz k) s = .next (s.controlled k x run ((s.core k).step, 0)) := by
  change execBnz k s = _
  rw [execBnz]
  exact h.control (if_pos hz)

theorem exec_bnz_taken (h : Controls s k 3 x run w) (hz : (s.core k).sreg (bits w 42 3) ≠ 0) :
    exec (.bnz k) s = .next (s.controlled k x run ((s.core k).branch (bits w 45 13), 2)) := by
  change execBnz k s = _
  rw [execBnz]
  exact h.control (if_neg hz)

theorem exec_setp (h : Controls s k 4 x run w) :
    exec (.setp k) s = .next (s.controlled k x run (((s.core k).setGen (bits w 55 3)
      (((s.core k).p.get {} (bits w 55 3)).put (bits w 52 3) (setpValue (s.core k) w))).step, 0)) := by
  change execSetp k s = _
  rw [execSetp]
  exact h.control rfl

theorem exec_sets (h : Controls s k 5 x run w) :
    exec (.sets k) s = .next (s.controlled k x run (((s.core k).setSreg (bits w 55 3) (BitVec.ofNat 32 (bits w 0 32))).step, 0)) := by
  change execSets k s = _
  rw [execSets]
  exact h.control rfl

theorem exec_adds (h : Controls s k 6 x run w) :
    exec (.adds k) s = .next (s.controlled k x run (((s.core k).setSreg (bits w 55 3)
      ((s.core k).sreg (bits w 55 3) + BitVec.ofNat 32 (bits w 0 32))).step, 0)) := by
  change execAdds k s = _
  rw [execAdds]
  exact h.control rfl

theorem exec_setsh (h : Controls s k 7 x run w) :
    exec (.setsh k) s = .next (s.controlled k x run (({ s.core k with sh := BitVec.ofNat 5 (bits w 0 5) } : Chm).step, 0)) := by
  change execSetsh k s = _
  rw [execSetsh]
  exact h.control rfl

end

/-! ### The statement -/

/-- Settles O24: each transfer, run and control instruction takes the branch that its conditions name. -/
theorem signalRuns : Obligations.SignalRuns := by
  unfold Obligations.SignalRuns
  refine ⟨fun s k r c x hk => ⟨?cimem, ?cfill, ?beyond, ?cdrain, ?crun, ?halt, ?limit⟩, ?control⟩
  case cimem =>
    intro b u hcur hal hroom hf
    refine ⟨_, exec_cimem hk hcur hal, ?_⟩
    rw [State.chmFill_done hroom hf]
    exact State.chmXferEnd_mem ..
  case cfill =>
    intro b u hcur hal hroom hf
    refine ⟨_, exec_cfill hk hcur hal, ?_⟩
    rw [State.chmFill_done hroom hf]
    exact State.chmXferEnd_mem ..
  case beyond =>
    intro hcur hal hout
    refine ⟨_, exec_cfill hk hcur hal, ?_⟩
    rw [State.chmFill_beyond hout]
    exact ⟨State.failList_run (State.run_of_cur hcur), State.failList_mem ..⟩
  case cdrain =>
    intro hcur hroom hdst hheld hclean
    exact ⟨_, exec_cdrain_done hk hcur hroom hdst hheld hclean, State.chmXferEnd_mem ..⟩
  case crun =>
    intro hidle hcur hroom hword
    refine ⟨_, exec_crun_starts hk hidle hcur hroom hword, State.crunStarted_run .., ?_⟩
    rw [State.crunStarted_core]
    exact ⟨(BitVec.toNat_ofNat ..).trans (Nat.mod_eq_of_lt hword), rfl, fun i => crunRegs_arg c, rfl, rfl, rfl, rfl⟩
  case halt =>
    intro run w hrun hctl hcop hplace hwithin hlegal
    refine ⟨_, exec_halt_ends hk hrun hctl hcop hplace hwithin hlegal, ?_⟩
    dsimp only
    rw [State.halted_core, State.halted_mem]
    exact ⟨rfl, rfl, rfl, rfl⟩
  case limit =>
    intro run w hrun hlimit hlate
    refine ⟨_, exec_chmLimit_ends hk hrun hlimit hlate, ?_, State.chmFault_run _ _ _ _ _ (State.run_of_chmRun hrun), State.chmFault_reg ..⟩
    rw [State.chmFault_core]
  case control =>
    rintro s k x run w c rfl
    refine ⟨fun h himm => ⟨fun hn => ?push, fun hn => ?skip⟩, fun h hreg hn => ?pushReg, fun h => ?br,
      fun h => ⟨fun hz => ?taken, fun hz => ?falls⟩, ?setp, fun h => ?sets, fun h => ?adds, fun h => ?setsh⟩
    case push =>
      have hcount := loopCount_of_imm (c := s.core k) himm
      exact gives_of_controlled (exec_loop_pushes h (hcount ▸ hn)) fun u hu _ => by rw [hu, hcount]; exact ⟨rfl, rfl⟩
    case skip =>
      exact gives_of_controlled (exec_loop_skips h ((loopCount_of_imm himm).trans hn)) fun u hu _ => by rw [hu]; exact ⟨rfl, rfl⟩
    case pushReg =>
      have hcount := loopCount_of_reg (c := s.core k) hreg
      exact gives_of_controlled (exec_loop_pushes h (hcount ▸ BitVec.toNat_ne_iff_ne.mpr hn)) fun u hu _ => by
        rw [hu, hcount]; exact ⟨rfl, rfl⟩
    case br => exact gives_of_controlled (exec_br h) fun u hu _ => by rw [hu]; exact ⟨rfl, _, rfl, rfl⟩
    case taken => exact gives_of_controlled (exec_bnz_taken h hz) fun u hu _ => by rw [hu]; rfl
    case falls => exact gives_of_controlled (exec_bnz_falls h hz) fun u hu _ => by rw [hu]; exact ⟨rfl, rfl⟩
    case setp =>
      rintro v h rfl
      refine gives_of_controlled (exec_setp h) fun u hu _ => ?_
      have hgen : (u.core k).p.get {} (bits w 55 3) = ((s.core k).p.get {} (bits w 55 3)).put (bits w 52 3) (setpValue (s.core k) w) := by
        rw [hu]; exact Chm.setGen_gen ..
      rw [hgen]
      refine ⟨?_, ?_, ?_, ?_, ?_⟩ <;>
      · intro hfield
        rw [hfield]
        rfl
    case sets => exact gives_of_controlled (exec_sets h) fun u hu hm => by rw [hu]; exact ⟨Chm.sreg_setSreg .., hm⟩
    case adds => exact gives_of_controlled (exec_adds h) fun u hu _ => by rw [hu]; exact ⟨Chm.sreg_setSreg .., rfl, rfl⟩
    case setsh => exact gives_of_controlled (exec_setsh h) fun u hu _ => by rw [hu]; exact ⟨rfl, rfl⟩

end Sys2Proof.Machine
end

section
/-! PROOFS. Signal cores: the arithmetic of a bundle, with its loads, its store, its pointers and the program counter (R343 to R348, R354 to R360,
R362, R369). -/
namespace Sys2Proof.Machine

/-! ### Products into pairs of accumulators (R346 to R348) -/

theorem cprod_plain (a b : Word) : cprod false a b = (re a * re b - im a * im b, re a * im b + im a * re b) := rfl

theorem cprod_conj (a b : Word) : cprod true a b = (re a * re b + im a * im b, im a * re b - re a * im b) := by
  rw [cprod, if_pos rfl, Int.mul_neg, Int.mul_neg, Int.sub_neg, Int.add_comm (-(re a * im b)), ← Int.sub_eq_add_neg]

/-- Pair `p` becomes `keep` times its value plus what `f` gives of the operands' lanes (R346, R347). -/
def Chm.macPair (c : Chm) (b : Bundle) (p : Nat) (keep : Int) (f : Word → Word → Int × Int) : Chm :=
  (c.accum p keep (((c.vreg b.va).zip (c.vreg b.vb)).map fun e => f e.1 e.2)).1

/-- Pairs `p` and `p + 1` take the real×complex products (R347). -/
def Chm.macReals (c : Chm) (b : Bundle) (p : Nat) (keep : Int) : Chm :=
  (c.macPair b p keep fun a b => (re a * re b, re a * im b)).macPair b (p + 1) keep fun a b => (im a * re b, im a * im b)

section
variable (c : Chm) (b : Bundle) (p : Nat) (keep : Int) (f : Word → Word → Int × Int)

theorem Chm.areg_macPair_re : (c.macPair b p keep f).areg (2 * p) =
    ((c.areg (2 * p)).zip ((c.vreg b.va).zip (c.vreg b.vb))).map fun q => BitVec.ofInt 40 (keep * accInt q.1 + (f q.2.1 q.2.2).1) := by
  rw [Chm.macPair, Chm.accum, Chm.areg, Tab.get_set_ne _ _ _ (by omega), Tab.get_set_self, List.zip_map_right, List.map_map, List.map_map]
  rfl

theorem Chm.areg_macPair_im : (c.macPair b p keep f).areg (2 * p + 1) =
    ((c.areg (2 * p + 1)).zip ((c.vreg b.va).zip (c.vreg b.vb))).map fun q => BitVec.ofInt 40 (keep * accInt q.1 + (f q.2.1 q.2.2).2) := by
  rw [Chm.macPair, Chm.accum, Chm.areg, Tab.get_set_self, List.zip_map_right, List.map_map, List.map_map]
  rfl

variable {p} in
theorem Chm.areg_macPair_ne {n : Nat} (hre : n ≠ 2 * p) (him : n ≠ 2 * p + 1) : (c.macPair b p keep f).areg n = c.areg n := by
  rw [Chm.macPair, Chm.accum, Chm.areg, Tab.get_set_ne _ _ _ him, Tab.get_set_ne _ _ _ hre]
  rfl

variable {c b p} in
theorem Chm.areg_macPair_zero {n : Nat} (h : n = 2 * p ∨ n = 2 * p + 1) : ∀ e ∈ (c.macPair b p 0 fun _ _ => (0, 0)).areg n, e = 0 := by
  have hzero : ∀ i : Int, BitVec.ofInt 40 (0 * i + 0) = 0 := fun i => by rw [Int.zero_mul]; exact rfl
  rcases h with rfl | rfl
  · rw [Chm.areg_macPair_re]
    exact List.forall_mem_map.mpr fun q _ => hzero _
  · rw [Chm.areg_macPair_im]
    exact List.forall_mem_map.mpr fun q _ => hzero _

theorem Chm.areg_macReals :
    (c.macReals b p keep).areg (2 * p) = ((c.areg (2 * p)).zip ((c.vreg b.va).zip (c.vreg b.vb))).map
      (fun q => BitVec.ofInt 40 (keep * accInt q.1 + re q.2.1 * re q.2.2)) ∧
    (c.macReals b p keep).areg (2 * p + 1) = ((c.areg (2 * p + 1)).zip ((c.vreg b.va).zip (c.vreg b.vb))).map
      (fun q => BitVec.ofInt 40 (keep * accInt q.1 + re q.2.1 * im q.2.2)) ∧
    (c.macReals b p keep).areg (2 * p + 2) = ((c.areg (2 * p + 2)).zip ((c.vreg b.va).zip (c.vreg b.vb))).map
      (fun q => BitVec.ofInt 40 (keep * accInt q.1 + im q.2.1 * re q.2.2)) ∧
    (c.macReals b p keep).areg (2 * p + 3) = ((c.areg (2 * p + 3)).zip ((c.vreg b.va).zip (c.vreg b.vb))).map
      (fun q => BitVec.ofInt 40 (keep * accInt q.1 + im q.2.1 * im q.2.2)) := by
  refine ⟨(Chm.areg_macPair_ne _ _ _ _ (by omega) (by omega)).trans (Chm.areg_macPair_re ..),
    (Chm.areg_macPair_ne _ _ _ _ (by omega) (by omega)).trans (Chm.areg_macPair_im ..), ?_, ?_⟩
  · rw [← Chm.areg_macPair_ne c b keep (fun a b => (re a * re b, re a * im b)) (p := p) (n := 2 * p + 2) (by omega) (by omega)]
    exact Chm.areg_macPair_re ..
  · rw [← Chm.areg_macPair_ne c b keep (fun a b => (re a * re b, re a * im b)) (p := p) (n := 2 * p + 3) (by omega) (by omega)]
    exact Chm.areg_macPair_im ..

end

/-! ### The arithmetic slot (R347, R360, R369) -/

/-- A core with a vector register written. -/
def Chm.setV (c : Chm) (n : Nat) (l : List Word) : Chm := { c with v := c.v.set n l }

@[simp] theorem Chm.vreg_setV_self (c : Chm) (n : Nat) (l : List Word) : (c.setV n l).vreg n = l := Tab.get_set_self _ _ _ _

theorem Chm.vreg_setV_ne (c : Chm) {n m : Nat} (l : List Word) (h : m ≠ n) : (c.setV n l).vreg m = c.vreg m := Tab.get_set_ne _ _ _ h

section
variable {c : Chm} {run : CRun} {b : Bundle}

theorem Chm.arith_cmac (h : b.aop = 1) : (c.arith run b).1 = c.macPair b (b.d % 4) 1 (cprod false) := by rw [Chm.arith, h]; rfl

theorem Chm.arith_cmacj (h : b.aop = 2) : (c.arith run b).1 = c.macPair b (b.d % 4) 1 (cprod true) := by rw [Chm.arith, h]; rfl

theorem Chm.arith_cmsu (h : b.aop = 3) :
    (c.arith run b).1 = c.macPair b (b.d % 4) 1 fun a b => (-(cprod false a b).1, -(cprod false a b).2) := by rw [Chm.arith, h]; rfl

theorem Chm.arith_cmul (h : b.aop = 4) : (c.arith run b).1 = c.macPair b (b.d % 4) 0 (cprod false) := by rw [Chm.arith, h]; rfl

theorem Chm.arith_cmulj (h : b.aop = 5) : (c.arith run b).1 = c.macPair b (b.d % 4) 0 (cprod true) := by rw [Chm.arith, h]; rfl

theorem Chm.arith_rcmac (h : b.aop = 6) : (c.arith run b).1 = c.macReals b (b.d % 4) 1 := by rw [Chm.arith, h]; rfl

theorem Chm.arith_rcmul (h : b.aop = 7) : (c.arith run b).1 = c.macReals b (b.d % 4) 0 := by rw [Chm.arith, h]; rfl

theorem Chm.arith_azero (h : b.aop = 8) : (c.arith run b).1 = c.macPair b (b.d % 4) 0 fun _ _ => (0, 0) := by rw [Chm.arith, h]; rfl

theorem Chm.arith_arnd (h : b.aop = 9) : (c.arith run b).1 = c.setV b.d (c.roundPair run (b.va % 4)).1 := by rw [Chm.arith, h]; rfl

theorem Chm.arith_vadd (h : b.aop = 10) : (c.arith run b).1 =
    c.setV b.d (lanes2 (fun x y => mkElem (sat16 (re x + re y)) (sat16 (im x + im y))) (c.vreg b.va) (c.vreg b.vb)) := by rw [Chm.arith, h]; rfl

theorem Chm.arith_vsub (h : b.aop = 11) : (c.arith run b).1 =
    c.setV b.d (lanes2 (fun x y => mkElem (sat16 (re x - re y)) (sat16 (im x - im y))) (c.vreg b.va) (c.vreg b.vb)) := by rw [Chm.arith, h]; rfl

theorem Chm.arith_vconj (h : b.aop = 12) :
    (c.arith run b).1 = c.setV b.d ((c.vreg b.va).map fun x => mkElem (re x) (sat16 (-(im x)))) := by rw [Chm.arith, h]; rfl

theorem Chm.arith_vmov (h : b.aop = 13) : (c.arith run b).1 = c.setV b.d (c.vreg b.va) := by rw [Chm.arith, h]; rfl

theorem Chm.arith_vrot (h : b.aop = 14) : (c.arith run b).1 = c.setV b.d ((c.vreg b.va).drop 1 ++ [(c.vreg b.vb).headD 0]) := by
  rw [Chm.arith, h]; rfl

theorem Chm.arith_vbrev (h : b.aop = 15) :
    (c.arith run b).1 = c.setV b.d ((List.range 16).map fun l => (c.vreg b.va).getD (revBits 4 l) 0) := by rw [Chm.arith, h]; rfl

variable (c run b) in
/-- The arithmetic slot writes V registers, accumulators and the overflow flag alone. -/
theorem Chm.arith_only : (c.arith run b).1 =
    { c with v := (c.arith run b).1.v, a := (c.arith run b).1.a, aovf := (c.arith run b).1.aovf } := by
  unfold Chm.arith
  dsimp only
  split <;> rfl

end

/-! ### Loads, registers left open, pointers (R355, R356, R364) -/

/-- A core that holds what another holds, but for its V registers. -/
def Chm.SameButV (c d : Chm) : Prop := { c with v := d.v } = d

theorem Chm.SameButV.refl (c : Chm) : c.SameButV c := rfl

theorem Chm.SameButV.trans {c d e : Chm} (h : c.SameButV d) (h' : d.SameButV e) : c.SameButV e := by
  unfold Chm.SameButV at h h' ⊢
  rw [← h', ← h]

theorem Chm.SameButV.setV (c : Chm) (n : Nat) (l : List Word) : c.SameButV (c.setV n l) := rfl

/-- A load slot brings its lanes, when it is enabled. -/
def Chm.load (c : Chm) (en : Bool) (n : Nat) (l : List Word) : Chm := if en then c.setV n l else c

/-- V registers written twice in one cycle hold free values (log entry 46). -/
def Chm.leaveOpen (c : Chm) (drawn : Nat) (l : List Nat) : Chm :=
  l.foldl (fun c n => c.setV n ((List.range 16).map fun i => Config.chmClash (16 * drawn + i))) c

/-- The generators of the slots that ask for it are updated (R356). -/
def Chm.movePointers (c : Chm) (slots : List (Nat × Nat × Nat × Nat × Bool)) : Chm :=
  slots.foldl (fun c q => if q.2.2.2.2 then { c with p := c.p.set q.1 (c.p.get {} q.1).next } else c) c

section
variable (c : Chm) {n m drawn : Nat} {l : List Word}

theorem Chm.sameButV_load (en : Bool) : c.SameButV (c.load en n l) := by
  unfold Chm.load
  split
  · exact .setV ..
  · exact .refl c

theorem Chm.vreg_load_self : (c.load true n l).vreg n = l := Chm.vreg_setV_self ..

theorem Chm.vreg_load_ne {en : Bool} (h : en = true → n ≠ m) : (c.load en n l).vreg m = c.vreg m := by
  unfold Chm.load
  split
  · next hen => exact Chm.vreg_setV_ne _ _ (h hen).symm
  · rfl

theorem Chm.sameButV_leaveOpen (ns : List Nat) : c.SameButV (c.leaveOpen drawn ns) := by
  induction ns generalizing c with
  | nil => exact .refl c
  | cons n ns ih => exact (Chm.SameButV.setV ..).trans (ih _)

theorem Chm.vreg_leaveOpen_of_not_mem {ns : List Nat} (h : m ∉ ns) : (c.leaveOpen drawn ns).vreg m = c.vreg m := by
  induction ns generalizing c with
  | nil => rfl
  | cons n ns ih =>
    exact (ih _ (List.not_mem_of_not_mem_cons h)).trans (Chm.vreg_setV_ne _ _ (List.ne_of_not_mem_cons h))

variable {slots : List (Nat × Nat × Nat × Nat × Bool)}

variable (slots) in
theorem Chm.movePointers_only : c.movePointers slots = { c with p := (c.movePointers slots).p } := by
  induction slots generalizing c with
  | nil => rfl
  | cons q slots ih =>
    rw [Chm.movePointers, List.foldl_cons]
    split
    · exact ih { c with p := _ }
    · exact ih c

theorem Chm.gen_movePointers_of_not_mem (h : n ∉ slots.map (·.1)) : (c.movePointers slots).p.get {} n = c.p.get {} n := by
  induction slots generalizing c with
  | nil => rfl
  | cons q slots ih =>
    rw [Chm.movePointers, List.foldl_cons]
    refine (ih _ (List.not_mem_of_not_mem_cons h)).trans ?_
    split
    · exact Tab.get_set_ne _ _ _ (List.ne_of_not_mem_cons h)
    · rfl

/-- A generator that one slot names is updated once. -/
theorem Chm.gen_movePointers_of_mem {q : Nat × Nat × Nat × Nat × Bool} (hnodup : (slots.map (·.1)).Nodup) (hq : q ∈ slots)
    (hu : q.2.2.2.2 = true) : (c.movePointers slots).p.get {} q.1 = (c.p.get {} q.1).next := by
  induction slots generalizing c with
  | nil => cases hq
  | cons q' slots ih =>
    rw [List.map_cons, List.nodup_cons] at hnodup
    rw [Chm.movePointers, List.foldl_cons]
    rcases List.mem_cons.mp hq with rfl | hmem
    · refine (Chm.gen_movePointers_of_not_mem _ hnodup.1).trans ?_
      rw [if_pos hu]
      exact Tab.get_set_self _ _ _ _
    · have hne : q.1 ≠ q'.1 := fun h => hnodup.1 (h ▸ List.mem_map_of_mem hmem)
      refine (ih _ hnodup.2 hmem).trans ?_
      split
      · exact congrArg Agen.next (Tab.get_set_ne _ _ _ hne)
      · rfl

end

/-! ### Registers that a bundle writes late (R364) -/

/-- V registers that a bundle writes two cycles after its issue. -/
def Bundle.late (b : Bundle) : List Nat := (b.writesV.filter (fun p => p.2 == 2)).map (·.1)

/-- Those of them that it writes twice. -/
def Bundle.clash (b : Bundle) : List Nat := b.late.filter (fun n => decide (1 < (b.late.filter (fun m => m == n)).length))

section
variable {b : Bundle} {n : Nat}

theorem Bundle.late_eq (b : Bundle) : b.late =
    (if b.aop = 9 then [b.d] else []) ++ (if b.xen then [b.xv] else []) ++ (if b.yen then [b.yv] else []) := by
  have hdest : ((if b.aop = 9 then [(b.d, 2)] else if 0xA ≤ b.aop then [(b.d, 1)] else []).filter (fun p => p.2 == 2)).map (·.1) =
      if b.aop = 9 then [b.d] else [] := by
    split
    · rfl
    · split <;> rfl
  have hload : ∀ (en : Bool) (n : Nat), ((if en then [(n, 2)] else []).filter (fun p => p.2 == 2)).map (·.1) = if en then [n] else [] := by
    intro en n
    cases en <;> rfl
  rw [Bundle.late, Bundle.writesV, List.filter_append, List.filter_append, List.map_append, List.map_append, hdest, hload, hload]

theorem Bundle.not_mem_clash_of_count (h : b.late.count n ≤ 1) : n ∉ b.clash := by
  rw [Bundle.clash, List.mem_filter, decide_eq_true_eq, ← List.countP_eq_length_filter]
  exact fun hn => Nat.not_lt.mpr h hn.2

theorem count_ite_singleton (p : Prop) [Decidable p] (a n : Nat) : (if p then [a] else []).count n = if p ∧ a = n then 1 else 0 := by
  by_cases hp : p
  · rw [if_pos hp, List.count_singleton]
    simp only [beq_iff_eq, hp, true_and]
  · rw [if_neg hp, List.count_nil, if_neg fun h => hp h.1]

theorem Bundle.count_late (b : Bundle) (n : Nat) : b.late.count n = (if b.aop = 9 ∧ b.d = n then 1 else 0) +
    (if b.xen = true ∧ b.xv = n then 1 else 0) + (if b.yen = true ∧ b.yv = n then 1 else 0) := by
  rw [Bundle.late_eq, List.count_append, List.count_append, count_ite_singleton, count_ite_singleton, count_ite_singleton]

/-- At most one of ARND and the loads writes V register `n` (R364). -/
structure Bundle.Lone (b : Bundle) (n : Nat) : Prop where
  roundX : b.aop = 9 → b.d = n → b.xen = true → b.xv ≠ n
  roundY : b.aop = 9 → b.d = n → b.yen = true → b.yv ≠ n
  loads : b.xen = true → b.xv = n → b.yen = true → b.yv ≠ n

theorem Bundle.Lone.not_mem_clash (h : b.Lone n) : n ∉ b.clash := by
  obtain ⟨hroundX, hroundY, hloads⟩ := h
  refine Bundle.not_mem_clash_of_count ?_
  rw [Bundle.count_late]
  by_cases hr : b.aop = 9 ∧ b.d = n
  · have hx : ¬(b.xen = true ∧ b.xv = n) := fun hx => hroundX hr.1 hr.2 hx.1 hx.2
    have hy : ¬(b.yen = true ∧ b.yv = n) := fun hy => hroundY hr.1 hr.2 hy.1 hy.2
    exact Nat.add_le_add (Nat.add_le_add (Nat.le_of_eq (if_pos hr)) (Nat.le_of_eq (if_neg hx))) (Nat.le_of_eq (if_neg hy))
  · rw [if_neg hr]
    by_cases hx : b.xen = true ∧ b.xv = n
    · have hy : ¬(b.yen = true ∧ b.yv = n) := fun hy => hloads hx.1 hx.2 hy.1 hy.2
      exact Nat.add_le_add (Nat.add_le_add (Nat.le_refl 0) (Nat.le_of_eq (if_pos hx))) (Nat.le_of_eq (if_neg hy))
    · rw [if_neg hx]
      split <;> omega

end

/-! ### A bundle that issues (R357 to R363) -/

/-- The core once the arithmetic and the loads have been written. -/
def State.bundleLoads (s : State) (k : Nat) (run : CRun) (b : Bundle) : Chm :=
  (((s.core k).arith run b).1.load b.xen b.xv (s.chmLoad k ((s.core k).p.get {} b.xp) 0 (decide (2 ≤ b.xu)))).load b.yen b.yv
    (s.chmLoad k ((s.core k).p.get {} b.yp) 1 (decide (2 ≤ b.yu)))

/-- The core once the registers written twice have been left open as well. -/
def State.bundleRegs (s : State) (k : Nat) (run : CRun) (b : Bundle) : Chm := (s.bundleLoads k run b).leaveOpen s.drawn b.clash

/-- The core after a bundle, but for its loop stack, its program counter and its run. -/
def State.bundleCore (s : State) (k : Nat) (run : CRun) (b : Bundle) : Chm := (s.bundleRegs k run b).movePointers b.slots

/-- The memory after a bundle's store slot. -/
def State.bundleStore (s : State) (k : Nat) (run : CRun) (b : Bundle) : Mem :=
  if b.sk = 0 then s.mem
  else ((List.range 16).zip ((s.core k).storeBytes run b).1).foldl (fun m p =>
    Mem.wrBytes m (chmAt k b.sb (((s.core k).p.get {} b.sp).addr (if b.sk = 3 then 2 else 4) p.1)) p.2) s.mem

section
variable (s : State) (k n : Nat) (x : Ctx) (run : CRun) (b : Bundle) (t : Nat)

theorem State.doBundle_core :
    (s.doBundle k x run b t).core k = { (s.bundleCore k run b).loopEnd with run := some (run.after b t) } := State.setCore_core ..

theorem State.doBundle_mem : (s.doBundle k x run b t).mem = s.bundleStore k run b := by
  change State.mem (ite (1 ≤ b.aop ∧ b.aop ≤ 7) _ _) = _
  split <;> rfl

theorem State.bundleRegs_only : s.bundleRegs k run b = { s.core k with
    v := (s.bundleRegs k run b).v, a := ((s.core k).arith run b).1.a, aovf := ((s.core k).arith run b).1.aovf } :=
  have hv : ((s.core k).arith run b).1.SameButV (s.bundleRegs k run b) :=
    ((Chm.sameButV_load _ _).trans (Chm.sameButV_load _ _)).trans (Chm.sameButV_leaveOpen _ _)
  hv.symm.trans (congrArg (fun c : Chm => { c with v := (s.bundleRegs k run b).v }) (Chm.arith_only ..))

/-- Up to its end a bundle writes V registers, accumulators, the overflow flag and generators alone. -/
theorem State.bundleCore_only : s.bundleCore k run b = { s.core k with
    v := (s.bundleRegs k run b).v, a := ((s.core k).arith run b).1.a, aovf := ((s.core k).arith run b).1.aovf, p := (s.bundleCore k run b).p } :=
  (Chm.movePointers_only ..).trans (congrArg (fun c : Chm => { c with p := (s.bundleCore k run b).p }) (State.bundleRegs_only ..))

theorem Chm.loopEnd_only (c : Chm) : c.loopEnd = { c with loops := c.loopEnd.loops, pc := c.loopEnd.pc, pcOver := c.loopEnd.pcOver } := by
  unfold Chm.loopEnd
  split
  · rfl
  · split
    · rfl
    · split <;> rfl

/-- The core after a bundle, field by field. -/
theorem State.doBundle_core_eq : (s.doBundle k x run b t).core k = { s.core k with
    v := (s.bundleRegs k run b).v, a := ((s.core k).arith run b).1.a, aovf := ((s.core k).arith run b).1.aovf, p := (s.bundleCore k run b).p,
    loops := (s.bundleCore k run b).loopEnd.loops, pc := (s.bundleCore k run b).loopEnd.pc, pcOver := (s.bundleCore k run b).loopEnd.pcOver,
    run := some (run.after b t) } := by
  rw [State.doBundle_core, Chm.loopEnd_only]
  exact congrArg (fun c : Chm => { c with
    loops := (s.bundleCore k run b).loopEnd.loops, pc := (s.bundleCore k run b).loopEnd.pc, pcOver := (s.bundleCore k run b).loopEnd.pcOver,
    run := some (run.after b t) }) (State.bundleCore_only ..)

theorem State.doBundle_areg : ((s.doBundle k x run b t).core k).areg n = ((s.core k).arith run b).1.areg n := by
  rw [State.doBundle_core_eq]
  rfl

variable {s k n x run b t}

/-- A pair of accumulators after a bundle that puts products into it, lane by lane. -/
theorem State.doBundle_pair {p : Nat} {keep : Int} {f : Word → Word → Int × Int}
    (h : ((s.core k).arith run b).1 = (s.core k).macPair b p keep f) :
    ((s.doBundle k x run b t).core k).areg (2 * p) = (((s.core k).areg (2 * p)).zip (((s.core k).vreg b.va).zip ((s.core k).vreg b.vb))).map
      (fun q => BitVec.ofInt 40 (keep * accInt q.1 + (f q.2.1 q.2.2).1)) ∧
    ((s.doBundle k x run b t).core k).areg (2 * p + 1) =
      (((s.core k).areg (2 * p + 1)).zip (((s.core k).vreg b.va).zip ((s.core k).vreg b.vb))).map
        (fun q => BitVec.ofInt 40 (keep * accInt q.1 + (f q.2.1 q.2.2).2)) := by
  rw [State.doBundle_areg, State.doBundle_areg, h]
  exact ⟨Chm.areg_macPair_re .., Chm.areg_macPair_im ..⟩

theorem State.doBundle_vreg (h : b.Lone n) : ((s.doBundle k x run b t).core k).vreg n = (s.bundleLoads k run b).vreg n := by
  rw [State.doBundle_core_eq]
  exact Chm.vreg_leaveOpen_of_not_mem _ h.not_mem_clash

/-- A destination to which no load goes holds what the arithmetic slot gives. -/
theorem State.doBundle_vreg_dest (hx : b.xen = true → b.xv ≠ b.d) (hy : b.yen = true → b.yv ≠ b.d) :
    ((s.doBundle k x run b t).core k).vreg b.d = ((s.core k).arith run b).1.vreg b.d := by
  have hlone : b.Lone b.d := ⟨fun _ _ => hx, fun _ _ => hy, fun hen h => absurd h (hx hen)⟩
  rw [State.doBundle_vreg hlone, State.bundleLoads, Chm.vreg_load_ne _ hy, Chm.vreg_load_ne _ hx]

theorem State.doBundle_vreg_x (hen : b.xen = true) (hy : b.yen = true → b.yv ≠ b.xv) (hd : b.aop = 9 → b.d ≠ b.xv) :
    ((s.doBundle k x run b t).core k).vreg b.xv = s.chmLoad k ((s.core k).p.get {} b.xp) 0 (decide (2 ≤ b.xu)) := by
  have hlone : b.Lone b.xv := ⟨fun h hr => absurd hr (hd h), fun _ _ => hy, fun _ _ => hy⟩
  rw [State.doBundle_vreg hlone, State.bundleLoads, Chm.vreg_load_ne _ hy, hen, Chm.vreg_load_self]

theorem State.doBundle_vreg_y (hen : b.yen = true) (hx : b.xen = true → b.xv ≠ b.yv) (hd : b.aop = 9 → b.d ≠ b.yv) :
    ((s.doBundle k x run b t).core k).vreg b.yv = s.chmLoad k ((s.core k).p.get {} b.yp) 1 (decide (2 ≤ b.yu)) := by
  have hlone : b.Lone b.yv := ⟨fun h hr => absurd hr (hd h), fun h hr => absurd hr (hd h), fun hen h => absurd h (hx hen)⟩
  rw [State.doBundle_vreg hlone, State.bundleLoads, hen, Chm.vreg_load_self]

/-! ### The store slot's pointer and the loop stack (R356, R362) -/

theorem Bundle.store_mem_slots (h : b.sk ≠ 0) : (b.sp, b.sb, 16, if b.sk = 3 then 2 else 4, b.su) ∈ b.slots := by
  rw [Bundle.slots, if_neg h]
  exact List.mem_append_right _ List.mem_cons_self

/-- The slots of a legal bundle use generators of their own (R356). -/
theorem State.slots_nodup (h : s.bundleFault k x b = none) : (b.slots.map (·.1)).Nodup := by
  refine Decidable.byContradiction fun hdup => ?_
  have hbad : b.illegal = true := by
    simp only [Bundle.illegal, decide_eq_false hdup, Bool.not_false, Bool.or_true, Bool.true_or]
  rw [State.bundleFault, if_pos hbad] at h
  cases h

theorem State.doBundle_gen_store (h : s.bundleFault k x b = none) (hsk : b.sk ≠ 0) (hsu : b.su = true) :
    ((s.doBundle k x run b t).core k).p.get {} b.sp = ((s.core k).p.get {} b.sp).next := by
  have hregs : (s.bundleRegs k run b).p = (s.core k).p := by rw [State.bundleRegs_only]
  rw [State.doBundle_core_eq, ← hregs]
  exact Chm.gen_movePointers_of_mem _ (State.slots_nodup h) (Bundle.store_mem_slots hsk) hsu

theorem Chm.loopEnd_of_nil {c : Chm} (h : c.loops = []) : c.loopEnd = c.goto (c.pc.toNat + 1) := by
  simp only [Chm.loopEnd, h]

theorem Chm.loopEnd_of_repeat {c : Chm} {l : LoopLevel} {rest : List LoopLevel} (h : c.loops = l :: rest) (hstop : l.stop = c.pc.toNat)
    (hcount : 1 < l.count) : c.loopEnd = ({ c with loops := { l with count := l.count - 1 } :: rest } : Chm).goto l.start := by
  simp only [Chm.loopEnd, h, hstop, ne_eq, not_true_eq_false, if_false, if_pos hcount]

theorem State.bundleCore_loops : (s.bundleCore k run b).loops = (s.core k).loops := by rw [State.bundleCore_only]

theorem State.bundleCore_pc : (s.bundleCore k run b).pc = (s.core k).pc := by rw [State.bundleCore_only]

theorem State.doBundle_pc_next (h : (s.core k).loops = []) :
    ((s.doBundle k x run b t).core k).pc = BitVec.ofNat 13 ((s.core k).pc.toNat + 1) := by
  rw [State.doBundle_core, Chm.loopEnd_of_nil (State.bundleCore_loops.trans h), State.bundleCore_pc]
  rfl

theorem State.doBundle_repeats {l : LoopLevel} {rest : List LoopLevel} (h : (s.core k).loops = l :: rest) (hstop : l.stop = (s.core k).pc.toNat)
    (hcount : 1 < l.count) : ((s.doBundle k x run b t).core k).pc = BitVec.ofNat 13 l.start ∧
      ((s.doBundle k x run b t).core k).loops = { l with count := l.count - 1 } :: rest := by
  have hstop' : l.stop = (s.bundleCore k run b).pc.toNat := hstop.trans (congrArg BitVec.toNat State.bundleCore_pc.symm)
  rw [State.doBundle_core, Chm.loopEnd_of_repeat (State.bundleCore_loops.trans h) hstop' hcount]
  exact ⟨rfl, rfl⟩

end

/-! ### The commands -/

/-- The bundle commands of a core, each with its AOP (R360). -/
def bundleCmds (k : Nat) : List (Instr × Nat) :=
  [(.aopNop k, 0), (.cmac k, 1), (.cmacj k, 2), (.cmsu k, 3), (.cmul k, 4), (.cmulj k, 5), (.rcmac k, 6), (.rcmul k, 7), (.azero k, 8), (.arnd k, 9),
    (.vadd k, 10), (.vsub k, 11), (.vconj k, 12), (.vmov k, 13), (.vrot k, 14), (.vbrev k, 15)]

theorem exec_of_mem_bundleCmds {k : Nat} {p : Instr × Nat} (hp : p ∈ bundleCmds k) (s : State) : exec p.1 s = s.bundle k p.2 := by
  simp only [bundleCmds, List.mem_cons, List.not_mem_nil, or_false] at hp
  rcases hp with rfl | rfl | rfl | rfl | rfl | rfl | rfl | rfl | rfl | rfl | rfl | rfl | rfl | rfl | rfl | rfl <;> rfl

section
variable {s : State} {k aop : Nat} {x : Ctx} {run : CRun} {b : Bundle} {t : Nat}

theorem Issues.bundle (h : Issues s k aop x run b t) : s.bundle k aop = .next (s.doBundle k x run b t) := by
  obtain ⟨hk, ⟨r, w, hr, hword, rfl⟩, haop, hplace, rfl, hbefore, hwithin, hsound, hclean⟩ := h
  simp only [State.bundle, if_neg (Nat.not_le.mpr hk), hr, hword, haop, hplace, hbefore, hwithin, hsound, hclean, bne_self_eq_false,
    Bool.not_true, Bool.or_self, Bool.false_eq_true, if_false]

theorem gives_of_issues {i : Instr} {P : State → Prop} (h : Issues s k aop x run b t) (hi : exec i s = s.bundle k aop)
    (hp : P (s.doBundle k x run b t)) : Gives i s P := ⟨_, hi.trans h.bundle, hp⟩

end

/-! ### The statement -/

/-- Settles O25: every bundle command is the one bundle, whose arithmetic slot is read off lane by lane and whose other slots are its own. -/
theorem signalArithmetic : Obligations.SignalArithmetic := by
  unfold Obligations.SignalArithmetic
  refine ⟨?pairs, ?vectors, ?slots⟩
  case pairs =>
    rintro s k x run b t c pairs rfl rfl
    refine ⟨fun h => ?cmac, fun h => ?cmacj, fun h => ?cmsu, fun h => ?cmul, fun h => ?cmulj, fun h => ?rcmac, fun h => ?rcmul, fun h => ?azero⟩
    case cmac => exact gives_of_issues h rfl (by simpa only [cprod_plain, Int.one_mul] using State.doBundle_pair (Chm.arith_cmac h.aop))
    case cmacj => exact gives_of_issues h rfl (by simpa only [cprod_conj, Int.one_mul] using State.doBundle_pair (Chm.arith_cmacj h.aop))
    case cmsu =>
      exact gives_of_issues h rfl
        (by simpa only [cprod_plain, Int.one_mul, ← Int.sub_eq_add_neg] using State.doBundle_pair (Chm.arith_cmsu h.aop))
    case cmul => exact gives_of_issues h rfl (by simpa only [cprod_plain, Int.zero_mul, Int.zero_add] using State.doBundle_pair (Chm.arith_cmul h.aop))
    case cmulj => exact gives_of_issues h rfl (by simpa only [cprod_conj, Int.zero_mul, Int.zero_add] using State.doBundle_pair (Chm.arith_cmulj h.aop))
    case rcmac =>
      refine gives_of_issues h rfl ?_
      simp only [State.doBundle_areg, Chm.arith_rcmac h.aop]
      simpa only [Int.one_mul] using Chm.areg_macReals (s.core k) b (b.d % 4) 1
    case rcmul =>
      refine gives_of_issues h rfl ?_
      simp only [State.doBundle_areg, Chm.arith_rcmul h.aop]
      simpa only [Int.zero_mul, Int.zero_add] using Chm.areg_macReals (s.core k) b (b.d % 4) 0
    case azero =>
      refine gives_of_issues h rfl ?_
      simp only [State.doBundle_areg, Chm.arith_azero h.aop]
      exact ⟨Chm.areg_macPair_zero (.inl rfl), Chm.areg_macPair_zero (.inr rfl), Chm.areg_macPair_ne _ _ _ _ (by omega) (by omega)⟩
  case vectors =>
    rintro s k x run b t c rfl hx hy
    refine ⟨fun h => ?arnd, fun h => ?vadd, fun h => ?vsub, fun h => ?vconj, fun h => ?vmov, fun h => ?vrot, fun h => ?vbrev⟩
    all_goals
      refine gives_of_issues h rfl ?_
      rw [State.doBundle_vreg_dest hx hy]
    case arnd => rw [Chm.arith_arnd h.aop, Chm.vreg_setV_self]
    case vadd => rw [Chm.arith_vadd h.aop, Chm.vreg_setV_self]; rfl
    case vsub => rw [Chm.arith_vsub h.aop, Chm.vreg_setV_self]; rfl
    case vconj => rw [Chm.arith_vconj h.aop, Chm.vreg_setV_self]; rfl
    case vmov => rw [Chm.arith_vmov h.aop, Chm.vreg_setV_self]
    case vrot => rw [Chm.arith_vrot h.aop, Chm.vreg_setV_self]
    case vbrev =>
      intro l hl
      rw [Chm.arith_vbrev h.aop, Chm.vreg_setV_self, List.getElem?_map, List.getElem?_range hl]
      rfl
  case slots =>
    rintro s k aop x run b t c i rfl hi h
    refine gives_of_issues h (exec_of_mem_bundleCmds hi s) ⟨State.doBundle_mem .., State.doBundle_vreg_x, State.doBundle_vreg_y,
      State.doBundle_gen_store h.sound, State.doBundle_pc_next, fun l rest => State.doBundle_repeats, ?_⟩
    rw [State.doBundle_core_eq]
    exact ⟨rfl, rfl, rfl⟩

end Sys2Proof.Machine
end

section
/-! PROOFS. The coding engines: blocks encoded, decoded, or taken from what an earlier decode has stored (R402, R404, R406, R408, R409). -/
namespace Sys2Proof.Machine

/-- A coding command without a result word makes one store, and its end stores nothing (R409). -/
theorem State.kudPut_mem (s : State) (g : Nat) (r : Running) (x : Ctx) (c : Cmd) (b : List Byte) (busy xfer : Nat) :
    (s.kudPut g r x c b none busy xfer).mem = (s.dstStore x c (cmdField c 24 8) b).mem := by
  simp only [State.kudPut, State.finishCmd_mem, State.work_mem, State.count64_mem]

/-! ### What a block is coded to -/

/-- Bytes of an LDPC_ENC's output: the coded bits read by rate matching and interleaved (R402). -/
def ldpcCoded (c : Cmd) (b : List Byte) : List Byte :=
  let k := ldpcOf c
  bytesOfBits ((List.range k.e).map fun j => Config.ldpcCode k.bg k.zc (withCrc k.crc (bitsOf b (k.kp - ldpcCrcLen k.crc)))
    (k.pos (j % k.qm * (k.e / k.qm) + j / k.qm)))

/-- Bits of a POLAR_ENC's block before its CRC (R408). -/
def polarLen (c : Cmd) : Nat := cmdField c 48 2 - polarCrcLen (bits c 336 2)

/-- Bytes of a POLAR_ENC's output (R402). -/
def polarCoded (c : Cmd) (b : List Byte) : List Byte :=
  bytesOfBits ((List.range (cmdField c 44 4)).map
    (Config.polarEnc (cmdField c 40 2) (cmdField c 48 2) (cmdField c 44 4) (cmdField c 42 1) (cmdField c 58 2) (bitsOf b (polarLen c))))

/-- What a POLAR_DEC finds in its soft values: the block, whether its CRC holds, and the path it took (R402, R409). -/
def polarFound (c : Cmd) (b : List Byte) : Nat × Bool × Nat :=
  Config.polarDec (cmdField c 40 2) (cmdField c 48 2) (cmdField c 42 1) (cmdField c 58 2) (b.map fun v => softByte (llr v))

/-- A polar decode is counted, and so is its failure. -/
def State.polarCounted (s : State) (g : Nat) (ok : Bool) : State :=
  if ok then s.count (Reg.KUD_POLAR_CNT g) 1 else (s.count (Reg.KUD_POLAR_CNT g) 1).count (Reg.KUD_POLAR_FAIL g) 1

/-! ### The soft buffer of an LDPC_DEC (R406) -/

/-- Key of the soft buffer that an LDPC_DEC names, if it names one. -/
def State.ldpcAt (s : State) (x : Ctx) (c : Cmd) : Option (Nat × Nat) :=
  if cmdField c 32 8 = 0 then none else s.harqAt x (cmdField c 32 8) (ldpcOf c).ncb

/-- Does an LDPC_DEC combine with its soft buffer? -/
def ldpcCombines (c : Cmd) : Bool := bit c 337 && decide (cmdField c 32 8 ≠ 0)

/-- The result of an earlier decode that passed, where an LDPC_DEC combines. -/
def State.ldpcStored (s : State) (x : Ctx) (c : Cmd) : Option (Bool × List Byte) :=
  (if ldpcCombines c then s.ldpcAt x c else none).bind fun q => (s.harqOf q.1).passed.find q.2

/-- Spans of the soft buffer that an LDPC_DEC reads. -/
def State.ldpcSpans (s : State) (c : Cmd) : List Span :=
  if ldpcCombines c then s.placedSpans (cmdField c 32 8) (ldpcOf c).ncb else []

/-- A read of the soft buffer is charged and counted. -/
def State.ldpcCharged (s : State) (g : Nat) (x : Ctx) (c : Cmd) : State :=
  if ldpcCombines c then
    (s.chargePlaced x (cmdField c 32 8) (ldpcOf c).p false).count64 (Reg.KUD_HARQ_RD_BYTES g) (ldpcOf c).p
  else s

/-- An LDPC_DEC at the front of its engine passes every check: its parameters, its soft buffer, its operands, and the room for its output
(R404, R406, R408). -/
structure State.LdpcReady (s : State) (g : Nat) (r : Running) (c : Cmd) (x : Ctx) : Prop where
  cur : s.cur (uKud g) 0x80 = some (r, c, x)
  allowed : (ldpcOf c).allowed = true
  found : ¬(cmdField c 32 8 ≠ 0 ∧ (s.ldpcAt x c).isNone = true)
  reached : ¬(cmdField c 32 8 ≠ 0 ∧ s.placedChk (some x.asOwner) (cmdField c 32 8) (ldpcOf c).ncb true ≠ 0)
  chk : s.kudChk x c (ldpcOf c).e (resultOfs (cmdField c 24 8) (ceilDiv (ldpcOf c).kp 8) + 8) = 0
  held : s.dstHeld x c (cmdField c 24 8) = false

theorem ldpcCombines_iff (c : Cmd) : ldpcCombines c = true ↔ bit c 337 = true ∧ cmdField c 32 8 ≠ 0 := by
  rw [ldpcCombines, Bool.and_eq_true, decide_eq_true_iff]

section
variable {s : State} {x : Ctx} {c : Cmd}

theorem State.ldpcAt_of_named (h : cmdField c 32 8 ≠ 0) : s.ldpcAt x c = s.harqAt x (cmdField c 32 8) (ldpcOf c).ncb := if_neg h

/-- The soft buffer that a decode names is found. -/
theorem State.ldpcAt_found (h : cmdField c 32 8 ≠ 0 → (s.harqAt x (cmdField c 32 8) (ldpcOf c).ncb).isSome = true) :
    ¬(cmdField c 32 8 ≠ 0 ∧ (s.ldpcAt x c).isNone = true) := by
  rintro ⟨hnamed, hnone⟩
  rw [State.ldpcAt_of_named hnamed, Option.isNone_iff_eq_none] at hnone
  exact absurd (h hnamed) (by rw [hnone]; exact Bool.false_ne_true)

/-- The stored result as the statement of the decode writes it out. -/
theorem State.ldpcStored_eq : s.ldpcStored x c =
    if cmdField c 32 8 ≠ 0 ∧ bit c 337 = true then
      (s.harqAt x (cmdField c 32 8) (ldpcOf c).ncb).bind fun q => (s.harqOf q.1).passed.find q.2
    else none := by
  by_cases h : ldpcCombines c = true
  · obtain ⟨hbit, hharq⟩ := (ldpcCombines_iff c).mp h
    rw [State.ldpcStored, if_pos h, if_pos ⟨hharq, hbit⟩, State.ldpcAt_of_named hharq]
  · rw [State.ldpcStored, if_neg h, if_neg fun k => h ((ldpcCombines_iff c).mpr k.symm)]
    rfl

end

/-! ### The commands -/

section
variable {s u : State} {g : Nat} {r : Running} {c : Cmd} {x : Ctx} {b : List Byte} (hg : g < 12)
  (hheld : s.dstHeld x c (cmdField c 24 8) = false)
include hg hheld

theorem exec_ldpcEnc_done (hcur : s.cur (uKud g) 0x81 = some (r, c, x)) (hallowed : (ldpcOf c).allowed = true)
    (hchk : s.kudChk x c (ceilDiv ((ldpcOf c).kp - ldpcCrcLen (ldpcOf c).crc) 8) (ceilDiv (ldpcOf c).e 8) = 0)
    (hf : s.fetch x [(cmdField c 16 8, ceilDiv ((ldpcOf c).kp - ldpcCrcLen (ldpcOf c).crc) 8)] = (0, b, u)) :
    exec (.ldpcEnc g) s = .next (u.kudPut g r x c (ldpcCoded c b) none
      (48 + ((ldpcOf c).kb + (ldpcOf c).rows (ldpcOf c).p) * ceilDiv (ldpcOf c).zc 40)
      (ceilDiv (ldpcOf c).kp 512 + ceilDiv (ldpcOf c).e 512)) := by
  change execLdpcEnc g s = _
  simp only [execLdpcEnc, if_neg (Nat.not_le.mpr hg), hcur, hallowed, hchk, hheld, hf, Bool.not_true, Bool.false_eq_true, if_false, ne_eq,
    not_true_eq_false]
  rfl

theorem exec_polarEnc_done (hcur : s.cur (uKud g) 0x83 = some (r, c, x)) (hallowed : polarAllowed c = true)
    (hchk : s.kudChk x c (ceilDiv (polarLen c) 8) (ceilDiv (cmdField c 44 4) 8) = 0)
    (hf : s.fetch x [(cmdField c 16 8, ceilDiv (polarLen c) 8)] = (0, b, u)) :
    exec (.polarEnc g) s = .next (u.kudPut g r x c (polarCoded c b) none (32 + cmdField c 40 2 * (cmdField c 40 2).log2 / 32)
      (ceilDiv (cmdField c 48 2) 512 + ceilDiv (cmdField c 44 4) 512)) := by
  rw [polarLen] at hchk hf
  change execPolarEnc g s = _
  simp only [execPolarEnc, if_neg (Nat.not_le.mpr hg), hcur, hallowed, hchk, hheld, hf, Bool.not_true, Bool.false_eq_true, if_false, ne_eq,
    not_true_eq_false]
  rfl

theorem exec_polarDec_done (hcur : s.cur (uKud g) 0x82 = some (r, c, x)) (hallowed : polarAllowed c = true)
    (hchk : s.kudChk x c (cmdField c 44 4) (resultOfs (cmdField c 24 8) (ceilDiv (cmdField c 48 2) 8) + 8) = 0)
    (hf : s.fetch x [(cmdField c 16 8, cmdField c 44 4)] = (0, b, u)) :
    exec (.polarDec g) s = .next ((u.polarCounted g (polarFound c b).2.1).kudPut g r x c (bytesOfBits (natBits (polarFound c b).1 (cmdField c 48 2)))
      (some (packFields [(1, (polarFound c b).2.1.toNat), (3, (polarFound c b).2.2 % 8)]))
      (64 + cmdField c 40 2 * (cmdField c 40 2).log2 / 8 + 6 * cmdField c 48 2) (ceilDiv (cmdField c 44 4) 64 + ceilDiv (cmdField c 48 2) 512)) := by
  change execPolarDec g s = _
  simp only [execPolarDec, if_neg (Nat.not_le.mpr hg), hcur, hallowed, hchk, hheld, hf, Bool.not_true, Bool.false_eq_true, if_false, ne_eq,
    not_true_eq_false]
  rfl

end

section
variable {s u : State} {g : Nat} {r : Running} {c : Cmd} {x : Ctx} {b : List Byte} (hg : g < 12) (h : s.LdpcReady g r c x)
include hg h

/-- A block that an earlier decode has marked as passed is not decoded again (R406). -/
theorem exec_ldpcDec_stored {syn : Bool} {d : List Byte} (hstored : s.ldpcStored x c = some (syn, d)) :
    exec (.ldpcDec g) s = .next (s.kudPut g r x c d (some (packFields [(6, 0), (1, syn.toNat), (1, 1), (1, 0), (1, 1)])) 0
      (ceilDiv (ldpcOf c).kp 512)) := by
  have hfound := h.found
  rw [State.ldpcAt] at hfound
  rw [State.ldpcStored, ldpcCombines, State.ldpcAt] at hstored
  change execLdpcDec g s = _
  simp only [execLdpcDec, if_neg (Nat.not_le.mpr hg), h.cur, h.allowed, Bool.not_true, Bool.false_eq_true, if_false, if_neg hfound,
    if_neg (not_not_intro h.chk), if_neg h.reached, h.held, hstored]

/-- A block is decoded from IN and from the soft buffer that it combines with, if any (R402, R406). -/
theorem exec_ldpcDec_decoded {v : State} (hstored : s.ldpcStored x c = none) (hf : s.fetch x [(cmdField c 16 8, (ldpcOf c).e)] = (0, b, u))
    (hread : u.readSpans (u.ldpcSpans c) x.asOwner = (false, v)) :
    exec (.ldpcDec g) s = .next ((v.ldpcCharged g x c).ldpcDecode g r x c b (v.rdSpans (u.ldpcSpans c)) (s.ldpcAt x c) (ldpcCombines c)) := by
  have hfound := h.found
  rw [State.ldpcAt] at hfound
  rw [State.ldpcStored, ldpcCombines, State.ldpcAt] at hstored
  rw [State.ldpcSpans, ldpcCombines] at hread
  change execLdpcDec g s = _
  simp only [execLdpcDec, if_neg (Nat.not_le.mpr hg), h.cur, h.allowed, Bool.not_true, Bool.false_eq_true, if_false, if_neg hfound,
    if_neg (not_not_intro h.chk), if_neg h.reached, h.held, hstored, hf, hread]
  rfl

end

/-! ### The statement -/

/-- Settles O26: each command passes its checks and makes its one store; a block is decoded alone, with its soft buffer, or not again. -/
theorem codingCommands : Obligations.CodingCommands := by
  unfold Obligations.CodingCommands
  refine fun s g r c x b u hg hheld => ⟨?ldpcEnc, ?ldpcDec, ?polarEnc, ?polarDec⟩
  case ldpcEnc =>
    rintro k n hcur rfl rfl hallowed hchk hf
    exact ⟨_, exec_ldpcEnc_done hg hheld hcur hallowed hchk hf, State.kudPut_mem ..⟩
  case ldpcDec =>
    rintro k harq passed sp rd v hcur rfl rfl hallowed hharq hchk hpassed
    rw [← State.ldpcStored_eq] at hpassed
    subst hpassed
    have hready : s.LdpcReady g r c x := {
      cur := hcur
      allowed := hallowed
      found := State.ldpcAt_found fun h => (hharq h).1
      reached := fun h => h.2 (hharq h.1).2
      chk := hchk
      held := hheld }
    refine ⟨fun syn d hstored => ⟨_, exec_ldpcDec_stored hg hready hstored, rfl⟩, fun hstored halone hf hread => ?alone,
      fun hstored hbit hnamed hf hsp hread hv => ?combined⟩
    case alone =>
      have hno : ldpcCombines c = false := by
        rw [← Bool.not_eq_true, ldpcCombines_iff]
        rintro ⟨hbit, hnamed⟩
        exact halone.elim (fun h => absurd (h.symm.trans hbit) Bool.false_ne_true) hnamed
      have hspans : u.ldpcSpans c = [] := by rw [State.ldpcSpans, hno]; rfl
      have hcharged : u.ldpcCharged g x c = u := by rw [State.ldpcCharged, hno]; rfl
      have hexec := exec_ldpcDec_decoded hg hready hstored hf (by rw [hspans]; exact hread)
      rw [hspans, hcharged, hno] at hexec
      exact ⟨_, hexec, rfl⟩
    case combined =>
      have hyes := (ldpcCombines_iff c).mpr ⟨hbit, hnamed⟩
      have hspans : u.ldpcSpans c = sp := by rw [State.ldpcSpans, if_pos hyes, hsp]
      have hcharged : rd.ldpcCharged g x c = v := by rw [State.ldpcCharged, if_pos hyes, hv]
      have hexec := exec_ldpcDec_decoded hg hready hstored hf (by rw [hspans]; exact hread)
      rw [hspans, hcharged, hyes, State.ldpcAt_of_named hnamed] at hexec
      exact ⟨_, hexec, rfl⟩
  case polarEnc =>
    rintro n m e hcur hallowed rfl rfl rfl hchk hf
    exact ⟨_, exec_polarEnc_done hg hheld hcur hallowed hchk hf, State.kudPut_mem ..⟩
  case polarDec =>
    rintro n k e d hcur hallowed rfl rfl rfl hchk hf rfl
    exact ⟨_, exec_polarDec_done hg hheld hcur hallowed hchk hf, rfl⟩

end Sys2Proof.Machine
end

section
/-! PROOFS. The radio service's shared operations: cells and their slots, messages from L2 and to it (R390, R410, R416 to R418, R573, R595). -/
namespace Sys2Proof.Machine

/-- A command that answers a next state gives what holds of that state. -/
theorem Gives.intro {i : Instr} {s t : State} {P : State → Prop} (h : exec i s = .next t) (ht : P t) : Gives i s P := ⟨t, h, ht⟩

/-! ### Cells and their slots -/

section
variable (s : State)

@[simp] theorem State.setCell_cell (n : Nat) (x : Cell) : (s.setCell n x).cell n = x := Tab.get_set_self _ _ _ _

/-- An update of a cell that keeps its state keeps the state of every cell. -/
theorem State.setCell_st {n : Nat} {x : Cell} (h : x.en.st = (s.cell n).en.st) (m : Nat) : ((s.setCell n x).cell m).en.st = (s.cell m).en.st := by
  by_cases hm : m = n
  · rw [hm, State.setCell_cell, h]
  · exact congrArg (fun y : Cell => y.en.st) (Tab.get_set_ne _ _ _ hm)

end

/-- A slot is found where it was put, before or after the others. -/
theorem find_insertSlot (l : List SlotWork) (w : SlotWork) : (insertSlot l w).find? (fun v => v.at0 == w.at0) = some w := by
  induction l with
  | nil => exact List.find?_cons_of_pos (beq_self_eq_true _)
  | cons y l ih =>
    unfold insertSlot
    split
    · exact List.find?_cons_of_pos (beq_self_eq_true _)
    · split
      · exact List.find?_cons_of_pos (beq_self_eq_true _)
      · next hne => rw [List.find?_cons_of_neg (by simpa using Ne.symm hne), ih]

theorem Cell.slotAt_at0 (x : Cell) (t : Nat) : (x.slotAt t).at0 = t := by
  unfold Cell.slotAt
  cases h : x.slots.find? (fun w => w.at0 == t) with
  | none => rfl
  | some w => exact beq_iff_eq.mp (List.find?_some (p := fun w : SlotWork => w.at0 == t) h)

/-- What a cell holds for a slot is what was put there. -/
theorem State.setSlot_slotAt (s : State) (n : Nat) {w : SlotWork} {t : Nat} (h : w.at0 = t) : ((s.setSlot n w).cell n).slotAt t = w := by
  rw [State.setSlot, State.setCell_cell, Cell.slotAt, Cell.setSlot, ← h, find_insertSlot]
  rfl

/-! ### Messages to L2 -/

/-- What a message to L2 changes: its ring, or the messages that wait or are held, and the log of outputs. -/
abbrev toldParts : List Part := [.fns, .radio, .front, .fab, .rpl, .health, .regs, .out]

/-- The parts in which the rings for L2 stand. -/
abbrev ringParts : List Part := [.fns, .front, .fab, .rpl, .regs, .out]

section
variable (s : State)

theorem State.tellL2_only (n ty handle : Nat) (slot : Stamp) (b : List Byte) : Only toldParts s (s.tellL2 n ty handle slot b) :=
  (@State.tellL2_stays toldParts s s n ty handle slot b (Stays.refl _ _) (Has.of rfl) (Has.of rfl) (Has.of rfl) (Has.of rfl) (Has.of rfl)
    (Has.of rfl) (Has.of rfl) (Has.of rfl)).only

variable {s} in
theorem State.ringWrite_radio {t : State} {via : Nat} {b : List Byte} (h : s.ringWrite via b = some t) : t.radio = s.radio :=
  (@State.ringWrite_stays ringParts s s via b (Stays.refl _ _) t h (Has.of rfl) (Has.of rfl) (Has.of rfl) (Has.of rfl) (Has.of rfl)
    (Has.of rfl)).only.same .radio (by decide)

theorem State.readHead_radio (via : Nat) : (s.readHead via).radio = s.radio :=
  (@State.readHead_stays ringParts s s via (Stays.refl _ _) (Has.of rfl) (Has.of rfl) (Has.of rfl) (Has.of rfl) (Has.of rfl)
    (Has.of rfl)).only.same .radio (by decide)

/-- Of the radio service's state a message on its way changes only which messages wait. -/
theorem State.ssiOut_radio (n : Nat) (marks : List LateMark) (b : List Byte) : ∃ l, (s.ssiOut n marks b).radio = { s.radio with waiting := l } := by
  unfold State.ssiOut
  extract_lets via wait
  split
  · exact ⟨_, rfl⟩
  · split
    · next h => exact ⟨_, State.ringWrite_radio h⟩
    · exact ⟨_, State.readHead_radio ..⟩

theorem State.indicate_radio (n deadline : Nat) (marks : List LateMark) (b : List Byte) :
    ∃ l, (s.indicate n deadline marks b).radio = { s.radio with waiting := l } := by
  unfold State.indicate
  extract_lets live
  split
  · exact ⟨_, rfl⟩
  · exact State.ssiOut_radio ..

/-- A message to L2 takes the cell's next SEQ and changes nothing else that the radio service holds, but which messages wait (R416). -/
theorem State.tellL2_radio (n ty handle : Nat) (slot : Stamp) (b : List Byte) :
    ∃ l, (s.tellL2 n ty handle slot b).radio = { s.radio with
      cells := s.radio.cells.set n { s.cell n with seqOut := ((s.cell n).seqOut + 1) % 2 ^ 32 }, waiting := l } := by
  unfold State.tellL2
  refine (State.indicate_radio ..).imp fun l hl => hl.trans ?_
  rw [State.output_radio]
  rfl

theorem State.cellNote_cell (n at0 : Nat) : (s.cellNote n at0).cell n = { s.cell n with seqOut := ((s.cell n).seqOut + 1) % 2 ^ 32 } := by
  obtain ⟨l, hl⟩ := s.tellL2_radio n 0xB0 0 (tcStamp at0) _
  rw [State.cell, State.cellNote, hl]
  exact Tab.get_set_self _ _ _ _

@[simp] theorem State.cellNote_harq (n at0 : Nat) : (s.cellNote n at0).radio.harq = s.radio.harq := by
  obtain ⟨l, hl⟩ := s.tellL2_radio n 0xB0 0 (tcStamp at0) _
  rw [State.cellNote, hl]

@[simp] theorem State.cellNote_mem (n at0 : Nat) : (s.cellNote n at0).mem = s.mem := (s.tellL2_only ..).same .mem (by decide)

end

/-! ### Messages from L2 (R416, R417) -/

/-- A message names a cell, is well formed for it, and follows the message before it. -/
structure State.Accepts (s : State) (b : List Byte) (k : CellCfg) : Prop where
  cfg : s.cellCfg (mCell b) = some k
  hdr : msgHdrOk b = true
  slot : msgSlotOk k.mu b = true
  seq : ∀ q, (s.cell (mCell b)).seqIn = some q → mSeq b = (q + 1) % 2 ^ 32

/-- The state with a message's SEQ noted in its cell. -/
def State.seqNoted (s : State) (b : List Byte) : State := s.setCell (mCell b) { s.cell (mCell b) with seqIn := some (mSeq b) }

section
variable {s : State} {via : Nat} {b : List Byte} {k : CellCfg}

theorem State.cellVia_of_running {n : Nat} (h : (s.cell n).en.st ≠ .off) : s.cellVia n via = s := if_neg h

theorem State.cellVia_of_off {n : Nat} (h : (s.cell n).en.st = .off) : s.cellVia n via = s.setCell n { s.cell n with via := via } := if_pos h

theorem State.cellVia_seqIn (s : State) (n via : Nat) : ((s.cellVia n via).cell n).seqIn = (s.cell n).seqIn := by
  unfold State.cellVia
  split
  · rw [State.setCell_cell]
  · rfl

/-- The transport by which a message came matters to none of its checks. -/
theorem State.Accepts.cellVia (h : s.Accepts b k) (via : Nat) : (s.cellVia (mCell b) via).Accepts b k where
  cfg := by
    rw [← h.cfg, State.cellVia]
    split <;> rfl
  hdr := h.hdr
  slot := h.slot
  seq := by
    rw [State.cellVia_seqIn]
    exact h.seq

/-- A message that is accepted, with contents that match, is acted on once its SEQ is noted. -/
theorem State.message_of_accepts (h : s.Accepts b k) {ok : CellCfg → Bool} (hok : ok k = true) (f : CellCfg → State → State) :
    s.message via b ok f = f k ((s.cellVia (mCell b) via).seqNoted b) := by
  have h' := h.cellVia via
  have hgap : (match ((s.cellVia (mCell b) via).cell (mCell b)).seqIn with | none => false | some q => mSeq b != (q + 1) % 2 ^ 32) = false := by
    cases hq : ((s.cellVia (mCell b) via).cell (mCell b)).seqIn with
    | none => rfl
    | some q => exact bne_eq_false_iff_eq.mpr (h'.seq q hq)
  simp only [State.message, h'.cfg, h'.hdr, h'.slot, hok, Bool.not_true, Bool.or_self, Bool.false_eq_true, if_false]
  exact congrArg (f k) (if_neg (Bool.eq_false_iff.mp hgap))

end

end Sys2Proof.Machine
end

section
/-! PROOFS. Cells start and stop, radio lists are admitted, and uplink results are reported, late or as their ring has room (R385 to R394, R412 to
R418, R573, R595, R607, R683). -/
namespace Sys2Proof.Machine

/-! ### Starting a cell (R388, R389) -/

section
variable {s : State} {n : Nat} {x : Cell} (h : x.en.st = (s.cell n).en.st)
include h

/-- The eighths that cells hold are counted by the cells' states. -/
theorem State.setCell_capUsed (g : Nat) : (s.setCell n x).capUsed g = s.capUsed g := by
  simp only [State.capUsed, State.liveCells, State.setCell_st s h]
  rfl

theorem State.setCell_slotsFull (k : CellCfg) : (s.setCell n x).slotsFull k = s.slotsFull k := by
  simp only [State.slotsFull, State.setCell_st s h]
  rfl

end

/-- A region takes one more cell: time has been locked, and capacity and reserved slots are left (R385, R388). -/
structure State.RoomFor (s : State) (k : CellCfg) : Prop where
  locked : s.time.everLocked = true
  capacity : s.capUsed k.region + k.cost ≤ s.capNow k.region
  slots : s.slotsFull k = false

theorem State.RoomFor.setCell {s : State} {k : CellCfg} {n : Nat} {x : Cell} (h : s.RoomFor k) (hx : x.en.st = (s.cell n).en.st) :
    (s.setCell n x).RoomFor k where
  locked := h.locked
  capacity := (State.setCell_capUsed hx k.region).symm ▸ h.capacity
  slots := (State.setCell_slotsFull hx k).trans h.slots

/-- A cell's HARQ area is empty: its entries' records, and the bytes of its soft buffers (R389, R406). -/
def State.harqEmptied (s : State) (n : Nat) (k : CellCfg) : State :=
  { s.dropHarq n with mem := (s.placedSpans k.harqBase k.harqLen).foldl (fun (m : Mem) (p : Span) => m.clear p.1 p.2) s.mem }

/-- A cell as it begins at an instant: STARTING, ON from the first frame at least two frames later (R389). -/
def Cell.begun (x : Cell) (profile now : Nat) : Cell :=
  { x with en := { st := .starting, pend := false }, profile := profile, onFrame := onFrameOf now, first := onFrameOf now * frameTc, stop := none,
           reason := 0, next := none, slots := [], marked := 0, muted := false }

/-- A cell begins: its HARQ area emptied, its contexts made, and a CELL_NOTE sent (R132, R389, R418). -/
def State.cellBegun (s : State) (n : Nat) (k : CellCfg) (profile : Nat) : State :=
  let t := (s.harqEmptied n k).makeRadioCtxs n k
  let t := t.setCell n ((t.cell n).begun profile t.now)
  { t with rpl := { t.rpl with untouched := false } }.cellNote n t.now

section
variable {s : State} {n : Nat} {k : CellCfg} {profile : Nat}

theorem State.startCell_of_room (h : s.RoomFor k) : s.startCell n k profile = (0, s.cellBegun n k profile) := by
  have hroom : ¬(s.capNow k.region < s.capUsed k.region + k.cost ∨ s.slotsFull k = true) := by
    rw [not_or, h.slots]
    exact ⟨Nat.not_lt.mpr h.capacity, Bool.false_ne_true⟩
  simp only [State.startCell, h.locked, Bool.not_true, Bool.false_eq_true, if_false, if_neg hroom]
  rfl

theorem State.makeRadioCtxs_only (s : State) (n : Nat) (k : CellCfg) : Only [.ctxs] s (s.makeRadioCtxs n k) :=
  have : Has [.ctxs] .ctxs := Has.of rfl
  (State.makeRadioCtxs_stays _ _ _ (Stays.refl _ _)).only

theorem State.cellBegun_cell : (s.cellBegun n k profile).cell n =
    { (s.cell n).begun profile s.now with seqOut := ((s.cell n).seqOut + 1) % 2 ^ 32 } := by
  have hmade := (s.harqEmptied n k).makeRadioCtxs_only n k
  have hradio : ((s.harqEmptied n k).makeRadioCtxs n k).radio = _ := hmade.same .radio (by decide)
  have htime : ((s.harqEmptied n k).makeRadioCtxs n k).time = _ := hmade.same .time (by decide)
  have hcell : ((s.harqEmptied n k).makeRadioCtxs n k).cell n = s.cell n := by rw [State.cell, hradio]; rfl
  have hnow : ((s.harqEmptied n k).makeRadioCtxs n k).now = s.now := by rw [State.now, htime]; rfl
  have hset := State.setCell_cell ((s.harqEmptied n k).makeRadioCtxs n k) n ((s.cell n).begun profile s.now)
  simp only [State.cellBegun, hcell, hnow, State.cellNote_cell]
  exact congrArg (fun x : Cell => { x with seqOut := (x.seqOut + 1) % 2 ^ 32 }) hset

theorem State.cellBegun_mem : (s.cellBegun n k profile).mem =
    (s.placedSpans k.harqBase k.harqLen).foldl (fun (m : Mem) (p : Span) => m.clear p.1 p.2) s.mem :=
  (State.cellNote_mem ..).trans (((s.harqEmptied n k).makeRadioCtxs_only n k).same .mem (by decide))

end

/-- The state in which a CELL_START of a cell that is OFF starts it: its transport and its SEQ are noted (R389, log entry 11). -/
def State.startNoted (s : State) (via : Nat) (b : List Byte) : State :=
  let t := (s.cellVia (mCell b) via).seqNoted b
  t.setCell (mCell b) { t.cell (mCell b) with via := via }

section
variable {s : State} {via : Nat} {b : List Byte} (hoff : (s.cell (mCell b)).en.st = .off)
include hoff

theorem State.startNoted_of_off : s.startNoted via b =
    ((s.setCell (mCell b) { s.cell (mCell b) with via := via }).setCell (mCell b)
      { s.cell (mCell b) with via := via, seqIn := some (mSeq b) }).setCell (mCell b)
      { s.cell (mCell b) with via := via, seqIn := some (mSeq b) } := by
  simp only [State.startNoted, State.cellVia_of_off hoff, State.seqNoted, State.setCell_cell]

theorem State.startNoted_cell : (s.startNoted via b).cell (mCell b) = { s.cell (mCell b) with via := via, seqIn := some (mSeq b) } := by
  rw [State.startNoted_of_off hoff, State.setCell_cell]

theorem State.RoomFor.startNoted {k : CellCfg} (h : s.RoomFor k) : (s.startNoted via b).RoomFor k := by
  rw [State.startNoted_of_off hoff]
  refine ((h.setCell ?_).setCell ?_).setCell ?_
  · rfl
  · rw [State.setCell_cell]
  · rw [State.setCell_cell]

end

section
variable {s : State} {via : Nat} {b : List Byte} {k : CellCfg} (h : s.Accepts b k) (hvia : isVia via = true)
include h hvia

theorem exec_cellStart_off (hty : mTy b = 0x01) (hform : (b.length == 32 && mCount b == 0 && decide (byteField b 24 1 ≤ 3) && zeroAt b 25 7) = true)
    (hoff : (s.cell (mCell b)).en.st = .off) (hroom : s.RoomFor k) :
    exec (.cellStart via b) s = .next ((s.startNoted via b).cellBegun (mCell b) k (byteField b 24 1)) := by
  have hst : (((s.cellVia (mCell b) via).seqNoted b).cell (mCell b)).en.st = .off := by
    rw [State.cellVia_of_off hoff, State.seqNoted, State.setCell_cell, State.setCell_cell, hoff]
  have hstart := State.startCell_of_room (n := mCell b) (profile := byteField b 24 1) (hroom.startNoted (via := via) hoff)
  rw [State.startNoted] at hstart
  change execCellStart via b s = _
  simp only [execCellStart, hvia, Bool.not_true, Bool.false_eq_true, if_false, if_pos hty, State.ssiCellStart]
  rw [State.message_of_accepts h hform]
  simp only [hst, hstart, if_true]
  rfl

theorem exec_cellStop_on (hty : mTy b = 0x02) (hform : (b.length == 24 && mCount b == 0) = true) (hon : (s.cell (mCell b)).en.st = .on) :
    exec (.cellStop via b) s = .next ((s.seqNoted b).stopCell (mCell b) 0) := by
  have hst : ((s.seqNoted b).cell (mCell b)).en.st = .on := by rw [State.seqNoted, State.setCell_cell, hon]
  change execCellStop via b s = _
  simp only [execCellStop, hvia, Bool.not_true, Bool.false_eq_true, if_false, if_pos hty, State.ssiCellStop]
  rw [State.message_of_accepts h hform, State.cellVia_of_running (by rw [hon]; decide), if_pos hst]

end

/-! ### Stopping a cell (R390) -/

/-- The first slot whose DL deadline lies after an instant (R390). -/
def firstOpenSlot (mu now : Nat) : Nat := slotStart mu now + slotTc mu * ((if mu = 3 then 4 else 2) + 1)

theorem State.stopCell_of_on {s : State} {n : Nat} {k : CellCfg} (hcfg : s.cellCfg n = some k) (hon : (s.cell n).en.st = .on) (reason : Nat) :
    s.stopCell n reason = (s.setCell n { s.cell n with
      en := { st := .stopping, pend := false }, stop := some (firstOpenSlot k.mu s.now), reason := reason }).cellNote n s.now := by
  simp only [State.stopCell, hcfg, hon]
  rfl

/-- The contexts of a cell that is OFF end, or are left to end (R390, R788). -/
def State.cellCtxsEnded (s : State) (n : Nat) : State :=
  (s.cellCtxs n).foldl (fun s id =>
    let s := s.updCtx id (fun y => { y with ending := true })
    match s.ctx? id with
    | none => s
    | some y => if s.mayEnd y then s.dropCtx id else s) s

/-- A cell is OFF and no CELL_START waits for it (R390). -/
def State.cellOffNoted (s : State) (n : Nat) : State :=
  let t := ((s.cellCtxsEnded n).dropHarq n).setCell n { s.cell n with en := {}, slots := [], stop := none, next := none, muted := false }
  t.cellNote n t.now

/-- The parts that the ends of contexts may change. -/
abbrev endedParts : List Part := [.lists, .ctxs, .fns, .mat, .tiers, .fab, .regs]

section
variable {s : State} {n : Nat}

theorem State.cellCtxsEnded_only : Only endedParts s (s.cellCtxsEnded n) := by
  refine (Stays.foldl (Stays.refl endedParts s) fun u id hu => ?_).only
  have : Has endedParts .ctxs := Has.of rfl
  have hmarked := State.updCtx_stays u id (fun y => { y with ending := true }) hu
  dsimp only
  split
  · exact hmarked
  · split
    · exact @State.dropCtx_stays endedParts s _ id hmarked (Has.of rfl) (Has.of rfl) (Has.of rfl) (Has.of rfl) (Has.of rfl) (Has.of rfl)
        (Has.of rfl)
    · exact hmarked

theorem State.cellGone_of_no_next (h : (s.cell n).next = none) : s.cellGone n = s.cellOffNoted n := by
  simp only [State.cellGone, h]
  rfl

theorem State.cellOffNoted_cell : (s.cellOffNoted n).cell n =
    { s.cell n with en := {}, slots := [], stop := none, next := none, muted := false, seqOut := ((s.cell n).seqOut + 1) % 2 ^ 32 } := by
  simp only [State.cellOffNoted, State.cellNote_cell, State.setCell_cell]

theorem State.cellOffNoted_harq : (s.cellOffNoted n).radio.harq = s.radio.harq.filter (fun (p : Nat × Harq) => p.1 / 65536 != n) := by
  have hradio : (s.cellCtxsEnded n).radio = s.radio := State.cellCtxsEnded_only.same .radio (by decide)
  rw [← hradio]
  exact State.cellNote_harq ..

theorem State.cellOffNoted_mem : (s.cellOffNoted n).mem = s.mem :=
  (State.cellNote_mem ..).trans (State.cellCtxsEnded_only.same .mem (by decide))

/-- A CELL_STOP's slot has come and every result of the slots before it is delivered (R390). -/
theorem exec_cellOff_due (hn : n < 512) (hst : (s.cell n).en.st = .stopping) (hstop : ∀ e, (s.cell n).stop = some e → e ≤ s.now)
    (hdone : (s.cell n).slots.all (fun w => w.pend.isEmpty) = true) (hsent : s.radio.waiting.any (fun m => m.cell == n) = false) :
    exec (.cellOff n) s = .next (s.cellGone n) := by
  have hdue : (match (s.cell n).stop with | none => true | some t => decide (t ≤ s.now)) = true := by
    cases he : (s.cell n).stop with
    | none => rfl
    | some e => exact decide_eq_true (hstop e he)
  change execCellOff n s = _
  simp only [execCellOff, if_neg (Nat.not_le.mpr hn)]
  refine if_pos ?_
  simp only [hst, hdone, hsent, decide_true, Bool.not_false, Bool.and_true, Bool.true_and]
  exact hdue

/-- A cell that starts is ON when its frame has come (R389, R683). -/
theorem exec_cellOn_due (hn : n < 512) (hst : (s.cell n).en.st = .starting) (hpend : (s.cell n).en.pend = false)
    (hdue : (s.cell n).onFrame * frameTc ≤ s.now) :
    exec (.cellOn n) s = .next ((s.setCell n { s.cell n with
      en := { st := .on, pend := false }, muted := s.isStandby n, marked := (s.cell n).first - 1 }).cellNote n ((s.cell n).onFrame * frameTc)) := by
  have hgo : ¬((s.cell n).en.st ≠ .starting ∨ s.now < (s.cell n).onFrame * frameTc) := by
    rw [not_or]
    exact ⟨not_not_intro hst, Nat.not_lt.mpr hdue⟩
  change execCellOn n s = _
  simp only [execCellOn, if_neg (Nat.not_le.mpr hn), if_neg hgo, hpend, Bool.false_eq_true, if_false]

theorem exec_cellOn_early (hn : n < 512) (hearly : s.now < (s.cell n).onFrame * frameTc) : exec (.cellOn n) s = .next s := by
  change execCellOn n s = _
  simp only [execCellOn, if_neg (Nat.not_le.mpr hn), if_pos (Or.inr hearly)]

end

/-! ### Radio lists, results and their deadlines (R392, R412 to R414) -/

section
variable {s : State} {n : Nat}

theorem exec_radioListAdmit {u len : Nat} {x : Ctx} {l : ListRec} (hunit : isUnit u = true) (hu : u < 0x10000) (hnext : s.nextRadio u = some (x, l)) :
    exec (.radioListAdmit u len none) s = .next (if s.now + len < s.windowEnd (x.cluster / 4) then s.launchList x l u else s) := by
  change execRadioListAdmit u len none s = _
  simp only [execRadioListAdmit, hunit, decide_eq_false (Nat.not_le.mpr hu), Bool.not_true, Bool.or_self, Bool.false_eq_true, if_false, hnext]

theorem exec_ulReport {at0 : Nat} {rs : List UlResult} (hn : n < 512) (hlive : (s.cell n).en.st = .on ∨ (s.cell n).en.st = .stopping)
    (hlen : rs.length ≤ 64) (hne : rs ≠ []) (howed : rs.all (fun r => (((s.cell n).slotAt at0).pendOf r).isSome && decide (r.body.length < 65000)) = true)
    (hnodup : (rs.map (fun r => (r.kind, r.handle))).Nodup) :
    exec (.ulReport n at0 rs) s = .next (s.writeReport n ((s.cell n).slotAt at0) rs) := by
  have hst : ((s.cell n).en.st == .on || (s.cell n).en.st == .stopping) = true := by
    rw [Bool.or_eq_true, beq_iff_eq, beq_iff_eq]
    exact hlive
  change execUlReport n at0 rs s = _
  simp only [execUlReport, if_neg (Nat.not_le.mpr hn), hst, decide_eq_true hlen, howed, decide_eq_true hnodup, Bool.true_and,
    Bool.not_eq_true', List.isEmpty_eq_false_iff.mpr hne, if_true]

/-- The earliest result that its slot still owes after its deadline is LATE, counted and told (R414). -/
theorem exec_deadlineMiss {w : SlotWork} {q : Pending} {k : CellCfg} (hn : n < 512)
    (hw : (s.cell n).slots.find? (fun w => (w.overdue s.now).isSome) = some w) (hq : w.overdue s.now = some q) (hcfg : s.cellCfg n = some k) :
    exec (.deadlineMiss n) s = .next (((s.setSlot n { w with pend := w.pend.map (fun (p : Pending) =>
      if p.kind = q.kind ∧ p.handle = q.handle then { p with late := true } else p) }).count (Reg.KUD_LATE_CNT k.region) 1).faultNote n 0x0D 0x28
        w.ulSeq q.handle (tcStamp w.at0)) := by
  have hcfg' : ∀ v, (s.setSlot n v).cellCfg n = some k := fun _ => hcfg
  change execDeadlineMiss n s = _
  simp only [execDeadlineMiss, if_neg (Nat.not_le.mpr hn), hw, hq, State.missed, hcfg']

end

/-! ### Result entries (R422) -/

theorem leBytes_length (n v : Nat) : (leBytes n v).length = n := by
  induction n generalizing v with
  | zero => rfl
  | succ n ih => rw [leBytes, List.length_cons, ih]

/-- Bytes written least significant first spell their number again, as far as they hold it (R14). -/
theorem leNat_leBytes (n v : Nat) : leNat (leBytes n v) = v % 256 ^ n := by
  induction n generalizing v with
  | zero => rw [Nat.pow_zero, Nat.mod_one]; rfl
  | succ n ih =>
    rw [leBytes, leNat, ih, BitVec.toNat_ofNat, Nat.pow_succ' (m := 256)]
    exact Nat.mod_mul.symm

theorem byteField_append_leBytes (a c : List Byte) (n v : Nat) : byteField (a ++ (leBytes n v ++ c)) a.length n = v % 256 ^ n := by
  rw [byteField, List.drop_left, List.take_left' (leBytes_length n v), leNat_leBytes]

/-- FLAGS of an entry: those of the result, with LATE as the slot has it. -/
def ulFlags (q : Pending) (r : UlResult) : Nat := (r.flags &&& (255 - lateBit r.kind)) + (if q.late then lateBit r.kind else 0)

/-- Body of an entry: the result's own, its status that of the slot where the slot has one. -/
def ulBody (q : Pending) (r : UlResult) : List Byte :=
  if r.kind = 3 then r.body else r.body.take 2 ++ leBytes 1 (if q.status = 0 then r.status else q.status) ++ r.body.drop 3

/-- Length of an entry: its header and its body, padded to 8 bytes. -/
def ulLen (q : Pending) (r : UlResult) : Nat := 8 + ceilDiv (ulBody q r).length 8 * 8

/-- What follows an entry's header. -/
def ulRest (q : Pending) (r : UlResult) : List Byte := ulBody q r ++ List.replicate (ulLen q r - 8 - (ulBody q r).length) 0

section
variable (q : Pending) (r : UlResult)

theorem ulEntry_eq : ulEntry q r =
    leBytes 1 r.kind ++ (leBytes 1 (ulFlags q r) ++ (leBytes 2 (ulLen q r) ++ (leBytes 4 r.handle ++ ulRest q r))) := by
  change leBytes 1 r.kind ++ leBytes 1 (ulFlags q r) ++ leBytes 2 (ulLen q r) ++ leBytes 4 r.handle ++ ulBody q r ++
    List.replicate (ulLen q r - 8 - (ulBody q r).length) 0 = _
  simp only [ulRest, List.append_assoc]

theorem ulEntry_take : (ulEntry q r).take 2 = [BitVec.ofNat 8 r.kind, BitVec.ofNat 8 (ulFlags q r)] := by rw [ulEntry_eq]; rfl

theorem ulEntry_handle : byteField (ulEntry q r) 4 4 = r.handle % 2 ^ 32 := by
  rw [ulEntry_eq, ← List.append_assoc, ← List.append_assoc]
  exact byteField_append_leBytes (leBytes 1 r.kind ++ leBytes 1 (ulFlags q r) ++ leBytes 2 (ulLen q r)) _ 4 _

theorem ulEntry_lenField : byteField (ulEntry q r) 2 2 = ulLen q r % 2 ^ 16 := by
  rw [ulEntry_eq, ← List.append_assoc]
  exact byteField_append_leBytes (leBytes 1 r.kind ++ leBytes 1 (ulFlags q r)) _ 2 _

theorem ulEntry_length : (ulEntry q r).length = ulLen q r := by
  have hpad : (ulBody q r).length ≤ ceilDiv (ulBody q r).length 8 * 8 := by rw [ceilDiv]; omega
  rw [ulEntry_eq, ulRest, ulLen]
  simp only [List.length_append, leBytes_length, List.length_replicate]
  omega

variable {r} in
theorem ulBody_length (h : 3 ≤ r.body.length) : (ulBody q r).length = r.body.length := by
  unfold ulBody
  split
  · rfl
  · simp only [List.length_append, List.length_take, leBytes_length, List.length_drop]
    omega

end

/-! ### Room in a ring (R573, R595) -/

section
variable {s : State} {m : SsiMsg}

/-- The oldest message that waits is written once its ring has room for it. -/
theorem exec_indicationRingRoom_written {t : State} {l : List SsiMsg} (hwait : s.radio.waiting = m :: l)
    (hroom : s.ringWrite (s.cell m.cell).via m.bytes = some t) :
    exec .indicationRingRoom s = .next { t with radio := { t.radio with waiting := l } } := by
  change execIndicationRingRoom s = _
  simp only [execIndicationRingRoom, hwait, State.writeWaiting, List.contains_nil, Bool.false_eq_true, if_false, hroom, List.nil_append]

theorem exec_indicationRingRoom_full (hwait : s.radio.waiting = [m]) (hfull : s.ringWrite (s.cell m.cell).via m.bytes = none) :
    exec .indicationRingRoom s = .next s := by
  change execIndicationRingRoom s = _
  simp only [execIndicationRingRoom, hwait, State.writeWaiting, List.contains_nil, Bool.false_eq_true, if_false, hfull]

end

/-! ### The statement -/

/-- Settles O32: cells start, stop and come ON or OFF with one CELL_NOTE each; lists, results, late results and waiting messages take the branch that
their conditions name. -/
theorem cellsAndReports : Obligations.CellsAndReports := by
  unfold Obligations.CellsAndReports
  refine ⟨⟨?messages, ?states⟩, ?lists, ?report, ?entry, ?late, ?written, ?full⟩
  case messages =>
    intro s via b k hvia hcfg hhdr hslot hcount hseq
    have h : s.Accepts b k := ⟨hcfg, hhdr, hslot, hseq⟩
    refine ⟨fun hty hlen hprofile hzero hoff hlocked hcap hslots => ?start, fun hty hlen hon => ?stop⟩
    case start =>
      have hform : (b.length == 32 && mCount b == 0 && decide (byteField b 24 1 ≤ 3) && zeroAt b 25 7) = true := by
        rw [hlen, hcount, decide_eq_true hprofile, hzero]
        rfl
      refine Gives.intro (exec_cellStart_off h hvia hty hform hoff ⟨hlocked, hcap, hslots⟩) ?_
      rw [State.cellBegun_cell, State.cellBegun_mem, State.startNoted_cell hoff, State.startNoted_of_off hoff]
      exact ⟨rfl, rfl, rfl, rfl, rfl, rfl⟩
    case stop =>
      have hform : (b.length == 24 && mCount b == 0) = true := by rw [hlen, hcount]; rfl
      have hst : ((s.seqNoted b).cell (mCell b)).en.st = .on := by rw [State.seqNoted, State.setCell_cell, hon]
      refine Gives.intro (exec_cellStop_on h hvia hty hform hon) ?_
      rw [State.stopCell_of_on (s := s.seqNoted b) (k := k) hcfg hst, State.cellNote_cell, State.cellNote_mem, State.setCell_cell]
      exact ⟨rfl, rfl, rfl, rfl⟩
  case states =>
    intro s n hn
    refine ⟨fun hst hpend hdue => ?on, fun _ hearly => ⟨_, exec_cellOn_early hn hearly, rfl⟩, fun hst hstop hdone hsent hnext => ?off⟩
    case on =>
      refine Gives.intro (exec_cellOn_due hn hst hpend hdue) ?_
      rw [State.cellNote_cell, State.setCell_cell]
      exact ⟨rfl, rfl, rfl⟩
    case off =>
      refine Gives.intro (exec_cellOff_due hn hst hstop hdone hsent) ?_
      rw [State.cellGone_of_no_next hnext, State.cellOffNoted_cell, State.cellOffNoted_mem, State.cellOffNoted_harq]
      exact ⟨rfl, rfl, rfl, rfl⟩
  case lists =>
    intro s u len x l hunit hu hnext
    exact ⟨fun hfits => ⟨_, exec_radioListAdmit hunit hu hnext, if_pos hfits⟩,
      fun hlate => ⟨_, exec_radioListAdmit hunit hu hnext, if_neg (Nat.not_lt.mpr hlate)⟩⟩
  case report => exact fun s n at0 rs hn hlive hlen hne howed hnodup => ⟨_, exec_ulReport hn hlive hlen hne howed hnodup, rfl⟩
  case entry =>
    intro q r
    refine ⟨ulEntry_take q r, ulEntry_handle q r, fun hlt hle => ?_⟩
    have hceil : ulLen q r < 2 ^ 16 := by rw [ulLen, ulBody_length q hle, ceilDiv]; omega
    rw [ulEntry_lenField, ulEntry_length, Nat.mod_eq_of_lt hceil]
  case late => exact fun s n w q k hn hw hq hcfg => ⟨_, exec_deadlineMiss hn hw hq hcfg, rfl⟩
  case written => exact fun s m l t hwait hroom => ⟨_, exec_indicationRingRoom_written hwait hroom, rfl, rfl, rfl⟩
  case full => exact fun s m hwait hfull => ⟨_, exec_indicationRingRoom_full hwait hfull, rfl⟩

end Sys2Proof.Machine
end

section
/-! PROOFS. Orders for slots, transport blocks, releases of HARQ entries, slot marks and the downlink deadline (R396, R407, R410, R411, R417 to
R423). -/
namespace Sys2Proof.Machine

/-! ### A message for a slot -/

/-- What a message's cell holds for the slot that the message names. -/
def State.slotOf (s : State) (b : List Byte) : SlotWork := (s.cell (mCell b)).slotAt (stampTc (mSlot b))

/-- A cell takes messages for the slot that a message names, and the message is not early (R389, R390, R417). -/
structure State.InSlot (s : State) (b : List Byte) (k : CellCfg) : Prop where
  takes : (s.cell (mCell b)).takes (stampTc (mSlot b)) = true
  near : stampTc (mSlot b) ≤ s.now + 16 * slotTc k.mu

/-- The PDUs that a DL_ORDER's cell accepts, and the notes on those refused (R420, R423). -/
def State.dlTaken (s : State) (b : List Byte) (k : CellCfg) (ps : List (List Byte)) : List Pdu × State :=
  s.takePdus b ps 0 [] [] [] fun _ acc _ q => dlChk k acc q

/-- The PDUs that an UL_ORDER's cell accepts, and the notes on those refused (R421, R423). -/
def State.ulTaken (s : State) (b : List Byte) (k : CellCfg) (ps : List (List Byte)) : List Pdu × State :=
  s.takePdus b ps 0 [] [] [] fun a acc bad q => a.ulChk (mCell b) k acc bad q

/-- The results that an UL_ORDER's accepted PDUs owe, with the HARQ entries they take (R407, R412). -/
def State.ulOwed (s : State) (b : List Byte) (k : CellCfg) (ps : List (List Byte)) : List Pending × State :=
  (s.ulTaken b k ps).2.takeHarqs (mCell b) ((s.ulTaken b k ps).1.flatMap (owes (mCell b) k.mu (stampTc (mSlot b))))

theorem State.slotOf_at0 (s : State) (b : List Byte) : (s.slotOf b).at0 = stampTc (mSlot b) := Cell.slotAt_at0 ..

section
variable {s : State} {via : Nat} {b : List Byte} {k : CellCfg} (h : s.Accepts b k) (hvia : isVia via = true)
  (hlive : (s.cell (mCell b)).en.st ≠ .off)
include h hlive

theorem State.message_of_live {ok : CellCfg → Bool} (hok : ok k = true) (f : CellCfg → State → State) :
    s.message via b ok f = f k (s.seqNoted b) := by
  rw [State.message_of_accepts h hok, State.cellVia_of_running hlive]

include hvia

section
variable (hslot : (s.seqNoted b).InSlot b k)
include hslot

section
variable {ps : List (List Byte)} (hps : splitPdus (mCount b) (b.drop 24) = some ps)
include hps

theorem exec_dlOrder_taken (hty : mTy b = 0x20) (hsoon : (s.seqNoted b).now < dlDeadline k.mu (stampTc (mSlot b)))
    (hfree : ((s.seqNoted b).slotOf b).dl = none) :
    exec (.dlOrder via b) s = .next (((s.seqNoted b).dlTaken b k ps).2.setSlot (mCell b) { (s.seqNoted b).slotOf b with
      dl := some (((s.seqNoted b).dlTaken b k ps).1.map (((s.seqNoted b).dlTaken b k ps).2.fixBeam (mCell b))), dlSeq := mSeq b }) := by
  rw [State.slotOf] at hfree
  change execDlOrder via b s = _
  simp only [execDlOrder, hvia, Bool.not_true, Bool.false_eq_true, if_false, if_pos hty, State.ssiDlOrder]
  rw [State.message_of_live h hlive (by rw [hps]; rfl)]
  simp only [hslot.takes, Bool.not_true, Bool.false_eq_true, if_false, if_neg (Nat.not_lt.mpr hslot.near), if_neg (Nat.not_le.mpr hsoon), hfree,
    Option.isSome_none, hps, Option.getD_some]
  rfl

theorem exec_dlOrder_late (hty : mTy b = 0x20) (hlate : dlDeadline k.mu (stampTc (mSlot b)) ≤ (s.seqNoted b).now)
    (hfree : ((s.seqNoted b).slotOf b).dl = none) :
    exec (.dlOrder via b) s =
      .next (((s.seqNoted b).setSlot (mCell b) { (s.seqNoted b).slotOf b with dlRefused := true }).refuseMsg 0x02 b) := by
  have hopen : (((s.seqNoted b).cell (mCell b)).slotAt (stampTc (mSlot b))).dl.isSome = false := by
    rw [← State.slotOf, hfree]
    rfl
  change execDlOrder via b s = _
  simp only [execDlOrder, hvia, Bool.not_true, Bool.false_eq_true, if_false, if_pos hty, State.ssiDlOrder]
  rw [State.message_of_live h hlive (by rw [hps]; rfl)]
  simp only [hslot.takes, Bool.not_true, Bool.false_eq_true, if_false, if_neg (Nat.not_lt.mpr hslot.near), if_pos hlate, hopen]
  rfl

theorem exec_ulOrder_taken (hty : mTy b = 0x28) (hsoon : (s.seqNoted b).now < ulDeadline k.mu (stampTc (mSlot b)))
    (hfree : ((s.seqNoted b).slotOf b).ul = none) :
    exec (.ulOrder via b) s = .next (((s.seqNoted b).ulOwed b k ps).2.setSlot (mCell b) { (s.seqNoted b).slotOf b with
      ul := some ((s.seqNoted b).ulTaken b k ps).1, ulSeq := mSeq b, pend := ((s.seqNoted b).ulOwed b k ps).1 }) := by
  rw [State.slotOf] at hfree
  change execUlOrder via b s = _
  simp only [execUlOrder, hvia, Bool.not_true, Bool.false_eq_true, if_false, if_pos hty, State.ssiUlOrder]
  rw [State.message_of_live h hlive (by rw [hps]; rfl)]
  simp only [hslot.takes, Bool.not_true, Bool.false_eq_true, if_false, if_neg (Nat.not_lt.mpr hslot.near), if_neg (Nat.not_le.mpr hsoon), hfree,
    Option.isSome_none, hps, Option.getD_some]
  rfl

end

theorem exec_tbLoad_taken {handle cw : Nat} {d : List Byte} (hty : mTy b = 0x21) (hblock : splitBlocks (mCount b) (b.drop 24) = some [(handle, cw, d)])
    (hsoon : (s.seqNoted b).now < dlDeadline k.mu (stampTc (mSlot b)))
    (hnew : ((s.seqNoted b).slotOf b).tbs.any (fun o => o.2.1 == handle && o.2.2.1 == cw) = false) :
    exec (.tbLoad via b) s = .next ((s.seqNoted b).setSlot (mCell b) { (s.seqNoted b).slotOf b with
      tbs := ((s.seqNoted b).slotOf b).tbs ++ [(mSeq b, handle, cw, d)] }) := by
  rw [State.slotOf] at hnew
  change execTbLoad via b s = _
  simp only [execTbLoad, hvia, Bool.not_true, Bool.false_eq_true, if_false, if_pos hty, State.ssiTbLoad]
  rw [State.message_of_live h hlive (by rw [hblock]; rfl)]
  simp only [hslot.takes, Bool.not_true, Bool.false_eq_true, if_false, if_neg (Nat.not_lt.mpr hslot.near), if_neg (Nat.not_le.mpr hsoon), hblock,
    Option.getD_some, List.foldl_cons, List.foldl_nil, hnew]
  rfl

end

end

/-! ### Releases of HARQ entries (R407) -/

section
variable {s : State} {n i : Nat}

/-- An entry that no slot has yet to decode is empty at once. -/
theorem State.releaseHarq_of_free (h : (s.cell n).slots.any (fun w => w.decodes i) = false) :
    s.releaseHarq n i = { s with radio := { s.radio with harq := s.radio.harq.del (65536 * n + i) } } := by
  have hnone : (s.cell n).slots.filter (fun w => w.decodes i) = [] := by
    rw [List.filter_eq_nil_iff]
    exact fun w hw => by simpa using List.any_eq_false.mp h w hw
  simp only [State.releaseHarq, hnone, List.getLast?_nil]

theorem exec_softRelease_one {via : Nat} {b : List Byte} {k : CellCfg} (h : s.Accepts b k) (hvia : isVia via = true) (hty : mTy b = 0x29)
    (hcount : mCount b = 1) (hlen : b.length = 32) (hzero : byteField b 28 4 = 0) (hin : (byteField b 24 4 + 1) * k.harqEntry ≤ k.harqLen)
    (hon : (s.cell (mCell b)).en.st = .on) :
    exec (.softRelease via b) s = .next ((s.seqNoted b).releaseHarq (mCell b) (byteField b 24 4)) := by
  have hlive : (s.cell (mCell b)).en.st ≠ .off := by rw [hon]; decide
  have hst : ((s.seqNoted b).cell (mCell b)).en.st = .on := by rw [State.seqNoted, State.setCell_cell, hon]
  have hform : (b.length == 24 + ceilDiv 1 2 * 8 && zeroAt b (24 + 4 * 1) (b.length - 24 - 4 * 1) &&
      ((List.range 1).map fun i => byteField b (24 + 4 * i) 4).all fun i => decide ((i + 1) * k.harqEntry ≤ k.harqLen)) = true := by
    rw [hlen, zeroAt, hzero, List.range_one, List.map_singleton, List.all_cons, decide_eq_true hin]
    rfl
  change execSoftRelease via b s = _
  simp only [execSoftRelease, hvia, Bool.not_true, Bool.false_eq_true, if_false, if_pos hty, State.ssiSoftRelease, hcount]
  rw [State.message_of_live h hlive hform, if_pos hst]
  rfl

end

/-! ### Slot marks and the downlink deadline (R411, R418) -/

/-- A slot boundary is noted, and slots long past that owe nothing go. -/
def State.slotMarked (s : State) (n : Nat) (k : CellCfg) : State :=
  s.setCell n { s.cell n with
    marked := slotStart k.mu s.now
    slots := (s.cell n).slots.filter (fun w => !(decide (w.at0 + 16 * slotTc k.mu ≤ slotStart k.mu s.now) && w.pend.isEmpty)) }

section
variable {s : State} {n : Nat} {k : CellCfg} (hn : n < 512) (hcfg : s.cellCfg n = some k)
include hn hcfg

theorem exec_slotMark_told (hon : (s.cell n).en.st = .on) (hnew : (s.cell n).marked < slotStart k.mu s.now) :
    exec (.slotMark n) s = .next ((s.slotMarked n k).tellL2 n 0xA0 0 (tcStamp (slotStart k.mu s.now))
      (leBytes 8 (tcStamp (firstOpenSlot k.mu s.now)).toNat ++ leBytes 8 ((s.cell n).slotAt (slotStart k.mu s.now - slotTc k.mu)).done ++
        leBytes 8 0)) := by
  have hgo : ¬((s.cell n).en.st ≠ .on ∨ slotStart k.mu s.now ≤ (s.cell n).marked) := by
    rw [not_or]
    exact ⟨not_not_intro hon, Nat.not_le.mpr hnew⟩
  change execSlotMark n s = _
  simp only [execSlotMark, if_neg (Nat.not_le.mpr hn), hcfg, if_neg hgo]
  rfl

theorem exec_slotMark_marked (hold : slotStart k.mu s.now ≤ (s.cell n).marked) : exec (.slotMark n) s = .next s := by
  change execSlotMark n s = _
  simp only [execSlotMark, if_neg (Nat.not_le.mpr hn), hcfg, if_pos (Or.inr hold)]

theorem exec_dlDeadline_closed {w : SlotWork}
    (hw : (s.cell n).slots.find? (fun w => !w.dlClosed && decide (dlDeadline k.mu w.at0 ≤ s.now)) = some w) :
    exec (.dlDeadline n) s = .next (s.closeDl n w) := by
  change execDlDeadline n s = _
  simp only [execDlDeadline, if_neg (Nat.not_le.mpr hn), hcfg, hw]

end

/-- At its DL deadline a slot is closed; blocks without a codeword go, and DL_DONE is known. -/
theorem State.closeDl_slotAt (s : State) (n : Nat) (w : SlotWork) :
    ∃ tbs done, ((s.closeDl n w).cell n).slotAt w.at0 = { w with tbs := tbs, dlClosed := true, done := done } :=
  ⟨_, _, State.setSlot_slotAt _ n rfl⟩

/-! ### The statement -/

/-- Settles O33: each message is accepted, taken for its slot or refused as late; marks and the deadline take the branch that their conditions name. -/
theorem radioOrders : Obligations.RadioOrders := by
  unfold Obligations.RadioOrders
  refine ⟨?messages, ?slots⟩
  case messages =>
    rintro s via b k n at0 u hvia rfl hcfg hhdr hform rfl hlive hseq rfl
    have h : s.Accepts b k := ⟨hcfg, hhdr, hform, hseq⟩
    have hat := (s.seqNoted b).slotOf_at0 b
    refine ⟨?dl, ?dlLate, ?tb, ?ul, ?release⟩
    case dl =>
      rintro p ps hty hps htakes hnear hsoon hfree rfl
      refine Gives.intro (exec_dlOrder_taken h hvia hlive ⟨htakes, hnear⟩ hps hty hsoon hfree) ?_
      rw [State.setSlot_slotAt]
      · exact ⟨rfl, rfl, rfl⟩
      · exact hat
    case dlLate =>
      intro ps hty hps htakes hnear hlate hfree
      exact ⟨_, exec_dlOrder_late h hvia hlive ⟨htakes, hnear⟩ hps hty hlate hfree, rfl⟩
    case tb =>
      intro handle cw d hty hblock htakes hnear hsoon hnew
      refine Gives.intro (exec_tbLoad_taken h hvia hlive ⟨htakes, hnear⟩ hty hblock hsoon hnew) ?_
      rw [State.setSlot_slotAt]
      · exact ⟨rfl, rfl⟩
      · exact hat
    case ul =>
      rintro p ps owed hty hps htakes hnear hsoon hfree rfl rfl
      refine Gives.intro (exec_ulOrder_taken h hvia hlive ⟨htakes, hnear⟩ hps hty hsoon hfree) ?_
      rw [State.setSlot_slotAt]
      · exact ⟨rfl, rfl, rfl⟩
      · exact hat
    case release =>
      intro hty hcount hlen hzero hin hon hfree
      have hfree' : ((s.seqNoted b).cell (mCell b)).slots.any (fun w => w.decodes (byteField b 24 4)) = false := by
        rw [State.seqNoted, State.setCell_cell]
        exact hfree
      refine ⟨_, exec_softRelease_one h hvia hty hcount hlen hzero hin hon, ?_⟩
      rw [State.releaseHarq_of_free hfree']
      exact ⟨Tab.find_del_self .., rfl⟩
  case slots =>
    intro s n k hn hcfg
    refine ⟨?told, fun _ hold => ⟨_, exec_slotMark_marked hn hcfg hold, rfl⟩, ?closed⟩
    case told =>
      rintro u hon hnew rfl
      exact ⟨_, exec_slotMark_told hn hcfg hon hnew, rfl⟩
    case closed =>
      intro w hw
      obtain ⟨tbs, done, hslot⟩ := s.closeDl_slotAt n w
      exact ⟨_, exec_dlDeadline_closed hn hcfg hw, rfl, by rw [hslot], by rw [hslot]⟩

end Sys2Proof.Machine
end

section
/-! PROOFS. Fronthaul intake: frames and what their checks count, a cell stream's data in its ring, windows that close, bursts transformed, and the
ports' links (R429, R430, R437, R439 to R444, R459, R471, R609, R651). -/
namespace Sys2Proof.Machine

/-! ### Rings and their rows (R440 to R442) -/

theorem wordBytes_length (l : List Word) : (wordBytes l).length = 4 * l.length := by
  induction l with
  | nil => rfl
  | cons w l ih =>
    change (leBytes 4 w.toNat ++ wordBytes l).length = _
    rw [List.length_append, leBytes_length, ih, List.length_cons]
    omega

/-- What a ring write leaves in memory depends on memory, tiers and the bounds of the radio's Pool alone (R440, R501). -/
theorem State.ringWriteAt_mem_congr {s t : State} {e : Eaxc} (hm : t.mem = s.mem) (ht : t.tiers = s.tiers)
    (hr : t.radioPool e.cluster = s.radioPool e.cluster) (o : Nat) (b : List Byte) : (t.ringWriteAt e o b).mem = (s.ringWriteAt e o b).mem := by
  rw [State.ringWriteAt, State.ringWriteAt, State.ringAt, State.ringAt, hr]
  exact State.wrSpans_mem_congr hm ht _ _

/-- The counters of a port hold no cluster's configuration. -/
theorem State.fhCount_radioPool (s : State) {p i c : Nat} (n : Nat) (hc : c < 48) : (s.fhCount p i n).radioPool c = s.radioPool c :=
  State.radioPool_congr (State.count_get_ne _ _ (by unfold Reg.CLU_CFG Reg.FHL_CNT; omega))

/-- A section of one PRB is written as far as its row goes, and counted where it saturates. -/
theorem State.writeSection_one (s : State) (p : Nat) (e : Eaxc) (ofs limit first sat : Nat) (ws : List Word) :
    s.writeSection p e ofs limit first [(ws, sat)] =
      (s.ringWriteAt e (ofs + 48 * first) ((wordBytes ws).take (limit - 48 * first))).fhCount p 11 sat := rfl

theorem State.putHandle_only {s t : State} {ctx q : Nat} {h : Handle} (ht : s.putHandle ctx q h = some t) : Only [.ctxs] s t :=
  have : Has [.ctxs] .ctxs := Has.of rfl
  (State.putHandle_stays _ _ _ _ (Stays.refl _ _) _ ht).only

theorem State.releaseRow_only (s : State) (e : Eaxc) (r : RxSym) (row : Nat × Nat) : Only [.ctxs, .front] s (s.releaseRow e r row) :=
  have : Has [.ctxs, .front] .ctxs := Has.of rfl
  have : Has [.ctxs, .front] .front := Has.of rfl
  (State.releaseRow_stays _ _ _ _ (Stays.refl _ _)).only

@[simp] theorem State.releaseRow_mem (s : State) (e : Eaxc) (r : RxSym) (row : Nat × Nat) : (s.releaseRow e r row).mem = s.mem :=
  (s.releaseRow_only e r row).same .mem (by decide)

/-- Of the fronthaul's state the release of a row changes only what is known of reception. -/
theorem State.releaseRow_front (s : State) (e : Eaxc) (r : RxSym) (row : Nat × Nat) :
    ∃ l, (s.releaseRow e r row).front = { s.front with rx := l } := by
  unfold State.releaseRow
  split
  · exact ⟨_, rfl⟩
  · split
    · exact ⟨_, rfl⟩
    · split
      · exact ⟨_, rfl⟩
      · next ht => exact ⟨_, by rw [← (State.putHandle_only ht).same .front (by decide)]; rfl⟩

/-! ### FRAME_RECEIVE (R430, R439, R444, R651) -/

section
variable {s : State} {p : Nat} {f : List Byte}

section
variable (hp : p < 16) (hon : s.fhOn p = true) (hmin : 64 ≤ f.length) (hmax : f.length ≤ 9216) (hlive : s.replayed = false)
include hp hon hmin hmax hlive

/-- A frame that a port in service takes is judged by its FCS. -/
theorem exec_frameReceive : exec (.frameReceive p f) s =
    if leNat (f.drop (f.length - 4)) ≠ (crc32 (f.take (f.length - 4))).toNat then .next (s.fhCount p 1 1)
    else .next (((s.fhCount p 0 1).logIn 3 0x10 p 0 (f.take (f.length - 4))).frameIn p (f.take (f.length - 4))) := by
  have hgo : ¬((!s.fhOn p) = true ∨ f.length < 64 ∨ 9216 < f.length) := by
    rw [hon]
    simp only [Bool.not_true, Bool.false_eq_true, false_or, not_or, Nat.not_lt]
    exact ⟨hmin, hmax⟩
  change execFrameReceive p f s = _
  simp only [execFrameReceive, if_neg (Nat.not_le.mpr hp), if_neg hgo, hlive, Bool.false_eq_true, if_false]

end

theorem State.frameIn_of_address (h : s.l2Ok p f = false) : s.frameIn p f = s.fhCount p 2 1 := by
  simp only [State.frameIn, h, Bool.not_false, if_true]

section
variable (hok : s.l2Ok p f = true) (hty : beField f (s.l2Len p - 2) 2 = 0xAEFE)
include hok hty

theorem State.frameIn_of_header (h : ecpri (f.drop (s.l2Len p)) = none) : s.frameIn p f = s.fhCount p 3 1 := by
  simp only [State.frameIn, hok, Bool.not_true, Bool.false_eq_true, if_false, if_neg (not_not_intro hty), h]

variable {id q : Nat} {b : List Byte} (hmsg : ecpri (f.drop (s.l2Len p)) = some (id, q, b))
include hmsg

theorem State.frameIn_of_unmapped (h : s.eaxcOf p id = none) : s.frameIn p f = s.fhCount p 4 1 := by
  simp only [State.frameIn, hok, Bool.not_true, Bool.false_eq_true, if_false, if_neg (not_not_intro hty), hmsg, h]

/-- A frame of a stream that is no burst stream, next in its sequence, goes on to the U-plane's checks. -/
theorem State.frameIn_of_next {e : Eaxc} {k : CellCfg} (he : s.eaxcOf p id = some e) (hcfg : s.cellCfg e.cell = some k) (hkind : e.kind ≠ 3)
    (hseq : s.front.seqIn.find e.idx = some ((q + 255) % 256)) (hq : q < 256) :
    s.frameIn p f = { s with front := { s.front with seqIn := s.front.seqIn.set e.idx q } }.uplane p e k b := by
  have hnext : ((q + 255) % 256 + 1) % 256 = q := by omega
  have hcfg' : ∀ v : Front, { s with front := v }.cellCfg e.cell = some k := fun _ => hcfg
  simp only [State.frameIn, hok, Bool.not_true, Bool.false_eq_true, if_false, if_neg (not_not_intro hty), hmsg, he, hseq, hnext, bne_self_eq_false,
    hcfg', if_neg hkind]

end

end

/-! ### Frames of a cell stream (R439 to R442) -/

section
variable {s : State} {p : Nat} {e : Eaxc} {k : CellCfg} {at0 sym : Nat}

theorem State.cellFrame_of_dead {l : List Section} (h : (s.cell e.cell).ulLive at0 = false) : s.cellFrame p e k at0 sym l = s.fhCount p 5 1 := by
  simp only [State.cellFrame, h, Bool.not_false, if_true]

section
variable (hlive : (s.cell e.cell).ulLive at0 = true)
include hlive

theorem State.cellFrame_of_late {l : List Section} (h : s.rxClose e.cell (symStart k.mu at0 sym) ≤ s.now) :
    s.cellFrame p e k at0 sym l = s.fhCount p 6 1 := by
  simp only [State.cellFrame, hlive, Bool.not_true, Bool.false_eq_true, if_false, if_pos h]

variable {x : Section} {ws : List Word} {sat : Nat} (hx : x.prbs = [(ws, sat)])
  (hopen : s.now < s.rxClose e.cell (symStart k.mu at0 sym))
include hx hopen

theorem State.cellFrame_of_repeat (h : (s.rxOf e.idx at0 sym).got.contains x.first = true) :
    s.cellFrame p e k at0 sym [x] = s.fhCount p 7 1 := by
  simp only [State.cellFrame, hlive, Bool.not_true, Bool.false_eq_true, if_false, if_neg (Nat.not_le.mpr hopen), hx, List.flatMap_singleton,
    List.length_singleton, List.range_one, List.map_singleton, Nat.add_zero, List.any_cons, h, Bool.true_or, true_or, if_true]

/-- Of what a frame with one PRB not yet received leaves, memory holds the PRB's elements in the ring. -/
theorem State.cellFrame_mem (hc : e.cluster < 48) (hnew : (s.rxOf e.idx at0 sym).got.contains x.first = false) (hin : x.first < k.nrb)
    (hws : ws.length = 12) :
    (s.cellFrame p e k at0 sym [x]).mem = (s.ringWriteAt e ((e.row k at0 sym).1 + 48 * x.first) (wordBytes ws)).mem := by
  have htake : (wordBytes ws).take ((e.row k at0 sym).2 - 48 * x.first) = wordBytes ws := by
    refine List.take_of_length_le ?_
    rw [wordBytes_length, hws, Eaxc.row]
    omega
  have hwrite : ((s.countTimely p e.cell (symStart k.mu at0 sym)).writeSection p e (e.row k at0 sym).1 (e.row k at0 sym).2 x.first [(ws, sat)]).mem =
      (s.ringWriteAt e ((e.row k at0 sym).1 + 48 * x.first) (wordBytes ws)).mem := by
    rw [State.writeSection_one, State.fhCount, State.count_mem, htake, State.countTimely]
    exact State.ringWriteAt_mem_congr (State.count_mem ..) (State.count_tiers ..) (s.fhCount_radioPool 1 hc) _ _
  simp only [State.cellFrame, hlive, Bool.not_true, Bool.false_eq_true, if_false, if_neg (Nat.not_le.mpr hopen), hx, List.flatMap_singleton,
    List.length_singleton, List.range_one, List.map_singleton, Nat.add_zero, List.any_cons, List.any_nil, hnew, Bool.or_self, List.nodup_singleton,
    decide_true, false_or, List.foldl_cons, List.foldl_nil]
  split
  · rw [State.releaseRow_mem, hwrite]
  · exact hwrite

end

end

/-! ### RECEIVE_WINDOW_CLOSE (R437, R442) -/

section
variable {s : State} {e : Eaxc} {k : CellCfg} {w : SlotWork} {sym : Nat}

/-- Of a symbol whose handle is not released, memory holds zeros where nothing was received. -/
theorem State.closeSym_mem (h : (s.rxOf e.idx w.at0 sym).released = false) : (s.closeSym e k w sym).mem =
    (((List.range k.nrb).filter (fun j => !(s.rxOf e.idx w.at0 sym).got.contains j)).foldl
      (fun (a : State) j => a.ringWriteAt e ((e.row k w.at0 sym).1 + 48 * j) (List.replicate 48 0)) s).mem := by
  simp only [State.closeSym, h, Bool.false_eq_true, if_false, State.releaseRow_mem]
  rfl

/-- The earliest slot of a cell whose window for a stream's symbol has closed with its handle unreleased. -/
def State.closedSlot (s : State) (e : Eaxc) (mu sym : Nat) : Option SlotWork :=
  (s.cell e.cell).slots.find? (fun w => w.ul.isSome && !(s.rxOf e.idx w.at0 sym).released &&
    decide (s.rxClose e.cell (symStart mu w.at0 sym) ≤ s.now))

theorem State.closedSlot_unreleased {mu : Nat} (h : s.closedSlot e mu sym = some w) : (s.rxOf e.idx w.at0 sym).released = false := by
  have hdue := List.find?_some h
  simp only [Bool.and_eq_true, Bool.not_eq_true'] at hdue
  exact hdue.1.2

theorem State.eaxc_idx (s : State) (i : Nat) : (s.eaxc i).idx = i := rfl

theorem exec_receiveWindowClose {i : Nat} (hi : i < 8192) (hcfg : s.cellCfg (s.eaxc i).cell = some k) (hkind : (s.eaxc i).kind = 1)
    (hdir : (s.eaxc i).dir = 0) (hsym : sym < 14) (hw : s.closedSlot (s.eaxc i) k.mu sym = some w) :
    exec (.receiveWindowClose i sym) s = .next (s.closeSym (s.eaxc i) k w sym) := by
  have hgo : ¬((s.eaxc i).kind = 0 ∨ (s.eaxc i).dir = 1) := by rw [hkind, hdir]; decide
  simp only [State.closedSlot, State.eaxc_idx] at hw
  change execReceiveWindowClose i sym s = _
  simp only [execReceiveWindowClose, if_neg (Nat.not_le.mpr hi), hcfg, if_neg hgo, if_pos hkind, if_pos hsym, hw]
  rw [if_neg (by rw [hkind]; decide)]

end

/-! ### BURST_FFT (R459) -/

/-- The elements that a symbol's row takes from a transform: bins around the carrier's centre (R459). -/
def CellCfg.rowOf (k : CellCfg) (nfft : Nat) (bins : List Word) : List Word :=
  (List.range (12 * k.nrb)).map (fun j => bins.getD ((j + nfft - 6 * k.nrb % nfft) % nfft) 0)

/-- The transform of a burst's symbol, a quarter of its cyclic prefix ahead (R459). -/
def Burst.bins (u : Burst) (mu nfft sym : Nat) : List Word :=
  Config.bstFft nfft ((u.samples.drop (symSample mu nfft u.at0 sym + cpLen mu nfft u.at0 sym - cpLen mu nfft u.at0 sym / 4)).take nfft)

/-- A burst stream after a symbol of its oldest burst is transformed. -/
def BurstSt.advanced (x : BurstSt) (u : Burst) (rest : List Burst) (sym : Nat) : BurstSt :=
  { x with bursts := if sym = 13 then rest else { u with next := sym + 1 } :: rest }

section
variable {s : State} {i sym : Nat} {k : CellCfg} {u : Burst} {rest : List Burst}

/-- The state with a stream's burst advanced by a symbol. -/
def State.burstAdvanced (s : State) (e : Eaxc) (u : Burst) (rest : List Burst) (sym : Nat) : State :=
  { s with front := { s.front with bst := s.front.bst.set e.bst ((s.front.bst.get {} e.bst).advanced u rest sym) } }

theorem exec_burstFft (hi : i < 8192) (hcfg : s.cellCfg (s.eaxc i).cell = some k) (hkind : (s.eaxc i).kind = 3)
    (hbursts : (s.front.bst.get {} (s.eaxc i).bst).bursts = u :: rest) (hnext : u.next = sym) (hsym : sym < 14)
    (hheld : (s.rxOf i u.at0 sym).released = false) :
    exec (.burstFft i sym) s = .next (((s.burstAdvanced (s.eaxc i) u rest sym).ringWriteAt (s.eaxc i) ((s.eaxc i).row k u.at0 sym).1
      (wordBytes (k.rowOf (s.nFft (s.eaxc i).bst) (u.bins k.mu (s.nFft (s.eaxc i).bst) sym)))).releaseRow (s.eaxc i)
        { s.rxOf i u.at0 sym with got := List.range k.nrb } ((s.eaxc i).row k u.at0 sym)) := by
  have hgo : ¬((s.eaxc i).kind ≠ 3 ∨ u.next ≠ sym ∨ 14 ≤ sym) := by
    simp only [hkind, hnext, ne_eq, not_true_eq_false, false_or, Nat.not_le]
    exact hsym
  change execBurstFft i sym s = _
  simp only [execBurstFft, if_neg (Nat.not_le.mpr hi), hcfg, hbursts, if_neg hgo, hheld, Bool.false_eq_true, if_false]
  rfl

end

/-! ### FH_LINK_CHANGE (R429, R471, R609) -/

/-- The state with a port's link noted. -/
def State.linkNoted (s : State) (p : Nat) (link align : Bool) : State :=
  { s with front := { s.front with link := s.front.link.set p (link, align) } }

/-- The enable of a port that was starting, once it has its link (R609). -/
def Enable.linked (x : Enable) : Enable := if x.pend then { st := .stopping, pend := false } else { st := .on, pend := false }

section
variable {s : State} {p : Nat} (hp : p < 16) (link align : Bool)
include hp

theorem exec_fhLinkChange : exec (.fhLinkChange p link align) s = .next
    (if link ∧ (s.host.ports.get {} p).st = .starting then
      { s.linkNoted p link align with host := { s.host with ports := s.host.ports.set p (s.host.ports.get {} p).linked } }
    else s.linkNoted p link align) := by
  change execFhLinkChange p link align s = _
  simp only [execFhLinkChange, if_neg (Nat.not_le.mpr hp), apply_ite Host.Outcome.next]
  rfl

end

/-! ### The statement -/

/-- Settles O34: a frame is counted by the check that it fails or goes on to the next; data that arrive, are missing or come of a burst's transform
stand in the stream's ring; a port that starts is ON with its link. -/
theorem fronthaulIntake : Obligations.FronthaulIntake := by
  unfold Obligations.FronthaulIntake
  refine ⟨?receive, ?headers, ?data, ?closes, ?fft, ?link⟩
  case receive =>
    intro s p f hp hon hmin hmax hlive
    have hexec := exec_frameReceive hp hon hmin hmax hlive
    exact ⟨fun hbad => ⟨_, hexec.trans (if_pos hbad), rfl⟩, fun hgood => ⟨_, hexec.trans (if_neg (not_not_intro hgood)), rfl⟩⟩
  case headers =>
    intro s p f
    exact ⟨State.frameIn_of_address, State.frameIn_of_header, fun id q b hok hty => State.frameIn_of_unmapped hok hty,
      fun id q b e k hok hty hmsg => State.frameIn_of_next hok hty hmsg⟩
  case data =>
    intro s p e k at0 sym x ws sat _ hc hx
    exact ⟨State.cellFrame_of_dead, fun hlive => State.cellFrame_of_late hlive, fun hlive => State.cellFrame_of_repeat hlive hx,
      fun hlive hopen => State.cellFrame_mem hlive hx hopen hc⟩
  case closes =>
    rintro s i sym e k w hi rfl hcfg hkind hdir hsym hw
    exact ⟨_, exec_receiveWindowClose hi hcfg hkind hdir hsym hw, rfl, State.closeSym_mem (State.closedSlot_unreleased hw)⟩
  case fft =>
    rintro s i sym nfft cp e k u rest bins hi rfl hcfg hkind hbursts hnext hsym hheld rfl rfl rfl
    refine Gives.intro (exec_burstFft hi hcfg hkind hbursts hnext hsym hheld) ⟨State.releaseRow_mem .., ?_⟩
    obtain ⟨l, hfront⟩ := State.releaseRow_front _ (s.eaxc i) { s.rxOf i u.at0 sym with got := List.range k.nrb } ((s.eaxc i).row k u.at0 sym)
    rw [hfront]
    exact congrArg BurstSt.bursts (Tab.get_set_self ..)
  case link =>
    intro s p link align hp
    refine Gives.intro (exec_fhLinkChange hp link align) ?_
    split
    next h => exact ⟨Tab.get_set_self .., fun hst => absurd h.2 hst, fun _ _ hpend => by simp [Enable.linked, hpend]⟩
    next h => exact ⟨Tab.get_set_self .., fun _ => rfl, fun hlink hst => absurd ⟨hlink, hst⟩ h⟩

end Sys2Proof.Machine
end

section
/-! PROOFS. Fronthaul egress and the shaper: what a slot's symbols build, queues' heads and their tags, packets that leave, histograms (R445 to R450,
R461 to R467, R475, R647). -/
namespace Sys2Proof.Machine

/-! ### EGRESS_BUILD (R445, R449) -/

section
variable {s : State} {n at0 sym : Nat} {k : CellCfg} (hn : n < 512) (hcfg : s.cellCfg n = some k)
include hn hcfg

theorem exec_egressBuild_silent (hsym : sym ≤ 14) (hsend : s.maySend n at0 = false) : exec (.egressBuild n at0 sym) s = .next s := by
  have hgo : ¬(512 ≤ n ∨ 14 < sym) := by omega
  change execEgressBuild n at0 sym s = _
  simp only [execEgressBuild, if_neg hgo, hcfg, hsend, Bool.not_false, if_true]

variable (hsend : s.maySend n at0 = true) {l : List Pdu}
include hsend

theorem exec_egressBuild_downlink (hsym : sym < 14) (hdl : ((s.cell n).slotAt at0).dl = some l) (hok : ((s.cell n).slotAt at0).dlRefused = false) :
    exec (.egressBuild n at0 sym) s = .next ((s.streams n 1).foldl (fun s' e =>
      ((dlSections k (s.fhCell n 3 13 1 == 1) l).filter (fun x => decide (x.sym ≤ sym) && decide (sym < x.sym + x.nSym))).foldl
        (fun s' x => s'.uSection e k at0 sym x) (s'.buildC k e at0 (dlSections k (s.fhCell n 3 13 1 == 1) l))) s) := by
  have hgo : ¬(512 ≤ n ∨ 14 < sym) := by omega
  change execEgressBuild n at0 sym s = _
  simp only [execEgressBuild, if_neg hgo, hcfg, hsend, Bool.not_true, Bool.false_eq_true, if_false, if_neg hsym.ne, hdl, hok]

/-- Where every uplink stream of a cell carries data, each takes one message with the slot's sections. -/
theorem exec_egressBuild_uplink (hul : ((s.cell n).slotAt at0).ul = some l) (hkind : (s.streams n 0).all (fun e => e.kind == 1) = true) :
    exec (.egressBuild n at0 14) s = .next ((s.streams n 0).foldl (fun s e => s.buildC k e at0 (ulSections k l)) s) := by
  have hgo : ¬(512 ≤ n ∨ 14 < 14) := by omega
  change execEgressBuild n at0 14 s = _
  simp only [execEgressBuild, if_neg hgo, hcfg, hsend, Bool.not_true, Bool.false_eq_true, if_false, if_true, hul]
  exact congrArg Host.Outcome.next (List.foldl_ext _ _ _ fun _ e he => if_pos (beq_iff_eq.mp (List.all_eq_true.mp hkind e he)))

end

/-! ### Queues and their heads (R461 to R464) -/

section
variable (s : State) (q : Nat)

@[simp] theorem State.setShpQ_shpQ (x : ShpQueue) : (s.setShpQ q x).shpQ q = x := Tab.get_set_self ..

/-- A head that takes its tags, or not, changes nothing else of its queue, and no other. -/
theorem State.headTag_eq (fresh : Bool) : ∃ active tag, s.headTag q fresh = s.setShpQ q { s.shpQ q with active := active, tag := tag } := by
  unfold State.headTag
  extract_lets x
  split
  · exact ⟨_, _, rfl⟩
  · split
    · exact ⟨_, _, rfl⟩
    · exact ⟨_, _, rfl⟩

theorem State.setShpQ_headTag (x : ShpQueue) (fresh : Bool) : ∃ active tag, (s.setShpQ q x).headTag q fresh =
    (s.setShpQ q x).setShpQ q { x with active := active, tag := tag } := by
  obtain ⟨active, tag, h⟩ := (s.setShpQ q x).headTag_eq q fresh
  rw [State.setShpQ_shpQ] at h
  exact ⟨active, tag, h⟩

variable {s q} in
/-- An open head of a queue that becomes active starts no earlier than its port's virtual time (R463). -/
theorem State.headTag_of_open {p : Packet} {r : List Packet} (hq : (s.shpQ q).pkts = p :: r) (hopen : p.open s.now = true) :
    s.headTag q true = s.setShpQ q { s.shpQ q with
      active := true,
      tag := laterOf (s.front.v.get 0 (s.shpPort q)) (s.shpQ q).f +
        BitVec.ofNat 64 (ceilDiv (s.charged (s.shpPort q) p.len * 4096) (s.shpWeight q)) } := by
  simp only [State.headTag, hq, hopen, Bool.not_true, Bool.false_eq_true, if_false, if_true]

end

/-! ### GATE_OPEN and GATE_CLOSE_DROP (R450, R461) -/

section
variable {s : State} {q : Nat} (hq : q < 16384)
include hq

theorem exec_gateOpen : exec (.gateOpen q) s = .next (if (s.shpQ q).active then s else s.headTag q true) := if_neg (Nat.not_le.mpr hq)

variable {p : Packet} {r : List Packet} (hp : (s.shpQ q).pkts = p :: r) {g c : Nat} (hgate : p.gate = some (g, c))
include hp hgate

theorem exec_gateCloseDrop_early (hearly : s.now < c) : exec (.gateCloseDrop q) s = .next s := by
  change execGateCloseDrop q s = _
  simp only [execGateCloseDrop, if_neg (Nat.not_le.mpr hq), hp, hgate, if_pos hearly]

theorem exec_gateCloseDrop_closed (hclosed : c ≤ s.now) : exec (.gateCloseDrop q) s =
    .next ((((s.setShpQ q { s.shpQ q with pkts := r }).headTag q (!(s.shpQ q).active)).count (Reg.SHP_DROP_GATE (s.shpPort q)) 1).fhCount
      (s.shpPort q) 13 1) := by
  change execGateCloseDrop q s = _
  simp only [execGateCloseDrop, if_neg (Nat.not_le.mpr hq), hp, hgate, if_neg (Nat.not_lt.mpr hclosed)]

end

/-- The counters of a port stand apart from the shaper's registers. -/
theorem State.fhCount_dropGate (s : State) {port : Nat} (p i n : Nat) (hport : port < 16) :
    (s.fhCount p i n).reg (Reg.SHP_DROP_GATE port) = s.reg (Reg.SHP_DROP_GATE port) :=
  State.setReg_reg_ne _ _ (by unfold Reg.SHP_DROP_GATE Reg.FHL_CNT; omega)

/-! ### A packet leaves (R449, R462, R647) -/

theorem State.emit_of_live {s : State} (h : s.replayed = false) (o : Output) : s.emit o = { s with out := s.out ++ [o] } :=
  if_neg (by simp [h])

/-- What is recorded or passed over of an output begins no replay. -/
theorem State.output_replayed {s : State} (h : s.replayed = false) (key : BitVec 128) (b : List Byte) : (s.output key b).replayed = false := by
  unfold State.output
  extract_lets d
  split
  · exact State.putRec_replayed _ _ _ _ _ h
  · rw [if_neg (by simp [h])]
    exact h

/-- The state with a packet's bytes charged to its port and its frame recorded as an output (R462, R647). -/
def State.frameOut (s : State) (port : Nat) (p : Packet) : State :=
  (s.count64 (Reg.SHP_TX_BYTES port) (s.charged port p.len)).output p.key p.frame

section
variable (s : State) {port : Nat} (p : Packet)

/-- A fronthaul packet goes out as its frame with the FCS; a C-plane message has left. -/
theorem State.sendPkt_frame (hport : port < 16) : ∃ l, s.sendPkt port p =
    ({ s.frameOut port p with front := { s.front with cLeft := l } }.fhCount port 12 1).emit
      (.fh port (p.frame ++ leBytes 4 (crc32 p.frame).toNat)) := by
  have hfront : (s.frameOut port p).front = s.front := State.output_front ..
  rw [← hfront]
  simp only [State.sendPkt, if_pos hport]
  split
  · exact ⟨_, rfl⟩
  · exact ⟨_, rfl⟩

theorem State.sendPkt_front_of_flit (hport : ¬port < 16) : (s.sendPkt port p).front = s.front := by
  simp only [State.sendPkt, if_neg hport]
  split
  · rfl
  · rw [State.emit_front]
    split
    · rfl
    · rfl

/-- Of the fronthaul's state a packet that leaves changes only which C-plane messages have left. -/
theorem State.sendPkt_front (port : Nat) : ∃ l, (s.sendPkt port p).front = { s.front with cLeft := l } := by
  by_cases hport : port < 16
  · obtain ⟨l, h⟩ := s.sendPkt_frame p hport
    exact ⟨l, by rw [h, State.emit_front]; rfl⟩
  · exact ⟨_, s.sendPkt_front_of_flit p hport⟩

/-- Outside a replay the frame is what leaves the package last. -/
theorem State.sendPkt_out (hport : port < 16) (hlive : s.replayed = false) :
    (s.sendPkt port p).out = s.out ++ [.fh port (p.frame ++ leBytes 4 (crc32 p.frame).toNat)] := by
  obtain ⟨l, h⟩ := s.sendPkt_frame p hport
  have hlive' : (s.frameOut port p).replayed = false := State.output_replayed (s := s.count64 _ _) hlive _ _
  have hout : (s.frameOut port p).out = s.out := State.output_out ..
  rw [h, State.emit_of_live, ← hout]
  · rfl
  · exact hlive'

/-- The parts that a packet that leaves may change. -/
abbrev sentParts : List Part := [.time, .fns, .front, .fab, .rpl, .regs, .out]

theorem State.sendPkt_mem (port : Nat) : (s.sendPkt port p).mem = s.mem :=
  (@State.sendPkt_stays sentParts s s port p (Stays.refl _ _) (Has.of rfl) (Has.of rfl) (Has.of rfl) (Has.of rfl) (Has.of rfl) (Has.of rfl)
    (Has.of rfl)).only.same .mem (by decide)

end

/-! ### SHAPER_SELECT (R463, R465) -/

/-- A port takes a queue's head: V and F_q take its tag, and what is behind it becomes head. -/
def State.headTaken (s : State) (port q : Nat) (x : ShpQueue) (r : List Packet) : State :=
  ({ s with front := { s.front with v := s.front.v.set port x.tag } }.setShpQ q { x with pkts := r, f := x.tag }).headTag q false

/-- By how much a queue's tag stands ahead of a port's virtual time, offset so that a tag behind it comes first (R465). -/
def State.tagKey (s : State) (port : Nat) (c : Nat × ShpQueue) : Nat := (c.2.tag - s.front.v.get 0 port + BitVec.ofNat 64 (2 ^ 63)).toNat

section
variable {s : State} {port q : Nat} {x : ShpQueue} {r : List Packet}

variable (hport : port < 19)
include hport

theorem exec_shaperSelect_idle (hidle : s.candidates port = []) : exec (.shaperSelect port) s = .next s := by
  change execShaperSelect port s = _
  simp only [execShaperSelect, if_neg (Nat.not_le.mpr hport), hidle, leastBy, ite_self]

theorem exec_shaperSelect_head {p : Packet} (hup : s.portUp port = true) (hleast : leastBy (s.candidates port) (s.tagKey port) = some (q, x))
    (hx : x.pkts = p :: r) : exec (.shaperSelect port) s = .next ((s.headTaken port q x r).sendPkt port p) := by
  unfold State.tagKey at hleast
  change execShaperSelect port s = _
  simp only [execShaperSelect, if_neg (Nat.not_le.mpr hport), hup, Bool.not_true, Bool.false_eq_true, if_false, hleast, hx]
  rfl

end

/-! ### Histograms (R467, R475) -/

section
variable {s : State}

theorem exec_shpHistSample_early (h : s.sampleAt ≤ s.front.sampled) : exec .shpHistSample s = .next s := if_pos h

theorem exec_shpHistSample_due (h : s.front.sampled < s.sampleAt) :
    ∃ hist, exec .shpHistSample s = .next { s with front := { s.front with hist := hist, sampled := s.sampleAt } } :=
  ⟨_, if_neg (Nat.not_le.mpr h)⟩

/-- The write of SHP_HIST_CLR is logged, then clears the queue that SHP_HIST_SEL selects. -/
theorem exec_shpHistClr (hlive : s.replayed = false) : exec .shpHistClr s =
    .next ((s.logIn 5 0x04 pf0 (BitVec.ofNat 64 (Reg.SHP_HIST_CLR + 2 * 2 ^ 48)) (leBytes 4 1)).clearHist (s.regBits Reg.SHP_HIST_SEL 0 14)) := by
  have hsel : (s.logIn 5 0x04 pf0 (BitVec.ofNat 64 (Reg.SHP_HIST_CLR + 2 * 2 ^ 48)) (leBytes 4 1)).regBits Reg.SHP_HIST_SEL 0 14 =
      s.regBits Reg.SHP_HIST_SEL 0 14 := by
    rw [State.regBits, State.logIn_get_ne _ _ _ _ _ _ (by decide)]
    rfl
  change execShpHistClr s = _
  rw [execShpHistClr, State.bar2_eq _ _ _ _ _ hlive, hsel]

end

/-! ### The statement -/

/-- Settles O35: a slot's streams take their messages and packets, a queue's head its tags; a closed or overfull packet is dropped and counted, the
head of least tag leaves; bins are sampled and cleared. -/
theorem fronthaulEgress : Obligations.FronthaulEgress := by
  unfold Obligations.FronthaulEgress
  refine ⟨⟨?build, ?silent, ?full⟩, ?gates, ?select, ?idle, ?sample, ?clear⟩
  case build =>
    intro s n at0 sym k hn hcfg hsend
    refine ⟨?downlink, fun l hul hkind => ⟨_, exec_egressBuild_uplink hn hcfg hsend hul hkind, rfl⟩⟩
    case downlink =>
      rintro l all mine hsym hdl hok rfl rfl
      exact ⟨_, exec_egressBuild_downlink hn hcfg hsend hsym hdl hok, rfl⟩
  case silent => exact fun s n at0 sym k hn hsym hcfg hsend => ⟨_, exec_egressBuild_silent hn hcfg hsym hsend, rfl⟩
  case full => exact fun s q p hfull => if_pos hfull
  case gates =>
    intro s q p r hq hp
    refine ⟨fun hidle hopen => ?opens, fun hactive => ⟨_, exec_gateOpen hq, if_pos hactive⟩, fun g c hgate hclosed hport => ?drops,
      fun g c hgate hearly => ⟨_, exec_gateCloseDrop_early hq hp hgate hearly, rfl⟩⟩
    case opens =>
      refine Gives.intro (exec_gateOpen hq) ?_
      rw [if_neg (Bool.eq_false_iff.mp hidle), State.headTag_of_open hp hopen, State.setShpQ_shpQ]
      exact ⟨rfl, hp, rfl⟩
    case drops =>
      refine Gives.intro (exec_gateCloseDrop_closed hq hp hgate hclosed) ?_
      obtain ⟨active, tag, hhead⟩ := s.setShpQ_headTag q { s.shpQ q with pkts := r } (!(s.shpQ q).active)
      rw [hhead, State.fhCount_dropGate _ _ _ _ hport, State.count_reg]
      have hqueue := State.setShpQ_shpQ (s.setShpQ q { s.shpQ q with pkts := r }) q { s.shpQ q with pkts := r, active := active, tag := tag }
      exact ⟨congrArg ShpQueue.pkts hqueue, (congrArg ShpQueue.f hqueue :), rfl, rfl⟩
  case select =>
    intro s port q x p r hport hup hleast hx
    refine Gives.intro (exec_shaperSelect_head hport hup hleast hx) ?_
    obtain ⟨l, hfront⟩ := (s.headTaken port q x r).sendPkt_front p port
    obtain ⟨active, tag, htaken⟩ := { s with front := { s.front with v := s.front.v.set port x.tag } }.setShpQ_headTag q
      { x with pkts := r, f := x.tag } false
    rw [← State.headTaken] at htaken
    have hqueue : (((s.headTaken port q x r).sendPkt port p).shpQ q) = { pkts := r, f := x.tag, active := active, tag := tag } := by
      rw [State.shpQ, hfront, htaken]
      exact Tab.get_set_self ..
    refine ⟨?v, congrArg ShpQueue.f hqueue, congrArg ShpQueue.pkts hqueue, ?mem, fun hfh hlive => ?out⟩
    case v =>
      rw [hfront, htaken]
      exact Tab.get_set_self ..
    case mem =>
      rw [State.sendPkt_mem, htaken]
      rfl
    case out =>
      have hlive' : (s.headTaken port q x r).replayed = false := by
        rw [htaken]
        exact hlive
      rw [State.sendPkt_out _ p hfh hlive', List.getLast?_concat]
  case idle => exact fun s port hport hidle => ⟨_, exec_shaperSelect_idle hport hidle, rfl⟩
  case sample =>
    intro s
    refine ⟨fun hearly => ⟨_, exec_shpHistSample_early hearly, rfl⟩, fun hdue => ?_⟩
    obtain ⟨hist, hexec⟩ := exec_shpHistSample_due hdue
    exact ⟨_, hexec, rfl, rfl, rfl⟩
  case clear =>
    intro s hlive
    refine Gives.intro (exec_shpHistClr hlive) ?_
    rw [State.clearHist, State.logIn_front]
    exact ⟨rfl, rfl⟩

end Sys2Proof.Machine
end

section
/-! PROOFS. Shared facts: folds of operations that leave a part, registers and logs of the health monitor, and the operations that change nothing of
start but the device state (R604, R660, R677, R707). -/
namespace Sys2Proof.Machine

/-! ### Folds -/

theorem State.foldl_same {α β : Type} (g : State → β) {f : State → α → State} (hf : ∀ u a, g (f u a) = g u) (l : List α) (s : State) :
    g (l.foldl f s) = g s := by
  induction l generalizing s with
  | nil => rfl
  | cons a l ih => exact (ih _).trans (hf s a)

/-! ### Events and log entries of the health monitor -/

theorem State.hltEvt_reg (s : State) {m : Nat} (h : m < 2 ^ 64) : (s.hltEvt m).reg Reg.HLT_EVT = s.reg Reg.HLT_EVT ||| m :=
  State.event_reg _ _ _ (by decide) h

/-- An entry of the log changes the monitor's state in its log only. -/
theorem State.healthLog_health (s : State) (kind unit ctx node : Nat) (detail : DWord) :
    ∃ log, (s.healthLog kind unit ctx node detail).health = { s.health with log := log } := by
  unfold State.healthLog
  simp only [apply_ite State.health, State.hltEvt_health, State.count_health, State.setReg_health, ite_self]
  exact ⟨_, rfl⟩

/-! ### The device state (R604, R677) -/

/-- A change of the device state changes nothing else of start. -/
theorem State.setDev_start (s : State) (d : DevSt) : (s.setDev d).start = { s.start with dev := d } := by
  unfold State.setDev
  split
  next h => rw [← h]
  · exact State.foldl_same State.start (fun u f => State.statusNote_start u f) _ _

/-- Start as it was but for the device state, which changes only between SERVE and DEGRADED. -/
def State.Redevs (s t : State) : Prop :=
  ∃ d, t.start = { s.start with dev := d } ∧ (s.start.dev ≠ .serve → s.start.dev ≠ .degraded → d = s.start.dev)

section
variable {s t u : State}

theorem State.Redevs.of_start (h : t.start = s.start) : s.Redevs t := ⟨s.start.dev, h, fun _ _ => rfl⟩

theorem State.Redevs.refl (s : State) : s.Redevs s := .of_start rfl

theorem State.Redevs.trans (h : s.Redevs t) (k : t.Redevs u) : s.Redevs u := by
  obtain ⟨d, ht, hd⟩ := h
  obtain ⟨e, hu, he⟩ := k
  rw [ht] at hu he
  exact ⟨e, hu, fun h1 h2 => (he (hd h1 h2 ▸ h1) (hd h1 h2 ▸ h2)).trans (hd h1 h2)⟩

theorem State.Redevs.then (h : s.Redevs t) (k : u.start = t.start) : s.Redevs u := h.trans (.of_start k)

theorem State.Redevs.of_stays {ps : List Part} (h : Stays ps s t) (hp : .start ∉ ps) : s.Redevs t := .of_start (h.only.same .start hp)

theorem State.Redevs.foldl {α : Type} {f : State → α → State} (hf : ∀ u a, State.Redevs u (f u a)) (l : List α) : s.Redevs (l.foldl f s) := by
  induction l generalizing s with
  | nil => exact .refl _
  | cons a l ih => exact (hf s a).trans ih

theorem State.Redevs.ite {c : Prop} {_ : Decidable c} (ht : s.Redevs t) (hu : s.Redevs u) : s.Redevs (if c then t else u) := by
  split <;> assumption

end

theorem State.redev_redevs (s : State) : s.Redevs s.redev := by
  unfold State.redev
  split
  next h => exact .ite ⟨_, State.setDev_start .., fun h1 _ => absurd h h1⟩ (.refl _)
  next h => exact .ite ⟨_, State.setDev_start .., fun _ h2 => absurd h h2⟩ (.refl _)
  all_goals exact .refl _

/-- Every part but start. -/
abbrev notStart : List Part :=
  [.time, .lists, .cyclic, .ctxs, .units, .fns, .vfs, .ports, .acct, .mat, .inf, .chm, .radio, .front, .tiers, .fab, .rpl, .health, .power, .regs,
   .latch, .mem, .out, .drawn, .pending]

/-- What an operation leaves of start, from what it leaves of every other part. -/
theorem Stays.start_eq {s t : State} (h : Stays notStart s t) : t.start = s.start := h.only.same .start (by decide)

section
variable (s : State)

/-! ### Operations that leave start -/

theorem State.healthLog_start (kind unit ctx node : Nat) (detail : DWord) : (s.healthLog kind unit ctx node detail).start = s.start := by
  have head := Has.head
  have tail := Has.tail
  exact (State.healthLog_stays (ps := notStart) _ _ _ _ _ _ (.refl _ s)).start_eq

theorem State.sendExpel_start (cause : Nat) : (s.sendExpel cause).start = s.start := by
  have head := Has.head
  have tail := Has.tail
  exact (State.sendExpel_stays (ps := notStart) _ _ (.refl _ s)).start_eq

theorem State.fitCells_start (g : Nat) : (s.fitCells g).start = s.start := by
  have head := Has.head
  have tail := Has.tail
  exact (State.fitCells_stays (ps := notStart) _ _ (.refl _ s)).start_eq

theorem State.losePlane_start (p : Nat) (l : LinkSt) : (s.losePlane p l).start = s.start := by
  have head := Has.head
  have tail := Has.tail
  exact (State.losePlane_stays (ps := notStart) _ _ _ (.refl _ s)).start_eq

theorem State.memLog_start (kind fn tier die bank page : Nat) : (s.memLog kind fn tier die bank page).start = s.start := by
  have head := Has.head
  have tail := Has.tail
  exact (State.memLog_stays (ps := notStart) _ _ _ _ _ _ _ (.refl _ s)).start_eq

theorem State.queueList_start (i : Nat) (l : ListRec) : (s.queueList i l).2.start = s.start := by
  have head := Has.head
  have tail := Has.tail
  exact (State.queueList_stays (ps := notStart) _ _ _ (.refl _ s)).start_eq

theorem State.failModel_start (t n : Nat) : (s.failModel t n).start = s.start := by
  have head := Has.head
  have tail := Has.tail
  exact (State.failModel_stays (ps := notStart) _ _ _ (.refl _ s)).start_eq

theorem State.cancelList_start (i : Nat) (id : DWord) : (s.cancelList i id).start = s.start := by
  have head := Has.head
  have tail := Has.tail
  exact (State.cancelList_stays (ps := notStart) _ _ _ (.refl _ s)).start_eq

theorem State.seeEnds_start (fuel : Nat) : (s.seeEnds fuel).start = s.start := by
  have head := Has.head
  have tail := Has.tail
  exact (State.seeEnds_stays (ps := notStart) _ _ (.refl _ s)).start_eq

theorem State.dropModel_start (t n e code : Nat) : (s.dropModel t n e code).start = s.start := by
  have head := Has.head
  have tail := Has.tail
  exact (State.dropModel_stays (ps := notStart) _ _ _ _ _ (.refl _ s)).start_eq

theorem State.killCell_start (n : Nat) : (s.killCell n).start = s.start := by
  have head := Has.head
  have tail := Has.tail
  exact (State.killCell_stays (ps := notStart) _ _ (.refl _ s)).start_eq

theorem State.closeCtx_start (x : Ctx) (code : Nat) : (s.closeCtx x code).start = s.start := by
  have head := Has.head
  have tail := Has.tail
  exact (State.closeCtx_stays (ps := notStart) _ _ _ (.refl _ s)).start_eq

end

/-! ### Operations that may lead to SERVE or DEGRADED -/

section
variable (s : State)

theorem State.setExpel_redevs (st cause spare : Nat) : s.Redevs (s.setExpel st cause spare) := by
  refine State.Redevs.trans (.of_start ?_) (State.redev_redevs _)
  rw [State.hltEvt_start, State.healthLog_start]

theorem State.requestExpel_redevs (cause : Nat) : s.Redevs (s.requestExpel cause) :=
  .ite (.refl _) ((s.setExpel_redevs 1 cause 0).then (State.sendExpel_start ..))

theorem State.afterQuar_redevs (u : Nat) : s.Redevs (s.afterQuar u) := by
  unfold State.afterQuar
  extract_lets s1 s2 hostIf s3
  have h1 : s.Redevs s1 := s.redev_redevs
  have h2 : s1.Redevs s2 := .ite (.refl _) (.ite (.of_start (State.fitCells_start ..)) (.refl _))
  have h3 : s2.Redevs s3 := .ite (.of_start (State.losePlane_start ..)) (.refl _)
  exact ((h1.trans h2).trans h3).trans (.ite (State.requestExpel_redevs ..) (.refl _))

theorem State.decideQuar_redevs (u : Nat) : s.Redevs (s.decideQuar u) := by
  unfold State.decideQuar
  refine .ite (.refl _) (.ite (State.requestExpel_redevs ..) (.ite (.refl _) (State.Redevs.trans (.of_start ?_) (State.afterQuar_redevs ..))))
  rw [State.hltEvt_start, State.healthLog_start]

theorem State.deduct_redevs (u n : Nat) : s.Redevs (s.deduct u n) := by
  unfold State.deduct
  exact .ite (.refl _) (.ite (State.Redevs.trans (.of_start rfl) (State.decideQuar_redevs ..)) (.of_start rfl))

theorem State.corrected_redevs (u : Nat) : s.Redevs (s.corrected u) := by
  unfold State.corrected
  extract_lets sec old n h0 s1 s2
  have h : s.Redevs s2 := State.Redevs.trans (t := s1) (.of_start rfl) (State.deduct_redevs ..)
  exact .ite (h.then (State.healthLog_start ..)) h

theorem State.fixLine_redevs (l : Nat) : s.Redevs (s.fixLine l) := by
  unfold State.fixLine
  refine State.Redevs.trans (.of_start ?_) (State.corrected_redevs ..)
  split
  · exact State.memEvt_start ..
  · split
    · exact State.memEvt_start ..
    · rfl

theorem State.poisonLine_redevs (l : Nat) : s.Redevs (s.poisonLine l) := by
  unfold State.poisonLine
  refine State.Redevs.then (State.Redevs.trans (.of_start ?_) (State.deduct_redevs ..)) (State.healthLog_start ..)
  rw [State.memEvt_start]
  split
  · exact State.memLog_start ..
  · split <;> exact State.memLog_start ..

theorem State.readSpans_redevs (l : List Span) (tenant : Nat) : s.Redevs (s.readSpans l tenant).2 := by
  unfold State.readSpans
  extract_lets s1 s2
  have h1 : s.Redevs s1 := .foldl State.fixLine_redevs _
  have h2 : s1.Redevs s2 := .foldl State.poisonLine_redevs _
  split
  · exact h1.trans h2
  · exact (h1.trans h2).then ((State.memEvt_start ..).trans (State.memLog_start ..))

theorem State.admitList_redevs (x : Ctx) (addr : Nat) (rep : Report) (own : Bool) : s.Redevs (s.admitList x addr rep own).2.2 := by
  let motive (r : Nat × Option ListRec × State) := s.Redevs r.2.2
  have h := s.readSpans_redevs (s.refSpans x addr 64) x.asOwner
  unfold State.admitList
  refine iteInduction (motive := motive) (fun _ => .refl _) (fun _ => iteInduction (motive := motive) (fun _ => .refl _) (fun _ => ?_))
  iterate 7 refine iteInduction (motive := motive) (fun _ => h) (fun _ => ?_)
  exact h.then rfl

theorem State.submitShard_redevs (t n : Nat) (p : Nat × Nat) : s.Redevs (s.submitShard t n p).2 := by
  unfold State.submitShard
  split
  · exact .refl _
  next x hx =>
    have h := s.admitList_redevs x p.2 .none true
    split
    next code l u hl =>
      rw [hl] at h
      split
      · exact h
      next k hk =>
        have hq : s.Redevs (u.queueList x.id k).2 := h.then (State.queueList_start ..)
        dsimp only
        split
        · exact hq
        · split <;> exact hq

theorem State.submitShards_redevs (t n : Nat) (l : List (Nat × Nat)) (b : Bool) :
    s.Redevs (l.foldl (fun (a : Bool × State) p => if a.1 then a.2.submitShard t n p else a) (b, s)).2 := by
  induction l generalizing s b with
  | nil => exact .refl _
  | cons p l ih =>
    rw [List.foldl_cons]
    split
    · exact (s.submitShard_redevs t n p).trans (ih _ _)
    · exact ih _ _

theorem State.runStep_redevs (t n fuel : Nat) : s.Redevs (s.runStep t n fuel) := by
  induction fuel generalizing s with
  | zero => exact .of_start (State.failModel_start ..)
  | succ fuel ih =>
    unfold State.runStep
    split
    · exact .refl _
    next m hm =>
      extract_lets s1 r
      have hr : s.Redevs r.2 := State.Redevs.trans (t := s1) (.of_start rfl) (State.submitShards_redevs ..)
      split
      · exact hr
      · split
        · exact hr
        · refine (hr.then ?_).trans (ih _)
          exact State.foldl_same State.start (fun u p => State.cancelList_start ..) _ _

theorem State.reapSteps_redevs : s.Redevs s.reapSteps := by
  unfold State.reapSteps
  refine State.Redevs.trans (.of_start (State.seeEnds_start ..)) (.foldl (fun u p => ?_) _)
  exact State.Redevs.trans (.of_start rfl) (State.runStep_redevs ..)

theorem State.vfStop_redevs (v : Nat) (flr : Bool) : s.Redevs (s.vfStop v flr) := by
  unfold State.vfStop
  refine State.Redevs.trans (.of_start ?_) (State.reapSteps_redevs _)
  rw [State.foldl_same State.start (fun u y => State.closeCtx_start ..), State.foldl_same State.start (fun u n => State.dropModel_start ..)]
  rfl

end
end Sys2Proof.Machine
end

section
/-! PROOFS. Attentions: what raising one and noting it to a function leave (R601, R602). -/
namespace Sys2Proof.Machine

theorem State.setFn_fn_ne (s : State) {f g : Nat} (x : Fn) (h : g ≠ f) : (s.setFn f x).fn g = s.fn g := Tab.get_set_ne _ _ _ h

/-- What a function's new record keeps of the old one is as it was in every function. -/
theorem State.setFn_keeps {β : Type} (φ : Fn → β) (s : State) {f : Nat} {x : Fn} (h : φ x = φ (s.fn f)) (g : Nat) :
    φ ((s.setFn f x).fn g) = φ (s.fn g) := by
  by_cases hg : g = f
  · rw [hg, State.setFn_fn, h]
  · rw [State.setFn_fn_ne _ _ hg]

theorem State.post_attn (s : State) (f q : Nat) (r : Rec) (g : Nat) : ((s.post f q r).fn g).attn = (s.fn g).attn := by
  unfold State.post
  split
  · exact State.setFn_keeps Fn.attn s (by rfl) g
  · rfl

theorem State.statusNote_attn (s : State) (f g : Nat) : ((s.statusNote f).fn g).attn = (s.fn g).attn := by
  have hpost (o : Option Nat) (h : Bool) (q : Nat) (r : Rec) :
      (((s.setFn f { s.fn f with lastStatus := o, held := h }).post f q r).fn g).attn = (s.fn g).attn :=
    (State.post_attn ..).trans (State.setFn_keeps Fn.attn s (by rfl) g)
  unfold State.statusNote
  extract_lets x
  split
  · rfl
  · split
    · split
      · exact State.setFn_keeps Fn.attn s (by rfl) g
      · exact hpost ..
    · exact hpost ..

theorem State.raise_attn_self (s : State) (f n : Nat) : ((s.raise f n).fn f).attn = (s.fn f).attn ||| BitVec.ofNat 8 (2 ^ n) := by
  rw [State.raise, State.statusNote_attn, State.setFn_fn]

theorem State.raise_attn_ne (s : State) {f g : Nat} (n : Nat) (h : g ≠ f) : ((s.raise f n).fn g).attn = (s.fn g).attn := by
  rw [State.raise, State.statusNote_attn, State.setFn_fn_ne _ _ h]

/-- An attention once pending stays so while others are raised. -/
theorem State.raise_attn_mono (s : State) (f n : Nat) {g k : Nat} (h : (s.fn g).attn.getLsbD k = true) : ((s.raise f n).fn g).attn.getLsbD k = true := by
  by_cases hg : g = f
  · subst hg; rw [State.raise_attn_self, BitVec.getLsbD_or, h, Bool.true_or]
  · rw [State.raise_attn_ne _ _ hg, h]

theorem State.raise_attn_bit (s : State) (f : Nat) {n : Nat} (h : n < 8) : ((s.raise f n).fn f).attn.getLsbD n = true := by
  rw [State.raise_attn_self, BitVec.getLsbD_or, BitVec.getLsbD_ofNat, Nat.testBit_two_pow_self]
  simp [h]

section
variable (s : State) (l : List Nat) (n : Nat)

theorem State.foldl_raise_mono {g k : Nat} (h : (s.fn g).attn.getLsbD k = true) :
    ((l.foldl (fun u f => u.raise f n) s).fn g).attn.getLsbD k = true := by
  induction l generalizing s with
  | nil => exact h
  | cons f l ih => exact ih _ (State.raise_attn_mono _ _ _ h)

theorem State.foldl_raise_bit (hn : n < 8) : ∀ f ∈ l, ((l.foldl (fun u f => u.raise f n) s).fn f).attn.getLsbD n = true := by
  induction l generalizing s with
  | nil => exact List.forall_mem_nil _
  | cons g l ih =>
    rw [List.foldl_cons, List.forall_mem_cons]
    exact ⟨State.foldl_raise_mono _ l n (State.raise_attn_bit s g hn), ih _⟩

end

/-- An attention raised to all is pending at each function that is ON. -/
theorem State.raiseAll_attn (s : State) {n : Nat} (hn : n < 8) : ∀ f ∈ s.onFns, ((s.raiseAll n).fn f).attn.getLsbD n = true :=
  State.foldl_raise_bit _ _ _ hn

theorem State.raiseAll_reg (s : State) (n : Nat) {a : Nat} (h : a ≠ Reg.HIF_QOFF_DROP) : (s.raiseAll n).reg a = s.reg a :=
  congrArg BitVec.toNat (State.foldl_same (fun u => u.regs.get 0 a) (fun u f => State.raise_get_ne u f n h) _ _)

end Sys2Proof.Machine
end

section
/-! PROOFS. Supplies, PERST# and the phases of start (R708, R711, R712, R716 to R720, R728, R743, R756, R759). -/
namespace Sys2Proof.Machine

/-! ### What an alarm leaves of start (R742, R743) -/

section
variable {β : Type} (φ : Start → β)
  (hφ : ∀ (x : Start) d al ac ht ks sk ie,
    φ { x with dev := d, alarmed := al, action := ac, haltTenants := ht, keys := ks, sessionKey := sk, identErased := ie } = φ x)
  (s : State)
include hφ

theorem State.Redevs.keeps {s t : State} (h : s.Redevs t) : φ t.start = φ s.start := by
  obtain ⟨d, hd, -⟩ := h
  rw [hd]
  exact hφ s.start d _ _ _ _ _ _

theorem State.haltTenants_keeps : φ s.haltTenants.start = φ s.start := by
  unfold State.haltTenants
  split
  · rfl
  · extract_lets t x u
    have ht : φ t.start = φ s.start := by
      show φ (ite _ _ _ : State).start = _
      split
      · rfl
      · rw [State.setDev_start]; exact hφ s.start _ _ _ _ _ _ _
    have hu : φ u.start = φ t.start := hφ t.start _ _ _ _ _ _ _
    exact ((State.Redevs.foldl (fun (w : State) v => .ite (w.vfStop_redevs v false) (.refl _)) _).keeps φ hφ).trans (hu.trans ht)

theorem State.eraseAll_keeps : φ s.eraseAll.start = φ s.start := by
  unfold State.eraseAll
  extract_lets x t u w
  have hw : w.start = u.start := State.foldl_same State.start (fun v n => State.killCell_start v n) _ _
  have hu : u.start = t.start := State.foldl_same State.start (f := fun (v : State) p => v.setPortEn p {}) (fun v p => rfl) _ _
  rw [State.setDev_start, hw, hu]
  exact hφ s.start _ _ _ _ _ _ _

theorem State.takeAction_keeps (a : Nat) : φ (s.takeAction a).start = φ s.start := by
  unfold State.takeAction
  extract_lets x t u v
  have ht : φ t.start = φ s.start := hφ s.start _ _ _ _ _ _ _
  have hu : φ u.start = φ t.start := by
    show φ (ite _ _ _ : State).start = _
    split
    · exact State.haltTenants_keeps φ hφ t
    · rfl
  have hv : φ v.start = φ u.start := by
    show φ (ite _ _ _ : State).start = _
    split
    · exact hφ u.start _ _ _ _ _ _ _
    · rfl
  split
  · exact (State.eraseAll_keeps φ hφ v).trans (hv.trans (hu.trans ht))
  · exact hv.trans (hu.trans ht)

theorem State.alarmLog_keeps (b : Nat) : φ (s.alarmLog b).start = φ s.start := by
  unfold State.alarmLog
  extract_lets t x u
  refine (congrArg φ (State.foldl_same State.start (fun v f => State.raise_start v f 3) _ u)).trans ?_
  show φ (ite _ _ _ : State).start = _
  split
  · rfl
  · exact hφ s.start _ _ _ _ _ _ _

theorem State.alarm_keeps (b : Nat) : φ (s.alarm b).start = φ s.start :=
  (State.takeAction_keeps φ hφ _ _).trans (State.alarmLog_keeps φ hφ s b)

end

/-! ### Storage after supplies come or go (R711, R759) -/

/-- The flash, whose bytes lie from 2^46 on, is all of storage that a wipe leaves. -/
theorem Mem.rd_filter_flash (m : Mem) (a : Nat) : Mem.rd (m.filter (fun c => decide (2 ^ 46 ≤ c.1))) a = if 2 ^ 46 ≤ a then m.rd a else 0 := by
  induction m with
  | nil => simp [Mem.rd]
  | cons c m ih =>
    obtain ⟨b, v⟩ := c
    by_cases hb : 2 ^ 46 ≤ b
    · rw [List.filter_cons_of_pos (by simpa using hb)]
      by_cases hab : b = a
      · rw [if_pos (hab ▸ hb)]; simp [Mem.rd, hab]
      · simpa [Mem.rd, hab] using ih
    · rw [List.filter_cons_of_neg (by simpa using hb), ih]
      by_cases hab : b = a
      · rw [if_neg (hab ▸ hb), if_neg (hab ▸ hb)]
      · simp [Mem.rd, hab]

theorem State.wiped_rd (s : State) (a : Nat) : s.wiped.mem.rd a = if 2 ^ 46 ≤ a then s.mem.rd a else 0 := Mem.rd_filter_flash _ _

/-! ### Phases -/

theorem Only.setStart (s : State) (x : Start) : Only [.start] s { s with start := x } := ⟨fun p hp => by
  cases p
  case start => exact absurd (List.mem_singleton_self _) hp
  all_goals rfl⟩

theorem State.startFails_start (s : State) : s.startFails.start = { s.start with aliasMr := s.mrTen, failed := true, dev := .alarm } :=
  State.setDev_start ..

theorem State.mrExtend_get (s : State) (i : Nat) (d : List Byte) :
    (s.mrExtend i d).start.mr.get 0 i = sha384 (shaBytes (s.start.mr.get 0 i) ++ d) := Tab.get_set_self ..

theorem State.mrExtend_only (s : State) (i : Nat) (d : List Byte) : Only [.start] s (s.mrExtend i d) := by
  have head := Has.head
  exact (State.mrExtend_stays (ps := [.start]) _ _ _ (.refl _ s)).only

/-- Start that ends in ALARM when the slot refused was the last to try (R717). -/
theorem State.refuseSlot_fails (s : State) (c e : Nat) (h : s.start.fallback = true ∨ (s.slotHdr (1 - s.start.slot)).valid = false) :
    (s.refuseSlot c e).start.failed = true ∧ (s.refuseSlot c e).start.dev = .alarm ∧ (s.refuseSlot c e).start.cause = c := by
  unfold State.refuseSlot
  extract_lets i j x y mr w t u
  have hu : u.start.fallback = s.start.fallback ∧ u.start.cause = c := by
    unfold u
    split
    · exact ⟨State.alarm_keeps Start.fallback (fun _ _ _ _ _ _ _ _ => rfl) t 6, State.alarm_keeps Start.cause (fun _ _ _ _ _ _ _ _ => rfl) t 6⟩
    · exact ⟨rfl, rfl⟩
  rw [if_pos (by simpa [hu.1, y, j, i] using h), State.startFails_start]
  exact ⟨rfl, rfl, hu.2⟩

theorem State.endP0_serves (s : State) (h : s.start.identErased = false) (hf : s.start.failed = false) :
    s.endP0.start.phase = 1 ∧ s.endP0.start.sessionKey = true ∧ s.endP0.start.failed = false ∧ s.endP0.start.mr.get 0 0 =
      sha384 (shaBytes (s.start.mr.get 0 0) ++ shaBytes (sha384 (leBytes 4 Config.romVersion ++ leBytes 4 s.fuseWord ++ shaBytes s.start.ownerHash))) := by
  unfold State.endP0
  extract_lets t x u
  rw [if_neg (by simp [u, x, t, State.mrExtend, h])]
  exact ⟨rfl, (congrArg not h : _), hf, State.mrExtend_get ..⟩

theorem State.endP0_fails (s : State) (h : s.start.identErased = true) :
    s.endP0.start.failed = true ∧ s.endP0.start.dev = .alarm ∧ s.endP0.start.sessionKey = false := by
  unfold State.endP0
  extract_lets t x u
  rw [if_pos (by simp [u, x, t, State.mrExtend, h]), State.startFails_start]
  exact ⟨rfl, rfl, (congrArg not h : _)⟩

theorem State.endP1_of_none {s r : State} (hr : r = (s.readSlot 0).readSlot 1) (h : r.chooseSlot = none) :
    s.endP1.start.failed = true ∧ s.endP1.start.dev = .alarm := by
  unfold State.endP1
  extract_lets r'
  obtain rfl : r = r' := hr
  rw [h]
  simp only [State.startFails_start, and_self]

theorem State.endP1_of_some {s r : State} {i : Nat} (hr : r = (s.readSlot 0).readSlot 1) (h : r.chooseSlot = some i) :
    s.endP1.start.slot = i ∧ s.endP1.start.phase = 2 ∧
      s.endP1.start.mr.get 0 5 = sha384 (shaBytes (r.start.mr.get 0 5) ++ shaBytes (sha384 (r.header i))) := by
  unfold State.endP1
  extract_lets r'
  obtain rfl : r = r' := hr
  rw [h]
  exact ⟨rfl, rfl, State.mrExtend_get ..⟩

theorem State.endP3_refuses {s : State} {c : Nat} (hc : c = s.p3Check s.start.slot (s.header s.start.slot)) (h : c ≠ 0) : s.endP3 = s.refuseSlot c 0 := by
  subst hc
  exact if_pos h

theorem State.endP3_accepts {s : State} (h : s.p3Check s.start.slot (s.header s.start.slot) = 0) :
    s.endP3.start.phase = 4 ∧ s.endP3.start.imgOwner = sha384 (hdrOwner (s.header s.start.slot)) ∧ Only [.start] s s.endP3 := by
  have hfold (l : List Sect) : Only [.start] s (l.foldl (fun (u : State) (x : Sect) => u.mrExtend (sectMr x.ty) x.dig) s) := by
    have head := Has.head
    exact ((Stays.refl [.start] s).foldl (fun u x hu => State.mrExtend_stays _ _ _ hu)).only
  rw [State.endP3, if_neg (not_not.mpr h)]
  exact ⟨rfl, rfl, (hfold _).trans (.setStart ..)⟩

theorem State.endP4_eq {s : State} {r : Load} (hr : r = s.p4 s.start.slot (s.header s.start.slot)) :
    s.endP4 = if r.cause = 0 then r.st.firstServe else s.refuseSlot r.cause r.entry := by
  simp only [State.endP4, ← hr, ne_eq, ite_not]

/-- Fabric ports train once Pool is cleared (R527, R708). -/
theorem State.endP5_spec (s : State) (hphase : s.start.phase = 4) : s.endP5.start.p5done = true ∧ s.endP5.start.phase = 4 ∧
    (∀ c o, c < 48 → o < 2 ^ 23 → s.endP5.mem.rd (poolAt c o) = 0) ∧ ∀ p, p < 3 → (s.endP5.host.ports.get {} (16 + p)).st = .starting := by
  refine ⟨rfl, hphase, fun c o hc ho => ?_, fun p hp => ?_⟩
  · show (s.mem.clear (poolAt 0 0) (48 * 2 ^ 23)).rd _ = 0
    rw [Mem.rd_clear, if_pos (by unfold poolAt; omega)]
  · have h : s.endP5.host.ports = ((s.host.ports.set 16 { st := .starting }).set 17 { st := .starting }).set 18 { st := .starting } := rfl
    rw [h]
    obtain rfl | rfl | rfl : p = 0 ∨ p = 1 ∨ p = 2 := by omega
    · rw [Tab.get_set_ne _ _ _ (by decide), Tab.get_set_ne _ _ _ (by decide), Tab.get_set_self]
    · rw [Tab.get_set_ne _ _ _ (by decide), Tab.get_set_self]
    · rw [Tab.get_set_self]

/-! ### The commands -/

/-- The package as the supplies leave it, with what a flash command in progress would have altered undefined (R759). -/
def State.flashCut (s : State) : State :=
  match s.flashAlters with
  | some (o, n) => s.flashLost o n
  | none => s

theorem State.flashCut_of_none {s : State} (h : s.flashAlters = none) : s.flashCut = s := by rw [State.flashCut, h]

theorem State.flashCut_start (s : State) : s.flashCut.start = s.start := by unfold State.flashCut; split <;> rfl

theorem State.flashCut_out (s : State) : s.flashCut.out = s.out := by unfold State.flashCut; split <;> rfl

theorem exec_pwrOkDeassert (s : State) :
    exec .pwrOkDeassert s = .next { s.flashCut.wiped with start := { s.flashCut.wiped.start with pwrOk := false, flash := none } } := rfl

/-- A phase ends while supplies are good, start has not failed and awaits nothing (R708). -/
theorem exec_startPhaseEnd {s : State} (full : Nat) (hpwr : s.start.pwrOk = true) (hfail : s.start.failed = false) (hst : s.start.restart ≠ 4) :
    (s.start.phase = 0 → exec (.startPhaseEnd full) s = .next s.endP0) ∧ (s.start.phase = 1 → exec (.startPhaseEnd full) s = .next s.endP1) ∧
    (s.start.phase = 2 → exec (.startPhaseEnd full) s = .next (s.endP2 full)) ∧ (s.start.phase = 3 → exec (.startPhaseEnd full) s = .next s.endP3) ∧
    (s.start.phase = 4 → exec (.startPhaseEnd full) s = .next (if s.start.p5done then s.endP4 else s.endP5)) := by
  have hgo : ¬(!s.start.pwrOk ∨ s.start.failed ∨ s.start.restart = 4) := by simp [hpwr, hfail, hst]
  refine ⟨fun h => ?_, fun h => ?_, fun h => ?_, fun h => ?_, fun h => ?_⟩
  all_goals
    refine (if_neg hgo).trans ?_
    rw [h]
    rfl

/-- Settles O53: the wipe by what it leaves of storage, each phase by its own lemma, a refusal by what an alarm leaves of start. -/
theorem suppliesAndPhases : Obligations.SuppliesAndPhases := by
  unfold Obligations.SuppliesAndPhases
  refine ⟨fun s => ⟨fun h => ?_, fun h => ?_, ?_, fun h => ?_⟩, fun s r hperst hr => ⟨fun h => ?_, fun h hact => ?_⟩,
    fun s => ⟨fun h => ?_, fun h => ?_⟩, fun s full h => ?_, fun s full hpwr hfail hst => ?_, State.refuseSlot_fails⟩
  · refine Gives.intro (if_neg (by simp [h])) ⟨rfl, rfl, rfl, rfl, rfl, rfl, rfl, fun a ha => ?_, fun a ha => ?_⟩
    · exact (s.wiped_rd a).trans (if_pos ha)
    · exact (s.wiped_rd a).trans (if_neg (by omega))
  · exact Gives.intro (if_pos h) rfl
  · exact Gives.intro (exec_pwrOkDeassert s) ⟨rfl, rfl, (congrArg Start.ownerHash s.flashCut_start :), rfl, s.flashCut_out⟩
  · refine Gives.intro (exec_pwrOkDeassert s) (fun a ha => ?_)
    rw [State.flashCut_of_none h]
    exact (s.wiped_rd a).trans (if_pos ha)
  · subst hr
    exact Gives.intro ((if_neg (by simp [hperst])).trans (congrArg Host.Outcome.next (if_pos (by simp [h])))) ⟨rfl, rfl, rfl⟩
  · subst hr
    exact Gives.intro ((if_neg (by simp [hperst])).trans (congrArg Host.Outcome.next (if_neg (by simpa [h] using hact)))) ⟨rfl, rfl, rfl⟩
  · exact Gives.intro (congrArg Host.Outcome.next (if_pos h)) ⟨rfl, .setStart ..⟩
  · exact Gives.intro (congrArg Host.Outcome.next (if_neg h)) ⟨rfl, .setStart ..⟩
  · exact Gives.intro (if_pos (by simpa using h)) rfl
  · obtain ⟨h0, h1, h2, h3, h4⟩ := exec_startPhaseEnd full hpwr hfail hst
    refine ⟨fun hp hid => ?_, fun hp hid => ?_, fun r hp hr => ?_, fun hp => ?_, fun c hp hc => ?_, fun hp h5 => ?_, fun r hp h5 hr => ?_⟩
    · exact Gives.intro (h0 hp) (s.endP0_serves hid hfail)
    · exact Gives.intro (h0 hp) (s.endP0_fails hid)
    · refine Gives.intro (h1 hp) ?_
      cases hc : r.chooseSlot with
      | none => exact State.endP1_of_none hr hc
      | some i => exact State.endP1_of_some hr hc
    · exact Gives.intro (h2 hp) ⟨rfl, rfl, .setStart ..⟩
    · refine Gives.intro (h3 hp) ?_
      split
      next h => exact State.endP3_accepts (hc.symm.trans h)
      next h => exact State.endP3_refuses hc h
    · have h := h4 hp
      rw [h5, if_neg Bool.false_ne_true] at h
      exact Gives.intro h (s.endP5_spec hp)
    · have h := h4 hp
      rw [h5, if_pos rfl] at h
      exact Gives.intro h (State.endP4_eq hr)

end Sys2Proof.Machine
end

section
/-! PROOFS. Every command changes only the parts that it is said to change, and every step keeps storage canonical, the queue well formed and the
fuses burnt (R731, R743, R745, R747). -/
namespace Sys2Proof.Machine

/-! ### Every command -/

/-- Each command's own frame, taken at the parts that `partsOf` names for it. -/
theorem exec_stays (c : Instr) (s : State) : StaysRes (partsOf c) s (exec c s) := by
  -- A list of parts, once written out, holds each of its parts.
  have head := Has.head
  have tail := Has.tail
  obtain ⟨ps, hps⟩ : ∃ ps, ps = partsOf c := ⟨_, rfl⟩
  rw [← hps]
  cases c
  all_goals
    simp only [partsOf, allBut, allParts, noted, served, radioNoted, List.cons_append, List.nil_append, List.filter_cons, List.filter_nil,
      List.contains_eq_mem, List.mem_cons, List.not_mem_nil, reduceCtorEq, or_false, or_self, or_true, decide_true, decide_false,
      Bool.not_true, Bool.not_false, if_true, if_false, Bool.false_eq_true] at hps
    subst hps
  case ppsPulse => exact execPpsPulse_stays s (Stays.refl _ s)
  case ppsMiss => exact execPpsMiss_stays s (Stays.refl _ s)
  case todMessage => exact execTodMessage_stays _ s (Stays.refl _ s)
  case ptpFrame => exact execPtpFrame_stays _ _ s (Stays.refl _ s)
  case ptpDelayReq => exact execPtpDelayReq_stays s (Stays.refl _ s)
  case esmcFrame => exact execEsmcFrame_stays _ _ s (Stays.refl _ s)
  case sourceHoldoffExpiry => exact execSourceHoldoffExpiry_stays s (Stays.refl _ s)
  case beaconSourceSwitch => exact execBeaconSourceSwitch_stays s (Stays.refl _ s)
  case holdoverLimit => exact execHoldoverLimit_stays s (Stays.refl _ s)
  case snapshot => exact execSnapshot_stays s (Stays.refl _ s)
  case restep => exact execRestep_stays s (Stays.refl _ s)
  case requalify => exact execRequalify_stays s (Stays.refl _ s)
  case autoStep => exact execAutoStep_stays s (Stays.refl _ s)
  case launchCounterCorrect => exact execLaunchCounterCorrect_stays s (Stays.refl _ s)
  case comparatorMatch => exact execComparatorMatch_stays _ _ s (Stays.refl _ s)
  case commitPoint => exact execCommitPoint_stays _ s (Stays.refl _ s)
  case groupOrphan => exact execGroupOrphan_stays _ s (Stays.refl _ s)
  case groupFree => exact execGroupFree_stays _ s (Stays.refl _ s)
  case timGrpAbort => exact execTimGrpAbort_stays _ s (Stays.refl _ s)
  case visibilityStampDue => exact execVisibilityStampDue_stays _ _ s (Stays.refl _ s)
  case ppsOutPulse => exact execPpsOutPulse_stays s (Stays.refl _ s)
  case bandwidthWindow => exact execBandwidthWindow_stays s (Stays.refl _ s)
  case windowBoundary => exact execWindowBoundary_stays _ s (Stays.refl _ s)
  case hardStop => exact execHardStop_stays _ s (Stays.refl _ s)
  case grainStart => exact execGrainStart_stays _ s (Stays.refl _ s)
  case grainOverrun => exact execGrainOverrun_stays _ s (Stays.refl _ s)
  case radioOverrunEnd => exact execRadioOverrunEnd_stays _ s (Stays.refl _ s)
  case eviction => exact execEviction_stays _ s (Stays.refl _ s)
  case swapStart => exact execSwapStart_stays _ s (Stays.refl _ s)
  case swapComplete => exact execSwapComplete_stays _ s (Stays.refl _ s)
  case listStart => exact execListStart_stays _ _ s (Stays.refl _ s)
  case listEnd => exact execListEnd_stays _ s (Stays.refl _ s)
  case nop => exact execNop_stays _ s (Stays.refl _ s)
  case listHdr => exact execListHdr_stays _ s (Stays.refl _ s)
  case arm => exact execArm_stays _ s (Stays.refl _ s)
  case groupCreate => exact execGroupCreate_stays _ s (Stays.refl _ s)
  case groupJoin => exact execGroupJoin_stays _ s (Stays.refl _ s)
  case notify => exact execNotify_stays _ s (Stays.refl _ s)
  case cancel => exact execCancel_stays _ s (Stays.refl _ s)
  case handlePut => exact execHandlePut_stays _ s (Stays.refl _ s)
  case place => exact execPlace_stays _ s (Stays.refl _ s)
  case promote => exact execPromote_stays _ s (Stays.refl _ s)
  case evict => exact execEvict_stays _ s (Stays.refl _ s)
  case pin => exact execPin_stays _ s (Stays.refl _ s)
  case unpin => exact execUnpin_stays _ s (Stays.refl _ s)
  case ctxCreate => exact execCtxCreate_stays _ s (Stays.refl _ s)
  case ctxEnd => exact execCtxEnd_stays _ s (Stays.refl _ s)
  case contextEnd => exact execContextEnd_stays _ s (Stays.refl _ s)
  case load => exact execLoad_stays _ s (Stays.refl _ s)
  case stream => exact execStream_stays _ s (Stays.refl _ s)
  case spill => exact execSpill_stays _ s (Stays.refl _ s)
  case restore => exact execRestore_stays _ s (Stays.refl _ s)
  case weightFenceMet => exact execWeightFenceMet_stays _ s (Stays.refl _ s)
  case ibxFreeze => exact execIbxFreeze_stays _ s (Stays.refl _ s)
  case ibxOutputRow => exact execIbxOutputRow_stays _ s (Stays.refl _ s)
  case checksumCompare => exact execChecksumCompare_stays _ _ s (Stays.refl _ s)
  case ibxCsAck => exact execIbxCsAck_stays _ _ s (Stays.refl _ s)
  case vmap => exact execVmap_stays _ s (Stays.refl _ s)
  case vbin => exact execVbin_stays _ s (Stays.refl _ s)
  case vreduce => exact execVreduce_stays _ s (Stays.refl _ s)
  case vsoftmax => exact execVsoftmax_stays _ s (Stays.refl _ s)
  case vnorm => exact execVnorm_stays _ s (Stays.refl _ s)
  case vconvert => exact execVconvert_stays _ s (Stays.refl _ s)
  case vsample => exact execVsample_stays _ s (Stays.refl _ s)
  case vnop => exact execVnop_stays _ s (Stays.refl _ s)
  case cimem => exact execCimem_stays _ s (Stays.refl _ s)
  case cfill => exact execCfill_stays _ s (Stays.refl _ s)
  case cdrain => exact execCdrain_stays _ s (Stays.refl _ s)
  case crun => exact execCrun_stays _ s (Stays.refl _ s)
  case chmLimit => exact execChmLimit_stays _ s (Stays.refl _ s)
  case aopNop => exact execAopNop_stays _ s (Stays.refl _ s)
  case cmac => exact execCmac_stays _ s (Stays.refl _ s)
  case cmacj => exact execCmacj_stays _ s (Stays.refl _ s)
  case cmsu => exact execCmsu_stays _ s (Stays.refl _ s)
  case cmul => exact execCmul_stays _ s (Stays.refl _ s)
  case cmulj => exact execCmulj_stays _ s (Stays.refl _ s)
  case rcmac => exact execRcmac_stays _ s (Stays.refl _ s)
  case rcmul => exact execRcmul_stays _ s (Stays.refl _ s)
  case azero => exact execAzero_stays _ s (Stays.refl _ s)
  case arnd => exact execArnd_stays _ s (Stays.refl _ s)
  case vadd => exact execVadd_stays _ s (Stays.refl _ s)
  case vsub => exact execVsub_stays _ s (Stays.refl _ s)
  case vconj => exact execVconj_stays _ s (Stays.refl _ s)
  case vmov => exact execVmov_stays _ s (Stays.refl _ s)
  case vrot => exact execVrot_stays _ s (Stays.refl _ s)
  case vbrev => exact execVbrev_stays _ s (Stays.refl _ s)
  case halt => exact execHalt_stays _ s (Stays.refl _ s)
  case loop => exact execLoop_stays _ s (Stays.refl _ s)
  case br => exact execBr_stays _ s (Stays.refl _ s)
  case bnz => exact execBnz_stays _ s (Stays.refl _ s)
  case setp => exact execSetp_stays _ s (Stays.refl _ s)
  case sets => exact execSets_stays _ s (Stays.refl _ s)
  case adds => exact execAdds_stays _ s (Stays.refl _ s)
  case setsh => exact execSetsh_stays _ s (Stays.refl _ s)
  case ldpcDec => exact execLdpcDec_stays _ s (Stays.refl _ s)
  case ldpcEnc => exact execLdpcEnc_stays _ s (Stays.refl _ s)
  case polarDec => exact execPolarDec_stays _ s (Stays.refl _ s)
  case polarEnc => exact execPolarEnc_stays _ s (Stays.refl _ s)
  case copy => exact execCopy_stays _ s (Stays.refl _ s)
  case xferNd => exact execXferNd_stays _ s (Stays.refl _ s)
  case fill => exact execFill_stays _ s (Stays.refl _ s)
  case toExact => exact execToExact_stays _ s (Stays.refl _ s)
  case exactSum => exact execExactSum_stays _ s (Stays.refl _ s)
  case fromExact => exact execFromExact_stays _ s (Stays.refl _ s)
  case atomic => exact execAtomic_stays _ s (Stays.refl _ s)
  case resume => exact execResume_stays _ s (Stays.refl _ s)
  case handleWaitMet => exact execHandleWaitMet_stays _ s (Stays.refl _ s)
  case handleRelease => exact execHandleRelease_stays _ s (Stays.refl _ s)
  case handleVisible => exact execHandleVisible_stays _ _ s (Stays.refl _ s)
  case serviceAck => exact execServiceAck_stays _ s (Stays.refl _ s)
  case modelLoad => exact execModelLoad_stays _ s (Stays.refl _ s)
  case mirrorAck => exact execMirrorAck_stays _ _ _ s (Stays.refl _ s)
  case modelUnload => exact execModelUnload_stays _ s (Stays.refl _ s)
  case seqSubmit => exact execSeqSubmit_stays _ _ s (Stays.refl _ s)
  case seqCancel => exact execSeqCancel_stays _ s (Stays.refl _ s)
  case stepBoundary => exact execStepBoundary_stays _ _ _ _ s (Stays.refl _ s)
  case cellStart => exact execCellStart_stays _ _ s (Stays.refl _ s)
  case cellOn => exact execCellOn_stays _ s (Stays.refl _ s)
  case cellStop => exact execCellStop_stays _ _ s (Stays.refl _ s)
  case cellOff => exact execCellOff_stays _ s (Stays.refl _ s)
  case dlOrder => exact execDlOrder_stays _ _ s (Stays.refl _ s)
  case tbLoad => exact execTbLoad_stays _ _ s (Stays.refl _ s)
  case ulOrder => exact execUlOrder_stays _ _ s (Stays.refl _ s)
  case softRelease => exact execSoftRelease_stays _ _ s (Stays.refl _ s)
  case slotMark => exact execSlotMark_stays _ s (Stays.refl _ s)
  case dlDeadline => exact execDlDeadline_stays _ s (Stays.refl _ s)
  case radioListAdmit => exact execRadioListAdmit_stays _ _ _ s (Stays.refl _ s)
  case ulReport => exact execUlReport_stays _ _ _ s (Stays.refl _ s)
  case deadlineMiss => exact execDeadlineMiss_stays _ s (Stays.refl _ s)
  case indicationRingRoom => exact execIndicationRingRoom_stays s (Stays.refl _ s)
  case frameReceive => exact execFrameReceive_stays _ _ s (Stays.refl _ s)
  case burstFft => exact execBurstFft_stays _ _ s (Stays.refl _ s)
  case receiveWindowClose => exact execReceiveWindowClose_stays _ _ s (Stays.refl _ s)
  case egressBuild => exact execEgressBuild_stays _ _ _ s (Stays.refl _ s)
  case gateOpen => exact execGateOpen_stays _ s (Stays.refl _ s)
  case gateCloseDrop => exact execGateCloseDrop_stays _ s (Stays.refl _ s)
  case shaperSelect => exact execShaperSelect_stays _ s (Stays.refl _ s)
  case shpHistSample => exact execShpHistSample_stays s (Stays.refl _ s)
  case shpHistClr => exact execShpHistClr_stays s (Stays.refl _ s)
  case fhLinkChange => exact execFhLinkChange_stays _ _ _ s (Stays.refl _ s)
  case migrationStart => exact execMigrationStart_stays _ s (Stays.refl _ s)
  case migrationLine => exact execMigrationLine_stays _ s (Stays.refl _ s)
  case migrationSwitch => exact execMigrationSwitch_stays _ s (Stays.refl _ s)
  case frameFree => exact execFrameFree_stays s (Stays.refl _ s)
  case memoryRefresh d mere bank => exact execMemoryRefresh_stays d mere bank s (Stays.refl _ s)
  case scrub => exact execScrub_stays _ _ s (Stays.refl _ s)
  case memLogAck => exact execMemLogAck_stays _ s (Stays.refl _ s)
  case flitReceive => exact execFlitReceive_stays _ _ s (Stays.refl _ s)
  case nakReceive => exact execNakReceive_stays _ _ s (Stays.refl _ s)
  case ackTimeout => exact execAckTimeout_stays _ s (Stays.refl _ s)
  case linkLost => exact execLinkLost_stays _ s (Stays.refl _ s)
  case linkTrained => exact execLinkTrained_stays _ s (Stays.refl _ s)
  case lossOfSignal => exact execLossOfSignal_stays _ s (Stays.refl _ s)
  case pathRetry => exact execPathRetry_stays _ _ s (Stays.refl _ s)
  case pathOk => exact execPathOk_stays _ _ s (Stays.refl _ s)
  case pathLost => exact execPathLost_stays _ _ s (Stays.refl _ s)
  case pathRetryLapse => exact execPathRetryLapse_stays _ _ s (Stays.refl _ s)
  case fabLoad => exact execFabLoad_stays _ _ s (Stays.refl _ s)
  case fabStore => exact execFabStore_stays _ _ s (Stays.refl _ s)
  case fabAtomic => exact execFabAtomic_stays _ _ s (Stays.refl _ s)
  case fabTileWr => exact execFabTileWr_stays _ _ s (Stays.refl _ s)
  case fabTileRd => exact execFabTileRd_stays _ _ s (Stays.refl _ s)
  case fabHandle => exact execFabHandle_stays _ _ s (Stays.refl _ s)
  case fabGroup => exact execFabGroup_stays _ _ s (Stays.refl _ s)
  case fabBeacon => exact execFabBeacon_stays _ _ s (Stays.refl _ s)
  case fabEchoReq => exact execFabEchoReq_stays _ _ s (Stays.refl _ s)
  case fabEchoResp => exact execFabEchoResp_stays _ _ s (Stays.refl _ s)
  case fabData => exact execFabData_stays _ _ s (Stays.refl _ s)
  case fabAck => exact execFabAck_stays _ _ s (Stays.refl _ s)
  case fabResult => exact execFabResult_stays _ _ s (Stays.refl _ s)
  case fabNack => exact execFabNack_stays _ _ s (Stays.refl _ s)
  case fabError => exact execFabError_stays _ _ s (Stays.refl _ s)
  case requestTimeout => exact execRequestTimeout_stays _ s (Stays.refl _ s)
  case nackBackoffEnd => exact execNackBackoffEnd_stays _ s (Stays.refl _ s)
  case atomicUnknown => exact execAtomicUnknown_stays _ s (Stays.refl _ s)
  case replyCacheFree => exact execReplyCacheFree_stays s (Stays.refl _ s)
  case beaconSend => exact execBeaconSend_stays s (Stays.refl _ s)
  case echoReqSend => exact execEchoReqSend_stays s (Stays.refl _ s)
  case ratcInsert => exact execRatcInsert_stays s (Stays.refl _ s)
  case ratcRemove => exact execRatcRemove_stays s (Stays.refl _ s)
  case ratcRemoveDone => exact execRatcRemoveDone_stays s (Stays.refl _ s)
  case ratcRead => exact execRatcRead_stays s (Stays.refl _ s)
  case sqDoorbell => exact execSqDoorbell_stays _ _ _ _ s (Stays.refl _ s)
  case cqDoorbell => exact execCqDoorbell_stays _ _ _ s (Stays.refl _ s)
  case listSubmit => exact execListSubmit_stays _ s (Stays.refl _ s)
  case hostCopy => exact execHostCopy_stays _ _ s (Stays.refl _ s)
  case ssiSend => exact execSsiSend_stays _ _ s (Stays.refl _ s)
  case accRead => exact execAccRead_stays _ s (Stays.refl _ s)
  case recordWrite => exact execRecordWrite_stays _ _ s (Stays.refl _ s)
  case attnHoldExpiry => exact execAttnHoldExpiry_stays _ s (Stays.refl _ s)
  case attnClear => exact execAttnClear_stays _ _ s (Stays.refl _ s)
  case msixFire => exact execMsixFire_stays _ _ s (Stays.refl _ s)
  case msixUnmask => exact execMsixUnmask_stays _ _ s (Stays.refl _ s)
  case queuePairEnable => exact execQueuePairEnable_stays _ _ s (Stays.refl _ s)
  case queuePairDisable => exact execQueuePairDisable_stays _ _ s (Stays.refl _ s)
  case queuePairOff => exact execQueuePairOff_stays _ _ s (Stays.refl _ s)
  case fctlVfEnable => exact execFctlVfEnable_stays _ s (Stays.refl _ s)
  case fctlVfDisable => exact execFctlVfDisable_stays _ s (Stays.refl _ s)
  case fctlUnitEnable => exact execFctlUnitEnable_stays _ s (Stays.refl _ s)
  case fctlUnitDisable => exact execFctlUnitDisable_stays _ s (Stays.refl _ s)
  case fctlFhPortEnable => exact execFctlFhPortEnable_stays _ s (Stays.refl _ s)
  case fctlFhPortDisable => exact execFctlFhPortDisable_stays _ s (Stays.refl _ s)
  case fctlFabPortEnable => exact execFctlFabPortEnable_stays _ s (Stays.refl _ s)
  case fctlFabPortDisable => exact execFctlFabPortDisable_stays _ s (Stays.refl _ s)
  case vfEnableSet => exact execVfEnableSet_stays s (Stays.refl _ s)
  case vfEnableClear => exact execVfEnableClear_stays s (Stays.refl _ s)
  case numvfsWrite => exact execNumvfsWrite_stays _ s (Stays.refl _ s)
  case flr => exact execFlr_stays _ s (Stays.refl _ s)
  case vfStopComplete => exact execVfStopComplete_stays _ s (Stays.refl _ s)
  case apertureRead => exact execApertureRead_stays _ _ _ s (Stays.refl _ s)
  case apertureWrite => exact execApertureWrite_stays _ _ _ s (Stays.refl _ s)
  case accountBoundary => exact execAccountBoundary_stays s (Stays.refl _ s)
  case registerWrite => exact execRegisterWrite_stays _ _ s (Stays.refl _ s)
  case rcCounterRead => exact execRcCounterRead_stays _ s (Stays.refl _ s)
  case lowHalfRead => exact execLowHalfRead_stays _ s (Stays.refl _ s)
  case recStart => exact execRecStart_stays s (Stays.refl _ s)
  case recStop => exact execRecStop_stays s (Stays.refl _ s)
  case replayStart => exact execReplayStart_stays s (Stays.refl _ s)
  case replayStop => exact execReplayStop_stays s (Stays.refl _ s)
  case mark => exact execMark_stays s (Stays.refl _ s)
  case pause => exact execPause_stays s (Stays.refl _ s)
  case rplResume => exact execRplResume_stays s (Stays.refl _ s)
  case exportLog => exact execExportLog_stays s (Stays.refl _ s)
  case importLog => exact execImportLog_stays _ s (Stays.refl _ s)
  case clearLog => exact execClearLog_stays s (Stays.refl _ s)
  case xferDone => exact execXferDone_stays s (Stays.refl _ s)
  case recordInject => exact execRecordInject_stays s (Stays.refl _ s)
  case outputMissing => exact execOutputMissing_stays s (Stays.refl _ s)
  case stopAtReached => exact execStopAtReached_stays s (Stays.refl _ s)
  case logGapWrite => exact execLogGapWrite_stays s (Stays.refl _ s)
  case sentinelResult => exact execSentinelResult_stays _ _ _ _ s (Stays.refl _ s)
  case unitShadowResult => exact execUnitShadowResult_stays _ _ _ _ _ _ s (Stays.refl _ s)
  case healthSensorRead => exact execHealthSensorRead_stays _ _ s (Stays.refl _ s)
  case heartbeatSend => exact execHeartbeatSend_stays s (Stays.refl _ s)
  case heartbeatPeriodEnd => exact execHeartbeatPeriodEnd_stays s (Stays.refl _ s)
  case takeoverUnmute => exact execTakeoverUnmute_stays _ s (Stays.refl _ s)
  case expelRetry => exact execExpelRetry_stays s (Stays.refl _ s)
  case stewardTokenRegain => exact execStewardTokenRegain_stays s (Stays.refl _ s)
  case expelGrant => exact execExpelGrant_stays s (Stays.refl _ s)
  case workHandover => exact execWorkHandover_stays s (Stays.refl _ s)
  case spareLoad => exact execSpareLoad_stays _ s (Stays.refl _ s)
  case stepShadowCompare => exact execStepShadowCompare_stays _ _ _ _ _ s (Stays.refl _ s)
  case shadowRerunResult => exact execShadowRerunResult_stays _ _ _ _ _ s (Stays.refl _ s)
  case spareTestDone => exact execSpareTestDone_stays s (Stays.refl _ s)
  case expel => exact execExpel_stays s (Stays.refl _ s)
  case unfence => exact execUnfence_stays s (Stays.refl _ s)
  case shadowStart => exact execShadowStart_stays s (Stays.refl _ s)
  case shadowStop => exact execShadowStop_stays s (Stays.refl _ s)
  case hltLogAck => exact execHltLogAck_stays _ s (Stays.refl _ s)
  case pwrOkAssert => exact execPwrOkAssert_stays s (Stays.refl _ s)
  case startPhaseEnd => exact execStartPhaseEnd_stays _ s (Stays.refl _ s)
  case trainingStoreWrite => exact execTrainingStoreWrite_stays s (Stays.refl _ s)
  case perstAssert => exact execPerstAssert_stays s (Stays.refl _ s)
  case perstDeassert => exact execPerstDeassert_stays s (Stays.refl _ s)
  case pwrOkDeassert => exact execPwrOkDeassert_stays s (Stays.refl _ s)
  case restartArm => exact execRestartArm_stays s (Stays.refl _ s)
  case restartCancel => exact execRestartCancel_stays s (Stays.refl _ s)
  case restartInstant => exact execRestartInstant_stays s (Stays.refl _ s)
  case restartStopping => exact execRestartStopping_stays s (Stays.refl _ s)
  case restartReset => exact execRestartReset_stays s (Stays.refl _ s)
  case commitSvn => exact execCommitSvn_stays _ s (Stays.refl _ s)
  case takeOwner => exact execTakeOwner_stays _ s (Stays.refl _ s)
  case flashErase => exact execFlashErase_stays s (Stays.refl _ s)
  case flashProgram => exact execFlashProgram_stays _ s (Stays.refl _ s)
  case flashRead => exact execFlashRead_stays s (Stays.refl _ s)
  case flashDone => exact execFlashDone_stays _ s (Stays.refl _ s)
  case secMrExt => exact execSecMrExt_stays _ s (Stays.refl _ s)
  case getVersion => exact execGetVersion_stays s (Stays.refl _ s)
  case getCapabilities => exact execGetCapabilities_stays s (Stays.refl _ s)
  case negotiateAlgorithms => exact execNegotiateAlgorithms_stays _ _ s (Stays.refl _ s)
  case getDigests => exact execGetDigests_stays s (Stays.refl _ s)
  case getCertificate => exact execGetCertificate_stays _ _ _ s (Stays.refl _ s)
  case challenge => exact execChallenge_stays _ _ s (Stays.refl _ s)
  case getMeasurements => exact execGetMeasurements_stays _ _ _ s (Stays.refl _ s)
  case dbgToken => exact execDbgToken_stays _ s (Stays.refl _ s)
  case idcode => exact execIdcode_stays s (Stays.refl _ s)
  case bypass => exact execBypass_stays s (Stays.refl _ s)
  case samplePreload => exact execSamplePreload_stays _ s (Stays.refl _ s)
  case extest => exact execExtest_stays _ s (Stays.refl _ s)
  case extestExit => exact execExtestExit_stays s (Stays.refl _ s)
  case securityAlarm => exact execSecurityAlarm_stays _ s (Stays.refl _ s)
  case tamperCheck => exact execTamperCheck_stays _ _ s (Stays.refl _ s)
  case thermtrip => exact execThermtrip_stays s (Stays.refl _ s)
  case thermalRevision => exact execThermalRevision_stays _ s (Stays.refl _ s)
  case powerRevision => exact execPowerRevision_stays _ _ s (Stays.refl _ s)
  case fastStep => exact execFastStep_stays s (Stays.refl _ s)
  case signalOn => exact execSignalOn_stays _ s (Stays.refl _ s)
  case ptpAnnounceTimeout => exact execPtpAnnounceTimeout_stays _ s (Stays.refl _ s)

/-! ### The statements -/

/-- A step on an empty queue is a tick, which keeps what every command keeps; else the front command does, on the state with the rest of the queue. -/
theorem step_keeps {s t : State} (h : step s = .next t) : Keeps { s with pending := s.pending.tail } t := by
  unfold step at h
  split at h
  case h_1 hp =>
    cases h
    have : Has [.time, .rpl] .time := Has.of rfl
    have : Has [.time, .rpl] .rpl := Has.of rfl
    have hs : { s with pending := s.pending.tail } = s := by rw [hp, List.tail_nil, ← hp]
    rw [hs]
    exact (State.tick_stays (ps := [.time, .rpl]) s (Stays.refl _ s)).keeps
  case h_2 c r hp =>
    rw [hp]
    exact ((exec_stays c _).next t h).keeps

/-- Settles O4: each command changes only the parts that it is said to change. -/
theorem frameOfEveryCommand : Obligations.FrameOfEveryCommand := by
  unfold Obligations.FrameOfEveryCommand
  exact fun c s t h => ((exec_stays c s).next t h).only

/-- Settles O3: a step keeps what its command, or the tick, keeps; the queue that is left is the tail of a well-formed one. -/
theorem stepKeepsSound : Obligations.StepKeepsSound := by
  unfold Obligations.StepKeepsSound
  intro s t h
  obtain ⟨hmem, hpending, hout, hdrawn, hfuses⟩ := step_keeps h
  refine ⟨fun hs => ⟨hmem hs.mem, ?queue⟩, hmem, hpending, hout, hdrawn, hfuses⟩
  case queue =>
    rw [hpending]
    exact List.all_eq_true.mpr fun c hc => List.all_eq_true.mp hs.queue c (List.mem_of_mem_tail hc)

end Sys2Proof.Machine
end

section
/-! PROOFS. Thermal ceilings (R761). -/
namespace Sys2Proof.Machine

/-- What a die's thermal ceiling `n` becomes at the temperature `t`, in 1/8 °C. -/
def revisedCeil (t : Int) (n : Nat) : Nat :=
  if 800 ≤ t then (if 16 < n then n - 1 else n) else if t ≤ 776 ∧ n < 32 then n + 1 else n

theorem State.stepped_power (s : State) (m : Nat) : (s.stepped m).power = s.power := by simp [State.stepped]

theorem State.setT_tCeil (s : State) (d n e : Nat) : (s.setT d n).tCeil e = if e = d then n else s.tCeil e := by
  split
  next h => rw [h]; exact Tab.get_set_self ..
  next h => exact Tab.get_set_ne _ _ _ h

section
variable (s : State) (t : Int) (d : Nat)

theorem State.reviseT_tCeil (e : Nat) : (s.reviseT t d).tCeil e = if e = d then revisedCeil t (s.tCeil d) else s.tCeil e := by
  have hstep (u : State) (m : Nat) : (u.stepped m).tCeil e = u.tCeil e := by rw [State.tCeil, State.stepped_power]; rfl
  have hsame : s.tCeil e = if e = d then s.tCeil d else s.tCeil e := by split <;> simp [*]
  unfold State.reviseT revisedCeil
  dsimp only
  split
  · split
    · rw [hstep, State.setT_tCeil]
    · exact hsame
  · split
    · exact State.setT_tCeil ..
    · exact hsame

theorem State.reviseT_p : (s.reviseT t d).power.p = s.power.p := by
  unfold State.reviseT
  dsimp only
  split
  · split
    · rw [State.stepped_power]; rfl
    · rfl
  · split <;> rfl

end

theorem exec_thermalRevision (s : State) {temps : List Int} (h : temps.length = 17) : exec (.thermalRevision temps) s =
    .next (((((s.sensed temps).reviseT (dieTemp temps 0) 0).reviseT (dieTemp temps 1) 1).reviseT (dieTemp temps 2) 2).reviseT (dieTemp temps 3) 3) :=
  if_neg (not_not_intro h)

/-- Settles O57: each of the four revisions changes its own die's ceiling, by its own temperature. -/
theorem thermalCeilings : Obligations.ThermalCeilings := by
  unfold Obligations.ThermalCeilings
  intro s temps d hlen hd
  refine Gives.intro (exec_thermalRevision s hlen) ⟨?ceiling, by simp only [State.reviseT_p]; rfl⟩
  case ceiling =>
    have hown : ((s.sensed temps).tCeil d) = s.tCeil d := rfl
    simp only [State.reviseT_tCeil]
    obtain rfl | rfl | rfl | rfl : d = 0 ∨ d = 1 ∨ d = 2 ∨ d = 3 := by omega
    all_goals simp [revisedCeil, hown]

end Sys2Proof.Machine
end

section
/-! PROOFS. Power ceilings: the count of lowerings is a 32-bit register and wraps (R762, R765, R782). -/
namespace Sys2Proof.Machine

/-- The package at reset, with `HUB_THR_CNT` at its greatest value. -/
def lastLowering : State := State.reset.setReg Reg.HUB_THR_CNT (2 ^ 32 - 1)

/-- That package as a power revision begins. -/
def lastRevised : State := State.powerBase { lastLowering with power := { lastLowering.power with ticks := lastLowering.power.ticks + 1 } }

theorem lastRevised_lowerable : lastRevised.lowerable = some 0 := by decide +kernel

theorem exec_powerRevision_lowers {s b : State} {p10 d : Nat} (p100 : Nat)
    (hb : State.powerBase { s with power := { s.power with ticks := s.power.ticks + 1 } } = b) (habove : b.plimit < p10) (hd : b.lowerable = some d) :
    exec (.powerRevision p10 p100) s = .next ((b.setP d (b.pCeil d - 1)).stepped 1) := by
  change execPowerRevision p10 p100 s = _
  simp only [execPowerRevision, hb, if_pos habove, State.powerDown, hd]

theorem State.stepped_count (s : State) (m : Nat) : (s.stepped m).reg Reg.HUB_THR_CNT = (s.reg Reg.HUB_THR_CNT + 1) % 2 ^ 32 := by
  rw [State.stepped, State.reg, State.thrEvt, State.event_get_ne _ _ _ _ _ (by decide) (by decide)]
  exact State.count_reg _ _ _

/-- Refutes O58: a lowering is counted modulo 2^32, the width of `HUB_THR_CNT`, not modulo 2^64; from 2^32 - 1 the count goes to 0. -/
theorem not_powerCeilings : ¬ Obligations.PowerCeilings := by
  unfold Obligations.PowerCeilings
  rintro ⟨-, revision, -⟩
  obtain ⟨lowered, -⟩ := revision lastLowering lastRevised 3801 0 rfl
  obtain ⟨t, ht, -, -, hcount⟩ := lowered 0 (by decide +kernel) lastRevised_lowerable
  have hexec := exec_powerRevision_lowers (s := lastLowering) (p10 := 3801) 0 rfl (by decide +kernel) lastRevised_lowerable
  obtain rfl := Host.Outcome.next.inj (hexec.symm.trans ht)
  rw [State.stepped_count] at hcount
  exact absurd hcount (by decide +kernel)

end Sys2Proof.Machine
end

section
/-! PROOFS. Sentinel tests: the count of tests passed is a 32-bit register and wraps (R667, R670). -/
namespace Sys2Proof.Machine

/-- The package at reset, with a test of array 0 in progress and `HLT_SENT_PASS` at its greatest value. -/
def lastTest : State := State.setReg { State.reset with health := { State.reset.health with testing := [uIbex 0] } } Reg.HLT_SENT_PASS (2 ^ 32 - 1)

/-- That package once the test has passed. -/
def lastPassed : State := (State.testPassed { lastTest with health := { lastTest.health with testing := [] } } (uIbex 0)).settleUnit (uIbex 0)

theorem lastPassed_count : lastPassed.reg Reg.HLT_SENT_PASS = 0 := by decide +kernel

/-- Refutes O49: a test that passes is counted modulo 2^32, the width of `HLT_SENT_PASS`, not modulo 2^64; from 2^32 - 1 the count goes to 0. -/
theorem not_sentinelsAndBins : ¬ Obligations.SentinelsAndBins := by
  unfold Obligations.SentinelsAndBins
  rintro ⟨passes, -⟩
  obtain ⟨t, ht, -, -, -, hcount⟩ := passes lastTest (uIbex 0) 0 (by decide) (by decide)
  have hexec : exec (.sentinelResult (uIbex 0) 0 0 true) lastTest = .next lastPassed := rfl
  obtain rfl := Host.Outcome.next.inj (hexec.symm.trans ht)
  rw [lastPassed_count] at hcount
  exact absurd hcount (by decide +kernel)

end Sys2Proof.Machine
end

section
/-! PROOFS. The shadow of a step: what is compared, and the second run that settles a mismatch (R697 to R699, R701). -/
namespace Sys2Proof.Machine

/-! ### The commands -/

section
variable {s : State} {tn slot step : Nat} {a b : DWord} (ht : tn < 1024) (hslot : slot < 16)
include ht hslot

theorem exec_stepShadowCompare (hrole : s.health.role = .shadow) (hrerun : s.health.rerun = none) : exec (.stepShadowCompare tn slot step a b) s =
    if a = b then .next s.shadowMatch
    else .next (State.hltEvt { s with health := { s.health with shMiss := min 0xFFFF (s.health.shMiss + 1), rerun := some (slotKey tn slot, step, a) } }
      0x100) := by
  have hpart : ¬(1024 ≤ tn ∨ 16 ≤ slot) := by omega
  have hshadow : ¬(s.health.role ≠ .shadow ∨ s.health.rerun.isSome = true) := by simp [hrole, hrerun]
  exact (if_neg hpart).trans (if_neg hshadow)

theorem exec_shadowRerunResult {first : DWord} (hrerun : s.health.rerun = some (slotKey tn slot, step, first)) :
    exec (.shadowRerunResult tn slot step a b) s =
      let r := { s with health := { s.health with rerun := none } }
      if a = b then .next (r.shadowFault step) else if a = first then .next (r.wrongResult step)
      else .next ((r.shadowFault step).shadowFault step) := by
  have hpart : ¬(1024 ≤ tn ∨ 16 ≤ slot) := by omega
  change execShadowRerunResult tn slot step a b s = _
  simp only [execShadowRerunResult, if_neg hpart, hrerun, ne_eq, not_true_eq_false, or_self, if_false]

end

theorem State.shadowMatch_counts {s : State} (h : s.health.shRun + 1 < s.regBits Reg.HLT_SHADOW 12 16) :
    s.shadowMatch = { s with health := { s.health with shRun := s.health.shRun + 1 } } := if_pos h

/-- The last step of a shadow's term admits the device (R699). -/
theorem State.shadowMatch_admits {s : State} (h : s.regBits Reg.HLT_SHADOW 12 16 ≤ s.health.shRun + 1) :
    s.shadowMatch = State.hltEvt { s with health := { s.health with
      shRun := s.health.shRun + 1, role := if s.regBits Reg.HLT_SHADOW 28 1 = 1 then .spareReady else .active } } 0x200 := if_neg (Nat.not_lt.mpr h)

theorem State.shadowFault_shRun (s : State) (step : Nat) : (s.shadowFault step).health.shRun = 0 := by
  unfold State.shadowFault
  obtain ⟨log, h⟩ := State.healthLog_health { s with health := { s.health with shRun := 0 } } 0x0C 0xF000 0 s.subject (BitVec.ofNat 64 step)
  exact congrArg Health.shRun h

/-- Settles O51: a step that matches is counted or admits, one that differs is kept; the second run's result is compared with the mirrored one, then
with the first. -/
theorem stepShadows : Obligations.StepShadows := by
  unfold Obligations.StepShadows
  refine ⟨?compare, ?rerun⟩
  case compare =>
    intro s tn slot step a b ht hslot hrole hrerun
    have hexec := exec_stepShadowCompare (step := step) (a := a) (b := b) ht hslot hrole hrerun
    refine ⟨fun hab hrun => ?counts, fun hab hrun => ?admits, fun hab => ?keeps⟩
    case counts => exact Gives.intro (hexec.trans (if_pos hab)) (State.shadowMatch_counts hrun)
    case admits =>
      refine Gives.intro (hexec.trans (if_pos hab)) ?_
      rw [State.shadowMatch_admits hrun, State.hltEvt_health]
      exact ⟨rfl, State.hltEvt_reg _ (by decide)⟩
    case keeps =>
      refine Gives.intro (hexec.trans (if_neg hab)) ?_
      rw [State.hltEvt_health]
      exact ⟨rfl, State.hltEvt_reg _ (by decide)⟩
  case rerun =>
    rintro s r tn slot step first a b ht hslot hrerun rfl
    have hexec := exec_shadowRerunResult (a := a) (b := b) ht hslot hrerun
    refine ⟨fun hab => ?fault, fun hab hfirst => ?wrong, fun hab hfirst => ?twice⟩
    case fault => exact Gives.intro (hexec.trans (if_pos hab)) ⟨rfl, State.shadowFault_shRun _ _⟩
    case wrong => exact Gives.intro (hexec.trans ((if_neg hab).trans (if_pos hfirst))) rfl
    case twice => exact Gives.intro (hexec.trans ((if_neg hab).trans (if_neg hfirst))) rfl

end Sys2Proof.Machine
end

section
/-! PROOFS. The commands of `HLT_CMD`, and the acknowledgement of the health log (R191, R660, R686, R697, R706). -/
namespace Sys2Proof.Machine

/-! ### The fence lifts (R686) -/

theorem State.updCtx_health (s : State) (i : Nat) (f : Ctx → Ctx) : (s.updCtx i f).health = s.health := by
  unfold State.updCtx
  split <;> rfl

theorem State.refresh_health (s : State) (i : Nat) : (s.refresh i).health = s.health := (s.refresh_only i).same .health (by decide)

theorem State.resumeModel_health (s : State) (t n : Nat) : (s.resumeModel t n).health = s.health := by
  unfold State.resumeModel
  split
  · rfl
  · exact State.foldl_same State.health (fun u c => (State.refresh_health ..).trans (State.updCtx_health ..)) _ _

theorem State.unfence_health (s : State) : s.unfence.health = { s.health with fenced := false } := by
  unfold State.unfence
  dsimp only
  rw [State.redev_health, State.foldl_same State.health (fun u p => State.resumeModel_health u _ _),
    State.foldl_same State.health (fun u n => by rfl)]

/-! ### The commands -/

section
variable {s : State} (hlive : s.replayed = false)
include hlive

/-- A command of `HLT_CMD` acts where its condition holds of the state with the write logged, else it is ignored and flagged (R706). -/
theorem State.hltCmd_eq (code : Nat) (ok : State → Bool) (f : State → State) {u : State}
    (hu : u = s.logIn 5 0x04 pf0 (BitVec.ofNat 64 (Reg.HLT_CMD + 2 * 2 ^ 48)) (leBytes 4 code)) :
    s.hltCmd code ok f = if ok u then f u else u.hltEvt 0x400 := by
  subst hu
  exact State.bar2_eq _ _ _ _ _ hlive

theorem State.hltCmd_acts {code : Nat} {ok : State → Bool} {f : State → State} {u : State}
    (hu : u = s.logIn 5 0x04 pf0 (BitVec.ofNat 64 (Reg.HLT_CMD + 2 * 2 ^ 48)) (leBytes 4 code)) (hok : ok u = true) : s.hltCmd code ok f = f u :=
  (State.hltCmd_eq hlive code ok f hu).trans (if_pos hok)

theorem State.hltCmd_refused {code : Nat} {ok : State → Bool} {f : State → State} {u : State}
    (hu : u = s.logIn 5 0x04 pf0 (BitVec.ofNat 64 (Reg.HLT_CMD + 2 * 2 ^ 48)) (leBytes 4 code)) (hok : ok u = false) :
    s.hltCmd code ok f = u.hltEvt 0x400 := (State.hltCmd_eq hlive code ok f hu).trans (if_neg (Bool.eq_false_iff.mp hok))

end

/-- The head entries of the health log acknowledged: `HLT_LOG_TAIL` and `HLT_LOG_COUNT` move by as many as are held (R191, R660). -/
def State.healthAck (s : State) (n : Nat) : State :=
  let k := min (n % 2 ^ 9) (s.reg Reg.HLT_LOG_COUNT)
  let u := s.setReg Reg.HLT_LOG_TAIL ((s.reg Reg.HLT_LOG_TAIL + k) % 256)
  u.setReg Reg.HLT_LOG_COUNT (u.reg Reg.HLT_LOG_COUNT - k)

theorem State.healthAck_tail (s : State) (n : Nat) : (s.healthAck n).reg Reg.HLT_LOG_TAIL =
    (s.reg Reg.HLT_LOG_TAIL + min (n % 2 ^ 9) (s.reg Reg.HLT_LOG_COUNT)) % 256 := by
  rw [State.healthAck, State.setReg_reg_ne _ _ (by decide), State.setReg_reg]
  omega

theorem State.healthAck_count (s : State) (n : Nat) : (s.healthAck n).reg Reg.HLT_LOG_COUNT =
    s.reg Reg.HLT_LOG_COUNT - min (n % 2 ^ 9) (s.reg Reg.HLT_LOG_COUNT) := by
  have h := s.reg_lt Reg.HLT_LOG_COUNT
  rw [State.healthAck, State.setReg_reg, State.setReg_reg_ne _ _ (by decide)]
  omega

theorem exec_hltLogAck {s : State} (hlive : s.replayed = false) (n : Nat) : exec (.hltLogAck n) s =
    .next ((s.logIn 5 0x04 pf0 (BitVec.ofNat 64 (Reg.HLT_LOG_ACK + 2 * 2 ^ 48)) (leBytes 4 n)).healthAck n) :=
  congrArg Host.Outcome.next (State.bar2_eq _ _ _ _ _ hlive)

/-- A command whose answer is logged and changes the monitor's own state only. -/
theorem logIn_then_health_only (s : State) (cls kind source : Nat) (aux : DWord) (b : List Byte) (h : Health) :
    Only (noted ++ [.health]) s { s.logIn cls kind source aux b with health := h } :=
  ((s.logIn_only cls kind source aux b).mono (by decide)).trans ⟨fun p hp => by cases p <;> first | rfl | exact absurd (by decide) hp⟩

/-- Settles O52: a command of `HLT_CMD` acts on the state with its write logged, or only sets REFUSED; the acknowledgement takes what is held. -/
theorem healthCommands : Obligations.HealthCommands := by
  unfold Obligations.HealthCommands
  refine ⟨?expel, ?unfence, ?start, ?stop, ?ack⟩
  case expel =>
    intro s u hlive hu
    exact ⟨fun h => Gives.intro rfl (State.hltCmd_acts hlive hu (by simpa using h)),
      fun h => Gives.intro rfl (State.hltCmd_refused hlive hu (by simpa using h))⟩
  case unfence =>
    intro s u hlive hu
    refine ⟨fun hf hb => Gives.intro rfl ?_, fun h => Gives.intro rfl (State.hltCmd_refused hlive hu (Bool.and_eq_false_iff.mpr h))⟩
    rw [State.hltCmd_acts hlive hu (by simp [hf, hb]), State.unfence_health]
    exact ⟨rfl, rfl⟩
  case start =>
    intro s u hlive hu
    refine ⟨fun hrole hm hc => Gives.intro rfl ?_, fun h => Gives.intro rfl (State.hltCmd_refused hlive hu ?_)⟩
    · rw [State.hltCmd_acts hlive hu (by simp only [hm, hc]; simpa using hrole)]
      exact ⟨rfl, hu ▸ logIn_then_health_only ..⟩
    · obtain ⟨h1, h2⟩ | h | h := h
      · simp [h1, h2]
      · simp [h]
      · simp [h]
  case stop =>
    intro s u hlive hu
    refine ⟨fun h => Gives.intro rfl ?_, fun h => Gives.intro rfl (State.hltCmd_refused hlive hu (by simpa using h))⟩
    rw [State.hltCmd_acts hlive hu (by simpa using h)]
    exact ⟨rfl, hu ▸ logIn_then_health_only ..⟩
  case ack =>
    intro s n hlive
    refine Gives.intro (exec_hltLogAck hlive n) ?_
    rw [State.healthAck_count, State.healthAck_tail, State.logIn_reg_ne _ _ _ _ _ _ (by decide), State.logIn_reg_ne _ _ _ _ _ _ (by decide)]
    exact ⟨rfl, rfl⟩

end Sys2Proof.Machine
end

section
/-! PROOFS. A restart is armed and withdrawn (R729). -/
namespace Sys2Proof.Machine

/-- A restart armed for an instant: the event and the attention to every function that is ON. -/
def State.armRestart (u : State) (at0 : Nat) : State :=
  ({ u with start := { u.start with restart := 1, restartAt := at0 } }.flag Reg.HUB_EVT 2).raiseAll 4

theorem State.armRestart_start (u : State) (at0 : Nat) : (u.armRestart at0).start = { u.start with restart := 1, restartAt := at0 } :=
  (State.foldl_same State.start (fun u f => State.raise_start u f 4) _ _).trans (State.flag_start ..)

theorem State.armRestart_spec (u : State) (at0 : Nat) :
    (u.armRestart at0).start.restart = 1 ∧ (u.armRestart at0).start.restartAt = at0 ∧
      (u.armRestart at0).reg Reg.HUB_EVT = u.reg Reg.HUB_EVT ||| 2 ∧ ∀ f ∈ u.onFns, ((u.armRestart at0).fn f).attn.getLsbD 4 = true := by
  refine ⟨?_, ?_, ?_, fun f hf => ?_⟩
  · rw [State.armRestart_start]
  · rw [State.armRestart_start]
  · exact (State.raiseAll_reg _ 4 (by decide)).trans (State.flag_reg _ Reg.HUB_EVT (by decide))
  · exact State.raiseAll_attn _ (by decide) f hf

section
variable {s : State} (hlive : s.replayed = false)
include hlive

theorem exec_restartArm : exec .restartArm s =
    let u := s.logIn 5 0x04 pf0 (BitVec.ofNat 64 (Reg.HUB_CMD + 2 * 2 ^ 48)) (leBytes 4 1)
    let at0 := stampTc (u.regs.get 0 Reg.HUB_RESTART_AT)
    .next (if 2 ≤ u.start.restart then u
      else u.armRestart (if decide (u.reg Reg.HUB_RESTART_AT = 0 ∨ at0 < u.now) || u.time.st == .freerun
        then u.now + u.regBits Reg.HUB_CFG 4 10 * 1966080 else at0)) :=
  congrArg Host.Outcome.next (State.bar2_eq _ _ _ _ _ hlive)

theorem exec_restartCancel : exec .restartCancel s =
    let u := s.logIn 5 0x04 pf0 (BitVec.ofNat 64 (Reg.HUB_CMD + 2 * 2 ^ 48)) (leBytes 4 2)
    .next (if u.start.restart = 1 then { u with start := { u.start with restart := 0 } } else u) :=
  congrArg Host.Outcome.next (State.bar2_eq _ _ _ _ _ hlive)

end

/-- Settles O54: the instant by the three conditions, the attentions by the fold over the functions that are ON. -/
theorem restartArming : Obligations.RestartArming := by
  unfold Obligations.RestartArming
  refine ⟨fun s u hlive hu => ?_, fun s u hlive hu => ?_⟩
  · have hexec := exec_restartArm hlive
    rw [← hu] at hexec
    dsimp only at hexec
    refine ⟨fun hst hms => ?_, fun hst h0 hat hfree => ?_, fun hst => ?_⟩
    · rw [if_neg (by omega), if_pos (by simpa [or_assoc] using hms)] at hexec
      exact Gives.intro hexec (u.armRestart_spec _)
    · rw [if_neg (by omega), if_neg (by simpa [h0, hfree] using hat)] at hexec
      exact Gives.intro hexec (u.armRestart_spec _)
    · rw [if_pos hst] at hexec
      exact Gives.intro hexec rfl
  · have hexec := exec_restartCancel hlive
    rw [← hu] at hexec
    dsimp only at hexec
    refine ⟨fun h => ?_, fun h => ?_⟩
    · rw [if_pos h] at hexec
      exact Gives.intro hexec rfl
    · rw [if_neg h] at hexec
      exact Gives.intro hexec rfl

end Sys2Proof.Machine
end

section
/-! PROOFS. Security alarms: the bit of a source that no register holds (R743). -/
namespace Sys2Proof.Machine

/-- Refutes O56: the clause on the bit of a source holds for the 64 bits of `SEC_ALARM` only. For source 64, of any state, the register would
have to read 2^64 or more. -/
theorem not_attestationAndDebug : ¬ Obligations.AttestationAndDebug := by
  unfold Obligations.AttestationAndDebug
  rintro ⟨-, -, -, -, -, hlog, -⟩
  have hreg : (State.reset.alarmLog 64).reg Reg.SEC_ALARM = State.reset.reg Reg.SEC_ALARM ||| 2 ^ 64 := hlog State.reset 64
  have hlow : 2 ^ 64 ≤ State.reset.reg Reg.SEC_ALARM ||| 2 ^ 64 := Nat.right_le_or
  exact absurd (State.reg_lt (State.reset.alarmLog 64) Reg.SEC_ALARM) (by omega)

end Sys2Proof.Machine
end

section
/-! PROOFS. Restarts, the training store, fuses, the flash, measurement in service (R715, R727, R730, R731, R743, R745, R748). -/
namespace Sys2Proof.Machine

/-! ### Restart (R730) -/

theorem exec_restartInstant {s : State} (h1 : s.start.restart = 1) (hat : s.start.restartAt ≤ s.now) : exec .restartInstant s =
    .next (((s.radio.cells.filter (fun (p : Nat × Cell) => p.2.en.st == .on)).map (·.1)).foldl (fun (u : State) n => u.stopCell n 0)
      { s with start := { s.start with restart := 2 } }) := if_neg (by omega)

/-- Every live VF stops and nothing of start changes but the device state (R730 step 2). -/
theorem stopVfs_redevs (s : State) (l : List Nat) :
    s.Redevs (l.foldl (fun (u : State) v => if (u.fn v).en.st = .stopping then u else u.vfStop v false) s) :=
  .foldl (fun u v => .ite (.refl _) (u.vfStop_redevs v false)) l

/-! ### Fuses (R745) -/

theorem State.fuseCmd_eq {s : State} (hlive : s.replayed = false) (code k : Nat) (ok : State → Bool) (f : State → State) :
    let u := s.logIn 5 0x04 pf0 (BitVec.ofNat 64 (Reg.HUB_CMD + 2 * 2 ^ 48)) (leBytes 4 (code + k % 2 ^ 16 * 2 ^ 16))
    s.fuseCmd code k ok f = if k % 2 ^ 16 = 0x4B44 ∧ u.start.served ∧ ok u then f u else u.flag Reg.HUB_EVT 1 := State.bar2_eq _ _ _ _ _ hlive

/-! ### The flash (R715) -/

/-- A flash command begun: BUSY, with its code, offset and length. -/
def State.flashBusy (u : State) (code : Nat) : State :=
  { u with start := { u.start with flash := some (code, u.flashOfs, u.flashLen) } }.setReg Reg.HUB_FLASH_STAT 1

section
variable (u : State) (code : Nat)

theorem State.flashBusy_reg : (u.flashBusy code).reg Reg.HUB_FLASH_STAT = 1 := State.setReg_reg ..

theorem State.flashBusy_regBits {a : Nat} (lo len : Nat) (h : a ≠ Reg.HUB_FLASH_STAT) : (u.flashBusy code).regBits a lo len = u.regBits a lo len :=
  congrArg (bits · lo len) (State.setReg_get_ne _ _ h)

theorem State.flashBusy_ofs : (u.flashBusy code).flashOfs = u.flashOfs := State.flashBusy_regBits u code 0 29 (by decide)

theorem State.flashBusy_len : (u.flashBusy code).flashLen = u.flashLen := State.flashBusy_regBits u code 0 28 (by decide)

theorem State.flashBusy_flash (o n : Nat) : (u.flashBusy code).flash o n = u.flash o n := rfl

end

theorem State.flashCmd_eq {s : State} (hlive : s.replayed = false) (code : Nat) (f : State → State) :
    let u := s.logIn 5 0x04 pf0 (BitVec.ofNat 64 (Reg.HUB_FLASH_CMD + 2 * 2 ^ 48)) (leBytes 4 code)
    s.flashCmd code f = if u.flashFree then f (u.flashBusy code) else u.flag Reg.HUB_FLASH_STAT 4 := State.bar2_eq _ _ _ _ _ hlive

/-- What a flash command that is refused leaves, of the state in which its write is logged (R715). -/
theorem flashRefused_spec {s u : State} {w v : Nat} (hu : u = s.logIn 5 0x04 pf0 (BitVec.ofNat 64 w) (leBytes 4 v)) {c : Bool} {busy : State}
    (hfree : c = false) (t : State) (ht : t = if c then busy else u.flag Reg.HUB_FLASH_STAT 4) :
    t.reg Reg.HUB_FLASH_STAT = u.reg Reg.HUB_FLASH_STAT ||| 4 ∧ t.mem = s.mem ∧ t.start = u.start := by
  subst hu
  rw [hfree, if_neg Bool.false_ne_true] at ht
  subst ht
  exact ⟨State.flag_reg _ _ (by decide), State.logIn_mem .., rfl⟩

/-- The sectors that an erase clears: first address and length (R715). -/
def State.eraseOfs (u : State) : Nat := u.flashOfs / 65536 * 65536
def State.eraseLen (u : State) : Nat := if u.flashLen = 0 then 0 else ceilDiv (u.flashOfs + u.flashLen) 65536 * 65536 - u.eraseOfs

theorem State.eraseSpan (u : State) (h : 0 < u.flashLen) : u.eraseOfs ≤ u.flashOfs ∧ u.flashOfs + u.flashLen ≤ u.eraseOfs + u.eraseLen ∧
    u.eraseOfs + u.eraseLen = ceilDiv (u.flashOfs + u.flashLen) 65536 * 65536 := by
  rw [State.eraseLen, if_neg (by omega)]
  unfold State.eraseOfs ceilDiv
  omega

def State.erased (u : State) : State :=
  { u with mem := u.mem.clear (flashAt u.eraseOfs) u.eraseLen, start := { u.start with flash := some (1, u.eraseOfs, u.eraseLen) } }

theorem State.logReads_reg_ne (s : State) (f addr fuel : Nat) (b : List Byte) {a : Nat} (h : a ∉ logRegs) :
    (s.logReads f addr fuel b).reg a = s.reg a := by
  induction fuel generalizing s addr b with
  | zero => rfl
  | succ fuel ih =>
    unfold State.logReads
    split
    · rfl
    · rw [ih, State.logIn_reg_ne _ _ _ _ _ _ h]

section
variable {s u : State} (hlive : s.replayed = false)
include hlive

theorem exec_flashErase (hu : u = s.logIn 5 0x04 pf0 (BitVec.ofNat 64 (Reg.HUB_FLASH_CMD + 2 * 2 ^ 48)) (leBytes 4 1)) : exec .flashErase s =
    .next (if u.flashFree then (u.flashBusy 1).erased else u.flag Reg.HUB_FLASH_STAT 4) := by
  subst hu
  exact congrArg Host.Outcome.next (State.flashCmd_eq hlive ..)

theorem exec_flashProgram (b : List Byte) (hu : u = s.logIn 5 0x04 pf0 (BitVec.ofNat 64 (Reg.HUB_FLASH_CMD + 2 * 2 ^ 48)) (leBytes 4 2)) :
    exec (.flashProgram b) s = .next (if u.flashFree then
      let r := (u.flashBusy 2).dmaIn pf0 ((u.flashBusy 2).regBits Reg.HUB_FLASH_HOST 0 48) (u.flashBusy 2).flashLen b
      r.2.program (u.flashBusy 2).flashOfs r.1 else u.flag Reg.HUB_FLASH_STAT 4) := by
  subst hu
  exact congrArg Host.Outcome.next (State.flashCmd_eq hlive ..)

theorem exec_flashRead (hu : u = s.logIn 5 0x04 pf0 (BitVec.ofNat 64 (Reg.HUB_FLASH_CMD + 2 * 2 ^ 48)) (leBytes 4 3)) :
    exec .flashRead s = .next (if u.flashFree then
      let w := u.flashBusy 3
      w.emit (.hostWrite pf0 (w.regBits Reg.HUB_FLASH_HOST 0 48) (w.flash w.flashOfs w.flashLen)) else u.flag Reg.HUB_FLASH_STAT 4) := by
  subst hu
  exact congrArg Host.Outcome.next (State.flashCmd_eq hlive ..)

end

theorem State.erased_spec (u : State) (h : 0 < u.flashLen) : (u.flashBusy 1).erased.start.flash.isSome = true ∧
    (u.flashBusy 1).erased.reg Reg.HUB_FLASH_STAT = 1 ∧
    (∀ o, u.flashOfs ≤ o → o < u.flashOfs + u.flashLen → (u.flashBusy 1).erased.mem.rd (flashAt o) = 0) ∧
    (∀ a, a < flashAt (u.flashOfs / 65536 * 65536) ∨ flashAt (ceilDiv (u.flashOfs + u.flashLen) 65536 * 65536) ≤ a →
      (u.flashBusy 1).erased.mem.rd a = u.mem.rd a) := by
  have hspan := (u.flashBusy 1).eraseSpan (by rwa [State.flashBusy_len])
  rw [State.flashBusy_len, State.flashBusy_ofs] at hspan
  have hofs : (u.flashBusy 1).eraseOfs = u.flashOfs / 65536 * 65536 := by rw [State.eraseOfs, State.flashBusy_ofs]
  obtain ⟨hlo, hhi, hend⟩ := hspan
  have hmem : (u.flashBusy 1).erased.mem = u.mem.clear (flashAt (u.flashBusy 1).eraseOfs) (u.flashBusy 1).eraseLen := rfl
  refine ⟨rfl, u.flashBusy_reg 1, fun o h1 h2 => ?_, fun a ha => ?_⟩
  · rw [hmem, Mem.rd_clear, if_pos (by unfold flashAt; omega)]
  · rw [hmem, Mem.rd_clear_of_out]
    rw [← hofs, ← hend] at ha
    unfold flashAt at *
    omega

/-- The bytes that a DMA brings for a command that programs the flash, and what its log leaves. -/
theorem State.programBytes_spec {u : State} (hlive : u.replayed = false) {b : List Byte} (hb : b.length = u.flashLen) (at0 : Nat) :
    let r := (u.flashBusy 2).dmaIn pf0 at0 (u.flashBusy 2).flashLen b
    r.1 = b ∧ r.2.mem = u.mem ∧ r.2.start = (u.flashBusy 2).start ∧ r.2.reg Reg.HUB_FLASH_STAT = 1 := by
  have honly := State.dmaIn_only (u.flashBusy 2) pf0 at0 (u.flashBusy 2).flashLen b
  have hdma := State.dmaIn_of_live (s := u.flashBusy 2) hlive pf0 at0 (u.flashBusy 2).flashLen b
  refine ⟨?_, honly.same .mem (by decide), honly.same .start (by decide), ?_⟩
  · rw [hdma, State.flashBusy_len, ← hb, List.take_length]
  · rw [hdma]
    exact (State.logReads_reg_ne _ _ _ _ _ (by decide)).trans (u.flashBusy_reg 2)

theorem State.program_spec {w u : State} (hmem : w.mem = u.mem) (o : Nat) (b : List Byte) : (w.program o b).mem =
    u.mem.wrBytes (flashAt o) ((List.zip (u.mem.rdBytes (flashAt o) b.length) b).map (fun p => p.1 ||| ~~~p.2)) := by rw [State.program, hmem]

theorem exec_restartReset {s : State} (h3 : s.start.restart = 3) (hact : s.start.action < 3) (hflash : s.start.flash = none)
    (hvf : s.liveVfs = [] ∨ s.start.stoppingAt + 20 * 1966080 ≤ s.now) : exec .restartReset s = .next s.restarted := by
  have hlate : ¬(s.liveVfs ≠ [] ∧ s.now < s.start.stoppingAt + 20 * 1966080) := by
    rintro ⟨hlive, hnow⟩
    exact hvf.elim hlive (by omega)
  refine if_neg ?_
  rintro (h | h | h | h)
  · exact h h3
  · omega
  · rw [hflash] at h; exact Bool.false_ne_true h
  · exact hlate h

theorem exec_flashDone {s : State} (ok : Bool) (h : s.start.flash ≠ none) : exec (.flashDone ok) s =
    let w := if ok then s else s.flashCut
    .next ({ w with start := { w.start with flash := none } }.setReg Reg.HUB_FLASH_STAT (if ok then 2 else 8)) := by
  refine (if_neg (by simpa using h)).trans ?_
  cases ok with
  | true => rfl
  | false => cases hf : s.flashAlters <;> simp only [State.flashCut, hf] <;> rfl

/-! ### The statement -/

/-- Settles O55: restarts by what a VF's stop leaves of start, the fuses by their condition, the flash by the command begun. -/
theorem restartsAndFlash : Obligations.RestartsAndFlash := by
  unfold Obligations.RestartsAndFlash
  refine ⟨⟨fun s hserved howed hcfg hhub => ?_, fun s => ⟨fun h hat hc => ?_, fun n x h hat hc hx => ?_, fun h => ?_, fun h hoff => ?_, fun h hoff => ?_,
    fun h hact hfl hvf => ?_, fun h => ?_⟩, fun s u k hlive hu => ⟨fun hk hserved => ?_, fun hk => ?_⟩,
    fun s u k hlive hu => ⟨fun hk hserved hown => ?_, fun hk => ?_⟩⟩, fun s u hlive hu => ⟨fun hfree hlen => ?_, fun hfree => ?_⟩,
    fun s u b hlive hu => ⟨fun hfree hlen => ?_, fun hfree => ?_⟩, fun s u hlive hu => ⟨fun hfree => ?_, fun hfree => ?_⟩,
    fun s ok => ⟨fun h => ?_, fun h => ?_⟩, fun s u i hlive hu => ⟨fun hi => ?_, fun hi => ?_⟩⟩
  case refine_1 => exact Gives.intro (if_pos ⟨hserved, howed, hcfg, hhub⟩) ⟨rfl, .setStart ..⟩
  case refine_2 =>
    refine Gives.intro (exec_restartInstant h hat) ?_
    rw [hc]
    rfl
  case refine_3 =>
    refine Gives.intro (exec_restartInstant h hat) ?_
    rw [hc, List.filter_cons_of_pos (by simp [hx])]
    rfl
  case refine_4 => exact Gives.intro (if_pos h) rfl
  case refine_5 =>
    refine Gives.intro (if_neg (by simp only [h, hoff]; decide)) ?_
    obtain ⟨d, hd, hkeep⟩ := stopVfs_redevs (State.setDev { s with start := { s.start with restart := 3, stoppingAt := s.now } } .stopping)
      (State.setDev { s with start := { s.start with restart := 3, stoppingAt := s.now } } .stopping).liveVfs
    have hserve : DevSt.stopping ≠ .serve := by decide
    have hdegraded : DevSt.stopping ≠ .degraded := by decide
    rw [State.setDev_start] at hd hkeep
    rw [hd]
    exact ⟨rfl, rfl, hkeep hserve hdegraded⟩
  case refine_6 => exact Gives.intro (if_pos (.inr hoff)) rfl
  case refine_7 => exact Gives.intro (exec_restartReset h hact hfl hvf) ⟨rfl, rfl, rfl⟩
  case refine_8 => exact Gives.intro (if_pos (h.imp id fun h => .inr (.inl (Option.isSome_iff_ne_none.mpr h)))) rfl
  case refine_9 =>
    refine Gives.intro (congrArg Host.Outcome.next (State.fuseCmd_eq hlive ..)) ?_
    rw [← hu]
    exact if_pos ⟨hk, hserved, rfl⟩
  case refine_10 =>
    refine Gives.intro (congrArg Host.Outcome.next (State.fuseCmd_eq hlive ..)) ?_
    rw [← hu, if_neg (fun h => hk h.1)]
    exact ⟨State.flag_reg _ _ (by decide), rfl⟩
  case refine_11 =>
    refine Gives.intro (congrArg Host.Outcome.next (State.fuseCmd_eq hlive ..)) ?_
    rw [← hu]
    exact if_pos ⟨hk, hserved, congrArg not hown⟩
  case refine_12 =>
    refine Gives.intro (congrArg Host.Outcome.next (State.fuseCmd_eq hlive ..)) ?_
    rw [← hu, if_neg (fun ⟨h, _, ho⟩ => hk.elim (absurd h) fun hown => by simp [hown] at ho)]
    exact ⟨State.flag_reg _ _ (by decide), rfl⟩
  case refine_13 =>
    refine Gives.intro (exec_flashErase hlive hu) ?_
    rw [if_pos hfree]
    exact u.erased_spec hlen
  case refine_15 =>
    refine Gives.intro (exec_flashProgram hlive b hu) ?_
    rw [if_pos hfree]
    have hulive : u.replayed = false := hu ▸ State.logIn_replayed _ _ _ _ _ _ hlive
    obtain ⟨hb, hmem, hstart, hstat⟩ := State.programBytes_spec hulive hlen ((u.flashBusy 2).regBits Reg.HUB_FLASH_HOST 0 48)
    refine ⟨(congrArg Start.flash hstart :), hstat, ?_⟩
    rw [State.program_spec hmem, hb, State.flashBusy_ofs]
  case refine_17 =>
    refine Gives.intro (exec_flashRead hlive hu) ?_
    have hulive : (u.flashBusy 3).replayed = false := (hu ▸ State.logIn_replayed _ _ _ _ _ _ hlive : u.replayed = false)
    rw [if_pos hfree, State.emit_of_live hulive, State.flashBusy_regBits _ _ _ _ (by decide), State.flashBusy_ofs, State.flashBusy_len]
    exact ⟨rfl, u.flashBusy_reg 3, hu ▸ State.logIn_mem ..⟩
  case refine_19 => exact Gives.intro (if_pos (Option.isNone_iff_eq_none.mpr h)) rfl
  case refine_20 =>
    refine Gives.intro (exec_flashDone ok h) ⟨rfl, (State.setReg_reg ..).trans (by cases ok <;> rfl), fun hok => ?_⟩
    rw [hok]
    rfl
  case refine_21 =>
    refine Gives.intro (congrArg Host.Outcome.next (State.bar2_eq _ _ _ _ _ hlive)) ?_
    rw [← hu, if_pos hi]
    exact ⟨State.mrExtend_get .., fun j hj => Tab.get_set_ne _ _ _ hj⟩
  case refine_22 =>
    refine Gives.intro (congrArg Host.Outcome.next (State.bar2_eq _ _ _ _ _ hlive)) ?_
    rw [← hu, if_neg (by omega)]
  case refine_14 => exact Gives.intro (exec_flashErase hlive hu) (flashRefused_spec hu hfree _ rfl)
  case refine_16 => exact Gives.intro (exec_flashProgram hlive b hu) (flashRefused_spec hu hfree _ rfl)
  case refine_18 => exact Gives.intro (exec_flashRead hlive hu) (flashRefused_spec hu hfree _ rfl)

end Sys2Proof.Machine
end

section
/-! PROOFS. Doorbells, and completion records as they are written (R590, R591, R595, R596, R598, R599, R613, R651). -/
namespace Sys2Proof.Machine

/-! ### Doorbells (R590) -/

theorem State.dbErr_dberr (s : State) (f : Nat) : ((s.dbErr f).fn f).dberr = min (2 ^ 16 - 1) ((s.fn f).dberr + 1) := by
  rw [State.dbErr, State.setFn_fn]
  rfl

theorem State.dbErr_qp (s : State) (f q : Nat) : (s.dbErr f).qp f q = s.qp f q := by
  rw [State.qp, State.dbErr, State.setFn_fn]
  rfl

section
variable {s : State} {f q i : Nat} (hf : isFn f = true) (hq : q < 8) (hfn : s.fnOn f = true) (hon : s.qpOn f q = true) (hi : i < 4096)
include hf hq hfn hon hi

theorem exec_sqDoorbell (hlive : s.replayed = false) (entries : List Cmd) : exec (.sqDoorbell f q i entries) s =
    let x := s.qp f q
    let size := x.sqSize + 1
    let more := (i + size - x.sqTail) % size
    .next (if size ≤ i ∨ size ≤ (x.sqTail + size - x.sqReported) % size + more then s.dbErr f
      else (s.setQp f q { x with sqTail := i, sq := x.sq ++ (entries ++ List.replicate more 0).take more }).refuseBad f q 4096) := by
  refine (if_neg (by simpa [hf] using hq)).trans ((if_neg (by simp [hlive])).trans ?_)
  simp only [Nat.mod_eq_of_lt hi, hfn, hon, Bool.not_true, Bool.false_eq_true, false_or]
  exact (apply_ite ..).symm

theorem exec_cqDoorbell : exec (.cqDoorbell f q i) s =
    let x := s.qp f q
    let size := x.cqSize + 1
    let n := (i + size - x.cqHead) % size
    .next (if size ≤ i ∨ (x.cqTail + size - x.cqHead) % size < n then s.dbErr f
      else s.setQp f q { x with cqHead := i, indUse := x.indUse.filter (fun (u : Nat × Nat × Nat) =>
        u.1 == 0 || decide (n ≤ (u.1 - 1 + size - x.cqHead) % size)) }) := by
  refine (if_neg (by simpa [hf] using hq)).trans ?_
  simp only [Nat.mod_eq_of_lt hi, hfn, hon, Bool.not_true, Bool.false_eq_true, false_or]
  exact (apply_ite ..).symm

end

/-! ### Records (R596, R598, R599) -/

section
variable {s : State} {f q : Nat} (hf : isFn f = true) (hq : q < 8)
include hf hq

theorem exec_recordWrite {r : Rec} {rest : List Rec} (hon : s.qpOn f q = true) (hfree : (s.qp f q).cqFree ≠ 0) (hst : (s.qp f q).store = r :: rest) :
    let t := s.setQp f q { s.qp f q with store := rest }
    exec (.recordWrite f q) s = .next (if r.gen = (s.fn f).gen then t.putCq f q r else (t.count Reg.HIF_GEN_DROP 1).hifEvt 4) := by
  have hnext : s.nextRec f q = some (r, s.setQp f q { s.qp f q with store := rest }) := by simp only [State.nextRec, hst]
  have hgen : ((s.setQp f q { s.qp f q with store := rest }).fn f).gen = (s.fn f).gen := by rw [State.setQp, State.setFn_fn]
  change execRecordWrite f q s = _
  rw [execRecordWrite, if_neg (by simpa [hf] using hq), if_neg (by simp [hon, hfree]), hnext]
  simp only [hgen]

theorem exec_recordWrite_full (hfree : (s.qp f q).cqFree = 0) (hlive : s.replayed = false) : exec (.recordWrite f q) s = .next s :=
  (if_neg (by simpa [hf] using hq)).trans (if_pos (by simp [hfree, hlive]))

end

/-- A STATUS record moves the tail of its CQ and leaves; it is no output that the recorder compares (R598, R647). -/
theorem State.putCq_status {s : State} (f q : Nat) {r : Rec} (hk : r.kind = 4) (hlive : s.replayed = false) :
    let x := s.qp f q
    ((s.putCq f q r).qp f q).cqTail = (if x.cqTail = x.cqSize then 0 else x.cqTail + 1) ∧
    ((s.putCq f q r).qp f q).phase = (if x.cqTail = x.cqSize then !x.phase else x.phase) ∧
    (s.putCq f q r).out = s.out ++ [.hostWrite f (x.cqBase.toNat + 32 * x.cqTail) (r.bytes (s.statusWord f) x.phase x.sqHead)] ∧
    (s.putCq f q r).mem = s.mem := by
  intro x
  have hrec (u : State) (ph : Bool) : u.recOut f q r ph = u := by simp only [State.recOut, hk]
  have hemit (y : QPair) (o : Output) : (s.setQp f q y).emit o = { s.setQp f q y with out := s.out ++ [o] } :=
    State.emit_of_live (s := s.setQp f q y) hlive o
  have hqp (y : QPair) (l : List Output) : ({ s.setQp f q y with out := l } : State).qp f q = y := State.setQp_qp ..
  simp only [State.putCq, hrec, hemit, hqp, beq_iff_eq]
  exact ⟨rfl, rfl, rfl, rfl⟩

/-- The fields of a record's 32 bytes (R596). -/
theorem Rec.bytes_spec (r : Rec) (w : BitVec 16) (ph : Bool) (head : Nat) :
    (r.bytes w ph head).length = 32 ∧ byteField (r.bytes w ph head) 0 2 = w.toNat ∧ byteField (r.bytes w ph head) 8 8 = r.ref.toNat ∧
    byteField (r.bytes w ph head) 4 2 = head % 2 ^ 16 ∧ byteField (r.bytes w ph head) 16 16 = r.detail.toNat := by
  let kinds := leBytes 1 r.code ++ leBytes 1 (ph.toNat + r.kind * 2)
  let slot := leBytes 2 (if r.slot = 0xFFFF then 0xFFFF else r.slot % 4096)
  have hhead : r.bytes w ph head = (leBytes 2 w.toNat ++ kinds) ++ (leBytes 2 head ++ (slot ++ (leBytes 8 r.ref.toNat ++ leBytes 16 r.detail.toNat))) := by
    simp only [Rec.bytes, kinds, slot, List.append_assoc]
  have hword : r.bytes w ph head = [] ++ (leBytes 2 w.toNat ++ (kinds ++ (leBytes 2 head ++ (slot ++ (leBytes 8 r.ref.toNat ++ leBytes 16 r.detail.toNat))))) := by
    simp only [hhead, List.append_assoc, List.nil_append]
  have href : r.bytes w ph head = (leBytes 2 w.toNat ++ kinds ++ leBytes 2 head ++ slot) ++ (leBytes 8 r.ref.toNat ++ leBytes 16 r.detail.toNat) := by
    simp only [hhead, List.append_assoc]
  have hdetail : r.bytes w ph head = (leBytes 2 w.toNat ++ kinds ++ leBytes 2 head ++ slot ++ leBytes 8 r.ref.toNat) ++ (leBytes 16 r.detail.toNat ++ []) := by
    simp only [hhead, List.append_assoc, List.append_nil]
  refine ⟨by rw [hhead]; rfl, ?_, ?_, ?_, ?_⟩
  · rw [hword]
    exact (byteField_append_leBytes [] _ 2 _).trans (Nat.mod_eq_of_lt w.isLt)
  · rw [href]
    exact (byteField_append_leBytes (leBytes 2 w.toNat ++ kinds ++ leBytes 2 head ++ slot) _ 8 _).trans (Nat.mod_eq_of_lt r.ref.isLt)
  · rw [hhead]
    exact byteField_append_leBytes (leBytes 2 w.toNat ++ kinds) _ 2 _
  · rw [hdetail]
    exact (byteField_append_leBytes (leBytes 2 w.toNat ++ kinds ++ leBytes 2 head ++ slot ++ leBytes 8 r.ref.toNat) _ 16 _).trans
      (Nat.mod_eq_of_lt r.detail.isLt)

/-- Settles O41: the doorbells by their guards, a record by the entry it takes and the fields of its bytes. -/
theorem queueDoorbells : Obligations.QueueDoorbells := by
  unfold Obligations.QueueDoorbells
  refine ⟨fun s f q i more entries x hf hq hx hlive hfn hon hi => ⟨fun hsz hmore hlen hroom => ?_, fun hsz => ?_, fun hsz hn => ?_, fun hsz => ?_⟩,
    fun s f q r rest hf hq hon hfree hst => ⟨fun hg => ?_, fun hg => ?_⟩, fun s f q hf hq hon hfull hlive => ?_,
    fun s f q r hk hlive => State.putCq_status f q hk hlive, Rec.bytes_spec⟩
  · subst hx hmore
    refine Gives.intro (exec_sqDoorbell hf hq hfn hon hi hlive entries) ?_
    rw [if_neg (by omega), ← hlen, List.take_left]
  · subst hx
    refine Gives.intro (exec_sqDoorbell hf hq hfn hon hi hlive entries) ?_
    rw [if_pos (.inl hsz)]
    exact ⟨s.dbErr_dberr f, congrArg QPair.sqTail (s.dbErr_qp f q)⟩
  · subst hx
    refine Gives.intro (exec_cqDoorbell hf hq hfn hon hi) ?_
    rw [if_neg (by omega), State.setQp_qp]
    exact ⟨rfl, rfl, rfl, rfl⟩
  · subst hx
    refine Gives.intro (exec_cqDoorbell hf hq hfn hon hi) ?_
    rw [if_pos (.inl hsz)]
    exact ⟨s.dbErr_dberr f, congrArg QPair.cqHead (s.dbErr_qp f q)⟩
  · exact Gives.intro (exec_recordWrite hf hq hon hfree hst) (if_pos hg)
  · exact Gives.intro (exec_recordWrite hf hq hon hfree hst) (if_neg hg)
  · exact Gives.intro (exec_recordWrite_full hf hq hfull hlive) rfl

end Sys2Proof.Machine
end

section
/-! PROOFS. Attentions cleared and held, STATUS records, vectors that fire and are unmasked (R602, R603, R605, R606). -/
namespace Sys2Proof.Machine

/-! ### What an update of a function leaves of its queue pairs -/

theorem State.setFn_qp (s : State) (f q : Nat) (x : Fn) : (s.setFn f x).qp f q = x.qs.get {} q := by rw [State.qp, State.setFn_fn]

/-! ### STATUS records (R602) -/

/-- Outside the hold a STATUS record is owed at once, and the hold begins anew. -/
theorem State.statusNote_posts {s : State} {f : Nat} {x : Fn} (hx : x = s.fn f) (hon : s.qpOn f x.attnCq = true)
    (hold : ∀ t0, x.lastStatus = some t0 → t0 + usTc x.attnHold ≤ s.now) :
    let y := { x with lastStatus := some s.now, held := false }
    let p := s.qp f x.attnCq
    s.statusNote f = (s.setFn f y).setFn f { y with qs := x.qs.set x.attnCq { p with store := p.store ++
      [{ code := 0, kind := 4, slot := 0xFFFF, ref := 0, detail := BitVec.ofNat 128 x.attn.toNat, gen := x.gen }] } } := by
  subst hx
  intro y p
  have hpost (r : Rec) : (s.setFn f y).post f (s.fn f).attnCq r = (s.setFn f y).setFn f { y with qs := (s.fn f).qs.set (s.fn f).attnCq { p with store := p.store ++ [r] } } := by
    have hqp : (s.setFn f y).qp f (s.fn f).attnCq = p := by rw [State.setFn_qp]; rfl
    rw [State.post, if_pos (by rw [State.qpOn, hqp, ← State.qpOn, hon]), State.setQp, State.setFn_fn, hqp]
  unfold State.statusNote
  rw [if_neg (by simp [hon]), hpost]
  refine if_neg ?_
  cases h : (s.fn f).lastStatus with
  | none => simp
  | some t0 => simpa using hold t0 h

/-! ### Vectors (R605, R606) -/

/-- A vector that fires: its cause goes, and the message leaves or waits behind the mask. -/
theorem State.fireVec_spec (s : State) (f q : Nat) :
    let x : QPair := { s.qp f q with since := 0, oldest := none, fire := false }
    ((s.fn f).masked.getLsbD q = false → s.replayed = false → s.fireVec f q = { s.setQp f q x with out := s.out ++ [.msix f q] }) ∧
    ((s.fn f).masked.getLsbD q = true → s.fireVec f q =
      (s.setQp f q x).setFn f { (s.setQp f q x).fn f with pending := (s.fn f).pending ||| BitVec.ofNat 8 (2 ^ q) }) := by
  intro x
  have hfn : ((s.setQp f q x).fn f).masked = (s.fn f).masked ∧ ((s.setQp f q x).fn f).pending = (s.fn f).pending := by
    rw [State.setQp, State.setFn_fn]; exact ⟨rfl, rfl⟩
  refine ⟨fun hm hlive => ?_, fun hm => ?_⟩
  · exact (if_neg (by rw [hfn.1, hm]; exact Bool.false_ne_true)).trans (State.emit_of_live (s := s.setQp f q x) hlive _)
  · exact (if_pos (by rw [hfn.1, hm])).trans (by rw [← hfn.2])

/-- The bit of a vector is off in a mask without it. -/
theorem getLsbD_and_not_bit (m : BitVec 8) {q : Nat} (hq : q < 8) : (m &&& ~~~ BitVec.ofNat 8 (2 ^ q)).getLsbD q = false := by
  rw [BitVec.getLsbD_and, BitVec.getLsbD_not, BitVec.getLsbD_ofNat, Nat.testBit_two_pow_self]
  simp [hq]

/-- A vector unmasked with its pending bit set sends its message. -/
theorem State.unmask_spec {u : State} (hlive : u.replayed = false) {f q : Nat} (hq : q < 8) (hpend : (u.fn f).pending.getLsbD q = true) :
    ((u.unmask f q).fn f).masked.getLsbD q = false ∧ ((u.unmask f q).fn f).pending.getLsbD q = false ∧
      (u.unmask f q).out = u.out ++ [.msix f q] := by
  unfold State.unmask
  extract_lets x m w
  rw [if_pos hpend, State.emit_of_live (s := w) hlive]
  have hfn : w.fn f = { x with masked := x.masked &&& m, pending := x.pending &&& m } := State.setFn_fn ..
  refine ⟨?_, ?_, rfl⟩
  · exact (congrArg (fun y : Fn => y.masked.getLsbD q) hfn).trans (getLsbD_and_not_bit _ hq)
  · exact (congrArg (fun y : Fn => y.pending.getLsbD q) hfn).trans (getLsbD_and_not_bit _ hq)

section
variable {s : State} {f : Nat} (hf : isFn f = true)
include hf

theorem exec_attnClear (hon : s.fnOn f = true) (mask : Nat) :
    exec (.attnClear f mask) s = .next (s.page0 f 0x10 8 (mask % 256) (fun (u : State) => u.attnClear f mask)) :=
  (if_neg (by simp [hf])).trans (if_neg (by simp [hon]))

theorem exec_attnHoldExpiry {t0 : Nat} (hlast : (s.fn f).lastStatus = some t0) : exec (.attnHoldExpiry f) s =
    .next (if (s.fn f).held ∧ t0 + usTc (s.fn f).attnHold ≤ s.now then (s.setFn f { s.fn f with held := false }).statusNote f else s) := by
  refine (if_neg (by simp [hf])).trans ?_
  simp only [hlast]

theorem exec_msixFire {q : Nat} (hq : q < 8) : exec (.msixFire f q) s = .next (if s.vecDue f q then s.fireVec f q else s) :=
  if_neg (by simpa [hf] using hq)

theorem exec_msixUnmask {q : Nat} (hq : q < 8) (hon : s.fnOn f = true) :
    exec (.msixUnmask f q) s = .next (s.page0 f (0x200C + 16 * q) 4 0 (fun (u : State) => u.unmask f q)) :=
  (if_neg (by simpa [hf] using hq)).trans (if_neg (by simp [hon]))

end

/-- Settles O42: the two writes act on the logged state; a STATUS record and a vector by their conditions. -/
theorem attentionsAndVectors : Obligations.AttentionsAndVectors := by
  unfold Obligations.AttentionsAndVectors
  refine ⟨fun s f mask u hf hon hu => ?_, fun s f t0 hf hlast => ⟨fun hheld hlate => ?_, fun hheld => ?_⟩, fun s f x hx hon hold => ?_,
    fun s f q hf hq => ⟨fun hdue hm hlive => ?_, fun hdue hm => ?_, fun hdue => ?_, fun u hon hu hpend hlive => ?_⟩⟩
  · refine Gives.intro (exec_attnClear hf hon mask) ?_
    rw [State.page0, ← hu, State.attnClear, State.setFn_fn]
    exact ⟨rfl, rfl, hu ▸ State.logIn_mem ..⟩
  · have hexec := exec_attnHoldExpiry hf hlast
    rw [if_pos ⟨hheld, hlate⟩] at hexec
    exact Gives.intro hexec rfl
  · have hexec := exec_attnHoldExpiry hf hlast
    rw [if_neg (by simp [hheld])] at hexec
    exact Gives.intro hexec rfl
  · rw [State.statusNote_posts hx hon hold, State.setFn_qp, State.setFn_fn, Tab.get_set_self]
    exact ⟨rfl, rfl, rfl⟩
  · refine Gives.intro (exec_msixFire hf hq) ?_
    have hqp (y : QPair) (l : List Output) : ({ s.setQp f q y with out := l } : State).qp f q = y := State.setQp_qp ..
    rw [if_pos hdue, (s.fireVec_spec f q).1 hm hlive, hqp]
    exact ⟨rfl, rfl, rfl, rfl⟩
  · refine Gives.intro (exec_msixFire hf hq) ?_
    rw [if_pos hdue, (s.fireVec_spec f q).2 hm, State.setFn_fn]
    exact ⟨rfl, rfl⟩
  · exact Gives.intro (exec_msixFire hf hq) (if_neg (by simp [hdue]))
  · refine Gives.intro (exec_msixUnmask hf hq hon) ?_
    rw [State.page0, ← hu]
    exact State.unmask_spec (u := { u with rpl := { u.rpl with untouched := u.rpl.untouched && f == pf0 } }) hlive hq hpend

end Sys2Proof.Machine
end

section
/-! PROOFS. Enables of queue pairs, and the eight commands of `HIF_FCTL` (R528, R607, R609, R624, R676). -/
namespace Sys2Proof.Machine

/-! ### Queue pairs (R607, R609) -/

/-- The state in which a write of a function page acts (R641, R649). -/
def State.pageNoted (u : State) (f : Nat) : State := { u with rpl := { u.rpl with untouched := u.rpl.untouched && f == pf0 } }

section
variable {s u : State} {f q : Nat} (hf : isFn f = true) (hq : q < 8)
include hf hq

theorem exec_queuePairEnable (hon : s.fnOn f = true)
    (hu : u = s.logIn 5 0x04 f (BitVec.ofNat 64 (0x110 + 0x40 * q)) (leBytes 8 ((s.qp f q).cfgWord true))) :
    exec (.queuePairEnable f q) s = .next ((u.pageNoted f).qpEnable f q) := by
  subst hu
  exact (if_neg (by simpa [hf] using hq)).trans (if_neg (by simp [hon]))

theorem exec_queuePairDisable (hon : s.fnOn f = true)
    (hu : u = s.logIn 5 0x04 f (BitVec.ofNat 64 (0x110 + 0x40 * q)) (leBytes 8 ((s.qp f q).cfgWord false))) :
    exec (.queuePairDisable f q) s = .next ((u.pageNoted f).qpDisable f q) := by
  subst hu
  exact (if_neg (by simpa [hf] using hq)).trans (if_neg (by simp [hon]))

theorem exec_queuePairOff : exec (.queuePairOff f q) s = if (s.qp f q).en.st ≠ .stopping then .next s
    else .next (if (s.qp f q).en.pend then (s.setQp f q { s.qp f q with en := {} }).qpStart f q else s.setQp f q { s.qp f q with en := {} }) :=
  if_neg (by simpa [hf] using hq)

end

section
variable (s : State) (f q : Nat)

/-- A pair whose bases and sizes hold goes ON with empty rings (R598, R609). -/
theorem State.qpStart_valid (hval : s.qpValid f q = true) (hon : s.fnOn f = true) (hdev : s.start.dev = .serve ∨ s.start.dev = .degraded) :
    let t := s.qpStart f q
    t.qpOn f q = true ∧ (t.qp f q).err = false ∧ (t.qp f q).sqHead = 0 ∧ (t.qp f q).sqTail = 0 ∧ (t.qp f q).cqHead = 0 ∧ (t.qp f q).cqTail = 0 ∧
      (t.qp f q).phase = true ∧ (t.qp f q).store = [] ∧ t.mem = s.mem := by
  dsimp only
  rw [State.qpStart, if_pos (by simpa [hval, hon] using hdev)]
  simp only [State.qpOn, State.setQp_qp, beq_self_eq_true, true_and]
  rfl

theorem State.qpStart_invalid (hval : s.qpValid f q = false) : ((s.qpStart f q).qp f q).en = {} ∧ ((s.qpStart f q).qp f q).err = true := by
  rw [State.qpStart, if_neg (by simp [hval]), State.setQp_qp]
  exact ⟨rfl, rfl⟩

/-- A pair whose records are dropped keeps the rest of what it was. -/
theorem State.dropRecs_qp : (s.dropRecs f q).2.qp f q = { s.qp f q with store := [] } := State.setQp_qp ..

theorem State.qpEnable_off (h : (s.qp f q).en.st = .off) : s.qpEnable f q = s.qpStart f q := by simp only [State.qpEnable, h]

theorem State.qpEnable_stopping (h : (s.qp f q).en.st = .stopping) : ((s.qpEnable f q).qp f q).en = { st := .stopping, pend := true } := by
  simp only [State.qpEnable, h, State.setQp_qp]

theorem State.qpDisable_on (h : (s.qp f q).en.st = .on) :
    ((s.qpDisable f q).qp f q).en = { st := .stopping } ∧ ((s.qpDisable f q).qp f q).sq = [] ∧ ((s.qpDisable f q).qp f q).store = [] := by
  have hqp : (s.qpDisable f q).qp f q = { s.qp f q with en := { st := .stopping }, sq := [], store := [] } := by
    simp only [State.qpDisable, h]
    exact (State.dropRecs_qp _ f q).trans (by rw [State.setQp_qp])
  rw [hqp]
  exact ⟨rfl, rfl, rfl⟩

theorem State.qpDisable_stopping (h : (s.qp f q).en.st = .stopping) : ((s.qpDisable f q).qp f q).en = { st := .stopping, pend := false } := by
  simp only [State.qpDisable, h, State.setQp_qp]

end

/-! ### HIF_FCTL (R609, R624) -/

/-- What a command of `HIF_FCTL` shows in `HIF_FSTATE`: its target, and that it is not refused. -/
def State.shown (s : State) (kind k : Nat) : State := { s with host := { s.host with fsel := (kind, k), frej := false } }

/-- What a command that is refused shows, with its event. -/
def State.refusedFctl (s : State) (kind k : Nat) : State := { s with host := { s.host with fsel := (kind, k), frej := true } }.hifEvt 1

section
variable {s u : State} {k : Nat} (hlive : s.replayed = false)
include hlive

theorem State.fctl_eq (kind : Nat) (en : Bool) (f : State → Bool × State)
    (hu : u = s.logIn 5 0x04 pf0 (BitVec.ofNat 64 (Reg.HIF_FCTL + 2 * 2 ^ 48)) (leBytes 4 (en.toNat + kind * 2 + k * 2 ^ 16))) :
    s.fctl kind k en f = if (f u).1 then (f u).2.refusedFctl kind k else (f u).2.shown kind k := by
  rw [State.fctl, State.bar2_eq _ _ _ _ _ hlive, ← hu]
  cases h : (f u).1
  · simp only [h]; rfl
  · simp only [h]; rfl

theorem exec_fctlVfEnable (hk : k < 1024)
    (hu : u = s.logIn 5 0x04 pf0 (BitVec.ofNat 64 (Reg.HIF_FCTL + 2 * 2 ^ 48)) (leBytes 4 (1 + 1 * 2 + k * 2 ^ 16))) :
    exec (.fctlVfEnable k) s = .next ((u.vfEnable k).shown 1 k) :=
  (if_neg (Nat.not_le.mpr hk)).trans (congrArg Host.Outcome.next (State.fctl_eq hlive 1 true _ hu))

theorem exec_fctlVfDisable (hk : k < 1024)
    (hu : u = s.logIn 5 0x04 pf0 (BitVec.ofNat 64 (Reg.HIF_FCTL + 2 * 2 ^ 48)) (leBytes 4 (0 + 1 * 2 + k * 2 ^ 16))) :
    exec (.fctlVfDisable k) s = .next ((u.vfDisable k false).shown 1 k) :=
  (if_neg (Nat.not_le.mpr hk)).trans (congrArg Host.Outcome.next (State.fctl_eq hlive 1 false _ hu))

theorem exec_fctlUnitEnable (hunit : isUnit k = true) (hk : k < 0x10000)
    (hu : u = s.logIn 5 0x04 pf0 (BitVec.ofNat 64 (Reg.HIF_FCTL + 2 * 2 ^ 48)) (leBytes 4 (1 + 2 * 2 + k * 2 ^ 16))) :
    exec (.fctlUnitEnable k) s = .next ((u.unitEnable k).shown 2 k) :=
  (if_neg (by simpa [hunit] using hk)).trans (congrArg Host.Outcome.next (State.fctl_eq hlive 2 true _ hu))

theorem exec_fctlUnitDisable (hunit : isUnit k = true) (hk : k < 0x10000)
    (hu : u = s.logIn 5 0x04 pf0 (BitVec.ofNat 64 (Reg.HIF_FCTL + 2 * 2 ^ 48)) (leBytes 4 (0 + 2 * 2 + k * 2 ^ 16))) :
    exec (.fctlUnitDisable k) s = .next (if u.unitHeld k then u.refusedFctl 2 k else (u.unitDisable k).shown 2 k) := by
  refine (if_neg (by simpa [hunit] using hk)).trans (congrArg Host.Outcome.next ((State.fctl_eq hlive 2 false _ hu).trans ?_))
  split <;> rfl

theorem exec_fctlFhPortEnable (hk : k < 16)
    (hu : u = s.logIn 5 0x04 pf0 (BitVec.ofNat 64 (Reg.HIF_FCTL + 2 * 2 ^ 48)) (leBytes 4 (1 + 3 * 2 + k * 2 ^ 16))) :
    exec (.fctlFhPortEnable k) s = .next ((u.fhEnable k).shown 3 k) :=
  (if_neg (Nat.not_le.mpr hk)).trans (congrArg Host.Outcome.next (State.fctl_eq hlive 3 true _ hu))

theorem exec_fctlFhPortDisable (hk : k < 16)
    (hu : u = s.logIn 5 0x04 pf0 (BitVec.ofNat 64 (Reg.HIF_FCTL + 2 * 2 ^ 48)) (leBytes 4 (0 + 3 * 2 + k * 2 ^ 16))) :
    exec (.fctlFhPortDisable k) s = .next (if u.fhHeld k then u.refusedFctl 3 k else (u.fhDisable k).shown 3 k) := by
  refine (if_neg (Nat.not_le.mpr hk)).trans (congrArg Host.Outcome.next ((State.fctl_eq hlive 3 false _ hu).trans ?_))
  split <;> rfl

theorem exec_fctlFabPortEnable (hk : k < 3)
    (hu : u = s.logIn 5 0x04 pf0 (BitVec.ofNat 64 (Reg.HIF_FCTL + 2 * 2 ^ 48)) (leBytes 4 (1 + 4 * 2 + k * 2 ^ 16))) :
    exec (.fctlFabPortEnable k) s = .next ((u.fabEnable k).shown 4 k) :=
  (if_neg (Nat.not_le.mpr hk)).trans (congrArg Host.Outcome.next (State.fctl_eq hlive 4 true _ hu))

theorem exec_fctlFabPortDisable (hk : k < 3)
    (hu : u = s.logIn 5 0x04 pf0 (BitVec.ofNat 64 (Reg.HIF_FCTL + 2 * 2 ^ 48)) (leBytes 4 (0 + 4 * 2 + k * 2 ^ 16))) :
    exec (.fctlFabPortDisable k) s = .next ((u.fabDisable k).shown 4 k) :=
  (if_neg (Nat.not_le.mpr hk)).trans (congrArg Host.Outcome.next (State.fctl_eq hlive 4 false _ hu))

end

/-! ### VFs, units and ports under the common state machine (R528, R607, R609, R674, R676) -/

section
variable (u : State) (k : Nat)

theorem State.vfEnable_off (hoff : (u.fn k).en.st = .off) (hk : k < u.regBits Reg.HIF_CFG 0 11) (hserved : u.start.served = true)
    (hhalt : u.start.haltTenants = false) : (u.vfEnable k).fn k = { en := { st := .on }, gen := (u.fn k).gen } := by
  simp only [State.vfEnable, hoff]
  rw [State.vfStart, if_neg (by omega)]
  rw [hserved, hhalt]
  exact State.setFn_fn ..

theorem State.vfEnable_stopping (h : (u.fn k).en.st = .stopping) : ((u.vfEnable k).fn k).en = { st := .stopping, pend := true } := by
  simp only [State.vfEnable, h, State.setFn_fn]

theorem State.setUnit_settle_starting {x : UnitSt} (hok : u.scoreOk k = true) :
    (((u.setUnit k { x with en := { st := .starting } }).settleUnit k).unit k) = { x with en := { st := .on } } := by
  have hscore (y : UnitSt) : (u.setUnit k y).scoreOk k = true := hok
  simp only [State.settleUnit, State.setUnit_unit, hscore, if_true, Bool.false_eq_true, if_false]

theorem State.unitEnable_off (hoff : (u.unit k).en.st = .off) (hkind : (u.health.quar.get {} k).kind = 0) (himg : (u.health.quar.get {} k).image = false)
    (hok : u.scoreOk k = true) : (u.unitEnable k).unit k = { u.unit k with en := { st := .on } } := by
  have hquar : ¬(((u.health.quar.get {} k).kind = 1 ∨ (u.health.quar.get {} k).image = true) ∧ (!(u.health.quar.get {} k).waits) = true ∧
      (u.unit k).en.st ≠ .stopping) := by simp [hkind, himg]
  rw [State.unitEnable, if_neg hquar]
  simp only [hoff]
  exact State.setUnit_settle_starting u k hok

theorem State.unitDisable_on (hon : (u.unit k).en.st = .on) : (u.unitDisable k).unit k =
    { u.unit k with en := if (u.unit k).run.isSome then { st := .stopping } else {} } := by
  simp only [State.unitDisable, hon, State.settleUnit, State.setUnit_unit]
  split <;> simp [State.setUnit_unit, *]

theorem State.fhEnable_off (h : (u.host.ports.get {} k).st = .off) :
    (u.fhEnable k).host.ports.get {} k = { st := if (u.front.link.get (false, false) k).1 then .on else .starting } := by
  simp only [State.fhEnable, h]
  exact Tab.get_set_self ..

theorem State.fhDisable_on (h : (u.host.ports.get {} k).st = .on) : (u.fhDisable k).host.ports.get {} k = {} := by
  simp only [State.fhDisable, h]
  exact Tab.get_set_self ..

theorem State.fabEnable_off (h : (u.host.ports.get {} (16 + k)).st = .off) (hq : u.quarHard (0xD000 + k) = false) :
    (u.fabEnable k).host.ports.get {} (16 + k) = { st := .starting } := by
  simp only [State.fabEnable, h, hq, Bool.false_eq_true, if_false]
  exact Tab.get_set_self ..

/-- A plane lost while no request is in flight: its port alone changes, and the flits that wait for it go. -/
theorem State.losePlane_of_idle (p : Nat) (l : LinkSt) (h : u.fab.reqs = []) : u.losePlane p l =
    (u.setPort p { u.port p with link := l, held := [], replayLeft := 0, naked := false, txSeq := 0, rxSeq := 0 }).dropFlits p := by
  have hreqs (x : FabPort) : ((u.setPort p x).dropFlits p).fab.reqs = [] := h
  rw [State.losePlane, State.loseReqs, hreqs]
  rfl

theorem State.setPort_port (p : Nat) (x : FabPort) : (u.setPort p x).port p = x := Tab.get_set_self ..

theorem State.fabDisable_on (h : (u.host.ports.get {} (16 + k)).st = .on) (hreqs : u.fab.reqs = []) :
    (u.fabDisable k).host.ports.get {} (16 + k) = {} ∧ ((u.fabDisable k).port k).link = .down ∧ ((u.fabDisable k).port k).held = [] := by
  have hport (w : State) (x : FabPort) : ((w.setPort k x).dropFlits k).port k = x := w.setPort_port k x
  simp only [State.fabDisable, h]
  rw [State.losePlane_of_idle _ _ _ (by exact hreqs), hport]
  exact ⟨Tab.get_set_self .., rfl, rfl⟩

end

/-! ### The statement -/

/-- Settles O44: each command by what it does to its own pair, function, unit or port. -/
theorem queuePairsAndEnables : Obligations.QueuePairsAndEnables := by
  unfold Obligations.QueuePairsAndEnables
  refine ⟨fun s f q hf hq => ⟨fun u hon hu => ⟨fun hoff hval hfn hdev => ?_, fun hoff hval => ?_, fun hst => ?_⟩,
    fun u hon hu => ⟨fun hst => ?_, fun hst => ?_⟩, fun hst hpend => ?_, fun hst hpend => ?_, fun hst => ?_⟩,
    fun s k hlive => ⟨fun u hu hk => ⟨fun hoff hlow hserved hhalt => ?_, fun hst => ?_⟩, fun u hu hk => ⟨fun hst => ?_, fun hst => ?_⟩,
      fun u hu hunit hk hoff hkind himg hok => ?_, fun u hu hunit hk => ⟨fun hheld => ?_, fun hheld hon hrun => ?_, fun r hheld hon hrun => ?_⟩,
      fun u hu hk hoff => ?_, fun u hu hk => ⟨fun hheld => ?_, fun hheld hon => ?_⟩, fun u hu hk hoff hquar => ?_, fun u hu hk hon hreqs => ?_⟩⟩
  · refine Gives.intro (exec_queuePairEnable hf hq hon hu) ?_
    have hmem : (u.pageNoted f).mem = s.mem := hu ▸ State.logIn_mem ..
    rw [State.qpEnable_off (u.pageNoted f) f q hoff, ← hmem]
    exact State.qpStart_valid (u.pageNoted f) f q hval hfn hdev
  · refine Gives.intro (exec_queuePairEnable hf hq hon hu) ?_
    rw [State.qpEnable_off (u.pageNoted f) f q hoff]
    exact State.qpStart_invalid (u.pageNoted f) f q hval
  · exact Gives.intro (exec_queuePairEnable hf hq hon hu) (State.qpEnable_stopping (u.pageNoted f) f q hst)
  · exact Gives.intro (exec_queuePairDisable hf hq hon hu) (State.qpDisable_on (u.pageNoted f) f q hst)
  · exact Gives.intro (exec_queuePairDisable hf hq hon hu) (State.qpDisable_stopping (u.pageNoted f) f q hst)
  · exact Gives.intro ((exec_queuePairOff hf hq).trans (if_neg (not_not.mpr hst))) (if_neg (by simp [hpend]))
  · exact Gives.intro ((exec_queuePairOff hf hq).trans (if_neg (not_not.mpr hst))) (if_pos hpend)
  · exact Gives.intro ((exec_queuePairOff hf hq).trans (if_pos hst)) rfl
  · have hfn := u.vfEnable_off k hoff hlow hserved hhalt
    exact Gives.intro (exec_fctlVfEnable hlive hk hu) ⟨congrArg Fn.en hfn, (congrArg Fn.gen hfn :), rfl, rfl⟩
  · exact Gives.intro (exec_fctlVfEnable hlive hk hu) (u.vfEnable_stopping k hst)
  · refine Gives.intro (exec_fctlVfDisable hlive hk hu) ?_
    simp only [State.vfDisable, hst]
    rfl
  · refine Gives.intro (exec_fctlVfDisable hlive hk hu) ?_
    simp only [State.vfDisable, hst]
    exact ⟨rfl, rfl⟩
  · have hon := u.unitEnable_off k hoff hkind himg hok
    exact Gives.intro (exec_fctlUnitEnable hlive hunit hk hu) ⟨congrArg UnitSt.en hon, (congrArg UnitSt.run hon :), rfl⟩
  · exact Gives.intro (exec_fctlUnitDisable hlive hunit hk hu) (if_pos hheld)
  · refine Gives.intro (exec_fctlUnitDisable hlive hunit hk hu) ?_
    have hoff := u.unitDisable_on k hon
    rw [hrun] at hoff
    rw [if_neg (by simp [hheld])]
    exact ⟨congrArg UnitSt.en hoff, rfl⟩
  · refine Gives.intro (exec_fctlUnitDisable hlive hunit hk hu) ?_
    have hst := u.unitDisable_on k hon
    rw [hrun] at hst
    rw [if_neg (by simp [hheld])]
    exact ⟨congrArg UnitSt.en hst, (congrArg UnitSt.run hst).trans hrun⟩
  · exact Gives.intro (exec_fctlFhPortEnable hlive hk hu) ⟨u.fhEnable_off k hoff, rfl⟩
  · exact Gives.intro (exec_fctlFhPortDisable hlive hk hu) (if_pos hheld)
  · refine Gives.intro (exec_fctlFhPortDisable hlive hk hu) ?_
    rw [if_neg (by simp [hheld])]
    exact ⟨u.fhDisable_on k hon, rfl⟩
  · exact Gives.intro (exec_fctlFabPortEnable hlive hk hu) ⟨u.fabEnable_off k hoff hquar, rfl⟩
  · exact Gives.intro (exec_fctlFabPortDisable hlive hk hu) (u.fabDisable_on k hon hreqs)

end Sys2Proof.Machine
end

section
/-! PROOFS. Virtual functions, apertures, the accounting boundary (R586, R588, R607, R610 to R612, R614, R618, R619, R641, R711). -/
namespace Sys2Proof.Machine

/-! ### Operations that leave storage -/

/-- Every part but storage. -/
abbrev notMem : List Part :=
  [.time, .lists, .cyclic, .ctxs, .units, .fns, .vfs, .ports, .acct, .mat, .inf, .chm, .radio, .front, .tiers, .fab, .rpl, .health, .start, .power,
   .regs, .latch, .out, .drawn, .pending]

theorem Stays.mem_eq {s t : State} (h : Stays notMem s t) : t.mem = s.mem := h.only.same .mem (by decide)

section
variable (s : State)

theorem State.stopMigs_mem (v : Nat) : (s.stopMigs v).mem = s.mem := by
  have head := Has.head
  have tail := Has.tail
  exact (State.stopMigs_stays (ps := notMem) _ _ (.refl _ s)).mem_eq

theorem State.dropPages_mem (v : Nat) : (s.dropPages v).mem = s.mem := by
  have head := Has.head
  have tail := Has.tail
  exact (State.dropPages_stays (ps := notMem) _ _ (.refl _ s)).mem_eq

theorem State.dropFnRecs_mem (v : Nat) : (s.dropFnRecs v).mem = s.mem := by
  have head := Has.head
  have tail := Has.tail
  exact (State.dropFnRecs_stays (ps := notMem) _ _ (.refl _ s)).mem_eq

/-! ### VFs (R607, R610 to R612) -/

theorem State.vfDisable_on {v : Nat} (flr : Bool) (h : (s.fn v).en.st = .on) : s.vfDisable v flr = s.vfStop v flr := by
  simp only [State.vfDisable, h]

theorem State.vfDisable_stopping {v : Nat} (flr : Bool) (h : (s.fn v).en.st = .stopping) :
    s.vfDisable v flr = s.setFn v { s.fn v with en := { st := .stopping, pend := false } } := by
  simp only [State.vfDisable, h]

/-- Without work to end, a VF that stops changes its own record only (R610, R612). -/
theorem State.vfStop_fn {v : Nat} (hmodels : s.inf.models = []) (hctxs : s.tenantCtxs v = []) :
    ((s.vfStop v false).fn v).en = { st := .stopping } ∧ ((s.vfStop v false).fn v).gen = ((s.fn v).gen + 1) % 256 := by
  unfold State.vfStop
  extract_lets x t u
  have ht : t.inf.models = [] := hmodels
  have hdrop (w : State) (l : List Nat) (hw : w.inf.models = []) : l.foldl (fun (w : State) n => w.dropModel v n 6 0) w = w := by
    induction l with
    | nil => rfl
    | cons n l ih => rw [List.foldl_cons, State.dropModel, State.model, hw, Tab.find_nil]; exact ih
  have hu : u = t := hdrop t _ ht
  have hfn : (u.reapSteps).fn v = t.fn v := by
    rw [hu]
    exact congrArg (Tab.get · {} v) ((State.reapSteps_of_no_models ht).same .fns (by decide))
  have hnone : t.tenantCtxs v = [] := hctxs
  rw [hu, hnone, List.foldl_nil, ← hu, hfn, State.setFn_fn]
  exact ⟨rfl, rfl⟩

/-- The work of a stopping VF has ended: its page is reset but for its generation (R612). -/
theorem exec_vfStopComplete {v : Nat} (hv : v < 1024) (hst : (s.fn v).en.st = .stopping) (hpend : (s.fn v).en.pend = false) (hdone : s.vfDone v = true) :
    exec (.vfStopComplete v) s = .next ((((s.stopMigs v).dropPages v).dropFnRecs v).setFn v { gen := (s.fn v).gen }) := by
  refine (if_neg (Nat.not_le.mpr hv)).trans ((if_neg (by simp [hst, hdone])).trans (congrArg Host.Outcome.next (if_neg ?_)))
  rw [hpend]
  exact Bool.false_ne_true

/-! ### SR-IOV and FLR (R586, R611, R614) -/

variable {s}

/-- The package with another number of VFs. -/
def State.renumbered (s : State) (n : Nat) : State := { s with host := { s.host with numVfs := n } }

theorem exec_numvfsWrite {n : Nat} (hn : n ≤ s.totalVfs) (hvf : s.host.vfEnable = false) (hrec : s.rpl.st ≠ .recording) :
    exec (.numvfsWrite n) s = .next (s.renumbered n) := by
  have hlog : (s.renumbered n).logCtl pf0 4 = s.renumbered n := if_neg hrec
  have hnone : (s.renumbered n).liveVfs.filter (fun v => decide (n ≤ v) && (s.renumbered n).host.vfEnable) = [] := by
    rw [List.filter_eq_nil_iff]
    intro v _
    simp [State.renumbered, hvf]
  refine (if_neg (Nat.not_lt.mpr hn)).trans (congrArg Host.Outcome.next ?_)
  change (let w := (s.renumbered n).logCtl pf0 4
    (w.liveVfs.filter (fun v => decide (n ≤ v) && w.host.vfEnable)).foldl (fun (u : State) v => u.vfDisable v false) w) = _
  rw [hlog]
  exact congrArg (List.foldl _ _) hnone

theorem exec_flr_vf {u : State} {v : Nat} (hv : v < 1024) (hu : u = s.logIn 5 0x05 v (BitVec.ofNat 64 (3 + s.host.numVfs * 2 ^ 16)) []) :
    exec (.flr v) s = .next (if ((u.fn v).en.st == .on) = true then ((u.vfDisable v true).vfEnable v).hifEvt 2 else (u.vfDisable v true).vfEnable v) := by
  have hfn : isFn v = true := by simp [isFn, hv]
  have hpf : v ≠ pf0 := by unfold pf0; omega
  subst hu
  exact (if_neg (by simp [hfn])).trans (if_neg hpf)

theorem exec_flr_pf {u : State} (hu : u = s.logIn 5 0x05 pf0 (BitVec.ofNat 64 (3 + s.host.numVfs * 2 ^ 16)) []) :
    exec (.flr pf0) s = .next ((List.range 8).foldl (fun (w : State) q => w.qpDisable pf0 q) u) := by
  subst hu
  rfl

theorem exec_vfEnableSet {u : State} (hu : u = s.logIn 5 0x05 pf0 (BitVec.ofNat 64 (1 + s.host.numVfs * 2 ^ 16)) []) : exec .vfEnableSet s =
    .next (if u.host.vfEnable then u
      else (List.range u.host.numVfs).foldl (fun (w : State) v => w.vfEnable v) { u with host := { u.host with vfEnable := true } }) := by
  subst hu
  exact (apply_ite ..).symm

theorem exec_vfEnableClear {u : State} (hu : u = s.logIn 5 0x05 pf0 (BitVec.ofNat 64 (2 + s.host.numVfs * 2 ^ 16)) []) : exec .vfEnableClear s =
    .next (u.liveVfs.foldl (fun (w : State) v => w.vfDisable v false) { u with host := { u.host with vfEnable := false } }) := by
  subst hu
  rfl

/-! ### Apertures (R588) -/

/-- A poisoned completion that a host's read returns leaves during a replay too (R651). -/
theorem State.emit_readPoison (f : Nat) : s.emit (.readPoison f) = { s with out := s.out ++ [.readPoison f] } := by
  simp [State.emit, Output.held]

theorem State.apErr_aperr (f : Nat) : ((s.apErr f).fn f).aperr = min (2 ^ 16 - 1) ((s.fn f).aperr + 1) := by
  rw [State.apErr, State.setFn_fn]
  rfl

section
variable {f ofs : Nat} (hf : isFn f = true)
include hf

theorem exec_apertureRead_refused {len : Nat} (hsz : ofs + len ≤ apSize f) (hsp : s.apSpans f (s.apAddr f ofs) len false = none) :
    exec (.apertureRead f ofs len) s = .next ((s.apErr f).emit (.readData f (List.replicate len 0))) := by
  refine (if_neg (by simpa [hf] using hsz)).trans ?_
  simp only [hsp]

theorem exec_apertureRead {len : Nat} {sp : List Span} {u : State} {bad : Bool} (hsz : ofs + len ≤ apSize f)
    (hsp : s.apSpans f (s.apAddr f ofs) len false = some sp) (hrd : s.readSpans sp (if f = pf0 then 0x7FF else f) = (bad, u)) :
    exec (.apertureRead f ofs len) s =
      let w := u.countHost f (s.apAddr f ofs) len false
      .next (w.emit (if bad then .readPoison f else .readData f (w.rdSpans sp))) := by
  refine (if_neg (by simpa [hf] using hsz)).trans ?_
  simp only [hsp, hrd]

theorem exec_apertureWrite {u : State} {b : List Byte} (hsz : ofs + b.length ≤ apSize f)
    (hu : u = s.logIn 5 0x04 f (BitVec.ofNat 64 (ofs + (if f = pf0 then 4 else 2) * 2 ^ 48)) b) : exec (.apertureWrite f ofs b) s =
      match u.apSpans f (u.apAddr f ofs) b.length true with
      | none => .next (u.apErr f)
      | some sp => .next ((u.countHost f (u.apAddr f ofs) b.length true).wrSpans sp b) := by
  subst hu
  exact if_neg (by simpa [hf] using hsz)

end

end

/-! ### The accounting boundary (R618, R619) -/

/-- The registers and accounts that a boundary writes. -/
def State.accounted (s : State) (a : Accounts) (pin rail scale : Nat) : State :=
  (({ s with host := { s.host with acct := a }, power := { s.power with pin := pin }, drawn := s.drawn + 1 }.count64 Reg.ACC_RAIL_UJ rail).setReg
    Reg.ACC_SCALE scale).count64 Reg.ACC_EPOCH 1

/-- At a boundary every account is shown as it then stands. -/
theorem exec_accountBoundary {s : State} (h : s.now / 1966080 ≠ s.host.acct.lastMs) : ∃ (a : Accounts) (pin rail scale : Nat),
    exec .accountBoundary s = .next (s.accounted a pin rail scale) ∧ a.lastMs = s.now / 1966080 ∧ a.shown = a.work := by
  refine ⟨_, _, _, _, if_neg h, ?_, ?_⟩
  · rfl
  · rfl

theorem State.accounted_epoch (s : State) (a : Accounts) (pin rail scale : Nat) :
    (s.accounted a pin rail scale).reg Reg.ACC_EPOCH = (s.reg Reg.ACC_EPOCH + 1) % 2 ^ 64 := by
  rw [State.accounted, State.count64, State.setReg_reg, State.setReg_reg_ne _ _ (by decide), State.count64, State.setReg_reg_ne _ _ (by decide)]
  rfl

/-! ### The statement -/

/-- Settles O45: the state machine of a VF by its states, the apertures by the spans under an access, the boundary by what it counts. -/
theorem functionsAndApertures : Obligations.FunctionsAndApertures := by
  unfold Obligations.FunctionsAndApertures
  refine ⟨⟨fun s u hu => ⟨fun hoff => ?_, fun hon => ?_⟩, fun s u hu => ⟨fun hlive => ?_, fun v hlive hon => ?_⟩,
    fun s n => ⟨fun hn => ?_, fun hn hvf hrec => ?_⟩, fun s u v hv hu => ⟨fun hon => ?_, fun hst => ?_⟩, fun s u hu => ?_,
    fun s v hv hst hpend => ⟨fun hdone => ?_, fun hdone => ?_⟩, fun s v hmodels hctxs _ => s.vfStop_fn hmodels hctxs⟩,
    fun s f ofs len hf hsz => ⟨fun hsp => ?_, fun sp u hsp hrd => ?_, fun sp u hsp hrd => ?_⟩,
    fun s u f ofs b hf hsz hu => ⟨fun sp hsp => ?_, fun hsp => ?_⟩, fun s => ⟨fun h => ?_, fun h => ?_⟩⟩
  · exact Gives.intro (exec_vfEnableSet hu) (if_neg (by simp [hoff]))
  · exact Gives.intro (exec_vfEnableSet hu) (if_pos hon)
  · refine Gives.intro (exec_vfEnableClear hu) ?_
    rw [hlive]
    exact ⟨rfl, rfl⟩
  · refine Gives.intro (exec_vfEnableClear hu) ?_
    rw [hlive]
    exact State.vfDisable_on _ _ hon
  · exact Gives.intro (if_pos hn) rfl
  · exact Gives.intro (exec_numvfsWrite hn hvf hrec) ⟨rfl, rfl⟩
  · refine Gives.intro (exec_flr_vf hv hu) ?_
    rw [if_pos (by simp [hon]), State.vfDisable_on _ _ hon]
  · refine Gives.intro (exec_flr_vf hv hu) ?_
    rw [if_neg (by simp [hst]), State.vfDisable_stopping _ _ hst, State.vfEnable_stopping _ _ (by rw [State.setFn_fn])]
  · exact Gives.intro (exec_flr_pf hu) rfl
  · have hmem : (((s.stopMigs v).dropPages v).dropFnRecs v).mem = s.mem := by rw [State.dropFnRecs_mem, State.dropPages_mem, State.stopMigs_mem]
    exact Gives.intro (exec_vfStopComplete s hv hst hpend hdone) ⟨State.setFn_fn .., (State.setFn_mem ..).trans hmem⟩
  · exact Gives.intro ((if_neg (Nat.not_le.mpr hv)).trans (if_pos (.inr (by simp [hdone])))) rfl
  · refine Gives.intro (exec_apertureRead_refused hf hsz hsp) ?_
    rw [State.emit_readData]
    exact ⟨rfl, s.apErr_aperr f, rfl⟩
  · refine Gives.intro (exec_apertureRead hf hsz hsp hrd) ?_
    rw [if_neg Bool.false_ne_true, State.emit_readData]
    exact ⟨rfl, rfl⟩
  · refine Gives.intro (exec_apertureRead hf hsz hsp hrd) ?_
    rw [if_pos rfl, State.emit_readPoison]
    exact ⟨rfl, rfl⟩
  · refine Gives.intro ((exec_apertureWrite hf hsz hu).trans (by rw [hsp])) ?_
    exact State.wrSpans_mem_congr rfl rfl sp b
  · exact Gives.intro ((exec_apertureWrite hf hsz hu).trans (by rw [hsp])) ⟨hu ▸ State.logIn_mem .., u.apErr_aperr f⟩
  · exact Gives.intro (if_pos h) rfl
  · obtain ⟨a, pin, rail, scale, hexec, hms, hshown⟩ := exec_accountBoundary h
    exact Gives.intro hexec ⟨hms, hshown, s.accounted_epoch a pin rail scale, rfl, rfl⟩

end Sys2Proof.Machine
end

section
/-! PROOFS. The recorder's own commands, the transfer of the log, pause and resume (R635 to R639, R643 to R646, R654 to R657). -/
namespace Sys2Proof.Machine

/-! ### Writes of `RPL_CMD` (R651, R656) -/

section
variable {s u : State}

/-- A command of `RPL_CMD` acts on the logged state, during a replay too. -/
theorem State.rplCmd_eq {code : Nat} (hu : u = s.logIn 5 0x04 pf0 (BitVec.ofNat 64 (Reg.RPL_CMD + 2 * 2 ^ 48)) (leBytes 4 code)) (ok : State → Bool)
    (f : State → State) : s.rplCmd code ok f = if ok u then f u else u.rplEvt 0x40 := by
  subst hu
  exact if_neg (fun h => h.2.2 (by decide))

theorem exec_recStart (hu : u = s.logIn 5 0x04 pf0 (BitVec.ofNat 64 (Reg.RPL_CMD + 2 * 2 ^ 48)) (leBytes 4 1)) :
    exec .recStart s = .next (if u.rpl.st == .idle then u.recBegin false else u.rplEvt 0x40) :=
  congrArg Host.Outcome.next (State.rplCmd_eq hu ..)

theorem exec_recStop (hu : u = s.logIn 5 0x04 pf0 (BitVec.ofNat 64 (Reg.RPL_CMD + 2 * 2 ^ 48)) (leBytes 4 2)) :
    exec .recStop s = .next (if u.rpl.st == .recording then { u.addRec 0x7F 0 0 [] with rpl := { (u.addRec 0x7F 0 0 []).rpl with st := .idle } }
      else u.rplEvt 0x40) :=
  congrArg Host.Outcome.next (State.rplCmd_eq hu ..)

theorem exec_mark (hu : u = s.logIn 5 0x04 pf0 (BitVec.ofNat 64 (Reg.RPL_CMD + 2 * 2 ^ 48)) (leBytes 4 5)) :
    exec .mark s = .next (if u.rpl.st == .recording then u.putRec 0x60 0 (u.regs.get 0 Reg.RPL_ARG) [] else u.rplEvt 0x40) :=
  congrArg Host.Outcome.next (State.rplCmd_eq hu ..)

theorem exec_clearLog (hu : u = s.logIn 5 0x04 pf0 (BitVec.ofNat 64 (Reg.RPL_CMD + 2 * 2 ^ 48)) (leBytes 4 0xA)) (hfree : u.rplFree = true) :
    exec .clearLog s = .next { u with rpl :=
      { ({ u.rpl with st := .idle, log := [], tail := [], head := 0, nextSeq := 0, dropped := 0, wrapped := false } : Recorder) with
        skipped := false, atStart := false, expect := [], halted := false, stopTaken := 0 } } :=
  congrArg Host.Outcome.next ((State.rplCmd_eq hu ..).trans (if_pos hfree))

theorem exec_exportLog (hu : u = s.logIn 5 0x04 pf0 (BitVec.ofNat 64 (Reg.RPL_CMD + 2 * 2 ^ 48)) (leBytes 4 8)) :
    exec .exportLog s = .next (if (u.rplFree && u.rpl.xfer == 0) = true then
      { u with out := u.out ++ [.hostWrite pf0 u.xferHost ((u.rpl.bytes.drop u.xferOfs).take u.xferLen)], rpl := { u.rpl with xfer := 1 } }
      else u.rplEvt 0x40) :=
  congrArg Host.Outcome.next (State.rplCmd_eq hu ..)

theorem exec_pause (hu : u = s.logIn 5 0x04 pf0 (BitVec.ofNat 64 (Reg.RPL_CMD + 2 * 2 ^ 48)) (leBytes 4 6)) : exec .pause s = .next u.doPause :=
  congrArg Host.Outcome.next ((State.rplCmd_eq hu ..).trans (if_pos rfl))

theorem exec_rplResume (hu : u = s.logIn 5 0x04 pf0 (BitVec.ofNat 64 (Reg.RPL_CMD + 2 * 2 ^ 48)) (leBytes 4 7)) :
    exec .rplResume s = .next u.doResume :=
  congrArg Host.Outcome.next ((State.rplCmd_eq hu ..).trans (if_pos rfl))

end

/-! ### Records (R643 to R646) -/

/-- The record that joins a log is its last. -/
theorem State.addRec_last (s : State) (kind source : Nat) (aux : DWord) (b : List Byte) : (s.addRec kind source aux b).rpl.log.getLast? =
    some { stamp := s.now, frac := s.now64 % 64, kind := kind, source := source, seq := s.rpl.nextSeq, aux := aux, payload := b } :=
  List.getLast?_concat

/-- The first record of a log stands alone. -/
theorem State.addRec_of_empty {s : State} (h : s.rpl.log = []) (kind source : Nat) (aux : DWord) (b : List Byte) : (s.addRec kind source aux b).rpl.log =
    [{ stamp := s.now, frac := s.now64 % 64, kind := kind, source := source, seq := s.rpl.nextSeq, aux := aux, payload := b }] := by
  simp only [State.addRec, h, dropOldest, ite_self, List.nil_append]

/-- The first field of packed fields. -/
theorem bits_packFields (w v : Nat) (l : List (Nat × Nat)) (h : w + (l.map Prod.fst).sum ≤ 64) :
    bits (BitVec.ofNat 64 (packFields ((w, v) :: l))) 0 w = v % 2 ^ w := by
  have hlt : packFields ((w, v) :: l) < 2 ^ 64 := (packFields_lt _).trans_le (Nat.pow_le_pow_right (by decide) h)
  rw [bits, BitVec.toNat_ofNat, Nat.mod_eq_of_lt hlt, Nat.shiftRight_zero, packFields, Nat.add_mul_mod_self_left, Nat.mod_mod]

theorem State.regBits_lt (s : State) (a lo len : Nat) : s.regBits a lo len < 2 ^ len := Nat.mod_lt _ (Nat.two_pow_pos _)

/-- A recording begins with its START record (R644, R656). -/
theorem State.recBegin_spec (s : State) : (s.recBegin false).rpl.st = .recording ∧ (s.recBegin false).mem = s.mem ∧ ∃ r, (s.recBegin false).rpl.log = [r] ∧
    r.kind = 1 ∧ r.seq = 0 ∧ r.stamp = s.now ∧ r.payload = shaBytes s.start.imgDigest ∧ bits r.aux 0 32 = s.regBits Reg.HUB_IDENT 0 32 := by
  refine ⟨rfl, rfl, _, State.addRec_of_empty rfl .., rfl, rfl, rfl, rfl, ?_⟩
  exact (bits_packFields 32 _ _ (by simp)).trans (Nat.mod_eq_of_lt (s.regBits_lt ..))

/-! ### IMPORT (R656) -/

/-- Bytes that are one whole record are read as that record. -/
theorem recsOf_single {b : List Byte} {r : LogRec} (h : recAt b = some (r, [])) : recsOf (b.length / 32 + 1) b = ([r], []) := by
  have hnil (fuel : Nat) : recsOf fuel [] = ([], []) := by
    cases fuel with
    | zero => rfl
    | succ fuel => rfl
  simp only [recsOf, h, hnil]

/-- The log as an IMPORT of bytes at offset 0 into an empty log leaves it. -/
def State.imported (u : State) (r : LogRec) (n : Nat) : State :=
  { u with rpl := { u.rpl with log := [r], tail := [], head := n, nextSeq := 1, xfer := 2, dropped := 0, wrapped := false, skipped := false,
                               atStart := bit r.aux 54, halted := false } }

theorem exec_importLog {s u : State} (b : List Byte) {r : LogRec} (hu : u = s.logIn 5 0x04 pf0 (BitVec.ofNat 64 (Reg.RPL_CMD + 2 * 2 ^ 48)) (leBytes 4 9))
    (hst : u.rpl.st = .idle) (hx : u.rpl.xfer = 0) (hlog : u.rpl.log = []) (htail : u.rpl.tail = []) (hofs : u.xferOfs = 0)
    (hrec : recAt (b.take u.xferLen) = some (r, [])) : exec (.importLog b) s = .next (u.imported r (b.take u.xferLen).length) := by
  have hold : u.rpl.bytes = [] := by rw [Recorder.bytes, hlog, htail]; rfl
  refine congrArg Host.Outcome.next ((State.rplCmd_eq hu ..).trans ((if_pos (by simp [hst, hx])).trans ?_))
  simp only [hold, hofs, List.take_nil, List.length_nil, Nat.zero_sub, List.replicate_zero, List.nil_append, List.drop_nil, List.append_nil, recsOf_single hrec]
  rfl

/-! ### LOG_GAP_WRITE (R645) -/

theorem exec_logGapWrite {s : State} (hst : s.rpl.st = .recording) (hdrop : 0 < s.rpl.dropped) (hroom : s.rpl.buffered + 32 ≤ 2 ^ 26) :
    let t := s.addRec 0x50 0 (BitVec.ofNat 64 s.rpl.dropped) []
    exec .logGapWrite s = .next { t with rpl := { t.rpl with dropped := 0 } } :=
  if_neg (by simp only [hst, ne_eq, not_true_eq_false, false_or]; omega)

/-! ### Pause and resume (R635, R636, R638) -/

section
variable {u : State} {x : Ctx}

theorem State.doPause_ctx (hm : u.argModel = none) : u.doPause = u.pauseOne u.argCtx := by simp only [State.doPause, hm]

/-- A context that may be paused is marked, at once when it is not resident (R636). -/
theorem State.pauseOne_of_free (hx : u.ctx? x.id = some x) (hradio : x.radio = false) (hend : x.ending = false)
    (hp : x.paused = false) (hq : x.pausing = false) (harm : u.armedCtx x.id = false) : u.pauseOne x.id =
      if x.resident then (u.setCtx { x with pausing := true }).setReg Reg.RPL_PAUSE 1
      else ((u.setCtx { x with paused := true }).setReg Reg.RPL_PAUSE 2).rplEvt 0x20 := by
  simp only [State.pauseOne, hx, hradio, hend, hp, hq, harm, Bool.or_self, Bool.false_eq_true, if_false, State.pauseCtx, State.updCtx_of_ctx? hx]
  split
  · rfl
  · rfl

theorem State.setReg_rplEvt_reg (w : State) {a m v : Nat} (ha : a ≠ Reg.RPL_EVT) (hd : a ≠ Reg.HIF_QOFF_DROP) :
    ((w.setReg a v).rplEvt m).reg a = v % 2 ^ 64 := by
  rw [State.reg, State.rplEvt, State.event_get_ne _ _ _ _ _ ha hd, ← State.reg, State.setReg_reg]

theorem State.pauseOne_of_radio {i : Nat} (hx : u.ctx? i = some x) (hradio : x.radio = true) : u.pauseOne i = u.pauseRefused 1 := by
  simp only [State.pauseOne, hx, hradio, if_true]

theorem State.pauseOne_of_none {i : Nat} (hx : u.ctx? i = none) : u.pauseOne i = u.pauseRefused 2 := by simp only [State.pauseOne, hx]

theorem State.doPause_model {k n : Nat} {m : Model} (ha : u.argModel = some (k, n)) (hm : u.model k n = some m) (hp : m.paused = false)
    (hq : m.pausing = false) (harm : m.ctxs.any u.armedCtx = false) :
    u.doPause = (u.setModel k n { m with pausing := true }).setReg Reg.RPL_PAUSE 1 := by
  simp only [State.doPause, ha, State.pauseModel, hm, hp, hq, harm, Bool.or_self, Bool.false_eq_true, if_false]

theorem State.doResume_ctx (hm : u.argModel = none) (hx : u.ctx? u.argCtx = some x) : u.doResume = if (x.paused || x.pausing) = true then
    ((u.updCtx x.id (fun (y : Ctx) => { y with paused := false, pausing := false })).refresh x.id).setReg Reg.RPL_PAUSE 3 else u.pauseRefused 6 := by
  simp only [State.doResume, hm, hx]

end

/-! ### The statement -/

/-- Settles O47: each command acts on the state in which its write is logged; a pause by what the context or the model is. -/
theorem recorderCommands : Obligations.RecorderCommands := by
  unfold Obligations.RecorderCommands
  refine ⟨⟨fun s u hu => ⟨fun hst => ?_, fun hst => ?_⟩, fun s u hu => ⟨fun hst => ?_, fun hst => ?_⟩, fun s u hu => ⟨fun hst => ?_, fun hst => ?_⟩,
    fun s u hu hfree => ?_, fun s u hu => ⟨fun hfree hx => ?_, fun hfree => ?_⟩, fun s u b r hu hst hx hlog htail hofs hrec => ?_,
    fun s => ⟨fun hx => ?_, fun hx => ?_⟩, fun s hst hdrop hroom => ?_⟩,
    fun s u hu => ⟨fun x hm hx hid hradio hend hp hq harm hres => ?_, fun x hm hx hid hradio hend hp hq harm hres => ?_, fun x hm hx hradio => ?_,
      fun hm hx => ?_, fun k n m ha hm hp hq harm => ?_⟩, fun s u hu => ⟨fun x hm hx hp => ?_, fun x hm hx hp hq => ?_⟩⟩
  · have hmem : u.mem = s.mem := hu ▸ State.logIn_mem ..
    have hnow : u.now = s.now := hu ▸ congrArg TimeUnit.tc (State.logIn_time ..)
    refine Gives.intro (exec_recStart hu) ?_
    rw [if_pos (by simp [hst]), ← hmem, ← hnow]
    exact u.recBegin_spec
  · exact Gives.intro (exec_recStart hu) (if_neg (by simp [hst]))
  · refine Gives.intro (exec_recStop hu) ?_
    rw [if_pos (by simp [hst])]
    exact ⟨rfl, congrArg (Option.map LogRec.kind) (u.addRec_last ..)⟩
  · exact Gives.intro (exec_recStop hu) (if_neg (by simp [hst]))
  · exact Gives.intro (exec_mark hu) (if_pos (by simp [hst]))
  · exact Gives.intro (exec_mark hu) (if_neg (by simp [hst]))
  · exact Gives.intro (exec_clearLog hu hfree) ⟨rfl, rfl, rfl, rfl, rfl, hu ▸ State.logIn_mem ..⟩
  · refine Gives.intro (exec_exportLog hu) ?_
    rw [if_pos (by simp [hfree, hx])]
    exact ⟨rfl, rfl, rfl⟩
  · exact Gives.intro (exec_exportLog hu) (if_neg (by simp [hfree]))
  · exact Gives.intro (exec_importLog b hu hst hx hlog htail hofs hrec) ⟨rfl, rfl, rfl, rfl, hst⟩
  · exact Gives.intro (congrArg Host.Outcome.next (if_neg hx)) rfl
  · exact Gives.intro (congrArg Host.Outcome.next (if_pos hx)) rfl
  · exact Gives.intro (exec_logGapWrite hst hdrop hroom) ⟨rfl, congrArg (Option.map (fun r : LogRec => (r.kind, r.aux))) (s.addRec_last ..)⟩
  · refine Gives.intro (exec_pause hu) ?_
    rw [State.doPause_ctx hm, ← hid, State.pauseOne_of_free (hid ▸ hx) hradio hend hp hq harm, if_pos hres]
    exact ⟨State.setCtx_ctx? u (x := { x with pausing := true }) rfl, State.setReg_reg ..⟩
  · refine Gives.intro (exec_pause hu) ?_
    rw [State.doPause_ctx hm, ← hid, State.pauseOne_of_free (hid ▸ hx) hradio hend hp hq harm, if_neg (by simp [hres])]
    refine ⟨?_, State.setReg_rplEvt_reg _ (by decide) (by decide)⟩
    exact ((State.event_only ..).ctx? (by decide) _).trans (State.setCtx_ctx? u (x := { x with paused := true }) rfl)
  · refine Gives.intro (exec_pause hu) ?_
    rw [State.doPause_ctx hm, State.pauseOne_of_radio hx hradio]
    rfl
  · refine Gives.intro (exec_pause hu) ?_
    rw [State.doPause_ctx hm, State.pauseOne_of_none hx]
    rfl
  · refine Gives.intro (exec_pause hu) ?_
    rw [State.doPause_model ha hm hp hq harm]
    exact ⟨Tab.find_set_self .., State.setReg_reg ..⟩
  · refine Gives.intro (exec_rplResume hu) ?_
    rw [State.doResume_ctx hm hx, if_pos (by simpa using hp)]
  · refine Gives.intro (exec_rplResume hu) ?_
    rw [State.doResume_ctx hm hx, if_neg (by simp [hp, hq])]
    rfl

end Sys2Proof.Machine
end

section
/-! PROOFS. Replay: its start and stop, outputs that are missing, records injected (R649 to R653, R656). -/
namespace Sys2Proof.Machine

/-! ### A replay begins, goes on and stops (R649, R650, R653, R656) -/

section
variable {s u : State}

theorem exec_replayStart (hu : u = s.logIn 5 0x04 pf0 (BitVec.ofNat 64 (Reg.RPL_CMD + 2 * 2 ^ 48)) (leBytes 4 3)) : exec .replayStart s =
    .next (if (u.mayReplay || u.mayResume) = true then
      (if u.mayResume then { u with rpl := { u.rpl with st := .replaying } } else u.replayBegin) else u.rplEvt 0x40) :=
  congrArg Host.Outcome.next (State.rplCmd_eq hu ..)

theorem exec_replayStop (hu : u = s.logIn 5 0x04 pf0 (BitVec.ofNat 64 (Reg.RPL_CMD + 2 * 2 ^ 48)) (leBytes 4 4)) (hst : u.rpl.st = .replaying) :
    exec .replayStop s = .next { u with rpl := { u.rpl with st := .stopped } } :=
  congrArg Host.Outcome.next ((State.rplCmd_eq hu ..).trans (if_pos (by simp [hst])))

/-- A replay that may begin was not stopped, so that it does not go on instead. -/
theorem State.not_mayResume_of_mayReplay (h : u.mayReplay = true) : u.mayResume = false := by
  have hidle : u.rpl.st = .idle := by
    simp only [State.mayReplay, Bool.and_eq_true, beq_iff_eq] at h
    exact h.1.1.1
  rw [State.mayResume, hidle]
  rfl

/-- The counter takes the stamp of the log's first record (R650). -/
theorem State.replayBegin_spec {r : LogRec} {rest : List LogRec} (hlog : u.rpl.log = r :: rest) (hfrac : r.frac < 64) :
    u.replayBegin.rpl.st = .replaying ∧ u.replayBegin.rpl.nextSeq = 1 ∧ u.replayBegin.now = r.stamp ∧ u.replayBegin.time.st = .locked ∧
      u.replayBegin.time.src = 0 ∧ u.replayBegin.rpl.log = u.rpl.log := by
  simp only [State.replayBegin, hlog, State.now, State.setCounter, true_and, and_true]
  omega

theorem exec_stopAtReached {t0 : Nat} (hstop : s.stopAt = some t0) (hst : s.rpl.st = .replaying) : exec .stopAtReached s =
    if s.now < t0 then .next s else .next ({ s with rpl := { s.rpl with st := .stopped, stopTaken := t0 } }.rplEvt 8) := by
  change execStopAtReached s = _
  simp only [execStopAtReached, hstop, hst, ne_eq, not_true_eq_false, false_or]

end

/-! ### Outputs that are missing (R652) -/

section
variable {s : State} {k : OutKey}

theorem exec_outputMissing (hrep : s.replayed = true) (hhalt : s.rpl.halted = false) (hout : s.outLogged = true)
    (hfind : s.rpl.expect.find? (fun k => decide (k.stamp + s.slackTc ≤ s.now)) = some k) :
    exec .outputMissing s = .next (s.diverge 3 k.key k.digest 0) := by
  change execOutputMissing s = _
  rw [execOutputMissing, if_neg (by simp [hrep, hhalt, hout]), hfind]

/-- The first divergence stops the replay; its kind and what was expected are shown. -/
theorem State.diverge_spec (kind : Nat) (key : BitVec 128) (exp got : DWord) (hhalt : s.rpl.halted = false) :
    (s.diverge kind key exp got).rpl.st = .stopped ∧ (s.diverge kind key exp got).rpl.halted = true ∧
      (s.diverge kind key exp got).reg Reg.RPL_DIV_KIND = kind % 2 ^ 64 ∧ (s.diverge kind key exp got).reg Reg.RPL_DIV_EXP = exp.toNat := by
  have hevt (w : State) (m : Nat) {a : Nat} (ha : a ≠ Reg.RPL_EVT) (hd : a ≠ Reg.HIF_QOFF_DROP) : (w.rplEvt m).reg a = w.reg a :=
    congrArg BitVec.toNat (State.event_get_ne _ _ _ _ _ ha hd)
  have hrpl (w : State) (m : Nat) : (w.rplEvt m).rpl = w.rpl := State.event_rpl ..
  rw [State.diverge, if_neg (by simp [hhalt])]
  dsimp only
  rw [hrpl, hevt _ _ (by decide) (by decide), hevt _ _ (by decide) (by decide)]
  refine ⟨rfl, rfl, ?_, ?_⟩
  · rw [State.setReg_reg_ne _ _ (by decide), State.setReg_reg_ne _ _ (by decide), State.setReg_reg_ne _ _ (by decide), State.setReg_reg]
  · rw [State.setReg_reg_ne _ _ (by decide), State.setReg_reg, Nat.mod_eq_of_lt exp.isLt]

end

/-! ### Records injected (R650, R651, R653) -/

/-- The state that injects its next record. -/
def State.injecting (s : State) : State := { s with rpl := { s.rpl with inj := true } }

/-- The state once the next record has entered. -/
def State.injected (t : State) : State := { t with rpl := { t.rpl with inj := false, nextSeq := t.rpl.nextSeq + 1 } }

section
variable {s t : State} {r : LogRec}

theorem exec_recordInject (hst : s.rpl.st = .replaying) (hhalt : s.rpl.halted = false) (hdue : s.dueRec = some r) (hrec : s.injecting.injRec r = some t) :
    exec .recordInject s = .next t.injected := by
  change execRecordInject s = _
  rw [execRecordInject, if_neg (by simp [hst, hhalt]), hdue]
  dsimp only
  rw [show ({ s with rpl := { s.rpl with inj := true } } : State).injRec r = some t from hrec]
  rfl

theorem exec_recordInject_none (hdue : s.dueRec = none) : exec .recordInject s = .next s := by
  change execRecordInject s = _
  unfold execRecordInject
  split
  · rfl
  · rw [hdue]

theorem State.injRec_bar2 (h : r.kind = 0x04) (hbar : bits r.aux 48 3 = 2) (hsrc : r.source = pf0) :
    s.injRec r = some (s.injBar2 (bits r.aux 0 48) r.payload.length (leNat r.payload)) := by
  have hbar0 : ¬bits r.aux 48 3 = 0 := by omega
  simp only [State.injRec, h, State.injWrite, if_neg hbar0, if_pos (And.intro hbar hsrc)]

theorem State.injRec_gap (h : r.kind = 0x50) : s.injRec r = some (s.replayEnds 2) := by simp only [State.injRec, h]

theorem State.injRec_stop (h : r.kind = 0x7F) : s.injRec r = some (s.replayEnds 0x10) := by simp only [State.injRec, h]

theorem State.injRec_mark (h : r.kind = 0x60) : s.injRec r = some s := by simp only [State.injRec, h]

theorem State.replayEnds_injected (m : Nat) : (s.replayEnds m).injected.rpl.st = .replayEnd ∧ (s.replayEnds m).injected.mem = s.mem :=
  ⟨congrArg Recorder.st (State.event_rpl ..), State.event_mem ..⟩

end

/-- Settles O48: a replay begins, goes on or is refused by its two conditions, which exclude each other; a record enters by its kind. -/
theorem replayCommands : Obligations.ReplayCommands := by
  unfold Obligations.ReplayCommands
  refine ⟨fun s u r rest hu => ⟨fun hmay hlog hfrac => ?_, fun hmay hres => ?_, fun hmay hres => ?_⟩, fun s u hu hst => ?_,
    fun s t0 hstop hst => ⟨fun hat => ?_, fun hat => ?_⟩, fun s k hrep hhalt hout hfind => ?_,
    fun s i r hst hhalt hdue hi => ⟨fun k hk hbar hsrc hb => ?_, fun hk => ?_, fun hk => ?_, fun hk => ?_⟩, fun s hst hdue => ?_⟩
  · refine Gives.intro (exec_replayStart hu) ?_
    rw [State.not_mayResume_of_mayReplay hmay, hmay, Bool.true_or, if_pos rfl, if_neg Bool.false_ne_true]
    exact State.replayBegin_spec hlog hfrac
  · refine Gives.intro (exec_replayStart hu) ?_
    rw [hmay, hres, Bool.false_or, if_pos rfl, if_pos rfl]
  · refine Gives.intro (exec_replayStart hu) ?_
    rw [hmay, hres, Bool.false_or, if_neg Bool.false_ne_true]
  · exact Gives.intro (exec_replayStop hu hst) rfl
  · exact Gives.intro ((exec_stopAtReached hstop hst).trans (if_neg (Nat.not_lt.mpr hat))) rfl
  · exact Gives.intro ((exec_stopAtReached hstop hst).trans (if_pos hat)) rfl
  · exact Gives.intro (exec_outputMissing hrep hhalt hout hfind) (s.diverge_spec 3 k.key k.digest 0 hhalt)
  · subst hi hb
    exact Gives.intro (exec_recordInject hst hhalt hdue (State.injRec_bar2 hk hbar hsrc)) rfl
  · exact Gives.intro (exec_recordInject hst hhalt hdue (State.injRec_gap hk)) (s.injecting.replayEnds_injected 2)
  · exact Gives.intro (exec_recordInject hst hhalt hdue (State.injRec_stop hk)) (s.injecting.replayEnds_injected 0x10)
  · exact Gives.intro (exec_recordInject hst hhalt hdue (State.injRec_mark hk)) rfl
  · exact Gives.intro (exec_recordInject_none hdue) rfl

end Sys2Proof.Machine
end

section
/-! PROOFS. Heartbeats and the fence, takeover, expulsion, spares (R678, R679, R685, R686, R689, R692, R693, R695, R696, R700). -/
namespace Sys2Proof.Machine

/-! ### Mail and entries of the log -/

/-- Every part but the health monitor's. -/
abbrev notHealth : List Part :=
  [.time, .lists, .cyclic, .ctxs, .units, .fns, .vfs, .ports, .acct, .mat, .inf, .chm, .radio, .front, .tiers, .fab, .rpl, .start, .power,
   .regs, .latch, .mem, .out, .drawn, .pending]

theorem Stays.health_eq {s t : State} (h : Stays notHealth s t) : t.health = s.health := h.only.same .health (by decide)

section
variable (s : State)

theorem State.mail_health (node kind b1 w2 : Nat) : (s.mail node kind b1 w2).health = s.health := by
  have head := Has.head
  have tail := Has.tail
  exact (State.mail_stays (ps := notHealth) _ _ _ _ _ (.refl _ s)).health_eq

theorem State.mail_mem (node kind b1 w2 : Nat) : (s.mail node kind b1 w2).mem = s.mem := by
  have head := Has.head
  have tail := Has.tail
  exact (State.mail_stays (ps := notMem) _ _ _ _ _ (.refl _ s)).mem_eq

theorem State.setExpel_mem (st cause spare : Nat) : (s.setExpel st cause spare).mem = s.mem := by
  have head := Has.head
  have tail := Has.tail
  exact (State.setExpel_stays (ps := notMem) _ _ _ _ (.refl _ s)).mem_eq

theorem State.ssiOut_health (n : Nat) (marks : List LateMark) (b : List Byte) : (s.ssiOut n marks b).health = s.health := by
  have head := Has.head
  have tail := Has.tail
  exact (State.ssiOut_stays (ps := notHealth) _ _ _ _ (.refl _ s)).health_eq

/-- An expulsion's state is logged; of the rest of the monitor only it changes (R693). -/
theorem State.setExpel_health (st cause spare : Nat) :
    ∃ log, (s.setExpel st cause spare).health = { s.health with expel := st, expelCause := cause, expelSpare := spare, log := log } := by
  obtain ⟨log, hlog⟩ := State.healthLog_health { s with health := { s.health with expel := st, expelCause := cause, expelSpare := spare } } 0x0B 0xF000 0 0
    (BitVec.ofNat 64 (State.expelWord { s with health := { s.health with expel := st, expelCause := cause, expelSpare := spare } }))
  refine ⟨log, ?_⟩
  rw [State.setExpel, State.redev_health, State.hltEvt_health, hlog]

end

/-! ### The fence (R686) -/

theorem State.muteCells_health (s : State) (l : List Nat) (m : Bool) : (l.foldl (fun (u : State) n => u.muteCell n m) s).health = s.health :=
  State.foldl_same State.health (f := fun (u : State) n => u.muteCell n m) (fun _ _ => rfl) l s

theorem State.fence_fenced (s : State) : s.fence.health.fenced = true := by
  unfold State.fence
  split
  next h => exact h
  next h =>
    extract_lets _ t u i v
    have hu : u.health = t.health := State.muteCells_health t _ _
    obtain ⟨log, hlog⟩ := v.healthLog_health 0x0A 0xF000 0 0 0
    rw [State.redev_health, State.hltEvt_health, hlog]
    exact congrArg Health.fenced hu

theorem State.askWards_of_fenced {s : State} (h : s.health.fenced = true) : s.askWards = s := if_pos h

theorem State.askWards_of_one {s : State} {w : Peer} (h : s.health.fenced = false)
    (hw : s.health.peers.filter (fun x => x.isWard && !x.asked && x.lostAt.isNone && decide (s.hbMiss ≤ x.miss)) = [w]) :
    s.askWards = if s.stewardNow = s.self % 4096 then s.wardLost w.node else s.askSteward w := by
  rw [State.askWards, if_neg (by simp [h]), hw, List.foldl_cons, List.foldl_nil]

theorem exec_heartbeatPeriodEnd {s p : State} (hp : p = { s with health := { s.health with peers := s.health.peers.map Peer.ended } }.partnerLost) :
    exec .heartbeatPeriodEnd s = .next (if p.isolated then p.fence else p).askWards := by
  subst hp
  rfl

/-! ### Takeover (R689) -/

/-- What a message of a cell that is not muted leaves of the health monitor: all of it. -/
theorem State.cellNote_health (s : State) (n at0 : Nat) (h : (s.cell n).muted = false) : (s.cellNote n at0).health = s.health := by
  have hind (w : State) (d : Nat) (marks : List LateMark) (b : List Byte) (hw : (w.cell n).muted = false) : (w.indicate n d marks b).health = w.health := by
    rw [State.indicate, if_neg (by simp [hw]), State.ssiOut_health]
  unfold State.cellNote State.tellL2
  extract_lets x y w
  have hw : (w.cell n).muted = false := by rw [State.setCell_cell]; exact h
  have hout (k : BitVec 128) : ((w.output k y).cell n).muted = false := by rw [State.cell, State.output_radio]; exact hw
  rw [hind _ _ _ _ (hout _), State.output_health]
  rfl

/-- The standby cell speaks (R689). -/
def State.unmuted (s : State) (n : Nat) (rest : List (Nat × Nat × List Byte)) : State :=
  State.setCell { s with health := { s.health with unmuteAt := s.health.unmuteAt.del n, taken := true, heldInd := rest } } n
    { s.cell n with muted := false, reason := 2 }

theorem exec_takeoverUnmute {s : State} {n at0 : Nat} (hn : n < 512) (h : s.health.unmuteAt.find n = some at0) : exec (.takeoverUnmute n) s =
    if s.now < at0 then .next s
    else
      let held := s.health.heldInd.filter (fun (h : Nat × Nat × List Byte) => h.1 == n && decide (at0 < h.2.1))
      let t := held.foldl (fun (u : State) (h : Nat × Nat × List Byte) => u.ssiOut n [] h.2.2)
        (s.unmuted n (s.health.heldInd.filter (fun (h : Nat × Nat × List Byte) => h.1 != n)))
      .next (((t.cellNote n at0).healthLog 9 0xF000 0 (bits (t.regs.get 0 (Reg.HLT_CELL_SB n)) 1 12) (tcStamp at0)).hltEvt 0x40) := by
  refine (if_neg (Nat.not_le.mpr hn)).trans ?_
  simp only [h]
  rfl

/-- Messages of a cell on their way leave every cell and the health monitor as they were. -/
theorem State.told_cell (s : State) (n k : Nat) (l : List (Nat × Nat × List Byte)) :
    (l.foldl (fun (u : State) (h : Nat × Nat × List Byte) => u.ssiOut n [] h.2.2) s).cell k = s.cell k :=
  State.foldl_same (fun u => u.cell k) (f := fun (u : State) (h : Nat × Nat × List Byte) => u.ssiOut n [] h.2.2) (fun u h => by
    obtain ⟨w, hw⟩ := u.ssiOut_radio n [] h.2.2
    rw [State.cell, hw]
    rfl) l s

theorem State.told_health (s : State) (n : Nat) (l : List (Nat × Nat × List Byte)) :
    (l.foldl (fun (u : State) (h : Nat × Nat × List Byte) => u.ssiOut n [] h.2.2) s).health = s.health :=
  State.foldl_same State.health (f := fun (u : State) (h : Nat × Nat × List Byte) => u.ssiOut n [] h.2.2)
    (fun u h => u.ssiOut_health n [] h.2.2) l s

theorem State.healthLog_radio (s : State) (kind unit ctx node : Nat) (detail : DWord) : (s.healthLog kind unit ctx node detail).radio = s.radio := by
  have head := Has.head
  have tail := Has.tail
  exact (State.healthLog_stays (ps := [.fns, .health, .regs]) _ _ _ _ _ _ (.refl _ s)).only.same .radio (by decide)

/-- Once a cell that speaks has told its state, the takeover is logged. -/
theorem State.logTakeover_spec {t : State} {n : Nat} (at0 ward : Nat) (h : (t.cell n).muted = false) :
    let r := ((t.cellNote n at0).healthLog 9 0xF000 0 ward (tcStamp at0)).hltEvt 0x40
    (r.cell n).muted = false ∧ ∃ log, r.health = { t.health with log := log } := by
  obtain ⟨log, hlog⟩ := (t.cellNote n at0).healthLog_health 9 0xF000 0 ward (tcStamp at0)
  refine ⟨?_, log, ?_⟩
  · rw [State.cell, State.hltEvt_radio, State.healthLog_radio, ← State.cell, State.cellNote_cell]
    exact h
  · rw [State.hltEvt_health, hlog, State.cellNote_health _ _ _ h]

theorem State.takeover_spec (s : State) (n at0 : Nat) (rest held : List (Nat × Nat × List Byte)) (ward : Nat) {t : State}
    (ht : t = held.foldl (fun (u : State) (h : Nat × Nat × List Byte) => u.ssiOut n [] h.2.2) (s.unmuted n rest)) :
    let r := ((t.cellNote n at0).healthLog 9 0xF000 0 ward (tcStamp at0)).hltEvt 0x40
    (r.cell n).muted = false ∧ r.health.unmuteAt.find n = none ∧ r.health.taken = true := by
  have hcell : (t.cell n).muted = false := by rw [ht, State.told_cell, State.unmuted, State.setCell_cell]
  have hhealth : t.health = (s.unmuted n rest).health := by rw [ht, State.told_health]
  obtain ⟨hmuted, log, hlog⟩ := State.logTakeover_spec at0 ward hcell
  rw [hhealth] at hlog
  refine ⟨hmuted, ?_, ?_⟩
  · rw [hlog]
    exact Tab.find_del_self ..
  · rw [hlog]
    rfl

/-! ### Expulsion and spares (R692, R693, R695, R696, R700) -/

theorem Only.setHealth (s : State) (x : Health) : Only [.health] s { s with health := x } := ⟨fun p hp => by
  cases p
  case health => exact absurd (List.mem_singleton_self _) hp
  all_goals rfl⟩

/-- A grant spends a token and a spare for the oldest request; who is told depends on whose request it was (R693). -/
theorem State.grant_spec (s : State) (r : ExpelReq) (n : Nat) :
    (s.grant r n).health.tokens = s.health.tokens - 1 ∧ (s.grant r n).health.reqs = s.health.reqs.drop 1 ∧
      (s.grant r n).health.spares = s.health.spares.drop 1 ∧ (s.grant r n).health.granted = s.health.granted ++ [r.node] ∧
      (s.grant r n).mem = s.mem := by
  unfold State.grant
  extract_lets _ t u
  have hh : u.health = t.health := State.mail_health ..
  have hm : u.mem = t.mem := State.mail_mem ..
  split
  · rw [State.mail_health, State.mail_mem, hh, hm]
    exact ⟨rfl, rfl, rfl, rfl, rfl⟩
  · split
    · obtain ⟨log, hlog⟩ := u.setExpel_health 2 u.health.expelCause n
      rw [State.expelNow]
      dsimp only
      rw [hlog, State.setExpel_mem, hh, hm]
      exact ⟨rfl, rfl, rfl, rfl, rfl⟩
    · rw [hh, hm]
      exact ⟨rfl, rfl, rfl, rfl, rfl⟩

theorem exec_expelGrant {s : State} {r : ExpelReq} {n : Nat} (hr : s.health.reqs.head? = some r) (hn : s.health.spares.head? = some n) :
    exec .expelGrant s = .next (if s.isSteward ∧ 0 < s.health.tokens then s.grant r n else s) := by
  change execExpelGrant s = _
  rw [execExpelGrant, hr, hn]

theorem exec_expelGrant_of_none {s : State} (h : s.health.reqs = [] ∨ s.health.spares = []) : exec .expelGrant s = .next s := by
  change execExpelGrant s = _
  unfold execExpelGrant
  split
  next r n hr hn => rcases h with h | h <;> simp [h] at hr hn
  next => rfl

theorem exec_workHandover {s : State} (h : s.health.role = .expelling) : exec .workHandover s =
    let t := s.handMirrored.endUnmirrored
    .next ((State.setExpel { t with health := { t.health with role := .expelled } } 4 t.health.expelCause t.health.expelSpare).setDev .stopping) := by
  change execWorkHandover s = _
  rw [execWorkHandover, if_neg (not_not.mpr h)]

/-- What a spare's admission sets of the monitor, which the work that it takes over leaves (R696, R700). -/
def State.admitted (s : State) : Role × Option Nat × Bool := (s.health.role, s.health.serveFor, s.health.taken)

theorem State.ownWork_admitted (s : State) (node : Nat) : (s.ownWork node).admitted = s.admitted := by
  have hcell (u : State) (n : Nat) : (match u.cellCfg n with
      | none => u
      | some k => { u with health := { u.health with unmuteAt := u.health.unmuteAt.set n (u.slotFrom n (u.now + 2 * slotTc k.mu)) } } : State).admitted =
        u.admitted := by
    split <;> rfl
  have hmodel (u : State) (k : Standby) : (match u.model k.tenant k.slot with
      | none => u
      | some m => u.setModel k.tenant k.slot { m with standby := false, mirrored := true, inStep := false, waiting := [], failing := false }).admitted =
        u.admitted := by
    split <;> rfl
  exact (State.foldl_same State.admitted hmodel _ _).trans (State.foldl_same State.admitted hcell _ _)

theorem State.ownWork_reg (s : State) (node a : Nat) : (s.ownWork node).reg a = s.reg a := by
  have head := Has.head
  have tail := Has.tail
  exact (State.ownWork_stays (ps := [.health, .inf]) _ _ (.refl _ s)).only.reg (by decide) a

theorem State.startPair_keeps (s : State) : s.startPair.admitted = s.admitted ∧ ∀ a, s.startPair.reg a = s.reg a := by
  unfold State.startPair
  split
  · exact ⟨rfl, fun _ => rfl⟩
  · exact ⟨rfl, fun _ => rfl⟩

theorem exec_spareLoad {s : State} {n : Nat} (hn : n < 4096) (hrole : s.health.role = .spareReady) (hserve : s.health.serveFor = some n) :
    exec (.spareLoad n) s = .next (((State.ownWork { s with health :=
      { s.health with role := .active, roleBefore := .spareReady, serveFor := none, taken := true } } n).startPair).hltEvt 0x200) := by
  change execSpareLoad n s = _
  rw [execSpareLoad, if_neg (Nat.not_le.mpr hn), if_neg (by simp [hrole, hserve])]

/-- The heartbeats by which a device registers with its stewards (R692). -/
def State.register (s : State) (l : List Nat) : State :=
  l.foldl (fun (u : State) n => u.mail n mailBeat (u.regBits Reg.HLT_DOMAIN 0 8) u.health.role.code) s

theorem State.register_health (s : State) (l : List Nat) : (s.register l).health = s.health :=
  State.foldl_same State.health (fun u n => State.mail_health u n mailBeat _ _) l s

theorem State.register_mem (s : State) (l : List Nat) : (s.register l).mem = s.mem :=
  State.foldl_same State.mem (fun u n => State.mail_mem u n mailBeat _ _) l s

theorem exec_spareTestDone {s : State} (hrole : s.health.role = .spareTest) (hdone : s.testsDone = true)
    (hquar : s.health.quar.any (fun p => s.quarHard p.1) = false) : ∃ l : List Nat, exec .spareTestDone s = .next
      (State.register { s with health := { s.health with role := .spareReady } } l) := by
  have hgo : ¬(s.health.role ≠ .spareTest ∨ (!s.testsDone) = true ∨ s.health.quar.any (fun p => s.quarHard p.1) = true) := by
    simp [hrole, hdone, hquar]
  exact ⟨_, if_neg hgo⟩

/-! ### The statement -/

/-- Settles O50: the period's end by what the fence leaves, expulsion by what mail leaves, the takeover by what a cell's messages leave. -/
theorem beatsAndExpulsion : Obligations.BeatsAndExpulsion := by
  unfold Obligations.BeatsAndExpulsion
  refine ⟨⟨fun s n h => ?_, fun s p hp => ⟨fun hiso => ?_, fun hiso hf => ?_, fun w hiso hf hw => ⟨fun hst => ?_, fun hst => ?_⟩⟩,
    fun p => ⟨fun h => if_pos h, fun h => if_neg (by simp [h])⟩, fun s n at0 hn h => ⟨fun hat => ?_, fun hat => ?_⟩⟩,
    fun s => ⟨fun h hat => ?_, fun h => ?_⟩, fun s hst hat => ?_, fun s r n hr hn => ⟨fun hst htok => ?_, fun htok => ?_⟩, fun s h => ?_,
    fun s => ⟨fun h => ?_, fun h => ?_⟩, fun s n hn => ⟨fun hrole hserve => ?_, fun hserve => ?_⟩, fun s hrole hdone hquar => ?_⟩
  · refine Gives.intro rfl ?_
    rw [h]
    rfl
  · refine Gives.intro (exec_heartbeatPeriodEnd hp) ?_
    rw [if_pos hiso, State.askWards_of_fenced p.fence_fenced]
    exact p.fence_fenced
  · refine Gives.intro (exec_heartbeatPeriodEnd hp) ?_
    rw [if_neg (by simp [hiso]), State.askWards_of_fenced hf]
  · refine Gives.intro (exec_heartbeatPeriodEnd hp) ?_
    rw [if_neg (by simp [hiso]), State.askWards_of_one hf hw, if_pos hst]
  · refine Gives.intro (exec_heartbeatPeriodEnd hp) ?_
    rw [if_neg (by simp [hiso]), State.askWards_of_one hf hw, if_neg hst]
  · have hexec := exec_takeoverUnmute hn h
    rw [if_neg (Nat.not_lt.mpr hat)] at hexec
    exact Gives.intro hexec (s.takeover_spec n at0 _ _ _ rfl)
  · exact Gives.intro ((exec_takeoverUnmute hn h).trans (if_pos hat)) rfl
  · exact Gives.intro (congrArg Host.Outcome.next (if_pos ⟨h, hat⟩)) rfl
  · exact Gives.intro (congrArg Host.Outcome.next (if_neg (by omega))) rfl
  · exact Gives.intro (congrArg Host.Outcome.next (if_pos ⟨hst, hat⟩)) ⟨rfl, .setHealth ..⟩
  · refine Gives.intro (exec_expelGrant hr hn) ?_
    rw [if_pos ⟨hst, htok⟩]
    exact s.grant_spec r n
  · exact Gives.intro (exec_expelGrant hr hn) (if_neg (by omega))
  · exact Gives.intro (exec_expelGrant_of_none h) rfl
  · refine Gives.intro (exec_workHandover h) ?_
    rw [State.setDev_health, State.setDev_start]
    obtain ⟨log, hlog⟩ := State.setExpel_health _ 4 _ _
    rw [hlog]
    exact ⟨rfl, rfl, rfl⟩
  · exact Gives.intro (if_pos h) rfl
  · refine Gives.intro (exec_spareLoad hn hrole hserve) ?_
    have hkeeps := State.startPair_keeps (State.ownWork { s with health :=
      { s.health with role := .active, roleBefore := .spareReady, serveFor := none, taken := true } } n)
    obtain ⟨hadm, hreg⟩ := hkeeps
    rw [State.ownWork_admitted] at hadm
    rw [State.hltEvt_health, State.hltEvt_reg _ (by decide), hreg, State.ownWork_reg]
    exact ⟨congrArg Prod.fst hadm, congrArg (fun x => x.2.1) hadm, congrArg (fun x => x.2.2) hadm, rfl⟩
  · exact Gives.intro ((if_neg (Nat.not_le.mpr hn)).trans (if_pos (.inr hserve))) rfl
  · obtain ⟨l, hexec⟩ := exec_spareTestDone hrole hdone hquar
    refine Gives.intro hexec ⟨?_, ?_⟩
    · exact congrArg Health.role (State.register_health _ l)
    · exact State.register_mem _ l

end Sys2Proof.Machine
end

section
/-! PROOFS. How service commands are taken and what their end leaves; NOP, NOTIFY, CANCEL and HANDLE_PUT (R58, R258, R288, R291, R592, R597,
R598). -/
namespace Sys2Proof.Machine

/-! ### The generation of a function outlives the log of an input (R613) -/

theorem State.post_gen (s : State) (f q : Nat) (r : Rec) (g : Nat) : ((s.post f q r).fn g).gen = (s.fn g).gen := by
  unfold State.post
  split
  · exact State.setFn_keeps Fn.gen s (by rfl) g
  · rfl

theorem State.statusNote_gen (s : State) (f g : Nat) : ((s.statusNote f).fn g).gen = (s.fn g).gen := by
  have hpost (o : Option Nat) (h : Bool) (q : Nat) (r : Rec) :
      (((s.setFn f { s.fn f with lastStatus := o, held := h }).post f q r).fn g).gen = (s.fn g).gen :=
    (State.post_gen ..).trans (State.setFn_keeps Fn.gen s (by rfl) g)
  unfold State.statusNote
  extract_lets x
  split
  · rfl
  · split
    · split
      · exact State.setFn_keeps Fn.gen s (by rfl) g
      · exact hpost ..
    · exact hpost ..

theorem State.raise_gen (s : State) (f n g : Nat) : ((s.raise f n).fn g).gen = (s.fn g).gen :=
  (State.statusNote_gen ..).trans (State.setFn_keeps Fn.gen s (by rfl) g)

theorem State.event_gen (s : State) (reg en m n g : Nat) : ((s.event reg en m n).fn g).gen = (s.fn g).gen := by
  unfold State.event
  extract_lets
  split
  · exact State.raise_gen ..
  · rfl

theorem State.logIn_gen (s : State) (cls kind source : Nat) (aux : DWord) (b : List Byte) (g : Nat) :
    ((s.logIn cls kind source aux b).fn g).gen = (s.fn g).gen := by
  unfold State.logIn
  split
  · split
    · unfold State.putRec
      extract_lets
      split
      · exact State.event_gen ..
      · split
        · exact State.event_gen ..
        · rfl
    · rfl
  · rfl

/-! ### Taking a service command -/

/-- A unit's command is taken as it stands, unless the hub's service queue is full (R258). -/
theorem State.svc_unit {s : State} {u op k : Nat} {r : Running} {c : Cmd} {x : Ctx} (hcur : s.cur u op = some (r, c, x))
    (hroom : 0x10000 ≤ u ∨ s.sched.service.length < 1024) :
    s.svc (.unit u) op k = some { cmd := c, ctx := some x, fn := if x.radio then pf0 else x.owner, rep := r.list.report, code := 0, st := s } := by
  have hopen : ¬(u < 0x10000 ∧ 1024 ≤ s.sched.service.length) := by omega
  simp only [State.svc, hcur, if_neg hopen]

/-- The function that owns a context, or PF0, may act for it until it is to end (R593). -/
theorem State.subCtx_of_owner {s : State} {fn id : Nat} {x : Ctx} (hx : s.ctx? id = some x) (hfn : fn = pf0 ∨ (x.radio = false ∧ x.owner = fn))
    (hend : x.ending = false) : s.subCtx fn id = (some x, 0) := by
  have hmay : ¬(fn ≠ pf0 ∧ (x.radio = true ∨ x.owner ≠ fn)) := by
    rintro ⟨hpf, hdeny⟩
    obtain ⟨hradio, howner⟩ := hfn.resolve_left hpf
    exact hdeny.elim (by simp [hradio]) (· howner)
  simp only [State.subCtx, hx, if_neg hmay, hend, Bool.false_eq_true, if_false]

theorem State.popSub_report (s : State) (fn q : Nat) :
    (s.popSub fn q).1 = .cq fn q (s.qp fn q).sqHead (s.fn fn).gen (s.qp fn q).accepted := by
  simp only [State.popSub, State.logIn_gen]

theorem State.popSub_qp (s : State) (fn q : Nat) : (s.popSub fn q).2.qp fn q =
    { s.qp fn q with sq := (s.qp fn q).sq.drop 1, sqHead := ((s.qp fn q).sqHead + 1) % ((s.qp fn q).sqSize + 1),
                     accepted := (s.qp fn q).accepted + 1 } :=
  State.setQp_qp ..

/-- A well-formed submission for a context that its function owns is taken off the head of the SQ (R590, R592, R593). -/
theorem State.svc_host {s : State} {fn q op k : Nat} {c : Cmd} {rest : List Cmd} {x : Ctx} (hsq : (s.qp fn q).sq = c :: rest) (hop : cOp c = op)
    (hready : s.subReady fn q = true) (hrole : s.health.role ≠ .expelled) (hok : s.subOk fn q c = true) (hk : k ≠ 0)
    (hctx : s.subCtx fn (cmdField c k 2) = (some x, 0)) :
    s.svc (.host fn q) op k =
      some { cmd := c, ctx := some x, fn := fn, rep := (s.popSub fn q).1, code := 0, st := (s.popSub fn q).2 } := by
  have htake : ¬(cOp c ≠ op ∨ (!s.subReady fn q) = true) := by simp [hop, hready]
  simp only [State.svc, hsq, if_neg htake, if_neg hrole, hok, Bool.not_true, Bool.false_eq_true, if_false, if_neg hk, hctx]

/-! ### The end of a service command -/

section
variable {s : State} {u : Nat} {r : Running} (hrun : s.run u = some r) (hend : r.ending = none) (rep : Report) (d : BitVec 128)
include hrun hend

theorem State.svcEnd_unit_refused {code : Nat} (hcode : code ≠ 0) : s.svcEnd (.unit u) rep code d = s.failList u code := by
  simp only [State.svcEnd, hrun, hend, Option.isSome_none, Bool.false_eq_true, if_false, if_pos hcode]

theorem State.svcEnd_unit_passed (hu : u < 0x10000) : s.svcEnd (.unit u) rep 0 d =
    { s.setRun u (some { r with stage := .onService }) with
      sched := { (s.setRun u (some { r with stage := .onService })).sched with
        service := (s.setRun u (some { r with stage := .onService })).sched.service ++ [u] } } := by
  simp only [State.svcEnd, hrun, hend, Option.isSome_none, Bool.false_eq_true, if_false, ne_eq, not_true_eq_false, State.toHub,
    if_neg (Nat.not_le.mpr hu)]

end

/-- An SQ that holds nothing has nothing to refuse. -/
theorem State.refuseBad_of_empty {s : State} {f q : Nat} (hsq : (s.qp f q).sq = []) (fuel : Nat) : s.refuseBad f q fuel = s := by
  cases fuel with
  | zero => rfl
  | succ fuel => simp only [State.refuseBad, hsq]

/-- The record of a submission waits for a free entry of its CQ (R598, R599). -/
theorem State.svcEnd_host_store {s : State} {f q : Nat} (hsq : (s.qp f q).sq = []) (hon : s.qpOn f q = true) (slot gen ord code : Nat)
    (d : BitVec 128) : ((s.svcEnd (.host f q) (.cq f q slot gen ord) code d).qp f q).store = (s.qp f q).store ++
      [{ code := code, kind := 0, slot := slot, ref := 0, detail := d, gen := gen, ord := ord }] := by
  have hpost (r : Rec) : (s.post f q r).qp f q = { s.qp f q with store := (s.qp f q).store ++ [r] } := by
    rw [State.post, if_pos hon, State.setQp_qp]
  change (((s.post f q _).refuseBad f q 4096).qp f q).store = _
  rw [State.refuseBad_of_empty (by rw [hpost]; exact hsq), hpost]

/-! ### The commands -/

section
variable {s : State} {o : Origin} {v : Svc} (hok : v.code = 0)
include hok

theorem exec_nop (hv : s.svc o 0x00 0 = some v) : exec (.nop o) s = .next (v.st.svcEnd o v.rep 0 0) := by
  change execNop o s = _
  exact State.service_of_done hv hok rfl

/-- NOTIFY in a host's list leaves a record for the list's CQ (R597, R598). -/
theorem exec_notify {u f q slot gen ord : Nat} {r : Running} (hv : s.svc (.unit u) 0x05 0 = some v) (hrun : s.run u = some r)
    (hown : r.list.own = false) (hrep : v.rep = .cq f q slot gen ord) :
    exec (.notify (.unit u)) s = .next ((v.st.post f q
      { code := 0, kind := 3, slot := 0xFFFF, ref := r.list.id, detail := BitVec.ofNat 128 (cmdField v.cmd 16 8), gen := gen, ord := ord,
        aux := r.list.ctx + r.idx * 2 ^ 16 }).svcEnd (.unit u) v.rep 0 0) := by
  change execNotify (.unit u) s = _
  refine State.service_of_done hv hok ?_
  simp only [hrep, hrun, hown, Bool.false_eq_true, if_false]

section
variable {x : Ctx} (hv : s.svc o 0x06 56 = some v) (hx : v.ctx = some x)
include hv hx

theorem exec_cancel_live (hlive : v.st.liveList x.id (BitVec.ofNat 64 (cmdField v.cmd 16 8)) = true) :
    exec (.cancel o) s = .next ((v.st.cancelList x.id (BitVec.ofNat 64 (cmdField v.cmd 16 8))).reapSteps.svcEnd o v.rep 0 0) := by
  change execCancel o s = _
  exact State.service_of_done hv hok (by simp only [hx, if_pos hlive])

theorem exec_cancel_absent (hlive : v.st.liveList x.id (BitVec.ofNat 64 (cmdField v.cmd 16 8)) = false) :
    exec (.cancel o) s = .next (v.st.svcEnd o v.rep 0x66 0) := by
  change execCancel o s = _
  exact State.service_of_done hv hok (by simp only [hx, hlive, Bool.false_eq_true, if_false])

end

/-- HANDLE_PUT releases its handle into the queue of its destination when there is room (R58, R261, R288). -/
theorem exec_handlePut {x : Ctx} {h : Handle} {t : State} (hv : s.svc o 0x07 56 = some v) (hx : v.ctx = some x)
    (hparse : parseHandle (leBytes 32 (cmdField v.cmd 16 32)) = some h) (hdctx : v.st.dctxOk x (cDctx v.cmd) = true)
    (hvis : h.visSet = true → stampOk h.vis = true ∧ v.st.time.st ≠ .freerun)
    (hput : v.st.putHandle (if cDctx v.cmd = 0xFFFF then x.id else cDctx v.cmd) (cRelq v.cmd) h = some t) :
    exec (.handlePut o) s = .next (t.svcEnd o v.rep 0 0) := by
  have hstamp : (h.visSet && !stampOk h.vis) = false := by
    cases hset : h.visSet
    · rfl
    · simp [(hvis hset).1]
  have hfree : (h.visSet && v.st.time.st == .freerun) = false := by
    cases hset : h.visSet
    · rfl
    · simpa using (hvis hset).2
  change execHandlePut o s = _
  refine State.service_of_done hv hok ?_
  simp only [hx, hparse, hdctx, hstamp, hfree, hput, Bool.not_true, Bool.false_eq_true, if_false]

end

/-- Settles O17, from what takes a service command, what its end leaves, and one lemma per command. -/
theorem serviceCommands : Obligations.ServiceCommands := by
  unfold Obligations.ServiceCommands
  refine ⟨⟨?_, ?_, ?_, ?_⟩, ?_⟩
  · intro s u op k r c x hcur hroom
    exact State.svc_unit hcur hroom
  · intro s fn q op k c rest x hsq hop hready hrole hok hk hx hfn hend
    have hqp := s.popSub_qp fn q
    exact ⟨_, State.svc_host hsq hop hready hrole hok hk (State.subCtx_of_owner hx hfn hend), rfl, rfl, rfl, by rw [hqp, hsq]; rfl,
      by rw [hqp], s.popSub_report fn q⟩
  · intro s u r rep code d hrun hend
    refine ⟨fun hcode => ?_, fun hu => ?_⟩
    · rw [State.svcEnd_unit_refused hrun hend rep d hcode]
      exact State.failList_run hrun
    · rw [State.svcEnd_unit_passed hrun hend rep d hu]
      exact ⟨State.setRun_run .., rfl⟩
  · intro s f q slot gen ord code d hsq hon
    exact State.svcEnd_host_store hsq hon slot gen ord code d
  · intro s o v hok
    refine ⟨fun hv => .intro (exec_nop hok hv) rfl, ?_, fun x hv hx => ⟨fun hlive => .intro (exec_cancel_live hok hv hx hlive) rfl,
      fun hlive => .intro (exec_cancel_absent hok hv hx hlive) rfl⟩, ?_⟩
    · rintro u r f q slot gen ord rfl hv hrun hown hrep
      exact .intro (exec_notify hok hv hrun hown hrep) rfl
    · intro x y h hv hx hparse hdctx hvis hy hout hin hroom
      exact .intro (exec_handlePut hok hv hx hparse hdctx hvis (State.putHandle_of_room hy hout hin hroom)) rfl

end Sys2Proof.Machine
end

section
/-! PROOFS. Placement directives on one page (R495, R496, R499, R502). -/
namespace Sys2Proof.Machine

/-! ### Page entries -/

@[simp] theorem State.setPage_page (s : State) (p : Nat) (x : Page) : (s.setPage p x).page p = x := by
  unfold State.setPage State.page
  split
  · next h => subst h; exact congrArg (Option.getD · ({} : Page)) (Tab.find_del_self s.tiers.pages p)
  · exact Tab.get_set_self ..

/-- One part of a page is its own entry. -/
theorem State.eachPart_one (s : State) (p : Nat) (f : Nat → Page → Page) : s.eachPart p 1 f = s.setPage p (f 0 (s.page p)) := rfl

theorem State.chargeUnits_mem (s : State) (t tier n : Nat) : (s.chargeUnits t tier n).mem = s.mem := by
  have head := Has.head
  have tail := Has.tail
  exact (State.chargeUnits_stays (ps := [.fns, .tiers, .regs]) _ t tier n (.refl _ s)).only.same .mem (by decide)

theorem State.releaseUnits_page (s : State) (t tier n p : Nat) : (s.releaseUnits t tier n).page p = s.page p := by
  unfold State.releaseUnits
  split <;> rfl

/-! ### A directive on one page -/

/-- The directive that asks for page `p` alone. -/
abbrev oneDir (op p tier die tenant ctx region : Nat) : Directive :=
  { op := op, page := p, large := false, tier := tier, die := die, tenant := tenant, ctx := ctx, region := region }

section
variable {s : State} {op p tier die tenant ctx region : Nat} (hp : p < 2 ^ 23) (hmoving : (s.page p).moving = false) (hlarge : (s.page p).large = false)
include hp hmoving hlarge

/-- What a directive on one page answers that no migration holds: the page's refusal, then the quotas, then the die (R496). -/
theorem State.directive_one {code : Nat} (hcode : s.pageRefusal (oneDir op p tier die tenant ctx region) (s.page p) = code)
    {k : Nat × Nat} (hk : s.unitsFor (oneDir op p tier die tenant ctx region) (s.page p) = k) :
    s.directive op (p * 65536) 1 tier die false tenant ctx region =
      let d := oneDir op p tier die tenant ctx region
      match [0xA3, 0xA2, 0xA4, 0xA9, 0xA6].find? (fun c => [code].contains c) with
      | some c => (c, s)
      | none =>
        if !s.fitsQuota tenant 1 (if k.1 = 1 then k.2 else 0) ∨ !s.fitsQuota tenant 2 (if k.1 = 2 then k.2 else 0) then (0xA7, s)
        else
          match s.workOf d (s.page p) with
          | .frame _ =>
            match s.dieWith (if op = dEvict then 2 else tier) 1 false (d.dieFor (s.page p)) (die != 0xFF) with
            | none => (0xA8, s)
            | some die => (0, s.actOn d die)
          | _ => (0, s.actOn d (d.dieFor (s.page p))) := by
  have hrange : ¬0x8000000000 < p * 65536 + 1 * 65536 := by omega
  have hpages : dirPages (p * 65536) 1 false = [p] := by simp [dirPages]
  cases hw : s.workOf (oneDir op p tier die tenant ctx region) (s.page p) with
  | frame t =>
    simp [State.directive, if_neg hrange, hpages, hlarge, hmoving, hcode, hk, hw]
    cases s.dieWith (if op = dEvict then 2 else tier) 1 false ((oneDir op p tier die tenant ctx region).dieFor (s.page p)) (die != 255) <;> rfl
  | done => simp [State.directive, if_neg hrange, hpages, hlarge, hmoving, hcode, hk, hw] <;> rfl
  | edit => simp [State.directive, if_neg hrange, hpages, hlarge, hmoving, hcode, hk, hw] <;> rfl

/-- A directive that changes no frame acts once page and quotas let it (R496). -/
theorem State.directive_one_still (hcode : s.pageRefusal (oneDir op p tier die tenant ctx region) (s.page p) = 0)
    (hk : s.unitsFor (oneDir op p tier die tenant ctx region) (s.page p) = (tier, 0))
    (hq1 : s.fitsQuota tenant 1 0 = true) (hq2 : s.fitsQuota tenant 2 0 = true)
    (hw : ∀ t, s.workOf (oneDir op p tier die tenant ctx region) (s.page p) ≠ .frame t) :
    s.directive op (p * 65536) 1 tier die false tenant ctx region =
      (0, s.actOn (oneDir op p tier die tenant ctx region) ((oneDir op p tier die tenant ctx region).dieFor (s.page p))) := by
  have hfits : ¬((!s.fitsQuota tenant 1 (if tier = 1 then 0 else 0)) = true ∨ (!s.fitsQuota tenant 2 (if tier = 2 then 0 else 0)) = true) := by
    simp [hq1, hq2]
  rw [State.directive_one hp hmoving hlarge hcode hk]
  dsimp only
  rw [if_neg hfits]
  cases hwork : s.workOf (oneDir op p tier die tenant ctx region) (s.page p) with
  | frame t => exact absurd hwork (hw t)
  | done => rfl
  | edit => rfl

end

/-! ### The entry and frame of a placed page (R495, R499, R502) -/

section
variable {s : State} {p tier die d f tenant ctx region : Nat}

theorem State.workOf_place (e : Page) : s.workOf (oneDir dPlace p tier die tenant ctx region) e = .frame tier := rfl

theorem State.unitsFor_place (hpage : s.page p = {}) : s.unitsFor (oneDir dPlace p tier die tenant ctx region) (s.page p) = (tier, 1) := by
  rw [hpage]
  rfl

/-- The state once the frame of a placed page is taken and charged. -/
abbrev State.framed (s : State) (tier d f tenant : Nat) : State := (s.takeFrames tier d f 1).chargeUnits tenant tier 1

theorem State.actOn_place (hpage : s.page p = {}) (hf : s.pickFrame tier d false = some f) :
    s.actOn (oneDir dPlace p tier die tenant ctx region) d =
      let u := s.framed tier d f tenant
      let t := ({ u with mem := u.mem.clear (frameAt tier d f 0) 65536 } : State).setPage p
        { tier := tier, die := d, frame := f, moving := true, owner := tenant }
      { t with tiers := { t.tiers with migs := t.tiers.migs ++ [{ dir := oneDir dPlace p tier die tenant ctx region, started := false, line := 0,
                                                                  fill := true, toTier := tier, toDie := d, toFrame := f }] } } := by
  have hshared : (s.page p).shared = false := by rw [hpage]
  simp only [State.actOn, State.workOf_place, State.unitsFor_place hpage, hf, hshared, Bool.false_eq_true, false_and, if_false, if_true,
    State.eachPart_one]
  rfl

/-- A PLACE of a page that is not mapped acts on the die found for it (R495, R496). -/
theorem State.directive_place (hp : p < 2 ^ 23) (hpage : s.page p = {})
    (hq1 : s.fitsQuota tenant 1 (if tier = 1 then 1 else 0) = true) (hq2 : s.fitsQuota tenant 2 (if tier = 2 then 1 else 0) = true)
    (hdie : s.dieWith tier 1 false (if die ≠ 0xFF then die else region / 3) (die != 0xFF) = some d) :
    s.directive dPlace (p * 65536) 1 tier die false tenant ctx region = (0, s.actOn (oneDir dPlace p tier die tenant ctx region) d) := by
  have hcode : s.pageRefusal (oneDir dPlace p tier die tenant ctx region) (s.page p) = 0 := by rw [hpage]; rfl
  have hfits : ¬((!s.fitsQuota tenant 1 (if tier = 1 then 1 else 0)) = true ∨ (!s.fitsQuota tenant 2 (if tier = 2 then 1 else 0)) = true) := by
    rw [hq1, hq2]; decide
  have hdie' : s.dieWith (if dPlace = dEvict then 2 else tier) 1 false ((oneDir dPlace p tier die tenant ctx region).dieFor (s.page p)) (die != 0xFF) =
      some d := hdie
  rw [State.directive_one hp (by rw [hpage]) (by rw [hpage]) hcode (State.unitsFor_place hpage)]
  dsimp only
  rw [if_neg hfits, State.workOf_place, hdie']
  rfl

/-- What a PLACE leaves: the entry of the page, and a frame that reads as zero (R502). -/
theorem State.actOn_place_entry (hpage : s.page p = {}) (hf : s.pickFrame tier d false = some f) :
    (s.actOn (oneDir dPlace p tier die tenant ctx region) d).page p = { tier := tier, die := d, frame := f, moving := true, owner := tenant } ∧
    (s.actOn (oneDir dPlace p tier die tenant ctx region) d).mem = s.mem.clear (frameAt tier d f 0) 65536 := by
  rw [State.actOn_place hpage hf]
  refine ⟨State.setPage_page .., ?_⟩
  change (s.framed tier d f tenant).mem.clear _ _ = _
  rw [State.chargeUnits_mem]
  rfl

end

/-! ### Directives on a page of the tenant's own -/

section
variable {s : State} {p tier die tenant ctx region : Nat} (htier : (s.page p).tier ≠ 0) (hshared : (s.page p).shared = false)
  (howner : (s.page p).owner = tenant)
include htier hshared howner

theorem State.pageRefusal_own {op : Nat} (hop : op ≠ dPlace) (hfree : op = dPromote ∨ op = dEvict → (s.page p).pinned = false) :
    s.pageRefusal (oneDir op p tier die tenant ctx region) (s.page p) = 0 := by
  have hpinned : ¬((op = dPromote ∨ op = dEvict) ∧ (!(s.page p).shared) = true ∧ (s.page p).pinned = true) := by
    rintro ⟨hop, -, hpin⟩
    rw [hfree hop] at hpin
    exact absurd hpin (by decide)
  simp [State.pageRefusal, hop, htier, hshared, howner] at hpinned ⊢
  exact hpinned

theorem State.pageRefusal_evict_pinned (hpin : (s.page p).pinned = true) :
    s.pageRefusal (oneDir dEvict p tier die tenant ctx region) (s.page p) = 0xA6 := by
  simp [State.pageRefusal, htier, hshared, howner, hpin]

end

section
variable {s : State} {p tier die tenant ctx region : Nat} (hp : p < 2 ^ 23) (hmoving : (s.page p).moving = false) (hlarge : (s.page p).large = false)
  (htier : (s.page p).tier ≠ 0) (hshared : (s.page p).shared = false) (howner : (s.page p).owner = tenant)
include hp hmoving hlarge htier hshared howner

theorem State.directive_evict_pinned (hpin : (s.page p).pinned = true) :
    s.directive dEvict (p * 65536) 1 tier die false tenant ctx region = (0xA6, s) := by
  rw [State.directive_one hp hmoving hlarge (State.pageRefusal_evict_pinned htier hshared howner hpin) rfl]
  rfl

variable (hq1 : s.fitsQuota tenant 1 0 = true) (hq2 : s.fitsQuota tenant 2 0 = true)
include hq1 hq2

/-- A directive that finds nothing to do, or only an entry to change, on a page of its tenant's. -/
theorem State.directive_own {op : Nat} {w : Work} (hop : op ≠ dPlace) (hfree : op = dPromote ∨ op = dEvict → (s.page p).pinned = false)
    (hw : s.workOf (oneDir op p tier die tenant ctx region) (s.page p) = w) (hstill : w = .done ∨ w = .edit) :
    s.directive op (p * 65536) 1 tier die false tenant ctx region =
      (0, s.actOn (oneDir op p tier die tenant ctx region) ((oneDir op p tier die tenant ctx region).dieFor (s.page p))) := by
  refine State.directive_one_still hp hmoving hlarge (State.pageRefusal_own htier hshared howner hop hfree) ?_ hq1 hq2 ?_
  · obtain rfl | rfl := hstill <;> simp [State.unitsFor, hshared, hw]
  · intro t
    rw [hw]
    obtain rfl | rfl := hstill <;> exact nofun

theorem State.directive_pin (hpin : (s.page p).pinned = false) : s.directive dPin (p * 65536) 1 tier die false tenant ctx region =
    (0, s.setPage p { s.page p with pinned := true }) := by
  have hw : s.workOf (oneDir dPin p tier die tenant ctx region) (s.page p) = .edit := by simp [State.workOf, hpin]
  rw [State.directive_own hp hmoving hlarge htier hshared howner hq1 hq2 (by decide) (fun h => absurd h (by decide)) hw (.inr rfl), State.actOn]
  simp only [hw]
  rfl

theorem State.directive_unpin (hpin : (s.page p).pinned = true) : s.directive dUnpin (p * 65536) 1 tier die false tenant ctx region =
    (0, s.setPage p { s.page p with pinned := false }) := by
  have hw : s.workOf (oneDir dUnpin p tier die tenant ctx region) (s.page p) = .edit := by simp [State.workOf, hpin]
  rw [State.directive_own hp hmoving hlarge htier hshared howner hq1 hq2 (by decide) (fun h => absurd h (by decide)) hw (.inr rfl), State.actOn]
  simp only [hw]
  rfl

/-- An EVICT from Mere unmaps the page and leaves its frame (R495, R502). -/
theorem State.directive_evict (hpin : (s.page p).pinned = false) : s.directive dEvict (p * 65536) 1 2 die false tenant ctx region =
    (0, ((s.setPage p {}).leaveFrames (s.page p).tier (s.page p).die (s.page p).frame 1).releaseUnits tenant (s.page p).tier 1) := by
  have hw : s.workOf (oneDir dEvict p 2 die tenant ctx region) (s.page p) = .edit := by simp [State.workOf, hshared]
  rw [State.directive_own hp hmoving hlarge htier hshared howner hq1 hq2 (by decide) (fun _ => hpin) hw (.inr rfl), State.actOn]
  simp only [hw, hshared]
  rfl

/-- A PROMOTE to where the page stands is counted and does nothing (R495). -/
theorem State.directive_promote_there (hpin : (s.page p).pinned = false) (hthere : (s.page p).tier = tier) (hdie : (s.page p).die = die) (hlt : die < 4) :
    s.directive dPromote (p * 65536) 1 tier die false tenant ctx region = (0, s.count Reg.MEM_NOOP_CNT 1) := by
  have hnamed : (oneDir dPromote p tier die tenant ctx region).dieFor (s.page p) = die := if_pos (by dsimp only; omega)
  have hw : s.workOf (oneDir dPromote p tier die tenant ctx region) (s.page p) = .done := by simp [State.workOf, hshared, hthere, hdie, hnamed]
  rw [State.directive_own hp hmoving hlarge htier hshared howner hq1 hq2 (by decide) (fun _ => hpin) hw (.inl rfl), State.actOn]
  simp only [hw]

end

/-! ### The service commands -/

/-- A page directive ends with the answer of the migration engine (R258, R496). -/
theorem State.service_pageCmd {s a : State} {o : Origin} {v : Svc} {x : Ctx} {op k code : Nat} (hok : v.code = 0) (hx : v.ctx = some x)
    (hd : v.st.directive op (cmdField v.cmd 16 8) (cmdField v.cmd 24 4) (cmdField v.cmd 28 1) (cmdField v.cmd 29 1) (cmdField v.cmd 30 1 == 1)
      x.asOwner x.id (x.cluster / 4) = (code, a)) (hv : s.svc o k 56 = some v) :
    s.service o k 56 (fun v => State.pageCmd v op) = .next (a.svcEnd o v.rep code 0) :=
  State.service_of_done hv hok (by simp only [State.pageCmd, hx, hd])

/-- Settles O19, from the answer of the service commands and from what a directive does to one page. -/
theorem pageDirectives : Obligations.PageDirectives := by
  unfold Obligations.PageDirectives
  refine ⟨?_, ?_⟩
  · intro s o v x code a hok hx op hd
    refine ⟨?_, ?_, ?_, ?_, ?_⟩ <;>
    · rintro rfl hv
      exact .intro (State.service_pageCmd hok hx hd hv) rfl
  · intro s p tier die tenant ctx region hp _ hmoving hlarge
    refine ⟨fun d f hpage hq1 hq2 hdie hf => ?_, fun htier hshared howner hq1 hq2 => ⟨fun hpin => ?_, fun hpin => ?_, fun hpin => ?_, fun hpin => ?_,
      fun hpin hthere hdie hlt => ?_⟩⟩
    · rw [State.directive_place hp hpage hq1 hq2 hdie]
      exact ⟨rfl, State.actOn_place_entry hpage hf⟩
    · rw [State.directive_pin hp hmoving hlarge htier hshared howner hq1 hq2 hpin]
      exact ⟨rfl, rfl⟩
    · rw [State.directive_unpin hp hmoving hlarge htier hshared howner hq1 hq2 hpin]
      exact ⟨rfl, rfl⟩
    · exact State.directive_evict_pinned hp hmoving hlarge htier hshared howner hpin
    · rw [State.directive_evict hp hmoving hlarge htier hshared howner hq1 hq2 hpin]
      refine ⟨rfl, ?_⟩
      rw [State.releaseUnits_page]
      exact State.setPage_page s p {}
    · exact State.directive_promote_there hp hmoving hlarge htier hshared howner hq1 hq2 hpin hthere hdie hlt

end Sys2Proof.Machine
end

section
/-! PROOFS. Migrations of pages, frames left behind, lines with errors, and upkeep of memory (R489, R498 to R503, R512 to R514, R521). -/
namespace Sys2Proof.Machine

/-! ### The list of migrations (R503) -/

theorem State.mig_page {s : State} {page : Nat} {m : Migration} (h : s.mig page = some m) : m.dir.page = page := by
  simpa using List.find?_some h

/-- The new record of a migration is what its page names. -/
theorem State.setMig_mig {s : State} {page : Nat} {m m' : Migration} (h : s.mig page = some m) (hdir : m'.dir = m.dir) :
    (s.setMig m').mig page = some m' := by
  have hpage : m'.dir.page = page := by rw [hdir, State.mig_page h]
  have hsame : ((fun x : Migration => x.dir.page == page) ∘ fun x => if x.dir.page = m'.dir.page then m' else x) = fun x => x.dir.page == page := by
    funext x
    dsimp only [Function.comp]
    split
    · next hx => simp [hx]
    · rfl
  change (s.tiers.migs.map _).find? _ = _
  rw [List.find?_map, hsame, (show s.tiers.migs.find? _ = _ from h)]
  simp [State.mig_page h, hpage]

theorem State.charge_tiers (s : State) (g k n : Nat) : (s.charge g k n).tiers = s.tiers := (s.charge_only g k n).same .tiers (by decide)

theorem State.charge_mem (s : State) (g k n : Nat) : (s.charge g k n).mem = s.mem := (s.charge_only g k n).same .mem (by decide)

/-- A migration's line is charged as written (R498, R615). -/
def State.lineWritten (s : State) (m : Migration) : State :=
  (s.charge m.dir.region 1 64).acct m.dir.tenant (if m.toTier = 1 then 8 else 10) 64

theorem State.lineWritten_tiers (s : State) (m : Migration) : (s.lineWritten m).tiers = s.tiers :=
  (State.acct_tiers ..).trans (State.charge_tiers ..)

theorem State.lineWritten_mem (s : State) (m : Migration) : (s.lineWritten m).mem = s.mem := (State.acct_mem ..).trans (State.charge_mem ..)

/-- A line read from the frame of entry `e` is charged too (R498, R615). -/
def State.lineRead (s : State) (m : Migration) (e : Page) : State :=
  (((s.lineWritten m).charge m.dir.region 0 64).acct m.dir.tenant (if e.tier = 1 then 7 else 9) 64).count64 Reg.MEM_MIG_BYTES 64

theorem State.lineRead_tiers (s : State) (m : Migration) (e : Page) : (s.lineRead m e).tiers = s.tiers := by
  rw [State.lineRead, State.count64_tiers, State.acct_tiers, State.charge_tiers, State.lineWritten_tiers]

theorem State.lineRead_mem (s : State) (m : Migration) (e : Page) : (s.lineRead m e).mem = s.mem := by
  rw [State.lineRead, State.count64_mem, State.acct_mem, State.charge_mem, State.lineWritten_mem]

/-- A line is read from the frame of entry `e` and written to the new one, poison with it (R498, R501, R513). -/
def State.lineCopied (s : State) (m : Migration) (e : Page) : State :=
  let o := frameAt e.tier e.die e.frame (64 * m.line)
  let n := frameAt m.toTier m.toDie m.toFrame (64 * m.line)
  let s := s.lineRead m e
  { s with mem := s.mem.copy o n 64, tiers := { s.tiers with poison :=
      (if s.tiers.poison.contains o && !s.tiers.poison.contains n then s.tiers.poison ++ [n] else s.tiers.poison) } }

theorem State.lineCopied_tiers (s : State) (m : Migration) (e : Page) :
    (s.lineCopied m e).tiers.pages = s.tiers.pages ∧ (s.lineCopied m e).tiers.migs = s.tiers.migs :=
  ⟨(congrArg Tiers.pages (s.lineRead_tiers m e) :), (congrArg Tiers.migs (s.lineRead_tiers m e) :)⟩

theorem State.lineCopied_mem (s : State) (m : Migration) (e : Page) : (s.lineCopied m e).mem =
    s.mem.copy (frameAt e.tier e.die e.frame (64 * m.line)) (frameAt m.toTier m.toDie m.toFrame (64 * m.line)) 64 := by
  rw [← s.lineRead_mem m e]
  rfl

section
variable {s : State} {page : Nat} {m : Migration} (hm : s.mig page = some m)
include hm

theorem exec_migrationStart (hwaits : m.started = false)
    (hroom : ((s.tiers.migs.filter (fun x => x.dir.region == m.dir.region)).filter (fun x => x.started)).length < 16)
    (hfirst : (s.tiers.migs.filter (fun x => x.dir.region == m.dir.region)).find? (fun x => !x.started) = some m) :
    exec (.migrationStart page) s = .next (s.setMig { m with started := true }) := by
  have hmay : (!m.started && decide (((s.tiers.migs.filter (fun x => x.dir.region == m.dir.region)).filter (fun x => x.started)).length < 16) &&
      ((s.tiers.migs.filter (fun x => x.dir.region == m.dir.region)).find? (fun x => !x.started) == some m)) = true := by
    rw [hwaits, hfirst, decide_eq_true hroom]
    simp
  change execMigrationStart page s = _
  simp only [execMigrationStart, hm]
  rw [if_pos hmay]

theorem exec_migrationLine_held (hadm : s.migAdmitted m = false) : exec (.migrationLine page) s = .next s := by
  change execMigrationLine page s = _
  simp [execMigrationLine, hm, hadm]

/-- A line is copied, or filled, when the region's shares hold it (R498, R501). -/
theorem exec_migrationLine (hstarted : m.started = true) (hline : m.line < m.lines) (hadm : s.migAdmitted m = true)
    (hwr : (s.sched.band.get {} m.dir.region).wr + 64 ≤ s.share m.dir.region 1)
    (hrd : m.fill = false → (s.sched.band.get {} m.dir.region).rd + 64 ≤ s.share m.dir.region 0) :
    exec (.migrationLine page) s = .next ((if m.fill then s.lineWritten m else s.lineCopied m (s.page page)).setMig { m with line := m.line + 1 }) := by
  have hgo : ¬((!m.started || decide (m.lines ≤ m.line) || !s.migAdmitted m || decide (s.share m.dir.region 1 < (s.sched.band.get {} m.dir.region).wr + 64) ||
      (!m.fill && decide (s.share m.dir.region 0 < (s.sched.band.get {} m.dir.region).rd + 64))) = true) := by
    simpa [hstarted, hadm] using ⟨⟨hline, hwr⟩, hrd⟩
  change execMigrationLine page s = _
  simp only [execMigrationLine, hm]
  rw [if_neg hgo]
  rfl

/-- What a line leaves: the count of lines, and the old frame's bytes in the new one unless it is filled. -/
theorem migrationLine_gives (hstarted : m.started = true) (hline : m.line < m.lines) (hadm : s.migAdmitted m = true)
    (hwr : (s.sched.band.get {} m.dir.region).wr + 64 ≤ s.share m.dir.region 1)
    (hrd : m.fill = false → (s.sched.band.get {} m.dir.region).rd + 64 ≤ s.share m.dir.region 0) :
    Gives (.migrationLine page) s (fun t => t.mig page = some { m with line := m.line + 1 } ∧ t.tiers.pages = s.tiers.pages ∧
      t.mem = (if m.fill then s.mem else s.mem.copy (frameAt (s.page page).tier (s.page page).die (s.page page).frame (64 * m.line))
        (frameAt m.toTier m.toDie m.toFrame (64 * m.line)) 64)) := by
  have hexec := exec_migrationLine hm hstarted hline hadm hwr hrd
  refine .intro hexec ?_
  cases hfill : m.fill
  · obtain ⟨hpages, hmigs⟩ := s.lineCopied_tiers m (s.page page)
    have hmig : (s.lineCopied m (s.page page)).mig page = some m := (congrArg (List.find? _) hmigs).trans hm
    simp only [Bool.false_eq_true, if_false]
    exact ⟨State.setMig_mig (m := m) hmig rfl, hpages, s.lineCopied_mem m (s.page page)⟩
  · have htiers := s.lineWritten_tiers m
    have hmig : (s.lineWritten m).mig page = some m := (congrArg (fun x : Tiers => x.migs.find? _) htiers).trans hm
    simp only [if_true]
    exact ⟨State.setMig_mig (m := m) hmig rfl, (congrArg Tiers.pages htiers :), s.lineWritten_mem m⟩

end

/-! ### The switch to the new frame (R499, R501, R502) -/

/-- With no directive deferred there is none to evaluate (R503). -/
theorem State.deferEval_of_none {s : State} (h : s.tiers.waiting = []) (page : Nat) : s.deferEval page = s := by
  simp only [State.deferEval, h, State.deferGo, List.find?_nil, ite_self]

/-- The state in which an unshared page's migration has ended: it is off the list and counted. -/
def State.migEnded (s : State) (page : Nat) (m : Migration) : State :=
  let s := { s with tiers := { s.tiers with migs := s.tiers.migs.filter (fun x => x.dir.page != page) } }
  (s.count64 Reg.MEM_MIG_PAGES 1).count (Reg.MEM_TENANT_MIG m.dir.tenant) (if m.dir.tenant < 1024 then 1 else 0)

theorem State.migEnded_mig (s : State) (page : Nat) (m : Migration) : (s.migEnded page m).mig page = none := by
  refine List.find?_eq_none.mpr fun x hx => ?_
  have hpage := (List.mem_filter.mp hx).2
  simpa using hpage

/-- The entry names the new frame; the one left behind waits for R502. -/
def State.migSwitched (s : State) (page : Nat) (m : Migration) : State :=
  let e := s.page page
  let t := (s.migEnded page m).setPage page { e with tier := m.toTier, die := m.toDie, frame := m.toFrame, moving := false }
  (t.leaveFrames e.tier e.die e.frame 1).releaseUnits e.owner e.tier 1

theorem State.releaseUnits_tiers (s : State) (t tier n : Nat) : ∃ l, (s.releaseUnits t tier n).tiers = { s.tiers with charged := l } := by
  unfold State.releaseUnits
  split <;> exact ⟨_, rfl⟩

theorem exec_migrationSwitch {s : State} {page : Nat} {m : Migration} (hm : s.mig page = some m) (hline : m.lines ≤ m.line) (hfill : m.fill = false)
    (hlarge : m.dir.large = false) (hshared : (s.page page).shared = false) (hwaiting : s.tiers.waiting = []) :
    exec (.migrationSwitch page) s = .next (s.migSwitched page m) := by
  have hdefer : (s.migSwitched page m).deferEval page = s.migSwitched page m := by
    refine State.deferEval_of_none ?_ page
    obtain ⟨l, hl⟩ := State.releaseUnits_tiers (((s.migEnded page m).setPage page
      { s.page page with tier := m.toTier, die := m.toDie, frame := m.toFrame, moving := false }).leaveFrames (s.page page).tier
        (s.page page).die (s.page page).frame 1) (s.page page).owner (s.page page).tier 1
    exact (congrArg Tiers.waiting hl).trans hwaiting
  change execMigrationSwitch page s = _
  simp only [execMigrationSwitch, hm]
  rw [if_neg (Nat.not_lt.mpr hline)]
  simp only [hfill, hlarge, hshared, Bool.false_eq_true, if_false]
  exact congrArg Host.Outcome.next hdefer

/-- What a switch leaves: the entry names the new frame, and the old one waits. -/
theorem State.migSwitched_leaves (s : State) (page : Nat) (m : Migration) :
    (s.migSwitched page m).mig page = none ∧ (s.migSwitched page m).mem = s.mem ∧
    (s.migSwitched page m).page page = { s.page page with tier := m.toTier, die := m.toDie, frame := m.toFrame, moving := false } ∧
    (s.migSwitched page m).tiers.old = s.tiers.old ++
      [{ tier := (s.page page).tier, die := (s.page page).die, frame := (s.page page).frame, count := 1, at0 := s.time.hub }] := by
  let e := s.page page
  let t := ((s.migEnded page m).setPage page { e with tier := m.toTier, die := m.toDie, frame := m.toFrame, moving := false }).leaveFrames
    e.tier e.die e.frame 1
  obtain ⟨l, hl⟩ := t.releaseUnits_tiers e.owner e.tier 1
  have hmem : (t.releaseUnits e.owner e.tier 1).mem = t.mem := by
    unfold State.releaseUnits
    split <;> rfl
  have hpage : t.page page = { e with tier := m.toTier, die := m.toDie, frame := m.toFrame, moving := false } :=
    State.setPage_page (s.migEnded page m) page { e with tier := m.toTier, die := m.toDie, frame := m.toFrame, moving := false }
  exact ⟨(congrArg (fun x : Tiers => x.migs.find? fun m => m.dir.page == page) hl :).trans (s.migEnded_mig page m), hmem,
    (State.releaseUnits_page ..).trans hpage, (congrArg Tiers.old hl :)⟩

/-- The frames left behind that have waited 64 hub cycles become free (R502). -/
theorem frameFree_gives (s : State) : Gives .frameFree s (fun t =>
    t.tiers.old = s.tiers.old.filter (fun o => !decide (o.at0 + 64 ≤ s.time.hub)) ∧ t.mem = s.mem ∧ t.tiers.pages = s.tiers.pages) := by
  let l := s.tiers.old.filter (fun o => decide (o.at0 + 64 ≤ s.time.hub))
  let give (s : State) (o : OldFrame) : State := s.giveFrames o.tier o.die o.frame o.count
  let u := l.foldl give s
  have hold : u.tiers.old = s.tiers.old := State.foldl_same (fun u => u.tiers.old) (f := give) (fun _ _ => rfl) l s
  have htime : u.time = s.time := State.foldl_same State.time (f := give) (fun _ _ => rfl) l s
  have hmem : u.mem = s.mem := State.foldl_same State.mem (f := give) (fun _ _ => rfl) l s
  have hpages : u.tiers.pages = s.tiers.pages := State.foldl_same (fun u => u.tiers.pages) (f := give) (fun _ _ => rfl) l s
  have hexec : exec .frameFree s = .next { u with tiers := { u.tiers with old := u.tiers.old.filter (fun o => !decide (o.at0 + 64 ≤ u.time.hub)) } } := rfl
  refine .intro hexec ⟨?_, hmem, hpages⟩
  change u.tiers.old.filter (fun o => !decide (o.at0 + 64 ≤ u.time.hub)) = _
  rw [hold, htime]

/-! ### Lines with errors (R512, R513) -/

/-- Spans none of whose lines has an error or is poisoned are read without a report. -/
theorem State.readSpans_of_whole {s : State} {l : List Span} (hweak : ∀ k ∈ s.tiers.weak, l.any (fun q => Span.hits q k) = false)
    (hbad : ∀ k ∈ s.tiers.bad, l.any (fun q => Span.hits q k) = false) (hpoison : ∀ k ∈ s.tiers.poison, l.any (fun q => Span.hits q k) = false)
    (tenant : Nat) : s.readSpans l tenant = (false, s) := by
  have hw : s.tiers.weak.filter (fun k => l.any (fun q => Span.hits q k)) = [] := List.filter_eq_nil_iff.mpr fun k hk => by simp [hweak k hk]
  have hb : s.tiers.bad.filter (fun k => l.any (fun q => Span.hits q k)) = [] := List.filter_eq_nil_iff.mpr fun k hk => by simp [hbad k hk]
  have hp : s.tiers.poison.find? (fun k => l.any (fun q => Span.hits q k)) = none := List.find?_eq_none.mpr fun k hk => by simp [hpoison k hk]
  simp only [State.readSpans, hw, List.foldl_nil, hb, hp]

section
variable (s : State)

theorem State.deduct_tiers (u n : Nat) : (s.deduct u n).tiers = s.tiers := by
  have head := Has.head
  have tail := Has.tail
  exact (State.deduct_stays (ps := [.lists, .units, .fns, .ports, .radio, .front, .fab, .rpl, .health, .start, .regs, .out]) _ u n
    (.refl _ s)).only.same .tiers (by decide)

theorem State.deduct_mem (u n : Nat) : (s.deduct u n).mem = s.mem := by
  have head := Has.head
  have tail := Has.tail
  exact (State.deduct_stays (ps := [.lists, .units, .fns, .ports, .radio, .front, .fab, .rpl, .health, .start, .regs, .out]) _ u n
    (.refl _ s)).only.same .mem (by decide)

theorem State.healthLog_tiers (kind unit ctx node : Nat) (d : DWord) : (s.healthLog kind unit ctx node d).tiers = s.tiers := by
  have head := Has.head
  have tail := Has.tail
  exact (State.healthLog_stays (ps := [.fns, .health, .regs]) _ kind unit ctx node d (.refl _ s)).only.same .tiers (by decide)

theorem State.healthLog_mem (kind unit ctx node : Nat) (d : DWord) : (s.healthLog kind unit ctx node d).mem = s.mem := by
  have head := Has.head
  have tail := Has.tail
  exact (State.healthLog_stays (ps := [.fns, .health, .regs]) _ kind unit ctx node d (.refl _ s)).only.same .mem (by decide)

theorem State.memLog_mem (kind tenant tier die frame page : Nat) : (s.memLog kind tenant tier die frame page).mem = s.mem := by
  have head := Has.head
  have tail := Has.tail
  exact (State.memLog_stays (ps := [.fns, .tiers, .regs]) _ kind tenant tier die frame page (.refl _ s)).only.same .mem (by decide)

/-- An entry of the memory log changes the log alone. -/
theorem State.memLog_tiers (kind tenant tier die frame page : Nat) :
    ∃ l, (s.memLog kind tenant tier die frame page).tiers = { s.tiers with log := l } := by
  unfold State.memLog
  extract_lets
  split
  · exact ⟨_, rfl⟩
  · exact ⟨_, State.memEvt_tiers _ _⟩

theorem State.corrected_tiers (u : Nat) : (s.corrected u).tiers = s.tiers := by
  have head := Has.head
  have tail := Has.tail
  exact (State.corrected_stays (ps := [.lists, .units, .fns, .ports, .radio, .front, .fab, .rpl, .health, .start, .regs, .out]) _ u
    (.refl _ s)).only.same .tiers (by decide)

theorem State.corrected_mem (u : Nat) : (s.corrected u).mem = s.mem := by
  have head := Has.head
  have tail := Has.tail
  exact (State.corrected_stays (ps := [.lists, .units, .fns, .ports, .radio, .front, .fab, .rpl, .health, .start, .regs, .out]) _ u
    (.refl _ s)).only.same .mem (by decide)

/-- A line with a correctable error is no longer in the list of such lines (R512). -/
theorem State.fixLine_leaves (l : Nat) :
    (s.fixLine l).tiers = { s.tiers with weak := s.tiers.weak.filter (fun k => k != l) } ∧ (s.fixLine l).mem = s.mem := by
  unfold State.fixLine
  extract_lets w _ u v
  rw [State.corrected_tiers, State.corrected_mem]
  have hv : v.tiers = u.tiers ∧ v.mem = u.mem := by
    dsimp only [v]
    split
    · exact ⟨State.memEvt_tiers .., State.memEvt_mem ..⟩
    · split
      · exact ⟨State.memEvt_tiers .., State.memEvt_mem ..⟩
      · exact ⟨rfl, rfl⟩
  exact hv

/-- A line with an uncorrectable error is poisoned (R513). -/
theorem State.poisonLine_leaves (l : Nat) : (s.poisonLine l).tiers.poison = s.tiers.poison ++ [l] ∧
    (s.poisonLine l).tiers.bad = s.tiers.bad.filter (fun k => k != l) ∧ (s.poisonLine l).mem = s.mem := by
  unfold State.poisonLine
  extract_lets w _ u owner v k x y
  obtain ⟨g, hg⟩ : ∃ g, v.tiers = { u.tiers with log := g } := State.memLog_tiers ..
  have hk : k.tiers = v.tiers ∧ k.mem = v.mem := by
    dsimp only [k]
    split
    · exact ⟨rfl, rfl⟩
    · split <;> exact ⟨rfl, rfl⟩
  have htiers : (y.healthLog 2 w.2.2.2 0 0 (BitVec.ofNat 64 l)).tiers = { u.tiers with log := g } := by
    rw [State.healthLog_tiers, State.deduct_tiers, State.memEvt_tiers, hk.1, hg]
  have hmem : (y.healthLog 2 w.2.2.2 0 0 (BitVec.ofNat 64 l)).mem = s.mem := by
    rw [State.healthLog_mem, State.deduct_mem, State.memEvt_mem, hk.2]
    exact State.memLog_mem ..
  exact ⟨(congrArg Tiers.poison htiers :), (congrArg Tiers.bad htiers :), hmem⟩

end

/-! ### Upkeep (R489, R514, R521) -/

/-- The scrubber of a die's tier has moved to line `i`, counted (R514, R521). -/
def State.scrubbed (s : State) (d k i : Nat) : State :=
  ({ s with tiers := { s.tiers with scrub := s.tiers.scrub.set k i } } : State).count64 (Reg.MEM_DIE_HUB_SLOTS d) 1

/-- The scrubber passes a line without errors (R514). -/
theorem exec_scrub {s : State} {d i k tier l : Nat} {mere : Bool} (hd : d < 4) (htier : tier = if mere then 2 else 1) (hk : k = if mere then 4 + d else d)
    (hi : i = s.tiers.scrub.get 0 k) (hl : l = frameAt tier d 0 (64 * i)) (hpoison : s.tiers.poison.any (fun p => Span.hits (l, 64) p) = false)
    (hweak : s.tiers.weak.any (fun p => Span.hits (l, 64) p) = false) (hbad : s.tiers.bad.any (fun p => Span.hits (l, 64) p) = false) :
    exec (.scrub d mere) s = .next (s.scrubbed d k ((i + 1) % (tierFrames tier * 1024))) := by
  have hany {m : List Nat} (h : m.any (fun p => Span.hits (l, 64) p) = false) (p : Nat) (hp : p ∈ m) :
      ([(l, 64)] : List Span).any (fun q => Span.hits q p) = false := by
    simpa using List.any_eq_false.mp h p hp
  have hread (n owner : Nat) : (s.scrubbed d k n).readSpans [(l, 64)] owner = (false, s.scrubbed d k n) :=
    State.readSpans_of_whole (s := s.scrubbed d k n) (hany hweak) (hany hbad) (hany hpoison) owner
  change execScrub d mere s = _
  subst htier hk hi hl
  rw [execScrub, if_neg (Nat.not_le.mpr hd)]
  exact congrArg (fun r : Bool × State => Host.Outcome.next r.2) (hread ..)

/-- Entries taken off the memory log: at most those held, from its tail (R191, R521). -/
def State.memAck (s : State) (n : Nat) : State :=
  let k := min (n % 2 ^ 11) (s.reg Reg.MEM_LOG_COUNT)
  let s := s.setReg Reg.MEM_LOG_TAIL ((s.reg Reg.MEM_LOG_TAIL + k) % 1024)
  s.setReg Reg.MEM_LOG_COUNT (s.reg Reg.MEM_LOG_COUNT - k)

theorem State.memAck_count (s : State) (n : Nat) : (s.memAck n).reg Reg.MEM_LOG_COUNT =
    s.reg Reg.MEM_LOG_COUNT - min (n % 2 ^ 11) (s.reg Reg.MEM_LOG_COUNT) := by
  have h := s.reg_lt Reg.MEM_LOG_COUNT
  rw [State.memAck, State.setReg_reg, State.setReg_reg_ne _ _ (by decide)]
  omega

theorem State.memAck_tail (s : State) (n : Nat) : (s.memAck n).reg Reg.MEM_LOG_TAIL =
    (s.reg Reg.MEM_LOG_TAIL + min (n % 2 ^ 11) (s.reg Reg.MEM_LOG_COUNT)) % 1024 := by
  rw [State.memAck, State.setReg_reg_ne _ _ (by decide), State.setReg_reg]
  omega

theorem exec_memLogAck {s : State} (hlive : s.replayed = false) (n : Nat) : exec (.memLogAck n) s =
    .next ((s.logIn 5 0x04 pf0 (BitVec.ofNat 64 (Reg.MEM_LOG_ACK + 2 * 2 ^ 48)) (leBytes 4 n)).memAck n) :=
  congrArg Host.Outcome.next (State.bar2_eq _ _ _ _ _ hlive)

/-- Settles O36, one command after another. -/
theorem pagesAndUpkeep : Obligations.PagesAndUpkeep := by
  unfold Obligations.PagesAndUpkeep
  refine ⟨⟨fun s page m hm => ⟨?_, ?_, ?_, ?_⟩, frameFree_gives⟩, ?_, ?_, ?_, ?_, ?_⟩
  · intro hwaits hroom hfirst
    exact .intro (exec_migrationStart hm hwaits hroom hfirst) ⟨State.setMig_mig hm rfl, rfl⟩
  · intro hstarted hline hadm hwr hrd
    exact migrationLine_gives hm hstarted hline hadm hwr hrd
  · intro _ _ hadm
    exact .intro (exec_migrationLine_held hm hadm) rfl
  · intro hline hfill hlarge hshared hwaiting _
    exact .intro (exec_migrationSwitch hm hline hfill hlarge hshared hwaiting) (s.migSwitched_leaves page m)
  · intro s d bank mere hd
    exact .intro (if_neg (Nat.not_le.mpr hd)) rfl
  · intro s d i k tier l mere hd htier hk hi hl hpoison hweak hbad
    refine .intro (exec_scrub hd htier hk hi hl hpoison hweak hbad) ⟨?_, rfl, rfl, State.setReg_reg ..⟩
    exact Tab.get_set_self ..
  · exact fun s l => s.poisonLine_leaves l
  · intro s l
    obtain ⟨htiers, hmem⟩ := s.fixLine_leaves l
    exact ⟨(congrArg Tiers.weak htiers :), (congrArg Tiers.poison htiers :), hmem⟩
  · intro s n hlive
    refine .intro (exec_memLogAck hlive n) ⟨?_, ?_⟩
    · rw [State.memAck_count, State.logIn_reg_ne _ _ _ _ _ _ (by decide)]
    · rw [State.memAck_tail, State.logIn_reg_ne _ _ _ _ _ _ (by decide), State.logIn_reg_ne _ _ _ _ _ _ (by decide)]

end Sys2Proof.Machine
end

section
/-! PROOFS. Links and paths of the fabric (R525 to R529, R551, R553, R609). -/
namespace Sys2Proof.Machine

/-! ### A port of the fabric -/

theorem State.count64_port (s : State) (a n p : Nat) : (s.count64 a n).port p = s.port p := rfl

/-- A message of the link layer is emitted at a port whose record has just changed. -/
theorem State.setPort_emit {s : State} (hlive : s.replayed = false) (p : Nat) (x : FabPort) (o : Output) :
    (s.setPort p x).emit o = { s.setPort p x with out := s.out ++ [o] } :=
  State.emit_of_live (s := s.setPort p x) hlive o

theorem State.setPort_emit_port {s : State} (hlive : s.replayed = false) (p : Nat) (x : FabPort) (o : Output) :
    ((s.setPort p x).emit o).port p = x := by
  rw [State.setPort_emit hlive]
  exact State.setPort_port ..

theorem State.setPort_emit_out {s : State} (hlive : s.replayed = false) (p : Nat) (x : FabPort) (o : Output) :
    ((s.setPort p x).emit o).out = s.out ++ [o] := by rw [State.setPort_emit hlive]

/-! ### Flits (R526, R528) -/

/-- An acknowledgement of a flit that is not held changes nothing. -/
theorem State.acked_of_none {s : State} {p seq : Nat} (h : indexOf (s.port p).held (fun f => f.seq == seq) = none) : s.acked p seq = s := by
  simp only [State.acked, h]

theorem State.acked_of_empty {s : State} {p : Nat} (h : (s.port p).held = []) (seq : Nat) : s.acked p seq = s :=
  State.acked_of_none (by rw [h]; rfl)

section
variable {s : State} {p : Nat} {b : List Byte} (hp : p < 3) (hup : (s.port p).live = true) (hlen : b.length = 256)
include hp hup hlen

theorem exec_flitReceive_bad (hcrc : (crc32 (b.take 252)).toNat ≠ byteField b 252 4) (hfirst : (s.port p).naked = false) :
    exec (.flitReceive p b) s = .next
      ((((s.count64 (Reg.FAB_PORT_FLITS_RX p) 1).count (Reg.FAB_PORT_CRC p) 1).setPort p { s.port p with naked := true }).emit
        (.linkAck p (s.port p).rxSeq true)) := by
  have hrun : ¬((!(s.port p).live || b.length != 256) = true) := by simp [hup, hlen]
  change execFlitReceive p b s = _
  rw [execFlitReceive, if_neg (Nat.not_le.mpr hp)]
  dsimp only
  rw [if_neg hrun, if_neg hcrc, hfirst]
  rfl

theorem exec_flitReceive_good (hcrc : (crc32 (b.take 252)).toNat = byteField b 252 4) :
    exec (.flitReceive p b) s = .next ((s.count64 (Reg.FAB_PORT_FLITS_RX p) 1).goodFlit p b) := by
  have hrun : ¬((!(s.port p).live || b.length != 256) = true) := by simp [hup, hlen]
  change execFlitReceive p b s = _
  rw [execFlitReceive, if_neg (Nat.not_le.mpr hp)]
  dsimp only
  rw [if_neg hrun, if_pos hcrc]

end

section
variable {s : State} {p : Nat} {b : List Byte} (hack : (byteField b 2 2).testBit 12 = false) (hheld : (s.port p).held = [])
  (hkind : byteField b 0 2 / 4096 ≠ 0)
include hack hheld hkind

/-- The flit that is next in order is acknowledged. -/
theorem State.goodFlit_next (hseq : byteField b 0 2 % 4096 = (s.port p).rxSeq) : s.goodFlit p b =
    (s.setPort p { s.port p with rxSeq := ((s.port p).rxSeq + 1) % 4096, naked := false }).emit (.linkAck p (s.port p).rxSeq false) := by
  rw [← hseq]
  simp only [State.goodFlit, hack, Bool.false_eq_true, if_false, State.acked_of_empty hheld, if_neg hkind]
  rw [if_pos hseq]

/-- The first flit out of order asks for a replay. -/
theorem State.goodFlit_gap (hseq : byteField b 0 2 % 4096 ≠ (s.port p).rxSeq) (hfirst : (s.port p).naked = false) : s.goodFlit p b =
    (s.setPort p { s.port p with naked := true }).emit (.linkAck p (s.port p).rxSeq true) := by
  simp only [State.goodFlit, hack, Bool.false_eq_true, if_false, State.acked_of_empty hheld, if_neg hkind, if_neg hseq, hfirst]

end

/-! ### Replay (R527, R528) -/

/-- A port that is UP resends from a flit that it holds, and its paths are in RETRY. -/
theorem State.replayFrom_up {s : State} {p seq i : Nat} (hlink : (s.port p).link = .up)
    (hbefore : indexOf (s.port p).held (fun x => x.seq == (seq + 4095) % 4096) = none)
    (hat : indexOf (s.port p).held (fun x => x.seq == seq) = some i) :
    s.replayFrom p seq = (((s.count (Reg.FAB_PORT_REPLAY p) 1).setPort p
      { s.port p with link := .replay, replayLeft := (s.port p).held.length }).emit (.replay p (((s.port p).held.drop i).map (·.seq)))).holdPaths := by
  simp only [State.replayFrom, State.acked_of_none hbefore, hat, if_pos hlink]

theorem State.holdPaths_port (s : State) (p : Nat) : s.holdPaths.port p = s.port p := rfl

section
variable {s : State} {p seq i : Nat} (hlive : s.replayed = false) (hlink : (s.port p).link = .up)
  (hbefore : indexOf (s.port p).held (fun x => x.seq == (seq + 4095) % 4096) = none)
  (hat : indexOf (s.port p).held (fun x => x.seq == seq) = some i)
include hlive hlink hbefore hat

/-- What a replay leaves: the port in REPLAY with what it holds, the counter, and the flits resent. -/
theorem State.replayFrom_leaves : ((s.replayFrom p seq).port p).link = .replay ∧ ((s.replayFrom p seq).port p).held = (s.port p).held ∧
    (s.replayFrom p seq).reg (Reg.FAB_PORT_REPLAY p) = (s.reg (Reg.FAB_PORT_REPLAY p) + 1) % 2 ^ 32 ∧
    (s.replayFrom p seq).out = s.out ++ [.replay p (((s.port p).held.drop i).map (fun x => x.seq))] := by
  have hlive' : (s.count (Reg.FAB_PORT_REPLAY p) 1).replayed = false := hlive
  rw [State.replayFrom_up hlink hbefore hat, State.setPort_emit hlive']
  have hport := (s.count (Reg.FAB_PORT_REPLAY p) 1).setPort_port p { s.port p with link := .replay, replayLeft := (s.port p).held.length }
  exact ⟨(congrArg FabPort.link hport :), (congrArg FabPort.held hport :), State.count_reg .., rfl⟩

end

section
variable {s : State} {p seq : Nat} (hp : p < 3)
include hp

theorem exec_nakReceive (hseq : seq < 4096) (hlink : (s.port p).link = .up) : exec (.nakReceive p seq) s = .next (s.replayFrom p seq) := by
  have hlive : ¬((!(s.port p).live) = true) := by simp [FabPort.live, hlink]
  change execNakReceive p seq s = _
  rw [execNakReceive, if_neg (Nat.not_le.mpr hp), if_neg hlive, Nat.mod_eq_of_lt hseq]

variable {f : Flit} {r : List Flit} (hheld : (s.port p).held = f :: r)
include hheld

theorem exec_ackTimeout (hlink : (s.port p).link = .up) (hlate : (s.port p).ackAt + 525 ≤ s.time.hub) : exec (.ackTimeout p) s = .next (s.replayFrom p f.seq) := by
  have hdue : ¬(((s.port p).link != .up || decide (s.time.hub < (s.port p).ackAt + ackCycles)) = true) := by simpa [hlink] using hlate
  change execAckTimeout p s = _
  rw [execAckTimeout, if_neg (Nat.not_le.mpr hp)]
  simp only [hheld]
  rw [if_neg hdue]

theorem exec_ackTimeout_early (hearly : s.time.hub < (s.port p).ackAt + 525) : exec (.ackTimeout p) s = .next s := by
  have hwait : ((s.port p).link != .up || decide (s.time.hub < (s.port p).ackAt + ackCycles)) = true := by simp [hearly]
  change execAckTimeout p s = _
  rw [execAckTimeout, if_neg (Nat.not_le.mpr hp)]
  simp only [hheld]
  rw [if_pos hwait]

end

/-! ### A link lost and trained (R527, R528, R609) -/

section
variable {s : State} {p : Nat} (hp : p < 3)
include hp

theorem exec_linkLost (hup : (s.port p).live = true) (hlate : (s.port p).held.any (fun f => decide (f.at0 + 2400 ≤ s.time.hub)) = true) :
    exec (.linkLost p) s = .next (((s.count (Reg.FAB_PORT_LOST p) 1).fabEvt 1).losePlane p .train) := by
  have hdue : ¬((!(s.port p).live || !(s.port p).held.any (fun f => decide (f.at0 + lostCycles ≤ s.time.hub))) = true) := by
    simp only [hup, hlate]
    decide
  change execLinkLost p s = _
  rw [execLinkLost, if_neg (Nat.not_le.mpr hp)]
  dsimp only
  rw [if_neg hdue]

theorem exec_lossOfSignal (hlink : (s.port p).link ≠ .down) : exec (.lossOfSignal p) s = .next ((s.fabEvt 2).losePlane p .down) := by
  change execLossOfSignal p s = _
  rw [execLossOfSignal, if_neg (Nat.not_le.mpr hp), if_neg hlink]

end

/-- A plane without requests is lost: its port starts again, and nothing of the memory or of the counters changes. -/
theorem State.losePlane_idle_leaves {s : State} (p : Nat) (l : LinkSt) (h : s.fab.reqs = []) :
    (s.losePlane p l).port p = { s.port p with link := l, held := [], replayLeft := 0, naked := false, txSeq := 0, rxSeq := 0 } ∧
    (s.losePlane p l).mem = s.mem ∧ (s.losePlane p l).regs = s.regs := by
  rw [State.losePlane_of_idle s p l h]
  exact ⟨State.setPort_port s p _, rfl, rfl⟩

/-- With no request in flight none waits for a plane. -/
theorem State.wakeAtomics_of_idle {s : State} (h : s.fab.reqs = []) : s.wakeAtomics = s := by
  rw [State.wakeAtomics, h]
  rfl

theorem exec_linkTrained {s : State} {p : Nat} (hp : p < 3) (hreqs : s.fab.reqs = []) (hlink : (s.port p).link = .train)
    (hserved : s.start.served = true) (hon : (s.host.ports.get {} (16 + p)).st = .on) :
    exec (.linkTrained p) s = .next (({ s with host := { s.host with ports := s.host.ports.set (16 + p) { st := .on } } } : State).setPort p
      { s.port p with link := .up, txSeq := 0, rxSeq := 0, naked := false, held := [], replayLeft := 0, ackAt := s.time.hub }) := by
  have hready : ¬(((s.port p).link != .train || !s.start.served || (s.host.ports.get {} (16 + p)).st == .off ||
      (s.host.ports.get {} (16 + p)).st == .stopping) = true) := by
    rw [hlink, hserved, hon]
    decide
  have hstay : ¬((s.host.ports.get {} (16 + p)).st = .starting ∧ (s.host.ports.get {} (16 + p)).pend = true) := by
    rw [hon]
    exact fun h => absurd h.1 (by decide)
  change execLinkTrained p s = _
  rw [execLinkTrained, if_neg (Nat.not_le.mpr hp)]
  dsimp only
  rw [if_neg hready, if_neg hstay, if_neg (by decide)]
  exact congrArg Host.Outcome.next (State.wakeAtomics_of_idle hreqs)

/-! ### Paths (R525, R529, R551) -/

/-- The notices in force for a destination on a plane are dropped. -/
theorem State.dropNote_both (s : State) (p node : Nat) :
    s.dropNote p node true true = { s with fab := { s.fab with paths := s.fab.paths.filter (fun (n : PathNote) => !(n.plane == p && n.node == node)) } } := by
  have hkind (n : PathNote) : (!(n.plane == p && n.node == node && ((n.lost && true) || (!n.lost && true)))) = !(n.plane == p && n.node == node) := by
    cases n.lost <;> simp
  simp only [State.dropNote, hkind]

/-- A notice joins those in force. -/
def State.addNote (s : State) (p node : Nat) (lost : Bool) : State :=
  { s with fab := { s.fab with paths := s.fab.paths ++ [({ plane := p, node := node, lost := lost, at0 := s.now } : PathNote)] } }

theorem State.addNote_pathLost (s : State) (p node : Nat) : (s.addNote p node true).pathLost p node = true := by
  simp [State.pathLost, State.addNote]

theorem State.addNote_pathRetry (s : State) (p node : Nat) : (s.addNote p node false).pathRetry p node = true := by
  have hfresh : s.now < s.now + usTc 2 := Nat.lt_add_of_pos_right (by decide)
  have hnow : (s.addNote p node false).now = s.now := rfl
  have hpaths : (s.addNote p node false).fab.paths = s.fab.paths ++ [{ plane := p, node := node, lost := false, at0 := s.now }] := rfl
  rw [State.pathRetry, hnow, hpaths, List.any_append]
  simp [hfresh]

section
variable (s : State) {p : Nat} (node : Nat) (hp : p < 3)
include hp

theorem exec_pathRetry : exec (.pathRetry p node) s = .next ((s.dropNote p node false true).addNote p node false).holdPaths := by
  change execPathRetry p node s = _
  rw [execPathRetry, if_neg (Nat.not_le.mpr hp)]
  rfl

theorem exec_pathOk : exec (.pathOk p node) s = .next ((s.dropNote p node true true).resumePaths).wakeAtomics := by
  change execPathOk p node s = _
  rw [execPathOk, if_neg (Nat.not_le.mpr hp)]

theorem exec_pathLost : exec (.pathLost p node) s = .next (((s.dropNote p node true true).addNote p node true).loseReqs
    (fun (r : Req) => r.plane == p && r.txn.dest % 4096 == node && (r.st == .sent || r.st == .held))) := by
  change execPathLost p node s = _
  rw [execPathLost, if_neg (Nat.not_le.mpr hp)]
  rfl

theorem exec_pathRetryLapse (hdue : s.fab.paths.any (fun n => n.plane == p && n.node == node && !n.lost && decide (n.at0 + usTc 2 ≤ s.now)) = true) :
    exec (.pathRetryLapse p node) s = .next (s.dropNote p node false true).resumePaths := by
  change execPathRetryLapse p node s = _
  rw [execPathRetryLapse, if_neg (Nat.not_le.mpr hp), if_pos hdue]

end

/-- A request sent on a path that enters RETRY is held, its timer stopped (R551, R552). -/
theorem State.holdPaths_held {s : State} {r : Req} (hr : r ∈ s.fab.reqs) (hsent : r.st = .sent)
    (hretry : s.pathRetry r.plane (r.txn.dest % 4096) = true) :
    { r with st := .held, ran := r.ran + (s.now - r.since) } ∈ s.holdPaths.fab.reqs :=
  List.mem_map.mpr ⟨r, hr, if_pos ⟨hsent, hretry⟩⟩

theorem State.loseReqs_of_idle {s : State} (h : s.fab.reqs = []) (f : Req → Bool) : s.loseReqs f = s := by
  rw [State.loseReqs, h]
  rfl

/-- The only request in flight is given up when it is on the path. -/
theorem State.loseReqs_one {s : State} {r : Req} {f : Req → Bool} (hreqs : s.fab.reqs = [r]) (hr : f r = true) (hop : r.txn.op ≠ 3) :
    s.loseReqs f = s.abandon r 0xB0 := by
  simp [State.loseReqs, hreqs, hr, State.giveUp, hop]

/-- A path whose notice of RETRY is dropped is no longer in RETRY. -/
theorem State.dropNote_pathRetry (s : State) (p node : Nat) (hlink : (s.port p).link ≠ .replay) :
    (s.dropNote p node false true).pathRetry p node = false := by
  have hport : (s.dropNote p node false true).port p = s.port p := rfl
  have hnone : (s.dropNote p node false true).fab.paths.any (fun n => n.plane == p && n.node == node && !n.lost &&
      decide ((s.dropNote p node false true).now < n.at0 + usTc 2)) = false := by
    refine List.any_eq_false.mpr fun n hn => ?_
    have hkept : (!(n.plane == p && n.node == node && ((n.lost && false) || (!n.lost && true)))) = true := (List.mem_filter.mp hn).2
    cases hlost : n.lost <;> simp [hlost] at hkept ⊢
    exact fun hplane hnode => absurd hnode (hkept.resolve_left (not_not.mpr hplane))
  rw [State.pathRetry, hport, hnone, Bool.or_false]
  simpa using hlink

theorem State.mem_planes (s : State) (node p : Nat) : p ∈ s.planes node ↔ p < 3 ∧ (s.port p).link = .up ∧ s.pathLost p node = false := by
  have hthree : p ∈ [0, 1, 2] ↔ p < 3 := by simp; omega
  rw [State.planes, List.mem_filter, hthree]
  simp

/-- Settles O37, one command after another. -/
theorem linksAndPaths : Obligations.LinksAndPaths := by
  unfold Obligations.LinksAndPaths
  refine ⟨⟨?flit, ?replay, ?link⟩, ?path, fun s node p => s.mem_planes node p⟩
  case flit =>
    intro s p b hp hlive hup hlen
    refine ⟨fun hcrc hfirst => ?_, fun hcrc hack hseq hkind hheld => ?_, fun hcrc hack hseq hkind hheld hfirst => ?_⟩
    · have hlive' : ((s.count64 (Reg.FAB_PORT_FLITS_RX p) 1).count (Reg.FAB_PORT_CRC p) 1).replayed = false := hlive
      refine .intro (exec_flitReceive_bad hp hup hlen hcrc hfirst) ?_
      rw [State.setPort_emit_port hlive', State.setPort_emit_out hlive']
      refine ⟨rfl, rfl, rfl, ?_⟩
      rw [State.setPort_emit hlive']
      change (State.count _ _ _).reg _ = _
      rw [State.count_reg, State.count64, State.setReg_reg_ne _ _ (by dsimp only [Reg.FAB_PORT_CRC, Reg.FAB_PORT_FLITS_RX]; omega)]
    · have hexec := exec_flitReceive_good hp hup hlen hcrc
      rw [State.goodFlit_next (s := s.count64 (Reg.FAB_PORT_FLITS_RX p) 1) hack (by exact hheld) hkind hseq] at hexec
      refine .intro hexec ?_
      rw [State.setPort_emit_port (by exact hlive), State.setPort_emit_out (by exact hlive)]
      exact ⟨rfl, rfl, rfl⟩
    · have hexec := exec_flitReceive_good hp hup hlen hcrc
      rw [State.goodFlit_gap (s := s.count64 (Reg.FAB_PORT_FLITS_RX p) 1) hack (by exact hheld) hkind hseq hfirst] at hexec
      refine .intro hexec ?_
      rw [State.setPort_emit_port (by exact hlive), State.setPort_emit_out (by exact hlive)]
      exact ⟨rfl, rfl, rfl⟩
  case replay =>
    intro s p seq f r hp hlive hseq hlink hheld hbefore
    refine ⟨fun i hat => ?_, fun hf hlate => ?_, fun hearly => .intro (exec_ackTimeout_early hp hheld hearly) rfl⟩
    · obtain ⟨hst, hkeep, hcount, hout⟩ := State.replayFrom_leaves hlive hlink (by rw [hheld]; exact hbefore) (by rw [hheld]; exact hat)
      rw [hheld] at hkeep hout
      exact .intro (exec_nakReceive hp hseq hlink) ⟨hst, hkeep, hcount, hout⟩
    · subst hf
      have hat : indexOf (f :: r) (fun x => x.seq == f.seq) = some 0 := by simp [indexOf]
      obtain ⟨hst, hkeep, -, hout⟩ := State.replayFrom_leaves hlive hlink (by rw [hheld]; exact hbefore) (by rw [hheld]; exact hat)
      rw [hheld] at hkeep hout
      exact .intro (exec_ackTimeout hp hheld hlink hlate) ⟨hst, hkeep, hout⟩
  case link =>
    intro s p hp hreqs
    refine ⟨fun hup hlate => ?_, fun hlink => ?_, fun hlink hserved hon => ?_⟩
    · have hidle : ((s.count (Reg.FAB_PORT_LOST p) 1).fabEvt 1).fab.reqs = [] := by rw [State.fabEvt_fab]; exact hreqs
      obtain ⟨hport, -, hregs⟩ := State.losePlane_idle_leaves p .train hidle
      refine .intro (exec_linkLost hp hup hlate) ?_
      rw [hport]
      refine ⟨rfl, rfl, rfl, rfl, ?_⟩
      rw [State.reg, hregs, State.fabEvt, State.event_get_ne _ _ _ _ _ (by dsimp only [Reg.FAB_PORT_LOST, Reg.FAB_EVT]; omega)
        (by dsimp only [Reg.FAB_PORT_LOST, Reg.HIF_QOFF_DROP]; omega)]
      exact State.count_reg ..
    · have hidle : (s.fabEvt 2).fab.reqs = [] := by rw [State.fabEvt_fab]; exact hreqs
      obtain ⟨hport, hmem, -⟩ := State.losePlane_idle_leaves p .down hidle
      refine .intro (exec_lossOfSignal hp hlink) ?_
      rw [hport, hmem, State.fabEvt_mem]
      exact ⟨rfl, rfl, rfl⟩
    · refine .intro (exec_linkTrained hp hreqs hlink hserved hon) ?_
      rw [State.setPort_port]
      exact ⟨rfl, rfl, rfl, rfl, congrArg Enable.st (Tab.get_set_self ..)⟩
  case path =>
    intro s p node hp
    refine ⟨?_, fun hreqs => ?_, fun hreqs => ?_, fun r u hreqs hplane hdest hsent hop hu => ?_, fun hdue hlink => ?_⟩
    · have hretry := (s.dropNote p node false true).addNote_pathRetry p node
      refine .intro (exec_pathRetry s node hp) ⟨hretry, fun r hr hplane hdest hsent => ?_⟩
      exact State.holdPaths_held (s := (s.dropNote p node false true).addNote p node false) hr hsent (by rw [hplane, hdest]; exact hretry)
    · have hexec := exec_pathOk s node hp
      have hidle : ((s.dropNote p node true true).resumePaths).fab.reqs = [] := congrArg (List.map _) hreqs
      rw [State.wakeAtomics_of_idle hidle] at hexec
      have hpaths : (s.dropNote p node true true).resumePaths.fab.paths = s.fab.paths.filter (fun (n : PathNote) => !(n.plane == p && n.node == node)) := by
        rw [State.dropNote_both]
        rfl
      refine .intro hexec ⟨?_, hpaths⟩
      rw [State.pathLost, hpaths]
      refine List.any_eq_false.mpr fun n hn => ?_
      have hother := (List.mem_filter.mp hn).2
      simp only [Bool.not_eq_true'] at hother
      simp [hother]
    · have hexec := exec_pathLost s node hp
      rw [State.loseReqs_of_idle (by exact hreqs)] at hexec
      exact .intro hexec (State.addNote_pathLost ..)
    · have hexec := exec_pathLost s node hp
      rw [State.loseReqs_one (r := r) (by exact hreqs) (by simp [hplane, hdest, hsent]) hop, State.dropNote_both] at hexec
      subst hu
      exact .intro hexec rfl
    · exact .intro (exec_pathRetryLapse s node hp hdue) (s.dropNote_pathRetry p node hlink)

end Sys2Proof.Machine
end

section
/-! PROOFS. Responses to the device's own requests, their timers and back-offs (R551 to R561). -/
namespace Sys2Proof.Machine

/-! ### Transactions that arrive -/

/-- A transaction acts when its code is the command's and its port, if it came over one, carries flits and no replay runs (R651). -/
theorem State.inRow_acts {s : State} {p op : Nat} {t : Txn} (hp : p < 4) (hport : p < 3 → (s.port p).live = true ∧ s.replayed = false)
    (hop : t.op = op) (f : State) : s.inRow p t op f = .next f := by
  have hup : ¬(t.op ≠ op ∨ (p < 3 ∧ (!(s.port p).live) = true)) := by
    rintro (h | ⟨hp, hdown⟩)
    · exact h hop
    · rw [(hport hp).1] at hdown
      exact absurd hdown (by decide)
  have hlive : ¬(p < 3 ∧ s.replayed = true) := fun ⟨hp, hr⟩ => by
    rw [(hport hp).2] at hr
    exact absurd hr (by decide)
  rw [State.inRow, if_neg (Nat.not_le.mpr hp), if_neg hup, if_neg hlive]

/-! ### Responses that meet their request (R530, R553) -/

/-- The state once a response is logged (R641). -/
def State.respLogged (s : State) (p : Nat) (r : Req) (t : Txn) : State :=
  if p < 3 then s.logIn 4 0x21 p 0 (leBytes 16 r.key.toNat ++ t.header ++ t.data) else s

section
variable {s : State} {p : Nat} {t : Txn} {r : Req} (hdest : t.dest = s.self) (hreq : s.fab.reqs.find? (fun r => r.tag == t.tag && r.fits t) = some r)
include hdest hreq

theorem State.response_logged (hop : t.op ≠ 0x84) : s.response p t = (s.respLogged p r t).respIn r t := by
  simp only [State.response, if_pos hdest, hreq, State.respLogged, hop, ne_eq, not_false_eq_true, and_true]

theorem State.response_nack (hop : t.op = 0x84) : s.response p t = s.nacked r t := by
  simp only [State.response, if_pos hdest, hreq, State.respIn, hop, ne_eq, not_true_eq_false, and_false, if_false, if_true]

end

/-- A response whose request has ended is discarded and counted (R555). -/
theorem State.response_late {s : State} {t : Txn} (h : s.fab.reqs.any (fun r => r.tag == t.tag) = false) (p : Nat) :
    s.response p t = s.count Reg.FAB_LATE_RESP 1 := by
  have hnone : s.fab.reqs.find? (fun r => r.tag == t.tag && r.fits t) = none := by
    refine List.find?_eq_none.mpr fun r hr => ?_
    simp [Bool.eq_false_iff.mpr (List.any_eq_false.mp h r hr)]
  simp only [State.response, hnone, ite_self]

theorem State.respIn_done {s : State} {r : Req} {t : Txn} (hnack : t.op ≠ 0x84) (herr : t.op ≠ 0x85) : s.respIn r t = s.reqDone r t := by
  rw [State.respIn, if_neg hnack, if_neg herr]

theorem State.respIn_error {s : State} {r : Req} {t : Txn} (hop : t.op = 0x85) (hknown : ¬(r.txn.op = 3 ∧ t.status = 0xBD)) :
    s.respIn r t = s.endReq r t.status := by
  rw [State.respIn, if_neg (by rw [hop]; decide), if_pos hop, if_neg hknown]

theorem State.respIn_unknown {s : State} {r : Req} {t : Txn} (hop : t.op = 0x85) (hatomic : r.txn.op = 3) (hstatus : t.status = 0xBD) :
    s.respIn r t = s.unknown r := by
  rw [State.respIn, if_neg (by rw [hop]; decide), if_pos hop, if_pos ⟨hatomic, hstatus⟩]

/-! ### Tracked requests -/

theorem nsTc_mono {m n : Nat} (h : m ≤ n) : nsTc m ≤ nsTc n := by
  unfold nsTc ceilDiv
  omega

/-- The new record of a live request stands among the requests. -/
theorem State.mem_setReq {s : State} {r q : Req} (hr : r ∈ s.fab.reqs) (htag : q.tag = r.tag) : q ∈ (s.setReq q).fab.reqs :=
  List.mem_map.mpr ⟨r, hr, if_pos htag.symm⟩

/-- A NACK within NACK_MAX puts its request in back-off, for the delay that it names at least (R553, R554). -/
theorem State.nacked_backoff {s : State} {r : Req} {t : Txn} (hr : r ∈ s.fab.reqs) (hmax : r.nacks + 1 ≤ s.regBits Reg.FAB_CFG 24 7) :
    (s.nacked r t).reg Reg.FAB_NACK_RX = (s.reg Reg.FAB_NACK_RX + 1) % 2 ^ 32 ∧
    ∃ q ∈ (s.nacked r t).fab.reqs, q.tag = r.tag ∧ q.st = .backoff ∧ q.nacks = r.nacks + 1 ∧ s.now + nsTc (bits t.opfield 0 32) ≤ q.due := by
  have hcfg : (s.count Reg.FAB_NACK_RX 1).regBits Reg.FAB_CFG 24 7 = s.regBits Reg.FAB_CFG 24 7 := by
    rw [State.regBits, State.count_get_ne _ _ (by decide)]
    rfl
  have hfew : ¬(s.count Reg.FAB_NACK_RX 1).regBits Reg.FAB_CFG 24 7 < r.nacks + 1 := by rw [hcfg]; exact Nat.not_lt.mpr hmax
  simp only [State.nacked, if_neg hfew]
  refine ⟨State.count_reg .., _, State.mem_setReq (r := r) hr rfl, rfl, rfl, rfl, ?_⟩
  exact Nat.add_le_add_left (nsTc_mono (Nat.le_add_right ..)) _

/-- An errand of the hub that needs nothing more leaves the list of requests alone. -/
theorem State.reqDone_hub {s : State} {r : Req} {k : Nat} (hserves : r.serves = .hub k) (hk : k < 1000 ∨ (1256 ≤ k ∧ k < 2000)) (t : Txn) :
    (s.reqDone r t).fab.reqs = s.fab.reqs.filter (fun q => q.tag != r.tag) := by
  have hjoin : ¬(1000 ≤ k ∧ k < 1256) := by omega
  have hring : ¬(2000 ≤ k ∧ k < 2016) := by omega
  have hhead : ¬(3000 ≤ k ∧ k < 3016) := by omega
  have hsteward : ¬10000 ≤ k := by omega
  simp only [State.reqDone, State.countIn, hserves, State.hubBack, if_neg hjoin, if_neg hring, if_neg hhead, if_neg hsteward]
  rfl

theorem State.endReq_hub {s : State} {r : Req} {k : Nat} (hserves : r.serves = .hub k) (hk : k < 1000) (code : Nat) :
    (s.endReq r code).fab.reqs = s.fab.reqs.filter (fun q => q.tag != r.tag) := by
  have hjoin : ¬(1000 ≤ k ∧ k < 1256) := by omega
  simp only [State.endReq, hserves, if_neg hjoin]
  rfl

/-! ### Timers and back-offs (R552 to R554, R560) -/

section
variable {s : State} {tag : Nat} {r : Req} (hr : s.req? tag = some r)
include hr

theorem exec_requestTimeout (hsent : r.st = .sent) (hpast : s.reqLimit r ≤ r.ran + (s.now - r.since)) (hlive : s.replayed = false) :
    exec (.requestTimeout tag) s = .next (s.giveUp r 0xB1) := by
  have hdue : ¬((r.st != .sent || decide (r.ran + (s.now - r.since) < s.reqLimit r) || (s.replayed && decide (r.plane < 3))) = true) := by
    simpa [hsent, hlive] using hpast
  change execRequestTimeout tag s = _
  simp only [execRequestTimeout, hr]
  rw [if_neg hdue]

theorem exec_requestTimeout_early (hearly : r.ran + (s.now - r.since) < s.reqLimit r) : exec (.requestTimeout tag) s = .next s := by
  have hwait : (r.st != .sent || decide (r.ran + (s.now - r.since) < s.reqLimit r) || (s.replayed && decide (r.plane < 3))) = true := by simp [hearly]
  change execRequestTimeout tag s = _
  simp only [execRequestTimeout, hr]
  rw [if_pos hwait]

theorem exec_nackBackoffEnd (hst : r.st = .backoff) (hdue : r.due ≤ s.now) (hplane : r.plane < 3) (hlink : (s.port r.plane).link = .up)
    (hpath : s.pathLost r.plane (r.txn.dest % 4096) = false) :
    exec (.nackBackoffEnd tag) s = .next ((s.setReq
      { r with st := if s.pathRetry r.plane (r.txn.dest % 4096) then .held else .sent, ran := 0, since := s.now }).queueFlits
        (s.reqQueue r.region r.plane) r.txn) := by
  have hend : ¬((r.st != .backoff || decide (s.now < r.due)) = true) := by simpa [hst] using hdue
  have husable : ¬(r.plane < 3 ∧ ((!(s.port r.plane).live) = true ∨ s.pathLost r.plane (r.txn.dest % 4096) = true)) := by
    simp [FabPort.live, hlink, hpath]
  change execNackBackoffEnd tag s = _
  simp only [execNackBackoffEnd, hr]
  rw [if_neg hend, if_neg husable, State.sendOn, if_neg (Nat.ne_of_lt hplane)]

theorem exec_atomicUnknown (hatomic : r.txn.op = 3) (hpast : r.first + usTc 2000 < s.now) :
    exec (.atomicUnknown tag) s = .next (s.unknown r) := by
  have hdue : ¬((r.txn.op != 3 || decide (s.now ≤ r.first + usTc 2000)) = true) := by simpa [hatomic] using hpast
  change execAtomicUnknown tag s = _
  simp only [execAtomicUnknown, hr]
  rw [if_neg hdue]

end

/-- Settles O39: a response by the request that it meets, a timer by the request that it runs for. -/
theorem fabricResponses : Obligations.FabricResponses := by
  unfold Obligations.FabricResponses
  refine ⟨?respond, ?late, fun s r t k hserves hk => State.reqDone_hub hserves hk t, fun s r code k hserves hk => State.endReq_hub hserves hk code,
    ?timers, fun s => .intro rfl ⟨rfl, rfl⟩⟩
  case respond =>
    intro s p t r u hp hport hdest hreq hu
    have hlog : u = s.respLogged p r t := hu
    subst hlog
    have hdone (hop : t.op = 0x81 ∨ t.op = 0x82 ∨ t.op = 0x83) : s.response p t = (s.respLogged p r t).reqDone r t := by
      rw [State.response_logged hdest hreq (by omega), State.respIn_done (by omega) (by omega)]
    refine ⟨fun hop => ?_, fun hop => ?_, fun hop => ?_, fun hop hmax => ?_, fun hop hknown => ?_, fun hop hatomic hstatus => ?_⟩
    · exact .intro (State.inRow_acts hp hport hop _) (hdone (.inl hop))
    · exact .intro (State.inRow_acts hp hport hop _) (hdone (.inr (.inl hop)))
    · exact .intro (State.inRow_acts hp hport hop _) (hdone (.inr (.inr hop)))
    · refine .intro (State.inRow_acts hp hport hop _) ?_
      rw [State.response_nack hdest hreq hop]
      exact State.nacked_backoff (List.mem_of_find?_eq_some hreq) hmax
    · refine .intro (State.inRow_acts hp hport hop _) ?_
      rw [State.response_logged hdest hreq (by omega), State.respIn_error hop hknown]
    · refine .intro (State.inRow_acts hp hport hop _) ?_
      rw [State.response_logged hdest hreq (by omega), State.respIn_unknown hop hatomic hstatus]
      rfl
  case late =>
    intro s p t hp hup hlive hop hnone
    exact .intro (State.inRow_acts (by omega) (fun _ => ⟨hup, hlive⟩) hop _) (State.response_late hnone p)
  case timers =>
    intro s tag r hr
    refine ⟨fun hsent hpast hlive => ⟨fun hop => ?_, fun hop => ?_⟩, fun hst hdue hplane hlink hpath => ?_, fun hatomic hpast => ?_,
      fun _ hearly => .intro (exec_requestTimeout_early hr hearly) rfl⟩
    · exact .intro (exec_requestTimeout hr hsent hpast hlive) (if_neg hop)
    · exact .intro (exec_requestTimeout hr hsent hpast hlive) (if_pos hop)
    · exact .intro (exec_nackBackoffEnd hr hst hdue hplane hlink hpath) rfl
    · exact .intro (exec_atomicUnknown hr hatomic hpast) rfl

end Sys2Proof.Machine
end

section
/-! PROOFS. The registers of the inbound rings stay as they are whatever an error, an output or a fault sets off (R571, R583). -/
namespace Sys2Proof.Machine

/-! ### The relation -/

/-- Is an address outside the block of `FAB_SSI_IN`? -/
def offRing (r : Nat) : Bool := decide (r < 0xb30000) || decide (0xb30100 ≤ r) || r % 16 != 0

theorem ne_of_offRing {r i : Nat} (h : offRing r = true) (hi : i < 16) : Reg.FAB_SSI_IN i ≠ r := by
  rintro rfl
  simp only [offRing, Reg.FAB_SSI_IN, Bool.or_eq_true, decide_eq_true_eq, bne_iff_ne] at h
  omega

/-- The registers of the sixteen inbound rings are as they were. -/
structure State.RingsKept (s t : State) : Prop where
  same : ∀ i, i < 16 → t.regs.get 0 (Reg.FAB_SSI_IN i) = s.regs.get 0 (Reg.FAB_SSI_IN i)

section
variable {s t u : State}

theorem State.RingsKept.of_regs (h : t.regs = s.regs) : s.RingsKept t := ⟨fun i _ => by rw [h]⟩

theorem State.RingsKept.refl (s : State) : s.RingsKept s := .of_regs rfl

theorem State.RingsKept.trans (h : s.RingsKept t) (k : t.RingsKept u) : s.RingsKept u := ⟨fun i hi => (k.same i hi).trans (h.same i hi)⟩

/-- What leaves every register alone comes before what keeps the rings. -/
theorem State.RingsKept.after (k : t.RingsKept u) (h : t.regs = s.regs) : s.RingsKept u := State.RingsKept.trans (.of_regs h) k

/-- What leaves every register alone follows what keeps the rings. -/
theorem State.RingsKept.then (h : s.RingsKept t) (k : u.regs = t.regs) : s.RingsKept u := h.trans (.of_regs k)

theorem State.RingsKept.of_stays {ps : List Part} (h : Stays ps s t) (hp : .regs ∉ ps) : s.RingsKept t := .of_regs (h.only.same .regs hp)

theorem State.RingsKept.ite {c : Prop} [Decidable c] (h : s.RingsKept t) (k : s.RingsKept u) : s.RingsKept (if c then t else u) := by
  split
  · exact h
  · exact k

theorem State.RingsKept.foldl {α : Type} {f : State → α → State} (hf : ∀ u a, State.RingsKept u (f u a)) (l : List α) : s.RingsKept (l.foldl f s) := by
  induction l generalizing s with
  | nil => exact .refl _
  | cons a l ih => exact (hf s a).trans ih

end

section
variable (s : State)

/-! ### Registers, records, events, the log -/

theorem State.setReg_rings {r : Nat} (v : Nat) (h : offRing r = true) : s.RingsKept (s.setReg r v) :=
  ⟨fun _ hi => State.setReg_get_ne s v (ne_of_offRing h hi)⟩

theorem State.count_rings {r : Nat} (n : Nat) (h : offRing r = true) : s.RingsKept (s.count r n) := s.setReg_rings _ h

theorem State.post_rings (f q : Nat) (r : Rec) : s.RingsKept (s.post f q r) :=
  ⟨fun _ hi => State.post_get_ne s f q r (ne_of_offRing (by decide) hi)⟩

theorem State.statusNote_rings (f : Nat) : s.RingsKept (s.statusNote f) :=
  ⟨fun _ hi => State.statusNote_get_ne s f (ne_of_offRing (by decide) hi)⟩

theorem State.event_rings {r : Nat} (en m n : Nat) (h : offRing r = true) : s.RingsKept (s.event r en m n) :=
  ⟨fun _ hi => State.event_get_ne s r en m n (ne_of_offRing h hi) (ne_of_offRing (by decide) hi)⟩

theorem State.memEvt_rings (m : Nat) : s.RingsKept (s.memEvt m) := s.event_rings _ _ _ (by decide)
theorem State.fabEvt_rings (m : Nat) : s.RingsKept (s.fabEvt m) := s.event_rings _ _ _ (by decide)
theorem State.rplEvt_rings (m : Nat) : s.RingsKept (s.rplEvt m) := s.event_rings _ _ _ (by decide)
theorem State.hltEvt_rings (m : Nat) : s.RingsKept (s.hltEvt m) := s.event_rings _ _ _ (by decide)

theorem ring_notMem_logRegs : ∀ i < 16, Reg.FAB_SSI_IN i ∉ logRegs := by decide

theorem State.putRec_rings (kind source : Nat) (aux : DWord) (b : List Byte) : s.RingsKept (s.putRec kind source aux b) :=
  ⟨fun i hi => State.putRec_get_ne s kind source aux b (ring_notMem_logRegs i hi)⟩

theorem State.logIn_rings (cls kind source : Nat) (aux : DWord) (b : List Byte) : s.RingsKept (s.logIn cls kind source aux b) :=
  ⟨fun i hi => State.logIn_get_ne s cls kind source aux b (ring_notMem_logRegs i hi)⟩

theorem State.diverge_rings (kind : Nat) (key : BitVec 128) (exp got : DWord) : s.RingsKept (s.diverge kind key exp got) := by
  unfold State.diverge
  extract_lets _ s0 s1 s2 s3 s4 s5
  have h1 : s.RingsKept s1 := (s0.setReg_rings _ (by decide)).after rfl
  have h2 : s1.RingsKept s2 := s1.setReg_rings _ (by decide)
  have h3 : s2.RingsKept s3 := s2.setReg_rings _ (by decide)
  have h4 : s3.RingsKept s4 := s3.setReg_rings _ (by decide)
  have h5 : s4.RingsKept s5 := s4.setReg_rings _ (by decide)
  have h6 : s5.RingsKept (s5.setReg Reg.RPL_DIV_GOT got.toNat) := s5.setReg_rings _ (by decide)
  exact .ite (.refl _) (((((h1.trans h2).trans h3).trans h4).trans h5).trans (h6.trans (State.rplEvt_rings ..)))

theorem State.output_rings (key : BitVec 128) (b : List Byte) : s.RingsKept (s.output key b) := by
  unfold State.output
  refine .ite (State.putRec_rings ..) (.ite ?_ (.refl _))
  split
  · exact State.diverge_rings ..
  · exact .ite (.of_regs rfl) ((State.diverge_rings ..).after rfl)

/-! ### Requests of the hub -/

theorem State.sendOn_regs (q p : Nat) (t : Txn) : (s.sendOn q p t).regs = s.regs := by
  have head := Has.head
  have tail := Has.tail
  exact (State.sendOn_stays (ps := [.front, .out]) _ q p t (.refl _ s)).only.same .regs (by decide)

theorem State.respond_rings (p : Nat) (q : Txn) (op status : Nat) (b : List Byte) : s.RingsKept (s.respond p q op status b) :=
  (State.output_rings ..).then (State.sendOn_regs ..)

theorem State.issueReq_rings (g : Nat) (t : Txn) (f : ReqFor) (key : BitVec 128) : s.RingsKept (s.issueReq g t f key) := by
  unfold State.issueReq
  extract_lets tag u plane r _ s1 s2
  have h : s.RingsKept s2 := State.RingsKept.after (t := s1) (State.output_rings ..) rfl
  cases plane with
  | none => exact h
  | some p => exact h.then (State.sendOn_regs ..)

theorem State.hubReq_rings (t : Txn) (k : Nat) : s.RingsKept (s.hubReq t k) := by
  unfold State.hubReq
  split
  · exact s.count_rings _ (by decide)
  · exact State.issueReq_rings ..

theorem State.sendGroup_rings (dest kind gto gfrom status : Nat) (stamp : Stamp) (k : Nat) :
    s.RingsKept (s.sendGroup dest kind gto gfrom status stamp k) := by
  unfold State.sendGroup
  split
  · exact s.count_rings _ (by decide)
  · exact State.issueReq_rings ..

theorem State.tellMembers_rings (g kind : Nat) : s.RingsKept (s.tellMembers g kind) :=
  .foldl (fun _ _ => .ite (State.sendGroup_rings ..) (.refl _)) _

theorem State.tryCommit_rings (g : Nat) : s.RingsKept (s.tryCommit g) :=
  .ite ((State.tellMembers_rings ..).after rfl) (.refl _)

theorem State.groupArm_rings (g : Nat) : s.RingsKept (s.groupArm g) := by
  unfold State.groupArm
  extract_lets x y s1
  refine .ite (.refl _) (.ite (.of_regs rfl) (State.RingsKept.after (t := s1) (.ite (State.tryCommit_rings ..) (State.sendGroup_rings ..)) rfl))

/-! ### Units and requests that end -/

theorem State.failList_regs (u code : Nat) : (s.failList u code).regs = s.regs := by
  unfold State.failList
  split <;> rfl

theorem State.countRefuse_rings (code : Nat) : s.RingsKept (s.countRefuse code) := .ite (s.count_rings _ (by decide)) (.refl _)

theorem State.enterCmd_rings (u : Nat) : s.RingsKept (s.enterCmd u) := by
  have hfail (code : Nat) : s.RingsKept (s.failList u code) := .of_regs (State.failList_regs ..)
  have hrefuse (k code : Nat) : s.RingsKept ((s.countRefuse k).failList u code) := (s.countRefuse_rings k).then (State.failList_regs ..)
  unfold State.enterCmd
  split
  · exact .refl _
  · split
    · exact hfail _
    · exact hfail _
    · refine .ite (hfail _) (.ite (hfail _) (.ite (hrefuse _ _) (.ite (hfail _) (.ite (.of_regs rfl) ?_))))
      extract_lets code gcode
      refine .ite (hrefuse _ _) (.ite (hfail _) ?_)
      split
      · exact hrefuse _ _
      · extract_lets k s1 s2 s3
        have h2 : s.RingsKept s2 := .ite (State.RingsKept.after (t := s1) (s1.count_rings _ (by decide)) rfl) (.of_regs rfl)
        have h3 : s2.RingsKept s3 := .ite (State.groupArm_rings ..) (.refl _)
        exact (h2.trans h3).then rfl

theorem State.advance_rings (u : Nat) : s.RingsKept (s.advance u) := by
  unfold State.advance
  split
  · exact .refl _
  · refine .ite (.of_regs rfl) ?_
    split
    · exact .of_regs (State.failList_regs ..)
    · exact (State.enterCmd_rings ..).after rfl

theorem State.finishService_rings (u : Option Nat) (rep : Report) (code : Nat) (d : BitVec 128) : s.RingsKept (s.finishService u rep code d) := by
  unfold State.finishService
  split
  · exact .ite (State.advance_rings ..) (.of_regs (State.failList_regs ..))
  · split
    · exact .refl _
    · exact State.post_rings ..

theorem State.endJoin_rings (g code : Nat) : s.RingsKept (s.endJoin g code) := by
  unfold State.endJoin
  split
  · exact .refl _
  next j hj =>
    extract_lets _ s1 s2
    have h2 : s.RingsKept s2 := .ite (.of_regs rfl) (.of_regs rfl)
    exact h2.trans (State.finishService_rings ..)

theorem State.failXfer_regs (x cause peer : Nat) : (s.failXfer x cause peer).regs = s.regs := by
  have head := Has.head
  have tail := Has.tail
  exact (State.failXfer_stays (ps := [.units, .fab]) _ x cause peer (.refl _ s)).only.same .regs (by decide)

theorem State.endReq_rings (r : Req) (code : Nat) : s.RingsKept (s.endReq r code) := by
  unfold State.endReq
  extract_lets s1
  have h1 : s.RingsKept s1 := .of_regs rfl
  split
  · exact h1.then (State.failXfer_regs ..)
  · exact h1.then (State.failXfer_regs ..)
  · exact h1.then (State.failXfer_regs ..)
  · exact .ite (h1.trans (State.endJoin_rings ..)) h1

theorem State.abandon_rings (r : Req) (code : Nat) : s.RingsKept (s.abandon r code) := by
  unfold State.abandon
  extract_lets s1
  have h1 : s.RingsKept s1 := .ite (s.count_rings _ (by decide)) (.ite (s.count_rings _ (by decide)) (.refl _))
  exact (h1.trans (State.logIn_rings ..)).trans (State.endReq_rings ..)

theorem State.reissue_rings (r : Req) : s.RingsKept (s.reissue r) := by
  unfold State.reissue
  extract_lets _ t s1
  have h1 : s.RingsKept s1 := s.count_rings _ (by decide)
  split
  · exact h1.then rfl
  · exact (h1.then rfl).then (State.sendOn_regs ..)

theorem State.giveUp_rings (r : Req) (code : Nat) : s.RingsKept (s.giveUp r code) := .ite (State.reissue_rings ..) (State.abandon_rings ..)

theorem State.loseReqs_rings (f : Req → Bool) : s.RingsKept (s.loseReqs f) := .foldl (fun _ _ => .ite (State.giveUp_rings ..) (.refl _)) _

theorem State.losePlane_rings (p : Nat) (l : LinkSt) : s.RingsKept (s.losePlane p l) :=
  (State.loseReqs_rings ..).after rfl

/-! ### Messages to the L2 -/

theorem State.tileOut_rings (e dest ofs fuel : Nat) (b : List Byte) : s.RingsKept (s.tileOut e dest ofs fuel b) := by
  induction fuel generalizing s ofs b with
  | zero => exact .refl _
  | succ fuel ih => exact .ite (.refl _) ((State.hubReq_rings ..).trans (ih ..))

theorem State.readHead_rings (via : Nat) : s.RingsKept (s.readHead via) := .ite (.refl _) (State.hubReq_rings ..)

theorem State.ringWrite_rings (via : Nat) (b : List Byte) {t : State} (h : s.ringWrite via b = some t) : s.RingsKept t := by
  unfold State.ringWrite at h
  split at h
  · extract_lets x at h
    split at h
    · cases h
      exact .refl _
    · split at h
      · cases h
      · extract_lets s1 s2 at h
        have h2 : s.RingsKept s2 := .of_regs (State.emit_regs s1 _)
        cases h
        exact h2.trans (State.post_rings ..)
  · extract_lets e out dest size tail pos pad base s1 s2 at h
    have h1 : s.RingsKept s1 := .ite (.refl _) (State.tileOut_rings ..)
    have h2 : s1.RingsKept s2 := State.tileOut_rings ..
    split at h
    · cases h
    · cases h
      exact (h1.trans h2).then rfl

theorem State.ssiOut_rings (n : Nat) (marks : List LateMark) (b : List Byte) : s.RingsKept (s.ssiOut n marks b) := by
  unfold State.ssiOut
  refine .ite (.of_regs rfl) ?_
  split
  next t h => exact State.ringWrite_rings _ _ _ h
  · exact (State.readHead_rings ..).after rfl

theorem State.indicate_rings (n deadline : Nat) (marks : List LateMark) (b : List Byte) : s.RingsKept (s.indicate n deadline marks b) :=
  .ite (.of_regs rfl) (State.ssiOut_rings ..)

theorem State.tellL2_rings (n ty handle : Nat) (slot : Stamp) (b : List Byte) : s.RingsKept (s.tellL2 n ty handle slot b) := by
  unfold State.tellL2
  extract_lets x m s1
  have h1 : s.RingsKept s1 := .of_regs rfl
  exact (h1.trans (State.output_rings ..)).trans (State.indicate_rings ..)

theorem State.cellNote_rings (n at0 : Nat) : s.RingsKept (s.cellNote n at0) := by
  unfold State.cellNote
  exact State.tellL2_rings ..

theorem State.stopCell_rings (n reason : Nat) : s.RingsKept (s.stopCell n reason) := by
  unfold State.stopCell
  extract_lets x
  split
  · exact .refl _
  · extract_lets len first
    split
    · exact (State.cellNote_rings ..).after rfl
    · exact .of_regs rfl
    · exact .of_regs rfl
    · exact .refl _

/-- Cells are stopped one after another, each of which keeps the rings (R391). -/
theorem State.fitCells_rings (g : Nat) : s.RingsKept (s.fitCells g) := by
  unfold State.fitCells
  extract_lets step
  have hstep (acc : State × Nat) (c : Nat) : acc.1.RingsKept (step acc c).1 := by
    dsimp only [step]
    split
    · exact .refl _
    · split
      · exact .refl _
      · exact .ite (.refl _) (State.stopCell_rings ..)
  have hfold (l : List Nat) : ∀ acc : State × Nat, acc.1.RingsKept (l.foldl step acc).1 := by
    induction l with
    | nil => exact fun acc => .refl _
    | cons c l ih => exact fun acc => (hstep acc c).trans (ih _)
  exact hfold _ (s, s.capUsed g)

/-! ### The health monitor -/

theorem State.healthLog_rings (kind unit ctx node : Nat) (d : DWord) : s.RingsKept (s.healthLog kind unit ctx node d) := by
  unfold State.healthLog
  extract_lets h bin w1 e _ s1 s2
  have h2 : s.RingsKept s2 := State.RingsKept.after (t := s1) (s1.setReg_rings _ (by decide)) rfl
  refine h2.trans (.ite (s2.setReg_rings _ (by decide)) (State.RingsKept.trans ?_ (State.hltEvt_rings ..)))
  exact (s2.setReg_rings _ (by decide)).trans (State.count_rings _ _ (by decide))

theorem State.setDev_rings (d : DevSt) : s.RingsKept (s.setDev d) := by
  have h (u : State) : u.RingsKept (s.onFns.foldl (fun s f => s.statusNote f) u) := .foldl State.statusNote_rings _
  unfold State.setDev
  exact .ite (.refl _) ((h _).after rfl)

theorem State.redev_rings : s.RingsKept s.redev := by
  unfold State.redev
  split
  · exact .ite (State.setDev_rings ..) (.refl _)
  · exact .ite (State.setDev_rings ..) (.refl _)
  all_goals exact .refl _

theorem State.sendExpel_rings (cause : Nat) : s.RingsKept (s.sendExpel cause) :=
  .ite ((State.hubReq_rings ..).after rfl) (.ite (.of_regs rfl) (.of_regs rfl))

theorem State.setExpel_rings (st cause spare : Nat) : s.RingsKept (s.setExpel st cause spare) := by
  unfold State.setExpel
  extract_lets _ s1
  have h1 : s.RingsKept s1 := .of_regs rfl
  exact ((h1.trans (State.healthLog_rings ..)).trans (State.hltEvt_rings ..)).trans (State.redev_rings _)

theorem State.requestExpel_rings (cause : Nat) : s.RingsKept (s.requestExpel cause) :=
  .ite (.refl _) ((State.setExpel_rings ..).trans (State.sendExpel_rings ..))

theorem State.afterQuar_rings (u : Nat) : s.RingsKept (s.afterQuar u) := by
  unfold State.afterQuar
  extract_lets s1 s2 hostIf s3
  have h1 : s.RingsKept s1 := s.redev_rings
  have h2 : s1.RingsKept s2 := .ite (.refl _) (.ite (State.fitCells_rings ..) (.refl _))
  have h3 : s2.RingsKept s3 := .ite ((State.losePlane_rings ..).after rfl) (.refl _)
  exact ((h1.trans h2).trans h3).trans (.ite (State.requestExpel_rings ..) (.refl _))

theorem State.decideQuar_rings (u : Nat) : s.RingsKept (s.decideQuar u) := by
  unfold State.decideQuar
  extract_lets f tmin lmin kind old q _ s1
  have h1 : s.RingsKept s1 := .of_regs rfl
  refine .ite (.refl _) (.ite (State.requestExpel_rings ..) (.ite (.refl _) ?_))
  exact ((h1.trans (State.healthLog_rings ..)).trans (State.hltEvt_rings ..)).trans (State.afterQuar_rings ..)

theorem State.deduct_rings (u n : Nat) : s.RingsKept (s.deduct u n) := by
  unfold State.deduct
  exact .ite (.refl _) (.ite ((State.decideQuar_rings ..).after rfl) (.of_regs rfl))

theorem State.corrected_rings (u : Nat) : s.RingsKept (s.corrected u) := by
  unfold State.corrected
  extract_lets sec old n _ s1 s2
  have h : s.RingsKept s2 := State.RingsKept.after (t := s1) (State.deduct_rings ..) rfl
  exact .ite (h.trans (State.healthLog_rings ..)) h

/-! ### Lines with errors (R512, R513) -/

/-- The counters of a die's lines with errors lie outside the rings, whatever the die. -/
theorem whereIs_die {a : Nat} (h : (whereIs a).1 = 1) : (whereIs a).2.1 < 64 := by
  by_cases hpool : a < 2 ^ 40
  · rw [whereIs, if_pos hpool] at h
    exact absurd h (by simp)
  · by_cases htarn : a < 2 ^ 41
    · rw [whereIs, if_neg hpool, if_pos htarn]
      dsimp only
      omega
    · rw [whereIs, if_neg hpool, if_neg htarn] at h
      exact absurd h (by simp)

theorem offRing_tarn {d k : Nat} (hd : d < 64) (hk : k < 0xb20000) : offRing (k + 0x100 * d) = true := by
  simp only [offRing, Bool.or_eq_true, decide_eq_true_eq]
  omega

theorem offRing_mere {d k : Nat} (hk : k % 16 ≠ 0) : offRing (k + 0x100 * d) = true := by
  simp only [offRing, Bool.or_eq_true, decide_eq_true_eq, bne_iff_ne]
  omega

theorem State.fixLine_rings (l : Nat) : s.RingsKept (s.fixLine l) := by
  unfold State.fixLine
  extract_lets w _ s1 s2
  have h1 : s.RingsKept s1 := .of_regs rfl
  have h2 : s1.RingsKept s2 := by
    dsimp only [s2]
    split
    next hw => exact (s1.count_rings 1 (offRing_tarn (whereIs_die hw) (by decide))).trans (State.memEvt_rings ..)
    · exact .ite ((s1.count_rings 1 (offRing_mere (by decide))).trans (State.memEvt_rings ..)) (.refl _)
  exact (h1.trans h2).trans (State.corrected_rings ..)

theorem State.memLog_rings (kind fn tier die bank page : Nat) : s.RingsKept (s.memLog kind fn tier die bank page) := by
  unfold State.memLog
  extract_lets h e _ s1 s2
  have h2 : s.RingsKept s2 := State.RingsKept.after (t := s1) (s1.setReg_rings _ (by decide)) rfl
  refine h2.trans (.ite (s2.setReg_rings _ (by decide)) (State.RingsKept.trans ?_ (State.memEvt_rings ..)))
  exact (s2.setReg_rings _ (by decide)).trans (State.count_rings _ _ (by decide))

theorem State.poisonLine_rings (l : Nat) : s.RingsKept (s.poisonLine l) := by
  unfold State.poisonLine
  extract_lets w _ s1 owner s2 s3 s4 s5
  have h2 : s.RingsKept s2 := State.RingsKept.after (t := s1) (State.memLog_rings ..) rfl
  have h3 : s2.RingsKept s3 := by
    dsimp only [s3]
    split
    next hw => exact s2.count_rings 1 (offRing_tarn (whereIs_die hw) (by decide))
    · exact .ite (s2.count_rings 1 (offRing_mere (by decide))) (.refl _)
  have h5 : s3.RingsKept s5 := State.RingsKept.trans (t := s4) (State.memEvt_rings ..) (State.deduct_rings ..)
  exact ((h2.trans h3).trans h5).trans (State.healthLog_rings ..)

theorem State.readSpans_rings (l : List Span) (tenant : Nat) : s.RingsKept (s.readSpans l tenant).2 := by
  unfold State.readSpans
  extract_lets s1 s2
  have h1 : s.RingsKept s1 := .foldl State.fixLine_rings _
  have h2 : s1.RingsKept s2 := .foldl State.poisonLine_rings _
  split
  · exact h1.trans h2
  · exact ((h1.trans h2).trans (State.memLog_rings ..)).trans (State.memEvt_rings ..)

end

end Sys2Proof.Machine
end

section
/-! PROOFS. Requests that other devices make: their checks, their application, the group messages (R544 to R549, R557 to R559, R563, R572). -/
namespace Sys2Proof.Machine

/-! ### A request accepted (R544, R641) -/

/-- The state in which a request is logged. -/
abbrev State.inNoted (s : State) (p : Nat) (t : Txn) : State := if p < 3 then s.logIn 4 0x20 p 0 (t.header ++ t.data) else s

/-- The state in which an accepted request is looked up. -/
abbrev State.inTaken (s : State) (p : Nat) (t : Txn) : State :=
  { s.inNoted p t with rpl := { (s.inNoted p t).rpl with inSeq := s.rpl.nextSeq } }

/-- An atomic that is neither a repeat nor expired, and has room for its reply. -/
structure State.Fresh (s : State) (t : Txn) : Prop where
  reply : s.replyOf t.opfield = none
  room : s.fab.replies.length < 65536
  waits : s.atomicWaits t.opfield = false
  first : t.flags % 2 = 0

section
variable {s : State} {p : Nat} {t : Txn} (hdest : t.dest = s.self) (hok : t.reqOk = true)
include hdest hok

theorem State.inbound_full (hfull : 8192 ≤ s.fab.inq.length) : s.inbound p t = s.nack p t 0x10 := by
  have hroute : ¬(t.dest ≠ s.self ∨ (!t.reqOk) = true) := by simp [hdest, hok]
  rw [State.inbound, if_neg hroute, if_pos hfull]

variable (hroom : s.fab.inq.length < 8192)
include hroom

theorem State.inbound_accepted (hatomic : t.op = 3 → s.Fresh t) :
    s.inbound p t = (s.inNoted p t).serveReq p s.rpl.nextSeq t (((s.inNoted p t).ratcEntries t).getD []) := by
  have hroute : ¬(t.dest ≠ s.self ∨ (!t.reqOk) = true) := by simp [hdest, hok]
  have hreply : (if t.op = 3 then s.replyOf t.opfield else none) = none := by
    split
    next h => exact (hatomic h).reply
    · rfl
  have hexpired : ¬(t.op = 3 ∧ t.flags % 2 = 1 ∧ stampTc (BitVec.ofNat 64 (byteField t.data 16 8)) + usTc 2000 ≤ s.now) := fun ⟨h, hre, _⟩ => by
    have hfirst := (hatomic h).first
    omega
  have hcache : ¬(t.op = 3 ∧ 65536 ≤ s.fab.replies.length) := fun ⟨h, hfull⟩ => Nat.not_lt.mpr hfull (hatomic h).room
  have hwait : ¬(t.op = 3 ∧ s.atomicWaits t.opfield = true) := fun ⟨h, hw⟩ => absurd hw (by rw [(hatomic h).waits]; decide)
  rw [State.inbound, if_neg hroute, if_neg (Nat.not_le.mpr hroom)]
  simp only [hreply]
  rw [if_neg hexpired, if_neg hcache, if_neg hwait]

end

/-- A reply is kept under its atomic's ID (R558). -/
def State.cached (s : State) (t : Txn) (op code : Nat) (b : List Byte) : State :=
  { s with fab := { s.fab with replies := s.fab.replies ++ [{ id := t.opfield, resp := { op := op, status := code, data := b }, at0 := s.now }] } }

/-- A request that passes its checks and need not wait has its response; an atomic's is kept (R545, R558). -/
theorem State.serveReq_applied {s v : State} {p seq : Nat} {t : Txn} {es : List Ratc} {e : Ratc} {op code : Nat} {b : List Byte}
    (hchk : ({ s with rpl := { s.rpl with inSeq := seq } } : State).entryChk t es = (0, some e))
    (hwait : ({ s with rpl := { s.rpl with inSeq := seq } } : State).inWaits e t = false)
    (happly : ({ s with rpl := { s.rpl with inSeq := seq } } : State).applyReq e t = (op, code, b, v)) (hgood : op ≠ 0x85) :
    s.serveReq p seq t es = (if t.op ≠ 3 then v else v.cached t op code b).respond p t op code b := by
  simp only [State.serveReq, hchk, hwait, happly, if_neg hgood, Bool.false_eq_true, if_false]
  rfl

/-! ### Application (R545 to R550) -/

section
variable {s : State} {e : Ratc} {t : Txn} {n : Nat} (hn : n = (s.inSpans e t).foldl (fun k q => k + q.2) 0)
include hn

theorem State.applyReq_store (hop : t.op = 2 ∨ t.op = 4) :
    s.applyReq e t = (0x82, 0, [], (s.acct (ownerAcct e.owner) 13 n).wrSpans (s.inSpans e t) t.data) := by
  subst hn
  obtain hop | hop := hop <;> simp only [State.applyReq, hop] <;> rfl

variable {rd : State} (hrd : (s.acct (ownerAcct e.owner) 13 n).readSpans (s.inSpans e t) e.owner = (false, rd))
include hrd

theorem State.applyReq_read (hop : t.op = 1 ∨ t.op = 5) : s.applyReq e t = (0x81, 0, rd.rdSpans (s.inSpans e t), rd) := by
  have hread (m : Nat) (hm : m ≠ 6) : (if m = 6 then s else s.acct (ownerAcct e.owner) 13 n).readSpans (s.inSpans e t) e.owner = (false, rd) := by
    rw [if_neg hm, hrd]
  subst hn
  obtain hop | hop := hop
  · simp only [State.applyReq, hop, hread 1 (by decide), Bool.false_eq_true, if_false]
  · simp only [State.applyReq, hop, hread 5 (by decide), Bool.false_eq_true, if_false]

/-- An atomic reads its word, and writes what its operation makes of it (R557). -/
theorem State.applyReq_atomic (hop : t.op = 3) (hsteward : e.owner ≠ 0x401) {w m : Nat} (hw : w = if t.aux.testBit 4 then 8 else 4)
    (hm : m = leNat (rd.rdSpans (s.inSpans e t))) :
    s.applyReq e t = (if t.aux.testBit 5 then 0x83 else 0x82, 0, if t.aux.testBit 5 then leBytes 8 m else [],
      rd.wrSpans (s.inSpans e t) (leBytes w (atomicOp (t.aux % 16) w m (byteField t.data 0 8) (byteField t.data 8 8)))) := by
  have hread : (if 3 = 6 then s else s.acct (ownerAcct e.owner) 13 n).readSpans (s.inSpans e t) e.owner = (false, rd) := hrd
  subst hn hw hm
  simp only [State.applyReq, hop, hread, if_neg hsteward, Bool.false_eq_true, if_false, Option.getD_none]

end

/-- The handle that a HANDLE message names (R284, R563). -/
def Ratc.inHandle (e : Ratc) (t : Txn) : Handle :=
  { base := e.target t t.offset, len := t.handleLen, partialMark := t.flags.testBit 3, ahead := (byteField t.data 8 1).testBit 1,
    visSet := (byteField t.data 8 1).testBit 2, owner := e.ctx, list := BitVec.ofNat 64 (byteField t.data 16 8),
    vis := BitVec.ofNat 64 (byteField t.data 24 8), visible := false }

theorem State.applyReq_handle {s : State} {e : Ratc} {t : Txn} {y : Ctx} (hop : t.op = 6) (hy : s.ctx? e.ctx = some y) :
    s.applyReq e t = (0x82, 0, [], s.setCtx (y.setHqueue (t.aux % 8) (y.hqueue (t.aux % 8) ++ [Ratc.inHandle e t]))) := by
  simp only [State.applyReq, hop, if_true, hy]
  rfl

/-! ### What a response leaves alone -/

section
variable (s : State) (p : Nat) (q : Txn) (op status : Nat) (b : List Byte)

theorem State.respond_only : Only [.fns, .front, .rpl, .regs, .out] s (s.respond p q op status b) := by
  have head := Has.head
  have tail := Has.tail
  exact (State.respond_stays (ps := [.fns, .front, .rpl, .regs, .out]) _ p q op status b (.refl _ s)).only

theorem State.respond_mem : (s.respond p q op status b).mem = s.mem := (s.respond_only p q op status b).same .mem (by decide)
theorem State.respond_fab : (s.respond p q op status b).fab = s.fab := (s.respond_only p q op status b).same .fab (by decide)

theorem State.respond_ctx? (i : Nat) : (s.respond p q op status b).ctx? i = s.ctx? i := (s.respond_only p q op status b).ctx? (by decide) i

theorem State.respond_group (g : Nat) : (s.respond p q op status b).group g = s.group g := by
  rw [State.group, (s.respond_only p q op status b).sched (by decide) (by decide) (by decide) (by decide)]
  rfl

end

theorem State.readSpans_time (s : State) (l : List Span) (tenant : Nat) : (s.readSpans l tenant).2.time = s.time := by
  have head := Has.head
  have tail := Has.tail
  exact (State.readSpans_stays (ps := [.lists, .units, .fns, .ports, .radio, .front, .tiers, .fab, .rpl, .health, .start, .regs, .out]) _ l tenant
    (.refl _ s)).only.same .time (by decide)

theorem State.inNoted_mem (s : State) (p : Nat) (t : Txn) : (s.inNoted p t).mem = s.mem := by
  unfold State.inNoted
  split
  · exact State.logIn_mem ..
  · rfl

theorem State.inNoted_time (s : State) (p : Nat) (t : Txn) : (s.inNoted p t).time = s.time := by
  unfold State.inNoted
  split
  · exact State.logIn_time ..
  · rfl

theorem State.inTaken_rings (s : State) (p : Nat) (t : Txn) : s.RingsKept (s.inTaken p t) := by
  have h : s.RingsKept (s.inNoted p t) := .ite (State.logIn_rings ..) (.refl _)
  exact h.then rfl

section
variable {s rd : State} {o k n : Nat} {l : List Span} {tenant : Nat} {b : Bool} (h : (s.acct o k n).readSpans l tenant = (b, rd))
include h

theorem State.readSpans_snd_time : rd.time = s.time := by
  have hrd := (s.acct o k n).readSpans_time l tenant
  rw [h] at hrd
  exact hrd

theorem State.readSpans_snd_rings : s.RingsKept rd := by
  have hrd := (s.acct o k n).readSpans_rings l tenant
  rw [h] at hrd
  exact hrd.after rfl

end

/-! ### The inbound rings (R571, R583) -/

/-- Rings none of which is enabled take nothing. -/
theorem State.ringsIn_of_off {s : State} (h : ∀ i < 16, bit (s.regs.get 0 (Reg.FAB_SSI_IN i)) 0 = false) : s.ringsIn = s := by
  have hfold (l : List Nat) (hl : ∀ i ∈ l, i < 16) : l.foldl (fun s e =>
      let w := s.regs.get 0 (Reg.FAB_SSI_IN e)
      if bit w 0 then s.ringTake e (bits w 5 23 * 65536) (2 ^ (16 + bits w 1 4)) (2 ^ 24) else s) s = s := by
    induction l with
    | nil => rfl
    | cons i l ih =>
      rw [List.foldl_cons]
      dsimp only
      rw [h i (hl i List.mem_cons_self), if_neg Bool.false_ne_true]
      exact ih fun j hj => hl j (List.mem_cons_of_mem _ hj)
  exact hfold _ fun i hi => List.mem_range.mp hi

/-- The rings stay off while their registers stay. -/
theorem State.RingsKept.off {s t : State} (h : s.RingsKept t) (hoff : (List.range 16).all (fun i => !bit (s.regs.get 0 (Reg.FAB_SSI_IN i)) 0) = true) :
    ∀ i < 16, bit (t.regs.get 0 (Reg.FAB_SSI_IN i)) 0 = false := by
  intro i hi
  have hi' := List.all_eq_true.mp hoff i (List.mem_range.mpr hi)
  rw [h.same i hi]
  simpa using hi'

/-! ### Arithmetic of atomics (R557) -/

theorem atomicOp_lt {op w m a b : Nat} (hop : op < 10) (hm : m < 2 ^ (8 * w)) : atomicOp op w m a b < 2 ^ (8 * w) := by
  have ha : a % 2 ^ (8 * w) < 2 ^ (8 * w) := Nat.mod_lt _ (Nat.two_pow_pos _)
  have hb : b % 2 ^ (8 * w) < 2 ^ (8 * w) := Nat.mod_lt _ (Nat.two_pow_pos _)
  have hite {c : Prop} [Decidable c] {x y : Nat} (hx : x < 2 ^ (8 * w)) (hy : y < 2 ^ (8 * w)) : (if c then x else y) < 2 ^ (8 * w) := by
    split
    · exact hx
    · exact hy
  unfold atomicOp
  extract_lets n a' b' sgn
  split
  · exact Nat.mod_lt _ (Nat.two_pow_pos _)
  · exact Nat.and_lt_two_pow _ ha
  · exact Nat.or_lt_two_pow hm ha
  · exact Nat.xor_lt_two_pow hm ha
  · exact hite ha hm
  · exact hite ha hm
  · exact lt_of_le_of_lt (min_le_left ..) hm
  · exact max_lt hm ha
  · exact ha
  · exact hite hb hm

theorem atomicOp_add (w m a b : Nat) : atomicOp 0 w m a b = (m + a) % 2 ^ (8 * w) := Nat.add_mod_mod ..

/-- A compare that finds its operand swaps; another leaves the word. -/
theorem atomicOp_cas (w m a b : Nat) : atomicOp 9 w m a b = if m = a % 2 ^ (8 * w) then b % 2 ^ (8 * w) else m := rfl

/-! ### Group messages (R90, R94) -/

/-- A member that joins is marked, with the index that it joined from (R94). -/
theorem State.groupIn_join {s : State} {t : Txn} (hkind : byteField t.data 0 1 = gmJoin) (howner : (s.group (byteField t.data 1 1)).owner = true)
    (hst : (s.group (byteField t.data 1 1)).st = .arming)
    (hmember : (s.group (byteField t.data 1 1)).members.any (fun m => m.node == t.src % 4096) = true) :
    s.groupIn t = (0, s.setGroup (byteField t.data 1 1)
      ((s.group (byteField t.data 1 1)).setMember (t.src % 4096) (fun m => { m with joined := true, idx := byteField t.data 2 1 }))) := by
  simp [State.groupIn, hkind, howner, hst, hmember]

theorem State.inGroup_hub {s : State} {t : Txn} (hdest : t.dest = s.self) (hok : t.reqOk = true) (hroom : s.fab.inq.length < 8192)
    {v : State} (hin : s.groupIn t = (0, v)) :
    s.inGroup 3 t = ({ v with rpl := { v.rpl with inSeq := s.rpl.nextSeq } } : State).respond 3 t 0x82 0 [] := by
  have hroute : ¬(t.dest ≠ s.self ∨ (!t.reqOk) = true) := by simp [hdest, hok]
  rw [State.inGroup, if_neg hroute, if_neg (Nat.not_le.mpr hroom)]
  simp only [Nat.lt_irrefl, if_false, hin, if_true]

/-! ### The statement -/

section
variable {s : State} {p : Nat} {t : Txn} (hp : p < 4) (hport : p < 3 → (s.port p).live = true ∧ s.replayed = false)
include hp hport

/-- A transaction that is not for this device, or malformed, is refused (R544). -/
theorem exec_fabLoad_refused (hop : t.op = 1) (hbad : t.dest ≠ s.self ∨ t.reqOk = false) :
    exec (.fabLoad p t) s = .next (((s.count Reg.FAB_ROUTE_CNT 1).fabEvt 0x40).respond p t 0x85 0xB8 []) := by
  have hroute : t.dest ≠ s.self ∨ (!t.reqOk) = true := by simpa using hbad
  refine (State.inRow_acts hp hport hop _).trans ?_
  rw [State.inbound, if_pos hroute]

end

/-- Settles O38: a request through its acceptance and its application, a group message at the hub, and the arithmetic of atomics. -/
theorem inboundRequests : Obligations.InboundRequests := by
  unfold Obligations.InboundRequests
  refine ⟨?requests, ?refused, fun op w m a b hop _ hm => atomicOp_lt hop hm, ?arithmetic⟩
  case requests =>
    intro s p t u es e n hp hport hdest hok hroom hu hes hchk hwait hn
    have hu : u = s.inTaken p t := hu
    subst hu hes
    have hserve {op code : Nat} {b : List Byte} {v : State} (hatomic : t.op = 3 → s.Fresh t)
        (happly : (s.inTaken p t).applyReq e t = (op, code, b, v)) (hgood : op ≠ 0x85) :
        s.inbound p t = (if t.op ≠ 3 then v else v.cached t op code b).respond p t op code b :=
      (State.inbound_accepted hdest hok hroom hatomic).trans (State.serveReq_applied hchk hwait happly hgood)
    refine ⟨fun rd hrd => ⟨fun hop => ?_, fun hop => ?_, ?atomic⟩, fun hop hmail => ?_, fun hop => ?_, fun y hop hy hid => ?_⟩
    · refine .intro (State.inRow_acts hp hport hop _) ?_
      rw [hserve (by omega) (State.applyReq_read hn hrd (.inl hop)) (by decide), if_pos (by omega)]
    · refine .intro (State.inRow_acts hp hport hop _) ?_
      rw [hserve (by omega) (State.applyReq_read hn hrd (.inr hop)) (by decide), if_pos (by omega)]
    case atomic =>
      intro w m v hop hreply hcache hwaits hfirst hsteward _ hoff hw hm hv
      subst hv
      have hgood : (if t.aux.testBit 5 then 0x83 else 0x82) ≠ 0x85 := by split <;> decide
      have hin := hserve (fun _ => ⟨hreply, hcache, hwaits, hfirst⟩) (State.applyReq_atomic hn hrd hop hsteward hw hm) hgood
      rw [if_neg (not_not.mpr hop)] at hin
      have hnow : rd.now = s.now := congrArg TimeUnit.tc ((State.readSpans_snd_time hrd).trans (s.inNoted_time p t))
      have hread : (s.inTaken p t).RingsKept rd := State.readSpans_snd_rings hrd
      have hkept : s.RingsKept (s.inbound p t) := by
        rw [hin]
        exact ((s.inTaken_rings p t).trans hread).trans ((State.respond_rings ..).after rfl)
      refine .intro (State.inRow_acts hp hport hop _) ?_
      rw [State.ringsIn_of_off (hkept.off hoff), hin, State.respond_mem, State.respond_fab]
      exact ⟨rfl, _, List.mem_append_right _ List.mem_cons_self, rfl, rfl, rfl, hnow⟩
    · have hstore : s.inStore p t = s.inbound p t := by rw [State.inStore, hmail, if_neg Bool.false_ne_true]
      refine .intro (State.inRow_acts hp hport hop _) ?_
      rw [hstore, hserve (by omega) (State.applyReq_store hn (.inl hop)) (by decide), if_pos (by omega)]
    · refine .intro (State.inRow_acts hp hport hop _) ?_
      rw [hserve (by omega) (State.applyReq_store hn (.inr hop)) (by decide), if_pos (by omega)]
    · refine .intro (State.inRow_acts hp hport hop _) ?_
      rw [hserve (by omega) (State.applyReq_handle hop hy) (by decide), if_pos (by omega)]
      refine ⟨y.setHqueue (t.aux % 8) (y.hqueue (t.aux % 8) ++ [e.inHandle t]), e.inHandle t, ?_, Ctx.setHqueue_hqueue .., rfl, rfl, rfl, ?_⟩
      · rw [State.respond_ctx?]
        exact State.setCtx_ctx? _ hid
      · exact (State.respond_mem ..).trans (s.inNoted_mem p t)
  case refused =>
    intro s p t hp hport
    refine ⟨fun hop hbad => .intro (exec_fabLoad_refused hp hport hop hbad) rfl, fun hop hdest hok hfull => ?_,
      fun hop hdest hok hroom hhub hkind howner hst hmember => ?_⟩
    · exact .intro (State.inRow_acts hp hport hop _) (State.inbound_full hdest hok hfull)
    · subst hhub
      refine .intro (State.inRow_acts hp hport hop _) ?_
      rw [State.inGroup_hub hdest hok hroom (State.groupIn_join hkind howner hst hmember), State.respond_group]
      exact congrArg Group.members (Tab.get_set_self ..)
  case arithmetic =>
    intro w m a b _ hm
    refine ⟨atomicOp_add w m a b, rfl, fun h => ?_, fun h => ?_⟩
    · rw [atomicOp_cas, if_pos (by rw [← h, Nat.mod_eq_of_lt hm])]
    · rw [atomicOp_cas, if_neg h]

end Sys2Proof.Machine
end

section
/-! PROOFS. A step of the block, and the registers that register commands leave as they were (R87, R101, R756, R771). -/
namespace Sys2Proof.Machine

/-! ### Steps -/

theorem step_of_front {s : State} {c : Instr} {r : List Instr} (h : s.pending = c :: r) : step s = exec c { s with pending := r } := by
  simp only [step, h]

theorem step_of_empty {s : State} (h : s.pending = []) : step s = .next s.tick := by simp only [step, h]

theorem State.tick_only (s : State) : Only [.time, .rpl] s s.tick :=
  have : Has [.time, .rpl] .time := Has.of rfl
  have : Has [.time, .rpl] .rpl := Has.of rfl
  (State.tick_stays _ (Stays.refl _ s)).only

/-- Without supplies, and after a thermal trip, the clocks stand (R756, R771). -/
theorem State.tick_of_stopped {s : State} (h : s.start.pwrOk = false ∨ s.power.thermTrip = true) : s.tick = s :=
  if_pos (by simpa only [Bool.or_eq_true, Bool.not_eq_true'] using h)

/-- Settles O1: the queue is empty or has a front command, and each is one branch of `step`. -/
theorem stepRunsFront : Obligations.StepRunsFront := by
  unfold Obligations.StepRunsFront
  exact ⟨fun _ _ _ h => step_of_front h, fun s h => ⟨step_of_empty h, s.tick_only, State.tick_of_stopped⟩⟩

/-! ### Registers under the register commands -/

section
variable {s : State} {a b : Nat}

/-- A write of BAR2 leaves a register that the recorder does not keep as what the write does leaves it, logged, skipped or neither. -/
theorem State.bar2_get_ne {width v : Nat} {f : State → State} (ha : a ∉ logRegs) (hf : ∀ u, (f u).regs.get 0 a = u.regs.get 0 a) :
    (s.bar2 b width v f).regs.get 0 a = s.regs.get 0 a := by
  unfold State.bar2
  split
  · exact State.count_get_ne _ _ fun h => ha (h ▸ by decide)
  · rw [hf, State.logIn_get_ne _ _ _ _ _ _ ha]

/-- An event whose register is not the one looked at, nor the recorder's. -/
theorem State.event_get_unlogged {u : State} {evt en m n : Nat} (ha : a ∉ logRegs) (h : a ≠ evt) : (u.event evt en m n).regs.get 0 a = u.regs.get 0 a :=
  State.event_get_ne _ _ _ _ _ h fun k => ha (k ▸ by decide)

/-- A log's tail and count move on together. -/
theorem State.setReg_two_get_ne {u : State} {tail count v w : Nat} (ht : a ≠ tail) (hc : a ≠ count) :
    ((u.setReg tail v).setReg count w).regs.get 0 a = u.regs.get 0 a := by
  rw [State.setReg_get_ne _ _ hc, State.setReg_get_ne _ _ ht]

theorem State.hltCmd_get_ne {code : Nat} {ok : State → Bool} {f : State → State} (ha : a ∉ logRegs) (he : a ≠ Reg.HLT_EVT)
    (hf : ∀ u, (f u).regs = u.regs) : (s.hltCmd code ok f).regs.get 0 a = s.regs.get 0 a :=
  State.bar2_get_ne ha fun u => by
    split
    · rw [hf]
    · exact State.event_get_unlogged ha he

theorem State.fuseCmd_get_ne {code confirm : Nat} {ok : State → Bool} {f : State → State} (ha : a ∉ logRegs) (he : a ≠ Reg.HUB_EVT)
    (hf : ∀ u, (f u).regs = u.regs) : (s.fuseCmd code confirm ok f).regs.get 0 a = s.regs.get 0 a :=
  State.bar2_get_ne ha fun u => by
    split
    · rw [hf]
    · exact State.flag_get_ne _ _ he

theorem State.flashCmd_get_ne {code : Nat} {f : State → State} (ha : a ∉ logRegs) (hs : a ≠ Reg.HUB_FLASH_STAT)
    (hf : ∀ u, (f u).regs = u.regs) : (s.flashCmd code f).regs.get 0 a = s.regs.get 0 a :=
  State.bar2_get_ne ha fun u => by
    split
    · rw [hf]; exact State.setReg_get_ne _ _ hs
    · exact State.flag_get_ne _ _ hs

theorem State.rplCmd_get_ne {code : Nat} {ok : State → Bool} {f : State → State} (ha : a ∉ logRegs)
    (hf : ∀ u, (f u).regs = u.regs) : (s.rplCmd code ok f).regs.get 0 a = s.regs.get 0 a :=
  State.bar2_get_ne ha fun u => by
    split
    · rw [hf]
    · exact State.event_get_unlogged ha fun k => ha (k ▸ by decide)

theorem execFlashDone_get_ne {t : State} {ok : Bool} (h : execFlashDone ok s = .next t) (hs : a ≠ Reg.HUB_FLASH_STAT) :
    t.regs.get 0 a = s.regs.get 0 a := by
  unfold execFlashDone at h
  split at h
  · cases h; rfl
  · cases h
    rw [State.setReg_get_ne _ _ hs]
    split <;> rfl

end

/-- Settles O6: each command is a write of BAR2, and what it does names the registers that it sets. -/
theorem registerFrames : Obligations.RegisterFrames := by
  unfold Obligations.RegisterFrames
  intro s t a ha
  refine ⟨?snapshot, ?requalify, ?ibxCsAck, ?memLogAck, ?hltLogAck, ?shpHistClr, ?shadowStart, ?shadowStop, ?commitSvn, ?takeOwner, ?restartCancel,
    ?secMrExt, ?flashErase, ?flashRead, fun ok h hs => execFlashDone_get_ne h hs, ?replayStop⟩
  case snapshot =>
    rintro ⟨⟩ hs
    exact State.bar2_get_ne ha fun u => State.setReg_get_ne _ _ hs
  case requalify =>
    rintro ⟨⟩
    exact State.bar2_get_ne ha fun u => rfl
  case ibxCsAck =>
    intro g n h ht hc
    change (if 12 ≤ g then _ else _) = _ at h
    split at h
    · cases h
    · cases h
      exact State.bar2_get_ne ha fun u => State.setReg_two_get_ne ht hc
  case memLogAck | hltLogAck =>
    rintro n ⟨⟩ ht hc
    exact State.bar2_get_ne ha fun u => State.setReg_two_get_ne ht hc
  case shpHistClr =>
    rintro ⟨⟩
    exact State.bar2_get_ne ha fun u => rfl
  case shadowStart | shadowStop =>
    rintro ⟨⟩ he
    exact State.hltCmd_get_ne ha he fun u => rfl
  case commitSvn | takeOwner =>
    rintro k ⟨⟩ he
    exact State.fuseCmd_get_ne ha he fun u => rfl
  case restartCancel =>
    rintro ⟨⟩
    exact State.bar2_get_ne ha fun u => by split <;> rfl
  case secMrExt =>
    rintro i ⟨⟩
    exact State.bar2_get_ne ha fun u => by split <;> rfl
  case flashErase =>
    rintro ⟨⟩ hs
    exact State.flashCmd_get_ne ha hs fun u => rfl
  case flashRead =>
    rintro ⟨⟩ hs
    exact State.flashCmd_get_ne ha hs fun u => State.emit_regs ..
  case replayStop =>
    rintro ⟨⟩
    exact State.rplCmd_get_ne ha fun u => rfl

end Sys2Proof.Machine
end

section
/-! PROOFS. The time unit: what a change of source, state or steering leaves of it (R62 to R78, R97, R101). -/
namespace Sys2Proof.Machine

/-! ### What the servo leaves -/

/-- The time unit without what a transition, a step or the steering sets: the sources, the marks of pulses and beacons, and the ports stand. -/
def TimeUnit.inputs (t : TimeUnit) : TimeUnit :=
  { t with tc := 0, frac := 0, st := .freerun, src := 0, everLocked := false, offset := 0, freq := 0, slew := 0, holdOfs := 0, holdAt := 0, drift := 0 }

/-- The same without the three sources. -/
def TimeUnit.marks (t : TimeUnit) : TimeUnit := { t.inputs with pps := {}, ptp := {}, bcn := {} }

theorem TimeUnit.marks_of_inputs {t u : TimeUnit} (h : t.inputs = u.inputs) : t.marks = u.marks :=
  congrArg (fun x : TimeUnit => { x with pps := {}, ptp := {}, bcn := {} }) h

section
variable {s : State} {i : Nat} {x : SrcState}

theorem State.setSrc_marks : (s.setSrc i x).time.marks = s.time.marks := by
  unfold State.setSrc
  split <;> rfl

theorem State.setCounter_marks (t64 : Int) : (s.setCounter t64).time.marks = s.time.marks := rfl

theorem State.setSrc_now : (s.setSrc i x).now = s.now := by
  unfold State.setSrc
  split <;> rfl

theorem State.setSrc_regs : (s.setSrc i x).regs = s.regs := by
  unfold State.setSrc
  split <;> rfl

theorem State.setSrc_rpl : (s.setSrc i x).rpl = s.rpl := by
  unfold State.setSrc
  split <;> rfl

theorem State.setSrc_of_st {f : TimeUnit → TuState × Nat × Int} (h : f = fun t => (t.st, t.src, t.offset)) : f (s.setSrc i x).time = f s.time := by
  subst h
  unfold State.setSrc
  split <;> rfl

theorem State.steer_inputs (ofs : Int) : (s.steer i ofs).time.inputs = s.time.inputs := by
  unfold State.steer
  split <;> rfl

theorem State.steer_regs (ofs : Int) : (s.steer i ofs).regs = s.regs := by
  unfold State.steer
  split <;> rfl

/-- A transition sets state and source, and remembers a lock (R72, R73). -/
theorem State.timTo_time (st : TuState) (src : Nat) (step : Bool) : (s.timTo st src step).time =
    { s.time with st := st, src := src, everLocked := s.time.everLocked || (st == TuState.locked) } := by
  simp only [State.timTo, State.redev_time, State.timEvt_time, State.logIn_time]

theorem State.timTo_inputs (st : TuState) (src : Nat) (step : Bool) : (s.timTo st src step).time.inputs = s.time.inputs := by
  rw [State.timTo_time]; rfl

/-- A source that is disqualified loses its count; what follows is a transition and steering (R73). -/
theorem State.disqualify_inputs :
    (s.disqualify i).time.inputs = (s.setSrc i { s.srcSt i with qual := false, run := 0 }).time.inputs := by
  unfold State.disqualify
  extract_lets x t
  split
  · rfl
  · split
    · rw [State.steer_inputs, State.timTo_inputs]
    · exact State.timTo_inputs ..

theorem State.disqualify_marks : (s.disqualify i).time.marks = s.time.marks :=
  (TimeUnit.marks_of_inputs State.disqualify_inputs).trans State.setSrc_marks

theorem State.qualify_marks : (s.qualify i).time.marks = s.time.marks := by
  unfold State.qualify
  extract_lets x
  split
  · rfl
  · split
    · exact (TimeUnit.marks_of_inputs (State.timTo_inputs ..)).trans
        (State.setSrc_marks.trans ((State.setCounter_marks _).trans State.setSrc_marks))
    · exact State.setSrc_marks
    all_goals
      split
      · exact (TimeUnit.marks_of_inputs (State.steer_inputs _)).trans
          ((TimeUnit.marks_of_inputs (State.timTo_inputs ..)).trans State.setSrc_marks)
      · exact State.setSrc_marks

/-- While the unit is locked, a source that meets its condition only counts as qualified from now on (R62). -/
theorem State.qualify_of_locked (hlive : s.replayed = false) (hst : s.time.st = .locked) (hq : (s.srcSt i).qual = false)
    (hd : (s.srcSt i).disq = false) : s.qualify i = s.setSrc i { s.srcSt i with qual := true, since := s.now } := by
  simp only [State.qualify, hlive, hq, hd, hst, Bool.false_eq_true, or_self, if_false]

/-- The servo steers by the source in use only (R76, R97). -/
theorem State.steer_of_used {ofs : Int} (hst : s.time.st = .locked) (hsrc : s.time.src = i) : (s.steer i ofs).time =
    { s.time with offset := ofs, slew := -(ofs * 2 ^ 26), freq := Config.rateCorr s.drawn } := by
  rw [State.steer, if_pos ⟨hst, hsrc⟩]

end

/-! ### Its registers -/

section
variable {b : Nat}

theorem State.timEvt_get_ne (s : State) {m : Nat} (h : b ≠ Reg.TIM_EVT) (k : b ≠ Reg.HIF_QOFF_DROP) :
    (s.timEvt m).regs.get 0 b = s.regs.get 0 b := State.event_get_ne _ _ _ _ _ h k

theorem State.timEvt_reg (s : State) {m : Nat} (h : m < 2 ^ 64) : (s.timEvt m).reg Reg.TIM_EVT = s.reg Reg.TIM_EVT ||| m :=
  State.event_reg _ _ _ (by decide) h

/-- A change of the device state writes no register but the count of records dropped. -/
theorem State.redev_get_ne (s : State) (h : b ≠ Reg.HIF_QOFF_DROP) : s.redev.regs.get 0 b = s.regs.get 0 b := by
  have hset (d : DevSt) : (s.setDev d).regs.get 0 b = s.regs.get 0 b := by
    unfold State.setDev
    split
    · rfl
    · exact State.foldl_same (fun u => u.regs.get 0 b) (fun u f => State.statusNote_get_ne u f h) _ _
  unfold State.redev
  split
  · split
    · exact hset _
    · rfl
  · split
    · exact hset _
    · rfl
  all_goals rfl

theorem State.redev_reg (s : State) (h : b ≠ Reg.HIF_QOFF_DROP) : s.redev.reg b = s.reg b := congrArg BitVec.toNat (s.redev_get_ne h)

/-- A transition sets flags in `TIM_EVT` (R73). -/
theorem State.timTo_evt (s : State) (st : TuState) (src : Nat) (step : Bool) :
    ∃ m, (s.timTo st src step).reg Reg.TIM_EVT = s.reg Reg.TIM_EVT ||| m := by
  unfold State.timTo
  extract_lets c x u v
  have hlog : v.reg Reg.TIM_EVT = s.reg Reg.TIM_EVT := State.logIn_reg_ne u _ _ _ _ _ (by decide)
  rw [State.redev_reg _ (by decide), State.timEvt_reg v (by split <;> split <;> decide), hlog]
  exact ⟨_, rfl⟩

/-- What follows a source's loss takes no flag from `TIM_EVT`. -/
theorem State.disqualify_evt (s : State) (i : Nat) : ∃ m, (s.disqualify i).reg Reg.TIM_EVT = s.reg Reg.TIM_EVT ||| m := by
  have hreg {x : SrcState} : (s.setSrc i x).reg Reg.TIM_EVT = s.reg Reg.TIM_EVT := by rw [State.reg, State.setSrc_regs]; rfl
  unfold State.disqualify
  extract_lets x t
  split
  · exact ⟨0, by rw [hreg, Nat.or_zero]⟩
  · split
    next j _ =>
      obtain ⟨m, hm⟩ := State.timTo_evt t .locked j false
      exact ⟨m, by rw [State.reg, State.steer_regs, ← hreg]; exact hm⟩
    · obtain ⟨m, hm⟩ := State.timTo_evt
        { t with time := { t.time with slew := 0, holdOfs := t.time.offset.natAbs, holdAt := t.now } } .holdover t.time.src false
      exact ⟨m, by rw [← hreg]; exact hm⟩

end

/-! ### Steps (R77, R78) -/

/-- Every part but the time unit. -/
abbrev notTime : List Part :=
  [.lists, .cyclic, .ctxs, .units, .fns, .vfs, .ports, .acct, .mat, .inf, .chm, .radio, .front, .tiers, .fab, .rpl, .health, .start, .power, .regs,
   .latch, .mem, .out, .drawn, .pending]

theorem Stays.time_eq {s t : State} (h : Stays notTime s t) : t.time = s.time := h.only.same .time (by decide)

section
variable (s : State)

theorem State.seqUpdate_time (g : Nat) : (s.seqUpdate g).time = s.time := by
  have head := Has.head
  have tail := Has.tail
  exact (State.seqUpdate_stays s g (Stays.refl notTime s)).time_eq

theorem State.hardStopNow_time (g : Nat) : (s.hardStopNow g).time = s.time := by
  have head := Has.head
  have tail := Has.tail
  exact (State.hardStopNow_stays s g (Stays.refl notTime s)).time_eq

theorem State.reevaluate_time : s.reevaluate.time = s.time := rfl

/-- The counter as a state, a source and an instant leave it after a step (R77). -/
structure TimeUnit.Stepped (t : TimeUnit) (i tc : Nat) : Prop where
  st : t.st = .locked
  src : t.src = i
  tc : t.tc = tc
  offset : t.offset = 0

theorem State.setSrc_tc (i : Nat) (x : SrcState) : (s.setSrc i x).time.tc = s.time.tc := by
  unfold State.setSrc
  split <;> rfl

/-- A step locks the unit to the source at its instant; comparators and sequencers then follow, and leave the time unit. -/
theorem State.stepTo_time (i : Nat) : (s.stepTo i).time.Stepped i ((s.now64 - (s.srcSt i).ofs : Int).toNat / 64) := by
  unfold State.stepTo
  extract_lets d u v k x time y
  have hfold : ((List.range 12).foldl (fun s g => (s.seqUpdate g).hardStopNow g) y).time = y.time :=
    State.foldl_same State.time (fun u g => (State.hardStopNow_time _ g).trans (u.seqUpdate_time g)) _ _
  have hy : y.time = _ := (State.reevaluate_time _).trans (State.timTo_time ..)
  have htc : x.time.tc = u.time.tc :=
    (State.setSrc_tc ..).trans (State.foldl_same (fun s => s.time.tc) (fun u j => State.setSrc_tc ..) _ _)
  rw [hfold, hy]
  exact ⟨rfl, rfl, htc, rfl⟩

end

/-! ### The commands of TIM_CMD (R101) -/

section
variable {s : State} (cls kind source : Nat) (aux : DWord) (b : List Byte)

theorem State.logIn_srcSt (i : Nat) : (s.logIn cls kind source aux b).srcSt i = s.srcSt i := by
  simp only [State.srcSt, State.logIn_time]

/-- What is logged of an input leaves the sources' ranks, and so the source that a step would take. -/
theorem State.logIn_stepSrc : (s.logIn cls kind source aux b).stepSrc = s.stepSrc := by
  have hslot : (s.logIn cls kind source aux b).rankSlot = s.rankSlot :=
    funext fun i => congrArg (bits · (4 * i) 4) (State.logIn_get_ne _ _ _ _ _ _ (by decide))
  have hrank : (s.logIn cls kind source aux b).ranked = s.ranked := by rw [State.ranked, hslot]; rfl
  have hsrc : (s.logIn cls kind source aux b).srcSt = s.srcSt := funext (State.logIn_srcSt cls kind source aux b)
  rw [State.stepSrc, State.anyCellOn, hrank, hsrc, State.logIn_time, State.logIn_radio]
  rfl

end

/-- The state in which a command of `TIM_CMD` acts: its write is logged. -/
def State.timCmd (s : State) (v : Nat) : State := s.logIn 5 0x04 pf0 (BitVec.ofNat 64 (Reg.TIM_CMD + 2 * 2 ^ 48)) (leBytes 4 v)

section
variable {s : State} (hlive : s.replayed = false)
include hlive

theorem exec_snapshot : exec .snapshot s = .next ((s.timCmd 1).setReg Reg.TIM_SNAP (tcStamp s.now).toNat) := by
  refine congrArg Host.Outcome.next ((State.bar2_eq _ _ _ _ _ hlive).trans ?_)
  rw [State.now, State.logIn_time]
  rfl

theorem exec_restep : exec .restep s = .next (match s.stepSrc with | none => (s.timCmd 2).timEvt 0x40 | some i => (s.timCmd 2).stepTo i) := by
  refine congrArg Host.Outcome.next ((State.bar2_eq _ _ _ _ _ hlive).trans ?_)
  rw [State.logIn_replayed _ _ _ _ _ _ hlive, State.logIn_stepSrc]
  rfl

theorem exec_requalify : exec .requalify s = .next { s.timCmd 3 with
    time := { s.time with pps := { s.time.pps with disq := false }, ptp := { s.time.ptp with disq := false }, bcn := { s.time.bcn with disq := false } } } := by
  refine congrArg Host.Outcome.next ((State.bar2_eq _ _ _ _ _ hlive).trans ?_)
  have htime : (s.timCmd 3).time = s.time := State.logIn_time ..
  rw [← htime]
  rfl

/-- Other values are ignored: `TIM_CMD` is write-only, and its commands have rows of their own. -/
theorem exec_registerWrite_timCmd (v : Nat) : exec (.registerWrite ⟨pf0, true, Reg.TIM_CMD, 4⟩ v) s = .next (s.timCmd v) := by
  have hit : regHit Reg.TIM_CMD 4 = (regRowAt Reg.TIM_CMD).map (fun r => (r, Reg.TIM_CMD, false)) := by decide +kernel
  obtain ⟨k, hk, hacc⟩ : ∃ k, regRowAt Reg.TIM_CMD = some k ∧ k.acc = .wo := ⟨_, rfl, rfl⟩
  rw [hk] at hit
  refine (exec_registerWrite_bar2 v rfl rfl (.inl rfl) rfl hit hlive).trans ?_
  rw [State.writeRow_of_unwritable _ _ _ _ _ (.inr (.inl hacc))]
  rfl

end

/-- Settles O8: each command acts on the state with its write logged, which changes the recorder and its registers only. -/
theorem timeCommands : Obligations.TimeCommands := by
  unfold Obligations.TimeCommands
  intro s hlive
  have hnow (v : Nat) : (s.timCmd v).now64 = s.now64 := by rw [State.timCmd, State.now64, State.logIn_time]; rfl
  have hlog (v : Nat) : Only noted s (s.timCmd v) := State.logIn_only ..
  refine ⟨.intro (exec_snapshot hlive) ⟨?snap, ((exec_stays .snapshot s).next _ (exec_snapshot hlive)).only⟩,
    fun i hi => .intro (exec_restep hlive) ?step, fun hi => .intro (exec_restep hlive) ?noSource,
    .intro (exec_requalify hlive) ⟨rfl, ((exec_stays .requalify s).next _ (exec_requalify hlive)).only⟩,
    fun v _ => .intro (exec_registerWrite_timCmd hlive v) ⟨hlog v, fun a ha => State.logIn_get_ne _ _ _ _ _ _ ha⟩⟩
  case snap => rw [State.setReg_reg, Nat.mod_eq_of_lt (tcStamp s.now).isLt]
  case step =>
    rw [hi]
    obtain ⟨hst, hsrc, htc, -⟩ := (s.timCmd 2).stepTo_time i
    rw [hnow, State.timCmd, State.logIn_srcSt] at htc
    exact ⟨hst, hsrc, htc⟩
  case noSource =>
    rw [hi]
    refine ⟨(State.timEvt_reg _ (by decide)).trans (congrArg (· ||| _) (State.logIn_reg_ne _ _ _ _ _ _ (by decide))), ?_⟩
    exact (hlog 2).trans ((State.timEvt_only _ _).mono (by decide))

end Sys2Proof.Machine
end

section
/-! PROOFS. Pulses on PPS_IN and time-of-day messages (R62 to R65). -/
namespace Sys2Proof.Machine

section
variable {s : State}

/-! ### A pulse (R62, R63) -/

/-- The state once an edge is taken: the message that waited is used up. -/
def State.edgeTaken (s : State) : State :=
  { s with time := { s.time with tod := none, ppsLast := some s.now, expSec := some (((s.edge64 + second64 / 2) / second64).toNat + 1) } }

/-- A missing or invalid pulse changes the source PPS only, but for what its loss brings about. -/
theorem State.ppsBad_marks : s.ppsBad.time.marks = s.time.marks := by
  have hset : ((s.setSrc 1 { s.srcSt 1 with run := 0, miss := (s.srcSt 1).miss + 1 }).timEvt 4).time.marks = s.time.marks := by
    rw [State.timEvt_time, State.setSrc_marks]
  unfold State.ppsBad
  extract_lets x t
  split
  · exact State.disqualify_marks.trans hset
  · exact hset

/-- Whatever a pulse counts as, its edge is taken. -/
theorem exec_ppsPulse_marks (hlive : s.replayed = false) (hen : s.srcEnabled 1 = true) :
    ∃ t, exec .ppsPulse s = .next t ∧ t.time.marks = s.edgeTaken.time.marks := by
  change ∃ t, execPpsPulse s = .next t ∧ _
  rw [execPpsPulse, if_neg (by simp [hlive, hen])]
  extract_lets e ph valid sec ofs first u x v
  split
  · exact ⟨_, rfl, rfl⟩
  · split
    · exact ⟨_, rfl, State.ppsBad_marks⟩
    · split
      · exact ⟨_, rfl, (TimeUnit.marks_of_inputs (State.steer_inputs _)).trans State.setSrc_marks⟩
      · split
        · exact ⟨_, rfl, State.qualify_marks.trans State.setSrc_marks⟩
        · exact ⟨_, rfl, State.setSrc_marks⟩

/-- The source PPS after one more valid pulse of phase `ofs`. -/
def SrcState.pulsed (x : SrcState) (ofs : Int) : SrcState := { x with run := x.run + 1, miss := 0, ofs := ofs }

/-- A valid pulse of phase `ofs` is counted: a qualified source steers, and the fourth in a row meets the condition (R62). -/
def State.pulsed (s : State) (ofs : Int) : State :=
  let u := s.edgeTaken.setSrc 1 (s.time.pps.pulsed ofs)
  if s.time.pps.qual then u.steer 1 ofs else if 4 ≤ s.time.pps.run + 1 then u.qualify 1 else u

theorem exec_ppsPulse_valid {sec : Nat} (hlive : s.replayed = false) (hen : s.srcEnabled 1 = true) (hlocked : s.time.everLocked = true)
    (htod : s.time.tod = some sec) (hlo : -pulse64 ≤ nearSecond s.edge64) (hhi : nearSecond s.edge64 ≤ pulse64) :
    exec .ppsPulse s = .next (s.pulsed (s.edge64 - second64 * (sec : Int))) := by
  change execPpsPulse s = _
  rw [execPpsPulse, if_neg (by simp [hlive, hen])]
  extract_lets e ph valid sec' ofs' first u x v
  have hfirst : ¬ first = true := by simp [first, hlocked]
  have hvalid : ¬ (!valid) = true := by simp [valid, ph, e, hlocked, htod, hlo, hhi]
  have hofs : ofs' = s.edge64 - second64 * (sec : Int) := by simp [ofs', e, htod]
  rw [if_neg hfirst, if_neg hvalid, ← hofs]
  simp only [← apply_ite Host.Outcome.next]
  rfl

/-- In a locked unit a valid pulse makes PPS qualified from the fourth in a row. -/
theorem State.pps_after_valid {ofs : Int} (hlive : s.replayed = false) (hst : s.time.st = .locked) (hdisq : s.time.pps.disq = false) :
    (s.pulsed ofs).time.pps.run = s.time.pps.run + 1 ∧ (s.pulsed ofs).time.pps.miss = 0 ∧
    (s.pulsed ofs).time.pps.qual = (s.time.pps.qual || decide (3 ≤ s.time.pps.run)) := by
  unfold State.pulsed
  extract_lets u
  have hu : u.time.pps = s.time.pps.pulsed ofs := rfl
  by_cases hq : s.time.pps.qual = true
  · have hsteer : (u.steer 1 ofs).time.pps = u.time.pps := by
      have h := congrArg TimeUnit.pps (State.steer_inputs (s := u) (i := 1) ofs)
      exact h
    rw [if_pos hq, hsteer, hu, hq]
    exact ⟨rfl, rfl, hq⟩
  · have hq' : s.time.pps.qual = false := by simpa using hq
    rw [if_neg hq, hq']
    by_cases hrun : 3 ≤ s.time.pps.run
    · rw [if_pos (by omega), State.qualify_of_locked (s := u) (i := 1) hlive hst hq' hdisq, decide_eq_true hrun]
      exact ⟨rfl, rfl, rfl⟩
    · rw [if_neg (by omega), hu, decide_eq_false hrun]
      exact ⟨rfl, rfl, hq'⟩

/-! ### A missing pulse (R63) -/

/-- A missing pulse ends the run; the third in a row disqualifies PPS. -/
theorem State.ppsBad_pps : s.ppsBad.time.pps.run = 0 ∧ s.ppsBad.time.pps.miss = s.time.pps.miss + 1 ∧
    s.ppsBad.time.pps.qual = (s.time.pps.qual && decide (s.time.pps.miss < 2)) := by
  have hset : ((s.setSrc 1 { s.srcSt 1 with run := 0, miss := (s.srcSt 1).miss + 1 }).timEvt 4).time.pps =
      { s.time.pps with run := 0, miss := s.time.pps.miss + 1 } := by rw [State.timEvt_time]; rfl
  unfold State.ppsBad
  extract_lets x t
  split
  next h =>
    have hpps : (t.disqualify 1).time.pps = { t.time.pps with qual := false, run := 0 } := congrArg TimeUnit.pps State.disqualify_inputs
    have hmiss : ¬ s.time.pps.miss < 2 := Nat.not_lt.mpr h.1
    rw [hpps, hset, decide_eq_false hmiss, Bool.and_false]
    exact ⟨rfl, rfl, rfl⟩
  next h =>
    rw [hset]
    refine ⟨rfl, rfl, ?_⟩
    change s.time.pps.qual = _
    cases hq : s.time.pps.qual with
    | false => rfl
    | true =>
      have hmiss : s.time.pps.miss < 2 := Nat.not_le.mp fun hle => h ⟨hle, hq⟩
      rw [decide_eq_true hmiss]; rfl

/-- A missing pulse sets its flag, and what follows takes none away. -/
theorem State.ppsBad_evt : ∃ m, s.ppsBad.reg Reg.TIM_EVT = s.reg Reg.TIM_EVT ||| 4 ||| m := by
  have hset : ((s.setSrc 1 { s.srcSt 1 with run := 0, miss := (s.srcSt 1).miss + 1 }).timEvt 4).reg Reg.TIM_EVT = s.reg Reg.TIM_EVT ||| 4 :=
    State.timEvt_reg _ (by decide)
  unfold State.ppsBad
  extract_lets x t
  split
  · obtain ⟨m, hm⟩ := State.disqualify_evt t 1
    exact ⟨m, by rw [hm, hset]⟩
  · exact ⟨0, by rw [Nat.or_zero]; exact hset⟩

/-- The pulse of second `k` is missed 5 µs after its instant. -/
theorem exec_ppsMiss_due {k : Nat} (hlive : s.replayed = false) (hen : s.srcEnabled 1 = true) (hlocked : s.time.everLocked = true)
    (hexp : s.time.expSec = some k) (hdue : (k : Int) * second64 + pulse64 ≤ s.edge64) :
    exec .ppsMiss s = .next { s with time := { s.time with expSec := some (((s.edge64 - pulse64) / second64).toNat + 1), tod := none } }.ppsBad := by
  change execPpsMiss s = _
  have hsec : (k : Int) ≤ (s.edge64 - pulse64) / second64 := Int.le_ediv_of_mul_le (by decide) (Int.le_sub_right_of_add_le hdue)
  have hk : k ≤ ((s.edge64 - pulse64) / second64).toNat := by omega
  simp [execPpsMiss, hlive, hen, hlocked, hexp, hk]

/-! ### A time-of-day message (R64, R65) -/

theorem leNat_lt (l : List Byte) : leNat l < 256 ^ l.length := by
  induction l with
  | nil => exact Nat.one_pos
  | cons b l ih =>
    have hb : b.toNat < 256 := b.isLt
    simp only [leNat, List.length_cons, Nat.pow_succ]
    omega

/-- A field of one byte. -/
theorem byteField_one_lt (b : List Byte) (i : Nat) : byteField b i 1 < 256 := by
  refine Nat.lt_of_lt_of_le (leNat_lt _) ?_
  exact (Nat.pow_le_pow_right (by decide) (List.length_take_le ..)).trans (by decide)

section
variable {b : List Byte} (hlive : s.replayed = false) (hen : s.srcEnabled 1 = true) (htype : byteField b 2 1 = 1)
include hlive hen htype

/-- Before the first lock a sound message that comes 100 ms to 900 ms after the pulse waits for the next. -/
theorem exec_todMessage_taken {l : Nat} (hok : todOk b = true) (hever : s.time.everLocked = false) (hlast : s.time.ppsLast = some l)
    (hlo : l + 196608000 ≤ s.now) (hhi : s.now ≤ l + 1769472000) : exec (.todMessage b) s = .next (
      let t := { s with time := { s.time with tod := some (byteField b 4 6) } }.setReg Reg.TIM_LEAP (byteField b 10 1)
      if (byteField b 3 1).testBit 1 then t.timEvt 0x100 else t) := by
  change execTodMessage b s = _
  simp [execTodMessage, hlive, hen, htype, hok, hever, hlast, hlo, hhi]

theorem exec_todMessage_bad (hok : todOk b = false) : exec (.todMessage b) s = .next (s.timEvt 8) := by
  change execTodMessage b s = _
  simp [execTodMessage, hlive, hen, htype, hok]

end

end

/-- Settles O9: a pulse is an edge that is valid or not, a miss is an invalid pulse, a message is taken or flagged. -/
theorem pulsesAndMessages : Obligations.PulsesAndMessages := by
  unfold Obligations.PulsesAndMessages
  intro s hlive
  refine ⟨?edge, ?valid, ?miss, ?taken, ?bad⟩
  case edge =>
    intro hen
    obtain ⟨t, ht, hmarks⟩ := exec_ppsPulse_marks hlive hen
    exact .intro ht ⟨congrArg TimeUnit.tod hmarks, congrArg TimeUnit.ppsLast hmarks⟩
  case valid =>
    rintro sec m hen hlocked htod hlo hhi rfl hst hdisq
    exact .intro (exec_ppsPulse_valid hlive hen hlocked htod hlo hhi) (State.pps_after_valid hlive hst hdisq)
  case miss =>
    intro k hen hlocked hexp hdue
    refine .intro (exec_ppsMiss_due hlive hen hlocked hexp hdue) ?_
    obtain ⟨hrun, hmiss, hqual⟩ := State.ppsBad_pps
      (s := { s with time := { s.time with expSec := some (((s.edge64 - pulse64) / second64).toNat + 1), tod := none } })
    obtain ⟨m, hm⟩ := State.ppsBad_evt
      (s := { s with time := { s.time with expSec := some (((s.edge64 - pulse64) / second64).toNat + 1), tod := none } })
    refine ⟨hrun, hmiss, hqual, ?_⟩
    rw [hm]
    apply Nat.eq_of_testBit_eq
    intro i
    simp only [Nat.testBit_and, Nat.testBit_or]
    cases Nat.testBit 4 i <;> simp
  case taken =>
    intro b l hen htype hok hever hlast hlo hhi
    refine .intro (exec_todMessage_taken hlive hen htype hok hever hlast hlo hhi) ?_
    have hleap (u : State) : (u.setReg Reg.TIM_LEAP (byteField b 10 1)).reg Reg.TIM_LEAP = byteField b 10 1 := by
      rw [State.setReg_reg, Nat.mod_eq_of_lt ((byteField_one_lt b 10).trans (by decide))]
    split
    · refine ⟨by rw [State.timEvt_time]; rfl, ?_⟩
      rw [State.reg, State.timEvt_get_ne _ (by decide) (by decide)]
      exact hleap _
    · exact ⟨rfl, hleap _⟩
  case bad =>
    intro b hen htype hok
    exact .intro (exec_todMessage_bad hlive hen htype hok) ⟨State.timEvt_time .., State.timEvt_reg _ (by decide)⟩

end Sys2Proof.Machine
end

section
/-! PROOFS. PTP, SyncE, the choice of source, and the outputs of the counter (R61 to R79, R104, R784). -/
namespace Sys2Proof.Machine

/-! ### Ports (R66) -/

theorem leastBy_isSome {α : Type} {l : List α} (h : l ≠ []) (f : α → Nat) : (leastBy l f).isSome = true := by
  cases l with
  | nil => exact absurd rfl h
  | cons x r =>
    simp only [leastBy]
    split
    · rfl
    · split <;> rfl

section
variable {s : State} {p : Nat}

theorem State.setPtpPort_ptpPort {x : PtpPort} : (s.setPtpPort p x).ptpPort p = x := Tab.get_set_self ..

/-- A port with a master is a candidate of the alternate BMCA. -/
theorem State.bestPort_isSome (hp : p < 16) (hon : s.ptpOn p = true) (ha : (s.ptpPort p).announced = true) : ∃ q, s.bestPort = some q := by
  refine Option.isSome_iff_exists.mp (leastBy_isSome (List.ne_nil_of_mem (a := p) ?_) _)
  simp [hp, hon, ha]

/-- Frequency from SyncE follows the quality level of the selected port (R68). -/
theorem State.synceFrom_time : s.synceFrom.time =
    { s.time with synce := s.time.ptpSlave && decide ((s.ptpPort s.time.ptpPort).ql ≤ s.regBits Reg.TIM_PTP_CFG 24 4) } := by
  unfold State.synceFrom
  extract_lets on
  split
  next h => exact congrArg (fun b => { s.time with synce := b }) h.symm
  · exact State.timEvt_time ..

/-- The choice of a port changes none of them. -/
theorem State.selectPort_ptpPorts : s.selectPort.time.ptpPorts = s.time.ptpPorts := by
  have hdis (u : State) : (u.disqualify 2).time.ptpPorts = u.time.ptpPorts := by
    have h := congrArg TimeUnit.ptpPorts (State.disqualify_marks (s := u) (i := 2))
    exact h
  unfold State.selectPort
  split
  · split
    · exact hdis _
    · rfl
  · split
    · rfl
    · rw [State.synceFrom_time]; exact hdis _

theorem State.selectPort_ptpPort (q : Nat) : s.selectPort.ptpPort q = s.ptpPort q := congrArg (fun t : Tab PtpPort => t.get {} q) State.selectPort_ptpPorts

/-- With a master known the unit is a slave. -/
theorem State.selectPort_slave {q : Nat} (h : s.bestPort = some q) : s.selectPort.time.ptpSlave = true := by
  unfold State.selectPort
  simp only [h]
  split
  next hs => exact hs.1
  · rw [State.synceFrom_time]
    have hdis (u : State) : (u.disqualify 2).time.ptpSlave = u.time.ptpSlave := by
      have h := congrArg TimeUnit.ptpSlave (State.disqualify_marks (s := u) (i := 2))
      exact h
    exact hdis _

/-! ### Frames (R62, R66 to R68) -/

theorem unsigned_lt (len : Nat) (v : Int) : unsigned len v < 2 ^ len := by
  have hpos : (0 : Int) < (2 ^ len : Nat) := by exact_mod_cast Nat.two_pow_pos len
  have hlt := Int.emod_lt_of_pos v hpos
  have hnn := Int.emod_nonneg v hpos.ne'
  unfold unsigned
  omega

/-- A port once a Sync frame has come: the master's time and the local one (R66). -/
def PtpPort.synced (x : PtpPort) (t1 t2 : Int) : PtpPort := { x with t1 := t1, t2 := t2, last := some (t1, t2) }

/-- The leap seconds that a master's announce frame gives (R66). -/
def State.leapNoted (s : State) (utc : Nat) (leap : Bool) : State :=
  let t := s.setReg Reg.TIM_LEAP (unsigned 32 ((utc : Int) - 19))
  if leap then t.timEvt 0x100 else t

theorem State.leapNoted_time (s : State) (utc : Nat) (leap : Bool) : (s.leapNoted utc leap).time = s.time := by
  unfold State.leapNoted
  extract_lets t
  split
  · exact State.timEvt_time ..
  · rfl

theorem State.leapNoted_leap (s : State) (utc : Nat) (leap : Bool) :
    (s.leapNoted utc leap).reg Reg.TIM_LEAP = unsigned 32 ((utc : Int) - 19) := by
  unfold State.leapNoted
  extract_lets t
  have ht : t.reg Reg.TIM_LEAP = unsigned 32 ((utc : Int) - 19) := by
    rw [State.setReg_reg, Nat.mod_eq_of_lt ((unsigned_lt ..).trans (by decide))]
  split
  · rw [State.reg, State.timEvt_get_ne _ (by decide) (by decide)]; exact ht
  · exact ht

/-- Steering leaves PTP as its Sync has set it. -/
theorem State.steer_ptp (u : State) (x : SrcState) (ofs : Int) : ((u.setSrc 2 x).steer 2 ofs).time.ptp = x := by
  have h := congrArg TimeUnit.ptp (State.steer_inputs (s := u.setSrc 2 x) (i := 2) ofs)
  exact h

variable (hlive : s.replayed = false) (hp : p < 16)
include hlive hp

section
variable (hon : s.ptpOn p = true)
include hon

/-- An announce frame names the master and its rank; the port is chosen anew, and the selected one gives the leap seconds. -/
theorem exec_ptpFrame_announce (rank utc : Nat) (leap : Bool) : exec (.ptpFrame p (.announce rank utc leap)) s = .next (
    let u := (s.setPtpPort p { s.ptpPort p with announced := true, rank := rank }).selectPort
    if u.time.ptpPort = p then u.leapNoted utc leap else u) := by
  change execPtpFrame p (.announce rank utc leap) s = _
  rw [execPtpFrame, if_neg (by omega), if_neg (by simp [hlive, hon])]
  simp only [← apply_ite Host.Outcome.next]
  rfl

theorem exec_ptpFrame_delayResp (m : Int) : exec (.ptpFrame p (.delayResp m)) s = .next (s.setPtpPort p { s.ptpPort p with
    delay := (((s.ptpPort p).t2 - (s.ptpPort p).t1) + (s.fromTai m - (s.ptpPort p).t3)) / 2 }) := by
  change execPtpFrame p (.delayResp m) s = _
  rw [execPtpFrame, if_neg (by omega), if_neg (by simp [hlive, hon])]

/-- A Sync frame gives its port two timestamps; on the slave port a qualified PTP steers by their offset, less the path delay. -/
theorem exec_ptpFrame_sync (m : Int) {u : State} {ofs : Int} (hu : u = s.setPtpPort p ((s.ptpPort p).synced (s.fromTai m) s.now64))
    (hofs : ofs = s.now64 - s.fromTai m - (s.ptpPort p).delay) : ∃ t, exec (.ptpFrame p (.sync m)) s = .next t ∧ t.time.marks = u.time.marks ∧
    (s.time.ptpSlave = true → s.time.ptpPort = p → s.time.ptp.qual = true →
      ∃ n, t = (u.setSrc 2 { s.time.ptp with run := n, ofs := ofs }).steer 2 ofs) := by
  subst hu hofs
  change ∃ t, execPtpFrame p (.sync m) s = .next t ∧ _
  rw [execPtpFrame, if_neg (by omega), if_neg (by simp [hlive, hon])]
  extract_lets x mine
  dsimp -zeta only
  extract_lets t1 t2 ofs good _ u
  split
  next h => exact ⟨_, rfl, rfl, fun hs hp => absurd h (by simp [mine, hs, hp])⟩
  · split
    · exact ⟨_, rfl, (TimeUnit.marks_of_inputs (State.steer_inputs _)).trans State.setSrc_marks, fun _ _ _ => ⟨_, rfl⟩⟩
    next hk =>
      split
      · exact ⟨_, rfl, State.qualify_marks.trans State.setSrc_marks, fun _ _ hq => absurd hq hk⟩
      · exact ⟨_, rfl, State.setSrc_marks, fun _ _ hq => absurd hq hk⟩

theorem exec_esmcFrame (ql : Nat) : exec (.esmcFrame p ql) s = .next (s.setPtpPort p { s.ptpPort p with ql := ql }).synceFrom := by
  change execEsmcFrame p ql s = _
  rw [execEsmcFrame, if_neg (by omega), if_neg (by simp [hlive, hon])]

end

theorem exec_ptpAnnounceTimeout : exec (.ptpAnnounceTimeout p) s =
    .next (s.setPtpPort p { s.ptpPort p with announced := false, last := none }).selectPort := by
  change execPtpAnnounceTimeout p s = _
  rw [execPtpAnnounceTimeout, if_neg (by omega), if_neg (by simp [hlive])]

end

theorem exec_ptpDelayReq {s : State} {p : Nat} (hlive : s.replayed = false) (hon : s.ptpOn p = true) (hslave : s.time.ptpSlave = true)
    (hport : s.time.ptpPort = p) : exec .ptpDelayReq s = .next { s.setPtpPort p { s.ptpPort p with t3 := s.now64 } with out := s.out ++ [.delayReq p] } := by
  subst hport
  change execPtpDelayReq s = _
  rw [execPtpDelayReq, if_neg (by simp [hlive, hon, hslave])]
  exact congrArg Host.Outcome.next (State.emit_of_live (s := s.setPtpPort s.time.ptpPort _) hlive _)

/-! ### Selection, holdover, steps (R62, R69, R73 to R78) -/

section
variable {s : State} (hlive : s.replayed = false)
include hlive

/-- A higher-ranked source that has stayed qualified for 16 s is selected (R62). -/
theorem exec_sourceHoldoffExpiry {i : Nat} (hst : s.time.st = .locked)
    (hi : (s.ranked.takeWhile (fun j => j != s.time.src)).find? (fun j => (s.srcSt j).qual && decide ((s.srcSt j).since + 16 * secondTc ≤ s.now)) = some i) :
    exec .sourceHoldoffExpiry s = .next ((s.timTo .locked i false).steer i (s.srcSt i).ofs) := by
  change execSourceHoldoffExpiry s = _
  rw [execSourceHoldoffExpiry, if_neg (by simp [hlive])]
  extract_lets higher
  have hhigher : higher = some i := hi
  rw [hhigher, hst]

theorem exec_beaconSourceSwitch (hen : s.srcEnabled 3 = true) (hbcn : s.time.bcn1 = false) (hlast : s.time.bcnLast + 4 * s.beaconTc ≤ s.now) :
    exec .beaconSourceSwitch s = .next ({ s with time := { s.time with bcn1 := true, bcn0Since := none, bcnLast := s.now } }.timEvt 0x20) := by
  change execBeaconSourceSwitch s = _
  rw [execBeaconSourceSwitch, if_neg (by simpa [hlive, hen, hbcn] using hlast)]

theorem exec_holdoverLimit (hst : s.time.st = .holdover) (hlimit : s.regBits Reg.TIM_HOLD 32 16 < s.holdTe) :
    exec .holdoverLimit s = .next (s.timTo .lost s.time.src false) := by
  change execHoldoverLimit s = _
  rw [execHoldoverLimit, if_pos (by simp [hlive, hst, hlimit])]

theorem exec_autoStep {i : Nat} (hcfg : s.regBits Reg.TIM_CFG 1 1 = 1) (hi : s.stepSrc = some i) : exec .autoStep s = .next (s.stepTo i) := by
  change execAutoStep s = _
  rw [execAutoStep, if_neg (by simp [hlive, hcfg]), hi]

end

/-- Any cause degrades a device that serves (R677). -/
theorem State.redev_of_serve {s : State} (hdev : s.start.dev = .serve) (hc : s.degCauses ≠ 0) : s.redev.start.dev = .degraded := by
  have hset := congrArg Start.dev (State.setDev_start s .degraded)
  simpa only [State.redev, hdev, if_pos hc] using hset

/-- A unit that is LOST is a cause (R75, R677). -/
theorem State.degCauses_of_lost {s : State} (h : s.time.st = .lost) : s.degCauses ≠ 0 := by
  simp [State.degCauses, packBits, h]

theorem State.timTo_lost_dev {s : State} (src : Nat) (hdev : s.start.dev = .serve) : (s.timTo .lost src false).start.dev = .degraded := by
  unfold State.timTo
  extract_lets c x u v
  refine State.redev_of_serve ?_ (State.degCauses_of_lost ?_)
  · rw [State.timEvt_start, State.logIn_start]; exact hdev
  · rw [State.timEvt_time, State.logIn_time]

/-! ### Outputs (R61, R79, R104, R769) -/

theorem exec_launchCounterCorrect {s : State} (h : s.time.correctedAt + 1024 ≤ s.now) :
    exec .launchCounterCorrect s = .next { s with time := { s.time with drift := 0, correctedAt := s.now } } := if_pos (.inl h)

/-- The pulse of second `n` leaves during a replay too (R651, R769). -/
theorem exec_ppsOutPulse {s : State} {n : Nat} (hst : s.time.st = .locked ∨ s.time.st = .holdover)
    (hn : (s.now64 : Int) - 64 * s.frameOfs + sns64 (signed 16 (s.regBits Reg.TIM_PPS_CFG 16 16)) = second64 * n) (hnew : s.time.ppsOutSec ≠ some n) :
    exec .ppsOutPulse s = .next { s with time := { s.time with ppsOutSec := some n }, out := s.out ++ [.pps n (s.todMsg (n + 1))] } := by
  change execPpsOutPulse s = _
  have hsec : (second64 * (n : Int) / second64).toNat = n := by
    rw [Int.mul_ediv_cancel_left _ (by decide)]; rfl
  have hpos : ¬ second64 * (n : Int) < 0 := Int.not_lt.mpr (Int.mul_nonneg (by decide) (Int.natCast_nonneg n))
  unfold execPpsOutPulse
  rw [hn]
  extract_lets t sec
  have hs : sec = n := hsec
  have hgo : ¬ (!(decide (s.time.st = .locked) || decide (s.time.st = .holdover)) || decide (second64 * (n : Int) < 0) ||
      decide (128 ≤ second64 * (n : Int) % second64) || s.time.ppsOutSec == some sec) = true := by
    rw [Int.mul_emod_right, hs]
    simpa [hpos, hnew, or_iff_not_imp_left] using hst
  refine (if_neg hgo).trans ?_
  rw [hs, State.emit, if_neg (by simp [Output.held])]

/-- Settles O10: ports by what their choice leaves, the source in use by what a transition and a step leave, the outputs as their instants come. -/
theorem sourcesAndOutputs : Obligations.SourcesAndOutputs := by
  unfold Obligations.SourcesAndOutputs
  refine ⟨fun s p hlive hp => ⟨fun rank utc leap hon => ?announce, fun m hon => ?sync, fun m hon => ?delayResp, fun hon hslave hport => ?delayReq,
      fun ql hon => ?esmc, ?timeout⟩,
    fun s hlive => ⟨fun i hst hi => ?holdoff, fun hen hbcn hlast => ?switch, fun hst hlimit => ?limit, fun i hcfg hi => ?autoStep⟩,
    fun s => ⟨fun h => .intro (exec_launchCounterCorrect h) rfl, fun n hst hn hnew => .intro (exec_ppsOutPulse hst hn hnew) ⟨rfl, rfl⟩⟩⟩
  case announce =>
    refine .intro (exec_ptpFrame_announce hlive hp hon rank utc leap) ?_
    extract_lets _ u
    have hport : u.ptpPort p = { s.ptpPort p with announced := true, rank := rank } :=
      (State.selectPort_ptpPort p).trans State.setPtpPort_ptpPort
    obtain ⟨q, hq⟩ := State.bestPort_isSome (s := s.setPtpPort p { s.ptpPort p with announced := true, rank := rank }) hp hon
      (congrArg PtpPort.announced State.setPtpPort_ptpPort)
    have hslave : u.time.ptpSlave = true := State.selectPort_slave hq
    have hnoted : (u.leapNoted utc leap).time = u.time := u.leapNoted_time utc leap
    split
    next h =>
      have hp' : (u.leapNoted utc leap).ptpPort p = u.ptpPort p := congrArg (fun t : TimeUnit => t.ptpPorts.get {} p) hnoted
      rw [hp', hport, hnoted]
      exact ⟨rfl, rfl, hslave, fun _ => u.leapNoted_leap utc leap⟩
    next h =>
      rw [hport]
      exact ⟨rfl, rfl, hslave, fun k => absurd k h⟩
  case sync =>
    obtain ⟨t, ht, hmarks, hsteer⟩ := exec_ptpFrame_sync hlive hp hon m rfl rfl
    refine .intro ht ?_
    have hport : t.ptpPort p = (s.ptpPort p).synced (s.fromTai m) s.now64 :=
      (congrArg (fun t : TimeUnit => t.ptpPorts.get {} p) hmarks).trans State.setPtpPort_ptpPort
    rw [hport]
    refine ⟨rfl, rfl, fun hs hsel hq => ?_⟩
    obtain ⟨n, rfl⟩ := hsteer hs hsel hq
    rw [State.steer_ptp]
    refine ⟨rfl, fun hst hsrc => ?_⟩
    have hset := State.steer_of_used (s := (s.setPtpPort p ((s.ptpPort p).synced (s.fromTai m) s.now64)).setSrc 2
      { s.time.ptp with run := n, ofs := s.now64 - s.fromTai m - (s.ptpPort p).delay }) (ofs := s.now64 - s.fromTai m - (s.ptpPort p).delay) hst hsrc
    rw [hset]
    exact ⟨rfl, rfl⟩
  case delayResp => exact .intro (exec_ptpFrame_delayResp hlive hp hon m) (congrArg PtpPort.delay State.setPtpPort_ptpPort)
  case delayReq => exact .intro (exec_ptpDelayReq hlive hon hslave hport) ⟨congrArg PtpPort.t3 State.setPtpPort_ptpPort, rfl⟩
  case esmc =>
    refine .intro (exec_esmcFrame hlive hp hon ql) ?_
    have hport : (s.setPtpPort p { s.ptpPort p with ql := ql }).synceFrom.ptpPort p = { s.ptpPort p with ql := ql } :=
      (congrArg (fun t : TimeUnit => t.ptpPorts.get {} p) State.synceFrom_time).trans State.setPtpPort_ptpPort
    refine ⟨congrArg PtpPort.ql hport, fun hsel => ?_⟩
    subst hsel
    rw [State.synceFrom_time]
    have hql : ((s.setPtpPort s.time.ptpPort { s.ptpPort s.time.ptpPort with ql := ql }).ptpPort s.time.ptpPort).ql = ql :=
      congrArg PtpPort.ql State.setPtpPort_ptpPort
    exact congrArg (fun n => s.time.ptpSlave && decide (n ≤ s.regBits Reg.TIM_PTP_CFG 24 4)) hql
  case timeout =>
    refine .intro (exec_ptpAnnounceTimeout hlive hp) ?_
    rw [State.selectPort_ptpPort, State.setPtpPort_ptpPort]
    exact ⟨rfl, rfl⟩
  case holdoff =>
    refine .intro (exec_sourceHoldoffExpiry hlive hst hi) ?_
    have ht := s.timTo_time .locked i false
    rw [State.steer_of_used (by rw [ht]) (by rw [ht]), ht]
    exact ⟨rfl, rfl, rfl⟩
  case switch =>
    refine .intro (exec_beaconSourceSwitch hlive hen hbcn hlast) ?_
    rw [State.timEvt_time]
    exact ⟨rfl, rfl, State.timEvt_reg _ (by decide)⟩
  case limit =>
    refine .intro (exec_holdoverLimit hlive hst hlimit) ⟨?_, State.timTo_lost_dev _⟩
    rw [State.timTo_time]
    exact congrArg (fun b => { s.time with st := .lost, everLocked := b }) (Bool.or_false _)
  case autoStep =>
    obtain ⟨hst, hsrc, htc, hofs⟩ := s.stepTo_time i
    exact .intro (exec_autoStep hlive hcfg hi) ⟨hst, hsrc, htc, hofs⟩

end Sys2Proof.Machine
end

section
/-! PROOFS. Launches: comparators that match, launch groups, visible handles (R79 to R97, R120, R287 to R294). -/
namespace Sys2Proof.Machine

/-! ### Comparators and groups -/

section
variable {s t : State} {pt idx : Nat} {k : Cmp}

/-- Every part but those of launches: comparators, groups, joins, armed lists. -/
abbrev notLists : List Part :=
  [.time, .cyclic, .ctxs, .units, .fns, .vfs, .ports, .acct, .mat, .inf, .chm, .radio, .front, .tiers, .fab, .rpl, .health, .start, .power, .regs,
   .latch, .mem, .out, .drawn, .pending]

theorem Stays.group_eq (h : Stays notLists s t) (g : Nat) : t.group g = s.group g :=
  congrArg (fun p : List Cmp × Tab Group × List ListRec × List Nat × Nat × Tab Join × List (Nat × DWord × Nat) => p.2.1.get {} g)
    (h.only.same .lists (by decide))

theorem Stays.joins_eq (h : Stays notLists s t) : t.sched.joins = s.sched.joins :=
  congrArg (fun p : List Cmp × Tab Group × List ListRec × List Nat × Nat × Tab Join × List (Nat × DWord × Nat) => p.2.2.2.2.2.1)
    (h.only.same .lists (by decide))

theorem State.place_of_cmp (h : s.cmp pt idx = some k) : k.pt = pt ∧ k.idx = idx := by
  simpa using List.find?_some h

theorem State.dropCmp_cmp : (s.dropCmp pt idx).cmp pt idx = none := by
  refine List.find?_eq_none.mpr fun c hc h => ?_
  obtain ⟨-, hne⟩ := List.mem_filter.mp hc
  simp [h] at hne

theorem State.groupDone_run (g : Option Nat) (u : Nat) : (s.groupDone g).run u = s.run u := by cases g <;> rfl

theorem State.groupDone_cmp (g : Option Nat) : (s.groupDone g).cmp pt idx = s.cmp pt idx := by cases g <;> rfl

theorem State.groupDone_reg (g : Option Nat) (a : Nat) : (s.groupDone g).reg a = s.reg a := by cases g <;> rfl

theorem State.setGroup_group (g : Nat) (x : Group) : (s.setGroup g x).group g = x := Tab.get_set_self ..

/-- A participant that is done is counted once (R94). -/
theorem State.groupDone_done (g : Nat) : ((s.groupDone (some g)).group g).done = (s.group g).done + 1 := congrArg Group.done (State.setGroup_group ..)

/-- A participant that is done leaves the states of the groups. -/
theorem State.groupDone_st (g : Option Nat) (h : Nat) : ((s.groupDone g).group h).st = (s.group h).st := by
  cases g with
  | none => rfl
  | some g =>
    by_cases hg : h = g
    · have hset := congrArg Group.st (State.setGroup_group (s := s) g { s.group g with done := (s.group g).done + 1 })
      rw [hg]
      exact hset
    · exact congrArg Group.st (Tab.get_set_ne _ _ _ hg)

theorem State.failList_group (u code h : Nat) : (s.failList u code).group h = s.group h := by
  unfold State.failList
  split <;> rfl

theorem State.failList_cmp (u code : Nat) : (s.failList u code).cmp pt idx = s.cmp pt idx := by
  unfold State.failList
  split <;> rfl

theorem State.listRecord_group (l : ListRec) (code cmd : Nat) (d : BitVec 96) (h : Nat) : (s.listRecord l code cmd d).group h = s.group h := by
  unfold State.listRecord
  split
  · split
    · rfl
    · split <;> rfl
  · split
    · rfl
    · rw [State.group, State.post_sched]; rfl

/-- A late comparator that was not waiting is counted (R85). -/
theorem State.markLate_reg (h : k.waiting = false) : (s.markLate k).reg Reg.TIM_LATE_CNT = (s.reg Reg.TIM_LATE_CNT + 1) % 2 ^ 32 := by
  rw [State.markLate, if_neg (by simp [h])]
  exact State.count_reg ..

theorem State.markLate_run (u : Nat) : (s.markLate k).run u = s.run u := by
  unfold State.markLate
  split <;> rfl

end

/-! ### A match (R79, R82, R85, R91, R120) -/

section
variable {s : State} {pt idx : Nat} {k : Cmp} (hi : isCmp pt idx = true) (hk : s.cmp pt idx = some k)
include hi hk

theorem exec_comparatorMatch_ahead (h : s.localNow < stampTc k.stamp) : exec (.comparatorMatch pt idx) s = .next s := by
  change execComparatorMatch pt idx s = _
  simp only [execComparatorMatch, hi, hk, h, if_true, Bool.not_true, Bool.false_eq_true, if_false]

variable (hnow : stampTc k.stamp ≤ s.localNow)
include hnow

theorem exec_comparatorMatch_uncommitted {g : Nat} (hg : k.group = some g) (hst : (s.group g).st = .arming ∨ (s.group g).st = .ready) :
    exec (.comparatorMatch pt idx) s = .next s := by
  change execComparatorMatch pt idx s = _
  rcases hst with hst | hst <;>
    simp only [execComparatorMatch, hi, hk, Nat.not_lt.mpr hnow, hg, hst, Bool.not_true, Bool.false_eq_true, if_false]

/-- The current command of a unit launches when its window admits it and nothing holds it; else it takes its late policy. -/
theorem exec_comparatorMatch_cmd {r : Running} {c : Cmd} {rest : List Cmd} {x : Ctx}
    (hgrp : k.group = none ∨ ∃ g, k.group = some g ∧ (s.group g).st = .committed) (harm : k.armed = false) (hwait : k.waiting = false)
    (hrun : s.run k.unit = some r) (hbuf : r.buf = c :: rest) (hx : s.ctx? r.list.ctx = some x) :
    exec (.comparatorMatch pt idx) s = .next (
      if (!s.admits (x.cluster / 4) x || fenceUnmet s c k.unit || s.mcastUnmet c k.unit) = true then s.lateCmd k (s.admits (x.cluster / 4) x)
      else s.launchCmd k false) := by
  change execComparatorMatch pt idx s = _
  have hlt : ¬ s.localNow < stampTc k.stamp := Nat.not_lt.mpr hnow
  obtain hg | ⟨g, hg, hst⟩ := hgrp
  · simp only [execComparatorMatch, hi, hk, hlt, hg, harm, hwait, hrun, hbuf, hx, Bool.not_true, Bool.false_eq_true, if_false, Bool.false_or,
      apply_ite Host.Outcome.next]
  · simp only [execComparatorMatch, hi, hk, hlt, hg, hst, harm, hwait, hrun, hbuf, hx, Bool.not_true, Bool.false_eq_true, if_false, Bool.false_or,
      apply_ite Host.Outcome.next]

end

/-- A command that launches frees its comparator and goes on to its handle or its fence. -/
theorem State.launchCmd_of_run {s : State} {k : Cmp} {r : Running} {c : Cmd} {rest : List Cmd} (hrun : s.run k.unit = some r) (hbuf : r.buf = c :: rest) :
    s.launchCmd k false = ((s.dropCmp k.pt k.idx).groupDone k.group).setRun k.unit (some { r with stage := afterLaunch c }) := by
  have hr : ((s.dropCmp k.pt k.idx).groupDone k.group).run k.unit = some r := (State.groupDone_run ..).trans hrun
  simp [State.launchCmd, hr, hbuf]

/-- A late command with LATE 2 ends its list (R85). -/
theorem State.lateCmd_fail {s : State} {k : Cmp} (hlate : k.late = 2) (admitted : Bool) :
    s.lateCmd k admitted = (((s.markLate k).dropCmp k.pt k.idx).groupDone k.group).failList k.unit 0x26 := by
  simp only [State.lateCmd, hlate]

/-- Settles O11: a comparator stands ahead, waits for its group, launches its command, or takes its late policy. -/
theorem comparatorMatches : Obligations.ComparatorMatches := by
  unfold Obligations.ComparatorMatches
  intro s pt idx k hi hk
  refine ⟨fun h => .intro (exec_comparatorMatch_ahead hi hk h) rfl,
    fun g hg hst hnow => .intro (exec_comparatorMatch_uncommitted hi hk hnow hg hst) rfl, ?launch, ?late⟩
  case launch =>
    intro r c rest x hnow hgrp harm hwait hrun hbuf hx hadm hfence hmcast
    refine .intro (exec_comparatorMatch_cmd hi hk hnow hgrp harm hwait hrun hbuf hx) ?_
    rw [if_neg (by simp [hadm, hfence, hmcast]), State.launchCmd_of_run hrun hbuf]
    refine ⟨State.setRun_run .., (State.groupDone_cmp k.group).trans State.dropCmp_cmp, fun g hg => ?_⟩
    rw [hg]
    exact State.groupDone_done g
  case late =>
    intro r c rest x hnow hgrp harm hwait hlate hrun hbuf hx hadm
    refine .intro (exec_comparatorMatch_cmd hi hk hnow (.inl hgrp) harm hwait hrun hbuf hx) ?_
    rw [if_pos (by simp [hadm]), State.lateCmd_fail hlate]
    have hr : (((s.markLate k).dropCmp k.pt k.idx).groupDone k.group).run k.unit = some r :=
      (State.groupDone_run ..).trans ((State.markLate_run ..).trans hrun)
    refine ⟨State.failList_run hr, (State.failList_cmp ..).trans ((State.groupDone_cmp k.group).trans State.dropCmp_cmp), ?_⟩
    rw [State.failList_reg, State.groupDone_reg]
    exact State.markLate_reg hwait

/-! ### Launch groups (R90, R91, R94, R97) -/

section
variable {s : State}

/-- Freeing the participants of a group leaves the states of the groups. -/
theorem State.groupFail_st (g code h : Nat) : ((s.groupFail g code).group h).st = (s.group h).st := by
  refine State.foldl_same (fun u => (u.group h).st) (fun u c => ?_) _ _
  have hdone : (((u.dropCmp c.pt c.idx).groupDone (some g)).group h).st = (u.group h).st := State.groupDone_st ..
  dsimp only
  split
  · exact (State.foldl_same (fun v => (v.group h).st) (fun v l => congrArg Group.st (State.listRecord_group ..)) _ _).trans hdone
  · rw [State.failList_group]; exact hdone

theorem State.sendGroup_group (dest kind gto gfrom status : Nat) (stamp : Stamp) (what g : Nat) :
    (s.sendGroup dest kind gto gfrom status stamp what).group g = s.group g := by
  have head := Has.head
  have tail := Has.tail
  exact (State.sendGroup_stays _ _ _ _ _ _ _ _ (Stays.refl notLists s)).group_eq g

theorem State.sendGroup_joins (dest kind gto gfrom status : Nat) (stamp : Stamp) (what : Nat) :
    (s.sendGroup dest kind gto gfrom status stamp what).sched.joins = s.sched.joins := by
  have head := Has.head
  have tail := Has.tail
  exact (State.sendGroup_stays _ _ _ _ _ _ _ _ (Stays.refl notLists s)).joins_eq

theorem State.tellMembers_group (g kind h : Nat) : (s.tellMembers g kind).group h = s.group h := by
  have head := Has.head
  have tail := Has.tail
  exact (State.tellMembers_stays _ _ _ (Stays.refl notLists s)).group_eq h

/-- An owner group that is aborted stays so while its participants are freed and its members told (R90). -/
theorem State.abortGroup_st (g : Nat) : ((s.abortGroup g).group g).st = .aborted := by
  unfold State.abortGroup
  rw [State.tellMembers_group, State.groupFail_st]
  exact congrArg Group.st (State.setGroup_group (s := s) g { s.group g with st := .aborted })

theorem State.groupOrphaned_st (g what : Nat) :
    ((((s.setGroup g { s.group g with st := .orphaned }).groupFail g 0x28).sendGroup (s.group g).ownerNode gmOrphan (s.group g).ownerIdx g 0
      (s.group g).stamp what).group g).st = .orphaned := by
  rw [State.sendGroup_group, State.groupFail_st]
  exact congrArg Group.st (State.setGroup_group (s := s) g { s.group g with st := .orphaned })

/-- A group whose participants do not all hold comparators, or do but is not committed, can still be ended. -/
theorem open_of_st {st : GrpState} (h : st = .arming ∨ st = .ready) : (st == .arming || st == .ready) = true := by
  obtain h | h := h <;> rw [h] <;> rfl

variable {g : Nat} (hg : g < 256)
include hg

theorem exec_commitPoint (howner : (s.group g).owner = true) (hst : (s.group g).st = .arming ∨ (s.group g).st = .ready)
    (hat : (s.group g).commitAt ≤ s.now) : exec (.commitPoint g) s = .next (s.abortGroup g) := by
  change execCommitPoint g s = _
  rw [execCommitPoint, if_neg (by omega)]
  exact if_pos (by rw [howner, open_of_st hst, decide_eq_true hat]; rfl)

theorem exec_groupOrphan (howner : (s.group g).owner = false) (hst : (s.group g).st = .arming ∨ (s.group g).st = .ready)
    (hat : stampTc (s.group g).stamp ≤ s.now) : exec (.groupOrphan g) s =
      .next (((s.setGroup g { s.group g with st := .orphaned }).groupFail g 0x28).sendGroup (s.group g).ownerNode gmOrphan (s.group g).ownerIdx g 0
        (s.group g).stamp 0) := by
  change execGroupOrphan g s = _
  rw [execGroupOrphan, if_neg (by omega)]
  exact if_pos (by rw [howner, open_of_st hst, decide_eq_true hat]; rfl)

/-- A committed group is freed once every local participant is done and every member has reported or is past its time. -/
theorem exec_groupFree (hst : (s.group g).st = .committed) (hdone : (s.group g).count ≤ (s.group g).done)
    (hheld : s.sched.cmps.any (fun c => c.group == some g) = false)
    (htold : (s.group g).members.all (fun m => m.ready || m.gone) = true ∨ stampTc (s.group g).stamp + frameTc ≤ s.now) :
    exec (.groupFree g) s = .next (s.setGroup g {}) := by
  change execGroupFree g s = _
  rw [execGroupFree, if_neg (by omega)]
  extract_lets x held localDone told
  have hlocal : localDone = true := by
    have hx : x.st = .committed := hst
    have hd : x.count ≤ x.done := hdone
    have hh : held = false := hheld
    simp only [localDone, hx, hh, decide_eq_true hd]
    rfl
  have ht : told = true := by
    obtain h | h := htold
    · simp only [told, show x.members.all (fun m => m.ready || m.gone) = true from h, Bool.or_true, Bool.true_or]
    · simp only [told, decide_eq_true (show stampTc x.stamp + frameTc ≤ s.now from h), Bool.or_true]
  exact if_pos (by rw [hlocal, ht]; rfl)

/-- The write of `TIM_GRP_ABORT` is logged; then it aborts an owner group that is not committed (R97). -/
theorem exec_timGrpAbort (hlive : s.replayed = false) : ∃ u, (∀ h, u.group h = s.group h) ∧ exec (.timGrpAbort g) s =
    .next (if (u.group g).owner && ((u.group g).st == .arming || (u.group g).st == .ready) then u.abortGroup g else u) := by
  refine ⟨s.logIn 5 0x04 pf0 (BitVec.ofNat 64 (Reg.TIM_GRP_ABORT + 2 * 2 ^ 48)) (leBytes 4 g), fun h => ?_, ?_⟩
  · rw [State.group, State.logIn_sched]; rfl
  · change execTimGrpAbort g s = _
    rw [execTimGrpAbort, if_neg (by omega), State.bar2_eq _ _ _ _ _ hlive]

end

/-! ### Visible handles (R82, R287 to R289) -/

section
variable {s : State} {x : Ctx} {i : Nat}

theorem State.updCtx_hqueue (h : s.ctx? i = some x) (hid : x.id = i) {f : Ctx → Ctx} (hf : (f x).id = x.id ∧ (f x).hq = x.hq) (q : Nat) :
    ∃ y, (s.updCtx i f).ctx? i = some y ∧ y.hqueue q = x.hqueue q := by
  rw [State.updCtx_of_ctx? h]
  exact ⟨f x, State.setCtx_ctx? s (hf.1.trans hid), congrArg (fun t : Tab (List Handle) => t.get [] q) hf.2⟩

/-- A context whose state has followed what it may run keeps its handle queues (R133). -/
theorem State.refresh_hqueue (h : s.ctx? i = some x) (hid : x.id = i) (q : Nat) : ∃ y, (s.refresh i).ctx? i = some y ∧ y.hqueue q = x.hqueue q := by
  refine State.updCtx_hqueue h hid ?_ q
  repeat' split
  all_goals exact ⟨rfl, rfl⟩

end

section
variable {s : State} {ctx q : Nat} {x : Ctx} {h : Handle} {rest : List Handle} (hx : s.ctx? ctx = some x) (hq : x.hqueue q = h :: rest)
  (hvis : h.visible = false)
include hx hq hvis

/-- The head of a queue that no stamp holds becomes visible, and the context's state follows. -/
theorem State.showHandle_head (hid : x.id = ctx) {stamped : Bool} (hgo : ((stamped && !h.visSet) || (h.visSet && decide (s.localNow < stampTc h.vis))) = false) :
    ∃ y, (s.showHandle ctx q stamped).ctx? ctx = some y ∧ y.hqueue q = { h with visible := true } :: rest := by
  have hshow : s.showHandle ctx q stamped = (s.setCtx (x.setHqueue q ({ h with visible := true } :: rest))).refresh ctx := by
    simp only [State.showHandle, hx, hq, List.find?_cons, hvis, Bool.not_false, hgo, Bool.false_eq_true, if_false, List.takeWhile_cons]
    rfl
  obtain ⟨y, hy, hyq⟩ := State.refresh_hqueue (s := s.setCtx (x.setHqueue q ({ h with visible := true } :: rest))) (State.setCtx_ctx? s hid) hid q
  exact ⟨y, hshow ▸ hy, hyq.trans (Ctx.setHqueue_hqueue ..)⟩

/-- A stamp that lies ahead holds its handle (R289). -/
theorem State.showHandle_held (hset : h.visSet = true) (hahead : s.localNow < stampTc h.vis) (stamped : Bool) : s.showHandle ctx q stamped = s := by
  simp [State.showHandle, hx, hq, hvis, hset, hahead]

end

/-- Settles O12: ends of groups by what freeing their participants leaves, handles by the head of their queue. -/
theorem groupsAndHandles : Obligations.GroupsAndHandles := by
  unfold Obligations.GroupsAndHandles
  refine ⟨fun s g hg => ⟨fun ho hst hat => .intro (exec_commitPoint hg ho hst hat) (State.abortGroup_st g),
      fun ho hst hat => .intro (exec_groupOrphan hg ho hst hat) (State.groupOrphaned_st g 0),
      fun hst hdone hheld htold => .intro (exec_groupFree hg hst hdone hheld htold) rfl, fun hlive ho hst => ?abort, fun hlive hno => ?ignored⟩,
    fun s ctx q x h rest hlt hx hid hq hvis => ⟨fun hset => ?visible, fun hset hdue => ?due, fun hset hahead => ?held⟩,
    fun s => .intro rfl ⟨rfl, fun _ => rfl⟩⟩
  case abort =>
    obtain ⟨u, hu, hexec⟩ := exec_timGrpAbort (s := s) hg hlive
    refine .intro hexec ?_
    rw [hu g, ho, open_of_st hst]
    exact State.abortGroup_st g
  case ignored =>
    obtain ⟨u, hu, hexec⟩ := exec_timGrpAbort (s := s) hg hlive
    refine .intro hexec ?_
    have hstay : ((s.group g).owner && ((s.group g).st == .arming || (s.group g).st == .ready)) = false := by
      obtain h | h := hno <;> rw [h]
      · rfl
      · exact Bool.and_false _
    rw [hu g, hstay]
    exact hu g
  case visible =>
    exact .intro (if_neg (by omega)) (State.showHandle_head hx hq hvis hid (by rw [hset]; rfl))
  case due =>
    exact .intro (if_neg (by omega)) (State.showHandle_head hx hq hvis hid (by simpa [hset] using hdue))
  case held =>
    exact .intro (if_neg (by omega)) (State.showHandle_held hx hq hvis hset hahead false)

/-! ### Service commands of launches (R83, R89, R94, R262, R282) -/

/-- What is left of the joins when a service command waits for its answer. -/
theorem State.toHub_joins (s : State) (u : Nat) : (s.toHub u).sched.joins = s.sched.joins := by
  unfold State.toHub
  split
  · rfl
  · extract_lets t
    split <;> rfl

theorem State.refuseBad_joins (s : State) (f q n : Nat) : (s.refuseBad f q n).sched.joins = s.sched.joins := by
  have head := Has.head
  have tail := Has.tail
  exact (State.refuseBad_stays _ _ _ _ (Stays.refl notLists s)).joins_eq

/-- A service command that ends later leaves the joins as its action says. -/
theorem State.service_of_later {s t : State} {o : Origin} {op k : Nat} {v : Svc} {f : Svc → SvcOut} (hv : s.svc o op k = some v) (hok : v.code = 0)
    (hf : f v = .later t) : ∃ u, s.service o op k f = .next u ∧ u.sched.joins = t.sched.joins := by
  cases o with
  | unit u => exact ⟨t.toHub u, by simp [State.service, hv, hok, hf], State.toHub_joins ..⟩
  | host fn q => exact ⟨t.refuseBad fn q 4096, by simp [State.service, hv, hok, hf], State.refuseBad_joins ..⟩

/-- The join that a GROUP_JOIN asks of the owner that it names (R94). -/
def Svc.join (v : Svc) (o : Origin) (x : Ctx) : Join :=
  { node := cmdField v.cmd 16 2 + v.st.self / 4096 * 4096, idx := cmdField v.cmd 18 1, count := cmdField v.cmd 20 2, ctx := x.id,
    stamp := if cStamp v.cmd then cWord1 v.cmd else 0, unit := match o with | .unit u => some u | .host _ _ => none, report := v.rep }

/-- The state in which the join is under way and its message sent. -/
def Svc.joined (v : Svc) (j : Join) : State :=
  { v.st with sched := { v.st.sched with joins := v.st.sched.joins.set (cGidx v.cmd) j } }.sendGroup j.node gmJoin j.idx (cGidx v.cmd) 0 0
    (1000 + cGidx v.cmd)

section
variable {s : State} {o : Origin} {v : Svc} {x : Ctx} (hok : v.code = 0) (hctx : v.ctx = some x)
include hok hctx

theorem exec_arm {y : Ctx} {l : ListRec} {a : State} (hv : s.svc o 0x02 56 = some v) (hy : v.st.ctx? (cmdField v.cmd 24 2) = some y)
    (harm : armOk x y = true) (hadm : v.st.admitList y (cmdField v.cmd 16 8) v.rep false = (0, some l, a)) (hcls : l.cls = cmdField v.cmd 26 1)
    (hunit : l.unit = cmdField v.cmd 27 1) : exec (.arm o) s = .next ((a.armList y l v.cmd).2.svcEnd o v.rep (a.armList y l v.cmd).1 0) := by
  change execArm o s = _
  exact State.service_of_done hv hok (by simp [hctx, hy, harm, hadm, hcls, hunit])

/-- An owner group is made of the nodes that its command's list in Pool names. -/
theorem exec_groupCreate {n : Nat} {sp : List Span} {rd : State} {nodes : List Nat} (hv : s.svc o 0x03 56 = some v) (hn : n = cmdField v.cmd 22 1)
    (hchk : v.st.poolChk x (cmdField v.cmd 24 4) (2 * n) = 0) (hsp : sp = if n = 0 then [] else [(v.st.poolAddr x (cmdField v.cmd 24 4), 2 * n)])
    (hrd : v.st.readSpans sp x.asOwner = (false, rd)) (hnodes : nodes = (List.range n).map (fun i => byteField (rd.rdSpans sp) (2 * i) 2))
    (hstamp : stampOk (cWord1 v.cmd) = true) (htime : rd.time.st ≠ .freerun) (hfree : rd.groupFree (cGidx v.cmd) = true)
    (hcount : cmdField v.cmd 20 2 ≤ 432) (hself : nodes.contains (rd.self % 4096) = false) (hnodup : nodes.Nodup) :
    exec (.groupCreate o) s = .next ((rd.setGroup (cGidx v.cmd)
      { st := .arming, owner := true, stamp := cWord1 v.cmd, lead := cmdField v.cmd 16 4, count := cmdField v.cmd 20 2, ctx := x.id,
        members := nodes.map (fun a => { idx := 0, node := a, joined := false, ready := false, gone := false }) }).svcEnd o v.rep 0 0) := by
  subst hn hsp hnodes
  change execGroupCreate o s = _
  have hbad : ¬ (432 < cmdField v.cmd 20 2 ∨ ((List.range (cmdField v.cmd 22 1)).map (fun i => byteField (rd.rdSpans
      (if cmdField v.cmd 22 1 = 0 then [] else [(v.st.poolAddr x (cmdField v.cmd 24 4), 2 * cmdField v.cmd 22 1)])) (2 * i) 2)).contains (rd.self % 4096) = true ∨
      (!decide ((List.range (cmdField v.cmd 22 1)).map (fun i => byteField (rd.rdSpans
      (if cmdField v.cmd 22 1 = 0 then [] else [(v.st.poolAddr x (cmdField v.cmd 24 4), 2 * cmdField v.cmd 22 1)])) (2 * i) 2)).Nodup) = true) := by
    rw [hself, decide_eq_true hnodup]
    simpa using hcount
  exact State.service_of_done hv hok (by
    simp only [hctx, hchk, hrd, hstamp, if_neg htime, hfree, ne_eq, not_true_eq_false, Bool.false_eq_true, if_false, Bool.not_true, if_neg hbad])

/-- A join is noted under its group and sent to the owner; the command ends later. -/
theorem exec_groupJoin (hv : s.svc o 0x04 56 = some v) (hfree : v.st.groupFree (cGidx v.cmd) = true) (hcount : cmdField v.cmd 20 2 ≤ 432)
    (hplane : (v.st.planeFor (cmdField v.cmd 16 2 + v.st.self / 4096 * 4096) 0).isSome = true) :
    ∃ t, exec (.groupJoin o) s = .next t ∧ t.sched.joins.find (cGidx v.cmd) = some (v.join o x) := by
  have hnone : ¬ (v.st.planeFor (cmdField v.cmd 16 2 + v.st.self / 4096 * 4096) 0).isNone = true := by
    rw [Option.isNone_iff_eq_none, ← Option.not_isSome_iff_eq_none]
    exact not_not_intro hplane
  change ∃ t, execGroupJoin o s = .next t ∧ _
  unfold execGroupJoin
  refine (State.service_of_later (t := v.joined (v.join o x)) hv hok ?_).imp fun t ht => ⟨ht.1, ?_⟩
  · simp only [hctx, hfree, Bool.not_true, Bool.false_eq_true, if_false, if_neg (Nat.not_lt.mpr hcount), if_neg hnone]
    rfl
  · rw [ht.2, Svc.joined, State.sendGroup_joins]
    exact Tab.find_set_self _ _ _

end

/-- An armed list without a group takes the lowest free comparator of its launch point (R83, R84). -/
theorem State.armList_free {s : State} {y : Ctx} {l : ListRec} {c : Cmd} {i : Nat} (hstamp : s.stampChk (cWord1 c) = 0) (hgrp : cGroup c = false)
    (hres : y.resident = true) (hfree : s.freeCmp (if l.cls = 4 then 48 + y.cluster / 4 else y.cluster) = some i) :
    (s.armList y l c).1 = 0 ∧ (s.armList y l c).2.sched.armed = s.sched.armed ++ [l] ∧
    ∃ k, (s.armList y l c).2.sched.cmps = s.sched.cmps ++ [k] ∧ k.idx = i ∧ k.stamp = cWord1 c ∧ k.ctx = y.id ∧ k.list = l.id ∧ k.armed = true ∧
      k.late = cLate c ∧ k.waiting = decide (stampTc (cWord1 c) ≤ s.localNow) := by
  simp only [State.armList, hstamp, hgrp, hres, if_true, hfree, ne_eq, not_true_eq_false, Bool.false_eq_true, if_false]
  refine ⟨trivial, ?_, ?_⟩
  · split <;> rfl
  · split
    · exact ⟨_, rfl, rfl, rfl, rfl, rfl, rfl, rfl, rfl⟩
    · exact ⟨_, rfl, rfl, rfl, rfl, rfl, rfl, rfl, rfl⟩

/-- Settles O18: each command passes its checks and acts on what it has taken; an armed list stands on the comparator found for it. -/
theorem armsAndGroups : Obligations.ArmsAndGroups := by
  unfold Obligations.ArmsAndGroups
  refine ⟨fun s o v x hok hctx => ⟨?arm, ?create, fun hv hfree hcount hplane => ?join⟩,
    fun s y l c i => State.armList_free⟩
  case arm =>
    rintro y l a _ hv hy harm hadm hcls hunit rfl
    exact .intro (exec_arm hok hctx hv hy harm hadm hcls hunit) rfl
  case create =>
    intro n sp rd nodes hv hn hchk hsp hrd hnodes hstamp htime hfree hcount hself hnodup
    exact .intro (exec_groupCreate hok hctx hv hn hchk hsp hrd hnodes hstamp htime hfree hcount hself hnodup) rfl
  case join =>
    obtain ⟨t, ht, hjoin⟩ := exec_groupJoin hok hctx hv hfree hcount hplane
    exact .intro ht ⟨_, hjoin, rfl, rfl, rfl, rfl, rfl⟩

end Sys2Proof.Machine
end

section
/-! PROOFS. Time beacons and the RATC (R69, R543, R568 to R570, R582). -/
namespace Sys2Proof.Machine

/-! ### Beacons that come (R69, R570) -/

section
variable {s : State} {p : Nat} {t : Txn} (hp : p < 3) (hlive : s.replayed = false) (hdest : t.dest = s.self)
include hp hdest

section
variable (hop : t.op = 8) (hlen : t.data.length = 16) (hen : s.srcEnabled 3 = true) (hup : (s.port p).live = true)
include hlive hop hlen hen hup

/-- A beacon of the selected source is noted on its plane, with the counter at its arrival. -/
theorem exec_fabBeacon_selected (hsrc : t.src % 4096 = s.beaconNode) : ∃ u, exec (.fabBeacon p t) s = .next { s with time := u } ∧
    u.bcnLast = s.now ∧ u.bcnRx.find p = some (stamp64 t.data 0, (s.now64 : Int)) ∧ u.tc = s.time.tc := by
  change ∃ u, execFabBeacon p t s = .next { s with time := u } ∧ _
  rw [execFabBeacon, if_neg (by omega), if_neg (by simp [hop, hlen, hdest, hlive, hen, hup])]
  extract_lets node t0 per u0 zero u
  rw [if_neg (not_not_intro (show node = s.beaconNode from hsrc))]
  refine ⟨_, rfl, rfl, Tab.find_set_self _ _ _, ?_⟩
  change u.tc = s.time.tc
  unfold u
  split <;> rfl

/-- A beacon of no source that is watched changes nothing. -/
theorem exec_fabBeacon_other (hsrc : t.src % 4096 ≠ s.beaconNode) (hzero : t.src % 4096 ≠ s.regBits Reg.TIM_BCN_CFG 0 12) :
    exec (.fabBeacon p t) s = .next s := by
  change execFabBeacon p t s = _
  rw [execFabBeacon, if_neg (by omega), if_neg (by simp [hop, hlen, hdest, hlive, hen, hup])]
  extract_lets node t0 per u0 zero u
  rw [if_pos (show node ≠ s.beaconNode from hsrc)]
  have hu : u = s.time := if_neg hzero
  rw [hu]

end

end

/-- On a plane a message waits in the shaper's queue. -/
theorem State.sendOn_plane (s : State) {p : Nat} (hp : p < 3) (q : Nat) (t : Txn) : s.sendOn q p t = s.queueFlits q t := if_neg (Nat.ne_of_lt hp)

/-! ### Echoes (R569, R570) -/

/-- The answer to an ECHO_REQ: the asker's time, and the counter at its arrival; its send time is put in as it leaves (R569). -/
def State.echoResp (s : State) (t : Txn) : Txn :=
  { op := 0x89, len := 32, dest := t.src, src := s.self, job := 0xFFFFF,
    data := t.data.take 9 ++ List.replicate 7 0 ++ leBytes 8 (tcStamp s.now).toNat ++ leBytes 1 (s.now64 % 64) ++ List.replicate 7 0 }

/-- The beacon source answers, and remembers whom it answers. -/
theorem exec_fabEchoReq {s : State} {p : Nat} {t : Txn} (hp : p < 3) (hop : t.op = 9) (hlen : t.data.length = 16) (hdest : t.dest = s.self)
    (hsrc : s.beaconSource = true) (hup : (s.port p).live = true) (hroom : s.fab.followers.length < 4095) : exec (.fabEchoReq p t) s = .next
      ({ s with fab := { s.fab with followers := s.fab.followers.set (t.src % 4096) s.now } }.queueFlits (s.bcnQueue p) (s.echoResp t)) := by
  change execFabEchoReq p t s = _
  rw [execFabEchoReq, if_neg (by omega), if_neg (by simp [hop, hlen, hdest, hsrc, hup])]
  extract_lets l r
  have hl : l = s.fab.followers.set (t.src % 4096) s.now := if_pos (.inr hroom)
  rw [hl, State.sendOn_plane _ hp]
  rfl

/-- The answer on the lowest plane that has the period's beacon gives the offset: path delay from the four times (R570). -/
theorem exec_fabEchoResp {s : State} {p : Nat} {t : Txn} {t0 r t1 : Int} (hp : p < 3) (hop : t.op = 0x89) (hlen : t.data.length = 32)
    (hdest : t.dest = s.self) (hsrc : t.src % 4096 = s.beaconNode) (hlive : s.replayed = false) (ht1 : t1 = stamp64 t.data 0)
    (hrx : s.time.bcnRx.find p = some (t0, r)) (hecho : s.time.echoT1.find p = some t1)
    (hlow : s.time.bcnRx.any (fun q => decide (q.1 < p)) = false) : exec (.fabEchoResp p t) s = .next
      ({ s with time := { s.time with bcnRx := [], echoT1 := s.time.echoT1.del p } }.beaconOfs
        (r - (t0 + (((s.now64 : Int) - t1) - (((stampTc t.opfield * 64 + t.aux % 64 : Nat) : Int) - stamp64 t.data 16)) / 2 +
          signed 32 (s.regBits Reg.TIM_BCN_ASYM 0 32)))) := by
  subst ht1
  change execFabEchoResp p t s = _
  rw [execFabEchoResp, if_neg (by omega), if_neg (by simp [hop, hlen, hdest, hsrc, hlive])]
  simp only [hrx, hecho, hlow, ne_eq, not_true_eq_false, Bool.false_eq_true, or_self, if_false]

/-! ### The offset of the beacons (R62, R570) -/

section
variable {s : State} {e : Int} (hqual : s.time.bcn.qual = false) (hrun : s.time.bcn.run + 1 < 8) (hst : s.time.st = .locked)
include hqual hrun hst

/-- Short of the eighth in a row an offset is only counted. -/
theorem State.beaconOfs_counted : s.beaconOfs e =
    s.setSrc 3 { s.time.bcn with run := if e.natAbs ≤ ns64 32 then s.time.bcn.run + 1 else 0, ofs := e } := by
  have hshort : ¬ 8 ≤ s.time.bcn.run + 1 := Nat.not_le.mpr hrun
  simp [State.beaconOfs, hst, hqual, hshort]

theorem State.beaconOfs_bcn : (s.beaconOfs e).time.bcn =
    { s.time.bcn with run := if e.natAbs ≤ ns64 32 then s.time.bcn.run + 1 else 0, ofs := e } := by
  rw [State.beaconOfs_counted hqual hrun hst]; rfl

end

/-! ### Beacons and echo requests that leave (R568) -/

/-- What the beacon source sends to a node (R568). -/
def State.beaconTo (s : State) (op node : Nat) : Txn :=
  { op := op, len := 16, dest := node + s.self / 4096 * 4096, src := s.self, job := 0xFFFFF, data := List.replicate 16 0 }

/-- The state in which beacon instant `k` is served. -/
def State.beaconServed (s : State) (k : Nat) : State := { s with fab := { s.fab with beaconK := k } }

/-- The state in which echo instant `k` is served. -/
def State.echoServed (s : State) (k : Nat) : State := { s with fab := { s.fab with echoK := k } }

/-- A message to every plane that is up, where one is. -/
theorem State.sendOn_up {s : State} {p : Nat} (hp : p < 3) (hplanes : [0, 1, 2].filter (fun k => (s.port k).link == .up) = [p]) (f : State → Txn) :
    ([0, 1, 2].filter (fun k => (s.port k).link == .up)).foldl (fun s p => s.sendOn (s.bcnQueue p) p (f s)) s =
      s.queueFlits (s.bcnQueue p) (f s) := by
  rw [hplanes, List.foldl_cons, List.foldl_nil, State.sendOn_plane _ hp]

section
variable {s : State}

/-- At a beacon instant every follower of the last four periods gets a beacon. -/
theorem exec_beaconSend (hsrc : s.beaconSource = true) (hnew : s.beaconIdx s.now ≠ s.fab.beaconK)
    (hall : s.fab.followers.filter (fun q => decide (s.now ≤ q.2 + 4 * usTc (s.regBits Reg.TIM_BCN_CFG 24 16))) = s.fab.followers) :
    exec .beaconSend s = .next (s.fab.followers.foldl (fun s q => ([0, 1, 2].filter (fun k => (s.port k).link == .up)).foldl
      (fun s p => s.sendOn (s.bcnQueue p) p (s.beaconTo 8 q.1)) s) (s.beaconServed (s.beaconIdx s.now))) := by
  change execBeaconSend s = _
  rw [execBeaconSend, if_neg (by simp [hsrc, hnew])]
  extract_lets per l fab u
  have hl : l = s.fab.followers := hall
  have hu : u = s.beaconServed (s.beaconIdx s.now) := by simp only [u, fab, hl, State.beaconServed]
  rw [hl, hu]
  rfl

/-- Half a period after the beacon instant a follower asks its source (R568). -/
theorem exec_echoReqSend {p half : Nat} (hen : s.srcEnabled 3 = true) (hlive : s.replayed = false)
    (hhalf : half = s.regBits Reg.TIM_BCN_CFG 24 16 * 98304 / 100) (hnow : half ≤ s.now) (hnew : s.beaconIdx (s.now - half) ≠ s.fab.echoK) (hp : p < 3)
    (hplanes : [0, 1, 2].filter (fun k => (s.port k).link == .up) = [p]) : exec .echoReqSend s = .next
      ((s.echoServed (s.beaconIdx (s.now - half))).queueFlits (s.bcnQueue p) (s.beaconTo 9 s.beaconNode)) := by
  subst hhalf
  change execEchoReqSend s = _
  have hsend := State.sendOn_up (s := s.echoServed (s.beaconIdx (s.now - s.regBits Reg.TIM_BCN_CFG 24 16 * 98304 / 100))) hp hplanes
    (fun u => u.beaconTo 9 u.beaconNode)
  rw [execEchoReqSend, if_neg (by simp [hen, hlive, hnow, hnew])]
  exact congrArg Host.Outcome.next hsend

end

/-! ### The RATC (R543, R582, R725) -/

/-- The state in which a command of `FAB_RATC_CMD` acts: its write is logged. -/
def State.ratcCmd (s : State) (v : Nat) : State := s.logIn 5 0x04 pf0 (BitVec.ofNat 64 (Reg.FAB_RATC_CMD + 2 * 2 ^ 48)) (leBytes 4 v)

section
variable {s : State} {v : Nat}

theorem State.ratcCmd_fab : (s.ratcCmd v).fab = s.fab := State.logIn_fab ..

theorem State.ratcCmd_staged : (s.ratcCmd v).staged = s.staged := by
  have h0 : (s.ratcCmd v).reg Reg.FAB_RATC_W0 = s.reg Reg.FAB_RATC_W0 := State.logIn_reg_ne _ _ _ _ _ _ (by decide)
  have h1 : (s.ratcCmd v).reg Reg.FAB_RATC_W1 = s.reg Reg.FAB_RATC_W1 := State.logIn_reg_ne _ _ _ _ _ _ (by decide)
  rw [State.staged, h0, h1]
  rfl

theorem State.ratcCmd_ratcAt (job cls granule : Nat) : (s.ratcCmd v).ratcAt job cls granule = s.ratcAt job cls granule := by
  rw [State.ratcAt, State.ratcCmd_fab]
  rfl

/-- The result that a command of the RATC leaves. -/
theorem State.setReg_result (u : State) {n : Nat} (hn : n < 2 ^ 64) : (u.setReg Reg.FAB_RATC_RESULT n).reg Reg.FAB_RATC_RESULT = n := by
  rw [State.setReg_reg, Nat.mod_eq_of_lt hn]

/-- A place of the table is free where no valid entry stands. -/
def State.ratcFree (s : State) (i : Nat) : Bool := match s.fab.ratc.find i with | none => true | some k => !k.valid

/-- The places that an entry can take (R542). -/
def Ratc.places (e : Ratc) : List Nat := (List.range 8).map (fun w => 8 * ratcSet e.job e.cls e.granule + w)

theorem State.ratcFree_eq_false {i : Nat} (h : (match s.fab.ratc.find i with | none => false | some k => k.valid) = true) : s.ratcFree i = false := by
  rw [State.ratcFree]
  cases hf : s.fab.ratc.find i with
  | none => rw [hf] at h; cases h
  | some k => rw [hf] at h; exact (congrArg (!·) h :)

/-- The state with an entry in a place of the table. -/
def State.ratcPlace (s : State) (i : Nat) (e : Ratc) : State := { s with fab := { s.fab with ratc := s.fab.ratc.set i e } }

/-- The state with an entry out of its place, its removal under way. -/
def State.ratcTake (s : State) (i : Nat) (e : Ratc) : State := { s with fab := { s.fab with ratc := s.fab.ratc.del i, removing := some (i, e) } }

theorem State.ratcCmd_free : (s.ratcCmd v).ratcFree = s.ratcFree := by
  funext i
  rw [State.ratcFree, State.ratcCmd_fab]
  rfl

theorem State.ratcCmd_staged_places : (s.ratcCmd v).staged.places.find? (s.ratcCmd v).ratcFree = s.staged.places.find? s.ratcFree := by
  rw [State.ratcCmd_staged, State.ratcCmd_free]

theorem State.ratcCmd_staged_at : (s.ratcCmd v).ratcAt (s.ratcCmd v).staged.job (s.ratcCmd v).staged.cls (s.ratcCmd v).staged.granule =
    s.ratcAt s.staged.job s.staged.cls s.staged.granule := by
  rw [State.ratcCmd_ratcAt, State.ratcCmd_staged]

section
variable (hlive : s.replayed = false)
include hlive

section
variable {o : Option Nat} (hat : s.ratcAt s.staged.job s.staged.cls s.staged.granule = o)
include hat

/-- An entry that is held is not inserted again. -/
theorem exec_ratcInsert_held (ho : o.isSome = true) : exec .ratcInsert s = .next ((s.ratcCmd 1).setReg Reg.FAB_RATC_RESULT 5) :=
  congrArg Host.Outcome.next ((State.bar2_eq _ _ _ _ _ hlive).trans (if_pos ((State.ratcCmd_staged_at.trans hat).symm ▸ ho)))

/-- Else the first free place of the eight decides (R582). -/
theorem exec_ratcInsert_full (ho : o = none) (hplace : s.staged.places.find? s.ratcFree = none) :
    exec .ratcInsert s = .next ((s.ratcCmd 1).setReg Reg.FAB_RATC_RESULT 3) := by
  have hno : ¬ o.isSome = true := by simp [ho]
  refine congrArg Host.Outcome.next ((State.bar2_eq _ _ _ _ _ hlive).trans ((if_neg ((State.ratcCmd_staged_at.trans hat).symm ▸ hno)).trans ?_))
  split
  · rfl
  · next i hfind => cases hfind.symm.trans (State.ratcCmd_staged_places.trans hplace)

theorem exec_ratcInsert_placed {i : Nat} (ho : o = none) (hplace : s.staged.places.find? s.ratcFree = some i) :
    exec .ratcInsert s = .next (((s.ratcCmd 1).ratcPlace i { s.staged with w0 := s.staged.w0 ||| 1 }).setReg Reg.FAB_RATC_RESULT (1 + i * 16)) := by
  have hno : ¬ o.isSome = true := by simp [ho]
  refine congrArg Host.Outcome.next ((State.bar2_eq _ _ _ _ _ hlive).trans ((if_neg ((State.ratcCmd_staged_at.trans hat).symm ▸ hno)).trans ?_))
  split
  · next hfind => cases hfind.symm.trans (State.ratcCmd_staged_places.trans hplace)
  · next j hfind =>
    cases hfind.symm.trans (State.ratcCmd_staged_places.trans hplace)
    rw [← State.ratcCmd_staged (s := s) (v := 1)]
    rfl

/-- An entry that does not stand cannot be removed. -/
theorem exec_ratcRemove_none (ho : o = none) : exec .ratcRemove s = .next ((s.ratcCmd 2).setReg Reg.FAB_RATC_RESULT 9) := by
  refine congrArg Host.Outcome.next ((State.bar2_eq _ _ _ _ _ hlive).trans ?_)
  extract_lets e
  split
  · rfl
  · next i hsome => cases hsome.symm.trans (State.ratcCmd_staged_at.trans (hat.trans ho))

/-- Of an entry that stands the owner decides: what the radio service or the firmware holds stays (R725). -/
theorem exec_ratcRemove_some {i : Nat} {k : Ratc} (ho : o = some i) (hk : s.fab.ratc.find i = some k) : exec .ratcRemove s = .next (
    if k.owner = 0x400 ∨ k.owner = 0x401 then (s.ratcCmd 2).setReg Reg.FAB_RATC_RESULT 9
    else ((s.ratcCmd 2).ratcTake i k).setReg Reg.FAB_RATC_RESULT (i * 16)) := by
  have hget : ∀ e, (s.ratcCmd 2).fab.ratc.get e i = k := fun e => by rw [State.ratcCmd_fab, Tab.get, hk]; rfl
  refine congrArg Host.Outcome.next ((State.bar2_eq _ _ _ _ _ hlive).trans ?_)
  extract_lets e
  split
  · next hnone => cases hnone.symm.trans (State.ratcCmd_staged_at.trans (hat.trans ho))
  · next j hsome =>
    cases hsome.symm.trans (State.ratcCmd_staged_at.trans (hat.trans ho))
    extract_lets old
    rw [show old = k from hget _]
    rfl

end

/-- A read gives the entry that `FAB_RATC_IDX` names. -/
theorem exec_ratcRead {k : Ratc} (hk : s.fab.ratc.find (s.regBits Reg.FAB_RATC_IDX 0 17) = some k) : exec .ratcRead s = .next
    ((((s.ratcCmd 3).setReg Reg.FAB_RATC_W0 k.w0.toNat).setReg Reg.FAB_RATC_W1 k.w1.toNat).setReg Reg.FAB_RATC_RESULT 1) := by
  have hidx : (s.ratcCmd 3).regBits Reg.FAB_RATC_IDX 0 17 = s.regBits Reg.FAB_RATC_IDX 0 17 := by
    rw [State.regBits, State.ratcCmd, State.logIn_get_ne _ _ _ _ _ _ (by decide), ← State.regBits]
  have hget : (s.ratcCmd 3).fab.ratc.get { w0 := 0, w1 := 0 } ((s.ratcCmd 3).regBits Reg.FAB_RATC_IDX 0 17) = k := by
    rw [State.ratcCmd_fab, hidx, Tab.get, hk]; rfl
  refine congrArg Host.Outcome.next ((State.bar2_eq _ _ _ _ _ hlive).trans ?_)
  extract_lets e
  rw [show e = k from hget]
  rfl

end

/-- A removal ends when no accepted request holds the entry any more. -/
theorem exec_ratcRemoveDone {i : Nat} {k : Ratc} (hrem : s.fab.removing = some (i, k)) : exec .ratcRemoveDone s = .next (
    if s.fab.inq.any (fun q => q.entries.contains k) then s
    else { s with fab := { s.fab with removing := none } }.flag Reg.FAB_RATC_RESULT 1) := by
  change execRatcRemoveDone s = _
  rw [execRatcRemoveDone, hrem]
  exact (apply_ite Host.Outcome.next _ _ _).symm

end

/-! ### What the commands give -/

theorem gives_ratcInsert {s : State} (hlive : s.replayed = false) :
    (∀ i, s.ratcAt s.staged.job s.staged.cls s.staged.granule = none → s.staged.places.find? s.ratcFree = some i →
      Gives .ratcInsert s (fun x => x.fab.ratc.find i = some { s.staged with w0 := s.staged.w0 ||| 1 } ∧
        x.reg Reg.FAB_RATC_RESULT = (1 + i * 16) % 2 ^ 64)) ∧
    ((s.ratcAt s.staged.job s.staged.cls s.staged.granule).isSome = true →
      Gives .ratcInsert s (fun x => x.fab = s.fab ∧ x.reg Reg.FAB_RATC_RESULT = 5)) ∧
    (s.ratcAt s.staged.job s.staged.cls s.staged.granule = none → (∀ i ∈ s.staged.places, s.ratcFree i = false) →
      Gives .ratcInsert s (fun x => x.fab = s.fab ∧ x.reg Reg.FAB_RATC_RESULT = 3)) := by
  refine ⟨fun i hat hplace => ?_, fun hheld => ?_, fun hat hfull => ?_⟩
  · exact .intro (exec_ratcInsert_placed hlive hat rfl hplace) ⟨Tab.find_set_self _ _ _, State.setReg_reg _ _ _⟩
  · exact .intro (exec_ratcInsert_held hlive rfl hheld) ⟨State.ratcCmd_fab, State.setReg_result _ (by decide)⟩
  · have hplace : s.staged.places.find? s.ratcFree = none := List.find?_eq_none.mpr fun i hi => by simp [hfull i hi]
    exact .intro (exec_ratcInsert_full hlive hat rfl hplace) ⟨State.ratcCmd_fab, State.setReg_result _ (by decide)⟩

theorem gives_ratcRemove {s : State} (hlive : s.replayed = false) :
    (∀ i k, s.ratcAt s.staged.job s.staged.cls s.staged.granule = some i → s.fab.ratc.find i = some k → k.owner ≠ 0x400 → k.owner ≠ 0x401 →
      Gives .ratcRemove s (fun x => x.fab.ratc.find i = none ∧ x.fab.removing = some (i, k) ∧ x.reg Reg.FAB_RATC_RESULT = i * 16 % 2 ^ 64)) ∧
    (∀ i k, s.ratcAt s.staged.job s.staged.cls s.staged.granule = some i → s.fab.ratc.find i = some k → (k.owner = 0x400 ∨ k.owner = 0x401) →
      Gives .ratcRemove s (fun x => x.fab = s.fab ∧ x.reg Reg.FAB_RATC_RESULT = 9)) ∧
    (s.ratcAt s.staged.job s.staged.cls s.staged.granule = none →
      Gives .ratcRemove s (fun x => x.fab = s.fab ∧ x.reg Reg.FAB_RATC_RESULT = 9)) := by
  refine ⟨fun i k hat hk h0 h1 => ?_, fun i k hat hk howner => ?_, fun hat => ?_⟩
  · have hexec := exec_ratcRemove_some hlive hat rfl hk
    rw [if_neg (by simp [h0, h1])] at hexec
    exact .intro hexec ⟨Tab.find_del_self _ _, rfl, State.setReg_reg _ _ _⟩
  · have hexec := exec_ratcRemove_some hlive hat rfl hk
    rw [if_pos howner] at hexec
    exact .intro hexec ⟨State.ratcCmd_fab, State.setReg_result _ (by decide)⟩
  · exact .intro (exec_ratcRemove_none hlive hat rfl) ⟨State.ratcCmd_fab, State.setReg_result _ (by decide)⟩

theorem gives_ratcRead {s : State} {k : Ratc} (hlive : s.replayed = false) (hk : s.fab.ratc.find (s.regBits Reg.FAB_RATC_IDX 0 17) = some k) :
    Gives .ratcRead s (fun x => x.reg Reg.FAB_RATC_W0 = k.w0.toNat ∧ x.reg Reg.FAB_RATC_W1 = k.w1.toNat ∧
      x.reg Reg.FAB_RATC_RESULT = 1 ∧ x.fab = s.fab) := by
  refine .intro (exec_ratcRead hlive hk) ⟨?_, ?_, State.setReg_result _ (by decide), State.ratcCmd_fab⟩
  · rw [State.setReg_reg_ne _ _ (by decide), State.setReg_reg_ne _ _ (by decide), State.setReg_reg, Nat.mod_eq_of_lt k.w0.isLt]
  · rw [State.setReg_reg_ne _ _ (by decide), State.setReg_reg, Nat.mod_eq_of_lt k.w1.isLt]

theorem gives_ratcRemoveDone {s : State} {i : Nat} {k : Ratc} (hrem : s.fab.removing = some (i, k)) :
    (s.fab.inq.any (fun q => q.entries.contains k) = false →
      Gives .ratcRemoveDone s (fun x => x.fab.removing = none ∧ x.reg Reg.FAB_RATC_RESULT = s.reg Reg.FAB_RATC_RESULT ||| 1)) ∧
    (s.fab.inq.any (fun q => q.entries.contains k) = true → Gives .ratcRemoveDone s (fun x => x = s)) := by
  have hexec := exec_ratcRemoveDone hrem
  refine ⟨fun hfree => ?_, fun hheld => ?_⟩
  · rw [if_neg (Bool.not_eq_true _ ▸ hfree)] at hexec
    exact .intro hexec ⟨rfl, State.flag_reg _ _ (by decide)⟩
  · rw [if_pos hheld] at hexec
    exact .intro hexec rfl

/-! ### The fields of a key (R541, R542) -/

theorem ratc_bounds (e : Ratc) (j c g : Nat) : ratcSet j c g < 2 ^ 14 ∧ e.job < 2 ^ 20 ∧ e.granule < 2 ^ 19 ∧ e.owner < 2 ^ 11 :=
  ⟨Nat.mod_lt _ (by decide), Nat.mod_lt _ (by decide), Nat.mod_lt _ (by decide), Nat.mod_lt _ (by decide)⟩

/-! ### What the messages give -/

@[simp] theorem State.queueFlits_fab (s : State) (q : Nat) (t : Txn) : (s.queueFlits q t).fab = s.fab :=
  have := Has.head
  (State.queueFlits_stays _ _ _ (Stays.refl [.front] s)).only.same .fab (by decide)

theorem gives_beaconSend_none {s : State} (hsrc : s.beaconSource = true) (hnone : s.fab.followers = []) (hnew : s.beaconIdx s.now ≠ s.fab.beaconK) :
    Gives .beaconSend s (fun x => x = s.beaconServed (s.beaconIdx s.now)) :=
  .intro (exec_beaconSend hsrc hnew (by simp [hnone])) (by rw [hnone]; rfl)

theorem gives_beaconSend_one {s : State} {p node : Nat} (hsrc : s.beaconSource = true) (hp : p < 3) (hone : s.fab.followers = [(node, s.now)])
    (hnew : s.beaconIdx s.now ≠ s.fab.beaconK) (hplanes : [0, 1, 2].filter (fun k => (s.port k).link == .up) = [p]) :
    Gives .beaconSend s (fun x => x = (s.beaconServed (s.beaconIdx s.now)).queueFlits (s.bcnQueue p) (s.beaconTo 8 node)) := by
  refine .intro (exec_beaconSend hsrc hnew (by simp [hone])) ?_
  rw [hone]
  exact State.sendOn_up (s := s.beaconServed (s.beaconIdx s.now)) hp hplanes (fun u => u.beaconTo 8 node)

theorem gives_fabEchoReq {s : State} {p : Nat} {t : Txn} (hp : p < 3) (hop : t.op = 9) (hlen : t.data.length = 16) (hdest : t.dest = s.self)
    (hsrc : s.beaconSource = true) (hup : (s.port p).live = true) (hroom : s.fab.followers.length < 4095) : Gives (.fabEchoReq p t) s (fun x =>
      x.fab.followers.find (t.src % 4096) = some s.now ∧
      x = { s with fab := { s.fab with followers := s.fab.followers.set (t.src % 4096) s.now } }.queueFlits (s.bcnQueue p) (s.echoResp t)) :=
  .intro (exec_fabEchoReq hp hop hlen hdest hsrc hup hroom) ⟨by rw [State.queueFlits_fab]; exact Tab.find_set_self _ _ _, rfl⟩

/-- Settles O40: time comes with beacons and echoes, and a table entry is placed, read and removed by the commands of the RATC. -/
theorem beaconsAndRatc : Obligations.BeaconsAndRatc := by
  unfold Obligations.BeaconsAndRatc
  refine ⟨⟨?beacon, ?echoReq, ?echoResp, ?offset, ?none, ?one, ?ask⟩, ?ratc, fun s i k => gives_ratcRemoveDone, ratc_bounds⟩
  case beacon =>
    intro s p t hp hop hlen hdest hlive hen hup
    refine ⟨fun hsrc => ?_, fun hsrc hzero => .intro (exec_fabBeacon_other hp hlive hdest hop hlen hen hup hsrc hzero) rfl⟩
    obtain ⟨u, hexec, hprop⟩ := exec_fabBeacon_selected hp hlive hdest hop hlen hen hup hsrc
    exact .intro hexec hprop
  case echoReq => exact fun s p t => gives_fabEchoReq
  case echoResp =>
    intro s p t t0 r t1 hp hop hlen hdest hsrc hlive ht1 hrx hecho hlow
    exact .intro (exec_fabEchoResp hp hop hlen hdest hsrc hlive ht1 hrx hecho hlow) rfl
  case offset =>
    intro s e hqual hrun
    refine ⟨fun hst hnear => ?_, fun hst hfar => ?_⟩ <;> rw [State.beaconOfs_bcn hqual hrun hst]
    · exact ⟨if_pos hnear, rfl⟩
    · exact if_neg (Nat.not_le.mpr hfar)
  case none => exact fun s => gives_beaconSend_none
  case one => exact fun s p node => gives_beaconSend_one
  case ask => exact fun s p half hen hlive hhalf hnow hnew hp hplanes => .intro (exec_echoReqSend hen hlive hhalf hnow hnew hp hplanes) rfl
  case ratc =>
    rintro s e hlive rfl
    obtain ⟨hplaced, hheld, hfull⟩ := gives_ratcInsert hlive
    obtain ⟨hgone, hstays, hnone⟩ := gives_ratcRemove hlive
    exact ⟨hplaced, hheld, fun hat hall => hfull hat fun i hi => State.ratcFree_eq_false (List.all_eq_true.mp hall i hi),
      hgone, hstays, hnone, fun k => gives_ratcRead hlive⟩

end Sys2Proof.Machine
end
